-- ==== Sys2Proof/Word.lean ====
section
/-! DEFINITION. The word type of the part's registers and its plainest arithmetic (02_control_model.md R38, R45). -/

namespace Sys2Proof

/-- A 32-bit register word (R38). -/
abbrev Word := BitVec 32

/-- One byte. -/
abbrev Byte := BitVec 8

/-- A table from natural keys to values, keys strictly rising. -/
abbrev KV (α : Type) := List (Nat × α)

/-- The word of a natural number, modulo 2^32. -/
def w32 (n : Nat) : Word := BitVec.ofNat 32 n

end Sys2Proof
end

