-- ==== Sys2Proof/Syntax.lean ====
section
/-! DEFINITION. The commands of the part, one constructor for each row of spec/opcode_table.json, with the operands
its sender gives. What the environment decides (a port that trained, a bit error met, a signature that verified) is an
operand of the command in which it happens. -/

namespace Sys2Proof

/-- The header of a received Snigus frame (14_channels_twin_herd.md R529): the plane, HERD_ID, the sender as the PEER
code of R557 (its position, plus 0x40 for side Y; in a twin 0 for role A and 1 for role B), its generation, SEQ, ACK. -/
structure FrameHdr where
  plane : Nat
  herd : Nat
  src : Nat
  gen : Nat
  seq : Nat
  ack : Nat
deriving DecidableEq, Repr


/-- What the outside gives a cold start (15_bringup_reset_licences.md R581, R583): the straps, the units that fail a step,
the synchroniser delays of the seam segments (entry 2 f east of field f, 2 f + 1 south; an unlisted one is 0), the two PCIE
LINK words after training, and the milliseconds from the release of PORST_N to READY. -/
structure BootFacts where
  bootSrc : Nat := 0
  role : Nat := 0
  pairs : List Nat := []
  rails : List Nat := []
  domains : List Nat := []
  plls : List Nat := []
  seams : List Nat := []
  memPorts : List Nat := []
  links : List Nat := []
  /-- sites that fail the scratchpad BIST, and the logic BIST -/
  sites : List Nat := []
  logic : List Nat := []
  routers : List Nat := []
  pcie0 : Nat := 0
  pcie1 : Nat := 0
  ms : Nat := 0
deriving DecidableEq, Repr

/-- The commands. -/
inductive Instr where
  /-- REGISTER_WRITE (R52). A write to a register that has no row of its own is validated and either sets the value or is rejected as a whole. -/
  | registerWrite (agent : Nat) (addr : Nat) (bytes : List Byte)
  /-- VIOLATION_ACCESS (R64). An access by `agent` to offset `addr` of BAR 0, or of BAR 2, that is a violation. -/
  | violationAccess (agent : Nat) (bar2 : Bool) (write : Bool) (addr : Nat)
  /-- READ_CLEAR (R48). A normal read of an RC register returns its value and clears it. -/
  | readClear (agent : Nat) (addr : Nat) (len : Nat)
  /-- ERR_CODE_CLEAR (R54). A write of 1 to ERR_CODE.VALID clears the recorded rejection and is never rejected while the unit is powered. -/
  | errCodeClear (agent : Nat) (page : Nat)
  /-- VIOL_INFO_CLEAR (R67). `agent` writes `data` to DEV.VIOL_INFO. -/
  | violInfoClear (agent : Nat) (data : Word)
  /-- APPLY (R59). A write of 1 to CTRL.APPLY validates the staged registers of a page as a set and copies them to their active registers in one cycle. -/
  | apply (agent : Nat) (page : Nat) (data : Word)
  /-- DIGEST_COMPLETE (R62). Of the page at BAR 0 offset `page`. -/
  | digestComplete (page : Nat)
  /-- LOCK_ACQUIRE (R74). `agent` reads LOCK_n. -/
  | lockAcquire (agent : Nat) (n : Nat)
  /-- LOCK_RELEASE (R76). `agent` writes `data` to LOCK_n. -/
  | lockRelease (agent : Nat) (n : Nat) (data : Word)
  /-- BREAK (R71). `agent` writes `data` to LOCK.BREAK. -/
  | breakLock (agent : Nat) (data : Word)
  /-- DBG_WINDOW_ACCESS (R81). Setting DBG.ACC_CTRL.GO starts a window access to a BAR 0 offset as agent 0x02, as a peek unless CONSUME is set. -/
  | dbgWindowAccess (agent : Nat) (data : Word)
  /-- DBG_WINDOW_DONE (R80). A debug window access completes, clearing GO and CONSUME and setting ACC_DATA and DONE_CODE. -/
  | dbgWindowDone
  /-- DBG_MEM_ACCESS (R83). An access to DBG.MEM_DATA reads or writes a scratchpad or accumulator word at MEM_SITE and MEM_ADDR and increments MEM_ADDR. -/
  | dbgMemAccess (agent : Nat) (data : Option Word)
  /-- DAP_ACCESS (R81). An access command through the JTAG debug access port reads or writes a BAR 0 offset as agent 0x02. -/
  | dapAccess (addr : Nat) (consume : Bool) (data : Option Word)
  /-- HALT_REQUEST (R84). A write of HALT_REQ stops the sequencer issuing at the next boundary, or defers the halt while it holds a lock or is in an atomic region. -/
  | haltRequest (agent : Nat) (hi : Bool) (data : Word)
  /-- RESUME_REQUEST (R84). A write of RESUME continues a halted sequencer from its next instruction. -/
  | resumeRequest (agent : Nat) (hi : Bool) (data : Word)
  /-- SEQ_HALTED (R84). Once the subscribed tiles complete broadcast work, the halting sequencer sets its HALTED bit and enters HALTED. -/
  | seqHalted (q : Nat)
  /-- DEFERRED_HALT (R85). A deferred halt takes effect as soon as the sequencer holds no lock and is outside every atomic region. -/
  | deferredHalt (q : Nat)
  /-- FORCED_HALT (R86). When 65,536 field cycles pass after a deferred halt request, the halt is forced, breaking locks and failing the beat. -/
  | forcedHalt (q : Nat)
  /-- SNAP_FIRE (R88). `agent` writes `data` to SNAP.FIRE. -/
  | snapFire (agent : Nat) (data : Word)
  /-- SNAP_LATCH (R89). A page latches its snapshot area when its time-base copy reaches T, or on late arrival of the trigger. -/
  | snapLatch (page : Nat) (late : Bool)
  /-- SPILL_COMPLETE (R94). The copy of a field's 1,157 snapshot areas into its trace buffer finishes and the snapshot ends. -/
  | spillComplete (f : Nat)
  /-- SPILL_RELEASE (R100). `agent` writes `data` to SPILL of field f. -/
  | spillRelease (f : Nat) (agent : Nat) (data : Word)
  /-- TRACE_CTRL_WRITE (R97). `agent` writes `data` to TR_CTRL of field f. -/
  | traceCtrlWrite (f : Nat) (agent : Nat) (data : Word)
  /-- TRACE_ENTRY_WRITE (R99). Field f writes its oldest queued entry. -/
  | traceEntryWrite (f : Nat)
  /-- TRACE_GAP (R99). Room returned in the trace queue of field f. -/
  | traceGap (f : Nat)
  /-- TRACE_READ (R97). A read of TR_RD_DATA of field f. -/
  | traceRead (f : Nat)
  /-- BROADCAST_ARRIVAL (R216). A broadcast CTI instruction or DCW word reaches the controller of every subscribed tile 16 cycles after issue. -/
  | broadcastArrival (q : Nat)
  /-- TILE_DISPATCH (R111). The tile controller dispatches an instruction from its input buffer into its engine queue, checking it at dispatch. -/
  | tileDispatch (site : Nat)
  /-- HOLD_SIGNAL (R217). A tile's HOLD, asserted at 8 buffered instructions, reaches its sequencer and stops CTI issue. -/
  | holdSignal (site : Nat)
  /-- ENGINE_START (R115). An instruction at the head of its engine queue starts, popping its waited classes and reserving its signal slot. -/
  | engineStart (site : Nat) (eng : Nat) (strikes : List Nat)
  /-- ENGINE_COMPLETE (R116). An instruction completes and its reserved slot receives its descriptor. -/
  | engineComplete (site : Nat) (eng : Nat)
  /-- TOKEN_TIMEOUT (R120). An instruction stuck at the head of its queue for TOK_TIMEOUT cycles stops the engine and sets TOKEN_STALL. -/
  | tokenTimeout (site : Nat) (eng : Nat)
  /-- SPAD_ECC_WRITEBACK (R138). A line corrected on read is written back in the bank's next cycle free of port requests. -/
  | spadEccWriteback (site : Nat)
  /-- SCRUB_STEP (R140). A bank scrubber reads its next row in a cycle free of port requests and writes back a corrected line. -/
  | scrubStep (site : Nat) (bank : Nat) (ce : Bool) (ue : Option Nat)
  /-- SCRUB_FORCED (R140). A scrubber that has not advanced for 1,024 cycles takes one cycle at the highest priority. -/
  | scrubForced (site : Nat) (bank : Nat) (ce : Bool) (ue : Option Nat)
  /-- BINDING_UPDATE (R122). A binding-update CTRL packet sets a tile's BIND or NBR_d in the cycle of its arrival. -/
  | bindingUpdate (site : Nat)
  /-- NBR_GRANT (R127). A window credit message reaches the neighbour, which records the window geometry and adds credits to OUTWIN. -/
  | nbrGrant (site : Nat)
  /-- NBR_WR (R127). A neighbour store data packet is checked for generation and granted chunk and written by NS. -/
  | nbrWr (site : Nat)
  /-- NBR_DONE (R127). A store completion returns its chunks to IDLE and fills the window's class. -/
  | nbrDone (site : Nat)
  /-- NBR_REFUSE (R129). A window refusal reaching the writer aborts its store. -/
  | nbrRefuse (site : Nat)
  /-- NBR_RD (R123). A neighbour load request is served by the neighbour's NS, returning whole lines. -/
  | nbrRd (site : Nat)
  /-- NBR_RESP (R124). Neighbour load data arrives and is written for the requesting load. -/
  | nbrResp (site : Nat)
  /-- NBR_TIMEOUT (R131). A neighbour request unanswered for 4,096 cycles aborts its instruction and sets NBR_TIMEOUT. -/
  | nbrTimeout (site : Nat)
  /-- MSG (R134). A message arriving at a receive queue is written at the tail slot and fills the queue's class. -/
  | msgArrival (site : Nat)
  /-- CREDIT (R135). A credit return adds one credit to the named send-credit entry. -/
  | creditArrival (site : Nat)
  /-- MX_PASS_START (R155). A matrix pass starts once its predecessor, its bank token and the previous drain allow it. -/
  | mxPassStart (site : Nat) (slip : Nat)
  /-- MX_DRAIN (R163). A pass drains its bank row by row, converting to OUT_FMT, returns the bank token and compares its check values. -/
  | mxDrain (site : Nat)
  /-- ARRAY_GATE (R171). The array clock is gated off in the 65th consecutive idle cycle. -/
  | arrayGate (site : Nat)
  /-- SR_SEED_WRITE (R206). A write of SR_SEED_HI makes the seed pair current and sets both draw counters to 0. -/
  | srSeedWrite (site : Nat) (agent : Nat) (data : Word)
  /-- SEQ_COMMAND_ENQUEUE (R226). A command arriving from the stream manager on VC_0 is placed in the sequencer's command queue. -/
  | seqCommandEnqueue (q : Nat)
  /-- SEQ_COMMAND_START (R227). A queued command starts, incrementing CMD_COUNT and fetching its entry. -/
  | seqCommandStart (q : Nat)
  /-- SEQ_ISSUE (R216). The sequencer fetches, checks and issues one CTI instruction or DCW word per cycle. -/
  | seqIssue (q : Nat) (ecc : Nat)
  /-- TILE_FAULT_REPORT (R261). A tile's fault report reaches its sequencer, which stops issuing the command and enters ABORTING. -/
  | tileFaultReport (q : Nat)
  /-- SEQ_ABORT_END (R262). ABORTING ends, recording the fault, breaking held locks and reporting the command faulted. -/
  | seqAbortEnd (q : Nat)
  /-- SEQ_COMMAND_COMPLETE (R229). Every instruction of a command has completed in every tile, and the sequencer reports completion with TAG. -/
  | seqCommandComplete (q : Nat)
  /-- IMEM_ACCESS (R220). An access to SEQ.IMEM_DATA reads or writes an instruction bank word and increments IMEM_ADDR. -/
  | imemAccess (q : Nat) (agent : Nat) (data : Option Word)
  /-- IMEM_DMA_GO (R221). A write of DMA_CTRL.GO starts a copy from external memory into an inactive instruction bank. -/
  | imemDmaGo (q : Nat) (agent : Nat) (data : Word)
  /-- IMEM_DMA_DONE (R221). An instruction bank copy ends, setting MODE and LEN or ending with LEN 0 and DMA_ERR. -/
  | imemDmaDone (q : Nat) (ue : Bool)
  /-- BANK_SWAP_REQUEST (R222). A write of BANK_CTRL.SWAP_REQ swaps banks at once or sets SWAP_PENDING. -/
  | bankSwapRequest (q : Nat) (agent : Nat) (data : Word)
  /-- BANK_SWAP_PENDING_APPLY (R223). A pending swap takes effect in the cycle after the END of the command in progress. -/
  | bankSwapPendingApply (q : Nat)
  /-- LOCK_RETRY (R252). An LKACQ that did not acquire repeats its read every 64 cycles. -/
  | lockRetry (q : Nat)
  /-- LOCK_TIMEOUT (R252). An LKACQ that has not acquired within 65,536 cycles faults the command. -/
  | lockTimeout (q : Nat)
  /-- SYNC_RESUME (R240). Issue continues 8 cycles after every subscribed tile of a SYNC becomes idle. -/
  | syncResume (q : Nat)
  /-- NOP (R240). The sequencer executes NOP with no effect. -/
  | nop (q : Nat)
  /-- END (R229). END ends the command in the sequencer. -/
  | endCommand (q : Nat)
  /-- JMP (R240). JMP continues fetch at TARGET. -/
  | jmp (q : Nat)
  /-- LOOP (R240). LOOP decrements a loop counter and jumps while it is not 0. -/
  | loop (q : Nat)
  /-- LCSET (R240). LCSET sets a loop counter from an immediate or a command argument. -/
  | lcset (q : Nat)
  /-- ATOM_BEGIN (R250). ATOM_BEGIN opens an atomic region. -/
  | atomBegin (q : Nat)
  /-- ATOM_END (R250). ATOM_END closes the atomic region. -/
  | atomEnd (q : Nat)
  /-- SYNC (R240). SYNC makes issue wait until every subscribed tile is idle. -/
  | sync (q : Nat)
  /-- LKACQ (R252). LKACQ reads LOCK_n as the sequencer's agent to acquire it. -/
  | lkacq (q : Nat)
  /-- LKREL (R264). LKREL writes the release word of a held lock and removes it from LOCKS_HELD. -/
  | lkrel (q : Nat)
  /-- BRB (R240). BRB jumps when the last LKACQ returned BROKEN_ACQUIRED. -/
  | brb (q : Nat)
  /-- HINT (R462). HINT requests a voltage boost for the sequencer's field for SPAN × 64 cycles. -/
  | hint (q : Nat)
  /-- SLI (R240). SLI loads a sign-extended immediate into a scalar. -/
  | sli (site : Nat)
  /-- SLIH (R240). SLIH sets the upper bits of a scalar. -/
  | slih (site : Nat)
  /-- SALU (R240). SALU performs a scalar arithmetic or logic operation. -/
  | salu (site : Nat)
  /-- SADDI (R240). SADDI adds a sign-extended immediate to a scalar. -/
  | saddi (site : Nat)
  /-- PCMP (R240). PCMP sets a predicate from a scalar comparison. -/
  | pcmp (site : Nat)
  /-- PLOG (R240). PLOG combines predicates logically. -/
  | plog (site : Nat)
  /-- SYS (R240). SYS reads tile or command identity into a scalar. -/
  | sys (site : Nat)
  /-- AGSETI (R235). AGSETI sets an address-generator field at dispatch. -/
  | agseti (site : Nat)
  /-- AGSET (R235). AGSET sets an address-generator field from a scalar at completion. -/
  | agset (site : Nat)
  /-- TCFG (R240). TCFG writes a scalar to a writable TILE page register, checked under R145. -/
  | tcfg (site : Nat)
  /-- GRANT (R127). GRANT marks the next chunks of a write window GRANTED and sends credits to the neighbour. -/
  | grant (site : Nat)
  /-- RELEASE (R135). RELEASE frees head slots of a receive queue and returns credits to their senders. -/
  | release (site : Nat)
  /-- COPY (R240). COPY copies lines within the scratchpad. -/
  | copy (site : Nat)
  /-- NLD (R123). NLD loads lines from a neighbour's scratchpad. -/
  | nld (site : Nat)
  /-- MXM (R161). MXM runs a folded matrix product from a matrix descriptor. -/
  | mxm (site : Nat)
  /-- MXF (R165). MXF runs a timed list of single-block passes under EXACT. -/
  | mxf (site : Nat)
  /-- VLD (R240). VLD loads 64 words into a vector register. -/
  | vld (site : Nat)
  /-- VST (R240). VST stores the guard lanes of a vector register. -/
  | vst (site : Nat)
  /-- VALU (R240). VALU performs a lane-wise vector operation. -/
  | valu (site : Nat)
  /-- VFMA (R240). VFMA performs a fused multiply-add per lane. -/
  | vfma (site : Nat)
  /-- VCMP (R240). VCMP sets predicate lanes from a vector comparison. -/
  | vcmp (site : Nat)
  /-- VFN (R241). VFN computes EXP2, LOG2, RCP or RSQRT per lane. -/
  | vfn (site : Nat)
  /-- VRED (R241). VRED reduces the guard lanes into a scalar in a fixed tree. -/
  | vred (site : Nat)
  /-- VBCAST (R240). VBCAST writes a scalar into every guard lane. -/
  | vbcast (site : Nat)
  /-- VEXT (R240). VEXT extracts one lane into a scalar. -/
  | vext (site : Nat)
  /-- SLD (R240). SLD loads two words into a scalar. -/
  | sld (site : Nat)
  /-- SST (R240). SST stores a scalar as two words. -/
  | sst (site : Nat)
  /-- VSOP (R240). VSOP applies a vector operation over a stream of words. -/
  | vsop (site : Nat)
  /-- VSFN (R240). VSFN applies a vector function over a stream of words. -/
  | vsfn (site : Nat)
  /-- VCVT (R242). VCVT converts a count of elements between formats, consuming draws when stochastic. -/
  | vcvt (site : Nat)
  /-- VQMX (R208). VQMX quantises FP32 words to an MX format with a scale per block. -/
  | vqmx (site : Nat)
  /-- SEND (R133). SEND takes a send credit and sends one message on VC_2. -/
  | send (site : Nat)
  /-- NST (R128). NST stores chunks into a neighbour's granted window and sends a completion. -/
  | nst (site : Nat)
  /-- REDC (R291). REDC injects a reduction contribution on VC_1. -/
  | redc (site : Nat)
  /-- EREQ (R371). EREQ checks a request block and sends edge-port requests split at 1 KiB boundaries. -/
  | ereq (site : Nat)
  /-- DCW_WORD (R247). A DCW word takes effect in every subscribed tile, driving array injection, preload, drain and generators. -/
  | dcwWord (q : Nat) (cycles : Nat)
  /-- ROUTER_PACKET (R281). A router receives a packet on a mesh input and forwards it by dimension order or detour, or discards it. -/
  | routerPacket (site : Nat) (port : Nat) (vc : Nat) (err : Nat)
  /-- PACKET_EJECTION (R286). A packet reaching its destination router is checked for fence and generations before ejection. -/
  | packetEjection (site : Nat)
  /-- BINDING_CHANGE (R282). A binding-change CTRL packet on tree 0 updates a router's or edge port's binding table on arrival. -/
  | bindingChange (node : Nat)
  /-- BCAST (R289). A broadcast packet is copied to OUT_MASK ports and delivered locally into the landing buffer. -/
  | bcastArrival (site : Nat) (port : Nat)
  /-- RED (R294). A reduction contribution arrives at a router, joins its instance and, when complete, is folded and sent on. -/
  | redArrival (site : Nat) (port : Nat)
  /-- RED_TIMEOUT (R299). A reduction instance not complete within RED_TIMEOUT cycles is aborted with a poisoned zero output. -/
  | redTimeout (site : Nat) (id : Nat)
  /-- SEAM_UNLOCK (R305). A seam segment unlocks, discarding flits in its synchronisers. -/
  | seamUnlock (f : Nat) (south : Bool)
  /-- SEAM_RELOCK (R305). A seam segment relocks at its published latency. -/
  | seamRelock (f : Nat) (south : Bool)
  /-- SEAM_RELOCK_TIMEOUT (R305). A seam segment that does not relock within 10 µs is failed. -/
  | seamRelockTimeout (f : Nat) (south : Bool)
  /-- RT_DATA_ACCESS (R313). An access to FIELD.RT_DATA reads or writes a router table word and advances RT_ADDR. -/
  | rtDataAccess (f : Nat) (agent : Nat) (data : Option Word)
  /-- EDGE_REQ (R308). An edge port receives a request, checks its generation and queues it. -/
  | edgeReq (code : Nat)
  /-- DESCRIPTOR_WRITE (R316). A write to a stream descriptor is applied and checked word by word. -/
  | descriptorWrite (agent : Nat) (n : Nat) (w : Nat) (data : Word)
  /-- OPEN (R320). STRM.CMD OPEN validates a FREE descriptor, increments GEN and initialises the commit area. -/
  | openStream (agent : Nat) (n : Nat)
  /-- OPEN_DONE (R319). Commit-area initialisation of an OPEN completes and STRM.STATUS.BUSY clears. -/
  | openDone
  /-- CLOSE (R319). STRM.CMD CLOSE makes a stream FREE, or CLOSING when a beat is in flight. -/
  | closeStream (agent : Nat) (n : Nat)
  /-- PAUSE (R319). STRM.CMD PAUSE pauses a stream or sets PAUSE_PEND. -/
  | pauseStream (agent : Nat) (n : Nat)
  /-- RESUME (R319). STRM.CMD RESUME returns a paused stream to scheduling. -/
  | resumeStream (agent : Nat) (n : Nat)
  /-- STRM_CREDIT (R319). STRM.CMD CREDIT adds ARG to the stream's CREDITS. -/
  | strmCredit (agent : Nat) (n : Nat) (arg : Nat)
  /-- STRM_RELEASE (R319). STRM.CMD RELEASE performs a release of the stream now. -/
  | strmRelease (agent : Nat) (n : Nat)
  /-- CLEAR (R319). STRM.CMD CLEAR makes a FAULTED stream PAUSED with a pending replay. -/
  | clearStream (agent : Nat) (n : Nat)
  /-- PROG_DATA_ACCESS (R323). An access to STRM.PROG_DATA reads or writes a beat program word, the program taking effect at word 49. -/
  | progDataAccess (agent : Nat) (data : Option Word)
  /-- RING_PROD_WRITE (R327). The producer writes RING_PROD to advance an input ring. -/
  | ringProdWrite (r : Nat) (agent : Nat) (data : Word)
  /-- BEAT_ISSUE (R331). When sequencers have room the stream manager selects the next stream and issues its beat or replay. -/
  | beatIssue
  /-- BEAT_FAIL_REPORT (R334). A report of an error withholding commit marks the beat failed. -/
  | beatFailReport
  /-- BEAT_ABORT_DONE (R342). Every sequencer of a failed beat is IDLE and the replay or FAULTED outcome is decided. -/
  | beatAbortDone (stream : Nat)
  /-- BEAT_COMMIT (R337). A completed unfailed beat writes its slot header and commit record and updates the descriptor in one cycle. -/
  | beatCommit (stream : Nat)
  /-- DEADLINE_REACHED (R332). A release's deadline is reached and checked once for a miss. -/
  | deadlineReached (n : Nat)
  /-- SEL_REQUEST (R348). A selection request delivery reaches a field's summary selector and is queued or refused. -/
  | selRequest (f : Nat)
  /-- SEL_SCAN_DONE (R352). A selector finishes scoring candidates and injects its TOPK contribution. -/
  | selScanDone (f : Nat)
  /-- MEM_REQUEST (R373). A memory port serves a request part line by line, correcting or poisoning lines and acknowledging writes. -/
  | memRequest (m : Nat) (k : Nat) (ce : List Nat) (ue : List Nat)
  /-- EDGE_RESP (R372). A response or acknowledgement lands at the tile and, when the last part lands, fills the request's class. -/
  | edgeResp (site : Nat)
  /-- EREQ_TIMEOUT (R374). A request part without response within 65,536 cycles completes with POISON. -/
  | ereqTimeout (site : Nat) (id : Nat)
  /-- HOST_MEM_ACCESS (R375). A host read or write through BAR 2 is performed line by line. -/
  | hostMemAccess (addr : Nat) (len : Nat) (data : Option (List Byte)) (poison : Bool) (errs : KV Nat)
  /-- MEM_SCRUB_STEP (R381). A memory port scrubber reads a line in an idle or forced slot. -/
  | memScrubStep (m : Nat) (err : Nat)
  /-- PAGE_RETIRE_DONE (R382). A page copy to a spare completes, the page is remapped and held requests are released. -/
  | pageRetireDone (m : Nat)
  /-- CORRECTION_COUNT_RESET (R382). Page correction counts reset at the end of a scrub pass, or every PERIOD_H hours when scrubbing is off. -/
  | correctionCountReset (m : Nat)
  /-- HBM_TEMP_POLL (R383). Each port reads its stack temperature every 1 ms and changes refresh and throttle state. -/
  | hbmTempPoll (m : Nat) (temp : Nat)
  /-- MEM_PORT_FAIL (R386). A port reporting unrecoverable interface errors is fenced and marked FAILED. -/
  | memPortFail (m : Nat)
  /-- TB_COPY_CHECK (R392). Pewter compares every TB copy with the master once per millisecond. -/
  | tbCopyCheck (out : List Nat)
  /-- TIME_CAPTURE (R398). A read of TIME.NOW_NS captures the matching seconds, frame, phase and TB. -/
  | timeCapture
  /-- TIME_SET_GO (R399). `agent` writes `data` to TIME.SET_CTRL. -/
  | timeSetGo (agent : Nat) (data : Word)
  /-- TAI_ROLLOVER (R400). A TAI second roll-over occurs, applying an AT_BOUNDARY or moved set. -/
  | taiRollover
  /-- SERVO_HOLDOVER (R395). Missing Sync messages, edges or updates move the TAI servo to HOLDOVER. -/
  | servoHoldover
  /-- FSYNC_EDGE (R407). An FSYNC edge is stamped and, by cadence state, causes a boundary, a restart of phase, or is ignored. -/
  | fsyncEdge
  /-- PPS_EDGE (R394). A PPS_IN edge marks a second boundary for the TAI servo. -/
  | ppsEdge
  /-- SNAP_PIN_EDGE (R88). An edge on an event pin with the snapshot function triggers a snapshot. -/
  | snapPinEdge
  /-- FRAME_WINDOW_CLOSE (R407). The acceptance window closes without an edge, causing a boundary and a missed-edge state change. -/
  | frameWindowClose
  /-- INTERNAL_BOUNDARY (R402). With INTERNAL source a boundary is caused every NOM_PERIOD. -/
  | internalBoundary
  /-- FRAME_BOUNDARY (R405). A new frame begins one tick after its cause, incrementing FRAME and restarting phase. -/
  | frameBoundary
  /-- ADD (R413). SCHED_CMD ADD places an entry from SCHED_W0 to SCHED_W3 at the lowest free index. -/
  | schedAdd (agent : Nat)
  /-- DELETE (R413). SCHED_CMD DELETE frees a schedule entry. -/
  | schedDelete (agent : Nat) (e : Nat)
  /-- SCHED_ISSUE (R414). At its frame's start an entry's instant is computed and it is issued to its target, ahead for SNAPSHOT and FREQ. -/
  | schedIssue (e : Nat)
  /-- FREQ (R434). A FREQ entry fires as a die-wide frequency change request. -/
  | freqEntry (e : Nat)
  /-- CONFIG_APPLY (R59). A CONFIG_APPLY entry fires as an apply point of the named page. -/
  | configApplyEntry (e : Nat)
  /-- BANK_SWAP (R224). A BANK_SWAP entry swaps the named sequencers between the same pair of beats. -/
  | bankSwapEntry (e : Nat)
  /-- SCHED_STREAM_RELEASE (R412). A STREAM_RELEASE entry releases every eligible stream of its range in one cycle. -/
  | schedStreamRelease (e : Nat)
  /-- SNAPSHOT (R88). A SNAPSHOT entry triggers a snapshot at its instant. -/
  | snapshotEntry (e : Nat)
  /-- POWER_HINT (R462). A POWER_HINT entry requests a boost for every field for DURATION_US. -/
  | powerHintEntry (e : Nat)
  /-- FIRE_LOG_POP (R419). A read of CAD.FIRE_LOG pops the oldest firing entry. -/
  | fireLogPop
  /-- CHG_REQ (R434). `agent` writes `data` to CLK.CHG_REQ. -/
  | chgReq (agent : Nat) (data : Word)
  /-- CHG_VOLT_CHECK (R435). At T_s − 20 µs of an upward change. -/
  | chgVoltCheck
  /-- CHG_DISTRIBUTE (R435). At T_s − 2 µs. -/
  | chgDistribute
  /-- SEAM_HOLD (R306). At T_s − 16 cycles. -/
  | seamHold
  /-- CLOCK_STOP (R435). At T_s; `stuck` names the seam segments whose synchronisers were not empty at T_s + 16 ticks: 2 f for the east seam of field f, 2 f + 1 for its south seam. -/
  | clockStop (stuck : List Nat)
  /-- CLOCK_RESTART (R435). At T_r. -/
  | clockRestart
  /-- RAIL_CONFIRM (R449). The AVSBus read of rail r returns `mv` mV. -/
  | railConfirm (r : Nat) (mv : Nat)
  /-- Q_FIELD_WRITE (R438). `agent` writes `data` to CLK.Q_FIELD. -/
  | qFieldWrite (agent : Nat) (data : Word)
  /-- PLL_UNLOCK (R439). The PLL of field f. -/
  | pllUnlock (f : Nat)
  /-- PLL_RELOCK_DONE (R439). The relock of field f succeeded or failed. -/
  | pllRelockDone (f : Nat) (ok : Bool)
  /-- REFCLK_LOSS (R440). REFCLK is lost for 4 µs, gating every mesh, stopping TB and reporting the module FAILED. -/
  | refclkLoss
  /-- REFCLK_RETURN (R440). REFCLK present for 10 ms relocks every PLL, restarts TB and starts a compute reset. -/
  | refclkReturn
  /-- AVS_POLL (R448). Rail r: whether its transactions succeeded, its voltage in mV, its current in quarter amperes, the phases its bitmap shows failed open and those without sense. -/
  | avsPoll (r : Nat) (ok : Bool) (mv : Nat) (qa : Nat) (failed : List Nat) (lost : List Nat)
  /-- PMBUS_POLL (R448). Rail r: whether its transactions succeeded, its voltage in mV, its current in quarter amperes, whether its temperature is above its warning. -/
  | pmbusPoll (r : Nat) (ok : Bool) (mv : Nat) (qa : Nat) (hot : Bool)
  /-- COMM_TIMEOUT (R450). COMM of rail r has been set for 100 µs. -/
  | commTimeout (r : Nat)
  /-- SMBALERT (R447). An assertion of PMB_ALERT_N is answered with the Alert Response Address. -/
  | smbalert
  /-- RAIL_FAULT (R475). Rail r: 0 over-voltage, 1 under-voltage, 2 over-current; the codes of the ports that a VSERDES or VHBM fault affects. -/
  | railFault (r : Nat) (kind : Nat) (ports : List Nat)
  /-- DOM_CTRL (R452). `agent` writes `data` to PWR.DOM_CTRL. -/
  | domCtrl (agent : Nat) (data : Word)
  /-- DOMAIN_SWITCH_DONE (R453). A domain finishes switching; a field-service domain then relocks its PLL and realigns its TB copy. -/
  | domainSwitchDone
  /-- CEIL_EVAL (R455). Of field f. -/
  | ceilEval (f : Nat)
  /-- EST_CALIBRATE (R457). Once per second Pewter calibrates the current-estimate coefficients. -/
  | estCalibrate
  /-- DROOP_TRIP (R459). A detector of domain `dom`. -/
  | droopTrip (dom : Nat)
  /-- DROOP_STRETCH_END (R460). Field f, after `cycles` stretched cycles. -/
  | droopStretchEnd (f : Nat) (cycles : Nat)
  /-- STRETCH_ESCALATION (R461). Of field f. -/
  | stretchEscalation (f : Nat)
  /-- DROOP_PERSIST_CHECK (R461). Field f: whether detectors are still tripped. -/
  | droopPersistCheck (f : Nat) (still : Bool)
  /-- HINT_EXPIRE (R462). The hint of sequencer `src`, or of schedule entry `src` − 64. -/
  | hintExpire (src : Nat)
  /-- POWER_SAMPLE (R463). Every 10 µs the device forms its power from the rail readings. -/
  | powerSample
  /-- SHORT_TERM_STEP (R464). Every 100 µs the short-term controller lowers or raises the duty of every field. -/
  | shortTermStep
  /-- SUST_STEP (R466). Every 100 ms the sustained controller requests a lower or higher OPP. -/
  | sustStep
  /-- HERD_SHARE (R467). `agent` writes `data` to PWR.HERD_SHARE. -/
  | herdShare (agent : Nat) (data : Word)
  /-- TRIM_ADJUST (R468). Field f: a monitor reported low slack in the last second; every monitor stayed high for the last hour. -/
  | trimAdjust (f : Nat) (low : Bool) (high : Bool)
  /-- THERMAL_POLL (R472). Sensor readings: index and quarter °C in two's complement of 16 bits. -/
  | thermalPoll (readings : List (Nat × Nat))
  /-- THERMAL_STEP_TIMER (R472). 0 the 1 ms duty step, 1 the 20 ms OPP step, 2 the 1 s OPP raise. -/
  | thermalStepTimer (k : Nat)
  /-- THERMAL_TRIP (R472). The independent comparator at 115 °C opens every core and memory-tier domain. -/
  | thermalTrip
  /-- HBM_HOT_STEP (R472). Stack m. -/
  | hbmHotStep (m : Nat)
  /-- ERROR_RECORD_STORE (R485). An error record is stored in the ring at WR_IDX with the next RECORD_ID. -/
  | errorRecordStore
  /-- RING_BUDGET_END (R486). At the end of a TAI millisecond Pewter stores a RING record of suppressed records. -/
  | ringBudgetEnd
  /-- PEWTER_DISAGREE (R489). A Pewter pair disagreement resets the pair, breaks its locks and moves its services. -/
  | pewterDisagree (p : Nat)
  /-- PEWTER_PAIR_REJOIN (R489). A reset Pewter pair rejoins after its self-test. -/
  | pewterPairRejoin (p : Nat)
  /-- TRIAL_START (R496). Pewter sets HOLD, fences the suspect site, redirects its trees, rebinds its ID to a spare and starts the refill. -/
  | trialStart
  /-- REFILL_PACKET (R498). A refill response packet is written into the spare's scratchpad through its neighbour-service port. -/
  | refillPacket (lines : Nat) (errs : List (Nat × Nat))
  /-- REFILL_DONE (R498). The port byte counts sum to the list total, the refill is complete and HOLD clears. -/
  | refillDone
  /-- REFILL_TIMEOUT (R499). A refill not complete 400 µs after its start is restarted, or the trial moves to the next spare. -/
  | refillTimeout
  /-- TRIAL (R518). FLOOR.CMD TRIAL starts a trial of a BOUND or SUSPECT site. -/
  | trial (agent : Nat) (site : Nat)
  /-- TRIAL_WITH_FENCE (R500). FLOOR.CMD TRIAL with router fence starts a trial that also fences the site's router. -/
  | trialWithFence (agent : Nat) (site : Nat)
  /-- REINSTATE (R504). FLOOR.CMD REINSTATE returns a DEAD site that passed Ibex to SPARE. -/
  | reinstate (agent : Nat) (site : Nat)
  /-- START (R506). A write of FLT.IBEX_CTRL.START makes a field due for an Ibex slice. -/
  | ibexStart (agent : Nat) (f : Nat)
  /-- ABORT (R509). A write of FLT.IBEX_CTRL.ABORT ends the running slice ABORTED. -/
  | ibexAbort (agent : Nat)
  /-- IBEX_PERIOD_DUE (R505). IBEX_PERIOD hours since a field's last slice make it due. -/
  | ibexPeriodDue (f : Nat)
  /-- IBEX_SLICE_START (R507). A due field with no beat in flight is quarantined and FS_3 loads the Ibex image. -/
  | ibexSliceStart
  /-- IBEX_STEP (R507). A margin step completes its exact-fill run and Pewter reads the tiles' CHK_FAIL flags. -/
  | ibexStep (void_ : Bool)
  /-- IBEX_RESTORE_DONE (R507). The field returns to the common OPP, the hold is released and the verdict is stored. -/
  | ibexRestoreDone
  /-- HELLO (R533). A HELLO frame is checked for profile, role, mode and range and moves the twin to COMPARING or refuses it. -/
  | helloFrame (h : FrameHdr) (profile : Nat) (mode : Nat) (role : Nat) (range : Nat) (herd : Bool)
  /-- HELLO_SEND (R533). Pewter sends HELLO every 1 ms until the partner answers. -/
  | helloSend
  /-- HEARTBEAT (R531). A HEARTBEAT frame carries an acknowledgement. -/
  | heartbeatFrame (h : FrameHdr)
  /-- HEARTBEAT_SEND (R531). HEARTBEAT frames are sent every 10 µs on every plane that is up. -/
  | heartbeatSend
  /-- SNIGUS_RETRANSMIT (R531). A frame not acknowledged within 20 µs is resent on the next plane, up to 8 times. -/
  | snigusRetransmit
  /-- SNIGUS_BAD_FRAME (R530). A frame of an unknown TYPE is dropped and recorded. -/
  | snigusBadFrame (h : FrameHdr) (typ : Nat)
  /-- DIGEST (R536). A partner DIGEST frame is compared with the own digest, releasing, repeating or late-disagreeing. -/
  | digestFrame (h : FrameHdr) (stream : Nat) (beat : Nat) (attempt : Nat) (digest : Nat)
  /-- HOLD (R539). A HOLD frame lapses the compared stream, or fails a herd beat that received the sender's PARTIAL. -/
  | holdFrame (h : FrameHdr) (stream : Nat) (beat : Nat) (attempt : Nat) (pair : Bool)
  /-- DIGEST_WAIT_TIMEOUT (R539). WAIT_US passes after a commit without a matching digest or HOLD, and the stream lapses. -/
  | digestWaitTimeout (stream : Nat)
  /-- INGEST (R535). A partner INGEST count sets INGEST_LIMIT to RING_CONS plus the smaller count. -/
  | ingestFrame (h : FrameHdr) (stream : Nat) (frame : Nat) (count : Nat)
  /-- INGEST_WAIT_TIMEOUT (R535). A partner's ingest count missing for WAIT_US makes the module use its own count and lapse. -/
  | ingestWaitTimeout (stream : Nat)
  /-- TIME (R534). A TIME frame runs a time-transfer exchange for the PARTNER source. -/
  | timeFrame (h : FrameHdr) (offset : Int) (rtt : Nat)
  /-- FRAME (R534). A FRAME frame delivers the reference's frame number and boundary TAI. -/
  | frameFrame (h : FrameHdr) (frame : Nat) (ns : Nat)
  /-- PARTNER_LOST (R541). No frame from the partner for 100 µs or port A down makes TWIN.STATE LOST and lapses every compared stream. -/
  | partnerLost
  /-- REBUILD_START (R542). The target opens the stream paused and the source starts copying its context ring and commit area. -/
  | rebuildStart (stream : Nat) (source : Bool)
  /-- COPY_FRAME (R542). A COPY frame writes forwarded data to the same external-memory offset on the target. -/
  | copyFrame (h : FrameHdr) (addr : Nat) (data : List Byte)
  /-- REBUILD_INSTALL (R542). When the source's stream is WAITING after the copy, the target installs BEAT, context and commit record. -/
  | rebuildInstall (stream : Nat) (beat : Nat) (len : Nat) (head : Nat) (record : List Byte)
  /-- REBUILD_DONE (R542). The rebuild refill command completes and Pewter resumes the stream. -/
  | rebuildDone (stream : Nat)
  /-- JOIN (R544). The lead receives a JOIN and answers with ADMIT or REFUSE. -/
  | joinFrame (h : FrameHdr) (pos : Nat) (profile : Nat) (mode : Nat) (health : Nat)
  /-- JOIN_SEND (R544). A JOINING module sends JOIN every 1 ms. -/
  | joinSend
  /-- ADMIT (R544). An ADMIT frame gives the joining module its frame, EPOCH, membership and generation. -/
  | admitFrame (h : FrameHdr) (pos : Nat) (frame : Nat) (epoch : Nat) (mask : Nat) (gen : Nat) (lead : Nat) (gens : List Nat)
  /-- REFUSE (R544). A REFUSE frame records the reason in HERD.REFUSE_INFO. -/
  | refuseFrame (h : FrameHdr) (reason : Nat) (lead : Nat)
  /-- MEMBERSHIP (R545). A MEMBERSHIP frame makes the member write the new fold mask before the effective beat. -/
  | membershipFrame (h : FrameHdr) (lead : Nat) (mask : Nat) (fold : Nat) (beat : Nat) (gens : List Nat)
  /-- HERD_REPORT_SEND (R548). By REPORT_PHASE each member sends its latched EPOCH and device digest. -/
  | herdReportSend
  /-- REPORT (R548). A REPORT frame is received by the lead for comparison. -/
  | reportFrame (h : FrameHdr) (frame : Nat) (epoch : Nat) (digest : Nat) (power : Nat) (phase : Nat) (health : Nat)
  /-- HERD_COMPARE (R548). At COMPARE_PHASE the lead compares every report, fences members and computes shares. -/
  | herdCompare (misses : List Nat)
  /-- SHARE (R552). A SHARE frame gives the member its power share. -/
  | shareFrame (h : FrameHdr) (watts : Nat)
  /-- SCHED (R546). A SCHED frame makes the member's Pewter add the distributed schedule entry. -/
  | schedFrame (h : FrameHdr) (w0 : Word) (w1 : Word) (w2 : Word) (w3 : Word) (herd : Bool)
  /-- APPEND (R551). An APPEND frame moves the append role at the named beat. -/
  | appendFrame (h : FrameHdr) (stream : Nat) (beat : Nat) (pos : Nat)
  /-- REG_ACCESS (R532). A REG_ACCESS frame is performed as a herd peer access and answered with REG_RESP. -/
  | regAccess (h : FrameHdr) (addr : Nat) (data : Option Word)
  /-- REG_RESP (R532). A REG_RESP frame returns data and an error code to the requester. -/
  | regResp (h : FrameHdr) (addr : Nat) (data : Nat) (code : Nat)
  /-- PARTIAL (R615). A received PARTIAL is written to its receive slot and, when all are in, a contribution is made. -/
  | partialFrame (h : FrameHdr) (slot : Nat) (data : List Byte)
  /-- PX_TX_TRIGGER (R615). A TX reduction instance completes at PX_TILE and the spur block sends the slot in PARTIAL frames. -/
  | pxTxTrigger
  /-- LEAD_LOST (R553). No frame from the lead for 1 ms makes the lowest present member lead. -/
  | leadLost
  /-- HERD_APPLY (R561). A write of HERD.APPLY makes the lead distribute a CONFIG_APPLY two frames ahead. -/
  | herdApply (agent : Nat) (data : Word)
  /-- PORST_ASSERT (R565). PORST_N low past its filter resets the whole device. -/
  | porstAssert
  /-- COLD_START (R581). The release of PORST_N runs the cold start from strap sampling to READY. -/
  | coldStart (facts : BootFacts)
  /-- DOORBELL_POLL (R571). Every 100 µs Pewter or the ROM polls DOORBELL and starts a request on a new SEQ or refuses it BUSY. -/
  | doorbellPoll
  /-- FW_CHUNK (R571). FW_CHUNK programs data into the firmware staging area. -/
  | fwChunk
  /-- FW_COMMIT (R571). FW_COMMIT verifies the staged firmware and copies it to the slot not in use. -/
  | fwCommit
  /-- FW_BOOT (R571). FW_BOOT makes the ROM verify and run the staged image. -/
  | fwBoot
  /-- LIC_WRITE (R577). LIC_WRITE verifies a licence blob and writes it over the copy not in force. -/
  | licWrite
  /-- RST_MASK (R590). An AUTH token with OP RST_MASK masks a held RST_N and releases the compute-reset hold. -/
  | rstMask
  /-- DEBUG_UNLOCK (R579). An AUTH token with OP DEBUG_UNLOCK opens a debug session for PARAM seconds. -/
  | debugUnlock
  /-- BOARD_CFG (R580). An AUTH token with OP BOARD_CFG makes the next FW_CHUNK data the new board configuration block. -/
  | boardCfg
  /-- DEBUG_LOCK (R571). DEBUG_LOCK ends the debug session. -/
  | debugLock
  /-- COMPUTE_RESET (R587). A COMPUTE_RESET request starts a compute reset. -/
  | computeReset
  /-- PEWTER_RESTART (R592). A PEWTER_RESTART request resets the Pewter pairs, starts a compute reset and reloads firmware. -/
  | pewterRestart (own : Bool)
  /-- HOSTCFG_APPLY (R573). HOSTCFG_APPLY applies the host configuration block. -/
  | hostcfgApply
  /-- BOOT_REQUEST_DONE (R571). A boot-window request ends and word 3 is written with SEQ, CODE and DONE. -/
  | bootRequestDone
  /-- DEBUG_SESSION_EXPIRE (R579). A debug session ends PARAM seconds after unlock, breaking debug locks and clearing breaks. -/
  | debugSessionExpire
  /-- TRST_ASSERT (R579). Assertion of TRST_N resets the TAP and ends the debug session. -/
  | trstAssert
  /-- RST_N_ASSERT (R586). RST_N low past its filter while not masked starts a compute reset. -/
  | rstNAssert
  /-- CRESET (R597). Pewter writes BOOT.CRESET.START to start a compute reset with CAUSE 3. -/
  | creset (agent : Nat) (data : Word)
  /-- COMPUTE_RESET_SELFTEST_DONE (R587). The quick self-test of a compute reset completes and the reset waits for any hold. -/
  | computeResetSelftestDone (failed : List Nat)
  /-- COMPUTE_RESET_RELEASE (R587). 20 ms after the hold ends sequencers go IDLE and Pewter re-initialises and queues trials. -/
  | computeResetRelease
  /-- RESET_HELD_TIMEOUT (R589). RST_N low for 5 s unmasked sets RESET_STATUS.HELD and asserts ALERT_N. -/
  | resetHeldTimeout
  /-- MASK_CLEAR (R591). RST_N high continuously for 1 ms clears MASKED. -/
  | maskClear
  /-- PEWTER_RESTART_DONE (R592). The new firmware resumes Pewter's services after a restart. -/
  | pewterRestartDone
  /-- VAON_DROP (R641). VAON below 0.70 V for 2 µs resets the device as PORST_N does. -/
  | vaonDrop
  /-- HOST_FUNCTION_RESET (R77). A Function Level Reset, hot reset or link leaving L0 for Detect breaks the host's locks. -/
  | hostFunctionReset (kind : Nat) (link : Nat)
  /-- PERST_ASSERT (R602). PERST_N resets only the PCIe controller of its link. -/
  | perstAssert (link : Nat)
  /-- PCIE_LINK_UP (R602). The host link returns to L0, BAR decoding resumes and the host configuration block is applied. -/
  | pcieLinkUp (link : Nat) (speed : Nat) (width : Nat) (flit : Bool)
  /-- D3HOT_ENTRY (R603). In D3hot memory requests complete with Unsupported Request and mirror writes stop. -/
  | d3hotEntry (link : Nat)
  /-- SENSOR_FRAME (R607). A sensor port receives an Ethernet frame, stamps it, matches a flow and writes a ring entry. -/
  | sensorFrame (port : Nat) (frame : List Byte)
  /-- SENSOR_ENTRY_DONE (R607). Every line of a ring entry is acknowledged and RING_PROD advances. -/
  | sensorEntryDone (port : Nat)
  /-- PAIR_MISS_TIMEOUT (R608). A paired entry without a partner within 1 ms is dropped from both rings. -/
  | pairMissTimeout (port : Nat)
  /-- ARP_REQUEST (R605). An ARP request or Neighbor Solicitation for the port's address is answered. -/
  | arpRequest (port : Nat) (v6 : Bool)
  /-- GPTP_SYNC (R610). A gPTP Sync, with Follow_Up when two-step, gives the servo an offset measurement. -/
  | gptpSync (port : Nat) (off : Int)
  /-- GPTP_ANNOUNCE (R610). A received Announce is ranked above the port itself. -/
  | gptpAnnounce (port : Nat)
  /-- GPTP_PDELAY (R610). Peer-delay messages are answered and the mean link delay is updated. -/
  | gptpPdelay (port : Nat) (ns : Nat)
  /-- LINK_RETRAIN (R627). A SerDes port that is down retrains every 1 s. -/
  | linkRetrain (code : Nat) (ok : Bool)
  /-- SERDES_LINK_DOWN (R627). A sensor or spur port goes down in service and writes a record. -/
  | serdesLinkDown (code : Nat)
  /-- PEEK (R617). The management command PEEK reads a register as a debug peek. -/
  | peek (pec : Bool) (off : Nat)
  /-- COOLANT (R617). The management command COOLANT writes THERM.COOLANT_IN with VALID. -/
  | coolant (pec : Bool) (q : Nat)
  /-- COOLANT_TIMEOUT (R617). No COOLANT for 10 s clears COOLANT_IN.VALID. -/
  | coolantTimeout
  /-- DATA_WRITE (R617). The management command DATA_WRITE writes into the management target's data area. -/
  | dataWrite (pec : Bool) (off : Nat) (data : List Byte)
  /-- REQUEST (R617). The management command REQUEST starts a boot-window request on the management data area. -/
  | request (pec : Bool) (op : Nat) (len : Nat) (off : Nat)
  /-- REQ_STATUS (R617). The management command REQ_STATUS returns SEQ, CODE and DONE. -/
  | reqStatus (pec : Bool)
  /-- EXTEST (R618). The JTAG instruction EXTEST drives boundary-scan cells. -/
  | extest (cells : List Bool)
  /-- IDCODE (R618). The JTAG instruction IDCODE selects the identity register. -/
  | idcode
  /-- SAMPLE_PRELOAD (R618). The JTAG instruction SAMPLE/PRELOAD samples pins. -/
  | samplePreload (cells : List Bool)
  /-- CLAMP (R618). The JTAG instruction CLAMP holds outputs and selects bypass. -/
  | clamp
  /-- HIGHZ (R618). The JTAG instruction HIGHZ puts outputs in high impedance. -/
  | highz
  /-- DAP (R618). The JTAG instruction DAP selects the debug access port. -/
  | dap
  /-- JTAG_AUTH (R579). The JTAG instruction AUTH shifts a token into the AUTH data register. -/
  | jtagAuth (token : List Byte)
  /-- BYPASS (R618). The JTAG instruction BYPASS, or any unknown code, selects bypass. -/
  | bypass
  /-- UART_INPUT (R619). Console input is accepted only while debug is unlocked. -/
  | uartInput (data : List Byte)
  /-- EVT_CFG_WRITE (R622). A write of PINS.EVT_CFG_n claims or releases an event-pin function. -/
  | evtCfgWrite (n : Nat) (agent : Nat) (data : Word)
  /-- EVT_PULSE_END (R621). An output pulse ends WIDTH_US after its last event. -/
  | evtPulseEnd (n : Nat)
  /-- ALERT_TIMEOUT (R623). An ALERT_SRC bit clears 100 ms after its last assertion. -/
  | alertTimeout (src : Nat)
  /-- ALERT_CLEAR (R623). A W1C write of ALERT_SRC clears alert sources early. -/
  | alertClear (agent : Nat) (data : Word)
  /-- FAULT_CLEAR (R624). A W1C write of FAULT_SRC clears latched fault sources. -/
  | faultClear (agent : Nat) (data : Word)
  /-- RST_N_RELEASE (R587). RST_N returning high ends the hold of a compute reset at step 5, and the reset completes 20 ms later. -/
  | rstNRelease
  /-- VAON_RECOVERY (R641). VAON returns into tolerance after a drop that reset the device while PORST_N stayed high. -/
  | vaonRecovery
  /-- D3HOT_EXIT (R603). The host returns the function from D3hot to D0, so memory requests and mirror writes are served again. -/
  | d3hotExit (link : Nat)
  /-- AER (R626). The PCIe port detects a correctable or uncorrectable link error, counts it in AER_CE_COUNT or AER_UE_COUNT and writes a LINK_PORT AER record. -/
  | aer (unc : Bool) (status : Nat)
  /-- DYNAMIC_ADDRESS_ASSIGN (R617). An I3C controller assigns the management target a dynamic address with SETDASA or ENTDAA. -/
  | dynamicAddressAssign (addr : Nat)
  /-- TRIM_FLASH_WRITE (R468). Every hour Pewter writes the margin trims to the boot flash. -/
  | trimFlashWrite
  /-- PERF_MEASURED_UPDATE (R470). The measured fraction in units of 1/65,536. -/
  | perfMeasuredUpdate (m : Nat)
deriving DecidableEq, Repr

end Sys2Proof
end

