-- ==== Sys2Proof/Decode.lean ====
section
/-! DEFINITION. The command that a word spells. No row of spec/opcode_table.json gives its command any bits: the part takes
commands as accesses and events, not as words. -/

namespace Sys2Proof

/-- The command that a word of the table's bits spells: none, since the table gives no command any bits. -/
def decodeTableWord (_nbits _w : Nat) : Option Instr := none

end Sys2Proof
end

