-- ==== Sys2Proof/Machine/Bits.lean ====
section
/-! DEFINITION. Bit fields of register words, and the tables from keys to values that State is made of. -/

namespace Sys2Proof.Machine

/-- Bits [hi:lo] of a word, as the register tables write them (00_scope.md R14). -/
def fld (w : Word) (hi lo : Nat) : Nat := (w.toNat >>> lo) % 2 ^ (hi + 1 - lo)

/-- Bit `i` of a word. -/
def bitOf (w : Word) (i : Nat) : Bool := w.toNat.testBit i

/-- A word of ones in [hi:lo]. -/
def maskOf (hi lo : Nat) : Word := BitVec.ofNat 32 ((2 ^ (hi + 1 - lo) - 1) <<< lo)

/-- `w` with bits [hi:lo] replaced by `v` modulo the field's width. -/
def setFld (w : Word) (hi lo v : Nat) : Word :=
  (w &&& ~~~(maskOf hi lo)) ||| (BitVec.ofNat 32 ((v % 2 ^ (hi + 1 - lo)) <<< lo))

/-- `w` with bit `i` set to `b`. -/
def setBit (w : Word) (i : Nat) (b : Bool) : Word := setFld w i i b.toNat

/-- 1 or 0. -/
def b2n (b : Bool) : Nat := if b then 1 else 0

/-- A saturating 32-bit count raised by `n` (RC counters of the register tables). -/
def satAdd (w : Word) (n : Nat) : Word := BitVec.ofNat 32 (min (w.toNat + n) 0xFFFFFFFF)

/-- A number read as two's complement of `n` bits. -/
def toSigned (n v : Nat) : Int := if v % 2 ^ n < 2 ^ (n - 1) then (v % 2 ^ n : Int) else (v % 2 ^ n : Int) - 2 ^ n

/-- An integer written in two's complement of `n` bits. -/
def ofSigned (n : Nat) (v : Int) : Nat := (v % (2 ^ n : Int)).toNat

/-- A value clamped to the signed range of `n` bits, as two's complement (OFFSET_NS and its like). -/
def satSigned (n : Nat) (v : Int) : Nat := ofSigned n (max (-(2 ^ (n - 1) : Int)) (min v (2 ^ (n - 1) - 1)))

/-- The `n` bytes of `v`, least significant first (R14). -/
def leBytes (n v : Nat) : List Byte := (List.range n).map fun i => BitVec.ofNat 8 (v >>> (8 * i))

/-- The number that bytes spell, least significant first. -/
def leNat : List Byte → Nat
  | [] => 0
  | b :: t => b.toNat + 256 * leNat t

/-- A list cut into pieces of `n`; the fuel bounds the number of pieces. -/
def chunksOf {α : Type} (n : Nat) : Nat → List α → List (List α)
  | 0, _ => []
  | _, [] => []
  | k + 1, l => l.take n :: chunksOf n k (l.drop n)

/-- Little-endian words of a byte string. -/
def leWords (bs : List Byte) : List Word := (chunksOf 4 bs.length bs).map fun c => BitVec.ofNat 32 (leNat c)

/-- The bytes of a list of words. -/
def wordBytes (ws : List Word) : List Byte := ws.flatMap fun w => leBytes 4 w.toNat

/-! ### Tables -/

/-- The value at a key, where the table lists one. -/
def kvGet? {α : Type} : KV α → Nat → Option α
  | [], _ => none
  | (k, v) :: t, a => if a = k then some v else kvGet? t a

/-- Put a value at a key, the keys rising. -/
def kvPut {α : Type} : KV α → Nat → α → KV α
  | [], a, x => [(a, x)]
  | (k, v) :: t, a, x =>
    if a < k then (a, x) :: (k, v) :: t
    else if a = k then (a, x) :: t
    else (k, v) :: kvPut t a x

/-- Take a key out of the table. -/
def kvDel {α : Type} (m : KV α) (a : Nat) : KV α := m.filter fun e => e.1 != a

/-- Two tables with rising keys; where both list a key the second's value stands. -/
def kvMerge {α : Type} : KV α → KV α → KV α
  | [], n => n
  | (k, v) :: t, n => n.takeWhile (fun e => decide (e.1 < k)) ++
      (match n.dropWhile (fun e => decide (e.1 < k)) with
       | [] => (k, v) :: t
       | (j, w) :: u => if j = k then kvMerge t ((j, w) :: u) else (k, v) :: kvMerge t ((j, w) :: u))

/-- `n` words from key `a` of a table with rising keys, 0 where it lists none. -/
def denseWords : Nat → Nat → KV Word → List Word
  | 0, _, _ => []
  | n + 1, a, [] => 0 :: denseWords n (a + 1) []
  | n + 1, a, (k, w) :: t =>
    if k < a then 0 :: denseWords n (a + 1) t
    else if k = a then w :: denseWords n (a + 1) t else 0 :: denseWords n (a + 1) ((k, w) :: t)

/-- `n` values from key `a` of a table with rising keys, `dflt` where it lists none. -/
def denseD {α : Type} (dflt : α) : Nat → Nat → KV α → List α
  | 0, _, _ => []
  | n + 1, a, [] => dflt :: denseD dflt n (a + 1) []
  | n + 1, a, (k, w) :: t =>
    if k < a then dflt :: denseD dflt n (a + 1) t
    else if k = a then w :: denseD dflt n (a + 1) t else dflt :: denseD dflt n (a + 1) ((k, w) :: t)

/-- The value at a key; an unlisted key has the value `dflt`. -/
def kvGetD {α : Type} (m : KV α) (dflt : α) (a : Nat) : α := (kvGet? m a).getD dflt

/-- Put a value at a key; the value of an unlisted key is not listed. -/
def kvSetD {α : Type} [DecidableEq α] (m : KV α) (dflt : α) (a : Nat) (x : α) : KV α :=
  if x = dflt then kvDel m a else kvPut m a x

/-- Change the value at a key. -/
def kvModD {α : Type} [DecidableEq α] (m : KV α) (dflt : α) (a : Nat) (f : α → α) : KV α :=
  kvSetD m dflt a (f (kvGetD m dflt a))

/-- A set of numbers, rising: put one in. -/
def setIns : List Nat → Nat → List Nat
  | [], a => [a]
  | k :: t, a => if a < k then a :: k :: t else if a = k then k :: t else k :: setIns t a

/-- A set of numbers: take one out. -/
def setDel (l : List Nat) (a : Nat) : List Nat := l.filter (· != a)

/-- A set of numbers with `a` in or out. -/
def setPut (l : List Nat) (a : Nat) (b : Bool) : List Nat := if b then setIns l a else setDel l a

/-- The list with entry `i` changed by `f`. -/
def modAt {α : Type} : List α → Nat → (α → α) → List α
  | [], _, _ => []
  | x :: t, 0, f => f x :: t
  | x :: t, n + 1, f => x :: modAt t n f

/-- The list with entry `i` replaced. -/
def putAt {α : Type} (l : List α) (i : Nat) (x : α) : List α := modAt l i fun _ => x

/-- Take the first entry that satisfies `p` out of a list. -/
def takeFirst {α : Type} (p : α → Bool) : List α → Option (α × List α)
  | [] => none
  | x :: t => if p x then some (x, t) else (takeFirst p t).map fun r => (r.1, x :: r.2)

/-- Ascending numbers below `n` that satisfy `p`. -/
def below (n : Nat) (p : Nat → Bool) : List Nat := (List.range n).filter p

end Sys2Proof.Machine
end

