-- ==== Sys2Proof/Machine/Hash.lean ====
section
/-! DEFINITION. SHA-256, the hash of beat digests and device digests (14_channels_twin_herd.md R527, R547), and SHA-384 with
ECDSA P-384, the signatures of firmware, licences and tokens (15_bringup_reset_licences.md R568). -/

namespace Sys2Proof.Machine

/-! The round constants and initial values of the two hashes are the first bits of the fractions of cube roots and square
roots of primes: they are computed here, not listed. -/

/-- The largest r of at most `bits` bits whose k-th power is at most n. -/
def rootFloor (k n bits : Nat) : Nat :=
  (List.range bits).foldr (fun i r => (fun t => if t ^ k ≤ n then t else r) (r + 2 ^ i)) 0

/-- The first 64 bits of the fraction of the k-th root of n. -/
def rootFraction (k n : Nat) : Nat := rootFloor k (n * 2 ^ (64 * k)) 69 % 2 ^ 64

/-- The primes below 410, of which there are eighty. -/
def smallPrimes : List Nat :=
  (List.range 410).filter fun n => decide (2 ≤ n) && (List.range 21).all fun d => decide (d < 2) || n % d != 0 || n == d

def sha512K : List Nat := smallPrimes.map (rootFraction 3)
def shaK : List Nat := (sha512K.take 64).map (· / 2 ^ 32)
def shaInit : List Nat := (smallPrimes.take 8).map fun p => rootFraction 2 p / 2 ^ 32
def sha384Init : List Nat := ((smallPrimes.drop 8).take 8).map (rootFraction 2)

def add32 (a b : Nat) : Nat := (a + b) % 2 ^ 32
def rotr (n x : Nat) : Nat := (x >>> n) ||| (x <<< (32 - n) % 2 ^ 32)

/-- The message schedule of a block: words 16 to 63, newest first in the accumulator. -/
def shaSched (w : List Nat) : List Nat :=
  ((List.range 48).foldl (fun (acc : List Nat) _ =>
    let a := acc.getD 1 0
    let b := acc.getD 14 0
    let s1 := rotr 17 a ^^^ rotr 19 a ^^^ (a >>> 10)
    let s0 := rotr 7 b ^^^ rotr 18 b ^^^ (b >>> 3)
    add32 (add32 s1 (acc.getD 6 0)) (add32 s0 (acc.getD 15 0)) :: acc) w.reverse).reverse

/-- One round on the eight working words. -/
def shaRound (s : List Nat) (kw : Nat × Nat) : List Nat :=
  match s with
  | [a, b, c, d, e, f, g, h] =>
    let s1 := rotr 6 e ^^^ rotr 11 e ^^^ rotr 25 e
    let ch := (e &&& f) ^^^ ((2 ^ 32 - 1 - e) &&& g)
    let t1 := add32 (add32 (add32 h s1) (add32 ch kw.1)) kw.2
    let s0 := rotr 2 a ^^^ rotr 13 a ^^^ rotr 22 a
    let maj := (a &&& b) ^^^ (a &&& c) ^^^ (b &&& c)
    [add32 t1 (add32 s0 maj), a, b, c, add32 d t1, e, f, g]
  | s => s

def shaBlock (h : List Nat) (block : List Byte) : List Nat :=
  let w := (List.range 16).map fun i => (List.range 4).foldl (fun v k => 256 * v + (block.getD (4 * i + k) 0).toNat) 0
  let r := (shaK.zip (shaSched w)).foldl shaRound h
  (h.zip r).map fun e => add32 e.1 e.2

/-- The padded message. -/
def shaPad (m : List Byte) : List Byte :=
  let n := m.length
  m ++ [0x80] ++ List.replicate ((119 - n % 64) % 64) 0 ++ (leBytes 8 (8 * n)).reverse

/-- SHA-256 of a message: its 32 bytes. -/
def sha256 (m : List Byte) : List Byte :=
  let p := shaPad m
  ((chunksOf 64 p.length p).foldl shaBlock shaInit).flatMap fun w => (leBytes 4 w).reverse

/-! ### SHA-384, the hash of images, licences and tokens (15_bringup_reset_licences.md R568, R574, R578) -/

def add64 (a b : Nat) : Nat := (a + b) % 2 ^ 64
def rotr64 (n x : Nat) : Nat := (x >>> n) ||| (x <<< (64 - n) % 2 ^ 64)

/-- The 80 words of a block's schedule. -/
def sha512Sched (w : List Nat) : List Nat :=
  ((List.range 64).foldl (fun (acc : List Nat) _ =>
    let a := acc.getD 1 0
    let b := acc.getD 14 0
    let s1 := rotr64 19 a ^^^ rotr64 61 a ^^^ (a >>> 6)
    let s0 := rotr64 1 b ^^^ rotr64 8 b ^^^ (b >>> 7)
    add64 (add64 s1 (acc.getD 6 0)) (add64 s0 (acc.getD 15 0)) :: acc) w.reverse).reverse

/-- One round on the eight working words. -/
def sha512Round (s : List Nat) (kw : Nat × Nat) : List Nat :=
  match s with
  | [a, b, c, d, e, f, g, h] =>
    let s1 := rotr64 14 e ^^^ rotr64 18 e ^^^ rotr64 41 e
    let ch := (e &&& f) ^^^ ((2 ^ 64 - 1 - e) &&& g)
    let t1 := add64 (add64 (add64 h s1) (add64 ch kw.1)) kw.2
    let s0 := rotr64 28 a ^^^ rotr64 34 a ^^^ rotr64 39 a
    let maj := (a &&& b) ^^^ (a &&& c) ^^^ (b &&& c)
    [add64 t1 (add64 s0 maj), a, b, c, add64 d t1, e, f, g]
  | s => s

/-- The number that bytes spell, most significant first. -/
def beNat (bs : List Byte) : Nat := bs.foldl (fun v b => 256 * v + b.toNat) 0

def sha512Block (h : List Nat) (block : List Byte) : List Nat :=
  let w := (chunksOf 8 16 block).map beNat
  let r := (sha512K.zip (sha512Sched w)).foldl sha512Round h
  (h.zip r).map fun e => add64 e.1 e.2

def sha512Pad (m : List Byte) : List Byte :=
  let n := m.length
  m ++ [0x80] ++ List.replicate ((239 - n % 128) % 128) 0 ++ (leBytes 16 (8 * n)).reverse

/-- SHA-384 of a message: its 48 bytes. -/
def sha384 (m : List Byte) : List Byte :=
  let p := sha512Pad m
  (((chunksOf 128 p.length p).foldl sha512Block sha384Init).take 6).flatMap fun w => (leBytes 8 w).reverse

/-! ### ECDSA P-384 (15_bringup_reset_licences.md R568) -/

/-- The field prime, the curve's b, the group order and the base point. -/
def p384 : Nat := 2 ^ 384 - 2 ^ 128 - 2 ^ 96 + 2 ^ 32 - 1
def p384B : Nat := 0xb3312fa7e23ee7e4988e056be3f82d19181d9c6efe8141120314088f5013875ac656398d8a2ed19d2a85c8edd3ec2aef
def p384N : Nat := 0xffffffffffffffffffffffffffffffffffffffffffffffffc7634d81f4372ddf581a0db248b0a77aecec196accc52973
def p384G : Nat × Nat :=
  (0xaa87ca22be8b05378eb1c71ef320ad746e1d3b628ba79b9859f741e082542a385502f25dbf55296c3a545e3872760ab7,
   0x3617de4a96262c6f5d9e98bf9292dc29f8f41dbd289a147ce9da3113b5f0b8c00a60b1ce1d7e819d7a431d7c90ea0e5f)

/-- `a` to the power `e` modulo `m`, `e` below 2^384. -/
def powMod (m a e : Nat) : Nat :=
  (List.range 384).foldl (fun r i => let r := r * r % m; if e.testBit (383 - i) then r * a % m else r) 1

/-- The inverse modulo a prime. -/
def invMod (m a : Nat) : Nat := powMod m a (m - 2)

def subMod (m a b : Nat) : Nat := (a + m - b % m) % m

/-- The sum of two points; none is the point at infinity. -/
def ecAdd (a b : Option (Nat × Nat)) : Option (Nat × Nat) :=
  match a, b with
  | none, b => b
  | a, none => a
  | some (x1, y1), some (x2, y2) =>
    let third (l : Nat) : Option (Nat × Nat) :=
      let x := subMod p384 (l * l) (x1 + x2)
      some (x, subMod p384 (l * subMod p384 x1 x) y1)
    if x1 = x2 then
      if (y1 + y2) % p384 = 0 then none
      else third (subMod p384 (3 * x1 * x1) 3 * invMod p384 (2 * y1 % p384) % p384)
    else third (subMod p384 y2 y1 * invMod p384 (subMod p384 x2 x1) % p384)

/-- A multiple of a point by a number below 2^384. -/
def ecMul (k : Nat) (a : Nat × Nat) : Option (Nat × Nat) :=
  (List.range 384).foldl (fun r i => let r := ecAdd r r; if k.testBit (383 - i) then ecAdd r (some a) else r) none

/-- A point of the curve. -/
def ecOn (a : Nat × Nat) : Bool :=
  decide (a.1 < p384) && decide (a.2 < p384) && (a.2 * a.2 + 3 * a.1) % p384 == (a.1 * a.1 * a.1 + p384B) % p384

/-- A signature, r then s, is valid for a message under a public key. -/
def ecdsaOk (key : Nat × Nat) (msg sig : List Byte) : Bool :=
  let r := beNat (sig.take 48)
  let s := beNat (sig.drop 48)
  let e := beNat (sha384 msg)
  let w := invMod p384N (s % p384N)
  ecOn key && sig.length == 96 && decide (0 < r ∧ r < p384N ∧ 0 < s ∧ s < p384N) &&
    (match ecAdd (ecMul (e * w % p384N) p384G) (ecMul (r * w % p384N) key) with
     | some (x, _) => x % p384N == r
     | none => false)

end Sys2Proof.Machine
end

