-- ==== Sys2Proof/Config.lean ====
section
/-! DEFINITION. What an implementation fixes and the free values: values the spec leaves open. -/

namespace Sys2Proof.Config

/-- A fresh value the spec does not state; the argument counts the values taken so far. -/
opaque freeValue : Nat → Nat

/-- I_leak(T, V) of R457 in quarter amperes: the spec gives no function. -/
opaque leakage : Nat → Nat → Nat

/-- The pulse whose edge the event pin of a function (1 FSYNC, 2 PPS, 3 snapshot) shows at a tick: whether the edge falls and
how many ns the pulse lasts. An input of the part that no command names (10_cadence_time.md R404, 16_interfaces_pins.md R621)
(DESIGN CHOICE, safe: notes/assumptions/122.md). -/
opaque pinPulse : Nat → Nat → Bool × Nat

/-! What manufacture fuses into a part or puts into its ROM (15_bringup_reset_licences.md R568, R569, R574, R575;
12_power_thermal.md R470; 16_interfaces_pins.md R618). -/

/-- Public keys of firmware and licences, as points of P-384. -/
opaque firmwareKey : Nat × Nat
opaque licenceKey : Nat × Nat
/-- Fused minima of SEC_VERSION. -/
opaque firmwareMin : Nat
opaque licenceMin : Nat
/-- ECID, 128 bits. -/
opaque ecid : Nat
/-- Performance class. -/
opaque perfClass : Nat
/-- Silicon revision and JEP106 identity of IDCODE. -/
opaque siliconRevision : Nat
opaque jep106 : Nat

/-- Where the key hash and the CRC stand in the board configuration block: the spec gives no place (R567). -/
opaque boardHashAt : Nat
opaque boardCrcAt : Nat

/-- What Pewter's firmware chooses for trees 0 to 3 at a node, by fenced regions, quarantined fields, node and tree
(07_fabric.md R288). -/
opaque pewterTree : List (Nat × Nat × Nat × Nat) → List Nat → Nat → Nat → Nat

/-- Words of Pewter's sequencer image (15_bringup_reset_licences.md R581 step 14). -/
opaque seqImage : List Nat

end Sys2Proof.Config
end

