-- ==== Sys2Proof/Machine/RegNames.lean ====
section
/-! DEFINITION. BAR 0 offsets of the registers under the names the spec gives them (R38 and each page's table).
A register of a page with instances takes the instance first; an array of registers takes its index last. -/

namespace Sys2Proof.Machine

/-- FIELD_f page of field f (R38). -/
abbrev fieldBase (f : Nat) : Nat := 0x20000 + 0x8000 * f
/-- SEQ page of sequencer index q = 4 f + s (R38, R213). -/
abbrev seqBase (q : Nat) : Nat := 0x20000 + 0x8000 * (q / 4) + 0x1000 * (q % 4 + 1)
/-- Field trace page of field f (R38). -/
abbrev traceBase (f : Nat) : Nat := 0x20000 + 0x8000 * f + 0x5000
/-- MEMP_m page (R38). -/
abbrev mempBase (m : Nat) : Nat := 0x80000 + 0x1000 * m
/-- TILE page of a site (R38). -/
abbrev tileBase (site : Nat) : Nat := 0x1000000 + 0x400 * site
/-- Stream descriptor word i of stream n (R38, R315). -/
abbrev descAddr (n i : Nat) : Nat := 0x100000 + 64 * n + 4 * i
/-- Word i of error record ring slot k (R485). -/
abbrev ringAddr (k i : Nat) : Nat := 0x200000 + 32 * k + 4 * i

abbrev DEV_CAP_HEAD : Nat := 0x100
abbrev DEV_VIOL_ADDR_LO : Nat := 0x104
abbrev DEV_VIOL_ADDR_HI : Nat := 0x108
abbrev DEV_VIOL_INFO : Nat := 0x10C
abbrev DEV_ECID (i : Nat) : Nat := 0x110 + 4 * i
abbrev DEV_CAP (i : Nat) : Nat := 0x200 + 4 * i
abbrev LIC_STATUS : Nat := 0x1100
abbrev LIC_PROFILE : Nat := 0x1104
abbrev LIC_FEATURES_LO : Nat := 0x1108
abbrev LIC_FEATURES_HI : Nat := 0x110C
abbrev LIC_SERIAL : Nat := 0x1110
abbrev LIC_SEC_VERSION : Nat := 0x1114
abbrev LIC_FLASH_SERIAL : Nat := 0x1118
abbrev LOCK_LOCK (i : Nat) : Nat := 0x2100 + 4 * i
abbrev LOCK_BROKEN_MAP (i : Nat) : Nat := 0x2500 + 4 * i
abbrev LOCK_BREAK : Nat := 0x2520
abbrev SNAP_FIRE : Nat := 0x3100
abbrev SNAP_CTRL : Nat := 0x3104
abbrev SNAP_FAULT_MASK : Nat := 0x3108
abbrev SNAP_LAST_ID : Nat := 0x310C
abbrev SNAP_LAST_SEC_LO : Nat := 0x3110
abbrev SNAP_LAST_SEC_HI : Nat := 0x3114
abbrev SNAP_LAST_NS : Nat := 0x3118
abbrev SNAP_LAST_FRAME : Nat := 0x311C
abbrev SNAP_LAST_PHASE : Nat := 0x3120
abbrev SNAP_STATE : Nat := 0x3124
abbrev SNAP_DROPPED : Nat := 0x3128
abbrev SNAP_LATE_PAGES : Nat := 0x312C
abbrev DBG_ACC_ADDR : Nat := 0x4100
abbrev DBG_ACC_DATA : Nat := 0x4104
abbrev DBG_ACC_CTRL : Nat := 0x4108
abbrev DBG_MEM_SITE : Nat := 0x410C
abbrev DBG_MEM_ADDR : Nat := 0x4110
abbrev DBG_MEM_DATA : Nat := 0x4114
abbrev DBG_MEM_CTRL : Nat := 0x4118
abbrev DBG_HALT_REQ_LO : Nat := 0x4120
abbrev DBG_HALT_REQ_HI : Nat := 0x4124
abbrev DBG_RESUME_LO : Nat := 0x4128
abbrev DBG_RESUME_HI : Nat := 0x412C
abbrev DBG_HALTED_LO : Nat := 0x4130
abbrev DBG_HALTED_HI : Nat := 0x4134
abbrev DBG_DEFER_LO : Nat := 0x4138
abbrev DBG_DEFER_HI : Nat := 0x413C
abbrev DBG_STATUS : Nat := 0x4140
abbrev FLT_RING_STATUS : Nat := 0x5100
abbrev FLT_BUDGET : Nat := 0x5104
abbrev FLT_SUPPRESSED : Nat := 0x5108
abbrev FLT_ALERT_MASK : Nat := 0x510C
abbrev FLT_FAULT_MASK : Nat := 0x5110
abbrev FLT_MIRROR_LO : Nat := 0x5114
abbrev FLT_MIRROR_HI : Nat := 0x5118
abbrev FLT_MIRROR_CTRL : Nat := 0x511C
abbrev FLT_MIRROR_STATUS : Nat := 0x5120
abbrev FLT_MIRROR_LOST : Nat := 0x5124
abbrev FLT_CLASS_SEL : Nat := 0x5128
abbrev FLT_CLASS_COUNT : Nat := 0x512C
abbrev FLT_CLS_CFG : Nat := 0x5130
abbrev FLT_IBEX_CTRL : Nat := 0x5140
abbrev FLT_IBEX_CFG : Nat := 0x5144
abbrev FLT_IBEX_PERIOD : Nat := 0x5148
abbrev FLT_IBEX_IMAGE_LO : Nat := 0x514C
abbrev FLT_IBEX_IMAGE_HI : Nat := 0x5150
abbrev FLT_IBEX_STATUS : Nat := 0x5154
abbrev FLT_IBEX_RESULT : Nat := 0x5158
abbrev FLT_IBEX_COUNT : Nat := 0x515C
abbrev FLOOR_STATE : Nat := 0x6100
abbrev FLOOR_PLAN_EPOCH : Nat := 0x6104
abbrev FLOOR_IMAGE_STATUS : Nat := 0x6108
abbrev FLOOR_IMAGE_BASE_LO : Nat := 0x610C
abbrev FLOOR_IMAGE_BASE_HI : Nat := 0x6110
abbrev FLOOR_REFILL_BASE_LO : Nat := 0x6114
abbrev FLOOR_REFILL_BASE_HI : Nat := 0x6118
abbrev FLOOR_PATCH_BASE_LO : Nat := 0x611C
abbrev FLOOR_PATCH_BASE_HI : Nat := 0x6120
abbrev FLOOR_CMD : Nat := 0x6124
abbrev FLOOR_LAST_RECOV : Nat := 0x6128
abbrev FLOOR_LAST_SPARE : Nat := 0x612C
abbrev FLOOR_RECOV_US : Nat := 0x6130
abbrev FLOOR_TRANSIENT_COUNT : Nat := 0x6134
abbrev FLOOR_DEAD_COUNT : Nat := 0x6138
abbrev FLOOR_NOT_UNIT_COUNT : Nat := 0x613C
abbrev FLOOR_SHRINK_COUNT : Nat := 0x6140
abbrev FLOOR_REFILL_STATUS : Nat := 0x6144
abbrev FLOOR_BAD_DOMAINS : Nat := 0x6148
abbrev FLOOR_GHOST_COUNT : Nat := 0x614C
abbrev TIME_NOW_NS : Nat := 0x7100
abbrev TIME_CAP_SEC_LO : Nat := 0x7104
abbrev TIME_CAP_SEC_HI : Nat := 0x7108
abbrev TIME_CAP_FRAME : Nat := 0x710C
abbrev TIME_CAP_PHASE : Nat := 0x7110
abbrev TIME_CAP_TB (i : Nat) : Nat := 0x7114 + 4 * i
abbrev TIME_SET_SEC_LO : Nat := 0x7120
abbrev TIME_SET_SEC_HI : Nat := 0x7124
abbrev TIME_SET_NS : Nat := 0x7128
abbrev TIME_SET_CTRL : Nat := 0x712C
abbrev TIME_SRC : Nat := 0x7130
abbrev TIME_SYNC_STATUS : Nat := 0x7134
abbrev TIME_OFFSET_NS : Nat := 0x7138
abbrev TIME_RATE : Nat := 0x713C
abbrev TIME_STEP_COUNT : Nat := 0x7140
abbrev TIME_DIST_STATUS : Nat := 0x7144
abbrev CAD_CTRL : Nat := 0x8100
abbrev CAD_NOM_PERIOD : Nat := 0x8104
abbrev CAD_LATE_US : Nat := 0x8108
abbrev CAD_STATE : Nat := 0x810C
abbrev CAD_FRAME : Nat := 0x8110
abbrev CAD_PHASE : Nat := 0x8114
abbrev CAD_PERIOD : Nat := 0x8118
abbrev CAD_BOUND_TB (i : Nat) : Nat := 0x811C + 4 * i
abbrev CAD_EARLY_COUNT : Nat := 0x8124
abbrev CAD_MISS_COUNT : Nat := 0x8128
abbrev CAD_LATE_FIRE_COUNT : Nat := 0x812C
abbrev CAD_SCHED_W (i : Nat) : Nat := 0x8140 + 4 * i
abbrev CAD_SCHED_CMD : Nat := 0x8150
abbrev CAD_SCHED_RESULT : Nat := 0x8154
abbrev CAD_SCHED_FREE : Nat := 0x8158
abbrev CAD_FIRE_LOG : Nat := 0x815C
abbrev CAD_EDGE_HIST (i : Nat) : Nat := 0x8200 + 4 * i
abbrev CAD_SCHED (i : Nat) : Nat := 0x8400 + 4 * i
abbrev CLK_OPP (i : Nat) : Nat := 0x9100 + 4 * i
abbrev CLK_CUR : Nat := 0x9120
abbrev CLK_CHG_REQ : Nat := 0x9124
abbrev CLK_CHG_STATE : Nat := 0x9128
abbrev CLK_CHG_TS (i : Nat) : Nat := 0x912C + 4 * i
abbrev CLK_VCO : Nat := 0x9134
abbrev CLK_FIELD_PLL : Nat := 0x9138
abbrev CLK_REF_STATUS : Nat := 0x913C
abbrev CLK_CHG_COUNT : Nat := 0x9140
abbrev CLK_ABORT_COUNT : Nat := 0x9144
abbrev CLK_PLL_UNLOCK_COUNT : Nat := 0x9148
abbrev CLK_REF_LOSS_COUNT : Nat := 0x914C
abbrev CLK_Q_FIELD : Nat := 0x9150
abbrev PWR_SUST_CAP : Nat := 0xA100
abbrev PWR_LIMITS : Nat := 0xA104
abbrev PWR_POWER_NOW : Nat := 0xA108
abbrev PWR_POWER_10MS : Nat := 0xA10C
abbrev PWR_POWER_SUST : Nat := 0xA110
abbrev PWR_THR_CAUSE : Nat := 0xA114
abbrev PWR_HINT_CFG : Nat := 0xA118
abbrev PWR_HERD_SHARE : Nat := 0xA11C
abbrev PWR_HERD_DEFAULT : Nat := 0xA120
abbrev PWR_PERF : Nat := 0xA124
abbrev PWR_FLAGS : Nat := 0xA128
abbrev PWR_FIELD_PWR (i : Nat) : Nat := 0xA130 + 4 * i
abbrev PWR_VSET (i : Nat) : Nat := 0xA160 + 4 * i
abbrev PWR_PHASE_FAIL (i : Nat) : Nat := 0xA190 + 4 * i
abbrev PWR_SENSE_FAIL (i : Nat) : Nat := 0xA1A4 + 4 * i
abbrev PWR_DOM_ON (i : Nat) : Nat := 0xA1C0 + 4 * i
abbrev PWR_DOM_CTRL : Nat := 0xA1D8
abbrev PWR_DROOP_COUNT : Nat := 0xA1E0
abbrev PWR_DROOP_CYCLES : Nat := 0xA1E4
abbrev PWR_STRETCH_ESC_COUNT : Nat := 0xA1E8
abbrev PWR_PHASE_EVENT_COUNT : Nat := 0xA1EC
abbrev PWR_THROTTLE_US : Nat := 0xA1F0
abbrev PWR_OPP_DOWN_COUNT : Nat := 0xA1F4
abbrev THERM_TJ_MAX : Nat := 0xB100
abbrev THERM_HBM_MAX : Nat := 0xB104
abbrev THERM_COOLANT_IN : Nat := 0xB108
abbrev THERM_THRESH : Nat := 0xB10C
abbrev THERM_STATE : Nat := 0xB110
abbrev THERM_SENS_ADDR : Nat := 0xB114
abbrev THERM_SENS_DATA : Nat := 0xB118
abbrev THERM_WARN_COUNT : Nat := 0xB11C
abbrev THERM_THROTTLE_MS : Nat := 0xB120
abbrev THERM_HALT_COUNT : Nat := 0xB124
abbrev STRM_SCHED_CTRL : Nat := 0xC100
abbrev STRM_CMD : Nat := 0xC104
abbrev STRM_REJ_INFO : Nat := 0xC108
abbrev STRM_INFLIGHT : Nat := 0xC10C
abbrev STRM_READY_COUNT : Nat := 0xC110
abbrev STRM_COMMITS_LO : Nat := 0xC114
abbrev STRM_COMMITS_HI : Nat := 0xC118
abbrev STRM_MISS_COUNT : Nat := 0xC11C
abbrev STRM_REPLAY_COUNT : Nat := 0xC120
abbrev STRM_FAULT_COUNT : Nat := 0xC124
abbrev STRM_PROG_ADDR : Nat := 0xC128
abbrev STRM_PROG_DATA : Nat := 0xC12C
abbrev STRM_PROG_VALID (i : Nat) : Nat := 0xC130 + 4 * i
abbrev STRM_RING_BASE_LO (i : Nat) : Nat := 0xC140 + 16 * i
abbrev STRM_RING_CFG (i : Nat) : Nat := 0xC144 + 16 * i
abbrev STRM_RING_PROD (i : Nat) : Nat := 0xC148 + 16 * i
abbrev STRM_RING_CONS (i : Nat) : Nat := 0xC14C + 16 * i
abbrev STRM_SNAP_STREAM (i : Nat) : Nat := 0xC540 + 4 * i
abbrev SEL_CFG : Nat := 0xD100
abbrev SEL_SUM_BASE : Nat := 0xD104
abbrev SEL_REQ : Nat := 0xD108
abbrev SEL_WINDOW : Nat := 0xD10C
abbrev SEL_TILE (i : Nat) : Nat := 0xD140 + 4 * i
abbrev SEL_STATUS (i : Nat) : Nat := 0xD180 + 4 * i
abbrev SEL_SCAN_COUNT : Nat := 0xD1C0
abbrev SEL_SKIP_COUNT : Nat := 0xD1C4
abbrev SEL_REFUSED_COUNT : Nat := 0xD1C8
abbrev SEL_BAD_REQ_COUNT : Nat := 0xD1CC
abbrev CHAN_MODE : Nat := 0xE100
abbrev CHAN_CH_STATUS : Nat := 0xE104
abbrev CHAN_XING_DROP_COUNT : Nat := 0xE108
abbrev CHAN_PAIR_DISAGREE_COUNT : Nat := 0xE10C
abbrev CHAN_PAIR_LAPSE_COUNT : Nat := 0xE110
abbrev CHAN_LAST_PAIR : Nat := 0xE114
abbrev TWIN_CFG : Nat := 0xF100
abbrev TWIN_CMP_RANGE : Nat := 0xF104
abbrev TWIN_REBUILD_PROG : Nat := 0xF108
abbrev TWIN_STATE : Nat := 0xF10C
abbrev TWIN_LAPSED (i : Nat) : Nat := 0xF110 + 4 * i
abbrev TWIN_REBUILDING (i : Nat) : Nat := 0xF118 + 4 * i
abbrev TWIN_DISAGREE_COUNT : Nat := 0xF120
abbrev TWIN_REPEAT_COUNT : Nat := 0xF124
abbrev TWIN_UNRESOLVED_COUNT : Nat := 0xF128
abbrev TWIN_LAPSE_COUNT : Nat := 0xF12C
abbrev TWIN_LATE_DISAGREE_COUNT : Nat := 0xF130
abbrev TWIN_LOST_COUNT : Nat := 0xF134
abbrev TWIN_MAX_LAG : Nat := 0xF138
abbrev TWIN_LINK_RTT : Nat := 0xF13C
abbrev HERD_CFG : Nat := 0x10100
abbrev HERD_BUDGET : Nat := 0x10104
abbrev HERD_POWER_CFG : Nat := 0x10108
abbrev HERD_AGREE : Nat := 0x1010C
abbrev HERD_MASK_BASE_LO : Nat := 0x10110
abbrev HERD_MASK_BASE_HI : Nat := 0x10114
abbrev HERD_STATE : Nat := 0x10118
abbrev HERD_GEN : Nat := 0x1011C
abbrev HERD_MEMBERS (i : Nat) : Nat := 0x10120 + 4 * i
abbrev HERD_EPOCH : Nat := 0x10128
abbrev HERD_DIGEST (i : Nat) : Nat := 0x1012C + 4 * i
abbrev HERD_REFUSE_INFO : Nat := 0x1014C
abbrev HERD_APPLY : Nat := 0x10150
abbrev HERD_FENCE_COUNT : Nat := 0x10154
abbrev HERD_MISMATCH_COUNT : Nat := 0x10158
abbrev HERD_STALE_FRAME_COUNT : Nat := 0x1015C
abbrev PINS_EVT_CFG (i : Nat) : Nat := 0x11100 + 4 * i
abbrev PINS_PIN_LEVEL : Nat := 0x11120
abbrev PINS_ALERT_SRC : Nat := 0x11124
abbrev PINS_FAULT_SRC : Nat := 0x11128
abbrev PINS_FAULT_COND : Nat := 0x1112C
abbrev PINS_EDGE_COUNT (i : Nat) : Nat := 0x11140 + 4 * i
abbrev BOOT_STRAPS : Nat := 0x12100
abbrev BOOT_STAGE : Nat := 0x12104
abbrev BOOT_FW : Nat := 0x12108
abbrev BOOT_BOOT_MS : Nat := 0x1210C
abbrev BOOT_TRAIN : Nat := 0x12110
abbrev BOOT_BIST_BAD : Nat := 0x12114
abbrev BOOT_RESET_STATUS : Nat := 0x12118
abbrev BOOT_CRESET : Nat := 0x1211C
abbrev BOOT_CRESET_COUNT : Nat := 0x12120
abbrev BOOT_AUTH_NONCE (i : Nat) : Nat := 0x12124 + 4 * i
abbrev BOOT_REQ_STATUS : Nat := 0x1212C
abbrev BOOT_RESTART_MS : Nat := 0x12130
abbrev PCIE_LINK (i : Nat) : Nat := 0x13100 + 4 * i
abbrev PCIE_INT_CAUSE : Nat := 0x13108
abbrev PCIE_INT_EN : Nat := 0x1310C
abbrev PCIE_REL_RANGE : Nat := 0x13110
abbrev PCIE_AER_CE_COUNT : Nat := 0x13114
abbrev PCIE_AER_UE_COUNT : Nat := 0x13118
abbrev PCIE_POISON_RX_COUNT : Nat := 0x1311C
abbrev PCIE_DOWN_COUNT : Nat := 0x13120
abbrev SENS_CFG (i : Nat) : Nat := 0x14100 + 64 * i
abbrev SENS_MAC_LO (i : Nat) : Nat := 0x14104 + 64 * i
abbrev SENS_MAC_HI (i : Nat) : Nat := 0x14108 + 64 * i
abbrev SENS_IPV4 (i : Nat) : Nat := 0x1410C + 64 * i
abbrev SENS_IPV6_0 (i : Nat) : Nat := 0x14110 + 64 * i
abbrev SENS_IPV6_1 (i : Nat) : Nat := 0x14114 + 64 * i
abbrev SENS_IPV6_2 (i : Nat) : Nat := 0x14118 + 64 * i
abbrev SENS_IPV6_3 (i : Nat) : Nat := 0x1411C + 64 * i
abbrev SENS_STATUS (i : Nat) : Nat := 0x14120 + 64 * i
abbrev SENS_RX_COUNT (i : Nat) : Nat := 0x14124 + 64 * i
abbrev SENS_DROP_COUNT (i : Nat) : Nat := 0x14128 + 64 * i
abbrev SENS_OVERRUN_COUNT (i : Nat) : Nat := 0x1412C + 64 * i
abbrev SENS_TRUNC_COUNT (i : Nat) : Nat := 0x14130 + 64 * i
abbrev SENS_SEQ_GAP_COUNT (i : Nat) : Nat := 0x14134 + 64 * i
abbrev SENS_PDELAY_NS (i : Nat) : Nat := 0x14138 + 64 * i
abbrev SENS_PAIR_MISS_COUNT (i : Nat) : Nat := 0x1413C + 64 * i
abbrev SENS_FLOW_CTRL (i : Nat) : Nat := 0x14400 + 16 * i
abbrev SENS_KEY_LO (i : Nat) : Nat := 0x14404 + 16 * i
abbrev SENS_KEY_HI (i : Nat) : Nat := 0x14408 + 16 * i
abbrev SENS_FLOW_FRAMES (i : Nat) : Nat := 0x1440C + 16 * i
abbrev SPUR_PORT_STATUS (i : Nat) : Nat := 0x15100 + 4 * i
abbrev SPUR_FEC_CE_COUNT (i : Nat) : Nat := 0x15110 + 4 * i
abbrev SPUR_FEC_UE_COUNT (i : Nat) : Nat := 0x15120 + 4 * i
abbrev SPUR_PORT_EN : Nat := 0x15130
abbrev SPUR_PX_CFG : Nat := 0x15140
abbrev SPUR_PX_SLOT : Nat := 0x15144
abbrev SPUR_PX_TILE : Nat := 0x15148
abbrev SPUR_PX_TX_BASE_LO : Nat := 0x1514C
abbrev SPUR_PX_TX_BASE_HI : Nat := 0x15150
abbrev SPUR_PX_RX_BASE_LO : Nat := 0x15154
abbrev SPUR_PX_RX_BASE_HI : Nat := 0x15158
abbrev SPUR_PX_MASK (i : Nat) : Nat := 0x1515C + 4 * i
abbrev SPUR_PX_COUNT (i : Nat) : Nat := 0x15164 + 4 * i
abbrev SPUR_PX_DROP_COUNT : Nat := 0x1516C
abbrev PMB_BUS_CFG : Nat := 0x16100
abbrev PMB_RAIL (i : Nat) : Nat := 0x16104 + 4 * i
abbrev PMB_SLEW : Nat := 0x16150
abbrev PMB_PHASE_IMAX : Nat := 0x16154
abbrev PMB_VMEM_MV : Nat := 0x16158
abbrev PMB_RAIL_STAT (i : Nat) : Nat := 0x16160 + 4 * i
abbrev PMB_COMM_ERR_COUNT : Nat := 0x161B0
abbrev PMB_ALERT_COUNT : Nat := 0x161B4
abbrev FIELD_HEALTH (u : Nat) : Nat := fieldBase u + 0x100
abbrev FIELD_TILES (u : Nat) : Nat := fieldBase u + 0x104
abbrev FIELD_SPARES (u : Nat) : Nat := fieldBase u + 0x108
abbrev FIELD_TRANSIENTS (u : Nat) : Nat := fieldBase u + 0x10C
abbrev FIELD_IMEM_CE_COUNT (u : Nat) : Nat := fieldBase u + 0x110
abbrev FIELD_MX_CTRL (u : Nat) : Nat := fieldBase u + 0x800
abbrev FIELD_MX_SAT_COUNT (u : Nat) : Nat := fieldBase u + 0x804
abbrev FIELD_MX_CHK_FAIL_COUNT (u : Nat) : Nat := fieldBase u + 0x808
abbrev FIELD_MX_CHK_SKIP_COUNT (u : Nat) : Nat := fieldBase u + 0x80C
abbrev FIELD_MX_SLIP_COUNT (u : Nat) : Nat := fieldBase u + 0x810
abbrev FIELD_MX_RAMP_COUNT (u : Nat) : Nat := fieldBase u + 0x814
abbrev FIELD_FAB_CTRL (u : Nat) : Nat := fieldBase u + 0x900
abbrev FIELD_SEAM_E (u : Nat) : Nat := fieldBase u + 0x904
abbrev FIELD_SEAM_S (u : Nat) : Nat := fieldBase u + 0x908
abbrev FIELD_INJ_STALE_COUNT (u : Nat) : Nat := fieldBase u + 0x90C
abbrev FIELD_INJ_UNMAPPED_COUNT (u : Nat) : Nat := fieldBase u + 0x910
abbrev FIELD_CLOSED_DROP_COUNT (u : Nat) : Nat := fieldBase u + 0x914
abbrev FIELD_FENCED_LINK_DROP_COUNT (u : Nat) : Nat := fieldBase u + 0x918
abbrev FIELD_RED_ABORT_COUNT (u : Nat) : Nat := fieldBase u + 0x91C
abbrev FIELD_RED_MISMATCH_COUNT (u : Nat) : Nat := fieldBase u + 0x920
abbrev FIELD_LINK_CE_COUNT (u : Nat) : Nat := fieldBase u + 0x924
abbrev FIELD_LINK_UE_COUNT (u : Nat) : Nat := fieldBase u + 0x928
abbrev FIELD_SEAM_DROP_COUNT (u : Nat) : Nat := fieldBase u + 0x92C
abbrev FIELD_RT_ADDR (u : Nat) : Nat := fieldBase u + 0x930
abbrev FIELD_RT_DATA (u : Nat) : Nat := fieldBase u + 0x934
abbrev SEQ_PRIV (u : Nat) : Nat := seqBase u + 0x100
abbrev SEQ_GROUP_MATCH (u : Nat) : Nat := seqBase u + 0x104
abbrev SEQ_SEQ_STATE (u : Nat) : Nat := seqBase u + 0x108
abbrev SEQ_FLAGS (u : Nat) : Nat := seqBase u + 0x10C
abbrev SEQ_FAULT_INFO (u : Nat) : Nat := seqBase u + 0x110
abbrev SEQ_FAULT_TILE (u : Nat) : Nat := seqBase u + 0x114
abbrev SEQ_FAULT_TAG (u : Nat) : Nat := seqBase u + 0x118
abbrev SEQ_PC (u : Nat) : Nat := seqBase u + 0x11C
abbrev SEQ_CMD_COUNT_LO (u : Nat) : Nat := seqBase u + 0x120
abbrev SEQ_CMD_COUNT_HI (u : Nat) : Nat := seqBase u + 0x124
abbrev SEQ_CMDQ (u : Nat) : Nat := seqBase u + 0x128
abbrev SEQ_CUR_CMD (u : Nat) (i : Nat) : Nat := seqBase u + 0x130 + 4 * i
abbrev SEQ_LC (u : Nat) (i : Nat) : Nat := seqBase u + 0x150 + 4 * i
abbrev SEQ_LOCKS_HELD (u : Nat) : Nat := seqBase u + 0x170
abbrev SEQ_LOCKS_VALID (u : Nat) : Nat := seqBase u + 0x174
abbrev SEQ_BANK_CTRL (u : Nat) : Nat := seqBase u + 0x180
abbrev SEQ_BANK_CFG_A (u : Nat) : Nat := seqBase u + 0x184
abbrev SEQ_BANK_CFG_B (u : Nat) : Nat := seqBase u + 0x188
abbrev SEQ_IMEM_ADDR (u : Nat) : Nat := seqBase u + 0x18C
abbrev SEQ_IMEM_DATA (u : Nat) : Nat := seqBase u + 0x190
abbrev SEQ_DMA_SRC_LO (u : Nat) : Nat := seqBase u + 0x194
abbrev SEQ_DMA_SRC_HI (u : Nat) : Nat := seqBase u + 0x198
abbrev SEQ_DMA_CTRL (u : Nat) : Nat := seqBase u + 0x19C
abbrev SEQ_BRK_CTRL (u : Nat) : Nat := seqBase u + 0x1A0
abbrev SEQ_BRK_COUNT_LO (u : Nat) : Nat := seqBase u + 0x1A4
abbrev SEQ_BRK_COUNT_HI (u : Nat) : Nat := seqBase u + 0x1A8
abbrev SEQ_BRK_TAG (u : Nat) : Nat := seqBase u + 0x1AC
abbrev TRACE_TR_CTRL (u : Nat) : Nat := traceBase u + 0x100
abbrev TRACE_TR_WR (u : Nat) : Nat := traceBase u + 0x104
abbrev TRACE_TR_REGION (u : Nat) : Nat := traceBase u + 0x108
abbrev TRACE_TR_RD_ADDR (u : Nat) : Nat := traceBase u + 0x10C
abbrev TRACE_TR_RD_DATA (u : Nat) : Nat := traceBase u + 0x110
abbrev TRACE_SPILL (u : Nat) : Nat := traceBase u + 0x114
abbrev TRACE_GAP_COUNT (u : Nat) : Nat := traceBase u + 0x118
abbrev TRACE_LOST_WORDS (u : Nat) : Nat := traceBase u + 0x11C
abbrev MEMP_MAP (u : Nat) : Nat := mempBase u + 0x100
abbrev MEMP_STATUS_MP (u : Nat) : Nat := mempBase u + 0x104
abbrev MEMP_TEMP (u : Nat) : Nat := mempBase u + 0x108
abbrev MEMP_CE_COUNT (u : Nat) : Nat := mempBase u + 0x10C
abbrev MEMP_UE_COUNT (u : Nat) : Nat := mempBase u + 0x110
abbrev MEMP_POISON_COUNT (u : Nat) : Nat := mempBase u + 0x114
abbrev MEMP_RETIRED (u : Nat) : Nat := mempBase u + 0x118
abbrev MEMP_RETIRE_CFG (u : Nat) : Nat := mempBase u + 0x11C
abbrev MEMP_SCRUB_CFG (u : Nat) : Nat := mempBase u + 0x120
abbrev MEMP_SCRUB_POS (u : Nat) : Nat := mempBase u + 0x124
abbrev MEMP_RD_LINES_LO (u : Nat) : Nat := mempBase u + 0x128
abbrev MEMP_RD_LINES_HI (u : Nat) : Nat := mempBase u + 0x12C
abbrev MEMP_WR_LINES_LO (u : Nat) : Nat := mempBase u + 0x130
abbrev MEMP_WR_LINES_HI (u : Nat) : Nat := mempBase u + 0x134
abbrev MEMP_THROTTLE_US (u : Nat) : Nat := mempBase u + 0x138
abbrev MEMP_FIRST_UE_LO (u : Nat) : Nat := mempBase u + 0x13C
abbrev MEMP_FIRST_UE_HI (u : Nat) : Nat := mempBase u + 0x140
abbrev TILE_SITE (u : Nat) : Nat := tileBase u + 0x100
abbrev TILE_BIND (u : Nat) : Nat := tileBase u + 0x104
abbrev TILE_GROUP (u : Nat) : Nat := tileBase u + 0x108
abbrev TILE_FLAGS (u : Nat) : Nat := tileBase u + 0x10C
abbrev TILE_ECC_CE_COUNT (u : Nat) : Nat := tileBase u + 0x110
abbrev TILE_STALE_DROP_COUNT (u : Nat) : Nat := tileBase u + 0x114
abbrev TILE_RQ_DROP_COUNT (u : Nat) : Nat := tileBase u + 0x118
abbrev TILE_WIN_DROP_COUNT (u : Nat) : Nat := tileBase u + 0x11C
abbrev TILE_ENG_STATUS (u : Nat) : Nat := tileBase u + 0x120
abbrev TILE_TOK_TIMEOUT (u : Nat) : Nat := tileBase u + 0x124
abbrev TILE_SCRUB_CTRL (u : Nat) : Nat := tileBase u + 0x128
abbrev TILE_CONFLICT_COUNT (u : Nat) : Nat := tileBase u + 0x12C
abbrev TILE_SR_SEED_LO (u : Nat) : Nat := tileBase u + 0x130
abbrev TILE_SR_SEED_HI (u : Nat) : Nat := tileBase u + 0x134
abbrev TILE_TOK_CFG_0 (u : Nat) : Nat := tileBase u + 0x140
abbrev TILE_TOK_CFG (u : Nat) (i : Nat) : Nat := tileBase u + 0x144 + 4 * i
abbrev TILE_TOK_OCC (u : Nat) (i : Nat) : Nat := tileBase u + 0x180 + 4 * i
abbrev TILE_NBR (u : Nat) (i : Nat) : Nat := tileBase u + 0x1C0 + 4 * i
abbrev TILE_WIN_CFG (u : Nat) (i : Nat) : Nat := tileBase u + 0x1D0 + 8 * i
abbrev TILE_WIN_STATE (u : Nat) (i : Nat) : Nat := tileBase u + 0x1D4 + 8 * i
abbrev TILE_OUTWIN_BASE (u : Nat) (i : Nat) : Nat := tileBase u + 0x1F0 + 8 * i
abbrev TILE_OUTWIN_STATE (u : Nat) (i : Nat) : Nat := tileBase u + 0x1F4 + 8 * i
abbrev TILE_RQ_BASE (u : Nat) (i : Nat) : Nat := tileBase u + 0x210 + 16 * i
abbrev TILE_RQ_CFG (u : Nat) (i : Nat) : Nat := tileBase u + 0x214 + 16 * i
abbrev TILE_RQ_PTR (u : Nat) (i : Nat) : Nat := tileBase u + 0x218 + 16 * i
abbrev TILE_SCRED_DEST (u : Nat) (i : Nat) : Nat := tileBase u + 0x290 + 8 * i
abbrev TILE_SCRED_STATE (u : Nat) (i : Nat) : Nat := tileBase u + 0x294 + 8 * i

end Sys2Proof.Machine
end

