-- ==== Sys2Proof/Machine/RegTable.lean ====
section
/-! DEFINITION. The register tables of the spec's pages: for each register its page offset, how often it repeats,
its access type, its reset value, the bits the table names, the bits a write may change and the configuration bits
of R62. One list per page; the rule of each table is cited above it. -/

namespace Sys2Proof.Machine

/-- The access types of R17 and R48; `mixed` marks a register whose fields differ in type. -/
inductive Acc where
  | rw | ro | rc | w1c | w1s | wo | st | rcap | rp | mixed
deriving DecidableEq, Repr

/-- One row of a register table: `count` registers `stride` bytes apart; register `i` resets to
`reset + resetStep * i`; `named` bits are not RSV; `writable` bits may change by a write; `config` bits enter CFG_DIGEST. -/
structure RegRow where
  off : Nat
  count : Nat
  stride : Nat
  name : String
  acc : Acc
  reset : Nat
  resetStep : Nat
  named : Nat
  writable : Nat
  config : Nat
deriving DecidableEq, Repr

/-- The DEV page (R67, R68, R70). -/
def rowsDev : List RegRow := [
  ⟨0x100, 1, 4, "CAP_HEAD", .ro, 0x200, 0, 0xFFFF, 0x0, 0x0⟩,
  ⟨0x104, 1, 4, "VIOL_ADDR_LO", .ro, 0x0, 0, 0xFFFFFFFF, 0x0, 0x0⟩,
  ⟨0x108, 1, 4, "VIOL_ADDR_HI", .ro, 0x0, 0, 0x7F, 0x0, 0x0⟩,
  ⟨0x10C, 1, 4, "VIOL_INFO", .w1c, 0x0, 0, 0xE0FFFFFF, 0x80000000, 0x0⟩,
  ⟨0x110, 4, 4, "ECID", .ro, 0x0, 0, 0xFFFFFFFF, 0x0, 0x0⟩,
  ⟨0x200, 896, 4, "CAP", .ro, 0x0, 0, 0xFFFFFFFF, 0x0, 0x0⟩]

/-- The LIC page (R598). -/
def rowsLic : List RegRow := [
  ⟨0x100, 1, 4, "STATUS", .ro, 0x0, 0, 0xFF03, 0x0, 0x0⟩,
  ⟨0x104, 1, 4, "PROFILE", .ro, 0x0, 0, 0x3, 0x0, 0x0⟩,
  ⟨0x108, 1, 4, "FEATURES_LO", .ro, 0x0, 0, 0xFFFFFFFF, 0x0, 0x0⟩,
  ⟨0x10C, 1, 4, "FEATURES_HI", .ro, 0x0, 0, 0xFFFFFFFF, 0x0, 0x0⟩,
  ⟨0x110, 1, 4, "SERIAL", .ro, 0x0, 0, 0xFFFFFFFF, 0x0, 0x0⟩,
  ⟨0x114, 1, 4, "SEC_VERSION", .ro, 0x0, 0, 0xFFFFFFFF, 0x0, 0x0⟩,
  ⟨0x118, 1, 4, "FLASH_SERIAL", .ro, 0x0, 0, 0xFFFFFFFF, 0x0, 0x0⟩]

/-- The LOCK page (R71, R72). -/
def rowsLock : List RegRow := [
  ⟨0x100, 256, 4, "LOCK", .rcap, 0x0, 0, 0xC0FFFFFF, 0xC0FFFFFF, 0x0⟩,
  ⟨0x500, 8, 4, "BROKEN_MAP", .ro, 0x0, 0, 0xFFFFFFFF, 0x0, 0x0⟩,
  ⟨0x520, 1, 4, "BREAK", .wo, 0x0, 0, 0xFF, 0xFF, 0x0⟩]

/-- The SNAP page (R95). -/
def rowsSnap : List RegRow := [
  ⟨0x100, 1, 4, "FIRE", .wo, 0x0, 0, 0x1, 0x1, 0x0⟩,
  ⟨0x104, 1, 4, "CTRL", .rw, 0x0, 0, 0x7, 0x7, 0x7⟩,
  ⟨0x108, 1, 4, "FAULT_MASK", .rw, 0x0, 0, 0xFFFFFFFF, 0xFFFFFFFF, 0xFFFFFFFF⟩,
  ⟨0x10C, 1, 4, "LAST_ID", .ro, 0x0, 0, 0xFFFFFFFF, 0x0, 0x0⟩,
  ⟨0x110, 1, 4, "LAST_SEC_LO", .ro, 0x0, 0, 0xFFFFFFFF, 0x0, 0x0⟩,
  ⟨0x114, 1, 4, "LAST_SEC_HI", .ro, 0x0, 0, 0xFFFF, 0x0, 0x0⟩,
  ⟨0x118, 1, 4, "LAST_NS", .ro, 0x0, 0, 0x3FFFFFFF, 0x0, 0x0⟩,
  ⟨0x11C, 1, 4, "LAST_FRAME", .ro, 0x0, 0, 0xFFFFFFFF, 0x0, 0x0⟩,
  ⟨0x120, 1, 4, "LAST_PHASE", .ro, 0x0, 0, 0xFFFFF, 0x0, 0x0⟩,
  ⟨0x124, 1, 4, "STATE", .ro, 0x0, 0, 0x3, 0x0, 0x0⟩,
  ⟨0x128, 1, 4, "DROPPED", .rc, 0x0, 0, 0xFFFFFFFF, 0x0, 0x0⟩,
  ⟨0x12C, 1, 4, "LATE_PAGES", .ro, 0x0, 0, 0xFFFFFFFF, 0x0, 0x0⟩]

/-- The DBG page (R80). -/
def rowsDbg : List RegRow := [
  ⟨0x100, 1, 4, "ACC_ADDR", .rw, 0x0, 0, 0xFFFFFFFF, 0xFFFFFFFF, 0xFFFFFFFF⟩,
  ⟨0x104, 1, 4, "ACC_DATA", .rw, 0x0, 0, 0xFFFFFFFF, 0xFFFFFFFF, 0xFFFFFFFF⟩,
  ⟨0x108, 1, 4, "ACC_CTRL", .mixed, 0x0, 0, 0xFF07, 0x7, 0x6⟩,
  ⟨0x10C, 1, 4, "MEM_SITE", .rw, 0x0, 0, 0x3FFF, 0x3FFF, 0x3FFF⟩,
  ⟨0x110, 1, 4, "MEM_ADDR", .rw, 0x0, 0, 0xFFFFFFFF, 0xFFFFFFFF, 0xFFFFFFFF⟩,
  ⟨0x114, 1, 4, "MEM_DATA", .rw, 0x0, 0, 0xFFFFFFFF, 0xFFFFFFFF, 0x0⟩,
  ⟨0x118, 1, 4, "MEM_CTRL", .rw, 0x0, 0, 0x1, 0x1, 0x1⟩,
  ⟨0x120, 1, 4, "HALT_REQ_LO", .w1s, 0x0, 0, 0xFFFFFFFF, 0xFFFFFFFF, 0x0⟩,
  ⟨0x124, 1, 4, "HALT_REQ_HI", .w1s, 0x0, 0, 0xFFFF, 0xFFFF, 0x0⟩,
  ⟨0x128, 1, 4, "RESUME_LO", .w1s, 0x0, 0, 0xFFFFFFFF, 0xFFFFFFFF, 0x0⟩,
  ⟨0x12C, 1, 4, "RESUME_HI", .w1s, 0x0, 0, 0xFFFF, 0xFFFF, 0x0⟩,
  ⟨0x130, 1, 4, "HALTED_LO", .ro, 0x0, 0, 0xFFFFFFFF, 0x0, 0x0⟩,
  ⟨0x134, 1, 4, "HALTED_HI", .ro, 0x0, 0, 0xFFFF, 0x0, 0x0⟩,
  ⟨0x138, 1, 4, "DEFER_LO", .ro, 0x0, 0, 0xFFFFFFFF, 0x0, 0x0⟩,
  ⟨0x13C, 1, 4, "DEFER_HI", .ro, 0x0, 0, 0xFFFF, 0x0, 0x0⟩,
  ⟨0x140, 1, 4, "STATUS", .ro, 0x0, 0, 0x1, 0x0, 0x0⟩]

/-- The FLT page (R515). -/
def rowsFlt : List RegRow := [
  ⟨0x100, 1, 4, "RING_STATUS", .ro, 0x0, 0, 0xFFFF1FFF, 0x0, 0x0⟩,
  ⟨0x104, 1, 4, "BUDGET", .st, 0x10, 0, 0xFF, 0xFF, 0xFF⟩,
  ⟨0x108, 1, 4, "SUPPRESSED", .rc, 0x0, 0, 0xFFFFFFFF, 0x0, 0x0⟩,
  ⟨0x10C, 1, 4, "ALERT_MASK", .st, 0x0, 0, 0xFFFFFFFF, 0xFFFFFFFF, 0xFFFFFFFF⟩,
  ⟨0x110, 1, 4, "FAULT_MASK", .st, 0x0, 0, 0xFFFFFFFF, 0xFFFFFFFF, 0xFFFFFFFF⟩,
  ⟨0x114, 1, 4, "MIRROR_LO", .st, 0x0, 0, 0xFFFFFFFF, 0xFFFFFFFF, 0xFFFFFFFF⟩,
  ⟨0x118, 1, 4, "MIRROR_HI", .st, 0x0, 0, 0xFFFFFFFF, 0xFFFFFFFF, 0xFFFFFFFF⟩,
  ⟨0x11C, 1, 4, "MIRROR_CTRL", .st, 0x0, 0, 0x1, 0x1, 0x1⟩,
  ⟨0x120, 1, 4, "MIRROR_STATUS", .ro, 0x0, 0, 0x1, 0x0, 0x0⟩,
  ⟨0x124, 1, 4, "MIRROR_LOST", .rc, 0x0, 0, 0xFFFFFFFF, 0x0, 0x0⟩,
  ⟨0x128, 1, 4, "CLASS_SEL", .rw, 0x0, 0, 0x1F, 0x1F, 0x0⟩,
  ⟨0x12C, 1, 4, "CLASS_COUNT", .ro, 0x0, 0, 0xFFFFFFFF, 0x0, 0x0⟩,
  ⟨0x130, 1, 4, "CLS_CFG", .st, 0x13C04, 0, 0x1FFFF, 0x1FFFF, 0x1FFFF⟩,
  ⟨0x140, 1, 4, "IBEX_CTRL", .mixed, 0x0, 0, 0x30F, 0x30F, 0x0⟩,
  ⟨0x144, 1, 4, "IBEX_CFG", .st, 0x282C05, 0, 0xFFFF1F, 0xFFFF1F, 0xFFFF1F⟩,
  ⟨0x148, 1, 4, "IBEX_PERIOD", .st, 0x18, 0, 0xFF, 0xFF, 0xFF⟩,
  ⟨0x14C, 1, 4, "IBEX_IMAGE_LO", .st, 0x0, 0, 0xFFFFFFFF, 0xFFFFFFFF, 0xFFFFFFFF⟩,
  ⟨0x150, 1, 4, "IBEX_IMAGE_HI", .st, 0x0, 0, 0x7F, 0x7F, 0x7F⟩,
  ⟨0x154, 1, 4, "IBEX_STATUS", .ro, 0x0, 0, 0x7FF7, 0x0, 0x0⟩,
  ⟨0x158, 1, 4, "IBEX_RESULT", .ro, 0x0, 0, 0x3FFFFFFF, 0x0, 0x0⟩,
  ⟨0x15C, 1, 4, "IBEX_COUNT", .rc, 0x0, 0, 0xFFFFFFFF, 0x0, 0x0⟩]

/-- The FLOOR page (R518). -/
def rowsFloor : List RegRow := [
  ⟨0x100, 1, 4, "STATE", .ro, 0x0, 0, 0x1F337, 0x0, 0x0⟩,
  ⟨0x104, 1, 4, "PLAN_EPOCH", .ro, 0x0, 0, 0xFFFFFFFF, 0x0, 0x0⟩,
  ⟨0x108, 1, 4, "IMAGE_STATUS", .ro, 0x0, 0, 0x3FFF0001, 0x0, 0x0⟩,
  ⟨0x10C, 1, 4, "IMAGE_BASE_LO", .st, 0x0, 0, 0xFFFFFFFF, 0xFFFFFFFF, 0xFFFFFFFF⟩,
  ⟨0x110, 1, 4, "IMAGE_BASE_HI", .st, 0x0, 0, 0x7F, 0x7F, 0x7F⟩,
  ⟨0x114, 1, 4, "REFILL_BASE_LO", .st, 0x0, 0, 0xFFFFFFFF, 0xFFFFFFFF, 0xFFFFFFFF⟩,
  ⟨0x118, 1, 4, "REFILL_BASE_HI", .st, 0x0, 0, 0x7F, 0x7F, 0x7F⟩,
  ⟨0x11C, 1, 4, "PATCH_BASE_LO", .st, 0x0, 0, 0xFFFFFFFF, 0xFFFFFFFF, 0xFFFFFFFF⟩,
  ⟨0x120, 1, 4, "PATCH_BASE_HI", .st, 0x0, 0, 0x7F, 0x7F, 0x7F⟩,
  ⟨0x124, 1, 4, "CMD", .wo, 0x0, 0, 0xF3FFF, 0xF3FFF, 0x0⟩,
  ⟨0x128, 1, 4, "LAST_RECOV", .ro, 0x0, 0, 0x3FFFFFFF, 0x0, 0x0⟩,
  ⟨0x12C, 1, 4, "LAST_SPARE", .ro, 0x0, 0, 0x3FFF3FFF, 0x0, 0x0⟩,
  ⟨0x130, 1, 4, "RECOV_US", .ro, 0x0, 0, 0xFFFFFFFF, 0x0, 0x0⟩,
  ⟨0x134, 1, 4, "TRANSIENT_COUNT", .rc, 0x0, 0, 0xFFFFFFFF, 0x0, 0x0⟩,
  ⟨0x138, 1, 4, "DEAD_COUNT", .rc, 0x0, 0, 0xFFFFFFFF, 0x0, 0x0⟩,
  ⟨0x13C, 1, 4, "NOT_UNIT_COUNT", .rc, 0x0, 0, 0xFFFFFFFF, 0x0, 0x0⟩,
  ⟨0x140, 1, 4, "SHRINK_COUNT", .rc, 0x0, 0, 0xFFFFFFFF, 0x0, 0x0⟩,
  ⟨0x144, 1, 4, "REFILL_STATUS", .ro, 0x0, 0, 0x1FFF01FF, 0x0, 0x0⟩,
  ⟨0x148, 1, 4, "BAD_DOMAINS", .ro, 0x0, 0, 0xFF, 0x0, 0x0⟩,
  ⟨0x14C, 1, 4, "GHOST_COUNT", .rc, 0x0, 0, 0xFFFFFFFF, 0x0, 0x0⟩]

/-- The TIME page (R426). -/
def rowsTime : List RegRow := [
  ⟨0x100, 1, 4, "NOW_NS", .rcap, 0x0, 0, 0x3FFFFFFF, 0x0, 0x0⟩,
  ⟨0x104, 1, 4, "CAP_SEC_LO", .ro, 0x0, 0, 0xFFFFFFFF, 0x0, 0x0⟩,
  ⟨0x108, 1, 4, "CAP_SEC_HI", .ro, 0x0, 0, 0xFFFF, 0x0, 0x0⟩,
  ⟨0x10C, 1, 4, "CAP_FRAME", .ro, 0x0, 0, 0xFFFFFFFF, 0x0, 0x0⟩,
  ⟨0x110, 1, 4, "CAP_PHASE", .ro, 0x0, 0, 0xFFFF, 0x0, 0x0⟩,
  ⟨0x114, 2, 4, "CAP_TB", .ro, 0x0, 0, 0xFFFFFFFF, 0x0, 0x0⟩,
  ⟨0x120, 1, 4, "SET_SEC_LO", .st, 0x0, 0, 0xFFFFFFFF, 0xFFFFFFFF, 0x0⟩,
  ⟨0x124, 1, 4, "SET_SEC_HI", .st, 0x0, 0, 0xFFFF, 0xFFFF, 0x0⟩,
  ⟨0x128, 1, 4, "SET_NS", .st, 0x0, 0, 0x3FFFFFFF, 0x3FFFFFFF, 0x0⟩,
  ⟨0x12C, 1, 4, "SET_CTRL", .mixed, 0x0, 0, 0x10F, 0xF, 0x0⟩,
  ⟨0x130, 1, 4, "SRC", .st, 0x0, 0, 0x73, 0x73, 0x73⟩,
  ⟨0x134, 1, 4, "SYNC_STATUS", .ro, 0x0, 0, 0x3, 0x0, 0x0⟩,
  ⟨0x138, 1, 4, "OFFSET_NS", .ro, 0x0, 0, 0xFFFFFFFF, 0x0, 0x0⟩,
  ⟨0x13C, 1, 4, "RATE", .ro, 0x0, 0, 0xFFFFFFFF, 0x0, 0x0⟩,
  ⟨0x140, 1, 4, "STEP_COUNT", .rc, 0x0, 0, 0xFFFFFFFF, 0x0, 0x0⟩,
  ⟨0x144, 1, 4, "DIST_STATUS", .ro, 0xFFF, 0, 0xFFF, 0x0, 0x0⟩]

/-- The CAD page (R411, R419, R423). -/
def rowsCad : List RegRow := [
  ⟨0x100, 1, 4, "CTRL", .st, 0x600, 0, 0xF07, 0xF07, 0xF07⟩,
  ⟨0x104, 1, 4, "NOM_PERIOD", .st, 0x186A0, 0, 0x3FFFF, 0x3FFFF, 0x3FFFF⟩,
  ⟨0x108, 1, 4, "LATE_US", .st, 0x14, 0, 0x3FF, 0x3FF, 0x3FF⟩,
  ⟨0x10C, 1, 4, "STATE", .ro, 0x0, 0, 0x307, 0x0, 0x0⟩,
  ⟨0x110, 1, 4, "FRAME", .ro, 0x0, 0, 0xFFFFFFFF, 0x0, 0x0⟩,
  ⟨0x114, 1, 4, "PHASE", .ro, 0x0, 0, 0xFFFF, 0x0, 0x0⟩,
  ⟨0x118, 1, 4, "PERIOD", .ro, 0x0, 0, 0xFFFFFFF, 0x0, 0x0⟩,
  ⟨0x11C, 2, 4, "BOUND_TB", .ro, 0x0, 0, 0xFFFFFFFF, 0x0, 0x0⟩,
  ⟨0x124, 1, 4, "EARLY_COUNT", .rc, 0x0, 0, 0xFFFFFFFF, 0x0, 0x0⟩,
  ⟨0x128, 1, 4, "MISS_COUNT", .rc, 0x0, 0, 0xFFFFFFFF, 0x0, 0x0⟩,
  ⟨0x12C, 1, 4, "LATE_FIRE_COUNT", .rc, 0x0, 0, 0xFFFFFFFF, 0x0, 0x0⟩,
  ⟨0x140, 4, 4, "SCHED_W", .rw, 0x0, 0, 0xFFFFFFFF, 0xFFFFFFFF, 0x0⟩,
  ⟨0x150, 1, 4, "SCHED_CMD", .wo, 0x0, 0, 0x3F03, 0x3F03, 0x0⟩,
  ⟨0x154, 1, 4, "SCHED_RESULT", .ro, 0x0, 0, 0x8000003F, 0x0, 0x0⟩,
  ⟨0x158, 1, 4, "SCHED_FREE", .ro, 0x40, 0, 0x7F, 0x0, 0x0⟩,
  ⟨0x15C, 1, 4, "FIRE_LOG", .rp, 0x0, 0, 0xFFFFFFFF, 0x0, 0x0⟩,
  ⟨0x200, 32, 4, "EDGE_HIST", .ro, 0x0, 0, 0xFFFFFFFF, 0x0, 0x0⟩,
  ⟨0x400, 256, 4, "SCHED", .ro, 0x0, 0, 0xFFFFFFFF, 0x0, 0x0⟩]

/-- The CLK page (R442). -/
def rowsClk : List RegRow := [
  ⟨0x100, 8, 4, "OPP", .st, 0x0, 0, 0x83FF001F, 0x83FF001F, 0x83FF001F⟩,
  ⟨0x120, 1, 4, "CUR", .ro, 0x607, 0, 0x1F07, 0x0, 0x0⟩,
  ⟨0x124, 1, 4, "CHG_REQ", .wo, 0x0, 0, 0x7, 0x7, 0x0⟩,
  ⟨0x128, 1, 4, "CHG_STATE", .ro, 0x0, 0, 0x173, 0x0, 0x0⟩,
  ⟨0x12C, 2, 4, "CHG_TS", .ro, 0x0, 0, 0xFFFFFFFF, 0x0, 0x0⟩,
  ⟨0x134, 1, 4, "VCO", .ro, 0x0, 0, 0x3FFF, 0x0, 0x0⟩,
  ⟨0x138, 1, 4, "FIELD_PLL", .ro, 0x0, 0, 0xFFF0FFF, 0x0, 0x0⟩,
  ⟨0x13C, 1, 4, "REF_STATUS", .w1c, 0x0, 0, 0x3, 0x2, 0x0⟩,
  ⟨0x140, 1, 4, "CHG_COUNT", .rc, 0x0, 0, 0xFFFFFFFF, 0x0, 0x0⟩,
  ⟨0x144, 1, 4, "ABORT_COUNT", .rc, 0x0, 0, 0xFFFFFFFF, 0x0, 0x0⟩,
  ⟨0x148, 1, 4, "PLL_UNLOCK_COUNT", .rc, 0x0, 0, 0xFFFFFFFF, 0x0, 0x0⟩,
  ⟨0x14C, 1, 4, "REF_LOSS_COUNT", .rc, 0x0, 0, 0xFFFFFFFF, 0x0, 0x0⟩,
  ⟨0x150, 1, 4, "Q_FIELD", .rw, 0x0, 0, 0x80001F0F, 0x80001F0F, 0x0⟩]

/-- The PWR page (R476). -/
def rowsPwr : List RegRow := [
  ⟨0x100, 1, 4, "SUST_CAP", .st, 0xA0000, 0, 0xFFFFFF, 0xFFFFFF, 0xFFFFFF⟩,
  ⟨0x104, 1, 4, "LIMITS", .ro, 0x0, 0, 0xFFFFFFFF, 0x0, 0x0⟩,
  ⟨0x108, 1, 4, "POWER_NOW", .ro, 0x0, 0, 0x8000FFFF, 0x0, 0x0⟩,
  ⟨0x10C, 1, 4, "POWER_10MS", .ro, 0x0, 0, 0xFFFF, 0x0, 0x0⟩,
  ⟨0x110, 1, 4, "POWER_SUST", .ro, 0x0, 0, 0xFFFF, 0x0, 0x0⟩,
  ⟨0x114, 1, 4, "THR_CAUSE", .ro, 0x0, 0, 0x7F, 0x0, 0x0⟩,
  ⟨0x118, 1, 4, "HINT_CFG", .st, 0x231E, 0, 0x3F3F, 0x3F3F, 0x3F3F⟩,
  ⟨0x11C, 1, 4, "HERD_SHARE", .rw, 0x0, 0, 0x8000FFFF, 0x8000FFFF, 0x0⟩,
  ⟨0x120, 1, 4, "HERD_DEFAULT", .st, 0x0, 0, 0xFFFF, 0xFFFF, 0xFFFF⟩,
  ⟨0x124, 1, 4, "PERF", .ro, 0x0, 0, 0xFFFF0007, 0x0, 0x0⟩,
  ⟨0x128, 1, 4, "FLAGS", .w1c, 0x0, 0, 0x3, 0x3, 0x0⟩,
  ⟨0x130, 12, 4, "FIELD_PWR", .ro, 0x42D0, 0, 0x43FF7FFF, 0x0, 0x0⟩,
  ⟨0x160, 12, 4, "VSET", .ro, 0x0, 0, 0x3FF3FFF, 0x0, 0x0⟩,
  ⟨0x190, 5, 4, "PHASE_FAIL", .ro, 0x0, 0, 0xFFFFFFFF, 0x0, 0x0⟩,
  ⟨0x1A4, 5, 4, "SENSE_FAIL", .ro, 0x0, 0, 0xFFFFFFFF, 0x0, 0x0⟩,
  ⟨0x1C0, 6, 4, "DOM_ON", .ro, 0x0, 0, 0xFFFFFFFF, 0x0, 0x0⟩,
  ⟨0x1D8, 1, 4, "DOM_CTRL", .wo, 0x0, 0, 0x1FF, 0x1FF, 0x0⟩,
  ⟨0x1E0, 1, 4, "DROOP_COUNT", .rc, 0x0, 0, 0xFFFFFFFF, 0x0, 0x0⟩,
  ⟨0x1E4, 1, 4, "DROOP_CYCLES", .rc, 0x0, 0, 0xFFFFFFFF, 0x0, 0x0⟩,
  ⟨0x1E8, 1, 4, "STRETCH_ESC_COUNT", .rc, 0x0, 0, 0xFFFFFFFF, 0x0, 0x0⟩,
  ⟨0x1EC, 1, 4, "PHASE_EVENT_COUNT", .rc, 0x0, 0, 0xFFFFFFFF, 0x0, 0x0⟩,
  ⟨0x1F0, 1, 4, "THROTTLE_US", .rc, 0x0, 0, 0xFFFFFFFF, 0x0, 0x0⟩,
  ⟨0x1F4, 1, 4, "OPP_DOWN_COUNT", .rc, 0x0, 0, 0xFFFFFFFF, 0x0, 0x0⟩]

/-- The THERM page (R478). -/
def rowsTherm : List RegRow := [
  ⟨0x100, 1, 4, "TJ_MAX", .ro, 0x0, 0, 0xFFFFFF, 0x0, 0x0⟩,
  ⟨0x104, 1, 4, "HBM_MAX", .ro, 0x0, 0, 0x7FFFF, 0x0, 0x0⟩,
  ⟨0x108, 1, 4, "COOLANT_IN", .rw, 0x0, 0, 0x8000FFFF, 0x8000FFFF, 0x0⟩,
  ⟨0x10C, 1, 4, "THRESH", .st, 0x62, 0, 0xFF, 0xFF, 0xFF⟩,
  ⟨0x110, 1, 4, "STATE", .ro, 0x0, 0, 0x307, 0x0, 0x0⟩,
  ⟨0x114, 1, 4, "SENS_ADDR", .rw, 0x0, 0, 0xFF, 0xFF, 0x0⟩,
  ⟨0x118, 1, 4, "SENS_DATA", .ro, 0x0, 0, 0xFFFF, 0x0, 0x0⟩,
  ⟨0x11C, 1, 4, "WARN_COUNT", .rc, 0x0, 0, 0xFFFFFFFF, 0x0, 0x0⟩,
  ⟨0x120, 1, 4, "THROTTLE_MS", .rc, 0x0, 0, 0xFFFFFFFF, 0x0, 0x0⟩,
  ⟨0x124, 1, 4, "HALT_COUNT", .rc, 0x0, 0, 0xFFFFFFFF, 0x0, 0x0⟩]

/-- The STRM page (R359, R360). -/
def rowsStrm : List RegRow := [
  ⟨0x100, 1, 4, "SCHED_CTRL", .st, 0x300, 0, 0xF01, 0xF01, 0xF01⟩,
  ⟨0x104, 1, 4, "CMD", .wo, 0x0, 0, 0xFFFFFFFF, 0xFFFFFFFF, 0x0⟩,
  ⟨0x108, 1, 4, "REJ_INFO", .ro, 0x0, 0, 0x801F3FFF, 0x0, 0x0⟩,
  ⟨0x10C, 1, 4, "INFLIGHT", .ro, 0x0, 0, 0xF, 0x0, 0x0⟩,
  ⟨0x110, 1, 4, "READY_COUNT", .ro, 0x0, 0, 0x7FFF, 0x0, 0x0⟩,
  ⟨0x114, 1, 4, "COMMITS_LO", .ro, 0x0, 0, 0xFFFFFFFF, 0x0, 0x0⟩,
  ⟨0x118, 1, 4, "COMMITS_HI", .ro, 0x0, 0, 0xFFFF, 0x0, 0x0⟩,
  ⟨0x11C, 1, 4, "MISS_COUNT", .rc, 0x0, 0, 0xFFFFFFFF, 0x0, 0x0⟩,
  ⟨0x120, 1, 4, "REPLAY_COUNT", .rc, 0x0, 0, 0xFFFFFFFF, 0x0, 0x0⟩,
  ⟨0x124, 1, 4, "FAULT_COUNT", .rc, 0x0, 0, 0xFFFFFFFF, 0x0, 0x0⟩,
  ⟨0x128, 1, 4, "PROG_ADDR", .rw, 0x0, 0, 0x3F3F, 0x3F3F, 0x0⟩,
  ⟨0x12C, 1, 4, "PROG_DATA", .rw, 0x0, 0, 0xFFFFFFFF, 0xFFFFFFFF, 0x0⟩,
  ⟨0x130, 2, 4, "PROG_VALID", .ro, 0x0, 0, 0xFFFFFFFF, 0x0, 0x0⟩,
  ⟨0x140, 64, 16, "RING_BASE_LO", .rw, 0x0, 0, 0xFFFFFFFF, 0xFFFFFFFF, 0xFFFFFFFF⟩,
  ⟨0x144, 64, 16, "RING_CFG", .rw, 0x0, 0, 0x8F1FFF7F, 0x8F1FFF7F, 0x8F1FFF7F⟩,
  ⟨0x148, 64, 16, "RING_PROD", .rw, 0x0, 0, 0xFFFFFFFF, 0xFFFFFFFF, 0x0⟩,
  ⟨0x14C, 64, 16, "RING_CONS", .ro, 0x0, 0, 0xFFFFFFFF, 0x0, 0x0⟩,
  ⟨0x540, 4, 4, "SNAP_STREAM", .rw, 0x0, 0, 0x80003FFF, 0x80003FFF, 0x0⟩]

/-- The SEL page (R362). -/
def rowsSel : List RegRow := [
  ⟨0x100, 1, 4, "CFG", .st, 0x0, 0, 0xFF7FFF07, 0xFF7FFF07, 0xFF7FFF07⟩,
  ⟨0x104, 1, 4, "SUM_BASE", .st, 0x0, 0, 0x1FFFFF, 0x1FFFFF, 0x1FFFFF⟩,
  ⟨0x108, 1, 4, "REQ", .st, 0x0, 0, 0xFF3F, 0xFF3F, 0xFF3F⟩,
  ⟨0x10C, 1, 4, "WINDOW", .st, 0x0, 0, 0x7FFFFF, 0x7FFFFF, 0x7FFFFF⟩,
  ⟨0x140, 12, 4, "TILE", .st, 0x0, 1088, 0x3FFF, 0x3FFF, 0x3FFF⟩,
  ⟨0x180, 12, 4, "STATUS", .ro, 0x0, 0, 0xFF07, 0x0, 0x0⟩,
  ⟨0x1C0, 1, 4, "SCAN_COUNT", .rc, 0x0, 0, 0xFFFFFFFF, 0x0, 0x0⟩,
  ⟨0x1C4, 1, 4, "SKIP_COUNT", .rc, 0x0, 0, 0xFFFFFFFF, 0x0, 0x0⟩,
  ⟨0x1C8, 1, 4, "REFUSED_COUNT", .rc, 0x0, 0, 0xFFFFFFFF, 0x0, 0x0⟩,
  ⟨0x1CC, 1, 4, "BAD_REQ_COUNT", .rc, 0x0, 0, 0xFFFFFFFF, 0x0, 0x0⟩]

/-- The CHAN page (R558). -/
def rowsChan : List RegRow := [
  ⟨0x100, 1, 4, "MODE", .st, 0x0, 0, 0x3, 0x3, 0x3⟩,
  ⟨0x104, 1, 4, "CH_STATUS", .ro, 0x0, 0, 0x7, 0x0, 0x0⟩,
  ⟨0x108, 1, 4, "XING_DROP_COUNT", .rc, 0x0, 0, 0xFFFFFFFF, 0x0, 0x0⟩,
  ⟨0x10C, 1, 4, "PAIR_DISAGREE_COUNT", .rc, 0x0, 0, 0xFFFFFFFF, 0x0, 0x0⟩,
  ⟨0x110, 1, 4, "PAIR_LAPSE_COUNT", .rc, 0x0, 0, 0xFFFFFFFF, 0x0, 0x0⟩,
  ⟨0x114, 1, 4, "LAST_PAIR", .ro, 0x0, 0, 0xFFFF3FFF, 0x0, 0x0⟩]

/-- The TWIN page (R560). -/
def rowsTwin : List RegRow := [
  ⟨0x100, 1, 4, "CFG", .st, 0x1900020, 0, 0xFFF00F1, 0xFFF00F1, 0xFFF00F1⟩,
  ⟨0x104, 1, 4, "CMP_RANGE", .st, 0x0, 0, 0x3F3FFF, 0x3F3FFF, 0x3F3FFF⟩,
  ⟨0x108, 1, 4, "REBUILD_PROG", .st, 0x0, 0, 0x3F, 0x3F, 0x3F⟩,
  ⟨0x10C, 1, 4, "STATE", .ro, 0x0, 0, 0x3737, 0x0, 0x0⟩,
  ⟨0x110, 2, 4, "LAPSED", .ro, 0x0, 0, 0xFFFFFFFF, 0x0, 0x0⟩,
  ⟨0x118, 2, 4, "REBUILDING", .ro, 0x0, 0, 0xFFFFFFFF, 0x0, 0x0⟩,
  ⟨0x120, 1, 4, "DISAGREE_COUNT", .rc, 0x0, 0, 0xFFFFFFFF, 0x0, 0x0⟩,
  ⟨0x124, 1, 4, "REPEAT_COUNT", .rc, 0x0, 0, 0xFFFFFFFF, 0x0, 0x0⟩,
  ⟨0x128, 1, 4, "UNRESOLVED_COUNT", .rc, 0x0, 0, 0xFFFFFFFF, 0x0, 0x0⟩,
  ⟨0x12C, 1, 4, "LAPSE_COUNT", .rc, 0x0, 0, 0xFFFFFFFF, 0x0, 0x0⟩,
  ⟨0x130, 1, 4, "LATE_DISAGREE_COUNT", .rc, 0x0, 0, 0xFFFFFFFF, 0x0, 0x0⟩,
  ⟨0x134, 1, 4, "LOST_COUNT", .rc, 0x0, 0, 0xFFFFFFFF, 0x0, 0x0⟩,
  ⟨0x138, 1, 4, "MAX_LAG", .ro, 0x0, 0, 0x1FF, 0x0, 0x0⟩,
  ⟨0x13C, 1, 4, "LINK_RTT", .ro, 0x0, 0, 0xFFFF, 0x0, 0x0⟩]

/-- The HERD page (R561). -/
def rowsHerd : List RegRow := [
  ⟨0x100, 1, 4, "CFG", .st, 0x0, 0, 0x833FFFFF, 0x833FFFFF, 0x833FFFFF⟩,
  ⟨0x104, 1, 4, "BUDGET", .st, 0x0, 0, 0x7FFFF, 0x7FFFF, 0x7FFFF⟩,
  ⟨0x108, 1, 4, "POWER_CFG", .st, 0x4000C8, 0, 0xFFFF1FFF, 0xFFFF1FFF, 0xFFFF1FFF⟩,
  ⟨0x10C, 1, 4, "AGREE", .st, 0x40001000, 0, 0xFFFFFFFF, 0xFFFFFFFF, 0xFFFFFFFF⟩,
  ⟨0x110, 1, 4, "MASK_BASE_LO", .st, 0x0, 0, 0xFFFFFFFF, 0xFFFFFFFF, 0xFFFFFFFF⟩,
  ⟨0x114, 1, 4, "MASK_BASE_HI", .st, 0x0, 0, 0x7F, 0x7F, 0x7F⟩,
  ⟨0x118, 1, 4, "STATE", .ro, 0x0, 0, 0xF37F3F07, 0x0, 0x0⟩,
  ⟨0x11C, 1, 4, "GEN", .ro, 0x0, 0, 0xFF, 0x0, 0x0⟩,
  ⟨0x120, 2, 4, "MEMBERS", .ro, 0x0, 0, 0xFFFFFFFF, 0x0, 0x0⟩,
  ⟨0x128, 1, 4, "EPOCH", .ro, 0x0, 0, 0xFFFFFFFF, 0x0, 0x0⟩,
  ⟨0x12C, 8, 4, "DIGEST", .ro, 0x0, 0, 0xFFFFFFFF, 0x0, 0x0⟩,
  ⟨0x14C, 1, 4, "REFUSE_INFO", .ro, 0x0, 0, 0x3FFF, 0x0, 0x0⟩,
  ⟨0x150, 1, 4, "APPLY", .wo, 0x0, 0, 0xF3FFF, 0xF3FFF, 0x0⟩,
  ⟨0x154, 1, 4, "FENCE_COUNT", .rc, 0x0, 0, 0xFFFFFFFF, 0x0, 0x0⟩,
  ⟨0x158, 1, 4, "MISMATCH_COUNT", .rc, 0x0, 0, 0xFFFFFFFF, 0x0, 0x0⟩,
  ⟨0x15C, 1, 4, "STALE_FRAME_COUNT", .rc, 0x0, 0, 0xFFFFFFFF, 0x0, 0x0⟩]

/-- The PINS page (R628). -/
def rowsPins : List RegRow := [
  ⟨0x100, 8, 4, "EVT_CFG", .mixed, 0x0, 0, 0xFFFF1F, 0xFF1F, 0xFF1F⟩,
  ⟨0x120, 1, 4, "PIN_LEVEL", .ro, 0x0, 0, 0x3FFF, 0x0, 0x0⟩,
  ⟨0x124, 1, 4, "ALERT_SRC", .w1c, 0x0, 0, 0x3, 0x3, 0x0⟩,
  ⟨0x128, 1, 4, "FAULT_SRC", .w1c, 0x0, 0, 0x3, 0x3, 0x0⟩,
  ⟨0x12C, 1, 4, "FAULT_COND", .ro, 0x0, 0, 0x3F, 0x0, 0x0⟩,
  ⟨0x140, 8, 4, "EDGE_COUNT", .rc, 0x0, 0, 0xFFFFFFFF, 0x0, 0x0⟩]

/-- The BOOT page (R597). -/
def rowsBoot : List RegRow := [
  ⟨0x100, 1, 4, "STRAPS", .ro, 0x0, 0, 0x13, 0x0, 0x0⟩,
  ⟨0x104, 1, 4, "STAGE", .ro, 0x0, 0, 0x800000FF, 0x0, 0x0⟩,
  ⟨0x108, 1, 4, "FW", .ro, 0x0, 0, 0xFFFF0007, 0x0, 0x0⟩,
  ⟨0x10C, 1, 4, "BOOT_MS", .ro, 0x0, 0, 0xFFFF, 0x0, 0x0⟩,
  ⟨0x110, 1, 4, "TRAIN", .ro, 0x0, 0, 0xFFFF, 0x0, 0x0⟩,
  ⟨0x114, 1, 4, "BIST_BAD", .ro, 0x0, 0, 0x3FFF, 0x0, 0x0⟩,
  ⟨0x118, 1, 4, "RESET_STATUS", .ro, 0x0, 0, 0xFF, 0x0, 0x0⟩,
  ⟨0x11C, 1, 4, "CRESET", .wo, 0x0, 0, 0x1, 0x1, 0x0⟩,
  ⟨0x120, 1, 4, "CRESET_COUNT", .rc, 0x0, 0, 0xFFFFFFFF, 0x0, 0x0⟩,
  ⟨0x124, 2, 4, "AUTH_NONCE", .ro, 0x0, 0, 0xFFFFFFFF, 0x0, 0x0⟩,
  ⟨0x12C, 1, 4, "REQ_STATUS", .ro, 0x0, 0, 0x80FFFFFF, 0x0, 0x0⟩,
  ⟨0x130, 1, 4, "RESTART_MS", .ro, 0x0, 0, 0xFFFFFFFF, 0x0, 0x0⟩]

/-- The PCIE page (R629). -/
def rowsPcie : List RegRow := [
  ⟨0x100, 2, 4, "LINK", .ro, 0x0, 0, 0xFFF, 0x0, 0x0⟩,
  ⟨0x108, 1, 4, "INT_CAUSE", .rc, 0x0, 0, 0xFFFFFFFF, 0x0, 0x0⟩,
  ⟨0x10C, 1, 4, "INT_EN", .ro, 0x0, 0, 0x1F, 0x0, 0x0⟩,
  ⟨0x110, 1, 4, "REL_RANGE", .ro, 0x0, 0, 0x3FFF3FFF, 0x0, 0x0⟩,
  ⟨0x114, 1, 4, "AER_CE_COUNT", .rc, 0x0, 0, 0xFFFFFFFF, 0x0, 0x0⟩,
  ⟨0x118, 1, 4, "AER_UE_COUNT", .rc, 0x0, 0, 0xFFFFFFFF, 0x0, 0x0⟩,
  ⟨0x11C, 1, 4, "POISON_RX_COUNT", .rc, 0x0, 0, 0xFFFFFFFF, 0x0, 0x0⟩,
  ⟨0x120, 1, 4, "DOWN_COUNT", .rc, 0x0, 0, 0xFFFFFFFF, 0x0, 0x0⟩]

/-- The SENS page (R630). -/
def rowsSens : List RegRow := [
  ⟨0x100, 8, 64, "CFG", .st, 0x0, 0, 0x1F, 0x1F, 0x1F⟩,
  ⟨0x104, 8, 64, "MAC_LO", .st, 0x0, 0, 0xFFFFFFFF, 0xFFFFFFFF, 0xFFFFFFFF⟩,
  ⟨0x108, 8, 64, "MAC_HI", .st, 0x0, 0, 0xFFFF, 0xFFFF, 0xFFFF⟩,
  ⟨0x10C, 8, 64, "IPV4", .st, 0x0, 0, 0xFFFFFFFF, 0xFFFFFFFF, 0xFFFFFFFF⟩,
  ⟨0x110, 8, 64, "IPV6_0", .st, 0x0, 0, 0xFFFFFFFF, 0xFFFFFFFF, 0xFFFFFFFF⟩,
  ⟨0x114, 8, 64, "IPV6_1", .st, 0x0, 0, 0xFFFFFFFF, 0xFFFFFFFF, 0xFFFFFFFF⟩,
  ⟨0x118, 8, 64, "IPV6_2", .st, 0x0, 0, 0xFFFFFFFF, 0xFFFFFFFF, 0xFFFFFFFF⟩,
  ⟨0x11C, 8, 64, "IPV6_3", .st, 0x0, 0, 0xFFFFFFFF, 0xFFFFFFFF, 0xFFFFFFFF⟩,
  ⟨0x120, 8, 64, "STATUS", .ro, 0x0, 0, 0x33, 0x0, 0x0⟩,
  ⟨0x124, 8, 64, "RX_COUNT", .rc, 0x0, 0, 0xFFFFFFFF, 0x0, 0x0⟩,
  ⟨0x128, 8, 64, "DROP_COUNT", .rc, 0x0, 0, 0xFFFFFFFF, 0x0, 0x0⟩,
  ⟨0x12C, 8, 64, "OVERRUN_COUNT", .rc, 0x0, 0, 0xFFFFFFFF, 0x0, 0x0⟩,
  ⟨0x130, 8, 64, "TRUNC_COUNT", .rc, 0x0, 0, 0xFFFFFFFF, 0x0, 0x0⟩,
  ⟨0x134, 8, 64, "SEQ_GAP_COUNT", .rc, 0x0, 0, 0xFFFFFFFF, 0x0, 0x0⟩,
  ⟨0x138, 8, 64, "PDELAY_NS", .ro, 0x0, 0, 0xFFFFFFFF, 0x0, 0x0⟩,
  ⟨0x13C, 8, 64, "PAIR_MISS_COUNT", .rc, 0x0, 0, 0xFFFFFFFF, 0x0, 0x0⟩,
  ⟨0x400, 128, 16, "FLOW_CTRL", .st, 0x0, 0, 0xFFF13F3, 0xFFF13F3, 0xFFF13F3⟩,
  ⟨0x404, 128, 16, "KEY_LO", .st, 0x0, 0, 0xFFFFFFFF, 0xFFFFFFFF, 0xFFFFFFFF⟩,
  ⟨0x408, 128, 16, "KEY_HI", .st, 0x0, 0, 0xFFFFFFFF, 0xFFFFFFFF, 0xFFFFFFFF⟩,
  ⟨0x40C, 128, 16, "FLOW_FRAMES", .ro, 0x0, 0, 0xFFFFFFFF, 0x0, 0x0⟩]

/-- The SPUR page (R631). -/
def rowsSpur : List RegRow := [
  ⟨0x100, 4, 4, "PORT_STATUS", .ro, 0x0, 0, 0xFF03, 0x0, 0x0⟩,
  ⟨0x110, 4, 4, "FEC_CE_COUNT", .rc, 0x0, 0, 0xFFFFFFFF, 0x0, 0x0⟩,
  ⟨0x120, 4, 4, "FEC_UE_COUNT", .rc, 0x0, 0, 0xFFFFFFFF, 0x0, 0x0⟩,
  ⟨0x130, 1, 4, "PORT_EN", .st, 0x0, 0, 0xF, 0xF, 0xF⟩,
  ⟨0x140, 1, 4, "PX_CFG", .st, 0x0, 0, 0xFFFFFF31, 0xFFFFFF31, 0xFFFFFF31⟩,
  ⟨0x144, 1, 4, "PX_SLOT", .st, 0x0, 0, 0x7F, 0x7F, 0x7F⟩,
  ⟨0x148, 1, 4, "PX_TILE", .st, 0x0, 0, 0x3FFF, 0x3FFF, 0x3FFF⟩,
  ⟨0x14C, 1, 4, "PX_TX_BASE_LO", .st, 0x0, 0, 0xFFFFFFFF, 0xFFFFFFFF, 0xFFFFFFFF⟩,
  ⟨0x150, 1, 4, "PX_TX_BASE_HI", .st, 0x0, 0, 0x7F, 0x7F, 0x7F⟩,
  ⟨0x154, 1, 4, "PX_RX_BASE_LO", .st, 0x0, 0, 0xFFFFFFFF, 0xFFFFFFFF, 0xFFFFFFFF⟩,
  ⟨0x158, 1, 4, "PX_RX_BASE_HI", .st, 0x0, 0, 0x7F, 0x7F, 0x7F⟩,
  ⟨0x15C, 2, 4, "PX_MASK", .rw, 0x0, 0, 0xFFFFFFFF, 0xFFFFFFFF, 0x0⟩,
  ⟨0x164, 2, 4, "PX_COUNT", .ro, 0x0, 0, 0xFFFFFFFF, 0x0, 0x0⟩,
  ⟨0x16C, 1, 4, "PX_DROP_COUNT", .rc, 0x0, 0, 0xFFFFFFFF, 0x0, 0x0⟩]

/-- The PMB page (R479). -/
def rowsPmb : List RegRow := [
  ⟨0x100, 1, 4, "BUS_CFG", .st, 0x1902, 0, 0x3F03, 0x3F03, 0x3F03⟩,
  ⟨0x104, 18, 4, "RAIL", .st, 0x0, 0, 0x81F7FF7F, 0x81F7FF7F, 0x81F7FF7F⟩,
  ⟨0x150, 1, 4, "SLEW", .st, 0x5, 0, 0xFF, 0xFF, 0xFF⟩,
  ⟨0x154, 1, 4, "PHASE_IMAX", .st, 0x3C, 0, 0xFF, 0xFF, 0xFF⟩,
  ⟨0x158, 1, 4, "VMEM_MV", .st, 0x2EE, 0, 0x3FF, 0x3FF, 0x3FF⟩,
  ⟨0x160, 18, 4, "RAIL_STAT", .ro, 0x0, 0, 0xFFFFFFFF, 0x0, 0x0⟩,
  ⟨0x1B0, 1, 4, "COMM_ERR_COUNT", .rc, 0x0, 0, 0xFFFFFFFF, 0x0, 0x0⟩,
  ⟨0x1B4, 1, 4, "ALERT_COUNT", .rc, 0x0, 0, 0xFFFFFFFF, 0x0, 0x0⟩]

/-- The FIELD page (R180, R312, R520). -/
def rowsField : List RegRow := [
  ⟨0x100, 1, 4, "HEALTH", .ro, 0x0, 0, 0xFF13, 0x0, 0x0⟩,
  ⟨0x104, 1, 4, "TILES", .ro, 0x0, 0, 0x7FF07FF, 0x0, 0x0⟩,
  ⟨0x108, 1, 4, "SPARES", .ro, 0x0, 0, 0xFFFFFFFF, 0x0, 0x0⟩,
  ⟨0x10C, 1, 4, "TRANSIENTS", .rc, 0x0, 0, 0xFFFFFFFF, 0x0, 0x0⟩,
  ⟨0x110, 1, 4, "IMEM_CE_COUNT", .rc, 0x0, 0, 0xFFFFFFFF, 0x0, 0x0⟩,
  ⟨0x800, 1, 4, "MX_CTRL", .st, 0x3, 0, 0x3, 0x3, 0x3⟩,
  ⟨0x804, 1, 4, "MX_SAT_COUNT", .rc, 0x0, 0, 0xFFFFFFFF, 0x0, 0x0⟩,
  ⟨0x808, 1, 4, "MX_CHK_FAIL_COUNT", .rc, 0x0, 0, 0xFFFFFFFF, 0x0, 0x0⟩,
  ⟨0x80C, 1, 4, "MX_CHK_SKIP_COUNT", .rc, 0x0, 0, 0xFFFFFFFF, 0x0, 0x0⟩,
  ⟨0x810, 1, 4, "MX_SLIP_COUNT", .rc, 0x0, 0, 0xFFFFFFFF, 0x0, 0x0⟩,
  ⟨0x814, 1, 4, "MX_RAMP_COUNT", .rc, 0x0, 0, 0xFFFFFFFF, 0x0, 0x0⟩,
  ⟨0x818, 10, 4, "RSV", .rw, 0x0, 0, 0x0, 0xFFFFFFFF, 0x0⟩,
  ⟨0x900, 1, 4, "FAB_CTRL", .st, 0x10000, 0, 0xFFFFFF, 0xFFFFFF, 0xFFFFFF⟩,
  ⟨0x904, 1, 4, "SEAM_E", .ro, 0x0, 0, 0x800007FF, 0x0, 0x0⟩,
  ⟨0x908, 1, 4, "SEAM_S", .ro, 0x0, 0, 0x800007FF, 0x0, 0x0⟩,
  ⟨0x90C, 1, 4, "INJ_STALE_COUNT", .rc, 0x0, 0, 0xFFFFFFFF, 0x0, 0x0⟩,
  ⟨0x910, 1, 4, "INJ_UNMAPPED_COUNT", .rc, 0x0, 0, 0xFFFFFFFF, 0x0, 0x0⟩,
  ⟨0x914, 1, 4, "CLOSED_DROP_COUNT", .rc, 0x0, 0, 0xFFFFFFFF, 0x0, 0x0⟩,
  ⟨0x918, 1, 4, "FENCED_LINK_DROP_COUNT", .rc, 0x0, 0, 0xFFFFFFFF, 0x0, 0x0⟩,
  ⟨0x91C, 1, 4, "RED_ABORT_COUNT", .rc, 0x0, 0, 0xFFFFFFFF, 0x0, 0x0⟩,
  ⟨0x920, 1, 4, "RED_MISMATCH_COUNT", .rc, 0x0, 0, 0xFFFFFFFF, 0x0, 0x0⟩,
  ⟨0x924, 1, 4, "LINK_CE_COUNT", .rc, 0x0, 0, 0xFFFFFFFF, 0x0, 0x0⟩,
  ⟨0x928, 1, 4, "LINK_UE_COUNT", .rc, 0x0, 0, 0xFFFFFFFF, 0x0, 0x0⟩,
  ⟨0x92C, 1, 4, "SEAM_DROP_COUNT", .rc, 0x0, 0, 0xFFFFFFFF, 0x0, 0x0⟩,
  ⟨0x930, 1, 4, "RT_ADDR", .rw, 0x0, 0, 0x3FFFF7FF, 0x3FFFF7FF, 0x0⟩,
  ⟨0x934, 1, 4, "RT_DATA", .rw, 0x0, 0, 0xFFFFFFFF, 0xFFFFFFFF, 0x0⟩,
  ⟨0x938, 18, 4, "RSV", .rw, 0x0, 0, 0x0, 0xFFFFFFFF, 0x0⟩]

/-- The SEQ page (R266). -/
def rowsSeq : List RegRow := [
  ⟨0x100, 1, 4, "PRIV", .rw, 0x0, 0, 0x1, 0x1, 0x1⟩,
  ⟨0x104, 1, 4, "GROUP_MATCH", .rw, 0x3F00, 0, 0x3F3F, 0x3F3F, 0x3F3F⟩,
  ⟨0x108, 1, 4, "SEQ_STATE", .ro, 0x0, 0, 0xFFF, 0x0, 0x0⟩,
  ⟨0x10C, 1, 4, "FLAGS", .w1c, 0x0, 0, 0x3F, 0x3F, 0x0⟩,
  ⟨0x110, 1, 4, "FAULT_INFO", .ro, 0x0, 0, 0x3FFFFF, 0x0, 0x0⟩,
  ⟨0x114, 1, 4, "FAULT_TILE", .ro, 0x0, 0, 0xFFFF3FFF, 0x0, 0x0⟩,
  ⟨0x118, 1, 4, "FAULT_TAG", .ro, 0x0, 0, 0x3FFFFFFF, 0x0, 0x0⟩,
  ⟨0x11C, 1, 4, "PC", .ro, 0x0, 0, 0x11FFF, 0x0, 0x0⟩,
  ⟨0x120, 1, 4, "CMD_COUNT_LO", .ro, 0x0, 0, 0xFFFFFFFF, 0x0, 0x0⟩,
  ⟨0x124, 1, 4, "CMD_COUNT_HI", .ro, 0x0, 0, 0xFFFF, 0x0, 0x0⟩,
  ⟨0x128, 1, 4, "CMDQ", .ro, 0x0, 0, 0x1F, 0x0, 0x0⟩,
  ⟨0x130, 8, 4, "CUR_CMD", .ro, 0x0, 0, 0xFFFFFFFF, 0x0, 0x0⟩,
  ⟨0x150, 8, 4, "LC", .ro, 0x0, 0, 0xFFFF, 0x0, 0x0⟩,
  ⟨0x170, 1, 4, "LOCKS_HELD", .ro, 0x0, 0, 0xFFFFFFFF, 0x0, 0x0⟩,
  ⟨0x174, 1, 4, "LOCKS_VALID", .ro, 0x0, 0, 0xF, 0x0, 0x0⟩,
  ⟨0x180, 1, 4, "BANK_CTRL", .mixed, 0x0, 0, 0x7, 0x2, 0x0⟩,
  ⟨0x184, 1, 4, "BANK_CFG_A", .rw, 0x0, 0, 0x3FFF0001, 0x3FFF0001, 0x3FFF0001⟩,
  ⟨0x188, 1, 4, "BANK_CFG_B", .rw, 0x0, 0, 0x3FFF0001, 0x3FFF0001, 0x3FFF0001⟩,
  ⟨0x18C, 1, 4, "IMEM_ADDR", .rw, 0x0, 0, 0x8003FFFF, 0x8003FFFF, 0x0⟩,
  ⟨0x190, 1, 4, "IMEM_DATA", .rw, 0x0, 0, 0xFFFFFFFF, 0xFFFFFFFF, 0x0⟩,
  ⟨0x194, 1, 4, "DMA_SRC_LO", .rw, 0x0, 0, 0xFFFFFFFF, 0xFFFFFFFF, 0x0⟩,
  ⟨0x198, 1, 4, "DMA_SRC_HI", .rw, 0x0, 0, 0x7F, 0x7F, 0x0⟩,
  ⟨0x19C, 1, 4, "DMA_CTRL", .mixed, 0x0, 0, 0x3FFF0007, 0x3FFF0007, 0x0⟩,
  ⟨0x1A0, 1, 4, "BRK_CTRL", .rw, 0x0, 0, 0x7, 0x7, 0x0⟩,
  ⟨0x1A4, 1, 4, "BRK_COUNT_LO", .rw, 0x0, 0, 0xFFFFFFFF, 0xFFFFFFFF, 0x0⟩,
  ⟨0x1A8, 1, 4, "BRK_COUNT_HI", .rw, 0x0, 0, 0xFFFF, 0xFFFF, 0x0⟩,
  ⟨0x1AC, 1, 4, "BRK_TAG", .rw, 0x0, 0, 0xFFFFFFFF, 0xFFFFFFFF, 0x0⟩]

/-- The TRACE page (R97). -/
def rowsTrace : List RegRow := [
  ⟨0x100, 1, 4, "TR_CTRL", .rw, 0x0, 0, 0x1FF1, 0x1FF1, 0x0⟩,
  ⟨0x104, 1, 4, "TR_WR", .ro, 0x0, 0, 0xC003FFFF, 0x0, 0x0⟩,
  ⟨0x108, 1, 4, "TR_REGION", .ro, 0x0, 0, 0x3FFFF, 0x0, 0x0⟩,
  ⟨0x10C, 1, 4, "TR_RD_ADDR", .rw, 0x0, 0, 0x3FFFF, 0x3FFFF, 0x0⟩,
  ⟨0x110, 1, 4, "TR_RD_DATA", .ro, 0x0, 0, 0xFFFFFFFF, 0x0, 0x0⟩,
  ⟨0x114, 1, 4, "SPILL", .w1c, 0x0, 0, 0x8000FFFF, 0x80000000, 0x0⟩,
  ⟨0x118, 1, 4, "GAP_COUNT", .rc, 0x0, 0, 0xFFFFFFFF, 0x0, 0x0⟩,
  ⟨0x11C, 1, 4, "LOST_WORDS", .rc, 0x0, 0, 0xFFFFFFFF, 0x0, 0x0⟩]

/-- The MEMP page (R387). -/
def rowsMemp : List RegRow := [
  ⟨0x100, 1, 4, "MAP", .st, 0x2D, 0, 0x3F, 0x3F, 0x3F⟩,
  ⟨0x104, 1, 4, "STATUS_MP", .ro, 0x0, 0, 0x17F, 0x0, 0x0⟩,
  ⟨0x108, 1, 4, "TEMP", .ro, 0x0, 0, 0xFFFF, 0x0, 0x0⟩,
  ⟨0x10C, 1, 4, "CE_COUNT", .rc, 0x0, 0, 0xFFFFFFFF, 0x0, 0x0⟩,
  ⟨0x110, 1, 4, "UE_COUNT", .rc, 0x0, 0, 0xFFFFFFFF, 0x0, 0x0⟩,
  ⟨0x114, 1, 4, "POISON_COUNT", .rc, 0x0, 0, 0xFFFFFFFF, 0x0, 0x0⟩,
  ⟨0x118, 1, 4, "RETIRED", .ro, 0x0, 0, 0x1FFF, 0x0, 0x0⟩,
  ⟨0x11C, 1, 4, "RETIRE_CFG", .st, 0x80000010, 0, 0x800000FF, 0x800000FF, 0x800000FF⟩,
  ⟨0x120, 1, 4, "SCRUB_CFG", .st, 0x1801, 0, 0xFF01, 0xFF01, 0xFF01⟩,
  ⟨0x124, 1, 4, "SCRUB_POS", .ro, 0x0, 0, 0xFFFFFFFF, 0x0, 0x0⟩,
  ⟨0x128, 1, 4, "RD_LINES_LO", .ro, 0x0, 0, 0xFFFFFFFF, 0x0, 0x0⟩,
  ⟨0x12C, 1, 4, "RD_LINES_HI", .ro, 0x0, 0, 0xFFFF, 0x0, 0x0⟩,
  ⟨0x130, 1, 4, "WR_LINES_LO", .ro, 0x0, 0, 0xFFFFFFFF, 0x0, 0x0⟩,
  ⟨0x134, 1, 4, "WR_LINES_HI", .ro, 0x0, 0, 0xFFFF, 0x0, 0x0⟩,
  ⟨0x138, 1, 4, "THROTTLE_US", .rc, 0x0, 0, 0xFFFFFFFF, 0x0, 0x0⟩,
  ⟨0x13C, 1, 4, "FIRST_UE_LO", .ro, 0x0, 0, 0xFFFFFFFF, 0x0, 0x0⟩,
  ⟨0x140, 1, 4, "FIRST_UE_HI", .w1c, 0x0, 0, 0x8000000F, 0x80000000, 0x0⟩]

/-- The TILE page (R144, R145). -/
def rowsTile : List RegRow := [
  ⟨0x100, 1, 4, "SITE", .ro, 0x0, 0, 0xFFF3FFF, 0x0, 0x0⟩,
  ⟨0x104, 1, 4, "BIND", .ro, 0x0, 0, 0xE0FF3FFF, 0x0, 0x0⟩,
  ⟨0x108, 1, 4, "GROUP", .rw, 0x0, 0, 0x8000033F, 0x8000033F, 0x8000033F⟩,
  ⟨0x10C, 1, 4, "FLAGS", .w1c, 0x0, 0, 0x3FF, 0x3FF, 0x0⟩,
  ⟨0x110, 1, 4, "ECC_CE_COUNT", .rc, 0x0, 0, 0xFFFFFFFF, 0x0, 0x0⟩,
  ⟨0x114, 1, 4, "STALE_DROP_COUNT", .rc, 0x0, 0, 0xFFFFFFFF, 0x0, 0x0⟩,
  ⟨0x118, 1, 4, "RQ_DROP_COUNT", .rc, 0x0, 0, 0xFFFFFFFF, 0x0, 0x0⟩,
  ⟨0x11C, 1, 4, "WIN_DROP_COUNT", .rc, 0x0, 0, 0xFFFFFFFF, 0x0, 0x0⟩,
  ⟨0x120, 1, 4, "ENG_STATUS", .ro, 0x80000000, 0, 0xCFFFFFFF, 0x0, 0x0⟩,
  ⟨0x124, 1, 4, "TOK_TIMEOUT", .rw, 0x20000, 0, 0xFFFFFF, 0xFFFFFF, 0xFFFFFF⟩,
  ⟨0x128, 1, 4, "SCRUB_CTRL", .rw, 0x1, 0, 0x1, 0x1, 0x1⟩,
  ⟨0x12C, 1, 4, "CONFLICT_COUNT", .rc, 0x0, 0, 0xFFFFFFFF, 0x0, 0x0⟩,
  ⟨0x130, 1, 4, "SR_SEED_LO", .rw, 0x0, 0, 0xFFFFFFFF, 0xFFFFFFFF, 0x0⟩,
  ⟨0x134, 1, 4, "SR_SEED_HI", .rw, 0x0, 0, 0xFFFFFFFF, 0xFFFFFFFF, 0x0⟩,
  ⟨0x140, 1, 4, "TOK_CFG_0", .rw, 0x0, 0, 0x1F1F0773, 0x1F1F0773, 0x0⟩,
  ⟨0x144, 15, 4, "TOK_CFG", .rw, 0x2, 0, 0x1F1F0773, 0x1F1F0773, 0x0⟩,
  ⟨0x180, 16, 4, "TOK_OCC", .ro, 0x0, 0, 0x1F1F, 0x0, 0x0⟩,
  ⟨0x1C0, 4, 4, "NBR", .ro, 0x0, 0, 0xC0FF3FFF, 0x0, 0x0⟩,
  ⟨0x1D0, 4, 8, "WIN_CFG", .rw, 0x0, 0, 0x8FFF7FFF, 0x8FFF7FFF, 0x0⟩,
  ⟨0x1D4, 4, 8, "WIN_STATE", .ro, 0x0, 0, 0xFF01FF, 0x0, 0x0⟩,
  ⟨0x1F0, 4, 8, "OUTWIN_BASE", .ro, 0x0, 0, 0xFF1FFFFF, 0x0, 0x0⟩,
  ⟨0x1F4, 4, 8, "OUTWIN_STATE", .ro, 0x0, 0, 0x80FF01FF, 0x0, 0x0⟩,
  ⟨0x210, 8, 16, "RQ_BASE", .rw, 0x0, 0, 0x1FFFFF, 0x1FFFFF, 0x0⟩,
  ⟨0x214, 8, 16, "RQ_CFG", .rw, 0x0, 0, 0x800FFF3F, 0x800FFF3F, 0x0⟩,
  ⟨0x218, 8, 16, "RQ_PTR", .ro, 0x0, 0, 0x1FFFFFF, 0x0, 0x0⟩,
  ⟨0x290, 16, 8, "SCRED_DEST", .rw, 0x0, 0, 0xFF073FFF, 0xFF073FFF, 0x0⟩,
  ⟨0x294, 16, 8, "SCRED_STATE", .rw, 0x0, 0, 0x800001FF, 0x800001FF, 0x0⟩]

end Sys2Proof.Machine
end

