-- ==== Sys2Proof/Machine/State.lean ====
section
/-! DEFINITION. The state of the part as plain data: every register, memory, buffer, queue and mode the spec gives it,
the queue of waiting commands, and the state at reset. -/

namespace Sys2Proof.Machine

/-- The machine stops with a fault. -/
inductive Fault where
  /-- Raised by the meaning of a command whose operand names a unit the die does not have (a site above 13,823, a
  sequencer above 47, a stream above 16,383, ...). Safe: the model stops where no such unit exists. -/
  | noSuchUnit
deriving DecidableEq, Repr

/-- No meaning for the command. -/
inductive Refusal where
  /-- Raised by an arm of `exec` whose command has no meaning yet. Safe: the model stops. -/
  | notModelled (mnemonic : String)
deriving DecidableEq, Repr

/-- How the last command answered its requester (02_control_model.md R64, R66, 09_external_memory.md R377). -/
inductive RespKind where
  | none | ok | unsupportedRequest | busFault | accessFault | negative | windowCode | completerAbort | poisoned
deriving DecidableEq, Repr

/-- The answer of the last access: how it ended, its bytes in ascending order, its code. -/
structure Response where
  kind : RespKind := .none
  bytes : List Byte := []
  code : Nat := 0
deriving DecidableEq, Repr

/-- An error record detected and not yet stored in the ring (13_faults_recovery.md R482): its fields by name. -/
structure ErrRec where
  cls : Nat
  kind : Nat
  unit : Nat
  synd : Nat
  opcode : Nat := 0xFF
  taiNs : Nat := 0
  tick : Nat := 0
  frame : Nat := 0
  phase : Nat := 0
  temp : Nat := 0x200
  volt : Nat := 0
  tag : Nat := 0
  stream : Nat := 0
  opValid : Bool := false
  withheld : Bool := false
deriving DecidableEq, Repr

/-- A TAI set waiting for its tick (10_cadence_time.md R399, R400). -/
structure TaiSet where
  mode : Nat
  neg : Bool
  sec : Nat
  ns : Nat
  /-- roll-overs still to pass -/
  wait : Nat
deriving DecidableEq, Repr

/-- The time base, TAI and its servo (10_cadence_time.md R390 to R401). TAI is held in units of 2^-42 ns. -/
structure TimeBase where
  tb : Nat := 0
  /-- TB stopped by a loss of REFCLK (R440) -/
  stopped : Bool := false
  refTb : Nat := 0
  refTai : Nat := 0
  /-- set armed by SET_CTRL.GO, and a step of the servo deferred past a roll-over (R397, R400) -/
  taiSet : Option TaiSet := none
  servoSet : Option TaiSet := none
  /-- TAI second of the last roll-over -/
  lastSec : Nat := 0
  /-- consecutive offsets within 1 µs (R395) -/
  inLock : Nat := 0
  /-- (tick, RATE) pairs of the last changes, newest first (R395 HOLDOVER mean) -/
  rates : List (Nat × Int) := []
  /-- whether the one step of ACQUIRING has been made (R395) -/
  stepped : Bool := false
  /-- tick at which the source was last heard, or selected (R395) -/
  heard : Nat := 0
deriving DecidableEq, Repr

/-- The cause of a frame boundary, waiting for the next tick (R405). -/
structure BoundCause where
  tick : Nat
  fromEdge : Bool
  /-- frame number adopted from the partner or lead (R534), where the cause carries one -/
  frame : Option Nat := none
deriving DecidableEq, Repr

/-- A schedule entry issued for its current firing (R414). -/
structure Issue where
  tick : Nat
  late : Bool := false
  dropped : Bool := false
deriving DecidableEq, Repr

/-- The cadence block beside its registers (10_cadence_time.md R402 to R419). -/
structure Cadence where
  /-- P of the frame in progress -/
  framePeriod : Nat := 0
  cause : Option BoundCause := none
  lastEdge : Option Nat := none
  /-- the current frame's boundary came from an edge (R410) -/
  boundFromEdge : Bool := false
  issued : KV Issue := []
  fireLog : List Word := []
  /-- periods of the recorded boundaries, newest first (R421) -/
  periods : List Nat := []
  /-- entries deleted while issued: freed after their firing (R413) -/
  delAfter : List Nat := []
  /-- entries that the lead of a herd distributed (14_channels_twin_herd.md R546) -/
  distributed : List Nat := []
  /-- output pins in a pulse: pin and the tick of its last event (16_interfaces_pins.md R621) -/
  pulses : KV Nat := []
deriving DecidableEq, Repr

/-- The clock block beside its registers (11_clocking.md). -/
structure ClockSt where
  /-- rails that confirmed the voltage of the pending upward change (R435 step 3) -/
  confirmed : List Nat := []
  /-- the new DIV has been sent to the fields (R435 step 4) -/
  distributed : Bool := false
  /-- the DIV each field runs at, where it differs from CLK.CUR.DIV (R438) -/
  fieldDiv : KV Nat := []
  /-- REFCLK lost (R440) -/
  refLost : Bool := false
  /-- every seam sender holds for a die-wide change (R435 step 5) -/
  dieHold : Bool := false
  /-- fields whose seams are held for a single-field point (R438) -/
  fieldHold : List Nat := []
deriving DecidableEq, Repr

/-- A boost request in force (12_power_thermal.md R462): 0 to 47 a sequencer, 64 + e a schedule entry. -/
structure Hint where
  src : Nat
  level : Nat
  /-- SPAN of the instruction in units of 64 cycles, or DURATION_US -/
  span : Nat
  /-- tick at which the hint of a schedule entry ends (R462) -/
  ends : Nat := 0
deriving DecidableEq, Repr

/-- Power and thermal control beside their registers (12_power_thermal.md). -/
structure PowerSt where
  /-- rails switched on -/
  railsOn : List Nat := []
  /-- VOLT_MV of the point the rails are set for, in mV (R449) -/
  baseMv : Nat := 0
  /-- set point of a field rail under Ibex, in mV (R507) -/
  ibexMv : KV Nat := []
  trim : KV Int := []
  trimTick : KV Nat := []
  hints : List Hint := []
  ceilReq : KV Nat := []
  ceilOk : KV Nat := []
  droopEsc : List Nat := []
  shortDuty : Nat := 16
  thermDuty : KV Nat := []
  /-- droop detectors tripped: 168 f + domain, rising (R459) -/
  tripped : List Nat := []
  stretched : List Nat := []
  /-- escalated fields and the tick of escalation (R461) -/
  escalated : KV Nat := []
  /-- power samples: tick and W, newest first (R463) -/
  samples : List (Nat × Nat) := []
  sustLow : Nat := 0
  /-- steps of 100 ms until the sustained controller may request again (R466) -/
  sustSteps : Nat := 0
  /-- OPP requested per cause of R469; an unlisted cause requests none -/
  oppReq : KV Nat := []
  /-- retries of a rail's transactions (R450) and the tick its COMM bit was set -/
  commTick : KV Nat := []
  /-- calibrated coefficients of the current estimate (R457) -/
  coef : KV Nat := []
  /-- activity counters of the sample in progress: 8 f + unit, 0 load, 1 matrix, 2 vector, 3 send, 4 routers (R457) -/
  activity : KV Nat := []
  /-- the same counters over the last sample -/
  lastActivity : KV Nat := []
  /-- phases of the VMEM rails failed open, and without current sense: 64 (r − 12) + p, 63 for every phase (R448, R450) -/
  memFailed : List Nat := []
  memLost : List Nat := []
  /-- domain switch in progress: domain and direction (R452) -/
  domSwitch : Option (Nat × Bool) := none
  /-- HERD_SHARE written, and the share in force since a frame boundary (R467) -/
  herdShareNext : Option Nat := none
  herdShareNow : Option Nat := none
  /-- tick at which the short-term controller's window began (R464) -/
  shortWin : Nat := 0
  herdShareAge : Nat := 0
  /-- junction sensors in quarter °C, two's complement 16 bits (R471) -/
  sensor : KV Nat := []
  warnOn : Bool := false
  dutyOn : Bool := false
  oppOn : Bool := false
  haltOn : Bool := false
  tripLatched : Bool := false
  /-- the comparator of 115 °C holds the core domains open until a cold start (R472) -/
  tripOpen : Bool := false
  /-- field of the hottest sensor when DUTY was entered -/
  dutyField : Option Nat := none
  /-- compute held in reset by the thermal HALT (R472) -/
  thermHalt : Bool := false
deriving DecidableEq, Repr


/-- What the part sends to the outside, in order. -/
inductive TxMsg where
  /-- a posted write to host memory (R487, R604) -/
  | hostWrite (addr : Nat) (bytes : List Byte)
  /-- an MSI-X vector raised (16_interfaces_pins.md R604) -/
  | msix (vector : Nat)
  /-- a Snigus frame: plane, TYPE, destination module, its fields as numbers, its data (14_channels_twin_herd.md R529) -/
  | snigus (plane typ dest : Nat) (fields : List Nat) (data : List Byte)
  /-- an Ethernet frame from a sensor port: kind and fields (R605, R610) -/
  | ethernet (port kind : Nat) (fields : List Nat)
  /-- a command on an AVSBus or PMBus: rail, command, value (R447) -/
  | regulator (rail command value : Nat)
  /-- the SMBus Alert Response Address read (R447) -/
  | alertResponse
  /-- a management-target answer (R617) -/
  | management (bytes : List Byte)
  /-- a console line (R619): the summary of the stored record with a RECORD_ID, or the boot progress at a step; its text
  is not stated -/
  | console (progress : Bool) (n : Nat)
  /-- an In-Band Interrupt of the I3C management target (R617) -/
  | inBandInterrupt
  /-- the TDO answer of a JTAG data register (R618) -/
  | tdo (bytes : List Byte)
deriving DecidableEq, Repr


/-- A trial of a site (13_faults_recovery.md R496): the step it has reached and the unit it moves. -/
structure Trial where
  site : Nat
  spare : Nat
  logical : Nat
  gen : Nat
  withFence : Bool
  step : Nat
  holdTick : Nat
  refillTick : Nat
  retried : Bool := false
  /-- site declared by an Ibex slice: no replay decides it (R508) -/
  noReplay : Bool := false
deriving DecidableEq, Repr

/-- The attributed record of a beat's attempt (R490). -/
structure Attribution where
  attempt : Nat
  site : Option Nat
  linkUe : Bool := false
deriving DecidableEq, Repr

/-- An Ibex slice in progress (R507). -/
structure IbexRun where
  field : Nat
  k : Nat := 0
  /-- the step in progress repeats a void one (R509) -/
  voided : Bool := false
  /-- a tile of the field has slipped, held, throttled or stretched in the step in progress (R509) -/
  slipped : Bool := false
  /-- sites that failed, with the step -/
  failed : KV Nat := []
  /-- GROUP words and bank state to restore at step 5 -/
  savedGroups : KV Word := []
  savedBank : Word := 0
  /-- digests of the field's FIELD and SEQ pages at the start of the quarantine (R547) -/
  digests : KV Nat := []
  verdict : Nat := 0
deriving DecidableEq, Repr

/-- Fault handling beside its registers (13_faults_recovery.md). -/
structure FaultSt where
  /-- records detected and not yet stored, oldest first (R485) -/
  pendingRecords : List ErrRec := []
  /-- records of each class since cold start (FLT.CLASS_COUNT) -/
  classCount : KV Nat := []
  /-- TAI millisecond of the budget, stored and suppressed counts per class (R486) -/
  ms : Nat := 0
  msStored : KV Nat := []
  msSuppressed : KV Nat := []
  /-- site states of R491 -/
  siteState : KV Nat := []
  /-- the spare that serves an old site (R517) -/
  serving : KV Nat := []
  trial : Option Trial := none
  /-- sites waiting for a trial (R493), with how: 0 as after a repeat failure, 1 with router fence, 2 declared by Ibex -/
  trialQueue : List (Nat × Nat) := []
  /-- per stream, the attributed record of its attempt in flight -/
  attributed : KV Attribution := []
  /-- per stream, the attributed record of its previous attempt -/
  lastAttributed : KV Attribution := []
  /-- ticks of the transients of a site (R494) -/
  transients : KV (List Nat) := []
  /-- beat programs that must be written again after a shrink (R511) -/
  stalePrograms : List Nat := []
  pairsOut : List Nat := []
  pairsRetired : List Nat := []
  pairTicks : KV (List Nat) := []
  ibexDue : List Nat := []
  ibexRun : Option IbexRun := none
  ibexTick : KV Nat := []
  /-- DEAD sites that passed an Ibex slice above MIN_PASS since (R504) -/
  ibexPassed : List Nat := []
  /-- fields FAILED (R512) -/
  fieldFailed : List Nat := []
  memTierFault : Bool := false
  /-- lines of the refill list that have been written -/
  refillDone : Nat := 0
  /-- reports of errors that withhold commit, on their way to the stream manager: stream, tag (R334) -/
  failReports : List (Nat × Nat) := []
deriving DecidableEq, Repr


/-- A snapshot in flight (02_control_model.md R88 to R95). -/
structure Snap where
  id : Nat
  /-- instant T as a tick of TB -/
  tick : Nat
  /-- T has been reached -/
  reached : Bool := false
  /-- page bases that have met the trigger at or after T -/
  done : List Nat := []
  /-- pages of each field that have met it -/
  fieldDone : KV Nat := []
  /-- fields whose spill is in progress, and those whose spill has ended -/
  spilling : List Nat := []
  spilled : List Nat := []
  /-- SNAP.CTRL.SPILL at acceptance -/
  spill : Bool := false
deriving DecidableEq, Repr

/-- A field's trace buffer and the entries that wait for it (R96 to R100). -/
structure TraceSt where
  queue : List (List Word) := []
  /-- words not written since the queue filled -/
  lost : Nat := 0
  /-- buffer words by word offset -/
  buf : KV Word := []
  /-- bytes of trace entries from the buffer's start, below the spill area's end -/
  low : Nat := 0
deriving DecidableEq, Repr

/-- Access windows and snapshots beside their registers. -/
structure ControlSt where
  snap : Option Snap := none
  /-- ID of the next accepted trigger (R89) -/
  nextSnap : Nat := 1
  trace : KV TraceSt := []
  /-- ticks at which a deferred halt was requested, by sequencer (R85) -/
  deferTick : KV Nat := []
deriving DecidableEq, Repr



/-- A command of the stream manager (06_sequencers_isa.md R225): its eight words, and the count of commands that its
sequencer had started when it started. -/
structure Cmd where
  words : List Word
  seq : Nat := 0
  serial : Nat := 0
deriving DecidableEq, Repr

/-- An instruction or DCW word on its way to the tiles: its command, its entry index and its bits (R228, R261). -/
structure Instruct where
  cmd : Cmd
  entry : Nat
  bits : Nat
  /-- a DCW word -/
  dcw : Bool := false
deriving DecidableEq, Repr

/-- A token descriptor (03_tile.md R117). -/
structure TokDesc where
  addr : Nat := 0
  len : Nat := 0
  src : Nat := 0
  predOff : Bool := false
  poison : Bool := false
deriving DecidableEq, Repr

/-- An instruction in an engine queue with the addresses that its generators gave at dispatch (R235), or a fault found
at dispatch. -/
structure Queued where
  ins : Instruct
  ags : List Nat := []
  /-- place in the tile's dispatch order -/
  ord : Nat := 0
deriving DecidableEq, Repr

/-- An instruction in progress in an engine (R112, R115). -/
structure Running where
  q : Queued
  /-- descriptors popped, by the classes set in WAIT, ascending; a NULL class gives the zero descriptor -/
  popped : List TokDesc
  /-- predicated off as a whole (R118) -/
  off : Bool
  /-- guard mask, one bit per lane -/
  guard : Nat
  poison : Bool := false
  /-- its data work has been done -/
  finished : Bool := false
  out : TokDesc := {}
  /-- lines of a neighbour load or packets of an injection still to come -/
  left : Nat := 0
  /-- the scalar, vector and predicate registers as its start found them (06_sequencers_isa.md R233) -/
  scalars : KV Nat := []
  vectors : KV (List Word) := []
  preds : KV Nat := []
  /-- its signal class is COUNT and a slot is reserved for it (R115) -/
  rsv : Bool := false
  /-- a register that it reads derives from an uncorrectable word (R139) -/
  taint : Bool := false
  /-- the descriptors or the request block that it read when it started -/
  block : List (List Word) := []
deriving DecidableEq, Repr

/-- One engine of a tile (R110). -/
structure Engine where
  queue : List Queued := []
  run : Option Running := none
  stopped : Bool := false
deriving DecidableEq, Repr

/-- An address generator (06_sequencers_isa.md R234); strides are two's complement of 22 bits. -/
structure AddrGen where
  base : Nat := 0
  s0 : Nat := 0
  s1 : Nat := 0
  count : Nat := 0
  i0 : Nat := 0
  i1 : Nat := 0
deriving DecidableEq, Repr

/-- A pass of the matrix unit (04_matrix_unit.md R153, R161). -/
structure MxPass where
  bank : Nat
  /-- row block and column block; in matrix-vector mode the pass number stands in `nb` -/
  mb : Nat
  nb : Nat
  desc : List Word
  /-- list entry of an MXF (R165) -/
  entry : Nat := 0
  /-- CHK_EN at the pass's start (R181) -/
  chk : Bool := false
  /-- the words it reads, by address, as its start found them (R654) -/
  seen : KV Word := []
  /-- saturated cells: 32 i + j -/
  sat : List Nat := []
  /-- check-column words by row and check-row words by column (R174) -/
  chkRow : List Nat := []
  chkCol : List Nat := []
deriving DecidableEq, Repr

/-- An exact value in the array (05_number_formats.md R191): NaN, an infinity, or (−1)^neg × mag × 2^exp. -/
inductive FVal where
  | nan
  | inf (neg : Bool)
  | fin (neg : Bool) (mag : Nat) (exp : Int)
deriving DecidableEq, Repr

/-- An element that crosses the array under DCW, with the exact sum of the operands it has met (R149, R174). -/
structure Flow where
  val : FVal
  /-- the last of its group (GRP_END, R246) -/
  last : Bool := false
  met : Option FVal := none
  /-- its number among the elements of its row or column -/
  k : Nat := 0
  /-- addresses of the weight lanes and of their scales when it entered (matrix-vector mode) -/
  lane : Nat := 0
  slane : Nat := 0
  /-- bits [201:0] of the word with which it entered: its bank, mode and formats -/
  ctl : Nat := 0
deriving DecidableEq, Repr

/-- One cell of the array under DCW: the operands it holds and its group sum. -/
structure Cell where
  a : Option Flow := none
  b : Option Flow := none
  grp : Option FVal := none
deriving DecidableEq, Repr

/-- The array under a DCW command (R247). -/
structure DcwArray where
  cmd : Cmd
  /-- CHK_EN at the command's start (R181) -/
  chk : Bool
  /-- cells that hold an operand or a group sum, by 32 i + j -/
  cells : KV Cell := []
  /-- elements injected so far, by row and by column -/
  rowK : KV Nat := []
  colK : KV Nat := []
  sat : List Nat := []
  /-- check cells of the rows; of the columns the preloaded words, and the common operand and sum of each k-step by
  32 k + j -/
  chkRow : KV Nat := []
  colPre : KV (List Nat) := []
  colLog : KV (FVal × FVal) := []
  failed : Bool := false
  poison : Bool := false
  /-- banks whose token the command has taken (R164, R166) -/
  took : List Nat := []
deriving DecidableEq, Repr

/-- The matrix unit of a tile (04_matrix_unit.md). -/
structure MatrixUnit where
  /-- accumulator words: 1024 bank + 32 row + column -/
  acc : KV Word := []
  /-- passes of the instruction in progress that have not started -/
  plan : List MxPass := []
  /-- passes started and not drained, oldest first; each holds its bank's token (R164) -/
  active : List MxPass := []
  poison : Bool := false
  /-- the array's clock is enabled (R171) -/
  awake : Bool := false
  /-- rows that the ramp has enabled under DCW (R166, R171) -/
  rows : Nat := 0
  dcw : Option DcwArray := none
  /-- banks whose token a DCW command holds -/
  dcwTokens : List Nat := []
deriving DecidableEq, Repr

/-- A request of the tile's own to an edge port (09_external_memory.md R371). -/
structure EdgeRequest where
  id : Nat
  cmd : Cmd
  cls : Nat
  gen : Nat
  /-- parts outstanding: index, BAR 2 offset -/
  parts : List (Nat × Nat)
  landAddr : Nat
  landLen : Nat
  poison : Bool := false
deriving DecidableEq, Repr

/-- One tile beside its page (03_tile.md). -/
structure Tile where
  spad : KV Word := []
  /-- words that are uncorrectable (R139) -/
  bad : List Nat := []
  /-- broadcast instructions not dispatched (R217) -/
  input : List Instruct := []
  /-- engines by code of R110 -/
  eng : KV Engine := []
  /-- token classes: entries, oldest first, and reserved slots (R113) -/
  tok : KV (List TokDesc) := []
  rsvd : KV Nat := []
  /-- senders of the occupied slots of a receive queue: logical ID, generation, credit entry (R134) -/
  slots : KV (List (Nat × Nat × Nat)) := []
  scalars : KV Nat := []
  vectors : KV (List Word) := []
  preds : KV Nat := []
  /-- registers whose value derives from an uncorrectable word (R139): scalars at 0, vectors at 32, predicates at 64 -/
  tainted : List Nat := []
  ags : KV AddrGen := []
  mx : MatrixUnit := {}
  /-- the current seed, and each engine's seed and draw counter (05_number_formats.md R205, R206) -/
  seed : Nat := 0
  mxSeed : Nat := 0
  mxDraw : Nat := 0
  vxSeed : Nat := 0
  vxDraw : Nat := 0
  mxNew : Bool := false
  vxNew : Bool := false
  requests : List EdgeRequest := []
  nextReq : Nat := 0
  /-- row that each bank's scrubber reads next, banks 0 to 15 near, 16 to 47 deep -/
  scrubRow : KV Nat := []
  /-- corrections and saturated passes since the last record, and the millisecond of that record -/
  ceSince : Nat := 0
  ceMs : Option Nat := none
  satSince : Nat := 0
  satMs : Option Nat := none
  /-- commands of which a fault made the tile discard instructions, by serial (R261) -/
  faulted : List Nat := []
  nextOrd : Nat := 0
deriving DecidableEq, Repr



/-- A copy into an instruction bank in progress (06_sequencers_isa.md R221). -/
structure ImemCopy where
  bank : Nat
  dcw : Bool
  entries : Nat
  src : Nat
deriving DecidableEq, Repr

/-- A fault of the command in progress (R258 to R262). -/
structure SeqFault where
  cause : Nat
  entry : Nat
  bank : Nat
  cmd : Cmd
  /-- logical ID of the first reporting tile and the number of reporting tiles -/
  tile : Nat := 0
  tiles : Nat := 0
deriving DecidableEq, Repr

/-- One field sequencer beside its page (06_sequencers_isa.md). -/
structure Sequencer where
  /-- instruction memory words: 16384 bank + word (R218) -/
  imem : KV Word := []
  queue : List Cmd := []
  /-- the command in progress (R227) -/
  cur : Option Cmd := none
  /-- commands started and not complete, oldest first (R227, R229) -/
  inflight : List Cmd := []
  started : Nat := 0
  /-- entry index of the next fetch (SEQ.PC) -/
  pc : Nat := 0
  /-- instructions on the broadcast tree, oldest first (R216) -/
  tree : List Instruct := []
  /-- a fetched and checked instruction of unit SEQ that waits to be executed -/
  fetched : Option Instruct := none
  /-- sites whose HOLD has reached the sequencer (R217) -/
  hold : List Nat := []
  /-- issue waits: for a SYNC, for a lock -/
  syncWait : Bool := false
  lockWait : Option Nat := none
  lastBroken : Bool := false
  /-- lock, generation of each held lock (R264) -/
  locks : List (Nat × Nat) := []
  fault : Option SeqFault := none
  /-- state to which a resume returns (R230): 1 or 2 -/
  resumeTo : Nat := 1
  /-- the command whose break has been hit: its start is past it (R255) -/
  breakPassed : Option Cmd := none
  /-- a DCW word that takes effect in the tiles -/
  dcwNow : Option Instruct := none
  dcwPre : List Nat := []
  copy : Option ImemCopy := none
  /-- the bank in which a word-by-word load has left an entry incomplete (R222) -/
  loading : Option Nat := none
  /-- HALT_CAUSE of a halt requested during ABORTING, which takes effect at its end; 0 none (R250) -/
  haltPend : Nat := 0
  /-- the abort in progress was ordered by the stream manager for a failed beat (R342) -/
  stopped : Bool := false
  /-- banks in which a command met an uncorrectable entry, and whether the bank has been loaded since
  (13_faults_recovery.md R512) -/
  ue : KV Bool := []
deriving DecidableEq, Repr



/-- A fabric packet: the header of 07_fabric.md R276 and its data. -/
structure Packet where
  vc : Nat
  typ : Nat
  poison : Bool := false
  dest : Nat
  destGen : Nat := 0
  src : Nat := 0x3FFF
  srcGen : Nat := 0
  addr : Nat := 0
  aux : Nat := 0
  destSite : Nat := 0
  /-- parameters of the first data flit (R277) -/
  par : List Nat := []
  data : List Word := []
  /-- a redirected RED packet or delivery (R296) -/
  redirect : Bool := false
  /-- the port of the receiver's neighbour path on which it came (R272); 0 for a routed packet -/
  adj : Nat := 0
deriving DecidableEq, Repr

/-- A packet at a router: its input port (0 local, 1 N, 2 E, 3 S, 4 W), its detour (turn, original direction and the
region's rectangle, R285), whether it waits for ejection. -/
structure Flight where
  pkt : Packet
  site : Nat
  port : Nat
  detour : Option (Nat × Nat × Nat × Nat × Nat × Nat) := none
  eject : Bool := false
deriving DecidableEq, Repr

/-- A reduction instance open at a router (R294). -/
structure RedInst where
  site : Nat
  id : Nat
  n : Nat
  inputs : KV (List Word × Bool)
  /-- port of the first arrived input -/
  first : Nat
  /-- aborted: later contributions are discarded (R299) -/
  dead : Bool := false
deriving DecidableEq, Repr

/-- The fabric beside the FIELD pages (07_fabric.md). -/
structure FabricSt where
  net : List Flight := []
  /-- packets that have reached a tile and wait for their service: site, the packet -/
  landed : List (Nat × Packet) := []
  /-- packets that have reached an edge port: port code, the packet -/
  edge : List (Nat × Packet) := []
  /-- binding table as written at floor-plan assembly, and the changes distributed since (R279, R282) -/
  bindBoot : KV Word := []
  bindLog : List (Nat × Word) := []
  /-- changes applied, by router site or 16384 + port code -/
  bindDone : KV Nat := []
  /-- binding entries written through RT_DATA: 16384 site + ID -/
  bindRt : KV Word := []
  /-- reduction entries: 4 (256 site + ID) + word; broadcast entries: 2 (64 site + tree) + word (R288, R292) -/
  red : KV Word := []
  bc : KV Word := []
  /-- words written and not yet in force (R313): 4 (16384 (4 site + table) + index) + word -/
  rtHeld : KV Word := []
  insts : List RedInst := []
  /-- contributions that have arrived: 8 (256 site + ID) + port -/
  redCount : KV Nat := []
  /-- rectangles of fenced routers: x0, y0, x1, y1 (R284) -/
  regions : List (Nat × Nat × Nat × Nat) := []
  /-- tick at which a seam segment unlocked: field, plus 16 for a south seam (R305) -/
  seamTick : KV Nat := []
  /-- commands on VC_0 to a sequencer -/
  cmds : List (Nat × Cmd) := []
  /-- tile fault reports on VC_0: sequencer, site, cause, entry, command (R261) -/
  reports : List (Nat × Nat × Nat × Nat × Cmd) := []
  /-- binding-update packets to sites: site, page offset, word (R122) -/
  updates : List (Nat × Nat × Word) := []
  /-- results of the transmit reduction that have completed at PX_TILE, oldest first (16_interfaces_pins.md R615) -/
  pxResults : List Nat := []
  ceSince : KV Nat := []
  ceMs : KV Nat := []
deriving DecidableEq, Repr



/-- A beat in flight (08_streams_context.md R324, R325, R342). -/
structure Beat where
  stream : Nat
  beat : Nat
  attempt : Nat
  /-- 0 decode, 1 ingestion -/
  kind : Nat
  tokens : Nat
  /-- sequencers of the beat, both halves in paired mode (R525) -/
  seqs : List Nat
  /-- sequencers that have not reported its command complete, or are not IDLE for it -/
  left : List Nat
  failed : Bool := false
  /-- a failure that is not replayed: a returned twin beat, or the beat after it (R537) -/
  dropped : Bool := false
  rollback : Bool := false
  /-- the refill command of a rebuild, which commits nothing (R542) -/
  refill : Bool := false
  /-- HOLD has been sent for the attempt (R539) -/
  told : Bool := false
  /-- its stream is FREE: the beat ends without commit and without effect on the stream (R319) -/
  orphan : Bool := false
deriving DecidableEq, Repr

/-- What a beat's commands carry beside their entries (08_streams_context.md R324, R343): a replay carries the same. -/
structure IssueInfo where
  /-- 0 decode, 1 ingestion -/
  kind : Nat
  tokens : Nat
  args : List Nat
deriving DecidableEq, Repr

/-- A BANK_SWAP entry that waits for a beat boundary (06_sequencers_isa.md R224). -/
structure SwapWait where
  mask : List Nat
  tick : Nat
  entry : Nat
  owner : Nat
  asked : Bool := false
  /-- its firing was late already -/
  late : Bool := false
  /-- sequencers that have not swapped -/
  left : List Nat := []
deriving DecidableEq, Repr

/-- The stream manager beside the STRM page and the descriptors (08_streams_context.md). -/
structure StreamSt where
  beats : List Beat := []
  /-- last issued ID + 1 (R331) -/
  rr : Nat := 0
  /-- beat program words in force and words written since: 50 n + word (R323) -/
  progs : KV Word := []
  progHeld : KV Word := []
  /-- the stream whose commit area an OPEN initialises (R319) -/
  opening : Option Nat := none
  /-- streams with a release whose deadline has not been checked (R332) -/
  deadlines : List Nat := []
  /-- streams whose current release missed its deadline (R335) -/
  missed : List Nat := []
  /-- streams whose next issue is a twin repeat (R537) -/
  rollbackNext : List Nat := []
  /-- kind, tokens and arguments of a stream's beat in flight or pending replay (R343) -/
  replay : KV IssueInfo := []
  /-- entries captured at a release that waits for the counts of other modules (14_channels_twin_herd.md R535) -/
  ingestWait : KV Nat := []
  /-- streams whose replay waits with the queued trial of a site (13_faults_recovery.md R493) -/
  parked : KV Nat := []
  swaps : List SwapWait := []
  /-- selection requests delivered to a field's selector and not taken -/
  selIn : KV (List (List Word)) := []
  /-- selection requests of a field's selector, oldest first (R348, R352) -/
  selReqs : KV (List (List Word)) := []
deriving DecidableEq, Repr



/-- A part of a tile's request at a memory port (09_external_memory.md R372). -/
structure MemPart where
  site : Nat
  dest : Nat
  destGen : Nat
  req : Nat
  part : Nat
  write : Bool
  addr : Nat
  lines : Nat
  landAddr : Nat
  data : List Word := []
  poison : Bool := false
deriving DecidableEq, Repr

/-- A memory port beside its MEMP page (09_external_memory.md). -/
structure MemPort where
  queue : List MemPart := []
  ceSince : Nat := 0
  ceSec : Option Nat := none
  /-- corrections of a page since the last reset of counts: stack page -/
  pageCe : KV Nat := []
  /-- pages remapped to spares, in order (R382) -/
  remap : List Nat := []
  /-- pages whose retirement is in progress -/
  retiring : List Nat := []
  /-- tick up to which THROTTLE_US has been counted, and the last reset of correction counts (R382, R387) -/
  throttleTick : Nat := 0
  resetTick : Nat := 0
  /-- next line of the scrub pass -/
  scrubLine : Nat := 0
deriving DecidableEq, Repr



/-- A Snigus frame sent and not acknowledged (14_channels_twin_herd.md R531). A peer is the PEER code of R557. -/
structure Sent where
  peer : Nat
  seq : Nat
  plane : Nat
  tries : Nat := 0
  tick : Nat
  typ : Nat
  fields : List Nat
  data : List Byte
deriving DecidableEq, Repr

/-- A committed beat of a compared stream, with the values that a repeat restores (R536, R537). -/
structure Commit where
  beat : Nat
  attempt : Nat
  info : IssueInfo
  head : Nat
  len : Nat
  digest : Nat
  released : Bool := false
  /-- flags byte of the commit record (R335, R528), and the record before this commit -/
  flags : Nat
  prev : List Byte
  /-- APPEND, the holder of the append role and the tokens that it had appended (R355, R551) -/
  append : Bool
  appendPos : Option Nat := none
  appendLen : Option Nat := none
deriving DecidableEq, Repr

/-- A partner digest not yet matched. -/
structure PartnerDigest where
  beat : Nat
  attempt : Nat
  digest : Nat
deriving DecidableEq, Repr

/-- A rebuild in progress (R542): the step of the table. -/
structure Rebuild where
  source : Bool
  step : Nat
deriving DecidableEq, Repr

/-- A member's REPORT (R548). -/
structure Report where
  frame : Nat
  epoch : Nat
  digest : Nat
  power : Nat
  phase : Nat
  health : Nat
deriving DecidableEq, Repr

/-- A slot of the partials exchange (16_interfaces_pins.md R615): bytes 0 to 8 of its use, the positions received. -/
structure PxSlot where
  use : Nat := 0
  got : List Nat := []
  sent : Bool := false
deriving DecidableEq, Repr

/-- Twins, herds and their transport beside the TWIN, HERD and SPUR pages (14_channels_twin_herd.md). -/
structure PeerSt where
  seqOut : KV Nat := []
  seqIn : KV Nat := []
  unacked : List Sent := []
  /-- tick of the last frame from a peer -/
  heard : KV Nat := []
  /-- own commits of a compared stream, newest first, at most 256 -/
  hist : KV (List Commit) := []
  partner : KV (List PartnerDigest) := []
  /-- the partner's last committed beat and its attempt, as its digests show -/
  partnerLast : KV (Nat × Nat) := []
  /-- the beat for which the module last sent a HOLD -/
  holdSent : KV Nat := []
  /-- tick of the own commit that waits for a digest -/
  waitTick : KV Nat := []
  repeats : KV Nat := []
  /-- the digest of the first attempt of a repeated beat -/
  firstDigest : KV Nat := []
  /-- streams whose comparison stays lapsed until a rebuild or a reopening (R540) -/
  barred : List Nat := []
  /-- counts of captured entries from other modules, by stream: peer, release frame, count (R535, R546) -/
  counts : KV (List (Nat × Nat × Nat)) := []
  rebuild : KV Rebuild := []
  /-- reason of the last refusal of the twin: recorded once -/
  refused : Nat := 0
  /-- generation of each position, present or past (R544), and of each of the other side, plus 64 -/
  gens : KV Nat := []
  foldMask : Nat := 0
  /-- a fold mask to be written, and the beat from which it holds (R545) -/
  maskPend : Option (Nat × Nat) := none
  /-- positions present on the other side of a paired herd, once its lead has told them (R554) -/
  otherMembers : Option Nat := none
  otherDigest : Option (Nat × Nat) := none
  reports : KV Report := []
  missing : KV Nat := []
  /-- members being synchronised, as the lead counts their frames (R544) -/
  syncing : KV Nat := []
  reported : Bool := false
  /-- EPOCH and device digest latched at the last boundary (R548) -/
  latched : Nat × Nat := (0, 0)
  /-- MEMBERSHIP change pending of the append role: stream, beat, position (R551) -/
  appendPend : List (Nat × Nat × Nat) := []
  appendPos : KV Nat := []
  /-- positions that the holder of the append role has filled since the role came to it (R355) -/
  appendLen : KV Nat := []
  /-- the reference's last FRAME: number, boundary TAI; none adopted since COMPARING (R534) -/
  refFrame : Option (Nat × Nat) := none
  firstAdopt : Bool := false
  px : KV PxSlot := []
  /-- phase of the last commit, and that of the previous frame -/
  commitPhase : Nat := 0
  lastCommitPhase : Nat := 0
  /-- answers of register accesses sent to other modules: peer, offset, data, code (R532) -/
  regResp : List (Nat × Nat × Nat × Nat) := []
deriving DecidableEq, Repr



/-- A request of the boot window or of the management target (15_bringup_reset_licences.md R571, R617). -/
structure BootReq where
  seq : Nat
  op : Nat
  len : Nat := 0
  off : Nat := 0
  bmc : Bool := false
  /-- the code it ends with, once its work is done -/
  code : Option Nat := none
deriving DecidableEq, Repr

/-- What the health store in the boot flash lists (R567): DEAD and HELD sites, retired pages, margin trims. -/
structure HealthStore where
  dead : List Nat := []
  held : List Nat := []
  pages : KV (List Nat) := []
  trims : KV Int := []
deriving DecidableEq, Repr

/-- Start-up and reset beside the BOOT and LIC pages (15_bringup_reset_licences.md). -/
structure BootSt where
  /-- boot flash bytes that are not erased -/
  flash : KV Byte := []
  store : HealthStore := {}
  /-- the boot window's buffer, and the data area of the management target -/
  window : KV Byte := []
  bmcData : KV Byte := []
  lastSeq : Nat := 0
  /-- SEQ, CODE and DONE of the management target's last request -/
  bmcStatus : Nat := 0
  req : Option BootReq := none
  waiting : List BootReq := []
  /-- an accepted BOARD_CFG token makes the next FW_CHUNK the board configuration block (R580) -/
  boardNext : Bool := false
  sessionEnd : Option Nat := none
  /-- the ROM, not firmware, serves requests -/
  rom : Bool := true
  /-- the start-up has stopped (R583) -/
  stop : Bool := false
  crTick : Nat := 0
  /-- the quick self-test of a compute reset has ended; the sites that failed it -/
  tested : Bool := false
  failedSites : List Nat := []
  restarting : Bool := false
  restartTick : Nat := 0
  /-- hash of the board management key in the board configuration block (R567) -/
  boardKey : List Byte := []
  /-- VAON has dropped and is out of tolerance (17_electrical_mechanical.md R641) -/
  vaonLow : Bool := false
  /-- what the outside gives the cold start in progress -/
  facts : BootFacts := {}
  /-- level of RST_N, and the ticks at which it fell and rose -/
  rstN : Bool := true
  rstTick : Nat := 0
deriving DecidableEq, Repr


/-- An entry that a sensor port writes (16_interfaces_pins.md R607, R608): its flow, ring, capture time, payload, source
field, and in PAIRED mode whether it is the north port's or the south port's copy. -/
structure SensEntry where
  port : Nat
  flow : Nat
  ring : Nat
  ns : Nat
  payload : List Byte
  source : Nat
  paired : Bool := false
  tick : Nat
deriving DecidableEq, Repr

/-- The interfaces and pins beside their pages (16_interfaces_pins.md). -/
structure IfaceSt where
  /-- entries of the sensor ports, oldest first -/
  entries : List SensEntry := []
  /-- the last sequence_num of a flow: 16 port + flow (R611) -/
  avtpSeq : KV Nat := []
  /-- attempts of a port that is down, by port code (R627) -/
  attempts : KV Nat := []
  /-- tick of the last assertion of each source of ALERT_N (R623) -/
  alertTick : KV Nat := []
  perstLow : Bool := false
  trstLow : Bool := false
  /-- JTAG instruction register, and the boundary-scan cells (R618) -/
  jtagIr : Nat := 1
  cells : List Bool := []
  /-- dynamic address of the I3C target (R617) -/
  dynAddr : Option Nat := none
  coolantTick : Nat := 0
  /-- input that the console has accepted (R619) -/
  console : List Byte := []
deriving DecidableEq, Repr

/-- Everything in the part but external memory and the command queue. -/
structure Dev where
  /-- register words that are not at their reset value, by BAR 0 offset (02_control_model.md R38) -/
  regs : KV Word := []
  /-- staged copies that differ from the active value (R58) -/
  staged : KV Word := []
  /-- configuration digests written so far, by page base (R62, R63) -/
  digests : KV Nat := []
  /-- pages whose digest is being recomputed (R62) -/
  digestBusy : List Nat := []
  /-- page bases of fenced units (R43) -/
  fenced : List Nat := []
  /-- BOOT.STAGE.READY has been reached: every block has finished start-up (R43) -/
  up : Bool := false
  /-- PORST_N low or VAON out of tolerance: the whole device in cold reset (15_bringup_reset_licences.md R565, R641) -/
  held : Bool := true
  resp : Response := {}
  /-- the model's own: how many free values have been taken -/
  freeCtr : Nat := 0
  time : TimeBase := {}
  cad : Cadence := {}
  clk : ClockSt := {}
  pwr : PowerSt := {}
  flt : FaultSt := {}
  /-- everything sent to the outside, newest last -/
  tx : List TxMsg := []
  ctl : ControlSt := {}
  tiles : KV Tile := []
  seqs : KV Sequencer := []
  fab : FabricSt := {}
  strm : StreamSt := {}
  memp : KV MemPort := []
  peer : PeerSt := {}
  boot : BootSt := {}
  iface : IfaceSt := {}
deriving DecidableEq, Repr

/-- External memory: the bytes that are not 0, addresses rising, and the poisoned 64-byte lines (09_external_memory.md R366, R373). -/
structure ExtMem where
  bytes : List Host.Cell := []
  poison : List Nat := []
deriving DecidableEq, Repr

/-- The part: its waiting commands, its inside, its external memory. -/
structure State where
  pending : List Instr
  dev : Dev
  mem : ExtMem
  /-- the inside of the part as it stood at the instant T of the last snapshot: all pages latch that instant (R89, R90) -/
  shot : Option Dev := none
deriving DecidableEq, Repr

/-- What a byte of external memory that nothing has written reads as. DESIGN CHOICE, notes/assumptions/2.md. -/
def ExtMem.unlisted : Byte := 0

/-- The memory's canonical form: addresses strictly rising, no listed byte equal to what an unlisted one reads as,
poisoned lines strictly rising. -/
def ExtMem.wf (m : ExtMem) : Bool :=
  m.bytes.map (·.1) |>.Pairwise (· < ·) |> decide |> (· && m.bytes.all (fun c => c.2 != ExtMem.unlisted))
    |> (· && decide (m.poison.Pairwise (· < ·)))

/-- The machine right after reset: the whole device in cold reset (R565), every field at its cold-start value, the
queue empty. COLD_START takes it to READY (DESIGN CHOICE, safe: notes/assumptions/1.md; DESIGN CHOICE, unsafe: notes/assumptions/3.md). -/
def State.reset : State := { pending := [], dev := {}, mem := {} }

end Sys2Proof.Machine
end

