-- ==== Sys2Proof/Machine/Pages.lean ====
section
/-! DEFINITION. The page map of BAR 0, the reset value of every register word, and reading and writing the words the
machine holds (02_control_model.md R38 to R44). -/

namespace Sys2Proof.Machine

/-- The pages of R38; a page with instances carries its index. -/
inductive Page where
  | dev | lic | lock | snap | dbg | flt | floor | time | cad | clk | pwr | therm | strm | sel | chan | twin | herd
  | pins | boot | pcie | sens | spur | pmb
  | field (f : Nat) | seq (q : Nat) | trace (f : Nat) | memp (m : Nat) | tile (site : Nat)
deriving DecidableEq, Repr

/-- The pages at 0x0000_0000 to 0x0001_6FFF, in order (R38). -/
def lowPages : List Page := [.dev, .lic, .lock, .snap, .dbg, .flt, .floor, .time, .cad, .clk, .pwr, .therm, .strm, .sel,
  .chan, .twin, .herd, .pins, .boot, .pcie, .sens, .spur, .pmb]

/-- PAGE_ID.TYPE (R38). -/
def Page.type : Page → Nat
  | .field _ => 0x20 | .seq _ => 0x21 | .trace _ => 0x22 | .memp _ => 0x30 | .tile _ => 0x40
  | p => lowPages.idxOf p + 1

/-- BAR 0 offset of a page (R38). -/
def Page.base : Page → Nat
  | .field f => fieldBase f | .seq q => seqBase q | .trace f => traceBase f | .memp m => mempBase m
  | .tile t => tileBase t
  | p => 0x1000 * lowPages.idxOf p

/-- Site x, y and field (01_device_overview.md R21). -/
def siteX (s : Nat) : Nat := s % 96
def siteY (s : Nat) : Nat := s / 96
def siteAt (x y : Nat) : Nat := y * 96 + x
def siteField (s : Nat) : Nat := 3 * (siteY s / 36) + siteX s / 32
/-- Core power domain of a site (12_power_thermal.md R451). -/
def siteDomain (s : Nat) : Nat := 12 * siteField s + siteY s % 36 / 3
/-- Field-local index of a site (R38). -/
def siteLocal (s : Nat) : Nat := siteY s % 36 * 32 + siteX s % 32
/-- The site of a field's local index. -/
def siteOfLocal (f i : Nat) : Nat := siteAt (32 * (f % 3) + i % 32) (36 * (f / 3) + i / 32)
/-- Channel of a field: 0 north, 1 south (R25). -/
def fieldChannel (f : Nat) : Nat := f / 6

/-- PAGE_ID.INSTANCE (R38). -/
def Page.inst : Page → Nat
  | .field f => f | .seq q => q | .trace f => f | .memp m => m | .tile t => siteLocal t | _ => 0

/-- The page that a BAR 0 offset lies in, and the offset within it (R38, R39). -/
def pageOf (a : Nat) : Option (Page × Nat) :=
  if a < 0x17000 then (lowPages[a / 0x1000]?).map fun p => (p, a % 0x1000)
  else if a < 0x20000 then none
  else if a < 0x80000 then
    let f := (a - 0x20000) / 0x8000
    let k := (a - 0x20000) % 0x8000 / 0x1000
    let o := a % 0x1000
    if k = 0 then some (.field f, o)
    else if k < 5 then some (.seq (4 * f + k - 1), o)
    else if k = 5 then some (.trace f, o)
    else none
  else if a < 0x88000 then some (.memp ((a - 0x80000) / 0x1000), a % 0x1000)
  else if a < 0x1000000 then none
  else if a < 0x1D80000 then some (.tile ((a - 0x1000000) / 0x400), a % 0x400)
  else none

/-- The register table of a page. -/
def Page.rows : Page → List RegRow
  | .dev => rowsDev | .lic => rowsLic | .lock => rowsLock | .snap => rowsSnap | .dbg => rowsDbg | .flt => rowsFlt
  | .floor => rowsFloor | .time => rowsTime | .cad => rowsCad | .clk => rowsClk | .pwr => rowsPwr | .therm => rowsTherm
  | .strm => rowsStrm | .sel => rowsSel | .chan => rowsChan | .twin => rowsTwin | .herd => rowsHerd | .pins => rowsPins
  | .boot => rowsBoot | .pcie => rowsPcie | .sens => rowsSens | .spur => rowsSpur | .pmb => rowsPmb
  | .field _ => rowsField | .seq _ => rowsSeq | .trace _ => rowsTrace | .memp _ => rowsMemp | .tile _ => rowsTile

/-- The register of a table at a page offset, and its index. -/
def findRow : List RegRow → Nat → Option (RegRow × Nat)
  | [], _ => none
  | r :: t, o =>
    if r.off ≤ o ∧ (o - r.off) % r.stride = 0 ∧ (o - r.off) / r.stride < r.count then some (r, (o - r.off) / r.stride)
    else findRow t o

/-- The device capability list (R70): ID and word 1 as cold start leaves it before the licence is verified. -/
def capIds : List Nat := [0x010, 0x011, 0x012, 0x020, 0x021, 0x030, 0x040, 0x041, 0x050, 0x060]

/-- Capability words at DEV 0x200 (R68, R69): entry i at 0x200 + 8 i. Word 1 before licence verification grants
nothing; its parameters are those of capabilities without a profile (DESIGN CHOICE, unsafe: notes/assumptions/95.md). -/
def capWord (i : Nat) : Nat :=
  let e := i / 2
  let id := capIds.getD e 0
  if i % 2 = 0 then id * 2 ^ 20 + 2 ^ 16 + (if e < 9 then 0x200 + 8 * (e + 1) else 0)
  else if id = 0x040 ∨ id = 0x041 then 8 else 0

/-- The reset value of the word at an offset of a page: the header of R41 and R43, then the page's table (DESIGN CHOICE, unsafe: notes/assumptions/95.md). -/
def pageReset (p : Page) (o : Nat) : Nat :=
  if o = 0 then p.type * 2 ^ 20 + p.inst * 2 ^ 8 + 1
  else if o = 4 then (if p = .dev then 0x200 else 0)
  else if o = 8 then 4
  else if o = 0xC then 0x40
  else if o < 0x100 then 0
  else match findRow p.rows o with
    | none => 0
    | some (r, i) =>
      match p with
      | .dev => if 0x200 ≤ o then capWord i else r.reset
      | .seq q => if o = 0x100 then (if q % 4 = 3 then 1 else 0) else r.reset
      | .tile t => if o = 0x100 then t + siteField t * 2 ^ 16 + siteDomain t * 2 ^ 20 else r.reset
      | _ => r.reset + r.resetStep * i

/-- The reset value of a BAR 0 word: a page's, or a stream descriptor's (08_streams_context.md R315: word 0 has
APPEND = 1), or 0 (DESIGN CHOICE, unsafe: notes/assumptions/7.md). -/
def regReset (a : Nat) : Word :=
  match pageOf a with
  | some (p, o) => w32 (pageReset p o)
  | none => if 0x100000 ≤ a ∧ a < 0x200000 ∧ a % 64 = 0 then w32 0x40000 else 0

/-- The word the machine holds at a BAR 0 offset. -/
def Dev.rd (d : Dev) (a : Nat) : Word := (kvGet? d.regs a).getD (regReset a)

/-- The word the machine holds at a BAR 0 offset becomes `w`. -/
def Dev.wr (d : Dev) (a : Nat) (w : Word) : Dev := { d with regs := kvSetD d.regs (regReset a) a w }

/-- Bits [hi:lo] of the word at an offset. -/
def Dev.rdF (d : Dev) (a hi lo : Nat) : Nat := fld (d.rd a) hi lo

/-- Set bits [hi:lo] of the word at an offset. -/
def Dev.wrF (d : Dev) (a hi lo v : Nat) : Dev := d.wr a (setFld (d.rd a) hi lo v)

/-- A saturating counter (RC registers). -/
def Dev.bumpBy (d : Dev) (a n : Nat) : Dev := d.wr a (satAdd (d.rd a) n)
def Dev.bump (d : Dev) (a : Nat) : Dev := d.bumpBy a 1

/-- Write a number. -/
def Dev.wrN (d : Dev) (a v : Nat) : Dev := d.wr a (w32 v)

/-- A 64-bit value in two consecutive words, low word first. -/
def Dev.rd64 (d : Dev) (a : Nat) : Nat := (d.rd a).toNat + 2 ^ 32 * (d.rd (a + 4)).toNat
def Dev.wr64 (d : Dev) (a v : Nat) : Dev := (d.wrN a v).wrN (a + 4) (v / 2 ^ 32)

/-- The staged value of an ST register (R48, R58): the staged copy where it differs, else the active value. -/
def Dev.stagedRd (d : Dev) (a : Nat) : Word := (kvGet? d.staged a).getD (d.rd a)

/-- Write a staged copy; it is listed while it differs from the active value (R58). -/
def Dev.stagedWr (d : Dev) (a : Nat) (w : Word) : Dev :=
  { d with staged := if w = d.rd a then kvDel d.staged a else kvPut d.staged a w }

/-- Power domain of a page's unit (R451): none for the always-on domain. -/
def Page.domain : Page → Option Nat
  | .field f => some (144 + f) | .seq q => some (144 + q / 4) | .trace f => some (144 + f)
  | .memp m => some (156 + m) | .tile t => some (siteDomain t) | _ => none

/-- A switched domain is powered (PWR.DOM_ON, R476). -/
def Dev.domOn (d : Dev) (i : Nat) : Bool := bitOf (d.rd (PWR_DOM_ON (i / 32))) (i % 32)

def Dev.setDom (d : Dev) (i : Nat) (on : Bool) : Dev :=
  d.wr (PWR_DOM_ON (i / 32)) (setBit (d.rd (PWR_DOM_ON (i / 32))) (i % 32) on)

/-- The unit behind a page is powered. -/
def Dev.powered (d : Dev) (p : Page) : Bool :=
  match p.domain with
  | none => true
  | some i => d.domOn i

/-- STATUS.FENCED of a page (R43): the unit is fenced or its power domain is off. -/
def Dev.isFenced (d : Dev) (p : Page) : Bool := d.fenced.contains p.base || !d.powered p

def Dev.setFence (d : Dev) (p : Page) (b : Bool) : Dev := { d with fenced := setPut d.fenced p.base b }

/-- The bytes of a page: 1 KiB for a tile page, 4 KiB otherwise (R38). -/
def Page.size : Page → Nat
  | .tile _ => 0x400 | _ => 0x1000

/-- STATUS.STAGED (R43): some staged value of the page differs from its active value. -/
def Dev.isStaged (d : Dev) (p : Page) : Bool :=
  d.staged.any fun e => decide (p.base ≤ e.1 ∧ e.1 < p.base + p.size)

/-- An apply of a page is in progress: a set of TAI that waits for its roll-over (10_cadence_time.md R399, R400). -/
def Dev.applying (d : Dev) (p : Page) : Bool := p == .time && d.time.taiSet.isSome

/-- STATUS as it reads (R43): READY, STAGED, APPLYING and FENCED follow the machine, the other bits are held. -/
def Dev.status (d : Dev) (p : Page) : Word :=
  let w := setBit (d.rd (p.base + 0xC)) 0 d.up
  let w := setBit w 1 (d.isStaged p)
  let w := setBit w 2 (d.applying p)
  let w := setBit w 3 (d.isFenced p)
  setBit w 6 (!d.up || d.digestBusy.contains p.base)

end Sys2Proof.Machine
end

