-- ==== Sys2Proof/Machine/Ops.lean ====
section
/-! DEFINITION. The named operations over the machine that every family of commands uses: lifting an effect to an
outcome, time, rejections, error records, alert and fault pins, interrupts, free values. -/

namespace Sys2Proof.Machine

/-! ### Outcomes -/

/-- The outcome of a command. -/
abbrev Result := Host.Outcome State Fault Refusal

/-- A command whose effect lies inside the part. -/
def onDev (f : Dev → Dev) (s : State) : Result := .next { s with dev := f s.dev }

/-- The mesh of a field is ungated (11_clocking.md R442 RUN). -/
def Dev.meshRuns (d : Dev) (f : Nat) : Bool := bitOf (d.rd CLK_FIELD_PLL) (16 + f)

/-- An effect of a field's logic: a gated mesh keeps its state (11_clocking.md R430, R435 step 6, R437). -/
def onMesh (f : Nat) (g : Dev → Dev) (s : State) : Result := onDev (fun d => if d.meshRuns f then g d else d) s

/-! ### The address map of external memory (R367) -/

/-- Port and stack offset of a BAR 2 offset for JOIN_GIB (09_external_memory.md R367). -/
def memMap (j a : Nat) : Nat × Nat :=
  let gib := 2 ^ 30
  if a < 8 * j * gib then ([0, 4, 1, 5, 2, 6, 3, 7].getD (a / 4096 % 8) 0, a / 4096 / 8 * 4096 + a % 4096)
  else
    let a := a - 8 * j * gib
    let h := 4 * (45 - j) * gib
    let south := decide (h ≤ a)
    let a := if south then a - h else a
    ((if south then [2, 6, 3, 7] else [0, 4, 1, 5]).getD (a / 4096 % 4) 0, j * gib + a / 4096 / 4 * 4096 + a % 4096)

/-- Channel of a memory port (R367): 0 north, 1 south. -/
def portChannel (m : Nat) : Nat := if m = 2 ∨ m = 3 ∨ 6 ≤ m then 1 else 0

/-- The BAR 2 offset of a port and stack offset: the inverse of memMap. -/
def memUnmap (j mp off : Nat) : Nat :=
  let gib := 2 ^ 30
  if off < j * gib then (off / 4096 * 8 + [0, 4, 1, 5, 2, 6, 3, 7].idxOf mp) * 4096 + off % 4096
  else
    let south := portChannel mp == 1
    let o := off - j * gib
    8 * j * gib + (if south then 4 * (45 - j) * gib else 0) +
      (o / 4096 * 4 + (if south then [2, 6, 3, 7] else [0, 4, 1, 5]).idxOf mp) * 4096 + o % 4096

/-- The BAR 2 offset at which a byte lies after JOIN_GIB changes: it keeps its place in its stack. -/
def memMoved (old new a : Nat) : Nat := let p := memMap old a; memUnmap new p.1 p.2

/-- A write to external memory: bytes from an address, a poisoned line (09_external_memory.md R373), a line found
uncorrectable, whose bytes are free values (R380), or a change of JOIN_GIB, which moves every byte to the BAR 2 offset of
its place (R367). -/
inductive MemWrite where
  | bytes (addr : Nat) (bs : List Byte)
  | poison (line : Nat)
  | lost (line : Nat) (bs : List Byte)
  | rejoin (old new : Nat)
deriving DecidableEq, Repr

/-- The byte of external memory at an address (DESIGN CHOICE, unsafe: notes/assumptions/2.md). -/
def ExtMem.byteAt (m : ExtMem) (a : Nat) : Byte := (kvGet? m.bytes a).getD ExtMem.unlisted

/-- `n` bytes from an address. -/
def ExtMem.read (m : ExtMem) (a n : Nat) : List Byte := (List.range n).map fun i => m.byteAt (a + i)

/-- The 64-byte line an address lies in is poisoned. -/
def ExtMem.poisoned (m : ExtMem) (a : Nat) : Bool := m.poison.contains (a / 64)

/-- A little-endian number of `n` bytes. -/
def ExtMem.readN (m : ExtMem) (a n : Nat) : Nat := leNat (m.read a n)

/-- The cells of bytes laid from an address, the unlisted value left out. -/
def cellsAt : Nat → List Byte → List Host.Cell
  | _, [] => []
  | a, b :: t => if b = ExtMem.unlisted then cellsAt (a + 1) t else (a, b) :: cellsAt (a + 1) t

/-- Bytes written from an address: they replace what lay there. -/
def writeBytes (c : List Host.Cell) (a : Nat) (bs : List Byte) : List Host.Cell :=
  c.filter (fun e => decide (e.1 < a)) ++ cellsAt a bs ++ c.filter (fun e => decide (a + bs.length ≤ e.1))

/-- One write. A write of a whole line clears its poison; a shorter write into a poisoned line leaves it poisoned (R373). -/
def ExtMem.write (m : ExtMem) : MemWrite → ExtMem
  | .bytes a bs =>
    { bytes := writeBytes m.bytes a bs,
      poison := m.poison.filter fun l => !(decide (a ≤ 64 * l) && decide (64 * l + 64 ≤ a + bs.length)) }
  | .poison l => { m with poison := setIns m.poison l }
  | .lost l bs => { bytes := writeBytes m.bytes (64 * l) bs, poison := setIns m.poison l }
  | .rejoin old new =>
    { bytes := m.bytes.foldl (fun c e => kvSetD c ExtMem.unlisted (memMoved old new e.1) e.2) []
      poison := m.poison.foldl (fun p l => setIns p (memMoved old new (64 * l) / 64)) [] }

/-- Writes in order. -/
def ExtMem.writeAll (m : ExtMem) (ws : List MemWrite) : ExtMem := ws.foldl ExtMem.write m

/-- JOIN_GIB in force. -/
def joinGib (d : Dev) : Nat := d.rdF (MEMP_MAP 0) 5 0

/-- A memory port has failed (09_external_memory.md R386) (DEDUCED, safe: notes/assumptions/121.md). -/
def portFailed (d : Dev) (m : Nat) : Bool := bitOf (d.rd (MEMP_STATUS_MP m)) 1 || d.isFenced (.memp m)

/-- A 48-bit count over two words, wrapping (DEDUCED, unsafe: notes/assumptions/61.md). -/
def count48 (a n : Nat) (d : Dev) : Dev := d.wr64 a ((d.rd64 a + n) % 2 ^ 48)

/-- The lines a write stores to (DEDUCED, unsafe: notes/assumptions/61.md). -/
def MemWrite.lines : MemWrite → List Nat
  | .bytes a bs => (List.range ((a % 64 * min 1 bs.length + bs.length + 63) / 64)).map fun i => a / 64 + i
  | _ => []

/-- Each line written counts at its port (R387) (DEDUCED, unsafe: notes/assumptions/61.md). -/
def countWrites (ws : List MemWrite) (d : Dev) : Dev :=
  let ports := (ws.flatMap MemWrite.lines).map fun l => (memMap (joinGib d) (64 * l)).1
  (List.range 8).foldl (fun d m =>
    if ports.count m = 0 ∨ portFailed d m then d else count48 (MEMP_WR_LINES_LO m) (ports.count m) d) d

/-- A command whose effect reaches external memory: it reads memory as it stands and gives its writes. -/
def onDevMem (f : ExtMem → Dev → Dev × List MemWrite) (s : State) : Result :=
  let r := f s.mem s.dev
  .next { s with dev := countWrites r.2 r.1, mem := s.mem.writeAll r.2 }

/-- A command whose effect reads external memory and writes none. -/
def onDevRead (f : ExtMem → Dev → Dev) (s : State) : Result := .next { s with dev := f s.mem s.dev }

/-- A command that names a unit the die may not have (DESIGN CHOICE, safe: notes/assumptions/6.md). -/
def guardUnit (ok : Bool) (r : Result) : Result := if ok then r else .fault .noSuchUnit

/-- Effects one after the other, each with its memory writes. -/
def andThen (r : Dev × List MemWrite) (f : Dev → Dev × List MemWrite) : Dev × List MemWrite :=
  let r' := f r.1
  (r'.1, r.2 ++ r'.2)

/-! ### Free values -/

/-- A value the spec does not state, fresh each time (Config.freeValue) (DESIGN CHOICE, safe: notes/assumptions/1.md). -/
def Dev.free (d : Dev) : Nat × Dev := (Config.freeValue d.freeCtr, { d with freeCtr := d.freeCtr + 1 })

/-- `n` free values (DESIGN CHOICE, safe: notes/assumptions/1.md). -/
def Dev.freeN (d : Dev) : Nat → List Nat × Dev
  | 0 => ([], d)
  | n + 1 =>
    let (v, d1) := d.free
    let (vs, d2) := d1.freeN n
    (v :: vs, d2)

/-! ### Time -/

/-- RATE as a signed number (R393, R426). -/
def Dev.rate (d : Dev) : Int := toSigned 32 (d.rd TIME_RATE).toNat

/-- TAI at tick `t` in units of 2^-42 ns (R393): each tick adds 1.25 ns × (1 + RATE × 2^-40). -/
def Dev.taiUnitsAt (d : Dev) (t : Nat) : Nat :=
  ((d.time.refTai : Int) + ((t : Int) - d.time.refTb) * (5 * (2 ^ 40 + d.rate))).toNat

/-- TAI at tick `t` in whole nanoseconds. -/
def Dev.taiNsAt (d : Dev) (t : Nat) : Nat := d.taiUnitsAt t / 2 ^ 42

/-- TAI now, in whole nanoseconds. -/
def Dev.taiNs (d : Dev) : Nat := d.taiNsAt d.time.tb

/-- Tick of the present frame's boundary (CAD.BOUND_TB). -/
def Dev.boundTick (d : Dev) : Nat := d.rd64 (CAD_BOUND_TB 0)

/-- Phase at tick `t` (R403): floor((t − B) × 65,536 / P), saturating; 0 while no frame has a period. -/
def Dev.phaseAt (d : Dev) (t : Nat) : Nat :=
  if d.cad.framePeriod = 0 then 0
  else if d.cad.cause.isSome then 0xFFFF
  else min 0xFFFF ((t - d.boundTick) * 65536 / d.cad.framePeriod)

def Dev.phase (d : Dev) : Nat := d.phaseAt d.time.tb

def Dev.frame (d : Dev) : Nat := (d.rd CAD_FRAME).toNat

/-- Ticks of a number of microseconds (R390: 800 per µs) (DESIGN CHOICE, unsafe: notes/assumptions/103.md). -/
def usTicks (us : Nat) : Nat := 800 * us

/-! ### Rejection -/

/-- The error codes of R55. -/
inductive ErrCode where
  | align | privilege | licence | fenced | owner | state | busy | activeBank | order | conflict | noResource
  | reserved | range | unmapped
deriving DecidableEq, Repr

/-- The code's number (R55). -/
def ErrCode.code : ErrCode → Nat
  | .align => 0x08 | .privilege => 0x0B | .licence => 0x05 | .fenced => 0x09 | .owner => 0x04 | .state => 0x03
  | .busy => 0x0C | .activeBank => 0x07 | .order => 0x0A | .conflict => 0x06 | .noResource => 0x0D
  | .reserved => 0x02 | .range => 0x01 | .unmapped => 0x0F

/-- The code's place in the check order (R55). -/
def ErrCode.rank : ErrCode → Nat
  | .align => 1 | .privilege => 2 | .licence => 3 | .fenced => 4 | .owner => 5 | .state => 6 | .busy => 7
  | .activeBank => 8 | .order => 9 | .conflict => 10 | .noResource => 11 | .reserved => 12 | .range => 13
  | .unmapped => 14

/-- A check: the code and whether the write breaks it. -/
abbrev Check := ErrCode × Bool

/-- The code that comes first in the check order among the broken checks (R55). -/
def firstFail : List Check → Option ErrCode
  | [] => none
  | (c, b) :: t =>
    match firstFail t with
    | none => if b then some c else none
    | some c' => if b && decide (c.rank ≤ c'.rank) then some c else some c'

/-! ### Units of records -/

/-- Temperature sensor of a unit (R471, R483): the sensor index, where the unit has one. -/
def unitSensor (kind unit : Nat) : Option Nat :=
  match kind with
  | 1 => some (siteDomain (unit % 16384))
  | 3 => some (180 + unit / 2 ^ 24 % 8)
  | 5 => if unit < 156 then some unit else if unit < 164 then some (unit + 24) else some (unit + 24)
  | 6 => some unit
  | 7 => some (144 + unit % 16)
  | 8 => if unit < 8 then some (180 + unit)
         else if 0x20 ≤ unit ∧ unit < 0x28 then some (188 + (unit - 0x20) / 2)
         else if 0x30 ≤ unit ∧ unit < 0x34 then some (188 + (unit - 0x30)) else none
  | 9 => some (144 + unit / 4)
  | 11 => some (144 + unit)
  | _ => none

/-- Rail that supplies a unit's logic (R445). -/
def unitRail (kind unit : Nat) : Option Nat :=
  match kind with
  | 1 => some (siteField (unit % 16384))
  | 5 => if unit < 144 then some (unit / 12) else if unit < 156 then some (unit - 144) else none
  | 7 => some (unit % 16)
  | 9 => some (unit / 4)
  | 10 => some 14
  | 11 => some unit
  | _ => none

/-- Logical ID bound to a site (TILE.BIND), 0x3FFF when unbound (R483). -/
def Dev.siteLogical (d : Dev) (site : Nat) : Nat :=
  if bitOf (d.rd (TILE_BIND site)) 31 then d.rdF (TILE_BIND site) 13 0 else 0x3FFF

/-- UNIT of a site (R483 KIND 1). -/
def Dev.siteUnit (d : Dev) (site : Nat) : Nat := site + 16384 * d.siteLogical site

/-! ### Error records -/

/-- The command a record names (R482 word 6): opcode, tag, stream, whether the error withholds commit. -/
structure CmdRef where
  opcode : Nat := 0xFF
  tag : Nat
  stream : Nat
  withheld : Bool
deriving DecidableEq, Repr

/-- An error record is detected (R482, R483): its time and place are those of this step; it waits to be stored (R485).
A record that withholds commit also sends its report to the stream manager (R334). -/
def Dev.record (d : Dev) (cls kind unit synd : Nat) (cmd : Option CmdRef := none) : Dev :=
  let temp := match unitSensor kind unit with
    | none => 0x200
    | some i => kvGetD d.pwr.sensor 0 i % 1024
  let volt := match unitRail kind unit with
    | none => 0
    | some r => d.rdF (PMB_RAIL_STAT r) 11 0 % 2048
  let r : ErrRec :=
    { cls, kind, unit, synd := synd % 2 ^ 32, tick := d.time.tb, taiNs := d.taiNs % 2 ^ 64, frame := d.frame % 65536, phase := d.phase, temp, volt }
  let r := match cmd with
    | none => r
    | some c => { r with opcode := c.opcode, tag := c.tag, stream := c.stream, opValid := true, withheld := c.withheld }
  let reps := match cmd with
    | some c => if c.withheld then d.flt.failReports ++ [(c.stream, c.tag)] else d.flt.failReports
    | none => d.flt.failReports
  { d with flt := { d.flt with pendingRecords := d.flt.pendingRecords ++ [r], failReports := reps } }

/-- The eight words of a record with its RECORD_ID (R482). -/
def ErrRec.words (r : ErrRec) (id : Nat) : List Word := [
  w32 (id + r.opcode * 2 ^ 16 + r.cls * 2 ^ 24),
  w32 r.taiNs,
  w32 (r.taiNs / 2 ^ 32),
  w32 (r.frame + r.phase * 2 ^ 16),
  w32 (r.temp + r.volt * 2 ^ 10 + r.kind * 2 ^ 21 + b2n r.withheld * 2 ^ 25),
  w32 r.unit,
  w32 (r.tag + r.stream * 2 ^ 16 + b2n r.opValid * 2 ^ 30 + 2 ^ 31),
  w32 r.synd]

/-- A rejection of a write at a page offset by an agent (R53): the count rises, the first is kept, and REJ_RECORD
writes a REJECTION record (R484) (DESIGN CHOICE, unsafe: notes/assumptions/126.md). -/
def Dev.reject (d : Dev) (p : Page) (off agent : Nat) (c : ErrCode) : Dev :=
  let e := p.base + 0x10
  let w := w32 (2 ^ 31 + off % 4096 * 2 ^ 16 + agent % 256 * 2 ^ 8 + c.code)
  let d := d.bump (p.base + 0x14)
  let d := if bitOf (d.rd e) 31 then d else d.wr e w
  if bitOf (d.rd (p.base + 8)) 1 then d.record 0x00 2 (p.base / 4096) w.toNat else d

/-- A write under checks: rejected with the first failing code, else performed (R52, R55). -/
def Dev.checked (d : Dev) (p : Page) (off agent : Nat) (cs : List Check) (f : Dev → Dev) : Dev :=
  match firstFail cs with
  | some c => d.reject p off agent c
  | none => f d

/-! ### Interrupts, ALERT_N, FAULT_N -/

/-- An interrupt cause sets its bit; one that goes from 0 to 1 while enabled raises its MSI-X vector (R604). -/
def Dev.intCause (d : Dev) (c : Nat) : Dev :=
  let was := bitOf (d.rd PCIE_INT_CAUSE) c
  let d := d.wr PCIE_INT_CAUSE (setBit (d.rd PCIE_INT_CAUSE) c true)
  if !was && bitOf (d.rd PCIE_INT_EN) c then { d with tx := d.tx ++ [.msix c] } else d

/-- ALERT_N is asserted: source 0 RECORD, 1 DIRECT (R623); under I3C an In-Band Interrupt is raised (R617). -/
def Dev.alert (d : Dev) (src : Nat) : Dev :=
  let d := { d with iface := { d.iface with alertTick := kvPut d.iface.alertTick src d.time.tb } }
  let d := if d.iface.dynAddr.isSome then { d with tx := d.tx ++ [.inBandInterrupt] } else d
  (d.wr PINS_ALERT_SRC (setBit (d.rd PINS_ALERT_SRC) src true)).intCause 0

/-- FAULT_N is asserted by a latched source: 0 RECORD, 1 DIRECT (R624). -/
def Dev.fault (d : Dev) (src : Nat) : Dev :=
  (d.wr PINS_FAULT_SRC (setBit (d.rd PINS_FAULT_SRC) src true)).intCause 1

/-- A condition of FAULT_COND holds or clears (R624); its start asserts FAULT_N. -/
def Dev.faultCond (d : Dev) (i : Nat) (b : Bool) : Dev :=
  let was := bitOf (d.rd PINS_FAULT_COND) i
  let d := d.wr PINS_FAULT_COND (setBit (d.rd PINS_FAULT_COND) i b)
  if b && !was then d.intCause 1 else d

/-! ### Answers -/

/-- The answer of an access that returned data. -/
def Dev.answer (d : Dev) (bytes : List Byte) : Dev := { d with resp := { kind := .ok, bytes := bytes } }

/-- The answer of one register read. -/
def Dev.answerW (d : Dev) (w : Word) : Dev := d.answer (leBytes 4 w.toNat)

/-! ### Agents (R73) -/

def agentHost : Nat := 0x01
def agentDebug : Nat := 0x02
/-- The Pewter agent that performs a service; services live on pair 0 unless it is out (R489) (DESIGN CHOICE, safe: notes/assumptions/106.md). -/
def isPewter (a : Nat) : Bool := a == 0x10 || a == 0x12 || a == 0x14 || a == 0x16
def isSeqAgent (a : Nat) : Bool := decide (0x40 ≤ a ∧ a ≤ 0x6F)
def isPeerAgent (a : Nat) : Bool := decide (0x80 ≤ a ∧ a ≤ 0xFF)
/-- The agents that exist (R73). -/
def isAgent (a : Nat) : Bool := a == agentHost || a == agentDebug || isPewter a || isSeqAgent a || isPeerAgent a

/-- The debug session is unlocked (DBG.STATUS.UNLOCKED, R80). -/
def Dev.unlocked (d : Dev) : Bool := bitOf (d.rd DBG_STATUS) 0

/-- The agents that may write a page (R56) (DESIGN CHOICE, safe: notes/assumptions/106.md). -/
def Dev.mayWrite (d : Dev) (agent : Nat) (p : Page) : Bool :=
  if isPewter agent then true
  else if agent == agentDebug then d.unlocked && (match p with | .lic | .boot => false | _ => true)
  else match p with
    | .dev | .strm => agent == agentHost
    | .snap => agent == agentHost || isPeerAgent agent
    | .lock => agent == agentHost || isSeqAgent agent || isPeerAgent agent
    | .twin | .herd => isPeerAgent agent
    | .dbg => agent == agentHost && d.unlocked
    | _ => false

end Sys2Proof.Machine
end

