-- ==== Sys2Proof/Machine/Control.lean ====
section
/-! DEFINITION. The common machinery of the register pages (02_control_model.md): configuration digests, violations,
hardware locks, snapshot triggers and the field trace. -/

namespace Sys2Proof.Machine

/-! ### Configuration digest (R62, R63) -/

/-- One bit through CRC-64 with the ECMA-182 polynomial, most significant bit first. -/
def crcBit (c : Nat) (b : Bool) : Nat :=
  let top := c.testBit 63 != b
  let c := c * 2 % 2 ^ 64
  if top then Nat.xor c 0x42F0E1EBA9EA3693 else c

/-- One byte, no reflection. -/
def crcByte (c : Nat) (v : Nat) : Nat :=
  [7, 6, 5, 4, 3, 2, 1, 0].foldl (fun c i => crcBit c (v.testBit i)) c

/-- CRC-64 of bytes, initial value 0, no final XOR (R63). -/
def crc64 (bs : List Byte) : Nat := bs.foldl (fun c b => crcByte c b.toNat) 0

/-- Insert a configuration register by ascending offset. -/
def insertOff (e : Nat × Nat) : List (Nat × Nat) → List (Nat × Nat)
  | [] => [e]
  | x :: t => if e.1 ≤ x.1 then e :: x :: t else x :: insertOff e t

/-- The configuration bits of a register of a page; MAP is a configuration field in MEMP_0 alone (R389). -/
def configBits (p : Page) (r : RegRow) : Nat :=
  match p with
  | .memp (_ + 1) => if r.off = 0x100 then 0 else r.config
  | _ => r.config

/-- The registers of a page that hold a configuration field: offset and mask, offsets ascending (R62, R63). -/
def configRegs (p : Page) : List (Nat × Nat) :=
  (p.rows.flatMap fun r =>
      if configBits p r = 0 then [] else (List.range r.count).map fun i => (r.off + r.stride * i, configBits p r)).foldr insertOff []

/-- CFG_DIGEST of the configuration a page holds (R63). -/
def configDigest (d : Dev) (p : Page) : Nat :=
  crc64 ((configRegs p).flatMap fun e => leBytes 4 ((d.rd (p.base + e.1)).toNat &&& e.2))

/-- CFG_DIGEST as it reads: the digest last computed; a page whose configuration has not changed since its start-up
holds the digest of that configuration (R62). -/
def digestOf (d : Dev) (p : Page) : Nat :=
  match kvGet? d.digests p.base with
  | some v => v
  | none => configDigest d p

/-- A page's configuration changed: its digest is recomputed (R62). The digest of the old configuration stays
readable until then. -/
def Dev.configChanged (d : Dev) (p : Page) (old : Nat) : Dev :=
  { d with digests := kvPut d.digests p.base old, digestBusy := setIns d.digestBusy p.base }

/-- The configuration mask of a register of a page (R62). -/
def configMask (p : Page) (off : Nat) : Nat :=
  match findRow p.rows off with
  | some (r, _) => configBits p r
  | none => 0

/-- The active value of a register changes (R48, R62): a changed configuration field restarts the digest (DEDUCED, unsafe: notes/assumptions/130.md). -/
def Dev.setActive (d : Dev) (p : Page) (off : Nat) (w : Word) : Dev :=
  let a := p.base + off
  let old := digestOf d p
  let changed := decide (((d.rd a).toNat ^^^ w.toNat) &&& configMask p off ≠ 0)
  let d := d.wr a w
  if changed && d.up then d.configChanged p old else d

/-- Recomputation completes (R62): the digest is written and CFG_EPOCH rises in the same cycle. -/
def digestDone (p : Page) (d : Dev) : Dev :=
  if d.digestBusy.contains p.base then
    let v := configDigest d p
    let d := { d with digests := kvPut d.digests p.base v, digestBusy := setDel d.digestBusy p.base }
    d.wr (p.base + 0x20) (d.rd (p.base + 0x20) + 1)
  else d

/-- Every page with a header, in BAR 0 order. -/
def allPages : List Page :=
  lowPages ++ (List.range 12).flatMap (fun f => .field f :: (List.range 4).map (fun s => .seq (4 * f + s)) ++ [.trace f])
    ++ (List.range 8).map .memp ++ (List.range 13824).map .tile

/-- The number of pages with a header: 23 + 12 × 6 + 8 + 13,824. -/
def pageCount : Nat := 13927

/-! ### Violations (R64 to R66) -/

/-- Installed external memory: 360 GiB (01_device_overview.md, the eight stacks of 45 GiB; R37). -/
def memCapacity : Nat := 0x5A00000000

/-- A BAR 0 offset holds a register, a descriptor word or a ring word (R38, R39). -/
def implemented (a : Nat) : Bool :=
  match pageOf a with
  | some (p, o) => let o := o / 4 * 4
    decide (o < 0x28) || decide (0x40 ≤ o ∧ o < 0x100) || (findRow p.rows o).isSome
  | none => decide (0x100000 ≤ a ∧ a < 0x220000)

/-- The answer a requester gets to a violation (R64, R66). -/
def violationAnswer (agent : Nat) (write : Bool) : Response :=
  if agent == agentHost then { kind := if write then .ok else .unsupportedRequest }
  else if agent == agentDebug then { kind := .windowCode, bytes := leBytes 4 0, code := 0xFF }
  else if isPewter agent then { kind := .busFault }
  else if isSeqAgent agent then { kind := .accessFault }
  else { kind := .negative, bytes := leBytes 4 0, code := 0xFF }

/-- A violation (R64, R65): nothing is read or written; VIOL_INFO counts it, keeps the first, and a record is written. -/
def Dev.violation (d : Dev) (agent : Nat) (bar2 write : Bool) (addr : Nat) : Dev :=
  let w := d.rd DEV_VIOL_INFO
  let cnt := min (fld w 15 0 + 1) 0xFFFF
  let d :=
    if bitOf w 31 then d.wr DEV_VIOL_INFO (setFld w 15 0 cnt)
    else
      let d := d.wrN DEV_VIOL_INFO (2 ^ 31 + b2n write * 2 ^ 30 + b2n bar2 * 2 ^ 29 + agent % 256 * 2 ^ 16 + cnt)
      (d.wrN DEV_VIOL_ADDR_LO addr).wrN DEV_VIOL_ADDR_HI (addr / 2 ^ 32 % 128)
  let d := d.record 0x01 0 0 (d.rd DEV_VIOL_INFO).toNat
  { d with resp := violationAnswer agent write }

/-- DEV.VIOL_INFO.VALID cleared by W1C: the address words and the other fields become 0 with it (R67). -/
def violClear (agent : Nat) (data : Word) (d : Dev) : Dev :=
  d.checked .dev 0x10C agent
    [(.privilege, !d.mayWrite agent .dev), (.state, !d.up), (.reserved, decide (fld data 28 24 ≠ 0))]
    fun d => if bitOf data 31 then ((d.wr DEV_VIOL_INFO 0).wr DEV_VIOL_ADDR_LO 0).wr DEV_VIOL_ADDR_HI 0 else d

/-! ### Locks (R71 to R78) -/

/-- A normal read of LOCK_n (R74). -/
def lockAcquire (agent n : Nat) (d : Dev) : Dev :=
  let w := d.rd (LOCK_LOCK n)
  let w' := if bitOf w 31 then w
    else setFld (setFld (setBit w 31 true) 23 16 agent) 15 0 (fld w 15 0 + 1)
  (d.wr (LOCK_LOCK n) w').answerW w'

/-- A release write to LOCK_n (R76). -/
def lockRelease (agent n : Nat) (data : Word) (d : Dev) : Dev :=
  let w := d.rd (LOCK_LOCK n)
  d.checked .lock (0x100 + 4 * n) agent
    [(.privilege, !d.mayWrite agent .lock),
     (.owner, fld w 23 16 != agent),
     (.state, !bitOf w 31 || !d.up),
     (.reserved, decide (fld data 29 24 ≠ 0)),
     (.range, bitOf data 31 || bitOf data 30 || decide (fld data 23 16 ≠ 0) || decide (fld data 15 0 ≠ fld w 15 0))]
    fun d => d.wr (LOCK_LOCK n) (setFld w 31 30 0)

/-- The owner of a held lock is reset: HELD falls, BROKEN rises (R77). -/
def lockBreak (n : Nat) (d : Dev) : Dev :=
  let w := d.rd (LOCK_LOCK n)
  if bitOf w 31 then d.wr (LOCK_LOCK n) (setFld w 31 30 1) else d

/-- A write of LOCK.BREAK by Pewter (R71). -/
def breakWrite (agent : Nat) (data : Word) (d : Dev) : Dev :=
  d.checked .lock 0x520 agent
    [(.privilege, !isPewter agent), (.state, !d.up), (.reserved, decide (fld data 31 8 ≠ 0))]
    (lockBreak (fld data 7 0))

/-- Every lock an agent holds breaks (R77). -/
def breakLocksOf (agent : Nat) (d : Dev) : Dev :=
  (below 256 fun n => bitOf (d.rd (LOCK_LOCK n)) 31 && fld (d.rd (LOCK_LOCK n)) 23 16 == agent).foldl
    (fun d n => lockBreak n d) d

/-- BROKEN_MAP_k (R71): bit j is BROKEN of LOCK_(32 k + j). -/
def brokenMap (d : Dev) (k : Nat) : Word :=
  (List.range 32).foldl (fun w j => setBit w j (bitOf (d.rd (LOCK_LOCK (32 * k + j))) 30)) 0

/-! ### Snapshot triggers (R88 to R95) -/

/-- The frame and phase of T are written when T is reached (R95). -/
def snapReached (d : Dev) : Dev :=
  match d.ctl.snap with
  | some s =>
    if !s.reached && decide (s.tick ≤ d.time.tb) then
      let d := d.wrN SNAP_LAST_FRAME d.frame
      let d := d.wrF SNAP_LAST_PHASE 15 0 (d.phaseAt s.tick)
      { d with ctl := { d.ctl with snap := some { s with reached := true } } }
    else d
  | none => d

/-- A trigger from a source with instant T at a tick (R88, R89): accepted with the next ID, or, while a snapshot is in
flight or HOLD is 1, dropped and counted (R93). The answer says whether it was accepted (DEDUCED, unsafe: notes/assumptions/25.md; DEDUCED, unsafe: notes/assumptions/37.md). -/
def snapTrigger (src tick : Nat) (d : Dev) : Dev × Bool :=
  if d.ctl.snap.isSome || bitOf (d.rd SNAP_CTRL) 0 then (d.bump SNAP_DROPPED, false)
  else
    let id := d.ctl.nextSnap
    let ns := d.taiNsAt tick
    let d := d.wrN SNAP_LAST_ID id
    let d := d.wrN SNAP_LAST_SEC_LO (ns / 1000000000)
    let d := d.wrN SNAP_LAST_SEC_HI (ns / 1000000000 / 2 ^ 32 % 65536)
    let d := d.wrN SNAP_LAST_NS (ns % 1000000000)
    let d := d.wrF SNAP_LAST_PHASE 19 16 src
    let d := d.wrN SNAP_LATE_PAGES 0
    let d := d.wrN SNAP_STATE 1
    let d := { d with ctl := { d.ctl with
      snap := some { id, tick, spill := bitOf (d.rd SNAP_CTRL) 1 }, nextSnap := (id + 1) % 2 ^ 32 } }
    (snapReached d, true)

/-- A write of SNAP.FIRE (R88, R93). -/
def snapFire (agent : Nat) (data : Word) (d : Dev) : Dev :=
  d.checked .snap 0x100 agent
    [(.privilege, !d.mayWrite agent .snap),
     (.state, !d.up || (bitOf data 0 && bitOf (d.rd SNAP_CTRL) 0)),
     (.busy, bitOf data 0 && d.ctl.snap.isSome),
     (.reserved, decide (fld data 31 1 ≠ 0))]
    fun d => if bitOf data 0 then (snapTrigger 1 (d.time.tb + usTicks 2) d).1 else d

/-! ### Field trace (R96 to R101) -/

def Dev.trace (d : Dev) (f : Nat) : TraceSt := kvGetD d.ctl.trace {} f
def Dev.setTrace (d : Dev) (f : Nat) (t : TraceSt) : Dev :=
  { d with ctl := { d.ctl with trace := kvSetD d.ctl.trace {} f t } }

/-- End of the spill area (R94): 1,157 areas of 192 B. -/
def spillEnd : Nat := 222144
/-- Bytes of a trace buffer (R96). -/
def traceBytes : Nat := 262144

/-- The place of an entry among those of its cycle: its sequencer, then its site (R99). -/
def traceKey (e : List Word) : Nat :=
  let w := e.getD 0 0
  fld w 13 8 * 2 ^ 14 + (if fld w 7 0 = 5 ∨ fld w 7 0 = 6 then fld (e.getD 2 0) 13 0 else 0)

/-- An entry joins the queue behind every older one, and among those of its own cycle in its place (R99). -/
def traceInsert (q : List (List Word)) (e : List Word) : List (List Word) :=
  let after := fun (x : List Word) => x.getD 1 0 == e.getD 1 0 && fld (x.getD 0 0) 7 0 != 0x0F && decide (traceKey e < traceKey x)
  let tail := (q.reverse.takeWhile after).reverse
  q.take (q.length - tail.length) ++ e :: tail

/-- When room returns after an overflow, a GAP entry takes its place behind the entries that wait and gives the words
dropped (R99) (DESIGN CHOICE, unsafe: notes/assumptions/26.md). -/
def traceGap (f : Nat) (d : Dev) : Dev :=
  let t := d.trace f
  if t.lost = 0 ∨ 64 ≤ t.queue.length ∨ bitOf (d.rd (TRACE_TR_WR f)) 31 then d
  else
    (d.setTrace f { t with lost := 0, queue := t.queue ++
      [[w32 (0x0F + 0x3F * 2 ^ 8), w32 d.time.tb, w32 t.lost, 0]] }).bumpBy (TRACE_LOST_WORDS f) t.lost

/-- The field trace records an event (R98, R99): while enabled, for an enabled source and sequencer, an entry joins
the queue of 64, or its words are lost. `seq` is 0x3F for an event of no sequencer (DEDUCED, unsafe: notes/assumptions/56.md). -/
def Dev.traceEvent (d : Dev) (f typ seq hi : Nat) (w2 w3 : Nat) (src : Nat) : Dev :=
  let c := d.rd (TRACE_TR_CTRL f)
  let on := bitOf c 0 && bitOf c src && (decide (5 < typ) || bitOf c (8 + seq % 4)) &&
    !bitOf (d.rd (TRACE_TR_WR f)) 31 && d.domOn (144 + f)
  if on then
    let d := traceGap f d
    let t := d.trace f
    if t.queue.length < 64 then
      let e := [w32 (typ + seq % 64 * 2 ^ 8 + hi * 2 ^ 14), w32 d.time.tb, w32 w2, w32 w3]
      d.setTrace f { t with queue := traceInsert t.queue e }
    else d.setTrace f { t with lost := t.lost + 4 }
  else d

/-- Four words written into the buffer at TR_WR, which advances and wraps or stops (R99) (DESIGN CHOICE, unsafe: notes/assumptions/26.md). -/
def traceStore (f : Nat) (ws : List Word) (d : Dev) : Dev :=
  let t := d.trace f
  let wr := d.rdF (TRACE_TR_WR f) 17 0
  let buf := (List.range 4).foldl (fun b i => kvSetD b 0 (wr / 4 + i) (ws.getD i 0)) t.buf
  let low := if wr < spillEnd then max t.low (wr + 16) else t.low
  let d := d.setTrace f { t with buf, low }
  let start := d.rdF (TRACE_TR_REGION f) 17 0
  if wr + 16 < traceBytes then d.wrF (TRACE_TR_WR f) 17 0 (wr + 16)
  else
    let d := d.wrF (TRACE_TR_WR f) 17 0 start
    if bitOf (d.rd (TRACE_TR_CTRL f)) 12 then d.wrF (TRACE_TR_WR f) 31 31 1 else d.wrF (TRACE_TR_WR f) 30 30 1

/-- A GAP entry (R98): the words lost and the snapshot of the spill. -/
def gapEntry (f lost id : Nat) (d : Dev) : Dev :=
  (traceStore f [w32 (0x0F + 0x3F * 2 ^ 8), w32 d.time.tb, w32 lost, w32 id] d).bump (TRACE_GAP_COUNT f)

/-- A queued entry is written (R99) (DEDUCED, unsafe: notes/assumptions/56.md). -/
def traceEntryWrite (f : Nat) (d : Dev) : Dev :=
  let t := d.trace f
  match t.queue with
  | [] => d
  | e :: q =>
    if bitOf (d.rd (TRACE_TR_WR f)) 31 then d
    else
      let d := traceStore f e (d.setTrace f { t with queue := q })
      if fld (e.getD 0 0) 7 0 = 0x0F then d.bump (TRACE_GAP_COUNT f) else d

/-- Base checks of a write to a page (R55): the agent, the unit's power and fence, and start-up (DEDUCED, unsafe: notes/assumptions/14.md). -/
def Dev.baseChecks (d : Dev) (agent : Nat) (p : Page) : List Check :=
  [(.privilege, !d.mayWrite agent p), (.fenced, d.isFenced p), (.state, !d.up)]

/-- A write of TR_CTRL (R97): with STOP_FULL = 0 a stopped trace continues at TR_WR (DESIGN CHOICE, unsafe: notes/assumptions/26.md). -/
def traceCtrlWrite (f agent : Nat) (data : Word) (d : Dev) : Dev :=
  d.checked (.trace f) 0x100 agent
    (d.baseChecks agent (.trace f) ++ [(.reserved, decide (data.toNat &&& 0xFFFFE00E ≠ 0))])
    fun d =>
      let d := d.wr (TRACE_TR_CTRL f) data
      if bitOf data 12 then d else d.wrF (TRACE_TR_WR f) 31 31 0

/-- A read of TR_RD_DATA (R97): the word at TR_RD_ADDR, which then advances by 4, under peek as well (DESIGN CHOICE, unsafe: notes/assumptions/26.md). -/
def traceRead (f : Nat) (d : Dev) : Dev :=
  if d.powered (.trace f) then
    let a := d.rdF (TRACE_TR_RD_ADDR f) 17 0
    let w := kvGetD (d.trace f).buf 0 (a / 4)
    (d.wrF (TRACE_TR_RD_ADDR f) 17 0 ((a + 4) % traceBytes)).answerW w
  else d.answerW 0

/-- A spill starts in a field (R100, steps 1 to 4). -/
def spillStart (f id : Nat) (d : Dev) : Dev :=
  let t := d.trace f
  let heldBefore := bitOf (d.rd (TRACE_SPILL f)) 31
  let lost := if heldBefore then 0 else t.low / 4
  let d := d.setTrace f { t with low := 0 }
  let d := d.bumpBy (TRACE_LOST_WORDS f) lost
  let d := d.wrF (TRACE_TR_REGION f) 17 0 spillEnd
  let d := if d.rdF (TRACE_TR_WR f) 17 0 < spillEnd then d.wrF (TRACE_TR_WR f) 17 0 spillEnd else d
  let d := gapEntry f lost id d
  d.wrN (TRACE_SPILL f) (2 ^ 31 + id % 65536)

/-- A write of 1 to SPILL.HELD releases the held spill (R97, R100). -/
def spillRelease (f agent : Nat) (data : Word) (d : Dev) : Dev :=
  d.checked (.trace f) 0x114 agent
    (d.baseChecks agent (.trace f) ++ [(.reserved, decide (fld data 30 16 ≠ 0))])
    fun d =>
      if bitOf data 31 && bitOf (d.rd (TRACE_SPILL f)) 31 then
        (d.wrF (TRACE_SPILL f) 31 31 0).wrF (TRACE_TR_REGION f) 17 0 0
      else d

/-- A snapshot ends once every page has met it and every spill has finished (R93, R94). -/
def snapEnd (d : Dev) : Dev :=
  match d.ctl.snap with
  | some s =>
    if s.done.length = pageCount ∧ s.spilling = [] then
      ({ d with ctl := { d.ctl with snap := none } }).wr SNAP_STATE 0
    else d
  | none => d

/-! ### Commands -/

def unitField (f : Nat) : Bool := decide (f < 12)
def unitSeq (q : Nat) : Bool := decide (q < 48)
def unitSite (s : Nat) : Bool := decide (s < 13824)
def unitStream (n : Nat) : Bool := decide (n < 16384)
def unitPage (a : Nat) : Bool := match pageOf a with | some (_, o) => o == 0 | none => false

/-- VIOL_INFO_CLEAR (R67). -/
def execViolInfoClear (agent : Nat) (data : Word) (s : State) : Result := onDev (violClear agent data) s

/-- DIGEST_COMPLETE (R62): of the page at a BAR 0 offset. -/
def execDigestComplete (page : Nat) (s : State) : Result :=
  match pageOf page with
  | some (p, 0) => onDev (digestDone p) s
  | _ => .fault .noSuchUnit

/-- LOCK_ACQUIRE (R74). -/
def execLockAcquire (agent n : Nat) (s : State) : Result :=
  guardUnit (decide (n < 256) && isAgent agent) (onDev (lockAcquire agent n) s)

/-- LOCK_RELEASE (R76). -/
def execLockRelease (agent n : Nat) (data : Word) (s : State) : Result :=
  guardUnit (decide (n < 256) && isAgent agent) (onDev (lockRelease agent n data) s)

/-- BREAK (R71). -/
def execBreakLock (agent : Nat) (data : Word) (s : State) : Result := onDev (breakWrite agent data) s

/-- SNAP_FIRE (R88). -/
def execSnapFire (agent : Nat) (data : Word) (s : State) : Result := onDev (snapFire agent data) s

/-- SPILL_RELEASE (R100). -/
def execSpillRelease (f agent : Nat) (data : Word) (s : State) : Result :=
  guardUnit (unitField f) (onDev (spillRelease f agent data) s)

/-- TRACE_CTRL_WRITE (R97). -/
def execTraceCtrlWrite (f agent : Nat) (data : Word) (s : State) : Result :=
  guardUnit (unitField f) (onDev (traceCtrlWrite f agent data) s)

/-- TRACE_ENTRY_WRITE (R99). -/
def execTraceEntryWrite (f : Nat) (s : State) : Result := guardUnit (unitField f) (onDev (traceEntryWrite f) s)

/-- TRACE_GAP (R99). -/
def execTraceGap (f : Nat) (s : State) : Result := guardUnit (unitField f) (onDev (traceGap f) s)

/-- TRACE_READ (R97). -/
def execTraceRead (f : Nat) (s : State) : Result := guardUnit (unitField f) (onDev (traceRead f) s)

end Sys2Proof.Machine
end

