-- ==== Sys2Proof/Machine/Numbers.lean ====
section
/-! DEFINITION. Number formats, exact values, rounding, the arithmetic of the matrix unit, the vector unit and the fabric,
stochastic draws and MX blocks (05_number_formats.md). -/

namespace Sys2Proof.Machine

/-- The format codes of R150. -/
inductive Fmt where
  | fp32 | bf16 | fp16 | e4m3 | e5m2 | int8 | mxE4m3 | mxE5m2 | mxE3m2 | mxE2m3 | mxE2m1 | mxInt8 | int32
deriving DecidableEq, Repr

/-- The format of a code (R150); 0xD to 0xF are reserved. -/
def fmtOf (c : Nat) : Option Fmt :=
  [Fmt.fp32, .bf16, .fp16, .e4m3, .e5m2, .int8, .mxE4m3, .mxE5m2, .mxE3m2, .mxE2m3, .mxE2m1, .mxInt8, .int32][c]?

/-- MX formats: elements in blocks of 32 with a scale (R190). -/
def Fmt.isMx : Fmt → Bool
  | .mxE4m3 | .mxE5m2 | .mxE3m2 | .mxE2m3 | .mxE2m1 | .mxInt8 => true
  | _ => false

/-- Bits of an element (R150). -/
def Fmt.bits : Fmt → Nat
  | .fp32 | .int32 => 32
  | .bf16 | .fp16 => 16
  | .e4m3 | .e5m2 | .int8 | .mxE4m3 | .mxE5m2 | .mxInt8 => 8
  | .mxE3m2 | .mxE2m3 => 6
  | .mxE2m1 => 4

/-- Twice the rate r of R150: 1, 2 or 4. -/
def Fmt.rate2 : Fmt → Nat
  | .bf16 | .fp16 => 1
  | .mxE3m2 | .mxE2m3 | .mxE2m1 => 4
  | _ => 2

/-- Exponent bits, mantissa bits and bias of a float format (R183). -/
def Fmt.shape : Fmt → Nat × Nat × Nat
  | .fp32 => (8, 23, 127) | .bf16 => (8, 7, 127) | .fp16 => (5, 10, 15)
  | .e4m3 | .mxE4m3 => (4, 3, 7) | .e5m2 | .mxE5m2 => (5, 2, 15)
  | .mxE3m2 => (3, 2, 3) | .mxE2m3 => (2, 3, 1) | .mxE2m1 => (2, 1, 1)
  | .int8 | .mxInt8 | .int32 => (0, 0, 0)

/-- The format has IEEE infinities and NaNs at the top exponent. -/
def Fmt.ieee : Fmt → Bool
  | .fp32 | .bf16 | .fp16 | .e5m2 | .mxE5m2 => true
  | _ => false

/-- Integer formats. -/
def Fmt.isInt : Fmt → Bool
  | .int8 | .mxInt8 | .int32 => true
  | _ => false

/-- The value an encoding has (R183, R184); an MXINT8 element n has the value n × 2^−6. -/
def decodeF (f : Fmt) (w : Nat) : FVal :=
  if f.isInt then
    let v := toSigned f.bits w
    .fin (decide (v < 0)) v.natAbs (if f = .mxInt8 then -6 else 0)
  else
    let (eb, mb, bias) := f.shape
    let s := w.testBit (eb + mb)
    let e := w / 2 ^ mb % 2 ^ eb
    let m := w % 2 ^ mb
    if f.ieee ∧ e = 2 ^ eb - 1 then (if m = 0 then .inf s else .nan)
    else if (f = .e4m3 ∨ f = .mxE4m3) ∧ e = 15 ∧ m = 7 then .nan
    else if e = 0 then .fin s m (1 - bias - mb)
    else .fin s (m + 2 ^ mb) (e - bias - mb)

/-- The value times a power of two. -/
def FVal.scale (k : Int) : FVal → FVal
  | .fin s m e => .fin s m (e + k)
  | v => v

/-- An element under its block's scale byte (R188, R189): a scale of 0xFF makes every element NaN. -/
def scaled (x : Nat) (v : FVal) : FVal := if x = 0xFF then .nan else v.scale ((x : Int) - 127)

def FVal.neg : FVal → FVal
  | .nan => .nan
  | .inf s => .inf (!s)
  | .fin s m e => .fin (!s) m e

def FVal.isNan : FVal → Bool
  | .nan => true
  | _ => false

def FVal.isInf : FVal → Bool
  | .inf _ => true
  | _ => false

def FVal.isNeg : FVal → Bool
  | .nan => false
  | .inf s => s
  | .fin s _ _ => s

/-- Zero of either sign. -/
def FVal.isZero : FVal → Bool
  | .fin _ 0 _ => true
  | _ => false

/-- The product of two values, exact (R194). -/
def FVal.mul : FVal → FVal → FVal
  | .nan, _ => .nan
  | _, .nan => .nan
  | .inf s, .inf t => .inf (s != t)
  | .inf s, .fin t m _ => if m = 0 then .nan else .inf (s != t)
  | .fin s m _, .inf t => if m = 0 then .nan else .inf (s != t)
  | .fin s m e, .fin t n f => .fin (s != t) (m * n) (e + f)

/-- The exponent all finite values of a list can be written with. -/
def commonExp (l : List FVal) : Int :=
  l.foldl (fun k v => match v with
    | .fin _ m e => if m = 0 then k else min k e
    | _ => k) 0

/-- The exact sum of a list (R195, R196): NaN, then infinities, then the exact sum; a zero sum is −0 only when every
term is −0. -/
def FVal.sum (l : List FVal) : FVal :=
  if l.any FVal.isNan then .nan
  else
    let pos := l.any fun v => v.isInf && !v.isNeg
    let ngt := l.any fun v => v.isInf && v.isNeg
    if pos && ngt then .nan
    else if pos then .inf false
    else if ngt then .inf true
    else
      let k := commonExp l
      let t : Int := l.foldl (fun a v => match v with
        | .fin s m e => if s then a - (m * 2 ^ (e - k).toNat : Nat) else a + (m * 2 ^ (e - k).toNat : Nat)
        | _ => a) 0
      if t = 0 then .fin (!l.isEmpty && l.all fun v => v.isZero && v.isNeg) 0 0
      else .fin (decide (t < 0)) t.natAbs k

/-- Compare two numbers: −1, 0 or 1; zeros are equal. NaN has no place here. -/
def FVal.cmp (a b : FVal) : Int :=
  let key : FVal → Int := fun v => match v with
    | .inf s => if s then -1 else 1
    | _ => 0
  if key a ≠ key b then (if key a < key b then -1 else 1)
  else if a.isInf then 0
  else match FVal.sum [a, b.neg] with
    | .fin s m _ => if m = 0 then 0 else if s then -1 else 1
    | _ => 0

/-! ### Rounding (R198, R202, R203) -/

/-- Rounding modes (R202): nearest even, toward zero, stochastic with its 32-bit draw. -/
inductive Rnd where
  | even | zero | stoch (r : Nat)
deriving DecidableEq, Repr

/-- A magnitude rounded to a multiple of 2^q. -/
def roundAt (r : Rnd) (q : Int) (m : Nat) (e : Int) : Nat :=
  if q ≤ e then m * 2 ^ (e - q).toNat
  else
    let sh := (q - e).toNat
    let lo := m / 2 ^ sh
    let rem := m % 2 ^ sh
    match r with
    | .zero => lo
    | .even => if 2 ^ sh < 2 * rem ∨ (2 * rem = 2 ^ sh ∧ lo % 2 = 1) then lo + 1 else lo
    | .stoch d => if d * 2 ^ sh < rem * 2 ^ 32 then lo + 1 else lo

/-- A magnitude rounded to the precision of a float format, its exponent range unbounded above (R198): the integer
multiple of 2^q. -/
def roundMag (r : Rnd) (mb : Nat) (emin : Int) (m : Nat) (e : Int) : Nat × Int :=
  if m = 0 then (0, emin - mb)
  else
    let q := max ((Nat.log2 m : Int) + e) emin - mb
    (roundAt r q m e, q)

/-- The largest finite magnitude of a format as (m, exponent) (R183). -/
def Fmt.maxFin (f : Fmt) : Nat × Int :=
  let (eb, mb, bias) := f.shape
  if f.ieee then (2 ^ (mb + 1) - 1, (2 ^ eb - 2 : Int) - bias - mb)
  else if f = .e4m3 ∨ f = .mxE4m3 then (14, 5)
  else (2 ^ (mb + 1) - 1, (2 ^ eb - 1 : Int) - bias - mb)

/-- m × 2^e > n × 2^k. -/
def magGt (m : Nat) (e : Int) (n : Nat) (k : Int) : Bool :=
  let c := min e k
  decide (n * 2 ^ (k - c).toNat < m * 2 ^ (e - c).toNat)

/-- Encode a magnitude that the format represents. -/
def encodeMag (f : Fmt) (s : Bool) (m : Nat) (e : Int) : Nat :=
  let (eb, mb, bias) := f.shape
  let sg := s.toNat * 2 ^ (eb + mb)
  if m = 0 then sg
  else
    let l : Int := (Nat.log2 m : Int) + e
    let emin : Int := 1 - bias
    if l < emin then sg + m * 2 ^ (e - (emin - mb)).toNat
    else
      let k := Nat.log2 m
      let frac := if mb ≤ k then m / 2 ^ (k - mb) else m * 2 ^ (mb - k)
      sg + (l + bias).toNat * 2 ^ mb + (frac - 2 ^ mb)

/-- The canonical NaN of a format (R185). -/
def Fmt.nanBits : Fmt → Nat
  | .fp32 => 0x7FC00000 | .bf16 => 0x7FC0 | .fp16 => 0x7E00 | .e4m3 => 0x7F | .e5m2 => 0x7E | _ => 0

/-- Infinity where the format has it, else what the last column of R198 gives. -/
def Fmt.infBits (f : Fmt) (s : Bool) (nanOvf : Bool) : Nat :=
  let (eb, mb, _) := f.shape
  if f = .e4m3 then (if nanOvf then 0x7F else s.toNat * 128 + 0x7E)
  else s.toNat * 2 ^ (eb + mb) + (2 ^ eb - 1) * 2 ^ mb

/-- Conversion of an exact value to a float format (R198, R199); `nanOvf` is E4M3_NAN. -/
def convert (f : Fmt) (r : Rnd) (nanOvf : Bool) : FVal → Nat
  | .nan => f.nanBits
  | .inf s => f.infBits s nanOvf
  | .fin s m e =>
    let (_, mb, bias) := f.shape
    let p := roundMag r mb (1 - bias) m e
    let mx := f.maxFin
    if magGt p.1 p.2 mx.1 mx.2 then
      match r with
      | .zero => encodeMag f s mx.1 mx.2
      | _ => f.infBits s nanOvf
    else encodeMag f s p.1 p.2

/-- Rounded to FP32, nearest even. -/
def toF32 (v : FVal) : Nat := convert .fp32 .even false v

def f32 (w : Nat) : FVal := decodeF .fp32 w

/-- An integer magnitude clamped: conversion to INT8 (R242), or an integer element. -/
def toInt8 (r : Rnd) : FVal → Nat
  | .nan => 0
  | .inf s => if s then 0x80 else 0x7F
  | .fin s m e =>
    let n : Int := roundAt r 0 m e
    satSigned 8 (if s then -n else n)

/-! ### FP32, BF16 and INT32 arithmetic (R210 to R212) -/

def addF (f : Fmt) (a b : Nat) : Nat := convert f .even false (FVal.sum [decodeF f a, decodeF f b])
def subF32 (a b : Nat) : Nat := toF32 (FVal.sum [f32 a, (f32 b).neg])
def mulF32 (a b : Nat) : Nat := toF32 ((f32 a).mul (f32 b))
def fmaF32 (a b c : Nat) : Nat := toF32 (FVal.sum [(f32 a).mul (f32 b), f32 c])

/-- Maximum and minimum (R212). -/
def maxF (f : Fmt) (a b : Nat) : Nat :=
  let x := decodeF f a
  let y := decodeF f b
  if x.isNan then (if y.isNan then f.nanBits else b)
  else if y.isNan then a
  else if x.isZero && y.isZero then (if x.isNeg then b else a)
  else if x.cmp y < 0 then b else a

def minF (f : Fmt) (a b : Nat) : Nat :=
  let x := decodeF f a
  let y := decodeF f b
  if x.isNan then (if y.isNan then f.nanBits else b)
  else if y.isNan then a
  else if x.isZero && y.isZero then (if x.isNeg then a else b)
  else if 0 < x.cmp y then b else a

/-- INT32 saturating addition (R211) (DEDUCED, unsafe: notes/assumptions/48.md). -/
def addI32 (a b : Nat) : Nat := satSigned 32 (toSigned 32 a + toSigned 32 b)

/-! ### VFN (R241): results rounded correctly -/

/-- Integer square root by bits, most significant first. -/
def isqrtAux : Nat → Nat → Nat → Nat
  | 0, _, r => r
  | k + 1, n, r => let c := r + 2 ^ k; isqrtAux k n (if c * c ≤ n then c else r)

def isqrt (n : Nat) : Nat := isqrtAux (Nat.log2 n / 2 + 1) n 0

/-- An inexact magnitude: q and a remainder below one unit, kept as one sticky bit below. -/
def sticky (q : Nat) (exact : Bool) (e : Int) (s : Bool) : FVal := .fin s (2 * q + (if exact then 0 else 1)) (e - 1)

/-- 1 / x (DEDUCED, unsafe: notes/assumptions/49.md). -/
def rcp : FVal → FVal
  | .nan => .nan
  | .inf s => .fin s 0 0
  | .fin s m e =>
    if m = 0 then .inf s
    else
      let k := Nat.log2 m + 64
      sticky (2 ^ k / m) (decide (2 ^ k % m = 0)) (-(k : Int) - e) s

/-- 1 / √x; RSQRT(−0) = −∞ as IEEE 754 recommends (DEDUCED, unsafe: notes/assumptions/49.md). -/
def rsqrt : FVal → FVal
  | .nan => .nan
  | .inf s => if s then .nan else .fin false 0 0
  | .fin s m e =>
    if m = 0 then .inf s
    else if s then .nan
    else
      -- x = m' × 4^h
      let odd := decide (e % 2 ≠ 0)
      let m' := if odd then 2 * m else m
      let h := (if odd then e - 1 else e) / 2
      let k := Nat.log2 m' + 64
      let q := isqrt (2 ^ (2 * k) / m')
      sticky q (decide (q * q * m' = 2 ^ (2 * k))) (-(k : Int) - h) false

/-- Σ 2^p / (i × 2^i): ln 2 in units of 2^−p. -/
def ln2Fix (p : Nat) : Nat := (List.range p).foldl (fun a i => a + 2 ^ p / ((i + 1) * 2 ^ (i + 1))) 0

/-- e^y for y in units of 2^−p, by its series; the fuel counts terms. -/
def expFix (p y : Nat) : Nat → Nat → Nat → Nat
  | 0, _, _ => 0
  | n + 1, i, t => t + expFix p y n (i + 1) (t * y / (2 ^ p * (i + 1)))

/-- 2^x: exact for an integer x, else from 320 bits with a sticky bit. -/
def exp2F : FVal → FVal
  | .nan => .nan
  | .inf s => if s then .fin false 0 0 else .inf false
  | .fin s m e =>
    if m = 0 then .fin false 1 0
    else if 9 < (Nat.log2 m : Int) + e then (if s then .fin false 1 (-400) else .inf false)
    else
      let p : Nat := 320
      let fx : Int := m * 2 ^ (e + p).toNat
      let fx := if s then -fx else fx
      let n := fx / 2 ^ p
      let f := (fx % 2 ^ p).toNat
      if f = 0 then .fin false 1 n
      else sticky (expFix p (f * ln2Fix (p + 16) / 2 ^ (p + 16)) 90 0 (2 ^ p)) false (n - p) false

/-- Bits of log2 of a mantissa y in [1, 2), y in units of 2^−p. -/
def log2Bits (p : Nat) : Nat → Nat → Nat → Nat
  | 0, _, acc => acc
  | n + 1, y, acc =>
    let y2 := y * y / 2 ^ p
    if 2 ^ (p + 1) ≤ y2 then log2Bits p n (y2 / 2) (2 * acc + 1) else log2Bits p n y2 (2 * acc)

/-- log2 x: exact for a power of two, else from 160 bits with a sticky bit. -/
def log2F : FVal → FVal
  | .nan => .nan
  | .inf s => if s then .nan else .inf false
  | .fin s m e =>
    if m = 0 then .inf true
    else if s then .nan
    else
      let k := Nat.log2 m
      let ex : Int := (k : Int) + e
      if m = 2 ^ k then .fin (decide (ex < 0)) ex.natAbs 0
      else
        let n := 160
        let fb := log2Bits 400 n (m * 2 ^ (400 - k)) 0
        -- the value lies strictly between fb and fb + 1 units of 2^−160 above ex
        let v : Int := 2 * (ex * 2 ^ n + fb) + 1
        .fin (decide (v < 0)) v.natAbs (-(n : Int) - 1)

/-- VFN (R240): 0 EXP2, 1 LOG2, 2 RCP, 3 RSQRT. -/
def vfn (func a : Nat) : Nat :=
  let x := f32 a
  toF32 (match func with
    | 0 => exp2F x
    | 1 => log2F x
    | 2 => rcp x
    | _ => rsqrt x)

/-! ### The accumulator (R152, R167, R195) -/

/-- acc ← round_FP32(acc + group sum), saturating; the mark says that the word saturated. -/
def accF (acc : Nat) (sum : FVal) : Nat × Bool :=
  match FVal.sum [f32 acc, sum] with
  | .fin s m e =>
    let p := roundMag .even 23 (-126) m e
    let mx := Fmt.fp32.maxFin
    if magGt p.1 p.2 mx.1 mx.2 then (s.toNat * 2 ^ 31 + 0x7F7FFFFF, true) else (encodeMag .fp32 s p.1 p.2, false)
  | v => (toF32 v, false)

/-- acc ← acc + group sum in INT32, saturating. -/
def accI (acc : Nat) (sum : Int) : Nat × Bool :=
  let t := toSigned 32 acc + sum
  (satSigned 32 t, decide (t < -(2 ^ 31) ∨ 2 ^ 31 ≤ t))

/-! ### Draws (R204) -/

/-- 32-bit draw n of engine eng for a seed (R204). -/
def srDraw (seed eng n : Nat) : Nat :=
  let z := (Nat.xor seed (eng * 2 ^ 56) + (n + 1) * 0x9E3779B97F4A7C15) % 2 ^ 64
  let z := Nat.xor z (z / 2 ^ 30) * 0xBF58476D1CE4E5B9 % 2 ^ 64
  let z := Nat.xor z (z / 2 ^ 27) * 0x94D049BB133111EB % 2 ^ 64
  let z := Nat.xor z (z / 2 ^ 31)
  z / 2 ^ 32

/-- The rounding of a ROUND code with a draw. -/
def rndOf (round draw : Nat) : Rnd := match round with | 0 => .even | 1 => .zero | _ => .stoch draw

/-! ### Quantising to MX (R208, R209) -/

/-- emax of an element format (R208). -/
def Fmt.emax : Fmt → Int
  | .mxE4m3 => 8 | .mxE5m2 => 15 | .mxE3m2 => 4 | .mxE2m3 => 2 | .mxE2m1 => 2 | _ => 0

/-- ⌊log₂ |v|⌋ of a non-zero finite value. -/
def ilog2 : FVal → Int
  | .fin _ m e => (Nat.log2 m : Int) + e
  | _ => 0

/-- The scale byte of a block (R208). -/
def mxScale (f : Fmt) (block : List FVal) : Nat :=
  if block.any fun v => v.isNan || v.isInf then 0xFF
  else
    let nz := block.filter fun v => !v.isZero
    match nz with
    | [] => 0
    | v :: t => (max 0 (min 254 (t.foldl (fun k v => max k (ilog2 v)) (ilog2 v) - f.emax + 127))).toNat

/-- One element of a block under a scale byte (R209). -/
def mxElem (f : Fmt) (r : Rnd) (x : Nat) (v : FVal) : Nat :=
  let v := v.scale (127 - (x : Int))
  if f = .mxInt8 then
    match v with
    | .fin s m e => let n : Int := roundAt r (-6) m e; satSigned 8 (if s then -n else n)
    | _ => 0
  else match v with
    | .fin s m e =>
      let (_, mb, bias) := f.shape
      let p := roundMag r mb (1 - bias) m e
      let mx := f.maxFin
      if magGt p.1 p.2 mx.1 mx.2 then encodeMag f s mx.1 mx.2 else encodeMag f s p.1 p.2
    | _ => 0

/-- A block of 32 values quantised: its scale byte and its elements; `draws` gives one draw per element. -/
def mxBlock (f : Fmt) (round : Nat) (draws : Nat → Nat) (block : List FVal) : Nat × List Nat :=
  let x := mxScale f block
  if x = 0xFF then (x, block.map fun _ => 0)
  else if block.all FVal.isZero then
    (0, block.map fun v => if f = .mxInt8 then 0 else encodeMag f v.isNeg 0 0)
  else (x, block.zipIdx.map fun e => mxElem f (rndOf round (draws e.2)) x e.1)

/-! ### Packing (R186) -/

/-- Elements of `b` bits packed into words, element 0 in the lowest bits. -/
def packElems (b : Nat) (es : List Nat) : Nat := es.foldr (fun e a => a * 2 ^ b + e % 2 ^ b) 0

/-- `n` words of a packed number. -/
def numWords (n v : Nat) : List Word := (List.range n).map fun i => w32 (v >>> (32 * i))

/-- The number that words spell. -/
def wordsNum (ws : List Word) : Nat := ws.foldr (fun w a => w.toNat + 2 ^ 32 * a) 0

/-- Element k of `b` bits in a packed number; the groups of R186 are contiguous because 32 elements of any width fill
whole bytes. -/
def elemAt (b v k : Nat) : Nat := (v >>> (b * k)) % 2 ^ b

/-! ### Checksum arithmetic (R174, R175) -/

/-- c ← round_FP32(c + operand × sum). -/
def chkF (c : Nat) (op : FVal) (sum : Nat) : Nat := toF32 (FVal.sum [f32 c, op.mul (f32 sum)])

def FVal.abs : FVal → FVal
  | .fin _ m e => .fin false m e
  | .inf _ => .inf false
  | .nan => .nan

/-- |c − s| > 2^−t × max(m, 2^−100), exactly. -/
def chkFloatBad (t c : Nat) (s m : Nat) : Bool :=
  let diff := (FVal.sum [f32 c, (f32 s).neg]).abs
  let floor : FVal := .fin false 1 (-100)
  let big := if (f32 m).cmp floor < 0 then floor else f32 m
  decide (0 < diff.cmp (big.scale (-(t : Int))))

end Sys2Proof.Machine
end

