-- ==== Sys2Proof/Machine/Tile.lean ====
section
/-! DEFINITION. The tile (03_tile.md): scratchpad, token classes, queues and dispatch order, errors at the tile, its
configuration registers. -/

namespace Sys2Proof.Machine

/-! ### The tile's parts -/

def Dev.tile (d : Dev) (s : Nat) : Tile := kvGetD d.tiles {} s
def Dev.setTile (d : Dev) (s : Nat) (t : Tile) : Dev := { d with tiles := kvSetD d.tiles {} s t }
def Dev.modTile (d : Dev) (s : Nat) (f : Tile → Tile) : Dev := d.setTile s (f (d.tile s))
def Dev.seq (d : Dev) (q : Nat) : Sequencer := kvGetD d.seqs {} q
def Dev.setSeq (d : Dev) (q : Nat) (x : Sequencer) : Dev := { d with seqs := kvSetD d.seqs {} q x }
def Dev.modSeq (d : Dev) (q : Nat) (f : Sequencer → Sequencer) : Dev := d.setSeq q (f (d.seq q))
def Dev.modFab (d : Dev) (f : FabricSt → FabricSt) : Dev := { d with fab := f d.fab }

/-- A unit of a field's mesh works (12_power_thermal.md R457): 0 load, 1 matrix, 2 vector and 3 send engines, 4 routers
(DESIGN CHOICE, safe: notes/assumptions/31.md). -/
def Dev.active (d : Dev) (f u : Nat) : Dev :=
  { d with pwr := { d.pwr with activity := kvModD d.pwr.activity 0 (8 * f + u) (· + 1) } }

def Tile.engine (t : Tile) (e : Nat) : Engine := kvGetD t.eng {} e
def Tile.setEngine (t : Tile) (e : Nat) (x : Engine) : Tile := { t with eng := kvSetD t.eng {} e x }
def Dev.modEngine (d : Dev) (s e : Nat) (f : Engine → Engine) : Dev := d.modTile s fun t => t.setEngine e (f (t.engine e))

/-- Fields of a command (R225). -/
def Cmd.word (c : Cmd) (i : Nat) : Word := c.words.getD i 0
def Cmd.tag (c : Cmd) : Nat := fld (c.word 0) 15 0
def Cmd.stream (c : Cmd) : Nat := fld (c.word 0) 29 16
def Cmd.beat (c : Cmd) : Nat := (c.word 1).toNat + 2 ^ 32 * fld (c.word 2) 15 0
def Cmd.entry (c : Cmd) : Nat := fld (c.word 2) 28 16
def Cmd.attempt (c : Cmd) : Nat := fld (c.word 3) 7 0
def Cmd.arg (c : Cmd) (n : Nat) : Nat := (c.word (4 + n)).toNat

/-- Two commands are the same command of one sequencer. -/
def Cmd.same (a b : Cmd) : Bool := a.seq == b.seq && a.serial == b.serial

/-- Bits [hi:lo] of an instruction. -/
def Instruct.f (i : Instruct) (hi lo : Nat) : Nat := (i.bits >>> lo) % 2 ^ (hi + 1 - lo)
def Instruct.b (i : Instruct) (n : Nat) : Bool := i.bits.testBit n
def Instruct.opcode (i : Instruct) : Nat := i.f 63 56
def Instruct.sig (i : Instruct) : Nat := i.f 55 52
def Instruct.waits (i : Instruct) : List Nat := below 16 fun c => i.b (36 + c)

/-- The command as a record names it (R482): the class of the error decides whether it withholds commit. -/
def Instruct.ref (i : Instruct) (withheld : Bool) : CmdRef :=
  { opcode := i.opcode, tag := i.cmd.tag, stream := i.cmd.stream, withheld }

/-- Words of the scratchpad (R102). -/
def spadWords : Nat := 0x140000

def Tile.rd (t : Tile) (a : Nat) : Word := kvGetD t.spad 0 a
def Tile.rdN (t : Tile) (a n : Nat) : List Word := (List.range n).map fun i => t.rd (a + i)

/-- A word is written: it is no longer uncorrectable (R104). -/
def Tile.wr (t : Tile) (a : Nat) (w : Word) : Tile := { t with spad := kvSetD t.spad 0 a w, bad := setDel t.bad a }

def Tile.wrN : Tile → Nat → List Word → Tile
  | t, _, [] => t
  | t, a, w :: r => Tile.wrN (t.wr a w) (a + 1) r

/-- Write only the words whose index satisfies `p`. -/
def Tile.wrWhere (t : Tile) (a : Nat) (ws : List Word) (p : Nat → Bool) : Tile :=
  ws.zipIdx.foldl (fun t e => if p e.2 then t.wr (a + e.2) e.1 else t) t

/-- The first uncorrectable word of a range. -/
def Tile.badIn (t : Tile) (a n : Nat) : Option Nat := t.bad.find? fun b => decide (a ≤ b ∧ b < a + n)

/-- A word becomes uncorrectable: what it then reads as is a free value. -/
def strike (s a : Nat) (d : Dev) : Dev :=
  let (v, d) := d.free
  if a < spadWords then
    d.modTile s fun t => { (t.wr a (w32 v)) with bad := setIns (t.wr a (w32 v)).bad a }
  else d

/-! ### Bank map (R103) -/

/-- The bank of a word: 0 to 15 near, 16 to 47 deep. -/
def bankOf (a : Nat) : Nat := if a < 0x40000 then a / 4 % 16 else 16 + (a - 0x40000) / 4 % 32
def rowOf (a : Nat) : Nat := if a < 0x40000 then a / 64 else (a - 0x40000) / 128
/-- The first word of a row of a bank. -/
def lineAddr (bank row : Nat) : Nat := if bank < 16 then 64 * row + 4 * bank else 0x40000 + 128 * row + 4 * (bank - 16)
def bankRows (bank : Nat) : Nat := if bank < 16 then 4096 else 8192

/-! ### Registers -/

def tokCfgA (s c : Nat) : Nat := tileBase s + 0x140 + 4 * c
def tokMode (d : Dev) (s c : Nat) : Nat := d.rdF (tokCfgA s c) 1 0
def tokProducer (d : Dev) (s c : Nat) : Nat := d.rdF (tokCfgA s c) 6 4
def tokConsumer (d : Dev) (s c : Nat) : Nat := d.rdF (tokCfgA s c) 10 8
def tokDepth (d : Dev) (s c : Nat) : Nat := d.rdF (tokCfgA s c) 20 16
def tokOcc (d : Dev) (s c : Nat) : Nat := (kvGetD (d.tile s).tok [] c).length
def tokRsvd (d : Dev) (s c : Nat) : Nat := kvGetD (d.tile s).rsvd 0 c

/-- A class has room for an entry or a reservation (R115, R119). -/
def tokFree (d : Dev) (s c : Nat) : Bool := decide (tokOcc d s c + tokRsvd d s c < tokDepth d s c)

/-- Logical ID and generation of a tile (TILE.BIND). -/
def Dev.tileId (d : Dev) (s : Nat) : Nat := d.rdF (TILE_BIND s) 13 0
def Dev.tileGen (d : Dev) (s : Nat) : Nat := d.rdF (TILE_BIND s) 23 16
def Dev.tileBound (d : Dev) (s : Nat) : Bool := bitOf (d.rd (TILE_BIND s)) 31

/-- A tile is fenced or its domain is off (R142). -/
def Dev.tileFenced (d : Dev) (s : Nat) : Bool := d.isFenced (.tile s)

/-- The sequencer that a tile follows (R214). -/
def Dev.tileFollows (d : Dev) (s : Nat) : Option Nat :=
  let g := d.rd (TILE_GROUP s)
  if bitOf g 31 then some (4 * siteField s + fld g 9 8) else none

/-- The sequencer whose instructions a tile accepts (R214): the one it follows, where its group matches and it is not
fenced. -/
def Dev.tileSeq (d : Dev) (s : Nat) : Option Nat :=
  (d.tileFollows s).filter fun q =>
    let g := d.rd (TILE_GROUP s)
    let m := d.rd (SEQ_GROUP_MATCH q)
    !d.tileFenced s && fld g 5 0 &&& fld m 13 8 == fld m 5 0 &&& fld m 13 8

/-- FLAGS bit i of a tile is set (R144); a bit that goes from 0 to 1 is a TILE_FLAG event of the field trace (R98), for
the sequencer the tile follows (DEDUCED, unsafe: notes/assumptions/56.md). -/
def tileFlag (s i : Nat) (d : Dev) : Dev :=
  let was := bitOf (d.rd (TILE_FLAGS s)) i
  let d := d.wr (TILE_FLAGS s) (setBit (d.rd (TILE_FLAGS s)) i true)
  match d.tileFollows s with
  | some q => if was then d else d.traceEvent (siteField s) 5 q 0 (d.siteUnit s) (2 ^ i) 6
  | none => d

/-- Sites whose GROUP register is listed: only those can be subscribed (its reset value has SUBSCRIBED = 0). -/
def groupSites (d : Dev) : List Nat :=
  d.regs.filterMap fun e =>
    if 0x1000000 ≤ e.1 ∧ e.1 < 0x1D80000 ∧ e.1 % 0x400 = 0x108 then some ((e.1 - 0x1000000) / 0x400) else none

/-- The subscribed tiles of a sequencer (R214). -/
def subscribed (d : Dev) (q : Nat) : List Nat := (groupSites d).filter fun s => d.tileSeq s == some q

/-- Descriptor fields: the classes' entries. -/
def tokPush (s c : Nat) (x : TokDesc) (d : Dev) : Dev :=
  d.modTile s fun t => { t with tok := kvSetD t.tok [] c (kvGetD t.tok [] c ++ [x]) }

/-- A producer other than an engine fills a class (R137, R289, R294): false when it has no free slot (DEDUCED, unsafe: notes/assumptions/39.md). -/
def tokFill (s c : Nat) (x : TokDesc) (d : Dev) : Dev × Bool :=
  if tokMode d s c = 1 ∧ tokFree d s c then (tokPush s c x d, true) else (d, false)

/-- The entry index of a unit of R110's queue depth. -/
def queueDepth (e : Nat) : Nat := [16, 32, 16, 32, 32].getD e 0

/-- Work of a command, or of any command, that a tile still holds (R229, ENG_STATUS.IDLE). -/
def Engine.holds (e : Engine) (p : Cmd → Bool) : Bool :=
  e.queue.any (fun q => p q.ins.cmd) || (match e.run with | some r => p r.q.ins.cmd | none => false)

def Tile.holds (t : Tile) (p : Cmd → Bool) : Bool :=
  t.input.any (fun i => p i.cmd) || t.eng.any fun e => e.2.holds p

/-- ENG_STATUS.IDLE: all queues empty and no instruction in progress (R144). -/
def Tile.idle (t : Tile) : Bool := !t.holds (fun _ => true) && t.mx.dcw.isNone

/-- The work broadcast to the tile is done (06_sequencers_isa.md R84): between two words of a DCW command too. -/
def Tile.quiet (t : Tile) : Bool := !t.holds (fun _ => true)

/-- ENG_STATUS (R144): occupancies, which count the instruction in progress (04_matrix_unit.md R153), STOPPED, IDLE. -/
def engStatus (t : Tile) : Word :=
  let occ := fun e => (t.engine e).queue.length + b2n (t.engine e).run.isSome
  w32 (occ 0 + occ 1 * 2 ^ 5 + occ 2 * 2 ^ 11 + occ 3 * 2 ^ 16 + occ 4 * 2 ^ 22
    + b2n (t.eng.any fun e => e.2.stopped) * 2 ^ 30 + b2n t.idle * 2 ^ 31)

/-- TOK_OCC_c (R144). -/
def tokOccWord (d : Dev) (s c : Nat) : Word := w32 (tokOcc d s c + tokRsvd d s c * 2 ^ 8)

/-! ### Errors (R143) -/

/-- The KIND and UNIT of a tile's records (R483). -/
def tileRecord (s cls synd : Nat) (cmd : Option CmdRef) (d : Dev) : Dev := d.record cls 1 (d.siteUnit s) synd cmd

/-- An ENGINE_STOP record (R484): TILE.FLAGS and the engine code. -/
def engineStopRecord (s e : Nat) (cmd : Option CmdRef) (d : Dev) : Dev :=
  tileRecord s 0x04 (d.rdF (TILE_FLAGS s) 9 0 + e * 2 ^ 16) cmd d

/-- A tile discards every instruction of a command from a place in its dispatch order onward (R261) (DEDUCED, unsafe: notes/assumptions/42.md). -/
def discardFrom (s : Nat) (c : Cmd) (ord : Nat) (d : Dev) : Dev :=
  d.modTile s fun t =>
    { t with
      input := t.input.filter fun i => !i.cmd.same c
      eng := t.eng.map fun e => (e.1, { e.2 with queue := e.2.queue.filter fun q => !(q.ins.cmd.same c && decide (ord ≤ q.ord)) })
      faulted := setIns t.faulted c.serial }

/-- A tile faults a command (R261): it discards the instruction and the later ones and reports to its sequencer. -/
def tileFault (s cause : Nat) (i : Instruct) (ord : Nat) (d : Dev) : Dev :=
  let d := discardFrom s i.cmd ord d
  d.modFab fun f => { f with reports := f.reports ++ [(i.cmd.seq, s, cause, i.entry, i.cmd)] }

/-- The instruction in progress leaves its engine, and its reserved slot is released (R115). -/
def dropRun (s e : Nat) (stop : Bool) (r : Running) (d : Dev) : Dev :=
  d.modTile s fun t => { (t.setEngine e { t.engine e with run := none, stopped := (t.engine e).stopped || stop }) with
    rsvd := if r.rsv then kvModD t.rsvd 0 r.q.ins.sig (· - 1) else t.rsvd }

/-- An instruction in progress aborts and its engine stops (R115, R143): its reserved slot is released; the stopped
engine is a fault of the command (R258 TILE_STOPPED). `flag` is the FLAGS bit, where the row of R143 has one; `rec`
whether the stop writes an ENGINE_STOP record. -/
def stopEngine (s e : Nat) (flag : Option Nat) (rec : Bool) (d : Dev) : Dev :=
  let x := (d.tile s).engine e
  let d := match flag with | some i => tileFlag s i d | none => d
  match x.run with
  | some r =>
    let d := dropRun s e true r d
    let d := if rec then engineStopRecord s e (some (r.q.ins.ref true)) d else d
    tileFault s 0x14 r.q.ins (r.q.ord + 1) d
  | none =>
    match x.queue with
    | q :: _ =>
      let d := d.modEngine s e fun x => { x with stopped := true }
      let d := if rec then engineStopRecord s e (some (q.ins.ref true)) d else d
      tileFault s 0x14 q.ins q.ord d
    | [] => d

/-- FLAGS bits (R144). -/
def flAccSat : Nat := 0
def flEccCe : Nat := 1
def flEccUe : Nat := 2
def flAddrRange : Nat := 3
def flTokenStall : Nat := 4
def flRqOvf : Nat := 5
def flStale : Nat := 6
def flWinViol : Nat := 7
def flNbrTimeout : Nat := 8
def flChkFail : Nat := 9

/-- A word address above 0x13_FFFF (R105). -/
def addrAbort (s e : Nat) (d : Dev) : Dev := stopEngine s e (some flAddrRange) true d

/-- The uncorrectable words of the ranges that an instruction reads (R139). -/
def badWords (t : Tile) (rs : List (Nat × Nat)) : List Nat :=
  rs.flatMap fun r => t.bad.filter fun b => decide (r.1 ≤ b ∧ b < r.1 + r.2)

/-- Reads find uncorrectable words: each sets ECC_UE and writes a record (R139) (DEDUCED, unsafe: notes/assumptions/45.md). -/
def badReads (s : Nat) (ref : Option CmdRef) (bs : List Nat) (d : Dev) : Dev :=
  bs.foldl (fun d a => tileRecord s 0x03 a ref (tileFlag s flEccUe d)) d

/-- An instruction reads ranges of words: an uncorrectable word sets ECC_UE and writes a record (R139). The answer
says whether the output is poisoned (DEDUCED, unsafe: notes/assumptions/45.md). -/
def readPoison (s : Nat) (i : Instruct) (rs : List (Nat × Nat)) (d : Dev) : Dev × Bool :=
  let bs := badWords (d.tile s) rs
  (badReads s (some (i.ref true)) bs d, !bs.isEmpty)

/-- Milliseconds of TAI, for limits of one record per millisecond. -/
def Dev.ms (d : Dev) : Nat := d.taiNs / 1000000

/-- A correction at the tile (R138): at most one record per millisecond, with the corrections since the last. -/
def eccCorrected (s : Nat) (d : Dev) : Dev :=
  let d := tileFlag s flEccCe (d.bump (TILE_ECC_CE_COUNT s))
  let t := d.tile s
  if t.ceMs = some d.ms then d.modTile s fun t => { t with ceSince := t.ceSince + 1 }
  else
    let n := t.ceSince + 1
    tileRecord s 0x02 n none (d.modTile s fun t => { t with ceSince := 0, ceMs := some d.ms })

/-! ### Configuration (R144, R145) -/

/-- The words a window covers: base and length. -/
def winSpan (w : Word) : Nat × Nat := (64 * fld w 14 0, 64 * (fld w 23 16 + 1))
def rqSpan (base cfg : Word) : Nat × Nat := (fld base 20 0, 8 * (fld cfg 5 0 + 1) * (fld cfg 15 8 + 1))

def overlap (a b : Nat × Nat) : Bool := decide (a.1 < b.1 + b.2 ∧ b.1 < a.1 + a.2)

/-- The spans of enabled windows and queues but for one window or queue (DEDUCED, unsafe: notes/assumptions/38.md). -/
def otherSpans (d : Dev) (s : Nat) (skipWin skipRq : Option Nat) : List (Nat × Nat) :=
  ((below 4 fun i => some i != skipWin && bitOf (d.rd (TILE_WIN_CFG s i)) 31).map fun i => winSpan (d.rd (TILE_WIN_CFG s i))) ++
  ((below 8 fun q => some q != skipRq && bitOf (d.rd (TILE_RQ_CFG s q)) 31).map fun q => rqSpan (d.rd (TILE_RQ_BASE s q)) (d.rd (TILE_RQ_CFG s q)))

/-- Checks of a placed window or queue: range, overlap and class (R145) (DEDUCED, unsafe: notes/assumptions/38.md). -/
def spanChecks (d : Dev) (s : Nat) (span : Nat × Nat) (others : List (Nat × Nat)) (cls prod : Nat) : List Check :=
  [(.range, decide (spadWords < span.1 + span.2)), (.conflict, others.any (overlap span)),
   (.state, !(tokMode d s cls == 1 && tokProducer d s cls == prod))]

/-- Checks of a value written to a writable register of a TILE page, at a page offset (R144, R145) (DEDUCED, unsafe: notes/assumptions/38.md). -/
def tileValueChecks (d : Dev) (s off : Nat) (w : Word) : List Check :=
  if off = 0x108 then
    let old := d.rd (TILE_GROUP s)
    let busy := fun (g : Word) => bitOf g 31 && (d.seq (4 * siteField s + fld g 9 8)).cur.isSome
    [(.busy, busy old || busy w), (.reserved, decide (w.toNat &&& 0x7FFFFCC0 ≠ 0))]
  else if off = 0x10C then [(.reserved, decide (fld w 31 10 ≠ 0))]
  else if off = 0x124 then [(.reserved, decide (fld w 31 24 ≠ 0)), (.range, decide (fld w 23 0 < 4096))]
  else if off = 0x128 then [(.reserved, decide (fld w 31 1 ≠ 0))]
  else if off = 0x130 ∨ off = 0x134 then []
  else if 0x140 ≤ off ∧ off < 0x180 then
    let c := (off - 0x140) / 4
    let total := ((below 16 fun k => k != c && tokMode d s k == 1).map fun k => tokDepth d s k).sum
    let depth := fld w 20 16
    [(.noResource, fld w 1 0 == 1 && decide (64 < total + depth)),
     (.reserved, fld w 1 0 == 3 || fld w 6 4 == 7 || decide (w.toNat &&& 0xE0E0F88C ≠ 0)),
     (.range, decide (4 < fld w 10 8) || (fld w 1 0 == 1 && (depth == 0 || decide (16 < depth))) || decide (depth < fld w 28 24))]
  else if 0x1D0 ≤ off ∧ off < 0x1F0 then
    let i := (off - 0x1D0) / 8
    [(.busy, decide (d.rdF (TILE_WIN_STATE s i) 8 0 ≠ 0)), (.reserved, decide (w.toNat &&& 0x70008000 ≠ 0))] ++
    spanChecks d s (winSpan w) (otherSpans d s (some i) none) (fld w 27 24) 6
  else if 0x210 ≤ off ∧ off < 0x290 then
    let q := (off - 0x210) / 16
    if off % 16 = 0 then
      let cfg := d.rd (TILE_RQ_CFG s q)
      [(.reserved, decide (fld w 31 21 ≠ 0)), (.range, decide (fld w 2 0 ≠ 0))] ++
      (if bitOf cfg 31 then spanChecks d s (rqSpan w cfg) (otherSpans d s none (some q)) (fld cfg 19 16) 5 else [])
    else
      [(.busy, decide (d.rdF (TILE_RQ_PTR s q) 24 16 ≠ 0)), (.reserved, decide (w.toNat &&& 0x7FF000C0 ≠ 0))] ++
      spanChecks d s (rqSpan (d.rd (TILE_RQ_BASE s q)) w) (otherSpans d s none (some q)) (fld w 19 16) 5
  else if 0x290 ≤ off ∧ off < 0x310 then
    if off % 8 = 0 then [(.reserved, decide (fld w 23 19 ≠ 0) || decide (fld w 15 14 ≠ 0))]
    else [(.reserved, decide (fld w 30 9 ≠ 0)), (.range, decide (256 < fld w 8 0))]
  else []

/-- A page offset names a register that R144 lets TCFG write. -/
def tcfgWritable (off : Nat) : Bool :=
  off == 0x130 || off == 0x134 || decide (0x140 ≤ off ∧ off < 0x180) ||
  (decide (0x1D0 ≤ off ∧ off < 0x1F0) && off % 8 == 0) ||
  (decide (0x210 ≤ off ∧ off < 0x290) && (off % 16 == 0 || off % 16 == 4)) || decide (0x290 ≤ off ∧ off < 0x310)

/-- SR_SEED_HI makes the pair the seed and sets both counters to 0, from each engine's next instruction (R206). -/
def seedWrite (s : Nat) (w : Word) (d : Dev) : Dev :=
  let d := d.wr (TILE_SR_SEED_HI s) w
  d.modTile s fun t => { t with seed := d.rd64 (TILE_SR_SEED_LO s), mxNew := true, vxNew := true }

/-- A checked write of a TILE register takes effect (R113, R126, R133, R206) (DEDUCED, unsafe: notes/assumptions/39.md; DESIGN CHOICE, unsafe: notes/assumptions/109.md). -/
def tileValueSet (s off : Nat) (w : Word) (d : Dev) : Dev :=
  if off = 0x134 then seedWrite s w d
  else if off = 0x10C then d.wr (TILE_FLAGS s) (d.rd (TILE_FLAGS s) &&& ~~~w)
  else
    let d := d.setActive (.tile s) off w
    if 0x140 ≤ off ∧ off < 0x180 then
      let c := (off - 0x140) / 4
      d.modTile s fun t => { t with
        tok := kvSetD t.tok [] c (if fld w 1 0 = 1 then List.replicate (fld w 28 24) {} else [])
        rsvd := kvDel t.rsvd c
        eng := t.eng.map fun e => (e.1, { e.2 with run := e.2.run.map fun r =>
          if r.q.ins.sig = c then { r with rsv := false } else r }) }
    else if 0x1D0 ≤ off ∧ off < 0x1F0 then d.wr (TILE_WIN_STATE s ((off - 0x1D0) / 8)) 0
    else if 0x210 ≤ off ∧ off < 0x290 ∧ off % 16 = 4 then
      let q := (off - 0x210) / 16
      (d.wr (TILE_RQ_PTR s q) 0).modTile s fun t => { t with slots := kvDel t.slots q }
    else d

/-! ### CTI registers (06_sequencers_isa.md R228, R232) -/

/-- Scalar register `r` as an instruction of a command reads it. -/
def scalar (t : Tile) (c : Cmd) (r : Nat) : Nat :=
  if r = 0 then 0 else if 28 ≤ r then c.arg (r - 28) else kvGetD t.scalars 0 r

def setScalar (s r v : Nat) (d : Dev) : Dev :=
  if r = 0 ∨ 28 ≤ r then d else d.modTile s fun t => { t with scalars := kvSetD t.scalars 0 r (v % 2 ^ 64) }

def zeroVec : List Word := List.replicate 64 0
def vector (t : Tile) (r : Nat) : List Word := kvGetD t.vectors zeroVec r
def allLanes : Nat := 2 ^ 64 - 1
def predicate (t : Tile) (r : Nat) : Nat := if r = 0 then allLanes else kvGetD t.preds 0 r
def setPred (s r v : Nat) (d : Dev) : Dev :=
  if r = 0 then d else d.modTile s fun t => { t with preds := kvSetD t.preds 0 r v }

/-- Write the lanes whose guard bit is 1 (R238). -/
def setVector (s r guard : Nat) (f : Nat → Word) (d : Dev) : Dev :=
  d.modTile s fun t =>
    let v := vector t r
    { t with vectors := kvSetD t.vectors zeroVec r ((List.range 64).map fun l => if guard.testBit l then f l else v.getD l 0) }

/-- The guard of an instruction (R238) (DEDUCED, unsafe: notes/assumptions/47.md). -/
def guardOf (t : Tile) (i : Instruct) : Nat :=
  let p := predicate t (i.f 34 32)
  if i.b 35 then Nat.xor p allLanes else p

/-! ### Address generators (R234) -/

def Tile.ag (t : Tile) (g : Nat) : AddrGen := kvGetD t.ags {} g
def AddrGen.addr (g : AddrGen) : Nat :=
  (((g.base : Int) + g.i0 * toSigned 22 g.s0 + g.i1 * toSigned 22 g.s1) % (2 ^ 21 : Int)).toNat
def AddrGen.countN (g : AddrGen) : Nat := if g.count = 0 then 65536 else g.count
/-- A step (R234) (DESIGN CHOICE, unsafe: notes/assumptions/3.md; DESIGN CHOICE, safe: notes/assumptions/5.md; DESIGN CHOICE, unsafe: notes/assumptions/103.md). -/
def AddrGen.step (g : AddrGen) : AddrGen :=
  if g.i0 + 1 = g.countN then { g with i0 := 0, i1 := (g.i1 + 1) % 65536 } else { g with i0 := g.i0 + 1 }
/-- A field of a generator is written (R234, R240): the low bits of the value. -/
def AddrGen.setField (g : AddrGen) (field v : Nat) : AddrGen :=
  match field with
  | 0 => { g with base := v % 2 ^ 21 }
  | 1 => { g with s0 := v % 2 ^ 22 }
  | 2 => { g with count := v % 2 ^ 16 }
  | 3 => { g with s1 := v % 2 ^ 22 }
  | _ => { g with i0 := 0, i1 := 0 }
def Tile.modAg (t : Tile) (g : Nat) (f : AddrGen → AddrGen) : Tile := { t with ags := kvModD t.ags {} g f }

/-! ### Scrubbing (R138, R140) -/

/-- What a bank access met: no error, a single-bit error, an uncorrectable word at an address. -/
def scrubbed (s bank : Nat) (ce : Bool) (ue : Option Nat) (d : Dev) : Dev :=
  if bitOf (d.rd (TILE_SCRUB_CTRL s)) 0 && decide (bank < 48) && d.powered (.tile s) then
    let row := kvGetD (d.tile s).scrubRow 0 bank
    let d := d.modTile s fun t => { t with scrubRow := kvSetD t.scrubRow 0 bank ((row + 1) % bankRows bank) }
    let d := match ue with
      | some k => strike s (lineAddr bank row + k % 4) d
      | none => d
    let d := badReads s none (badWords (d.tile s) [(lineAddr bank row, 4)]) d
    if ce then eccCorrected s d else d
  else d

/-! ### Commands -/

/-- SPAD_ECC_WRITEBACK (R138). -/
def execSpadEccWriteback (site : Nat) (s : State) : Result := guardUnit (unitSite site) (onMesh (siteField site) (eccCorrected site) s)

/-- SCRUB_STEP (R140). -/
def execScrubStep (site bank : Nat) (ce : Bool) (ue : Option Nat) (s : State) : Result :=
  guardUnit (unitSite site) (onMesh (siteField site) (scrubbed site bank ce ue) s)

/-- SCRUB_FORCED (R140): the same step of the scrubber, at the highest priority. -/
def execScrubForced (site bank : Nat) (ce : Bool) (ue : Option Nat) (s : State) : Result :=
  guardUnit (unitSite site) (onMesh (siteField site) (scrubbed site bank ce ue) s)

end Sys2Proof.Machine
end

