-- ==== Sys2Proof/Machine/Fabric.lean ====
section
/-! DEFINITION. The fabric (07_fabric.md): injection and ejection checks, binding tables, routing and detours, link errors,
seams, edge ports. -/

namespace Sys2Proof.Machine

/-! ### Places -/

/-- Port codes: 0 local, 1 N, 2 E, 3 S, 4 W (R288). -/
def neighbour (site dir : Nat) : Option Nat :=
  let x := siteX site
  let y := siteY site
  match dir with
  | 1 => if y = 0 then none else some (siteAt x (y - 1))
  | 2 => if x = 95 then none else some (siteAt (x + 1) y)
  | 3 => if y = 143 then none else some (siteAt x (y + 1))
  | 4 => if x = 0 then none else some (siteAt (x - 1) y)
  | _ => none

/-- The opposite port: a packet sent on `dir` arrives on this port. -/
def opposite (dir : Nat) : Nat := match dir with | 1 => 3 | 2 => 4 | 3 => 1 | 4 => 2 | k => k

/-- The seam segment that a hop crosses: field and whether it is a south seam (R302). -/
def seamOf (a b : Nat) : Option (Nat × Bool) :=
  let f := siteField a
  let g := siteField b
  if f = g then none
  else if f / 3 = g / 3 then some (min f g, false)
  else some (min f g, true)

def seamReg (f : Nat) (south : Bool) : Nat := if south then FIELD_SEAM_S f else FIELD_SEAM_E f

/-- A segment lets flits in: LOCKED and not held for a frequency change (R305, R306). -/
def seamOpen (d : Dev) (f : Nat) (south : Bool) : Bool :=
  let w := d.rd (seamReg f south)
  bitOf w 8 && !bitOf w 9 && !bitOf w 10

/-- A field runs at the common OPP from a locked PLL (R305, 11_clocking.md R433). -/
def Dev.atCommonOpp (d : Dev) (f : Nat) : Bool :=
  bitOf (d.rd CLK_FIELD_PLL) f && d.domOn (144 + f) && (kvGet? d.clk.fieldDiv f).isNone && !d.flt.fieldFailed.contains f &&
    !d.clk.refLost

/-- The field across a segment (R302). -/
def seamFar (f : Nat) (south : Bool) : Nat := if south then f + 3 else f + 1

/-- The hop from a site is open. -/
def hopOpen (d : Dev) (a b : Nat) : Bool :=
  match seamOf a b with
  | none => true
  | some (f, south) => seamOpen d f south

/-- Fenced routers lie in rectangles (R284). -/
def inRegion (r : Nat × Nat × Nat × Nat) (site : Nat) : Bool :=
  decide (r.1 ≤ siteX site ∧ siteX site ≤ r.2.2.1 ∧ r.2.1 ≤ siteY site ∧ siteY site ≤ r.2.2.2)
def regionOf (d : Dev) (site : Nat) : Option (Nat × Nat × Nat × Nat) := d.fab.regions.find? fun r => inRegion r site
def routerFenced (d : Dev) (site : Nat) : Bool := (regionOf d site).isSome

/-- SPLIT or PAIRED channel mode closes the boundary between the channels (14_channels_twin_herd.md R523). -/
def Dev.chanMode (d : Dev) : Nat := d.rdF CHAN_MODE 1 0
def siteChannel (s : Nat) : Nat := fieldChannel (siteField s)

/-! ### Records of routers, seams and edge ports (13_faults_recovery.md R652) -/

/-- The one attempt in flight on a channel. -/
def chanAttempt (d : Dev) (chan : Nat) : Option Beat :=
  match d.strm.beats.filter fun b => b.seqs.any fun q => q / 24 == chan with
  | [b] => some b
  | _ => none

/-- TAG of an attempt (08_streams_context.md R324). -/
def Beat.tag (b : Beat) : Nat := b.beat % 4096 + b.attempt % 16 * 4096

/-- The command a router's record names. LINK_UE and REDUCTION records withhold commit. -/
def routerCmd (d : Dev) (chan cls : Nat) : Option CmdRef :=
  (chanAttempt d chan).map fun b => { tag := b.tag, stream := b.stream, withheld := cls == 0x0D || cls == 0x0E }

/-- A record of a router at a site. -/
def routerRecord (site cls synd : Nat) (d : Dev) : Dev :=
  d.record cls 1 (d.siteUnit site) synd (routerCmd d (siteChannel site) cls)

/-- The oldest incomplete command of the sequencer that a tile follows. -/
def tileCmd (d : Dev) (s : Nat) : Option Cmd := ((d.tileSeq s).bind fun q => (d.seq q).inflight.head?)

/-- A record of the receive engine or the neighbour service names the tile's oldest incomplete command. -/
def rvRef (d : Dev) (s : Nat) : Option CmdRef :=
  (tileCmd d s).map fun c => { tag := c.tag, stream := c.stream, withheld := true }

/-- Word 0 of a packet's header (R276). -/
def Packet.word0 (p : Packet) : Nat :=
  (p.vc + p.typ * 2 ^ 2 + b2n p.poison * 2 ^ 6 + p.dest * 2 ^ 7 + p.destGen * 2 ^ 21 + p.src * 2 ^ 29) % 2 ^ 32

/-- The syndrome of a STALE_DROP record (R484): where 0 injection, 1 ejection, 2 link, 3 edge port. -/
def Packet.stale (p : Packet) (place : Nat) : Nat :=
  p.src % 2 ^ 14 + p.srcGen % 256 * 2 ^ 14 + p.destGen % 256 * 2 ^ 22 + place * 2 ^ 30

/-- Flits of a packet (R276, R277, R291): eight words each, at least one, and the one that holds the request block of a
write request. -/
def Packet.flits (p : Packet) : Nat := max 1 ((p.data.length + 7) / 8 + b2n (p.typ == 0xA && !p.data.isEmpty))

/-- A fabric discard is counted in its field's register and traced (R98, R312): 1 INJ_UNMAPPED, 2 INJ_STALE, 3 CLOSED_DROP,
4 FENCED_LINK_DROP, which counts flits (R284), 5 SEAM_DROP. -/
def dropCount (site counter : Nat) (p : Packet) (d : Dev) : Dev :=
  let f := siteField site
  let a := match counter with
    | 1 => FIELD_INJ_UNMAPPED_COUNT f
    | 2 => FIELD_INJ_STALE_COUNT f
    | 3 => FIELD_CLOSED_DROP_COUNT f
    | _ => FIELD_FENCED_LINK_DROP_COUNT f
  (d.bumpBy a (if counter = 4 then p.flits else 1)).traceEvent f 6 0x3F counter site p.word0 7

/-! ### Binding tables (R279, R282) -/

/-- The entry in force at a node: a router's site, or 16384 + port code. -/
def bindEntry (d : Dev) (node id : Nat) : Word :=
  match kvGet? d.fab.bindRt (16384 * node + id) with
  | some w => w
  | none =>
    match ((d.fab.bindLog.take (kvGetD d.fab.bindDone 0 node)).filter fun e => e.1 == id).getLast? with
    | some e => e.2
    | none => kvGetD d.fab.bindBoot 0 id

def bindWord (site gen : Nat) (valid : Bool) : Word := w32 (site + gen % 256 * 2 ^ 14 + b2n valid * 2 ^ 31)
def entrySite (w : Word) : Nat := fld w 13 0
def entryGen (w : Word) : Nat := fld w 21 14
def entryValid (w : Word) : Bool := bitOf w 31

/-- Pewter issues a binding change on tree 0 (R282). -/
def bindIssue (id : Nat) (w : Word) (d : Dev) : Dev := d.modFab fun f => { f with bindLog := f.bindLog ++ [(id, w)] }

/-- The routers of a field under Ibex quarantine take binding changes in step 5 of the slice (13_faults_recovery.md R507). -/
def bindWaits (d : Dev) (node : Nat) : Bool :=
  decide (node < 13824) && bitOf (d.rd (FIELD_HEALTH (siteField node))) 4 && d.rdF FLT_IBEX_STATUS 2 0 != 4

/-- A node applies the next change in the order of issue (R282). -/
def bindApply (node : Nat) (d : Dev) : Dev :=
  let n := kvGetD d.fab.bindDone 0 node
  match d.fab.bindLog[n]?, bindWaits d node with
  | some e, false => d.modFab fun f => { f with bindDone := kvPut f.bindDone node (n + 1), bindRt := kvDel f.bindRt (16384 * node + e.1) }
  | _, _ => d

/-! ### Edge ports (R307) -/

/-- The router through which a tile at (x, y) reaches a port. -/
def edgeRouter (code x y : Nat) : Option Nat :=
  if code < 4 then some (siteAt 0 (36 * code + y % 36))
  else if code < 8 then some (siteAt 95 (36 * (code - 4) + y % 36))
  else if code = 0x10 ∨ code = 0x11 then some (siteAt (32 + x % 32) 0)
  else if code = 0x30 ∨ code = 0x20 ∨ code = 0x21 then some (siteAt (x % 32) 0)
  else if code = 0x31 ∨ code = 0x22 ∨ code = 0x23 then some (siteAt (64 + x % 32) 0)
  else if code = 0x32 ∨ code = 0x24 ∨ code = 0x25 then some (siteAt (x % 32) 143)
  else if code = 0x33 ∨ code = 0x26 ∨ code = 0x27 then some (siteAt (64 + x % 32) 143)
  else none

/-- The field in which a port is attached (R312): that of its first attach router. -/
def edgeField (code : Nat) : Nat := siteField ((edgeRouter code 0 0).getD 0)

/-! ### Injection (R279, R280, R286) -/

/-- Host and Pewter traffic: requests to, and responses from, port codes 0x10 and 0x11. An EDGE_RESP carries its port
code as SRC. -/
def hostTraffic (p : Packet) : Bool :=
  (p.typ == 0xA && (p.dest == 0x10 || p.dest == 0x11)) || (p.typ == 0xB && (p.src == 0x10 || p.src == 0x11))

/-- A packet crosses the closed boundary: only VC_0 and packets of port codes 0x10 and 0x11 may (R523). -/
def crosses (d : Dev) (p : Packet) (fromSite : Nat) : Bool :=
  d.chanMode != 0 && p.vc != 0 && siteChannel fromSite != siteChannel p.destSite &&
    !hostTraffic p

/-- A packet of a tile is injected. `ins` is the sending instruction: a discard writes its record with that command, and
the caller aborts it; a reply of the neighbour service has none, and its record names the tile's command (13_faults_recovery.md R652). The answer says whether the packet entered the mesh. -/
def inject (s : Nat) (p : Packet) (ins : Option Instruct) (d : Dev) : Dev × Bool :=
  let rec_ := fun (cls synd : Nat) (d : Dev) =>
    tileRecord s cls synd (match ins with | some i => some (i.ref true) | none => rvRef d s) d
  let p := { p with src := d.tileId s, srcGen := d.tileGen s }
  if d.tileFenced s || !d.tileBound s then (rec_ 0x05 (p.stale 0) (dropCount s 3 p d), false)
  else
    let e := bindEntry d s p.dest
    let edge := p.typ == 0xA
    let red := p.typ == 8
    if !edge && !red && !entryValid e then (rec_ 0x0B p.word0 (dropCount s 1 p d), false)
    else if !edge && !red && entryGen e != p.destGen then (rec_ 0x05 (p.stale 0) (dropCount s 2 p d), false)
    else
      let p := if edge || red then p else { p with destSite := entrySite e }
      -- a contribution that is not redirected goes to its own router
      if (!red || p.redirect) && crosses d p s then (rec_ 0x0B p.word0 (d.bump CHAN_XING_DROP_COUNT), false)
      else (d.modFab fun x => { x with net := x.net ++ [{ pkt := p, site := s, port := 0 }] }, true)

/-- A packet on a neighbour path between adjacent routers is not resolved and takes no injection stage (R272, R279). The
links of a fenced router are disabled: its neighbour discards what comes from it (R284), and nothing enters it (DESIGN CHOICE, safe: notes/assumptions/110.md). -/
def sendAdjacent (s dst dir : Nat) (p : Packet) (d : Dev) : Dev :=
  let p := { p with src := d.tileId s, srcGen := d.tileGen s, destSite := dst, adj := opposite dir }
  if routerFenced d dst then d
  else if routerFenced d s then routerRecord dst 0x05 (p.stale 2) (dropCount dst 4 p d)
  else d.modFab fun x => { x with landed := x.landed ++ [(dst, p)] }

/-- The physical site in a direction of NBR_d: d = 0 north, 1 east, 2 south, 3 west (03_tile.md R122). -/
def nbrSite (s dir : Nat) : Option Nat := neighbour s (dir + 1)

/-- A neighbour packet: on the adjacent link when ADJ is 1, else as a routed packet (03_tile.md R125). -/
def sendNbr (s dir : Nat) (p : Packet) (ins : Option Instruct) (d : Dev) : Dev × Bool :=
  let n := d.rd (TILE_NBR s dir)
  let p := { p with dest := fld n 13 0, destGen := fld n 23 16, aux := dir }
  match bitOf n 30, nbrSite s dir with
  | true, some dst => (sendAdjacent s dst (dir + 1) p d, true)
  | _, _ => inject s p ins d

/-! ### Routing (R281, R285) -/

/-- The next direction of dimension order from a site to a site. -/
def dimOrder (xFirst : Bool) (at_ dst : Nat) : Nat :=
  let dx := if siteX at_ < siteX dst then 2 else if siteX dst < siteX at_ then 4 else 0
  let dy := if siteY at_ < siteY dst then 3 else if siteY dst < siteY at_ then 1 else 0
  if xFirst then (if dx ≠ 0 then dx else dy) else (if dy ≠ 0 then dy else dx)

/-- The sites of the dimension-order route, the fuel bounding its hops. -/
def route (xFirst : Bool) : Nat → Nat → Nat → List Nat
  | 0, _, _ => []
  | n + 1, at_, dst =>
    match neighbour at_ (dimOrder xFirst at_ dst) with
    | none => []
    | some s => s :: route xFirst n s dst

def xFirst (vc : Nat) : Bool := vc != 2

/-- Where a detour turns (R285 step 1). -/
def turnDir (r : Nat × Nat × Nat × Nat) (dir at_ dst : Nat) : Nat :=
  if dir = 2 ∨ dir = 4 then
    if siteY at_ < siteY dst then 3 else if siteY dst < siteY at_ then 1
    else if r.2.1 = 0 then 3 else 1
  else
    if siteX at_ < siteX dst then 2 else if siteX dst < siteX at_ then 4
    else if r.1 = 0 then 2 else 4

/-- The next hop of a packet outside a detour: dimension order, or the turn that starts one (R281, R285 step 1). -/
def freeHop (d : Dev) (fl : Flight) : Nat × Option (Nat × Nat × Nat × Nat × Nat × Nat) :=
  let dir := dimOrder (xFirst fl.pkt.vc) fl.site fl.pkt.destSite
  match (neighbour fl.site dir).bind (regionOf d) with
  | some r => let t := turnDir r dir fl.site fl.pkt.destSite; (t, some (t, dir, r))
  | none => (dir, none)

/-- The next hop of a packet and its detour (R281, R285): around a region until the dimension-order route avoids it; the
next region on that route starts a detour of its own. -/
def nextHop (d : Dev) (fl : Flight) : Nat × Option (Nat × Nat × Nat × Nat × Nat × Nat) :=
  match fl.detour with
  | some (turn, orig, r) =>
    if !((route (xFirst fl.pkt.vc) 240 fl.site fl.pkt.destSite).any (inRegion r)) then freeHop d fl
    else
      match neighbour fl.site orig with
      | some s => (if inRegion r s then turn else orig, fl.detour)
      | none => (turn, fl.detour)
  | none => freeHop d fl

/-- A single-bit error corrected on a link: at most one record per millisecond per field (R311). -/
def linkCe (f : Nat) (d : Dev) : Dev :=
  let d := d.bump (FIELD_LINK_CE_COUNT f)
  if kvGet? d.fab.ceMs f = some d.ms then d.modFab fun x => { x with ceSince := kvModD x.ceSince 0 f (· + 1) }
  else
    let n := kvGetD d.fab.ceSince 0 f + 1
    let d := d.modFab fun x => { x with ceSince := kvDel x.ceSince f, ceMs := kvPut x.ceMs f d.ms }
    d.record 0x0C 11 f n (routerCmd d (fieldChannel f) 0x0C)

/-- A link error at a router's input (R311): 1 corrected, 2 uncorrectable data, 3 uncorrectable control field. -/
def linkErr (site port vc err : Nat) (d : Dev) : Dev :=
  let f := siteField site
  if err = 1 then linkCe f d
  else if err = 2 ∨ err = 3 then
    routerRecord site 0x0D (port + vc * 2 ^ 3 + (if err = 3 then 2 ^ 5 else 0)) (d.bump (FIELD_LINK_UE_COUNT f))
  else d

/-- A unicast packet, or a redirected packet of a tree, not yet at its ejection. -/
def isUnicast (p : Packet) : Bool := p.redirect || (p.typ != 8 && p.typ != 9)

/-- The upstream router of an input port is fenced (R284, R286). -/
def upstreamFenced (d : Dev) (site port : Nat) : Bool :=
  match neighbour site port with
  | some u => routerFenced d u
  | none => false

/-- The packet leaves the network at the router it is at: a redirected contribution becomes the local input of its old
site's router (R296) (DEDUCED, unsafe: notes/assumptions/98.md). -/
def arriveAt (fl : Flight) (d : Dev) : Dev :=
  if fl.pkt.typ = 8 ∧ fl.pkt.par = [] then
    d.modFab fun x => { x with net := x.net ++ [{ fl with pkt := { fl.pkt with redirect := false }, port := 0, detour := none }] }
  else if fl.pkt.typ = 0xA then d.modFab fun x => { x with edge := x.edge ++ [(fl.pkt.dest, fl.pkt)] }
  else d.modFab fun x => { x with net := x.net ++ [{ fl with eject := true, detour := none }] }

/-- A hop (R281): to the next router's input, where the seam on the way is open and the boundary allows it (DEDUCED, unsafe: notes/assumptions/57.md).
The link into a fenced router is disabled (R284): what is sent on it is lost (DESIGN CHOICE, safe: notes/assumptions/110.md). -/
def hop (fl : Flight) (dir : Nat) (det : Option (Nat × Nat × Nat × Nat × Nat × Nat)) (d : Dev) : Option Dev :=
  match neighbour fl.site dir with
  | none => some d
  | some dst =>
    if routerFenced d dst then some d
    else if d.chanMode ≠ 0 ∧ siteChannel fl.site ≠ siteChannel dst ∧ fl.pkt.vc ≠ 0 ∧
        !hostTraffic fl.pkt then
      some (routerRecord fl.site 0x0B fl.pkt.word0 (d.bump CHAN_XING_DROP_COUNT))
    else if hopOpen d fl.site dst then
      some ((d.modFab fun x => { x with net := x.net ++ [{ fl with site := dst, port := opposite dir, detour := det }] }).active (siteField fl.site) 4)
    else none

/-- A packet met by a link error: the data becomes poisoned, or the packet is discarded (R311). -/
def struck (err : Nat) (p : Packet) : Option Packet :=
  if err = 3 then none else some (if err = 2 then { p with poison := true } else p)

/-- The first entry that satisfies `p` becomes what `f` makes of it, or goes. -/
def strikeFirst {α : Type} (p : α → Bool) (f : α → Option α) (l : List α) : List α :=
  match l with
  | [] => []
  | a :: t => if p a then (match f a with | some b => b :: t | none => t) else a :: strikeFirst p f t

/-- A link error meets a packet that no unicast hop brings (R311): the oldest of a tree at the input and VC, or else of
the neighbour path of that port. The packet then waits for its own service (DEDUCED, unsafe: notes/assumptions/57.md). -/
def linkStrike (site port vc err : Nat) (d : Dev) : Dev :=
  let tree := fun (fl : Flight) => fl.site == site && fl.port == port && port != 0 && fl.pkt.vc == vc && !isUnicast fl.pkt
  let adj := fun (e : Nat × Packet) => e.1 == site && e.2.adj == port && port != 0 && e.2.vc == vc
  if err = 0 then d
  else if d.fab.net.any tree then
    (linkErr site port vc err d).modFab fun x => { x with net := strikeFirst tree (fun fl => (struck err fl.pkt).map fun p => { fl with pkt := p }) x.net }
  else if d.fab.landed.any adj then
    (linkErr site port vc err d).modFab fun x => { x with landed := strikeFirst adj (fun e => (struck err e.2).map fun p => (e.1, p)) x.landed }
  else d

/-- A router serves the oldest unicast packet of an input and VC (R281, R284, R277, R311) (DEDUCED, unsafe: notes/assumptions/57.md). -/
def routerPacket (site port vc err : Nat) (d : Dev) : Dev :=
  match takeFirst (fun fl => fl.site == site && fl.port == port && fl.pkt.vc == vc && isUnicast fl.pkt && !fl.eject) d.fab.net with
  | none => linkStrike site port vc err d
  | some (fl, rest) =>
    let d0 := d.modFab fun x => { x with net := rest }
    if upstreamFenced d site port then
      routerRecord site 0x05 (fl.pkt.stale 2) (dropCount site 4 fl.pkt d0)
    else if err = 3 then linkErr site port vc 3 d0
    else
      let fl := if err = 2 then { fl with pkt := { fl.pkt with poison := true } } else fl
      let d1 := linkErr site port vc err d0
      if 0xD ≤ fl.pkt.typ then routerRecord site 0x0B fl.pkt.word0 d1
      else if site = fl.pkt.destSite then arriveAt fl d1
      else
        let (dir, det) := nextHop d fl
        match hop fl dir det d1 with
        | some d2 => d2
        | none => d

/-! ### Ejection (R283, R286) -/

/-- A packet whose source is a tile. -/
def fromTile (p : Packet) : Bool := p.typ != 0xB && p.typ != 0xC && !p.redirect

/-- A stale arrival is dropped (03_tile.md R136): STALE is an error of the packet's beat at its sender, not here (DESIGN CHOICE, unsafe: notes/assumptions/128.md). -/
def staleDrop (s : Nat) (p : Packet) (d : Dev) : Dev :=
  tileRecord s 0x05 (p.stale 1) none (tileFlag s flStale (d.bump (TILE_STALE_DROP_COUNT s)))

/-- RV counts a drop for want of a slot (03_tile.md R136, R653) (DEDUCED, unsafe: notes/assumptions/40.md). -/
def rqOverflow (s e : Nat) (d : Dev) : Dev :=
  engineStopRecord s e (rvRef d s) (tileFlag s flRqOvf (d.bump (TILE_RQ_DROP_COUNT s)))

/-- A landing of RV: a broadcast delivery or a root result (R289, R294, 03_tile.md R653) (DEDUCED, unsafe: notes/assumptions/40.md). -/
def rvLand (s base cls src : Nat) (words : List Word) (poison : Bool) (d : Dev) : Dev :=
  if spadWords < base + words.length then engineStopRecord s 5 (rvRef d s) (tileFlag s flAddrRange d)
  else
    match tokFill s cls { addr := base, len := words.length, src, poison } d with
    | (d', true) => d'.modTile s fun t => t.wrN base words
    | (_, false) => rqOverflow s 5 d

/-- A delivery to the selector of a field at the router of SEL.TILE_f (08_streams_context.md R348). -/
def selDeliver (site tree : Nat) (words : List Word) (d : Dev) : Dev :=
  match (List.range 12).find? (fun f => d.tileBound site && d.tileId site == d.rdF (SEL_TILE f) 13 0) with
  | some f =>
    if d.rdF SEL_REQ 5 0 = tree then
      { d with strm := { d.strm with selIn := kvModD d.strm.selIn [] f (· ++ [words]) } }
    else d
  | none => d

/-- The oldest packet that waits for ejection at a router is checked and handed to its tile (R286). -/
def packetEjection (site : Nat) (d : Dev) : Dev :=
  match takeFirst (fun fl => fl.site == site && fl.eject) d.fab.net with
  | none => d
  | some (fl, rest) =>
    let d := d.modFab fun x => { x with net := rest }
    let p := fl.pkt
    if d.tileFenced site then routerRecord site 0x05 (p.stale 1) (dropCount site 3 p d)
    else if !p.redirect && (!d.tileBound site || d.tileId site != p.dest || d.tileGen site != p.destGen) then staleDrop site p d
    else if fromTile p && entryGen (bindEntry d site p.src) != p.srcGen then staleDrop site p d
    else if p.redirect then
      selDeliver site p.dest p.data (rvLand site (p.par.getD 0 0) (p.par.getD 1 0) p.src p.data p.poison d)
    else d.modFab fun x => { x with landed := x.landed ++ [(site, p)] }

/-! ### Seams (R305) -/

/-- Flights that are inside a segment's synchronisers: at a router, on the input from across the seam (DEDUCED, unsafe: notes/assumptions/56.md; DESIGN CHOICE, safe: notes/assumptions/58.md). -/
def inSeam (f : Nat) (south : Bool) (fl : Flight) : Bool :=
  !fl.eject && (match neighbour fl.site fl.port with
    | some u => seamOf fl.site u == some (f, south)
    | none => false)

def seamPresent (d : Dev) (f : Nat) (south : Bool) : Bool := bitOf (d.rd (seamReg f south)) 31
/-- UNIT of a seam's records (R483). -/
def seamUnit (f : Nat) (south : Bool) : Nat := f + b2n south * 16

/-- A segment unlocks (R305) (DEDUCED, unsafe: notes/assumptions/56.md; DESIGN CHOICE, safe: notes/assumptions/58.md). -/
def seamUnlock (f : Nat) (south : Bool) (d : Dev) : Dev :=
  let a := seamReg f south
  if seamPresent d f south && bitOf (d.rd a) 8 then
    let lost := d.fab.net.filter (inSeam f south)
    let n := (lost.map fun fl => fl.pkt.flits).sum
    let d := d.wr a (setBit (d.rd a) 8 false)
    let d := d.modFab fun x => { x with
      net := x.net.filter fun fl => !inSeam f south fl, seamTick := kvPut x.seamTick (seamUnit f south) d.time.tb }
    let d := d.bumpBy (FIELD_SEAM_DROP_COUNT f) n
    let d := lost.foldl (fun d fl => d.traceEvent (siteField fl.site) 6 0x3F 5 fl.site 0 7) d
    d.record 0x0F 7 (seamUnit f south) (min n 0xFFFF) (routerCmd d (fieldChannel f) 0x0F)
  else d

/-- A segment relocks at its published latency, once both of its fields run at the common OPP from locked PLLs (R305,
11_clocking.md R433); after a die-wide stop that is after T_r (R436). -/
def seamRelock (f : Nat) (south : Bool) (d : Dev) : Dev :=
  let a := seamReg f south
  if seamPresent d f south && !bitOf (d.rd a) 10 && d.atCommonOpp f && d.atCommonOpp (seamFar f south) &&
      d.rdF CLK_CHG_STATE 1 0 != 2 then d.wr a (setBit (d.rd a) 8 true) else d

/-- The segments of a field: its own east and south seams, and those of its west and north neighbours. -/
def fieldSeams (f : Nat) : List (Nat × Bool) :=
  (if f % 3 < 2 then [(f, false)] else []) ++ (if f / 3 < 3 then [(f, true)] else []) ++
  (if 0 < f % 3 then [(f - 1, false)] else []) ++ (if 0 < f / 3 then [(f - 3, true)] else [])

def seamsUnlockField (f : Nat) (d : Dev) : Dev := (fieldSeams f).foldl (fun d s => seamUnlock s.1 s.2 d) d
def seamsRelockField (f : Nat) (d : Dev) : Dev := (fieldSeams f).foldl (fun d s => seamRelock s.1 s.2 d) d
/-- Every segment: its field and whether it is a south seam. -/
def allSeams : List (Nat × Bool) := (List.range 12).flatMap fun f => [(f, false), (f, true)]

/-- A segment's senders hold: for a die-wide change, or because a field on either side is held (R306, 11_clocking.md R438,
12_power_thermal.md R460). -/
def seamHeld (d : Dev) (f : Nat) (south : Bool) : Bool :=
  d.clk.dieHold || (d.clk.fieldHold ++ d.pwr.stretched).any fun g => g == f || g == seamFar f south

/-- HOLD of every present segment shows its causes. -/
def showHolds (d : Dev) : Dev :=
  allSeams.foldl (fun d s => if seamPresent d s.1 s.2 then
    d.wr (seamReg s.1 s.2) (setBit (d.rd (seamReg s.1 s.2)) 9 (seamHeld d s.1 s.2)) else d) d

/-! ### Commands -/

/-- ROUTER_PACKET (R281). -/
def execRouterPacket (site port vc err : Nat) (s : State) : Result :=
  guardUnit (unitSite site) (onMesh (siteField site) (routerPacket site port vc err) s)

/-- PACKET_EJECTION (R286). -/
def execPacketEjection (site : Nat) (s : State) : Result := guardUnit (unitSite site) (onMesh (siteField site) (packetEjection site) s)

/-- BINDING_CHANGE (R282): at a router's site, or at an edge port, 16384 + its code. -/
def execBindingChange (node : Nat) (s : State) : Result :=
  guardUnit (unitSite node || (edgeRouter (node - 16384) 0 0).isSome && decide (16384 ≤ node)) (onMesh (if node < 13824 then siteField node else edgeField (node - 16384)) (bindApply node) s)

/-- SEAM_UNLOCK (R305). -/
def execSeamUnlock (f : Nat) (south : Bool) (s : State) : Result := guardUnit (unitField f) (onDev (seamUnlock f south) s)

/-- SEAM_RELOCK (R305). -/
def execSeamRelock (f : Nat) (south : Bool) (s : State) : Result := guardUnit (unitField f) (onDev (seamRelock f south) s)

end Sys2Proof.Machine
end

