-- ==== Sys2Proof/Machine/Landing.lean ====
section
/-! DEFINITION. Arrivals at a tile: the receive engine, the neighbour service, broadcast trees and in-network reduction
(03_tile.md R122 to R137, 07_fabric.md R288 to R301). -/

namespace Sys2Proof.Machine

/-- The oldest landed packet of a type at a tile; a fenced tile's services are closed (03_tile.md R142). It waits while a
packet of its source and VC that landed before it waits (R278). -/
def takeLanded (s typ : Nat) (d : Dev) (f : Packet → Dev → Dev) : Dev :=
  match takeFirst (fun e => e.1 == s && e.2.typ == typ) d.fab.landed with
  | none => d
  | some (e, rest) =>
    let before := d.fab.landed.takeWhile fun x => !(x.1 == s && x.2.typ == typ)
    if before.any fun x => x.1 == s && x.2.vc == e.2.vc && x.2.src == e.2.src then d else
    let d := d.modFab fun x => { x with landed := rest }
    if d.tileFenced s then routerRecord s 0x05 (e.2.stale 1) (dropCount s 3 e.2 d)
    else f e.2 d

/-- A neighbour packet names this tile and its generation (03_tile.md R127 step 5, R129). -/
def nbrFresh (d : Dev) (s : Nat) (p : Packet) : Bool := d.tileId s == p.dest && d.tileGen s == p.destGen

/-- Only packets that name this tile's generation are served; others are dropped and recorded (R136). -/
def ifFresh (s : Nat) (p : Packet) (d : Dev) (f : Dev → Dev) : Dev := if nbrFresh d s p then f d else staleDrop s p d

/-- The direction at the receiver of a packet its sender sent in a direction. -/
def facing (dir : Nat) : Nat := (dir + 2) % 4

/-! ### Binding updates (R122, R130) -/

/-- A binding-update packet sets BIND or NBR_d in the cycle of its arrival; a change of NBR_d clears OUTWIN_d and
returns every chunk of WIN_d to IDLE (R130) (DESIGN CHOICE, unsafe: notes/assumptions/109.md; DEDUCED, unsafe: notes/assumptions/130.md). -/
def bindingUpdate (s : Nat) (d : Dev) : Dev :=
  match takeFirst (fun u => u.1 == s) d.fab.updates with
  | none => d
  | some (u, rest) =>
    let d := d.modFab fun x => { x with updates := rest }
    let d := d.wr (tileBase s + u.2.1) u.2.2
    -- NEXT_GRANT returns to 0 with the chunks (DESIGN CHOICE, unsafe: notes/assumptions/109.md)
    if 0x1C0 ≤ u.2.1 ∧ u.2.1 < 0x1D0 then
      let i := (u.2.1 - 0x1C0) / 4
      ((d.wr (TILE_OUTWIN_BASE s i) 0).wr (TILE_OUTWIN_STATE s i) 0).wr (TILE_WIN_STATE s i) 0
    else d

/-! ### Windows (R126 to R129) -/

def winBase (d : Dev) (s i : Nat) : Nat := 64 * d.rdF (TILE_WIN_CFG s i) 14 0
def winChunks (d : Dev) (s i : Nat) : Nat := d.rdF (TILE_WIN_CFG s i) 23 16 + 1
def winEn (d : Dev) (s i : Nat) : Bool := bitOf (d.rd (TILE_WIN_CFG s i)) 31
def winGranted (d : Dev) (s i : Nat) : Nat := d.rdF (TILE_WIN_STATE s i) 8 0
def winNext (d : Dev) (s i : Nat) : Nat := d.rdF (TILE_WIN_STATE s i) 23 16
def setWin (s i granted next : Nat) (d : Dev) : Dev := d.wrN (TILE_WIN_STATE s i) (granted + next * 2 ^ 16)

/-- Chunk k of the window is GRANTED: the granted chunks are the last `granted` before NEXT_GRANT, in ring order. -/
def chunkGranted (d : Dev) (s i k : Nat) : Bool :=
  let n := winChunks d s i
  decide (k < n) && decide ((winNext d s i + n - 1 - k) % n < winGranted d s i)

/-- Words [a, a + n) lie in GRANTED chunks of the window. -/
def wordsGranted (d : Dev) (s i a n : Nat) : Bool :=
  winEn d s i && decide (winBase d s i ≤ a) &&
    (List.range n).all fun k => chunkGranted d s i ((a + k - winBase d s i) / 64)

/-- GRANT's credit message arrives at the writer (R127 step 2): the geometry is recorded and the credits added; a new
geometry starts the ring at its first chunk (DESIGN CHOICE, unsafe: notes/assumptions/127.md). -/
def nbrGrant (s : Nat) (p : Packet) (d : Dev) : Dev :=
  ifFresh s p d fun d =>
    let i := facing p.aux
    let geo := w32 (p.par.getD 0 0 + p.par.getD 1 0 * 2 ^ 24)
    let w := d.rd (TILE_OUTWIN_STATE s i)
    let next := if bitOf w 31 && decide (d.rd (TILE_OUTWIN_BASE s i) = geo) then fld w 23 16 else 0
    (d.wr (TILE_OUTWIN_BASE s i) geo).wrN (TILE_OUTWIN_STATE s i) (min 256 (fld w 8 0 + p.par.getD 2 0) + next * 2 ^ 16 + 2 ^ 31)

/-- A store packet (R127 step 5, R129). -/
def nbrWr (s : Nat) (p : Packet) (d : Dev) : Dev :=
  ifFresh s p d fun d =>
    let i := facing p.aux
    if wordsGranted d s i p.addr p.data.length then d.modTile s fun t => t.wrN p.addr p.data
    else
      let d := tileFlag s flWinViol (d.bump (TILE_WIN_DROP_COUNT s))
      let d := engineStopRecord s 6 (rvRef d s) d
      (sendNbr s i { vc := 3, typ := 7, dest := p.src, destGen := p.srcGen } none d).1

/-- A store's completion (R127 step 6): chunks return to IDLE and the window's class fills (DEDUCED, unsafe: notes/assumptions/41.md). -/
def nbrDone (s : Nat) (p : Packet) (d : Dev) : Dev :=
  ifFresh s p d fun d =>
    let i := facing p.aux
    let k := p.par.getD 1 0
    let addr := winBase d s i + 64 * p.par.getD 0 0
    if winEn d s i then
      let d := setWin s i (winGranted d s i - k) (winNext d s i) d
      match tokFill s (d.rdF (TILE_WIN_CFG s i) 27 24) { addr, len := 64 * k, src := p.src, poison := p.poison } d with
      | (d', true) => d'
      | (_, false) => rqOverflow s 6 d
    else d

/-- An instruction in progress aborts while its engine goes on (R115) (DEDUCED, unsafe: notes/assumptions/41.md). -/
def abortRun (s e : Nat) (d : Dev) : Dev :=
  let x := (d.tile s).engine e
  match x.run with
  | some r =>
    dropRun s e false r d
  | none => d

/-- A refusal reaches the writer (R129): its store in that direction aborts (DEDUCED, unsafe: notes/assumptions/40.md). -/
def nbrRefuse (s : Nat) (p : Packet) (d : Dev) : Dev :=
  ifFresh s p d fun d =>
    match ((d.tile s).engine 4).run with
    | some r => if r.q.ins.opcode = 0x51 ∧ r.q.ins.f 31 30 = facing p.aux then abortRun s 4 d else d
    | none => d

/-! ### Neighbour loads (R123, R124) -/

/-- NS serves a load request: whole lines return, in packets of at most 64 flits. -/
def nbrRd (s : Nat) (p : Packet) (d : Dev) : Dev :=
  ifFresh s p d fun d =>
    let n := 4 * p.par.getD 0 0
    let d := badReads s none (badWords (d.tile s) [(p.addr, n)]) d
    (List.range ((n + 511) / 512)).foldl (fun d k =>
      let m := min 512 (n - 512 * k)
      let bad := ((d.tile s).badIn (p.addr + 512 * k) m).isSome
      let data := (d.tile s).rdN (p.addr + 512 * k) m
      (sendNbr s (facing p.aux)
        { vc := 3, typ := 3, dest := p.src, destGen := p.srcGen, addr := p.par.getD 1 0 + 512 * k, poison := bad, data } none d).1) d

/-- Load data arrives (R124): it is written for the load in progress. -/
def nbrResp (s : Nat) (p : Packet) (d : Dev) : Dev :=
  ifFresh s p d fun d =>
    match ((d.tile s).engine 1).run with
    | some r =>
      if r.q.ins.opcode = 0x21 ∧ 0 < r.left then
        let d := d.modTile s fun t => t.wrN p.addr p.data
        d.modEngine s 1 fun e => { e with run := some { r with
          left := r.left - 1, finished := decide (r.left = 1), out := { r.out with poison := r.out.poison || p.poison } } }
      else d
    | none => d

/-- A request unanswered for 4,096 cycles (R131). -/
def nbrTimeout (s : Nat) (d : Dev) : Dev :=
  match ((d.tile s).engine 1).run with
  | some r => if r.q.ins.opcode = 0x21 ∧ 0 < r.left then stopEngine s 1 (some flNbrTimeout) true d else d
  | none => d

/-! ### Messages (R132 to R136) -/

def rqEn (d : Dev) (s q : Nat) : Bool := bitOf (d.rd (TILE_RQ_CFG s q)) 31
def rqSlots (d : Dev) (s q : Nat) : Nat := d.rdF (TILE_RQ_CFG s q) 15 8 + 1
def rqSlotLen (d : Dev) (s q : Nat) : Nat := 8 * (d.rdF (TILE_RQ_CFG s q) 5 0 + 1)
def rqHead (d : Dev) (s q : Nat) : Nat := d.rdF (TILE_RQ_PTR s q) 7 0
def rqTail (d : Dev) (s q : Nat) : Nat := d.rdF (TILE_RQ_PTR s q) 15 8
def rqOcc (d : Dev) (s q : Nat) : Nat := d.rdF (TILE_RQ_PTR s q) 24 16
def setRq (s q head tail occ : Nat) (d : Dev) : Dev := d.wrN (TILE_RQ_PTR s q) (head + tail * 2 ^ 8 + occ * 2 ^ 16)

/-- A message arrives at its receive queue (R134, R136). AUX holds the queue; the first parameter is the sender's credit
entry (DEDUCED, unsafe: notes/assumptions/40.md). -/
def msgArrive (s : Nat) (p : Packet) (d : Dev) : Dev :=
  let q := p.aux % 8
  let slot := d.rdF (TILE_RQ_BASE s q) 20 0 + rqSlotLen d s q * rqTail d s q
  if rqEn d s q && decide (rqOcc d s q < rqSlots d s q) && decide (p.data.length ≤ rqSlotLen d s q) then
    match tokFill s (d.rdF (TILE_RQ_CFG s q) 19 16) { addr := slot, len := p.data.length, src := p.src, poison := p.poison } d with
    | (d', true) =>
      let d' := d'.modTile s fun t => { (t.wrN slot p.data) with
        slots := kvSetD t.slots [] q (kvGetD t.slots [] q ++ [(p.src, p.srcGen, p.par.getD 0 0)]) }
      setRq s q (rqHead d s q) ((rqTail d s q + 1) % rqSlots d s q) (rqOcc d s q + 1) d'
    | (_, false) => rqOverflow s 5 d
  else rqOverflow s 5 d

/-- A credit return adds one credit to the named entry (R135, R136) (DESIGN CHOICE, unsafe: notes/assumptions/127.md; DESIGN CHOICE, unsafe: notes/assumptions/128.md). -/
def creditArrive (s : Nat) (p : Packet) (d : Dev) : Dev :=
  let k := p.aux
  let st := d.rd (TILE_SCRED_STATE s k)
  if bitOf st 31 && d.rdF (TILE_SCRED_DEST s k) 31 24 == p.srcGen then
    d.wr (TILE_SCRED_STATE s k) (setFld st 8 0 (min 256 (fld st 8 0 + 1)))
  else staleDrop s p d

/-! ### Broadcast trees (R288, R289) -/

/-! Trees 0 to 3: Pewter's firmware chooses their shape within the bounds of R288. -/

/-- Fields under quarantine (13_faults_recovery.md R507). -/
def quarantines (d : Dev) : List Nat := below 12 fun f => bitOf (d.rd (FIELD_HEALTH f)) 4

def treeChoice (d : Dev) (tree node : Nat) : Nat := Config.pewterTree d.fab.regions (quarantines d) node tree

/-- The root of a tree: an attach router of Pewter's port (R307). -/
def treeRoot (d : Dev) (tree : Nat) : Nat := siteAt (32 + treeChoice d tree 13824 % 32) 0

/-- A router lies on a tree: every working one of the die, of the channel, or of the unquarantined fields; others may. -/
def onTree (d : Dev) (tree site : Nat) : Bool :=
  !routerFenced d site && (site == treeRoot d tree || (treeChoice d tree site).testBit 0 ||
    (match tree with
    | 0 => true
    | 1 => siteChannel site == 0
    | 2 => siteChannel site == 1
    | _ => !(quarantines d).isEmpty) && !(tree == 3 && (quarantines d).contains (siteField site)))

/-- The one port on which a router receives a tree. -/
def treeIn (d : Dev) (tree site : Nat) : Nat :=
  if site = treeRoot d tree then 0
  else (((List.range 4).map fun k => 1 + (treeChoice d tree site / 2 + k) % 4).find? fun c =>
    match neighbour site c with | some n => onTree d tree n | none => false).getD 1

/-- The ports on which a router sends a tree on: to the routers that receive it there; at an edge and at the local port as
the firmware chooses. -/
def treeOut (d : Dev) (tree site : Nat) : Nat :=
  ((List.range 5).map fun c => 2 ^ c * b2n (match neighbour site c with
    | some n => onTree d tree n && n != treeRoot d tree && treeIn d tree n == opposite c
    | none => (treeChoice d tree site).testBit (8 + c))).sum

/-- An entry of trees 0 to 3 as Pewter's firmware built it (R288). -/
def pewterBc (d : Dev) (k : Nat) : Word :=
  let site := k / 128
  let tree := k / 2 % 64
  if tree < 4 ∧ d.up ∧ onTree d tree site then
    if k % 2 = 0 then w32 (1 + treeIn d tree site * 2 + treeOut d tree site * 2 ^ 4) else w32 (treeChoice d tree (site + 16384) % 2 ^ 25)
  else 0

def bcWord (d : Dev) (k : Nat) : Word := (kvGet? d.fab.bc k).getD (pewterBc d k)
def bcEntry (d : Dev) (site tree w : Nat) : Word := bcWord d (2 * (64 * site + tree) + w)
def redEntry (d : Dev) (site id w : Nat) : Word := kvGetD d.fab.red 0 (4 * (256 * site + id) + w)

/-- A delivery or root result at a router's local port: to the tile, or to the spare that serves it (R296) (DEDUCED, unsafe: notes/assumptions/57.md). -/
def localOut (site mode redirect base cls : Nat) (p : Packet) (d : Dev) : Dev :=
  if mode = 1 then
    d.modFab fun x => { x with net := x.net ++
      [{ pkt := { p with vc := 2, typ := 9, redirect := true, destSite := redirect, par := [base, cls] }, site, port := 0 }] }
  else if d.tileFenced site then routerRecord site 0x05 (p.stale 1) (dropCount site 3 p d)
  else rvLand site base cls p.src p.data p.poison d

/-- A broadcast packet at a router's input (R289); a fenced router's entries are unused (R310) (DESIGN CHOICE, safe: notes/assumptions/110.md). -/
def bcastStep (site port : Nat) (d : Dev) : Dev :=
  match takeFirst (fun fl => fl.site == site && fl.port == port && fl.pkt.typ == 9 && !isUnicast fl.pkt) d.fab.net with
  | none => d
  | some (fl, rest) =>
    let p := fl.pkt
    let e := bcEntry d site p.dest 0
    let d0 := d.modFab fun x => { x with net := rest }
    if routerFenced d site then d
    else if upstreamFenced d site port then
      routerRecord site 0x05 (p.stale 2) (dropCount site 4 p d0)
    else if !bitOf e 0 || fld e 3 1 != port then routerRecord site 0x0B p.word0 d0
    else
      let outs := [1, 2, 3, 4].filter fun c => bitOf e (4 + c)
      let blocked := outs.any fun c => match neighbour site c with
        | some n => !hopOpen d site n && !(d.chanMode != 0 && siteChannel site != siteChannel n)
        | none => false
      if blocked then d
      else
        let d1 := outs.foldl (fun d c => (hop fl c none d).getD d) d0
        if bitOf e 4 then
          selDeliver site p.dest p.data
            (localOut site (fld e 10 9) (fld e 24 11) (fld (bcEntry d site p.dest 1) 20 0) (fld (bcEntry d site p.dest 1) 24 21) p d1)
        else d1

/-! ### Reduction (R291 to R301) -/

def redOp (e0 : Word) : Nat := fld e0 4 1
def redMask (e0 : Word) : List Nat := below 5 fun c => bitOf e0 (5 + c)
def redOrder (e0 : Word) : List Nat := ((List.range 5).map fun k => fld e0 (12 + 3 * k) (10 + 3 * k)).takeWhile (· != 7)

/-- Two halves of a word, each combined. -/
def halves (f : Nat → Nat → Nat) (a b : Word) : Word :=
  w32 (f (a.toNat % 65536) (b.toNat % 65536) + 65536 * f (a.toNat / 65536) (b.toNat / 65536))
def whole (f : Nat → Nat → Nat) (a b : Word) : Word := w32 (f a.toNat b.toNat)

/-- The combining step of an operation on one word (R293). -/
def redStep (op : Nat) : Word → Word → Word :=
  match op with
  | 0 => whole (addF .fp32)
  | 1 => halves (addF .bf16)
  | 2 => whole addI32
  | 3 => whole (maxF .fp32)
  | 4 => whole (minF .fp32)
  | 5 => halves (maxF .bf16)
  | 6 => halves (minF .bf16)
  | 7 => fun a b => if toSigned 32 a.toNat < toSigned 32 b.toNat then b else a
  | _ => fun a b => if toSigned 32 b.toNat < toSigned 32 a.toNat then b else a

/-- rank_key of R297. -/
def rankKey (k : Nat) : Int :=
  let mag : Nat := k % 2 ^ 31
  if 0x7F800000 < mag then -(2 ^ 40 : Int) else if mag = 0 then (0 : Int) else if 2 ^ 31 ≤ k then -(mag : Int) else (mag : Int)

/-- a ranks before b (R297). -/
def topBefore (a b : Nat × Nat) : Bool :=
  let ra := rankKey a.1
  let rb := rankKey b.1
  if ra ≠ rb then decide (rb < ra) else decide (a.2 < b.2)

/-- merge2 of R297; the fuel is k. -/
def topMerge : Nat → List (Nat × Nat) → List (Nat × Nat) → List (Nat × Nat)
  | 0, _, _ => []
  | _, [], [] => []
  | k + 1, a :: as, [] => a :: topMerge k as []
  | k + 1, [], b :: bs => b :: topMerge k [] bs
  | k + 1, a :: as, b :: bs => if topBefore b a then b :: topMerge k (a :: as) bs else a :: topMerge k as (b :: bs)

def entriesOf (ws : List Word) : List (Nat × Nat) :=
  (chunksOf 2 ws.length ws).map fun c => ((c.getD 0 0).toNat, (c.getD 1 0).toNat)
def wordsOf (es : List (Nat × Nat)) : List Word :=
  es.flatMap fun e => [w32 (if 0x7F800000 < e.1 % 2 ^ 31 then 0x7FC00000 else e.1), w32 e.2]

/-- The fold of an instance's inputs in ORDER (R295, R297). -/
def redFold (op k : Nat) : List (List Word) → List Word
  | [] => []
  | x :: t =>
    if op = 9 then wordsOf (t.foldl (fun r y => topMerge k r (entriesOf y)) ((entriesOf x).take k))
    else t.foldl (fun r y => (r.zip y).map fun e => redStep op e.1 e.2) x

/-- Lengths that cannot be combined (R298). -/
def redBad (op : Nat) (ins : List (List Word)) : Bool :=
  if op = 9 then ins.any fun x => x.length % 2 == 1
  else match ins with
    | [] => false
    | x :: t => t.any fun y => y.length != x.length

/-- The seam on the way of an instance's output lets flits in; else the output waits (R305, R306). -/
def redOpen (d : Dev) (site id : Nat) : Bool :=
  match neighbour site (fld (redEntry d site id 0) 27 25) with
  | some n => hopOpen d site n || (d.chanMode != 0 && siteChannel site != siteChannel n)
  | none => true

/-- The output of an instance leaves its router (R294) (DESIGN CHOICE, safe: notes/assumptions/110.md). -/
def redOut (site id : Nat) (words : List Word) (poison : Bool) (d : Dev) : Dev :=
  let e0 := redEntry d site id 0
  let e1 := redEntry d site id 1
  let p : Packet := { vc := 1, typ := 8, dest := id, addr := words.length, data := words, poison, src := d.tileId site }
  let out := fld e0 27 25
  if out ≠ 0 then (hop { pkt := p, site, port := 0 } out none d).getD d
  else
    let d := if bitOf (d.rd SPUR_PX_CFG) 0 && d.rdF SPUR_PX_CFG 15 8 == id && d.tileBound site && d.tileId site == d.rdF SPUR_PX_TILE 13 0
      then d.modFab fun x => { x with pxResults := x.pxResults ++ [(words.getD 0 0).toNat] } else d
    if bitOf e1 31 then
      d.modFab fun x => { x with net := x.net ++ [{ pkt := { p with vc := 2, typ := 9, dest := fld e1 30 25 }, site, port := 0 }] }
    else localOut site (fld e0 29 28) (fld (redEntry d site id 2) 21 8) (fld e1 20 0) (fld e1 24 21) p d

/-- A completed instance is folded and sent (R295 to R298). -/
def redComplete (r : RedInst) (d : Dev) : Dev :=
  let e0 := redEntry d r.site r.id 0
  let ins := (redOrder e0).filterMap fun c => kvGet? r.inputs c
  let words := ins.map (·.1)
  let poison := ins.any (·.2)
  let d := d.modFab fun x => { x with insts := x.insts.filter fun y => !(y.site == r.site && y.id == r.id && y.n == r.n) }
  if redBad (redOp e0) words then
    let d := d.bump (FIELD_RED_MISMATCH_COUNT (siteField r.site))
    let d := routerRecord r.site 0x0E (r.id + 2 ^ 16) d
    redOut r.site r.id (((words.getD 0 []).map fun _ => (0 : Word))) true d
  else redOut r.site r.id (redFold (redOp e0) (fld (redEntry d r.site r.id 2) 7 0 + 1) words) poison d

/-- A contribution arrives at a router (R294, R300). -/
def redArrive (site port : Nat) (d : Dev) : Dev :=
  match takeFirst (fun fl => fl.site == site && fl.port == port && fl.pkt.typ == 8 && !isUnicast fl.pkt) d.fab.net with
  | none => d
  | some (fl, rest) =>
    let p := fl.pkt
    let d0 := d.modFab fun x => { x with net := rest }
    let e0 := redEntry d site p.dest 0
    let key := 8 * (256 * site + p.dest) + port
    let n := kvGetD d.fab.redCount 0 key
    let same : RedInst → Bool := fun r => r.site == site && r.id == p.dest && r.n == n
    if routerFenced d site then d
    else if upstreamFenced d site port then
      routerRecord site 0x05 (p.stale 2) (dropCount site 4 p d0)
    else if !bitOf e0 0 || !(redMask e0).contains port then
      routerRecord site 0x0B p.word0 (d0.bump (FIELD_RED_MISMATCH_COUNT (siteField site)))
    else
      match d.fab.insts.find? same with
      | some r =>
        let r := { r with inputs := kvPut r.inputs port (p.data, p.poison) }
        let d1 := d0.modFab fun x => { x with
          redCount := kvPut x.redCount key (n + 1), insts := x.insts.map fun y => if same y then r else y }
        if (redMask e0).all fun c => (kvGet? r.inputs c).isSome then
          if !r.dead && !redOpen d site p.dest then d
          else if r.dead then d1.modFab fun x => { x with insts := x.insts.filter fun y => !same y } else redComplete r d1
        else d1
      | none =>
        if 16 ≤ (d.fab.insts.filter fun r => r.site == site && !r.dead).length then d
        else
          let r : RedInst := { site, id := p.dest, n, inputs := [(port, (p.data, p.poison))], first := port }
          let d1 := d0.modFab fun x => { x with redCount := kvPut x.redCount key (n + 1), insts := x.insts ++ [r] }
          if (redMask e0).all fun c => (kvGet? r.inputs c).isSome then (if redOpen d site p.dest then redComplete r d1 else d) else d1

/-- The oldest live instance of an ID at a router is aborted (R299). -/
def redTimeout (site id : Nat) (d : Dev) : Dev :=
  match d.fab.insts.find? (fun r => r.site == site && r.id == id && !r.dead) with
  | none => d
  | some r =>
    if routerFenced d site || !redOpen d site id then d else
    let miss := ((redMask (redEntry d site id 0)).filter fun c => (kvGet? r.inputs c).isNone).foldl (fun m c => m + 2 ^ c) 0
    let d := d.modFab fun x => { x with insts := x.insts.map fun y =>
      if y.site == site && y.id == id && y.n == r.n then { y with dead := true } else y }
    let d := d.bump (FIELD_RED_ABORT_COUNT (siteField site))
    let d := routerRecord site 0x0E (id + miss * 2 ^ 8) d
    redOut site id (((kvGetD r.inputs ([], false) r.first).1).map fun _ => (0 : Word)) true d

/-! ### Commands -/

/-- BINDING_UPDATE (R122). -/
def execBindingUpdate (site : Nat) (s : State) : Result := guardUnit (unitSite site) (onMesh (siteField site) (bindingUpdate site) s)
/-- NBR_GRANT (R127). -/
def execNbrGrant (site : Nat) (s : State) : Result := guardUnit (unitSite site) (onMesh (siteField site) (fun d => takeLanded site 5 d (nbrGrant site)) s)
/-- NBR_WR (R127). -/
def execNbrWr (site : Nat) (s : State) : Result := guardUnit (unitSite site) (onMesh (siteField site) (fun d => takeLanded site 4 d (nbrWr site)) s)
/-- NBR_DONE (R127). -/
def execNbrDone (site : Nat) (s : State) : Result := guardUnit (unitSite site) (onMesh (siteField site) (fun d => takeLanded site 6 d (nbrDone site)) s)
/-- NBR_REFUSE (R129). -/
def execNbrRefuse (site : Nat) (s : State) : Result := guardUnit (unitSite site) (onMesh (siteField site) (fun d => takeLanded site 7 d (nbrRefuse site)) s)
/-- NBR_RD (R123). -/
def execNbrRd (site : Nat) (s : State) : Result := guardUnit (unitSite site) (onMesh (siteField site) (fun d => takeLanded site 2 d (nbrRd site)) s)
/-- NBR_RESP (R124). -/
def execNbrResp (site : Nat) (s : State) : Result := guardUnit (unitSite site) (onMesh (siteField site) (fun d => takeLanded site 3 d (nbrResp site)) s)
/-- NBR_TIMEOUT (R131). -/
def execNbrTimeout (site : Nat) (s : State) : Result := guardUnit (unitSite site) (onMesh (siteField site) (nbrTimeout site) s)
/-- MSG (R134). -/
def execMsgArrival (site : Nat) (s : State) : Result := guardUnit (unitSite site) (onMesh (siteField site) (fun d => takeLanded site 0 d (msgArrive site)) s)
/-- CREDIT (R135). -/
def execCreditArrival (site : Nat) (s : State) : Result := guardUnit (unitSite site) (onMesh (siteField site) (fun d => takeLanded site 1 d (creditArrive site)) s)
/-- BCAST (R289). -/
def execBcastArrival (site port : Nat) (s : State) : Result := guardUnit (unitSite site) (onMesh (siteField site) (bcastStep site port) s)
/-- RED (R294). -/
def execRedArrival (site port : Nat) (s : State) : Result := guardUnit (unitSite site) (onMesh (siteField site) (redArrive site port) s)
/-- RED_TIMEOUT (R299). -/
def execRedTimeout (site id : Nat) (s : State) : Result := guardUnit (unitSite site) (onMesh (siteField site) (redTimeout site id) s)

end Sys2Proof.Machine
end

