-- ==== Sys2Proof/Machine/Matrix.lean ====
section
/-! DEFINITION. The matrix unit (04_matrix_unit.md): descriptors, folding, passes, preload, drain, checksums. -/

namespace Sys2Proof.Machine

/-! ### The descriptor (R156, R158) -/

abbrev MxDesc := List Word

def dsc (m : MxDesc) (i hi lo : Nat) : Nat := fld (m.getD i 0) hi lo
def mxM (m : MxDesc) : Nat := dsc m 0 10 0 + 1
def mxN (m : MxDesc) : Nat := dsc m 0 26 16 + 1
def mxG (m : MxDesc) : Nat := dsc m 1 10 0 + 1
def mxTail (m : MxDesc) : Nat := dsc m 1 15 11
def mxK (m : MxDesc) : Nat := 32 * (mxG m - 1) + (if mxTail m = 0 then 32 else mxTail m)
def mxVec (m : MxDesc) : Bool := dsc m 1 16 16 == 1
def mxBank0 (m : MxDesc) : Nat := dsc m 1 17 17
def mxPre (m : MxDesc) : Nat := dsc m 1 19 18
def mxFmt (m : MxDesc) (k : Nat) : Fmt := (fmtOf (dsc m 2 (4 * k + 3) (4 * k))).getD .fp32
def mxA (m : MxDesc) : Fmt := mxFmt m 0
def mxB (m : MxDesc) : Fmt := mxFmt m 1
def mxOut (m : MxDesc) : Fmt := mxFmt m 2
def mxPreFmt (m : MxDesc) : Fmt := mxFmt m 3
def mxRound (m : MxDesc) : Nat := dsc m 2 17 16
def mxNan (m : MxDesc) : Bool := dsc m 2 18 18 == 1
def mxTol (m : MxDesc) : Nat := dsc m 2 28 24
def mxBase (m : MxDesc) (i : Nat) : Nat := dsc m i 20 0
def mxAStride (m : MxDesc) : Nat := dsc m 9 15 0
def mxBStride (m : MxDesc) : Nat := dsc m 9 31 16
def mxCStride (m : MxDesc) : Nat := dsc m 10 15 0
def mxPStride (m : MxDesc) : Nat := dsc m 10 31 16
/-- An integer pass: both operands INT8 (R151). -/
def mxInt (m : MxDesc) : Bool := mxA m == .int8 && mxB m == .int8
/-- L of R157: lines of one scale row. -/
def mxScaleLines (m : MxDesc) : Nat := (mxG m + 15) / 16
def mxPreUsed (m : MxDesc) : Bool := mxPre m == 1 || mxPre m == 2

/-- An operand format (R150). -/
def operandFmt (c : Nat) : Bool := match fmtOf c with
  | none => false
  | some f => f != .fp32 && f != .int32

/-- A bit set that must be 0 (R156) (DEDUCED, unsafe: notes/assumptions/111.md). -/
def mxUnnamed (m : MxDesc) : Bool :=
  let ok := fun i (mask : Nat) => (m.getD i 0).toNat &&& mask == 0
  !(ok 0 0xF800F800 && ok 1 0xFFF00000 && ok 2 0xE0F80000 && ok 11 0xFFFF0000 &&
    [3, 4, 5, 6, 7, 8].all fun i => ok i 0xFFE00000)

/-- An illegal descriptor (R158), at a descriptor address, for MXM or MXF. A field that the pass does not use is not checked,
a stride as little as the others: PRE_STRIDE serves RESIDUAL rows alone, A_STRIDE and C_STRIDE the rows of matrix-matrix
mode (DEDUCED, unsafe: notes/assumptions/111.md). -/
def mxIllegal (m : MxDesc) (mxf : Bool) (addr : Nat) : Bool :=
  let out := mxOut m
  let oc := dsc m 2 11 8
  let pc := dsc m 2 15 12
  mxUnnamed m || !operandFmt (dsc m 2 3 0) || !operandFmt (dsc m 2 7 4) ||
  !(if mxInt m then oc == 0xC || oc == 5 else decide (oc ≤ 4)) || out == .fp32 && oc != 0 ||
  (mxPreUsed m && !(if mxInt m then pc == 0xC else pc == 0 || pc == 1)) ||
  (mxTail m != 0 && ((mxA m).isMx || (mxB m).isMx)) ||
  (mxVec m && mxM m != 1) ||
  mxBStride m == 0 || (!mxVec m && (mxAStride m == 0 || mxCStride m == 0)) ||
  (mxPre m == 2 && !mxVec m && mxPStride m == 0) ||
  [3, 4, 5].any (fun i => mxBase m i % 4 != 0) || (mxPreUsed m && mxBase m 6 % 4 != 0) ||
  ((mxA m).isMx && mxBase m 7 % 4 != 0) || ((mxB m).isMx && mxBase m 8 % 4 != 0) ||
  addr % 4 != 0 || mxRound m == 3 || decide (23 < mxTol m) ||
  (!mxf && (mxPre m == 3 || dsc m 11 15 0 != 0))

/-! ### Where the data lies (R157, R169) -/

def opWords (f : Fmt) (k : Nat) : Nat := (f.bits * k + 31) / 32
def outBytes (f : Fmt) : Nat := f.bits / 8

/-- Address and length of the row operand i, of the column operand n, of scale row i. -/
def aRange (m : MxDesc) (i : Nat) : Nat × Nat := (mxBase m 3 + 4 * i * mxAStride m, opWords (mxA m) (mxK m))
def bRange (m : MxDesc) (n : Nat) : Nat × Nat := (mxBase m 4 + 4 * n * mxBStride m, opWords (mxB m) (mxK m))
def asRange (m : MxDesc) (i : Nat) : Nat × Nat := (mxBase m 7 + 4 * i * mxScaleLines m, (mxG m + 3) / 4)
def bsRange (m : MxDesc) (n : Nat) : Nat × Nat := (mxBase m 8 + 4 * n * mxScaleLines m, (mxG m + 3) / 4)

/-- The ranges of operands and scales of rows and outputs. -/
def operandRanges (m : MxDesc) (rows cols : List Nat) : List (Nat × Nat) :=
  rows.map (aRange m) ++ cols.map (bRange m) ++
  (if (mxA m).isMx then rows.map (asRange m) else []) ++ (if (mxB m).isMx then cols.map (bsRange m) else [])

/-- Where the bias or residual values of a row lie: row i, columns from c, n of them. -/
def preRange (m : MxDesc) (i c n : Nat) : Nat × Nat :=
  let b := (mxPreFmt m).bits
  let base := mxBase m 6 + (if mxPre m = 2 ∧ !mxVec m then 4 * i * mxPStride m else 0)
  (base + b * c / 32, (b * n + 31) / 32)

/-- Where the output row i lies from column c, n of them (R157); in matrix-vector mode from output c. -/
def outRange (m : MxDesc) (i c n : Nat) : Nat × Nat :=
  let b := (mxOut m).bits
  (mxBase m 5 + (if mxVec m then 0 else 4 * i * mxCStride m) + b * c / 32, (b * n + 31) / 32)

/-- Every range the instruction reads or writes, by its first and last rows (R159). -/
def instrRanges (m : MxDesc) : List (Nat × Nat) :=
  let lastRow := if mxVec m then 0 else mxM m - 1
  operandRanges m [lastRow] [mxN m - 1] ++
  (if mxPreUsed m then [preRange m lastRow 0 (mxN m)] else []) ++ [outRange m lastRow 0 (mxN m)]

/-- An address above 0x13_FFFF (R159). -/
def rangesBad (rs : List (Nat × Nat)) : Bool := rs.any fun r => decide (spadWords < r.1 + r.2)

/-! ### Folding (R161, R169) -/

def mkPass (m : MxDesc) (bank mb nb entry : Nat) : MxPass := { bank := bank % 2, mb, nb, desc := m, entry }

/-- The passes of an MXM in order (R161, R169). -/
def mxFold (m : MxDesc) : List MxPass :=
  if mxVec m then (List.range ((mxN m + 1023) / 1024)).map fun p => mkPass m (mxBank0 m + p) 0 p 0
  else
    let mbs := (mxM m + 31) / 32
    (List.range ((mxN m + 31) / 32 * mbs)).map fun p => mkPass m (mxBank0 m + p) (p % mbs) (p / mbs) 0

/-- Rows and columns of a pass that carry outputs. -/
def passRows (p : MxPass) : Nat := if mxVec p.desc then 32 else min 32 (mxM p.desc - 32 * p.mb)
def passCols (p : MxPass) : Nat := if mxVec p.desc then 32 else min 32 (mxN p.desc - 32 * p.nb)
/-- Output number of a cell in matrix-vector mode. -/
def vecOut (p : MxPass) (i j : Nat) : Nat := 1024 * p.nb + 32 * i + j
/-- The cell carries an output. -/
def cellActive (p : MxPass) (i j : Nat) : Bool :=
  if mxVec p.desc then decide (vecOut p i j < mxN p.desc) else decide (i < passRows p ∧ j < passCols p)

/-! ### Operand values -/

/-- The k elements of an operand row, scales applied (05_number_formats.md R186 to R189) (DEDUCED, unsafe: notes/assumptions/50.md). -/
def opValues (t : Tile) (f : Fmt) (k : Nat) (at_ sc : Nat × Nat) : List FVal :=
  let num := wordsNum (t.rdN at_.1 at_.2)
  let scs := wordsNum (t.rdN sc.1 sc.2)
  (List.range k).map fun e =>
    let v := decodeF f (elemAt f.bits num e)
    if f.isMx then scaled (elemAt 8 scs (e / 32)) v else v

def aVals (t : Tile) (m : MxDesc) (i : Nat) : List FVal := opValues t (mxA m) (mxK m) (aRange m i) (asRange m i)
def bVals (t : Tile) (m : MxDesc) (n : Nat) : List FVal := opValues t (mxB m) (mxK m) (bRange m n) (bsRange m n)

/-- Row and column numbers that a pass reads. -/
def passARows (p : MxPass) : List Nat := if mxVec p.desc then [0] else (List.range (passRows p)).map (32 * p.mb + ·)
def passBCols (p : MxPass) : List Nat :=
  if mxVec p.desc then below 1024 (fun c => decide (1024 * p.nb + c < mxN p.desc)) |>.map (1024 * p.nb + ·)
  else (List.range (passCols p)).map (32 * p.nb + ·)

/-- Operands of a cell. -/
def cellOps (p : MxPass) (as bs : List (List FVal)) (i j : Nat) : List FVal × List FVal :=
  if mxVec p.desc then (as.getD 0 [], bs.getD (32 * i + j) []) else (as.getD i [], bs.getD j [])

/-- The bias or residual value of a cell, widened (R162). -/
def preValue (t : Tile) (p : MxPass) (i j : Nat) : Nat :=
  let m := p.desc
  let b := (mxPreFmt m).bits
  let n := if mxVec m then vecOut p i j else 32 * p.nb + j
  let base := 32 * (mxBase m 6 + (if mxPre m = 2 ∧ !mxVec m then 4 * (32 * p.mb + i) * mxPStride m else 0)) + b * n
  let v := ((t.rd (base / 32)).toNat >>> (base % 32)) % 2 ^ b
  if b = 16 then v * 65536 else v

/-- The word a cell starts from (R162). -/
def preWord (t : Tile) (p : MxPass) (i j : Nat) : Nat :=
  if mxPre p.desc = 3 then (kvGetD t.mx.acc 0 (1024 * p.bank + 32 * i + j)).toNat
  else if mxPreUsed p.desc && cellActive p i j then preValue t p i j else 0

/-! ### Accumulation (R152) -/

/-- The integer value of a finite value without exponent. -/
def intVal : FVal → Int
  | .fin s m _ => if s then -(m : Int) else m
  | _ => 0

/-- One group into an accumulator word; the mark stays once set. -/
def accGroup (int : Bool) (r : Nat × Bool) (prods : List FVal) : Nat × Bool :=
  let x := if int then accI r.1 ((prods.map intVal).sum) else accF r.1 (FVal.sum prods)
  (x.1, r.2 || x.2)

/-- A cell's word after the whole k range, groups ascending. -/
def cellRun (int : Bool) (init : Nat) (a b : List FVal) : Nat × Bool :=
  (chunksOf 32 a.length ((a.zip b).map fun e => e.1.mul e.2)).foldl (accGroup int) (init, false)

/-! ### Check cells (R174) -/

/-- The sum of words as the check cells form it: 48-bit integers, or exact and rounded once to FP32. -/
def wordSum (int : Bool) (ws : List Nat) : Nat :=
  if int then ofSigned 48 ((ws.map fun w => toSigned 32 w).sum) else toF32 (FVal.sum (ws.map f32))

/-- A check cell over the k range: the common operand and, for each k, the sum of the other operands. -/
def chkRun (int : Bool) (init : Nat) (common : List FVal) (others : List (List FVal)) : Nat :=
  common.zipIdx.foldl (fun c e =>
    let os := others.map fun o => o.getD e.2 (.fin false 0 0)
    if int then ofSigned 48 (toSigned 48 c + intVal e.1 * (os.map intVal).sum) else chkF c e.1 (toF32 (FVal.sum os))) init

/-! ### A pass starts (R153, R155, R162 to R164, R171) -/

/-- The array wakes, with the ramp one row first (R171, R172). -/
def arrayWake (s : Nat) (d : Dev) : Dev :=
  if (d.tile s).mx.awake then d
  else
    let f := siteField s
    let ramp := bitOf (d.rd (FIELD_MX_CTRL f)) 0
    let d := if ramp then d.bump (FIELD_MX_RAMP_COUNT f) else d
    d.modTile s fun t => { t with mx := { t.mx with awake := true, rows := if ramp then 1 else 32 } }

/-- A slip or a hold voids the step of an Ibex slice of its field (R165, R182, 13_faults_recovery.md R509) (DEDUCED, unsafe: notes/assumptions/76.md). -/
def ibexVoid (f : Nat) (d : Dev) : Dev :=
  { d with flt := { d.flt with ibexRun := d.flt.ibexRun.map fun r => if r.field = f then { r with slipped := true } else r } }

/-- Preload and streaming of a pass, on the words it has read: the bank's new words, the pass with its marks and check words (DEDUCED, unsafe: notes/assumptions/50.md). -/
def passRun (t : Tile) (chk : Bool) (p : MxPass) : KV Word × MxPass :=
  let m := p.desc
  let int := mxInt m
  let as := (passARows p).map (aVals t m)
  let bs := (passBCols p).map (bVals t m)
  let cells := (List.range 1024).map fun c => (c / 32, c % 32)
  let pre := cells.map fun c => preWord t p c.1 c.2
  let res := (cells.zip pre).map fun e =>
    if cellActive p e.1.1 e.1.2 then
      let ops := cellOps p as bs e.1.1 e.1.2
      cellRun int e.2 ops.1 ops.2
    else (e.2, false)
  let acc := (res.zipIdx).foldl (fun a e => kvSetD a 0 (1024 * p.bank + e.2) (w32 e.1.1)) t.mx.acc
  let sat := ((res.zipIdx).filter fun e => e.1.2).map (·.2)
  let row := fun i => below 32 fun j => cellActive p i j
  let col := fun j => below 32 fun i => cellActive p i j
  let chkRow := if chk then (List.range 32).map fun i =>
      let init := wordSum int ((row i).map fun j => pre.getD (32 * i + j) 0)
      let common := if mxVec m then as.getD 0 [] else as.getD i []
      if (row i).isEmpty then 0 else chkRun int init common ((row i).map fun j => (cellOps p as bs i j).2) else []
  let chkCol := if chk then (List.range 32).map fun j =>
      let init := wordSum int ((col j).map fun i => pre.getD (32 * i + j) 0)
      if (col j).isEmpty then 0
      else if mxVec m then chkRun int init (as.getD 0 []) ((col j).map fun i => (cellOps p as bs i j).2)
      else chkRun int init (bs.getD j []) ((col j).map fun i => as.getD i []) else []
  (acc, { p with chk, sat, chkRow, chkCol })

/-- Ranges a pass reads: operands, scales, preload values. -/
def passRanges (p : MxPass) : List (Nat × Nat) :=
  let m := p.desc
  operandRanges m (passARows p) (passBCols p) ++
  (if mxPreUsed m then
    if mxVec m then [preRange m 0 (1024 * p.nb) (min 1024 (mxN m - 1024 * p.nb))]
    else (passARows p).map fun i => preRange m i (32 * p.nb) (passCols p)
  else [])

/-- The bank's token has been returned (R164). -/
def bankFree (x : MatrixUnit) (bank : Nat) : Bool := !(x.active.any fun p => p.bank == bank) && !x.dcwTokens.contains bank

/-- The words a pass reads, as they stand (DEDUCED, unsafe: notes/assumptions/50.md). -/
def passWords (t : Tile) (p : MxPass) : KV Word :=
  (passRanges p).foldl (fun k r => (List.range r.2).foldl (fun k i => kvPut k (r.1 + i) (t.rd (r.1 + i))) k) []

/-- The tile as a pass has read it (R654): of a word that another engine wrote while the pass ran, it has read the old or
the new value, word by word as `choice` says (DEDUCED, unsafe: notes/assumptions/50.md). -/
def passTile (t : Tile) (p : MxPass) (choice : Nat) : Tile :=
  { t with spad := (p.seen.zipIdx.filter fun e => !choice.testBit e.2).foldl (fun k e => kvSetD k 0 e.1.1 e.1.2) t.spad }

/-- The words that the pass in progress reads have changed since it started. -/
def passChanged (t : Tile) (p : MxPass) : Bool := p.seen.any fun e => t.rd e.1 != e.2

/-- The streaming of a pass ends: the bank holds its sums, the pass its marks and check words. Where words it reads changed
meanwhile, which it read is a free value. -/
def passEnd (s : Nat) (p : MxPass) (d : Dev) : MxPass × Dev :=
  let r := if passChanged (d.tile s) p then (passTile (d.tile s) p d.free.1, d.free.2) else (d.tile s, d)
  let x := passRun r.1 p.chk p
  (x.2, r.2.modTile s fun t => { t with mx := { t.mx with acc := x.1, rows := 32 } })

/-- A pass starts: `slip` is the number of cycles an MXF entry slipped (R165) (DEDUCED, unsafe: notes/assumptions/50.md). -/
def mxPassStart (s slip : Nat) (d : Dev) : Dev :=
  let t := d.tile s
  match ((t.engine 2).run), t.mx.plan with
  | some r, p :: rest =>
    if bankFree t.mx p.bank && decide (t.mx.active.length < 2) then
      let f := siteField s
      let d := arrayWake s d
      let mxf := r.q.ins.opcode == 0x31
      let d := if mxf && slip != 0 then
          ibexVoid f (tileRecord s 0x08 (p.entry % 65536 + min slip 0xFFFF * 65536) (some (r.q.ins.ref false)) (d.bumpBy (FIELD_MX_SLIP_COUNT f) slip))
        else d
      let (d, bad) := readPoison s r.q.ins (passRanges p) d
      let p := { p with chk := bitOf (d.rd (FIELD_MX_CTRL f)) 1, seen := passWords (d.tile s) p }
      d.modTile s fun t => { t with mx := { t.mx with plan := rest, active := t.mx.active ++ [p], poison := t.mx.poison || bad } }
    else d
  | _, _ => d

/-! ### Drain (R163, R168, R175, R176) -/

def accWord (t : Tile) (bank i j : Nat) : Nat := (kvGetD t.mx.acc 0 (1024 * bank + 32 * i + j)).toNat

/-- A drained word in OUT_FMT (R198, R200). -/
def drainWord (m : MxDesc) (w draw : Nat) : Nat :=
  match mxOut m with
  | .int32 => w
  | .int8 => satSigned 8 (toSigned 32 w)
  | f => convert f (rndOf (mxRound m) draw) (mxNan m) (f32 w)

/-- The rows a drain writes: address and the bank words of the row, in order. -/
def drainRows (t : Tile) (p : MxPass) : List (Nat × List Nat) :=
  let m := p.desc
  if mxVec m then
    let n := min 1024 (mxN m - 1024 * p.nb)
    [((outRange m 0 (1024 * p.nb) n).1, (List.range n).map fun k => accWord t p.bank (k / 32) (k % 32))]
  else (List.range (passRows p)).map fun i =>
    ((outRange m (32 * p.mb + i) (32 * p.nb) (passCols p)).1, (List.range (passCols p)).map fun j => accWord t p.bank i j)

/-- The drain of a pass into the scratchpad, consuming draws for a stochastic float drain (05_number_formats.md R205). -/
def drainWrite (t : Tile) (p : MxPass) : Tile :=
  let m := p.desc
  let stoch := mxRound m == 2 && !mxInt m
  (drainRows t p).foldl (fun t r =>
    let es := r.2.zipIdx.map fun e => drainWord m e.1 (srDraw t.mxSeed 2 ((t.mxDraw + e.2) % 2 ^ 48))
    let ws := numWords (((mxOut m).bits * es.length + 31) / 32) (packElems (mxOut m).bits es)
    let t := t.wrN r.1 ws
    if stoch then { t with mxDraw := (t.mxDraw + es.length) % 2 ^ 48 } else t) t

/-- An infinite or NaN word. -/
def special (w : Nat) : Bool := (f32 w).isNan || (f32 w).isInf

/-- The comparison of one row or column (R175): none skipped, some true a mismatch. -/
def chkCompare (int : Bool) (tol : Nat) (sat : Bool) (c : Nat) (ws : List Nat) : Option Bool :=
  if sat then none
  else if int then some (wordSum true ws != c % 2 ^ 48)
  else if special c || ws.any special then none
  else
    let s := wordSum false ws
    let m := toF32 (FVal.sum (ws.map fun w => (f32 w).abs))
    some (chkFloatBad tol c s m)

/-- The comparisons of a pass: rows in order, then columns; axis 0 row, 1 column. -/
def chkAll (t : Tile) (p : MxPass) : List (Nat × Nat × Option Bool) :=
  if !p.chk then []
  else
    let int := mxInt p.desc
    let row := fun i => below 32 fun j => cellActive p i j
    let col := fun j => below 32 fun i => cellActive p i j
    ((List.range 32).filterMap fun i => if (row i).isEmpty then none else
      some (0, i, chkCompare int (mxTol p.desc) ((row i).any fun j => p.sat.contains (32 * i + j)) (p.chkRow.getD i 0)
        ((row i).map fun j => accWord t p.bank i j))) ++
    ((List.range 32).filterMap fun j => if (col j).isEmpty then none else
      some (1, j, chkCompare int (mxTol p.desc) ((col j).any fun i => p.sat.contains (32 * i + j)) (p.chkCol.getD j 0)
        ((col j).map fun i => accWord t p.bank i j)))

/-- A pass ended with saturated cells (R168). -/
def mxSaturated (s : Nat) (ref : Option CmdRef) (d : Dev) : Dev :=
  let d := tileFlag s flAccSat (d.bump (FIELD_MX_SAT_COUNT (siteField s)))
  let t := d.tile s
  if t.satMs = some d.ms then d.modTile s fun t => { t with satSince := t.satSince + 1 }
  else tileRecord s 0x07 (t.satSince + 1) ref (d.modTile s fun t => { t with satSince := 0, satMs := some d.ms })

/-- The results of the comparisons: skips are counted, the first mismatch is recorded (R175, R176). -/
def mxChecked (s bank : Nat) (ref : Option CmdRef) (cs : List (Nat × Nat × Option Bool)) (d : Dev) : Dev × Bool :=
  let f := siteField s
  let d := d.bumpBy (FIELD_MX_CHK_SKIP_COUNT f) (cs.filter fun c => c.2.2.isNone).length
  match cs.find? fun c => c.2.2 == some true with
  | some c =>
    let d := tileFlag s flChkFail (d.bump (FIELD_MX_CHK_FAIL_COUNT f))
    (tileRecord s 0x06 (c.2.1 + c.1 * 2 ^ 30 + bank * 2 ^ 31) ref d, true)
  | none => (d, false)

/-- The completion descriptor (R160). -/
def mxDescriptor (m : MxDesc) (poison : Bool) : TokDesc :=
  { addr := mxBase m 5, poison
    len := if mxVec m then (mxN m * outBytes (mxOut m) + 3) / 4 else mxM m * mxCStride m * 4 }

/-- The oldest pass drains and is checked; after the last, the instruction's work is done. -/
def mxDrain (s : Nat) (d : Dev) : Dev :=
  let t := d.tile s
  match (t.engine 2).run, t.mx.active with
  | some r, p :: rest =>
    let (p, d) := passEnd s p d
    let d := d.setTile s (drainWrite (d.tile s) p)
    let d := d.modTile s fun t => { t with mx := { t.mx with active := rest } }
    let d := if p.sat.isEmpty then d else mxSaturated s (some (r.q.ins.ref false)) d
    let (d, bad) := mxChecked s p.bank (some (r.q.ins.ref true)) (chkAll (d.tile s) p) d
    let d := d.modTile s fun t => { t with mx := { t.mx with poison := t.mx.poison || bad } }
    let x := (d.tile s).mx
    if x.plan.isEmpty && x.active.isEmpty then
      let ps := x.poison || r.poison || r.taint
      d.modEngine s 2 fun e => { e with run := some { r with finished := true, out := mxDescriptor p.desc ps } }
    else d
  | _, _ => d

/-- The array is gated in the 65th consecutive idle cycle (R171): between the words of a DCW command too, while no operand
crosses it. -/
def arrayGate (s : Nat) (d : Dev) : Dev :=
  let x := (d.tile s).mx
  let idle := match x.dcw with
    | some a => a.cells.all fun c => c.2.a.isNone && c.2.b.isNone
    | none => true
  if x.active.isEmpty && idle then d.modTile s fun t => { t with mx := { t.mx with awake := false, rows := 0 } } else d

/-- Descriptors of an instruction at s[DESC], with TOK_A and TOK_B applied to an MXM (06_sequencers_isa.md R240). -/
def mxDescs (t : Tile) (i : Instruct) (toks : List TokDesc) : Nat × List MxDesc :=
  let addr := scalar t i.cmd (i.f 26 22) % 2 ^ 21
  if i.opcode = 0x31 then
    (addr, (List.range (i.f 11 0 + 1)).map fun k => t.rdN (addr + 12 * k) 12)
  else
    let m := t.rdN addr 12
    let m := if i.b 20 then putAt m 3 (w32 ((toks.getD 0 {}).addr)) else m
    let m := if i.b 19 then putAt m 4 (w32 ((toks.getD 1 {}).addr)) else m
    (addr, [m])

/-- The matrix engine takes the passes of its instruction (R159, R161, R165) (DEDUCED, unsafe: notes/assumptions/50.md). -/
def mxBegin (s : Nat) (op : Nat) (d : Dev) : Dev :=
  match ((d.tile s).engine 2).run with
  | some r =>
    if r.q.ins.opcode = op ∧ !r.off ∧ !r.finished ∧ !d.tileFenced s ∧ (d.tile s).mx.plan = [] ∧ (d.tile s).mx.active = [] then
      let addr := scalar { d.tile s with scalars := r.scalars } r.q.ins.cmd (r.q.ins.f 26 22) % 2 ^ 21
      let ms := r.block
      if rangesBad (ms.flatMap instrRanges) || rangesBad [(addr, 12 * ms.length)] then addrAbort s 2 d
      else
        let (d, bad) := readPoison s r.q.ins [(addr, 12 * ms.length)] d
        let plan := if op = 0x30 then mxFold (ms.getD 0 [])
          else ms.zipIdx.map fun e => mkPass e.1 (mxBank0 e.1) 0 0 e.2
        d.modTile s fun t => { t with mx := { t.mx with plan, active := [], poison := bad } }
    else d
  | none => d

/-! ### Commands -/

/-- MXM (R161). -/
def execMxm (site : Nat) (s : State) : Result := guardUnit (unitSite site) (onMesh (siteField site) (mxBegin site 0x30) s)
/-- MXF (R165). -/
def execMxf (site : Nat) (s : State) : Result := guardUnit (unitSite site) (onMesh (siteField site) (mxBegin site 0x31) s)
/-- MX_PASS_START (R155). -/
def execMxPassStart (site slip : Nat) (s : State) : Result := guardUnit (unitSite site) (onMesh (siteField site) (mxPassStart site slip) s)
/-- MX_DRAIN (R163). -/
def execMxDrain (site : Nat) (s : State) : Result := guardUnit (unitSite site) (onMesh (siteField site) (mxDrain site) s)
/-- ARRAY_GATE (R171). -/
def execArrayGate (site : Nat) (s : State) : Result := guardUnit (unitSite site) (onMesh (siteField site) (arrayGate site) s)

end Sys2Proof.Machine
end

