-- ==== Sys2Proof/Machine/Time.lean ====
section
/-! DEFINITION. The time base, TAI and its servo, the frame cadence and its states (10_cadence_time.md R390 to R410,
R420 to R428). -/

namespace Sys2Proof.Machine

/-! ### Standing in a twin or herd -/

/-- The module is a member or lead of a herd, or is synchronising with one (HERD.STATE, R561). -/
def inHerd (d : Dev) : Bool := decide (2 ≤ d.rdF HERD_STATE 2 0 ∧ d.rdF HERD_STATE 2 0 ≤ 4)
/-- The module runs as one of a twin (TWIN.STATE not OFF, R560). -/
def inTwin (d : Dev) : Bool := decide (d.rdF TWIN_STATE 2 0 ≠ 0)

/-! ### Event pins (16_interfaces_pins.md R620, R621) -/

/-- The pin that holds a function. -/
def pinWith (d : Dev) (func : Nat) : Option Nat := (List.range 8).find? fun n => d.rdF (PINS_EVT_CFG n) 3 0 == func

/-- Every pin with an output function starts or extends its pulse. -/
def outPulse (func : Nat) (d : Dev) : Dev :=
  (below 8 fun n => d.rdF (PINS_EVT_CFG n) 3 0 == func).foldl (fun d n =>
    { d with cad := { d.cad with pulses := kvPut d.cad.pulses n d.time.tb } }) d

/-! ### TAI -/

/-- TAI is `units` (2^-42 ns) from this tick on. -/
def setTaiUnits (units : Nat) (d : Dev) : Dev :=
  { d with time := { d.time with refTb := d.time.tb, refTai := units, lastSec := units / 2 ^ 42 / 1000000000 } }

/-- The changes of RATE that bear on the last 10 s: those within it, and the one before. -/
def recentRates (tb : Nat) : List (Nat × Int) → List (Nat × Int)
  | [] => []
  | e :: t => if tb - usTicks 10000000 < e.1 then e :: recentRates tb t else [e]

/-- RATE changes at this tick; TAI is continuous (R393). -/
def setRate (r : Int) (d : Dev) : Dev :=
  let u := d.taiUnitsAt d.time.tb
  let d := { d with time := { d.time with
    refTb := d.time.tb, refTai := u, rates := (d.time.tb, r) :: recentRates d.time.tb d.time.rates } }
  d.wrN TIME_RATE (ofSigned 32 r)

/-- A TAI set takes effect (R399): 0 and 1 set it, 2 steps it. -/
def taiApply (t : TaiSet) (d : Dev) : Dev :=
  let v := t.sec * 1000000000 + t.ns
  if t.mode = 2 then
    let u : Int := d.taiUnitsAt d.time.tb
    let step : Int := (v : Int) * 2 ^ 42
    let d := setTaiUnits (if t.neg then u - step else u + step).toNat d
    d.bump TIME_STEP_COUNT
  else setTaiUnits (v * 2 ^ 42) d

/-- Nanoseconds to the next TAI second. -/
def toRollover (d : Dev) : Nat := 1000000000 - d.taiNs % 1000000000

/-- GO has taken effect: it reads 0 again. -/
def goDone (d : Dev) : Dev := { (d.wrF TIME_SET_CTRL 0 0 0) with time := { d.time with taiSet := none } }

/-- A set is armed (R399, R400): within 1 µs of a roll-over it moves to the roll-over after that one. -/
def taiArm (mode : Nat) (neg : Bool) (sec ns : Nat) (d : Dev) : Dev :=
  let near := decide (toRollover d < 1000)
  let t : TaiSet := { mode, neg, sec, ns, wait := if near then 2 else 1 }
  let d := d.wrF TIME_SET_CTRL 8 8 (b2n near)
  if near ∨ mode = 0 then { (d.wrF TIME_SET_CTRL 0 0 1) with time := { d.time with taiSet := some t } }
  else taiApply t d

/-- A write of SET_CTRL (R399 to R401): GO arms the set of the staged SET registers. -/
def timeSetGo (agent : Nat) (data : Word) (d : Dev) : Dev :=
  let go := bitOf data 0
  let mode := fld data 2 1
  let sec : Nat := (d.stagedRd TIME_SET_SEC_LO).toNat + 2 ^ 32 * (d.stagedRd TIME_SET_SEC_HI).toNat
  let ns : Nat := (d.stagedRd TIME_SET_NS).toNat
  let src := d.rdF TIME_SRC 1 0
  let v : Int := ((sec * 1000000000 + ns : Nat) : Int)
  let res : Int := (d.taiNs : Int) + (if bitOf data 3 then -v else v)
  d.checked .time 0x12C agent
    (d.baseChecks agent .time ++
     [(.busy, go && (d.ctl.snap.isSome || d.time.taiSet.isSome)),
      (.state, go && agent == agentDebug && (src == 1 || src == 3)),
      (.reserved, decide (mode = 3) || decide (data.toNat &&& 0xFFFFFEF0 ≠ 0)),
      (.range, go && (decide (1000000000 ≤ ns) || (mode == 2 && (decide (res < 0) || decide ((2 ^ 48 : Int) * 1000000000 ≤ res)))))])
    fun d =>
      let d := d.wr TIME_SET_CTRL (setFld (d.rd TIME_SET_CTRL) 3 1 (fld data 3 1))
      if go then
        let d := [TIME_SET_SEC_LO, TIME_SET_SEC_HI, TIME_SET_NS].foldl (fun d a =>
          let w := d.stagedRd a
          { (d.wr a w) with staged := kvDel d.staged a }) d
        taiArm mode (bitOf data 3) sec ns d
      else d

/-- A read of TIME.NOW_NS captures the matching seconds, frame, phase and TB (R398). -/
def timeCapture (d : Dev) : Dev :=
  let ns := d.taiNs
  let d := d.wrN TIME_CAP_SEC_LO (ns / 1000000000)
  let d := d.wrN TIME_CAP_SEC_HI (ns / 1000000000 / 2 ^ 32 % 65536)
  let d := d.wrN TIME_CAP_FRAME d.frame
  let d := d.wrN TIME_CAP_PHASE d.phase
  let d := d.wr64 (TIME_CAP_TB 0) d.time.tb
  d.answerW (w32 (ns % 1000000000))

/-! ### The servo (R394 to R397) -/

/-- SYNC_STATUS.STATE changes (R395): every change writes a record. -/
def servoState (st : Nat) (d : Dev) : Dev :=
  if d.rdF TIME_SYNC_STATUS 1 0 = st then d
  else
    let d := d.wrF TIME_SYNC_STATUS 1 0 st
    let d := d.record 0x15 0 0 (st + 1 * 2 ^ 4)
    { d with time := { d.time with inLock := 0, stepped := false } }

/-- The mean of RATE over the last 10 s, by time (R395); before its first change RATE is 0 (R427). -/
def meanRate (d : Dev) : Int :=
  let t0 := d.time.tb - usTicks 10000000
  let r := (d.time.rates ++ [((0 : Nat), (0 : Int))]).foldl (fun (acc : Int × Nat) (e : Nat × Int) =>
    let fromT := max e.1 t0
    if fromT < acc.2 then (acc.1 + e.2 * ((acc.2 - fromT : Nat) : Int), fromT) else acc) ((0 : Int), d.time.tb)
  if d.time.tb = r.2 then d.rate else r.1 / ((d.time.tb - r.2 : Nat) : Int)

/-- NOM_PERIOD in ticks (R423). -/
def Dev.nomTicks (d : Dev) : Nat := usTicks (d.rdF CAD_NOM_PERIOD 17 0)

/-- The servo enters HOLDOVER: RATE is frozen at its mean over the last 10 s (R395). -/
def servoFreeze (st : Nat) (d : Dev) : Dev := servoState st (setRate (meanRate d) d)

/-- The source is missing (R395): no Sync for 3 s under GPTP; 2 consecutive edges, which come every second, under PPS; 2
consecutive updates under PARTNER, which come in each frame (14_channels_twin_herd.md R534) (DESIGN CHOICE, unsafe: notes/assumptions/33.md). -/
def sourceMissing (d : Dev) : Bool :=
  let per := if d.cad.framePeriod = 0 then d.nomTicks else d.cad.framePeriod
  let us := match d.rdF TIME_SRC 1 0 with
    | 1 => usTicks 3000000
    | 2 => usTicks 2000000
    | _ => 2 * per
  decide (d.time.heard + us ≤ d.time.tb)

/-- The servo loses its source (R395) (DESIGN CHOICE, unsafe: notes/assumptions/33.md). -/
def servoHoldover (d : Dev) : Dev :=
  let st := d.rdF TIME_SYNC_STATUS 1 0
  if (st = 1 ∨ st = 2) ∧ sourceMissing d then servoFreeze 3 d else d

/-- ±200 ppm in units of 2^-40 (R395). -/
def rateLimit : Int := 219902325

/-- The servo steps TAI by an offset, under the apply rules (R396, R397, R400) (DESIGN CHOICE, safe: notes/assumptions/31.md). -/
def servoStep (off : Int) (d : Dev) : Dev :=
  let v := off.natAbs
  let t : TaiSet := { mode := 2, neg := decide (0 < off), sec := v / 1000000000, ns := v % 1000000000, wait := 2 }
  if toRollover d < 1000 then { d with time := { d.time with servoSet := some t } } else taiApply t d

/-- The source has been heard: a Sync, an edge or an update (DESIGN CHOICE, unsafe: notes/assumptions/33.md). -/
def sourceHeard (d : Dev) : Dev := { d with time := { d.time with heard := d.time.tb } }

/-- An offset of the own TAI from the source, in ns (R395, R396). The rate that the servo chooses is not stated: a free
value, within ±200 ppm in LOCKED (DESIGN CHOICE, unsafe: notes/assumptions/33.md). -/
def servoMeasure (off : Int) (d : Dev) : Dev :=
  let st := d.rdF TIME_SYNC_STATUS 1 0
  if st = 0 then d
  else
    let d := sourceHeard (d.wrN TIME_OFFSET_NS (satSigned 32 off))
    let d := if st = 3 then servoState 1 d else d
    let st := d.rdF TIME_SYNC_STATUS 1 0
    let big := decide (1000000 < off.natAbs)
    if big && (st == 2 || !d.time.stepped) then
      let d := servoStep off d
      let d := if st = 2 then servoState 1 d else d
      { d with time := { d.time with stepped := true, inLock := 0 } }
    else
      let (v, d) := d.free
      let r := toSigned 32 v
      let r := if st = 2 then max (-rateLimit) (min rateLimit r) else r
      let d := setRate r d
      let n := if off.natAbs ≤ 1000 then d.time.inLock + 1 else 0
      let d := { d with time := { d.time with inLock := n } }
      if st = 1 ∧ 16 ≤ n then servoState 2 d else d

/-- The PPS_IN edge is the roll-over of a set in AT_BOUNDARY mode under PPS (R399). -/
def waitsPps (d : Dev) : Bool :=
  d.rdF TIME_SRC 1 0 == 2 && (match d.time.taiSet with | some t => t.mode == 0 | none => false)

/-- A roll-over of the set that GO armed: it takes effect, or waits for the next one (R399, R400). -/
def goRollover (d : Dev) : Dev :=
  match d.time.taiSet with
  | some t => if t.wait ≤ 1 then goDone (taiApply t d) else { d with time := { d.time with taiSet := some { t with wait := t.wait - 1 } } }
  | none => d

/-- A roll-over of a step that the servo deferred (R397, R400). -/
def servoRollover (d : Dev) : Dev :=
  match d.time.servoSet with
  | some t => if t.wait ≤ 1 then taiApply t { d with time := { d.time with servoSet := none } }
    else { d with time := { d.time with servoSet := some { t with wait := t.wait - 1 } } }
  | none => d

/-- A TAI second roll-over (R399, R400): what waits for it takes effect; PPS_OUT pulses (R620). -/
def taiRollover (d : Dev) : Dev :=
  let sec := d.taiNs / 1000000000
  if d.time.lastSec < sec then
    let d := { d with time := { d.time with lastSec := sec } }
    outPulse 5 (servoRollover (if waitsPps d then d else goRollover d))
  else d

/-- An input pin takes an edge: of the polarity that `falling` selects, of a pulse of at least 100 ns (R404;
16_interfaces_pins.md R621). -/
def takesEdge (sel falling : Bool) (ns : Nat) : Bool := sel == falling && decide (100 ≤ ns)

/-- What an edge now at the pin of a function does: the pulse at the pin is the outside's (R404, R621) (DESIGN CHOICE, safe: notes/assumptions/122.md). -/
def onPulse (fn : Nat) (f : Bool → Nat → Dev → Dev) (d : Dev) : Dev :=
  f (Config.pinPulse fn d.time.tb).1 (Config.pinPulse fn d.time.tb).2 d

/-- An edge at the snapshot pin (R88): T is the edge's stamp + 2 µs (DESIGN CHOICE, safe: notes/assumptions/122.md). -/
def snapPinEdge (falling : Bool) (ns : Nat) (d : Dev) : Dev :=
  match (pinWith d 3).filter fun n => takesEdge (bitOf (d.rd (PINS_EVT_CFG n)) 4) falling ns with
  | some n => (snapTrigger 3 (d.time.tb + usTicks 2) (d.bump (PINS_EDGE_COUNT n))).1
  | none => d

/-- A PPS_IN edge marks a second boundary (R394): a waiting set takes effect at it, else the servo measures (DESIGN CHOICE, safe: notes/assumptions/122.md). -/
def ppsEdge (falling : Bool) (ns : Nat) (d : Dev) : Dev :=
  match (pinWith d 2).filter fun n => takesEdge (bitOf (d.rd (PINS_EVT_CFG n)) 4) falling ns with
  | none => d
  | some n =>
    let d := d.bump (PINS_EDGE_COUNT n)
    if d.rdF TIME_SRC 1 0 = 2 then
      if waitsPps d then goRollover (sourceHeard d)
      else
        let fr := d.taiNs % 1000000000
        servoMeasure (if fr < 500000000 then (fr : Int) else (fr : Int) - 1000000000) d
    else d

/-- Pewter's comparison of a field's TB copy with the master (R392): more than 2 ticks apart, the copy is out. -/
def tbCopyOut (f : Nat) (d : Dev) : Dev :=
  let d := d.wr TIME_DIST_STATUS (setBit (d.rd TIME_DIST_STATUS) f false)
  d.record 0x15 11 f 0

/-! ### The cadence (R402 to R410) -/

/-- CAD.STATE.STATE (R423): 0 IDLE, 1 WAIT_EDGE, 2 ACQUIRE, 3 LOCKED, 4 MISSED, 5 HOLDOVER. -/
def Dev.cadState (d : Dev) : Nat := d.rdF CAD_STATE 2 0

/-- The state changes (R407): every change writes a record; HOLDOVER is set on entry and stays until LOCKED. -/
def cadSet (st : Nat) (d : Dev) : Dev :=
  if d.cadState = st then d
  else
    let d := d.wrF CAD_STATE 2 0 st
    let d := if st = 5 then d.wrF CAD_STATE 8 8 1 else if st = 3 then d.wrF CAD_STATE 8 8 0 else d
    d.record 0x15 0 0 (st + 2 * 2 ^ 4)

/-- The expected boundary E = B + P (R406). -/
def Dev.expected (d : Dev) : Nat := d.boundTick + d.cad.framePeriod

/-- The tick at which the acceptance window closes, and whether a tick lies in it (R406). -/
def windowClose (d : Dev) : Nat := d.expected + usTicks (d.rdF CAD_LATE_US 9 0)
def inWindow (d : Dev) (t : Nat) : Bool :=
  decide (d.expected - (d.cad.framePeriod >>> d.rdF CAD_CTRL 11 8) ≤ t ∧ t ≤ windowClose d)

/-- A boundary is caused at a tick (R405): it takes effect one tick later. -/
def boundaryAt (tick : Nat) (fromEdge : Bool) (frame : Option Nat) (d : Dev) : Dev :=
  { d with cad := { d.cad with cause := some { tick, fromEdge, frame } } }

/-- A word of a schedule entry (R411), and its type. -/
def entryWord (d : Dev) (e i : Nat) : Word := d.rd (CAD_SCHED (4 * e + i))
def entryType (d : Dev) (e : Nat) : Nat := fld (entryWord d e 1) 19 16

/-- The issues that do not follow the actual boundary: those of SNAPSHOT and FREQ entries (R414; 11_clocking.md R434). -/
def aheadIssued (d : Dev) : KV Issue := d.cad.issued.filter fun (i : Nat × Issue) => entryType d i.1 == 1 || entryType d i.1 == 5

/-- A firing is late (R416): the LATE bit of an entry still in use, LATE_FIRE_COUNT, a record (DEDUCED, unsafe: notes/assumptions/35.md). -/
def markLate (e : Nat) (d : Dev) : Dev :=
  let a := CAD_SCHED (4 * e + 1)
  let d := if bitOf (d.rd a) 31 then d.wr a (setBit (d.rd a) 29 true) else d
  (d.bump CAD_LATE_FIRE_COUNT).record 0x15 0 0 (d.cadState + 3 * 2 ^ 4 + e * 2 ^ 8)

/-- The cadence enters a source's state (R407, R424); FRAME is kept (DEDUCED, unsafe: notes/assumptions/34.md). -/
def cadenceEnter (src : Nat) (d : Dev) : Dev :=
  let d := { d with cad := { d.cad with lastEdge := none, boundFromEdge := false } }
  if src = 2 then
    let d := d.wrN CAD_PERIOD d.nomTicks
    let d := cadSet 3 d
    if d.cad.cause.isSome then d else boundaryAt d.time.tb false none d
  else
    let d := { d with cad := { d.cad with framePeriod := 0, cause := none, issued := aheadIssued d } }
    if src = 1 then cadSet 1 d else cadSet 0 d

/-- An interval between edges that measures a period (R409): 20 ms to 200 ms. -/
def measures (dt : Nat) : Bool := decide (usTicks 20000 ≤ dt ∧ dt ≤ usTicks 200000)

/-- The current frame's phase restarts at an edge before phase 0x4000 (R408) (DEDUCED, unsafe: notes/assumptions/36.md). -/
def phaseRestart (t : Nat) (d : Dev) : Dev :=
  let d := d.wr64 (CAD_BOUND_TB 0) t
  let ns := d.taiNsAt t
  let d := d.wrN (CAD_EDGE_HIST 1) (ns / 1000000000)
  let d := d.wrN (CAD_EDGE_HIST 2) (ns / 1000000000 / 2 ^ 32 % 65536)
  let d := d.wrN (CAD_EDGE_HIST 3) (ns % 1000000000)
  let p := (d.rd CAD_PERIOD).toNat
  { d with cad := { d.cad with framePeriod := p, issued := aheadIssued d, periods := p :: d.cad.periods.drop 1 } }

/-- An FSYNC edge (R404, R407 to R410): CTRL.EDGE selects its polarity. One that comes after its frame's window has closed waits
for the boundary of the close: nothing changes until that has been taken (DEDUCED, unsafe: notes/assumptions/36.md; DESIGN CHOICE, safe: notes/assumptions/122.md). -/
def fsyncEdge (falling : Bool) (ns : Nat) (d : Dev) : Dev :=
  match (pinWith d 1).filter fun _ => takesEdge (bitOf (d.rd CAD_CTRL) 2) falling ns &&
      !(decide (2 ≤ d.cadState) && d.cad.cause.isNone && decide (windowClose d < d.time.tb)) with
  | none => d
  | some n =>
    let d := d.bump (PINS_EDGE_COUNT n)
    let t := d.time.tb
    let st := d.cadState
    if d.rdF CAD_CTRL 1 0 ≠ 1 ∨ st = 0 ∨ d.cad.cause.isSome then d
    else if st = 1 then
      let d := d.wrN CAD_PERIOD d.nomTicks
      let d := { d with cad := { d.cad with lastEdge := some t } }
      boundaryAt t true none (cadSet 2 d)
    else
      let win := inWindow d t
      if st = 3 then
        if win then
          let d := if d.cad.boundFromEdge then d.wrN CAD_PERIOD (t + 1 - d.boundTick) else d
          boundaryAt t true none { d with cad := { d.cad with lastEdge := some t } }
        else d.bump CAD_EARLY_COUNT
      else
        let meas := match d.cad.lastEdge with | some e => measures (t - e) | none => false
        let d := if meas then d.wrN CAD_PERIOD (t - d.cad.lastEdge.getD t) else d
        let ph := d.phaseAt t
        let d := { d with cad := { d.cad with lastEdge := some t } }
        let d := if meas || (win && st != 2) then cadSet 3 d else d
        if win || decide (0x4000 ≤ ph) then boundaryAt t true none d else phaseRestart t d

/-- The acceptance window closes without an edge (R407). -/
def windowCloses (d : Dev) : Dev :=
  let st := d.cadState
  if d.rdF CAD_CTRL 1 0 = 1 ∧ 2 ≤ st ∧ d.cad.cause.isNone ∧ windowClose d ≤ d.time.tb then
    let t := windowClose d
    let d := d.bump CAD_MISS_COUNT
    let d := if st = 3 then cadSet 4 d else if st = 4 then cadSet 5 d else d
    boundaryAt t false none d
  else d

/-- INTERNAL: a boundary every NOM_PERIOD (R402); its cause is the tick before. -/
def internalBoundary (d : Dev) : Dev :=
  if d.rdF CAD_CTRL 1 0 = 2 ∧ d.cad.cause.isNone ∧ d.cad.framePeriod ≠ 0 ∧ d.expected ≤ d.time.tb + 1 then
    let d := d.wrN CAD_PERIOD d.nomTicks
    boundaryAt (d.expected - 1) false none d
  else d

/-- EDGE_HIST takes a boundary as entry 0 (R421). -/
def edgeHistPush (frame tick : Nat) (d : Dev) : Dev :=
  let d := [7, 6, 5, 4, 3, 2, 1].foldl (fun d h =>
    (List.range 4).foldl (fun d i => d.wr (CAD_EDGE_HIST (4 * h + i)) (d.rd (CAD_EDGE_HIST (4 * (h - 1) + i)))) d) d
  let ns := d.taiNsAt tick
  let d := d.wrN (CAD_EDGE_HIST 0) frame
  let d := d.wrN (CAD_EDGE_HIST 1) (ns / 1000000000)
  let d := d.wrN (CAD_EDGE_HIST 2) (ns / 1000000000 / 2 ^ 32 % 65536)
  d.wrN (CAD_EDGE_HIST 3) (ns % 1000000000)

/-- The frame and phase of a capture time (R421): the newest recorded frame whose boundary is at or before it. -/
def captureFrame (d : Dev) (ns : Nat) : Option (Nat × Nat) :=
  ((List.range 8).find? fun h =>
      let b := ((d.rd (CAD_EDGE_HIST (4 * h + 1))).toNat + 2 ^ 32 * (d.rd (CAD_EDGE_HIST (4 * h + 2))).toNat) * 1000000000 +
        (d.rd (CAD_EDGE_HIST (4 * h + 3))).toNat
      decide (h < d.cad.periods.length) && decide (b ≤ ns)).map fun h =>
    let b := ((d.rd (CAD_EDGE_HIST (4 * h + 1))).toNat + 2 ^ 32 * (d.rd (CAD_EDGE_HIST (4 * h + 2))).toNat) * 1000000000 +
      (d.rd (CAD_EDGE_HIST (4 * h + 3))).toNat
    let p := d.cad.periods.getD h 0
    ((d.rd (CAD_EDGE_HIST (4 * h))).toNat, if p = 0 then 0 else min 0xFFFF ((ns - b) * 4 * 65536 / (5 * p)))

/-! ### Checks of staged values (R424, R427) -/

def cadApplyChecks (d : Dev) : List Check :=
  let c := d.stagedRd CAD_CTRL
  let n := fld (d.stagedRd CAD_NOM_PERIOD) 17 0
  let l := fld (d.stagedRd CAD_LATE_US) 9 0
  [(.range, decide (n < 20000) || decide (200000 < n) || decide (l = 0) || decide (1000 < l) ||
      decide (fld c 11 8 < 2) || decide (10 < fld c 11 8)),
   (.state, (fld c 1 0 == 1 && (pinWith d 1).isNone) || (fld c 1 0 == 3 && !(inTwin d || inHerd d)))]

def timeApplyChecks (d : Dev) : List Check :=
  let c := d.stagedRd TIME_SRC
  [(.state, (fld c 1 0 == 1 && !bitOf (d.rd (SENS_CFG (fld c 6 4))) 0) || (fld c 1 0 == 2 && (pinWith d 2).isNone)),
   (.range, decide (1000000000 ≤ (d.stagedRd TIME_SET_NS).toNat))]

/-- SRC applied (R395): a selected source is acquired, none is FREERUN (DEDUCED, unsafe: notes/assumptions/34.md). -/
def timeApplied (old : Word) (d : Dev) : Dev :=
  let s := d.rdF TIME_SRC 1 0
  if fld old 6 0 = d.rdF TIME_SRC 6 0 then d
  else if s = 0 then servoState 0 d
  else
    let d := servoState 1 d
    { d with time := { d.time with inLock := 0, stepped := false, heard := d.time.tb } }

/-! ### The tick -/

/-- One tick of TB (R390): nothing moves in cold reset or while REFCLK is lost (DESIGN CHOICE, unsafe: notes/assumptions/3.md; DESIGN CHOICE, unsafe: notes/assumptions/103.md). -/
def tick (d : Dev) : Dev :=
  if d.held || d.time.stopped then d
  else
    let d := { d with time := { d.time with tb := (d.time.tb + 1) % 2 ^ 64 } }
    let was := match d.ctl.snap with | some s => s.reached | none => true
    let d := snapReached d
    match d.ctl.snap with
    | some s => if s.reached && !was then outPulse 6 d else d
    | none => d

/-- The step of an idle queue: one tick (R390). The device as a snapshot finds it when TB reaches its T, before anything
of that cycle, is kept for the pages that latch (02_control_model.md R89, R90). -/
def idle (s : State) : Result :=
  let d := tick s.dev
  let reached := fun (d : Dev) => match d.ctl.snap with | some s => s.reached | none => false
  .next { s with dev := d, shot := if reached d && !reached s.dev then some d else s.shot }

/-! ### Commands -/

/-- TIME_CAPTURE (R398). -/
def execTimeCapture (s : State) : Result := onDev timeCapture s
/-- TIME_SET_GO (R399). -/
def execTimeSetGo (agent : Nat) (data : Word) (s : State) : Result := onDev (timeSetGo agent data) s
/-- TAI_ROLLOVER (R400). -/
def execTaiRollover (s : State) : Result := onDev taiRollover s
/-- SERVO_HOLDOVER (R395). -/
def execServoHoldover (s : State) : Result := onDev servoHoldover s
/-- FSYNC_EDGE (R407): the edge falls or rises, and begins a pulse of so many ns. -/
def execFsyncEdge (s : State) : Result := onDev (onPulse 1 fsyncEdge) s
/-- PPS_EDGE (R394). -/
def execPpsEdge (s : State) : Result := onDev (onPulse 2 ppsEdge) s
/-- SNAP_PIN_EDGE (R88): T is the edge's stamp + 2 µs. -/
def execSnapPinEdge (s : State) : Result := onDev (onPulse 3 snapPinEdge) s
/-- FRAME_WINDOW_CLOSE (R407). -/
def execFrameWindowClose (s : State) : Result := onDev windowCloses s
/-- INTERNAL_BOUNDARY (R402). -/
def execInternalBoundary (s : State) : Result := onDev internalBoundary s

end Sys2Proof.Machine
end

