-- ==== Sys2Proof/Machine/Seq.lean ====
section
/-! DEFINITION. The field sequencers (06_sequencers_isa.md): instruction banks, commands, issue and its checks, the
instructions a sequencer executes itself, faults, halts and resumes. -/

namespace Sys2Proof.Machine

/-! ### State (R230) -/

def stReset : Nat := 0
def stIdle : Nat := 1
def stRun : Nat := 2
def stHalting : Nat := 3
def stHalted : Nat := 4
def stAborting : Nat := 5

def Dev.seqSt (d : Dev) (q : Nat) : Nat := d.rdF (SEQ_SEQ_STATE q) 3 0
def Dev.inAtom (d : Dev) (q : Nat) : Bool := bitOf (d.rd (SEQ_SEQ_STATE q)) 8

/-- The state and HALT_CAUSE change (R230, R266): a SEQ_STATE event of the field trace (R98). -/
def setSt (q st cause : Nat) (d : Dev) : Dev :=
  let w := d.rd (SEQ_SEQ_STATE q)
  let d := d.wr (SEQ_SEQ_STATE q) (setFld (setFld w 3 0 st) 7 4 cause)
  if fld w 3 0 = st then d else d.traceEvent (q / 4) 3 q (st + cause * 16) (d.rd (SEQ_PC q)).toNat 0 5

def setAtom (q : Nat) (b : Bool) (d : Dev) : Dev := d.wrF (SEQ_SEQ_STATE q) 8 8 (b2n b)

/-- Bit q of a DBG map in two words. -/
def dbgBit (a q : Nat) (b : Bool) (d : Dev) : Dev :=
  d.wr (a + 4 * (q / 32)) (setBit (d.rd (a + 4 * (q / 32))) (q % 32) b)
def dbgIs (d : Dev) (a q : Nat) : Bool := bitOf (d.rd (a + 4 * (q / 32))) (q % 32)

def seqFlag (q i : Nat) (d : Dev) : Dev := d.wr (SEQ_FLAGS q) (setBit (d.rd (SEQ_FLAGS q)) i true)

/-! ### Instruction banks (R218, R219) -/

def activeBank (d : Dev) (q : Nat) : Nat := d.rdF (SEQ_BANK_CTRL q) 0 0
def bankCfgA (q b : Nat) : Nat := SEQ_BANK_CFG_A q + 4 * b
def bankDcw (d : Dev) (q b : Nat) : Bool := bitOf (d.rd (bankCfgA q b)) 0
def bankLen (d : Dev) (q b : Nat) : Nat := d.rdF (bankCfgA q b) 29 16
def swapPending (d : Dev) (q : Nat) : Bool := bitOf (d.rd (SEQ_BANK_CTRL q)) 2
def seqExact (d : Dev) (q : Nat) : Bool := bitOf (d.rd (SEQ_PRIV q)) 0
/-- The sequencer's mode is DCW (R219). -/
def seqDcw (d : Dev) (q : Nat) : Bool := bankDcw d q (activeBank d q)

def imemWord (x : Sequencer) (bank i : Nat) : Word := kvGetD x.imem 0 (16384 * bank + i)
/-- The entry's bits: 64 of a CTI instruction, 512 of a DCW word. -/
def imemEntry (x : Sequencer) (bank : Nat) (dcw : Bool) (i : Nat) : Nat :=
  if dcw then wordsNum ((List.range 16).map fun k => imemWord x bank (16 * i + k))
  else wordsNum [imemWord x bank (2 * i), imemWord x bank (2 * i + 1)]

/-- The next fetch is at an entry of the active bank (SEQ.PC) (DEDUCED, unsafe: notes/assumptions/52.md). -/
def setPc (q pc : Nat) (d : Dev) : Dev :=
  (d.modSeq q fun x => { x with pc }).wrN (SEQ_PC q) (pc % 8192 + activeBank d q * 2 ^ 16)

/-! ### Locks (R252, R263, R264) -/

def seqAgent (q : Nat) : Nat := 0x40 + q

/-- LOCKS_HELD and LOCKS_VALID follow the held locks (DEDUCED, unsafe: notes/assumptions/55.md). -/
def showLocks (q : Nat) (d : Dev) : Dev :=
  let ls := (d.seq q).locks
  let held := ls.zipIdx.foldl (fun w e => w + e.1.1 * 2 ^ (8 * e.2)) 0
  (d.wrN (SEQ_LOCKS_HELD q) held).wrN (SEQ_LOCKS_VALID q) (2 ^ ls.length - 1)

/-- Every lock the sequencer holds becomes BROKEN (R77) (DEDUCED, unsafe: notes/assumptions/55.md). -/
def seqBreakLocks (q : Nat) (d : Dev) : Dev :=
  let d := breakLocksOf (seqAgent q) d
  showLocks q (d.modSeq q fun x => { x with locks := [] })

/-- A read of LOCK_n for the sequencer (R252, R263): an acquisition is recorded, and the instruction ends. -/
def seqLockRead (q n : Nat) (d : Dev) : Dev :=
  let old := d.rd (LOCK_LOCK n)
  let d := { lockAcquire (seqAgent q) n d with resp := d.resp }
  if bitOf old 31 then d.modSeq q fun x => { x with lockWait := some n }
  else
    showLocks q (d.modSeq q fun x => { x with
      lockWait := none, fetched := none, lastBroken := bitOf old 30
      locks := x.locks ++ [(n, fld (d.rd (LOCK_LOCK n)) 15 0)] })

/-- The release word of a held lock (R253, R264): a rejected release sets FLAGS.LOCK_BROKEN (DEDUCED, unsafe: notes/assumptions/55.md). -/
def seqLockRelease (q n : Nat) (d : Dev) : Dev :=
  match ((d.seq q).locks.find? fun l => l.1 == n) with
  | none => d
  | some l =>
    let w := d.rd (LOCK_LOCK n)
    let ok := bitOf w 31 && fld w 23 16 == seqAgent q && fld w 15 0 == l.2 && d.up
    let d := lockRelease (seqAgent q) n (w32 l.2) d
    let d := showLocks q (d.modSeq q fun x => { x with locks := x.locks.filter fun k => k.1 != n })
    if ok then d else seqFlag q 4 d

/-! ### Commands (R225 to R229) -/

/-- The same beat's attempt: stream, beat number, attempt. -/
def Cmd.sameBeat (a b : Cmd) : Bool := a.stream == b.stream && a.beat == b.beat && a.attempt == b.attempt

/-- A command on VC_0 reaches the queue of 16 (R226); a sequencer in RESET keeps none (R265, 07_fabric.md R310) (DEDUCED, unsafe: notes/assumptions/112.md; DESIGN CHOICE, unsafe: notes/assumptions/131.md). -/
def cmdEnqueue (q : Nat) (d : Dev) : Dev :=
  match takeFirst (fun e => e.1 == q) d.fab.cmds with
  | some (e, rest) =>
    if d.seqSt q = stReset then d.modFab fun f => { f with cmds := rest }
    else if (d.seq q).queue.length < 16 then (d.modFab fun f => { f with cmds := rest }).modSeq q fun x => { x with queue := x.queue ++ [e.2] }
    else d
  | none => d

/-- Work of a command that its tiles or the tree still hold (R229). -/
def cmdHeld (d : Dev) (q : Nat) (p : Cmd → Bool) : Bool :=
  let x := d.seq q
  let own : Cmd → Bool := fun c => c.seq == q && p c
  x.tree.any (fun i => own i.cmd) || (match x.dcwNow with | some i => own i.cmd | none => false) ||
    d.tiles.any fun e => !d.tileFenced e.1 && e.2.holds own

/-- A command faults or is stopped (R230, R260, R342): nothing more of its beat is issued, its queued commands are
discarded, and ABORTING is entered; a sequencer that is halting or halted enters it when it resumes. What another beat's
command has fetched or waits for stays. -/
def seqAbort (q cause entry : Nat) (c : Cmd) (byManager : Bool) (d : Dev) : Dev :=
  let bank := activeBank d q
  let d := if d.seqSt q = stHalting ∨ d.seqSt q = stHalted then d else setSt q stAborting 0 d
  d.modSeq q fun x =>
    let x := { x with
      queue := x.queue.filter fun k => !k.sameBeat c
      fault := some { cause, entry, bank, cmd := c }, stopped := byManager }
    match x.cur with
    | some k => if k.sameBeat c then { x with cur := none, fetched := none, syncWait := false, lockWait := none } else x
    | none => x

/-- A sequencer detects a fault of its command in progress (R260). -/
def seqFaultNow (q cause entry : Nat) (d : Dev) : Dev :=
  match (d.seq q).cur with
  | some c => if (d.seq q).fault.isSome then d else seqAbort q cause entry c false d
  | none => d

/-- The entry that a sequencer has fetched or would fetch next. -/
def nextEntry (d : Dev) (q : Nat) : Nat := match (d.seq q).fetched with | some i => i.entry | none => (d.seq q).pc

/-- An access fault reaches a sequencer (R66, R254): its command faults with ACCESS. -/
def accessFault (agent : Nat) (d : Dev) : Dev :=
  if isSeqAgent agent then seqFaultNow (agent - 0x40) 0x0A (nextEntry d (agent - 0x40)) d else d

/-- A violation with the access fault of its requester (R64 to R66). -/
def Dev.violates (d : Dev) (agent : Nat) (bar2 write : Bool) (addr : Nat) : Dev :=
  accessFault agent (d.violation agent bar2 write addr)

/-- A break applies to a command (R255). -/
def breakApplies (d : Dev) (q : Nat) (c : Cmd) : Bool :=
  let w := d.rd (SEQ_BRK_CTRL q)
  let t := d.rd (SEQ_BRK_TAG q)
  let n := (d.rd64 (SEQ_CMD_COUNT_LO q) + 1) % 2 ^ 48
  (bitOf w 0 && n == d.rd64 (SEQ_BRK_COUNT_LO q)) ||
    (bitOf w 1 && (c.tag &&& fld t 31 16) == (fld t 15 0 &&& fld t 31 16))

/-- The command at the head of the queue starts (R227), or a break halts the sequencer before it (R255). -/
def cmdStart (q : Nat) (d : Dev) : Dev :=
  let x := d.seq q
  match x.queue with
  | [] => d
  | c :: rest =>
    if d.seqSt q = stIdle && x.cur.isNone && decide (x.inflight.length < 4) && !swapPending d q && !d.isFenced (.seq q) then
      if breakApplies d q c && x.breakPassed != some c then
        let d := seqFlag q 2 (setSt q stHalted 2 d)
        dbgBit DBG_HALTED_LO q true (d.modSeq q fun x => { x with resumeTo := stIdle, breakPassed := some c })
      else
        let c := { c with seq := q, serial := x.started + 1 }
        let n := (d.rd64 (SEQ_CMD_COUNT_LO q) + 1) % 2 ^ 48
        let d := d.wr64 (SEQ_CMD_COUNT_LO q) n
        let d := (List.range 8).foldl (fun d i => d.wr (SEQ_CUR_CMD q i) (c.word i)) d
        let d := d.modSeq q fun x => { x with
          queue := rest, cur := some c, inflight := x.inflight ++ [c], started := x.started + 1, breakPassed := none
          syncWait := seqDcw d q, dcwPre := [] }
        let d := setPc q c.entry d
        let d := setSt q stRun 0 d
        let d := d.traceEvent (q / 4) 1 q 0 (c.word 0).toNat (n % 2 ^ 32) 4
        if bankLen d q (activeBank d q) ≤ c.entry then seqFaultNow q 5 c.entry d else d
    else d

/-- The command in progress ends (R229, R230). -/
def cmdEnd (q : Nat) (d : Dev) : Dev :=
  let d := d.modSeq q fun x => { x with cur := none, fetched := none }
  if d.seqSt q = stRun then setSt q stIdle 0 d else d.modSeq q fun x => { x with resumeTo := stIdle }

/-- The sequencer reports to the stream manager that it holds nothing more of an attempt (R229, R342). -/
def beatReport (q : Nat) (c : Cmd) (d : Dev) : Dev :=
  { d with strm := { d.strm with beats := d.strm.beats.map fun b =>
      if b.stream == c.stream && b.tag == c.tag then { b with left := setDel b.left q } else b } }

/-- The oldest ended command is complete (R229): reported in the order the commands started. -/
def cmdComplete (q : Nat) (d : Dev) : Dev :=
  let x := d.seq q
  match x.inflight with
  | [] => d
  | c :: rest =>
    let ended := match x.cur with | some k => !k.same c | none => true
    let aborting := match x.fault with | some f => f.cmd.sameBeat c | none => false
    let reported := d.fab.reports.any fun r => r.1 == q && r.2.2.2.2.same c
    if ended && !aborting && !reported && !cmdHeld d q (fun k => k.same c) then
      let d := d.modSeq q fun x => { x with inflight := rest }
      let d := { d with tiles := d.tiles.map fun (e : Nat × Tile) => (e.1, { e.2 with
        faulted := if d.tileSeq e.1 = some q then setDel e.2.faulted c.serial else e.2.faulted }) }
      let d := d.traceEvent (q / 4) 2 q 0 (c.word 0).toNat (c.beat % 2 ^ 32) 4
      beatReport q c d
    else d

/-! ### Checks of a fetched entry (R236 to R240, R258) -/

/-- Operand bits that R240 names for an opcode; none for an opcode not in the table. -/
def opMask (op : Nat) : Option Nat :=
  match op with
  | 0x00 | 0x01 | 0x05 | 0x06 | 0x07 => some 0
  | 0x02 | 0x0A => some 0x00001FFF
  | 0x03 => some 0xE0001FFF
  | 0x04 => some 0xF003FFFF
  | 0x08 | 0x09 => some 0x000000FF
  | 0x0B => some 0x000FFFFF
  | 0x10 | 0x11 => some 0xF83FFFFF
  | 0x12 => some 0xFFFE000F
  | 0x13 => some 0xFFFFFFFF
  | 0x14 => some 0xE7FE0007
  | 0x15 => some 0xFF800007
  | 0x16 => some 0xF8000007
  | 0x17 => some 0xF73FFFFF
  | 0x18 => some 0xF73E0000
  | 0x19 => some 0x07C003FC
  | 0x1A => some 0x0000FF03
  | 0x1B => some 0x0000FF07
  | 0x20 => some 0xFFFF0000
  | 0x21 => some 0xFFFF8000
  | 0x30 => some 0x07D80000
  | 0x31 => some 0x07C00FFF
  | 0x40 | 0x41 | 0x47 | 0x49 | 0x4A => some 0xFFC00000
  | 0x42 => some 0xFFFE001F
  | 0x43 => some 0xFFFFF000
  | 0x44 => some 0xE7FE0007
  | 0x45 | 0x46 => some 0xFFC00003
  | 0x48 => some 0xFFC0003F
  | 0x4C => some 0xFFFFFF1F
  | 0x4D => some 0xFF0FC003
  | 0x4E => some 0xFFFFF8FF
  | 0x4F => some 0xFFFFF00F
  | 0x50 => some 0xFF8FC000
  | 0x51 => some 0xCF80FF00
  | 0x52 => some 0xFF8FC000
  | 0x53 => some 0xF8000000
  | _ => none

/-- FUNC values of VALU and VSOP (R240) (DEDUCED, unsafe: notes/assumptions/48.md). -/
def valuFunc (f : Nat) : Bool := decide (f ≤ 4) || decide (8 ≤ f ∧ f ≤ 18)

/-- A reserved FUNC value, or FIELD value of AGSETI and AGSET (R240); VCVT leaves SAG unnamed for a source that is not
MX. -/
def funcReserved (i : Instruct) : Bool :=
  match i.opcode with
  | 0x4E => i.f 23 20 != 0 && !(match fmtOf (i.f 7 4) with | some f => f.isMx | none => false)
  | 0x12 => decide (12 < i.f 3 0)
  | 0x14 | 0x44 => decide (5 < i.f 2 0)
  | 0x15 => decide (4 < i.f 2 0)
  | 0x17 | 0x18 => decide (4 < i.f 26 24)
  | 0x42 | 0x4C => !valuFunc (i.f 4 0)
  | _ => false

/-- A scalar destination that R232 does not let an instruction write. -/
def scalarDest (i : Instruct) : Bool :=
  [0x10, 0x11, 0x12, 0x13, 0x16, 0x46, 0x48, 0x49].contains i.opcode && (i.f 31 27 == 0 || decide (28 ≤ i.f 31 27))
/-- A predicate destination p0. -/
def predDest (i : Instruct) : Bool := [0x14, 0x15, 0x44].contains i.opcode && i.f 31 29 == 0

/-- The number of classes in WAIT that supply a descriptor (R239). -/
def tokNeeds (i : Instruct) : Nat :=
  match i.opcode with
  | 0x20 => b2n (i.b 21)
  | 0x30 => if i.b 19 then 2 else b2n (i.b 20)
  | 0x4C | 0x4D | 0x4E | 0x4F | 0x50 | 0x52 => b2n (i.b 14)
  | _ => 0

/-- The value that LCSET writes. -/
def lcsetValue (i : Instruct) : Nat := if i.b 28 then i.cmd.arg (i.f 17 16) % 65536 else i.f 15 0

/-- FORM (R258) (DEDUCED, unsafe: notes/assumptions/46.md). -/
def formBad (i : Instruct) : Bool :=
  (decide (i.opcode < 0x10) && i.f 55 32 != 0) || (i.b 35 && i.f 34 32 == 0) || scalarDest i || predDest i ||
  (i.opcode == 0x04 && lcsetValue i == 0) || decide (i.waits.length < tokNeeds i)

/-- NESTING (R251 to R253). -/
def nestingBad (d : Dev) (q : Nat) (i : Instruct) : Bool :=
  let ls := (d.seq q).locks
  match i.opcode with
  | 0x01 => d.inAtom q || !ls.isEmpty
  | 0x05 => d.inAtom q
  | 0x06 => !d.inAtom q
  | 0x08 => decide (4 ≤ ls.length) || ls.any (fun l => l.1 == i.f 7 0)
  | 0x09 => !ls.any fun l => l.1 == i.f 7 0
  | _ => false

/-- The cause that the sequencer finds in a CTI instruction before it issues it (R258); 0 when it finds none (DEDUCED, unsafe: notes/assumptions/52.md). -/
def ctiCause (d : Dev) (q : Nat) (i : Instruct) : Nat :=
  match opMask i.opcode with
  | none => 1
  | some m =>
    if i.f 31 0 &&& m != i.f 31 0 || funcReserved i then 2
    else if i.opcode = 0x31 && !seqExact d q then 3
    else if formBad i then 4
    else if nestingBad d q i then 7
    else 0

/-- Bits of a DCW word that R246 names. -/
def dcwMask : Nat :=
  [(0, 23), (24, 29), (32, 162), (162, 169), (172, 202), (256, 296), (496, 512)].foldl
    (fun m r => m + (2 ^ r.2 - 2 ^ r.1)) 0

/-- DCW_FORM (R248). A DRAIN_EN word names the row being drained in the bank that it also drives or rounds into. A format
that no table allows is illegal too (05_number_formats.md R190, R193): FP32 and INT32 as operands of a word that injects,
and as the output or preload of a word that drains or preloads what R156 does not allow. -/
def dcwBad (x : Sequencer) (i : Instruct) : Bool :=
  let fmtOk := fun (c : Nat) => (fmtOf c).isSome
  let int := i.f 7 4 == 5 && i.f 11 8 == 5
  let inject := i.f 95 32 != 0
  (inject && !(operandFmt (i.f 7 4) && operandFmt (i.f 11 8))) ||
  (i.b 162 && !(if int then i.f 15 12 == 0xC || i.f 15 12 == 5 else decide (i.f 15 12 ≤ 4))) ||
  (i.f 159 128 != 0 && (i.f 161 160 == 1 || i.f 161 160 == 2) && !(if int then i.f 19 16 == 0xC else decide (i.f 19 16 ≤ 1))) ||
  (i.bits &&& dcwMask != i.bits) ||
  (List.range 32).any (fun r => i.b (128 + r) && x.dcwPre.contains r) ||
  !fmtOk (i.f 7 4) || !fmtOk (i.f 11 8) || !fmtOk (i.f 15 12) || !fmtOk (i.f 19 16) ||
  i.f 21 20 == 3 || decide (23 < i.f 28 24) ||
  (i.b 162 && (i.b (32 + i.f 167 163) || i.b (96 + i.f 167 163) || i.f 95 64 != 0))

/-! ### Issue (R216, R217, R244) -/

/-- A correctable instruction-memory error (R259). -/
def imemCe (q : Nat) (d : Dev) : Dev := d.bump (FIELD_IMEM_CE_COUNT (q / 4))

/-- HOLD from a subscribed tile is present (R217). -/
def held (d : Dev) (q : Nat) : Bool := (d.seq q).hold.any fun s => d.tileSeq s == some q

/-- The sequencer fetches, checks and issues one entry (R216, R227, R249, R258 to R260). `ecc` is what the read of the
entry met: 1 a corrected error, 2 an uncorrectable entry (DESIGN CHOICE, unsafe: notes/assumptions/4.md). -/
def seqIssue (q ecc : Nat) (d : Dev) : Dev :=
  let x := d.seq q
  match x.cur with
  | none => d
  | some c =>
    if d.seqSt q != stRun || x.fetched.isSome || x.syncWait || x.lockWait.isSome || d.isFenced (.seq q) then d
    else
      let bank := activeBank d q
      let dcw := seqDcw d q
      let pc := x.pc
      if bankLen d q bank ≤ pc then seqFaultNow q 5 pc d
      else if ecc = 2 then seqFaultNow q 6 pc d
      else
        let d := if ecc = 1 then imemCe q d else d
        let i : Instruct := { cmd := c, entry := pc, bits := imemEntry x bank dcw pc, dcw }
        if dcw then
          if dcwBad x i then seqFaultNow q 9 pc d
          else
            let pre := (List.range 32).filter fun r => i.b 0 && i.b (128 + r)
            let d := d.modSeq q fun x => { x with tree := x.tree ++ [i], dcwPre := pre.foldl setIns x.dcwPre }
            let d := setPc q (pc + 1) d
            if i.b 1 then cmdEnd q d else d
        else
          match ctiCause d q i with
          | 0 =>
            if i.opcode < 0x10 then setPc q (pc + 1) (d.modSeq q fun x => { x with fetched := some i })
            else if held d q then d
            else setPc q (pc + 1) (d.modSeq q fun x => { x with tree := x.tree ++ [i] })
          | k => seqFaultNow q k pc d

/-- The waiting instruction of unit SEQ is executed when it has the opcode of the command. -/
def seqExec (q op : Nat) (f : Instruct → Dev → Dev) (d : Dev) : Dev :=
  match (d.seq q).fetched with
  | some i =>
    if i.opcode = op ∧ (d.seq q).lockWait.isNone ∧ d.seqSt q ≠ stAborting then f i (if op = 8 then d else d.modSeq q fun x => { x with fetched := none }) else d
  | none => d

/-- JMP, LOOP, BRB (R240) (DEDUCED, unsafe: notes/assumptions/52.md). -/
def seqJump (q : Nat) (i : Instruct) (d : Dev) : Dev := setPc q (i.f 12 0) d
def seqLoop (q : Nat) (i : Instruct) (d : Dev) : Dev :=
  let n := i.f 31 29
  let v := (d.rdF (SEQ_LC q n) 15 0 + 65535) % 65536
  let d := d.wrN (SEQ_LC q n) v
  if v = 0 then d else seqJump q i d
def seqLcset (q : Nat) (i : Instruct) (d : Dev) : Dev := d.wrN (SEQ_LC q (i.f 31 29)) (lcsetValue i)
def seqBrb (q : Nat) (i : Instruct) (d : Dev) : Dev := if (d.seq q).lastBroken then seqJump q i d else d
def seqSync (q : Nat) (d : Dev) : Dev := d.modSeq q fun x => { x with syncWait := true }

/-- The wait of a SYNC, or of the start of a DCW command, ends (R240, R247). -/
def syncResume (q : Nat) (d : Dev) : Dev :=
  let x := d.seq q
  if x.syncWait && x.tree.isEmpty && x.dcwNow.isNone && (subscribed d q).all (fun s => (d.tile s).idle) then
    d.modSeq q fun x => { x with syncWait := false }
  else d

/-- The LKACQ in progress reads its lock again (R252) (DEDUCED, unsafe: notes/assumptions/53.md). -/
def lockRetry (q : Nat) (d : Dev) : Dev :=
  match (d.seq q).lockWait with
  | some n => if d.seqSt q = stAborting then d else seqLockRead q n d
  | none => d

/-- 65,536 cycles have passed without acquisition (R252). -/
def lockTimeout (q : Nat) (d : Dev) : Dev :=
  match (d.seq q).lockWait, (d.seq q).fetched with
  | some _, some i => seqFaultNow q 8 i.entry d
  | _, _ => d

/-! ### Faults (R260 to R262) -/

/-- A tile's report reaches its sequencer (R261): the oldest, or while a fault is open the oldest of that fault's beat.
A report of another beat waits for the end of ABORTING, and so does the fence of a tile that held such a command (R229),
which the sequencer detects itself and no tile reports. -/
def tileReport (q : Nat) (d : Dev) : Dev :=
  let mine := fun (r : Nat × Nat × Nat × Nat × Cmd) => r.1 == q && match (d.seq q).fault with
    | some f => f.cmd.sameBeat r.2.2.2.2
    | none => true
  match takeFirst mine d.fab.reports with
  | none => d
  | some (r, rest) =>
    let d := d.modFab fun f => { f with reports := rest }
    let (site, cause, entry, c) := r.2
    let id := d.siteLogical site
    let n := if cause = 0x15 then 0 else 1
    match (d.seq q).fault with
    | some f => d.modSeq q fun x => { x with fault := some { f with
        tile := if f.tiles = 0 ∧ n = 1 then id else f.tile, tiles := f.tiles + n } }
    | none =>
      if (d.seq q).inflight.any fun k => k.same c then
        let d := seqAbort q cause entry c false d
        d.modSeq q fun x => { x with fault := x.fault.map fun f => { f with tile := if n = 1 then id else 0, tiles := n } }
      else d

/-- A subscribed tile was fenced while it held instructions of a command (R229): cause FENCED_TILE, at the entry that the
sequencer does not issue (R262); of a command whose entries have all been issued the spec names none: a free value. -/
def seqTileFenced (q s : Nat) (c : Cmd) (d : Dev) : Dev :=
  let ended := match (d.seq q).cur with | some k => !k.same c | none => true
  let (v, d) := if ended then d.free else (nextEntry d q, d)
  match (d.seq q).fault with
  | some f => if f.cmd.sameBeat c then d else d.modFab fun b => { b with reports := b.reports ++ [(q, s, 0x15, v % 8192, c)] }
  | none => seqAbort q 0x15 (v % 8192) c false d

/-- Faults are recorded (R262): the first since FLAGS.FAULT was cleared, the flag, the error record. -/
def faultRecorded (q : Nat) (f : SeqFault) (d : Dev) : Dev :=
  let d := if bitOf (d.rd (SEQ_FLAGS q)) 0 then d
    else
      let d := d.wrN (SEQ_FAULT_INFO q) (f.cause + f.entry % 8192 * 2 ^ 8 + f.bank * 2 ^ 21)
      let d := d.wrN (SEQ_FAULT_TILE q) (f.tile + min f.tiles 0xFFFF * 2 ^ 16)
      d.wrN (SEQ_FAULT_TAG q) (f.cmd.tag + f.cmd.stream * 2 ^ 16)
  let d := seqFlag q 0 d
  d.record 0x09 9 q (f.cause + f.entry % 8192 * 2 ^ 8 + min f.tiles 0x7FF * 2 ^ 21)
    (some { tag := f.cmd.tag, stream := f.cmd.stream, withheld := true })

/-- ABORTING ends (R230, R250, R256, R262, R342). The command of another beat that is in progress goes on, its atomic region
with it; a halt that was deferred takes effect once no lock and no region is held (DEDUCED, unsafe: notes/assumptions/53.md). -/
def abortEnd (q : Nat) (d : Dev) : Dev :=
  match (d.seq q).fault with
  | none => d
  | some f =>
    if d.seqSt q != stAborting || cmdHeld d q (fun c => c.sameBeat f.cmd) then d
    else
      let x := d.seq q
      let d := if x.stopped then d else faultRecorded q f d
      let d := seqBreakLocks q d
      let d := if x.cur.isSome then d else setAtom q false d
      let d := d.traceEvent (q / 4) 2 q 1 (f.cmd.word 0).toNat (f.cmd.beat % 2 ^ 32) 4
      let d := beatReport q f.cmd d
      let d := { d with tiles := d.tiles.map fun (e : Nat × Tile) => (e.1, { e.2 with
        mx := if d.tileSeq e.1 = some q then { e.2.mx with dcw := none } else e.2.mx
        faulted := if d.tileSeq e.1 = some q then
          e.2.faulted.filter fun n => !(x.inflight.any fun c => c.serial == n && c.sameBeat f.cmd) else e.2.faulted }) }
      let d := d.modSeq q fun x => { x with
        fault := none, stopped := false, haltPend := 0, inflight := x.inflight.filter fun c => !c.sameBeat f.cmd }
      let onFault := bitOf (d.rd (SEQ_BRK_CTRL q)) 2 && !x.stopped
      let after := if x.cur.isSome then stRun else stIdle
      let defer := dbgIs d DBG_DEFER_LO q && !d.inAtom q
      let d := if defer then dbgBit DBG_DEFER_LO q false d else d
      let pend := if x.haltPend ≠ 0 then x.haltPend else b2n defer
      if onFault then dbgBit DBG_HALTED_LO q true (setSt q stHalted 3 (d.modSeq q fun x => { x with resumeTo := after }))
      else if pend ≠ 0 then setSt q stHalting pend (d.modSeq q fun x => { x with resumeTo := after })
      else setSt q after 0 d

/-- The stream manager stops a sequencer for a failed beat (R342): the beat's queued commands are discarded, a command
of it in flight is aborted. A sequencer that holds none is IDLE for the beat. -/
def seqStop (q : Nat) (c : Cmd) (d : Dev) : Dev :=
  let d := d.modSeq q fun x => { x with queue := x.queue.filter fun k => !k.sameBeat c }
  let d := d.modFab fun f => { f with cmds := f.cmds.filter fun e => !(e.1 == q && e.2.sameBeat c) }
  let x := d.seq q
  match x.inflight.find? fun k => k.sameBeat c with
  | some k => if x.fault.isSome then d else seqAbort q 0 0 k true d
  | none => beatReport q c d

/-! ### Halts (R84 to R87) -/

/-- A halt request reaches a sequencer (R84, R85, R87). -/
def haltSeq (q : Nat) (d : Dev) : Dev :=
  let st := d.seqSt q
  let x := d.seq q
  if st = stIdle then setSt q stHalting 1 (d.modSeq q fun x => { x with resumeTo := stIdle })
  else if st = stRun then
    if x.locks.isEmpty && !d.inAtom q then setSt q stHalting 1 (d.modSeq q fun x => { x with resumeTo := stRun })
    else { dbgBit DBG_DEFER_LO q true d with ctl := { d.ctl with deferTick := kvPut d.ctl.deferTick q d.time.tb } }
  else if st = stAborting then d.modSeq q fun x => { x with haltPend := 1 }
  else d

/-- The sequencers named by a write to one of the two words. -/
def namedSeqs (hi : Bool) (data : Word) : List Nat :=
  (below (if hi then 16 else 32) fun i => bitOf data i).map fun i => i + (if hi then 32 else 0)

/-- Checks of a write to the halt and resume registers of the DBG page: the host writes the window registers only
(R56), and nothing writes the page while the session is locked (R79) (DEDUCED, unsafe: notes/assumptions/23.md). -/
def dbgChecks (d : Dev) (agent : Nat) (resv : Bool) : List Check :=
  [(.privilege, !d.mayWrite agent .dbg || !d.unlocked || agent == agentHost), (.state, !d.up), (.reserved, resv)]

/-- A halt request is kept in HALT_REQ until the sequencer is asked to resume, a resume in RESUME until it is asked to
halt: the spec does not say when the bits fall (DESIGN CHOICE, unsafe: notes/assumptions/107.md). -/
def haltAsked (q : Nat) (halt : Bool) (d : Dev) : Dev :=
  dbgBit DBG_HALT_REQ_LO q halt (dbgBit DBG_RESUME_LO q (!halt) d)

def haltRequest (agent : Nat) (hi : Bool) (data : Word) (d : Dev) : Dev :=
  d.checked .dbg (if hi then 0x124 else 0x120) agent (dbgChecks d agent (hi && fld data 31 16 != 0))
    fun d => (namedSeqs hi data).foldl (fun d q => haltSeq q (haltAsked q true d)) d

/-- The engines of the subscribed tiles have completed the work broadcast to them (R84): the sequencer is halted (DEDUCED, unsafe: notes/assumptions/53.md). -/
def seqHalted (q : Nat) (d : Dev) : Dev :=
  let x := d.seq q
  if d.seqSt q = stHalting && x.tree.isEmpty && x.dcwNow.isNone && x.fetched.isNone && x.lockWait.isNone &&
      (subscribed d q).all (fun s => (d.tile s).quiet) then
    dbgBit DBG_HALTED_LO q true (setSt q stHalted (d.rdF (SEQ_SEQ_STATE q) 7 4) d)
  else d

/-- A deferred halt takes effect (R85) (DEDUCED, unsafe: notes/assumptions/53.md). -/
def deferredHalt (q : Nat) (d : Dev) : Dev :=
  if dbgIs d DBG_DEFER_LO q && (d.seq q).locks.isEmpty && !d.inAtom q && (d.seqSt q = stRun || d.seqSt q = stIdle) then
    let st := d.seqSt q
    setSt q stHalting 1 ((dbgBit DBG_DEFER_LO q false d).modSeq q fun x => { x with resumeTo := st })
  else d

/-- A deferred halt is forced (R86) (DEDUCED, unsafe: notes/assumptions/53.md). -/
def forcedHalt (q : Nat) (d : Dev) : Dev :=
  if dbgIs d DBG_DEFER_LO q && d.seqSt q = stRun then
    let atom := d.inAtom q
    let valid := d.rdF (SEQ_LOCKS_VALID q) 3 0
    let cur := (d.seq q).cur
    let d := dbgBit DBG_DEFER_LO q false d
    let d := seqFlag q 3 (if atom then seqFlag q 1 d else d)
    let d := setAtom q false (seqBreakLocks q d)
    let d := d.record 0x0A 9 q (valid + b2n atom * 16) (cur.map fun c => { tag := c.tag, stream := c.stream, withheld := true })
    let d := d.modSeq q fun x => { x with fetched := none, lockWait := none, syncWait := false, resumeTo := stRun }
    setSt q stHalting 4 d
  else d

/-- A resume (R84, R86, R87, R230): after a forced halt the beat's command is discarded, and the beat restarts; a command
that faulted or was stopped in the meantime enters ABORTING. -/
def resumeSeq (q : Nat) (d : Dev) : Dev :=
  if d.seqSt q = stHalted then
    let cause := d.rdF (SEQ_SEQ_STATE q) 7 4
    let d := dbgBit DBG_HALTED_LO q false d
    let d := match cause, (d.seq q).cur with
      | 4, some c => if (d.seq q).fault.isSome then d else seqAbort q 0 0 c true d
      | _, _ => d
    let x := d.seq q
    setSt q (if x.fault.isSome then stAborting else if x.cur.isSome then stRun else stIdle) 0 d
  else d

def resumeRequest (agent : Nat) (hi : Bool) (data : Word) (d : Dev) : Dev :=
  d.checked .dbg (if hi then 0x12C else 0x128) agent (dbgChecks d agent (hi && fld data 31 16 != 0))
    fun d => (namedSeqs hi data).foldl (fun d q => resumeSeq q (haltAsked q false d)) d

/-! ### Loading banks and swapping them (R220 to R223, R267) -/

def imemBank (d : Dev) (q : Nat) : Nat := d.rdF (SEQ_IMEM_ADDR q) 31 31
/-- A copy into a bank is in progress. -/
def copying (d : Dev) (q b : Nat) : Bool := match (d.seq q).copy with | some c => c.bank == b | none => false

/-- IMEM_ADDR names no word of its bank (R267). -/
def imemRange (d : Dev) (q : Nat) : Bool :=
  let dcw := bankDcw d q (imemBank d q)
  let w := d.rdF (SEQ_IMEM_ADDR q) 3 0
  let i := d.rdF (SEQ_IMEM_ADDR q) 17 4
  if dcw then decide (1024 ≤ i) else decide (8192 ≤ i) || decide (1 < w)

/-- The word that IMEM_ADDR addresses (DEDUCED, unsafe: notes/assumptions/54.md). -/
def imemIndex (d : Dev) (q : Nat) : Nat :=
  16384 * imemBank d q + (if bankDcw d q (imemBank d q) then 16 else 2) * d.rdF (SEQ_IMEM_ADDR q) 17 4 + d.rdF (SEQ_IMEM_ADDR q) 3 0

/-- IMEM_ADDR advances by one word (R266). -/
def imemNext (q : Nat) (d : Dev) : Dev :=
  let last := if bankDcw d q (imemBank d q) then 15 else 1
  let w := d.rdF (SEQ_IMEM_ADDR q) 3 0
  if w < last then d.wrF (SEQ_IMEM_ADDR q) 3 0 (w + 1)
  else (d.wrF (SEQ_IMEM_ADDR q) 3 0 0).wrF (SEQ_IMEM_ADDR q) 17 4 (d.rdF (SEQ_IMEM_ADDR q) 17 4 + 1)

/-- A bank in which a command has met an uncorrectable entry is loaded anew (13_faults_recovery.md R512) (DEDUCED, unsafe: notes/assumptions/132.md). -/
def bankLoaded (bank : Nat) (ue : KV Bool) : KV Bool := if (kvGet? ue bank).isSome then kvPut ue bank true else ue

/-- An access to IMEM_DATA (R220, R221, R223, R267): `data` a word written, none a read. -/
def imemAccess (q agent : Nat) (data : Option Word) (d : Dev) : Dev :=
  let b := imemBank d q
  match data with
  | none =>
    if d.isFenced (.seq q) then d.answerW 0
    else if imemRange d q then (d.reject (.seq q) 0x190 agent .range).answerW 0
    else imemNext q (d.answerW (kvGetD (d.seq q).imem 0 (imemIndex d q)))
  | some w =>
    d.checked (.seq q) 0x190 agent
      (d.baseChecks agent (.seq q) ++
       [(.busy, copying d q b || swapPending d q), (.activeBank, b == activeBank d q), (.range, imemRange d q)])
      fun d =>
        let last := if bankDcw d q b then 15 else 1
        let open_ := decide (d.rdF (SEQ_IMEM_ADDR q) 3 0 < last)
        let k := imemIndex d q
        imemNext q (d.modSeq q fun x => { x with imem := kvSetD x.imem 0 k w, loading := if open_ then some b else none, ue := bankLoaded b x.ue })

/-- A write of DMA_CTRL (R221, R267) (DEDUCED, unsafe: notes/assumptions/54.md). -/
def imemDmaGo (q agent : Nat) (data : Word) (d : Dev) : Dev :=
  let go := bitOf data 0
  let b := fld data 1 1
  let dcw := bitOf data 2
  let n := fld data 29 16
  let src := (d.rd (SEQ_DMA_SRC_LO q)).toNat + 2 ^ 32 * d.rdF (SEQ_DMA_SRC_HI q) 6 0
  d.checked (.seq q) 0x19C agent
    (d.baseChecks agent (.seq q) ++
     [(.busy, (d.seq q).copy.isSome || (go && swapPending d q)), (.activeBank, go && b == activeBank d q),
      (.reserved, decide (data.toNat &&& 0xC000FFF8 ≠ 0)),
      (.range, go && (n == 0 || decide ((if dcw then 1024 else 8192) < n) || decide (src % 64 ≠ 0))),
      (.unmapped, go && decide (memCapacity < src + n * (if dcw then 64 else 8)))])
    fun d =>
      let d := d.wr (SEQ_DMA_CTRL q) data
      if go then
        let d := d.setActive (.seq q) (0x184 + 4 * b) (setFld (d.rd (bankCfgA q b)) 29 16 0)
        let d := d.wrF (seqBase q + 0xC) 4 4 1
        d.modSeq q fun x => { x with copy := some { bank := b, dcw, entries := n, src } }
      else d

/-- The copy ends (R221): `ue` when a word it read is uncorrectable; a poisoned line is. The cause byte of the record is
not stated for a copy: a free value (DEDUCED, unsafe: notes/assumptions/54.md). -/
def imemDmaDone (q : Nat) (ue : Bool) (m : ExtMem) (d : Dev) : Dev :=
  match (d.seq q).copy with
  | none => d
  | some c =>
    let n := c.entries * (if c.dcw then 16 else 2)
    let bad := ue || (List.range ((4 * n + 63) / 64)).any fun k => m.poisoned (c.src + 64 * k)
    let d := (d.wrF (SEQ_DMA_CTRL q) 0 0 0).wrF (seqBase q + 0xC) 4 4 0
    let d := d.modSeq q fun x => { x with copy := none }
    if bad then
      let (v, d) := d.free
      (seqFlag q 5 d).record 0x09 9 q (v % 256)
    else
      let ws := leWords (m.read c.src (4 * n))
      let d := d.modSeq q fun x => { x with
        imem := ws.zipIdx.foldl (fun im e => kvSetD im 0 (16384 * c.bank + e.2) e.1) x.imem, ue := bankLoaded c.bank x.ue }
      d.setActive (.seq q) (0x184 + 4 * c.bank) (setFld (setFld (d.rd (bankCfgA q c.bank)) 0 0 (b2n c.dcw)) 29 16 c.entries)

/-- The other bank becomes active (R222, R223). A swap that changes the LEN or MODE in force advances CFG_EPOCH (R268) (DEDUCED, unsafe: notes/assumptions/54.md). -/
def swapNow (q : Nat) (d : Dev) : Dev :=
  let b := 1 - activeBank d q
  let d := if d.up && (bankDcw d q b != bankDcw d q (1 - b) || bankLen d q b != bankLen d q (1 - b))
    then d.configChanged (.seq q) (digestOf d (.seq q)) else d
  let d := (d.wrF (SEQ_BANK_CTRL q) 0 0 b).wrF (SEQ_BANK_CTRL q) 2 2 0
  let d := setPc q (d.seq q).pc d
  d.traceEvent (q / 4) 4 q b (d.rd (bankCfgA q b)).toNat 0 5

/-- Why a swap request is rejected (R222) (DEDUCED, unsafe: notes/assumptions/54.md). -/
def swapChecks (d : Dev) (q : Nat) : List Check :=
  let b := 1 - activeBank d q
  [(.state, bankLen d q b == 0 || (bankDcw d q b && !seqExact d q)),
   (.busy, copying d q b || (d.seq q).loading == some b)]

/-- An accepted swap request (R223) (DEDUCED, unsafe: notes/assumptions/54.md). -/
def swapRequest (q : Nat) (d : Dev) : Dev :=
  if (d.seq q).cur.isNone then swapNow q d else d.wrF (SEQ_BANK_CTRL q) 2 2 1

/-- A write of BANK_CTRL (R222). -/
def bankSwapWrite (q agent : Nat) (data : Word) (d : Dev) : Dev :=
  let req := bitOf data 1 && !swapPending d q
  d.checked (.seq q) 0x180 agent
    (d.baseChecks agent (.seq q) ++ (if req then swapChecks d q else []) ++ [(.reserved, decide (fld data 31 3 ≠ 0))])
    fun d => if req then swapRequest q d else d

/-- The pending swap takes effect (R223). -/
def swapPendingApply (q : Nat) (d : Dev) : Dev :=
  if swapPending d q && (d.seq q).cur.isNone then swapNow q d else d

/-! ### Scheduled swaps (R224) -/

/-- A scheduled swap asks its sequencers once none of them holds a queued command of a beat issued before: each swaps
at once or at its END, or its page records the rejection and it keeps its bank. -/
def swapAsk (w : SwapWait) (d : Dev) : SwapWait × Dev :=
  let d' := w.mask.foldl (fun d q =>
    match firstFail ((.fenced, d.isFenced (.seq q)) :: swapChecks d q) with
    | some c => if swapPending d q then d else d.reject (.seq q) 0x180 w.owner c
    | none => if swapPending d q then d else swapRequest q d) d
  ({ w with asked := true, left := w.mask.filter (swapPending d') }, d')

/-- One scheduled swap: it asks, waits, or is complete and leaves the list; one that takes effect after its
instant is recorded as late, unless its firing was (10_cadence_time.md R416) (DEDUCED, unsafe: notes/assumptions/37.md). -/
def swapStep (w : SwapWait) (d : Dev) : List SwapWait × Dev :=
  let r := if w.asked then ({ w with left := w.left.filter (swapPending d) }, d)
    else if w.mask.any fun q => !(d.seq q).queue.isEmpty || d.fab.cmds.any fun e => e.1 == q then (w, d) else swapAsk w d
  if r.1.asked && r.1.left.isEmpty then
    ([], if !w.late && decide (w.tick < d.time.tb) then markLate w.entry r.2 else r.2)
  else ([r.1], r.2)

/-- The scheduled swaps that wait, oldest first (DEDUCED, unsafe: notes/assumptions/37.md). -/
def swapWaits (d : Dev) : Dev :=
  let r := d.strm.swaps.foldl (fun (r : List SwapWait × Dev) w => let x := swapStep w r.2; (r.1 ++ x.1, x.2)) (([] : List SwapWait), d)
  { r.2 with strm := { r.2.strm with swaps := r.1 } }

/-! ### Other registers of the SEQ page (R215, R220, R221, R223, R245, R266) -/

/-- A device capability is licensed (R70). -/
def licensed (d : Dev) (cap : Nat) : Bool := bitOf (d.rd (DEV_CAP (2 * capIds.idxOf cap + 1))) 31

/-- Checks of a value written to a SEQ register that has no command of its own, at a page offset. -/
def seqValueChecks (d : Dev) (q off : Nat) (w : Word) : List Check :=
  let running := (d.seq q).cur.isSome
  if off = 0x100 then
    [(.licence, bitOf w 0 && decide (q % 4 < 3) && !licensed d 0x030), (.state, !bitOf w 0 && seqDcw d q),
     (.busy, running), (.reserved, decide (fld w 31 1 ≠ 0))]
  else if off = 0x104 then [(.busy, running), (.reserved, decide (w.toNat &&& 0xFFFFC0C0 ≠ 0))]
  else if off = 0x10C then [(.reserved, decide (fld w 31 6 ≠ 0))]
  else if off = 0x184 ∨ off = 0x188 then
    let b := (off - 0x184) / 4
    [(.busy, copying d q b || swapPending d q), (.activeBank, b == activeBank d q),
     (.reserved, decide (w.toNat &&& 0xC000FFFE ≠ 0)), (.range, decide ((if bitOf w 0 then 1024 else 8192) < fld w 29 16))]
  else if off = 0x18C then [(.reserved, decide (w.toNat &&& 0x7FFC0000 ≠ 0))]
  else if off = 0x194 then [(.busy, (d.seq q).copy.isSome)]
  else if off = 0x198 then [(.busy, (d.seq q).copy.isSome), (.reserved, decide (fld w 31 7 ≠ 0))]
  else if off = 0x1A0 then [(.reserved, decide (fld w 31 3 ≠ 0))]
  else if off = 0x1A8 then [(.reserved, decide (fld w 31 16 ≠ 0))]
  else []

/-- A checked write of such a register takes effect. -/
def seqValueSet (q off : Nat) (w : Word) (d : Dev) : Dev :=
  if off = 0x10C then d.wr (SEQ_FLAGS q) (d.rd (SEQ_FLAGS q) &&& ~~~w) else d.setActive (.seq q) off w

/-! ### Commands -/

/-- VIOLATION_ACCESS (R64): an access by an agent to an address that BAR 0 reserves or that lies beyond installed
memory in BAR 2. An access that is no violation is not this event. -/
def execViolationAccess (agent : Nat) (bar2 write : Bool) (addr : Nat) (s : State) : Result :=
  onDev (fun d => if (if bar2 then decide (memCapacity ≤ addr) else !implemented addr) then d.violates agent bar2 write addr else d) s

/-- HALT_REQUEST (R84): a write of HALT_REQ_LO or HALT_REQ_HI. -/
def execHaltRequest (agent : Nat) (hi : Bool) (data : Word) (s : State) : Result := onDev (haltRequest agent hi data) s
/-- RESUME_REQUEST (R84). -/
def execResumeRequest (agent : Nat) (hi : Bool) (data : Word) (s : State) : Result := onDev (resumeRequest agent hi data) s
/-- SEQ_HALTED (R84). -/
def execSeqHalted (q : Nat) (s : State) : Result := guardUnit (unitSeq q) (onMesh (q / 4) (seqHalted q) s)
/-- DEFERRED_HALT (R85). -/
def execDeferredHalt (q : Nat) (s : State) : Result := guardUnit (unitSeq q) (onMesh (q / 4) (deferredHalt q) s)
/-- FORCED_HALT (R86). -/
def execForcedHalt (q : Nat) (s : State) : Result := guardUnit (unitSeq q) (onMesh (q / 4) (forcedHalt q) s)
/-- SEQ_COMMAND_ENQUEUE (R226). -/
def execSeqCommandEnqueue (q : Nat) (s : State) : Result := guardUnit (unitSeq q) (onMesh (q / 4) (cmdEnqueue q) s)
/-- SEQ_COMMAND_START (R227). -/
def execSeqCommandStart (q : Nat) (s : State) : Result := guardUnit (unitSeq q) (onMesh (q / 4) (fun d => swapWaits (cmdStart q d)) s)
/-- SEQ_ISSUE (R216). -/
def execSeqIssue (q ecc : Nat) (s : State) : Result := guardUnit (unitSeq q) (onMesh (q / 4) (seqIssue q ecc) s)
/-- TILE_FAULT_REPORT (R261). -/
def execTileFaultReport (q : Nat) (s : State) : Result := guardUnit (unitSeq q) (onMesh (q / 4) (tileReport q) s)
/-- SEQ_COMMAND_COMPLETE (R229). -/
def execSeqCommandComplete (q : Nat) (s : State) : Result := guardUnit (unitSeq q) (onMesh (q / 4) (cmdComplete q) s)
/-- IMEM_ACCESS (R220). -/
def execImemAccess (q agent : Nat) (data : Option Word) (s : State) : Result := guardUnit (unitSeq q) (onDev (imemAccess q agent data) s)
/-- IMEM_DMA_GO (R221). -/
def execImemDmaGo (q agent : Nat) (data : Word) (s : State) : Result := guardUnit (unitSeq q) (onDev (imemDmaGo q agent data) s)
/-- IMEM_DMA_DONE (R221). -/
def execImemDmaDone (q : Nat) (ue : Bool) (s : State) : Result := guardUnit (unitSeq q) (onDevRead (fun x d => if d.meshRuns (q / 4) then imemDmaDone q ue x d else d) s)
/-- BANK_SWAP_REQUEST (R222). -/
def execBankSwapRequest (q agent : Nat) (data : Word) (s : State) : Result := guardUnit (unitSeq q) (onDev (bankSwapWrite q agent data) s)
/-- BANK_SWAP_PENDING_APPLY (R223). -/
def execBankSwapPendingApply (q : Nat) (s : State) : Result := guardUnit (unitSeq q) (onMesh (q / 4) (fun d => swapWaits (swapPendingApply q d)) s)
/-- LOCK_RETRY (R252). -/
def execLockRetry (q : Nat) (s : State) : Result := guardUnit (unitSeq q) (onMesh (q / 4) (lockRetry q) s)
/-- LOCK_TIMEOUT (R252). -/
def execLockTimeout (q : Nat) (s : State) : Result := guardUnit (unitSeq q) (onMesh (q / 4) (lockTimeout q) s)
/-- SYNC_RESUME (R240). -/
def execSyncResume (q : Nat) (s : State) : Result := guardUnit (unitSeq q) (onMesh (q / 4) (syncResume q) s)
/-- NOP (R240). -/
def execNop (q : Nat) (s : State) : Result := guardUnit (unitSeq q) (onMesh (q / 4) (seqExec q 0x00 fun _ d => d) s)
/-- END (R229). -/
def execEndCommand (q : Nat) (s : State) : Result := guardUnit (unitSeq q) (onMesh (q / 4) (seqExec q 0x01 fun _ d => cmdEnd q d) s)
/-- JMP (R240). -/
def execJmp (q : Nat) (s : State) : Result := guardUnit (unitSeq q) (onMesh (q / 4) (seqExec q 0x02 (seqJump q)) s)
/-- LOOP (R240). -/
def execLoop (q : Nat) (s : State) : Result := guardUnit (unitSeq q) (onMesh (q / 4) (seqExec q 0x03 (seqLoop q)) s)
/-- LCSET (R240). -/
def execLcset (q : Nat) (s : State) : Result := guardUnit (unitSeq q) (onMesh (q / 4) (seqExec q 0x04 (seqLcset q)) s)
/-- ATOM_BEGIN (R250). -/
def execAtomBegin (q : Nat) (s : State) : Result := guardUnit (unitSeq q) (onMesh (q / 4) (seqExec q 0x05 fun _ d => setAtom q true d) s)
/-- ATOM_END (R250). -/
def execAtomEnd (q : Nat) (s : State) : Result := guardUnit (unitSeq q) (onMesh (q / 4) (seqExec q 0x06 fun _ d => setAtom q false d) s)
/-- SYNC (R240). -/
def execSync (q : Nat) (s : State) : Result := guardUnit (unitSeq q) (onMesh (q / 4) (seqExec q 0x07 fun _ d => seqSync q d) s)
/-- LKACQ (R252). -/
def execLkacq (q : Nat) (s : State) : Result := guardUnit (unitSeq q) (onMesh (q / 4) (seqExec q 0x08 fun i d => seqLockRead q (i.f 7 0) d) s)
/-- LKREL (R264). -/
def execLkrel (q : Nat) (s : State) : Result := guardUnit (unitSeq q) (onMesh (q / 4) (seqExec q 0x09 fun i d => seqLockRelease q (i.f 7 0) d) s)
/-- BRB (R240). -/
def execBrb (q : Nat) (s : State) : Result := guardUnit (unitSeq q) (onMesh (q / 4) (seqExec q 0x0A (seqBrb q)) s)

end Sys2Proof.Machine
end

