-- ==== Sys2Proof/Machine/Cti.lean ====
section
/-! DEFINITION. The CTI level in the tile: arrival of broadcasts, dispatch, start and completion in the engines, and the
instructions of the control, load and send engines (03_tile.md R110 to R137, 06_sequencers_isa.md R232 to R243). -/

namespace Sys2Proof.Machine

/-! ### Broadcast (R216, R217) -/

/-- Entries of a tile's input buffer (R217). -/
def inputDepth : Nat := 32

/-- The oldest entry on a sequencer's tree reaches its tiles (R214, R216); a tile discards the instructions of a command
that it has faulted (R261). An entry waits while the input buffer of a tile is full (R217). -/
def broadcastArrival (q : Nat) (d : Dev) : Dev :=
  let x := d.seq q
  match x.tree with
  | [] => d
  | i :: rest =>
    if i.dcw then
      if x.dcwNow.isSome then d else d.modSeq q fun x => { x with tree := rest, dcwNow := some i }
    else if (subscribed d q).any fun s => decide (inputDepth ≤ (d.tile s).input.length) then d
    else
      let d := d.modSeq q fun x => { x with tree := rest }
      (subscribed d q).foldl (fun d s =>
        if (d.tile s).faulted.contains i.cmd.serial then d else d.modTile s fun t => { t with input := t.input ++ [i] }) d

/-- HOLD of a tile, as it stands, reaches its sequencer (R217). -/
def holdSignal (s : Nat) (d : Dev) : Dev :=
  match d.tileSeq s with
  | some q => d.modSeq q fun x => { x with hold := setPut x.hold s (decide (8 ≤ (d.tile s).input.length)) }
  | none => d

/-! ### Dispatch (R111, R114, R235, R258) -/

/-- The executing engine (R240): 0 CTL, 1 LD, 2 MX, 3 VX, 4 SD. -/
def engineOf (op : Nat) : Nat := if op < 0x20 then 0 else if op < 0x30 then 1 else if op < 0x40 then 2 else if op < 0x50 then 3 else 4

/-- Generator operands of an instruction, in the order of R240: the generator, and whether it is stepped. -/
def genOps (i : Instruct) : List (Nat × Bool) :=
  match i.opcode with
  | 0x20 => [(i.f 31 28, i.b 27), (i.f 26 23, i.b 22)]
  | 0x21 => [(i.f 29 26, i.b 25)]
  | 0x40 | 0x41 | 0x49 | 0x4A => [(i.f 26 23, i.b 22)]
  | 0x4C | 0x4E | 0x4F => [(i.f 31 28, false), (i.f 27 24, false), (i.f 23 20, false)]
  | 0x4D => [(i.f 31 28, false), (i.f 27 24, false)]
  | 0x50 | 0x51 => [(i.f 27 24, i.b 23)]
  | 0x52 => [(i.f 26 23, false)]
  | _ => []

/-- Generators that an instruction names (R235). -/
def genNames (i : Instruct) : List Nat :=
  if i.opcode = 0x17 ∨ i.opcode = 0x18 then [i.f 31 28] else (genOps i).map (·.1)

/-- An AGSET on a generator the instruction names has not completed (R235). -/
def agHeld (t : Tile) (i : Instruct) : Bool :=
  let e := t.engine 0
  let pend := (e.queue.map (·.ins)) ++ (match e.run with | some r => [r.q.ins] | none => [])
  pend.any fun k => k.opcode == 0x18 && (genNames i).contains (k.f 31 28)

/-- TILE_CLASS (R114, R239, R258). -/
def classBad (d : Dev) (s e : Nat) (i : Instruct) : Bool :=
  let w := i.waits
  w.any (fun c => decide (2 ≤ tokMode d s c) || (tokMode d s c == 1 && tokConsumer d s c != e)) ||
  decide (2 ≤ tokMode d s i.sig) || (tokMode d s i.sig == 1 && tokProducer d s i.sig != e) ||
  (List.range (tokNeeds i)).any fun k =>
    -- TOK_B alone takes the second class only
    !(i.opcode == 0x30 && k == 0 && !i.b 20) && tokMode d s (w.getD k 0) != 1

/-- A format or ROUND that R242 and R212 exclude. -/
def fmtBad (i : Instruct) : Bool :=
  let plain := [0, 1, 2, 3, 4, 5]
  match i.opcode with
  | 0x4E => !(plain.contains (i.f 7 4) || decide (6 ≤ i.f 7 4 ∧ i.f 7 4 ≤ 11)) || !plain.contains (i.f 3 0) || i.f 13 12 == 3
  | 0x4F => !decide (6 ≤ i.f 3 0 ∧ i.f 3 0 ≤ 11) || i.f 13 12 == 3
  | _ => false

/-- The fault that the controller finds at dispatch (R258); 0 when it finds none (DEDUCED, unsafe: notes/assumptions/46.md). -/
def dispatchCause (d : Dev) (s : Nat) (i : Instruct) : Nat :=
  let e := engineOf i.opcode
  if ((d.tile s).engine e).stopped then 0x14
  else if classBad d s e i then 0x10
  else if i.opcode = 0x19 && !tcfgWritable (4 * i.f 9 2) then 0x12
  else if fmtBad i then 0x13
  else 0

/-- The addresses are taken and the steps applied at the same time (R235); AGSETI takes effect whatever its guard. -/
def dispatchGens (t : Tile) (i : Instruct) : List Nat × Tile :=
  let as := (genOps i).map fun g => (t.ag g.1).addr
  let t := (genOps i).foldl (fun t g => if g.2 then t.modAg g.1 AddrGen.step else t) t
  (as, if i.opcode = 0x17 then t.modAg (i.f 31 28) fun g => g.setField (i.f 26 24) (i.f 21 0) else t)

/-- The controller dispatches the oldest instruction of its input buffer (R111, R217) (DESIGN CHOICE, unsafe: notes/assumptions/4.md). -/
def tileDispatch (s : Nat) (d : Dev) : Dev :=
  let t := d.tile s
  match t.input with
  | [] => d
  | i :: rest =>
    let e := engineOf i.opcode
    if d.tileFenced s || decide (queueDepth e ≤ (t.engine e).queue.length) || agHeld t i then d
    else
      match dispatchCause d s i with
      | 0 =>
        let (ags, t) := dispatchGens { t with input := rest } i
        let x := t.engine e
        d.setTile s { (t.setEngine e { x with queue := x.queue ++ [{ ins := i, ags, ord := t.nextOrd }] }) with nextOrd := t.nextOrd + 1 }
      | k => tileFault s k i t.nextOrd (d.setTile s { t with input := rest })

/-! ### Start (R115, R118, R238, R239) -/

/-- The descriptors that an instruction would pop, by WAIT class; a NULL class gives the zero descriptor (DEDUCED, unsafe: notes/assumptions/45.md). -/
def popHeads (d : Dev) (s : Nat) (i : Instruct) : List TokDesc :=
  i.waits.map fun c => if tokMode d s c = 1 then (kvGetD (d.tile s).tok [] c).headD {} else {}

/-- The descriptors that supply a buffer (R239). -/
def supply (i : Instruct) (ps : List TokDesc) : List TokDesc :=
  if i.opcode = 0x30 then (if i.b 20 then [ps.getD 0 {}] else []) ++ (if i.b 19 then [ps.getD 1 {}] else [])
  else if tokNeeds i = 1 then [ps.getD 0 {}] else []

/-- The guard takes the instruction off (R238): a vector instruction (unit VX) when no lane is on, another when bit 0 is 0 (DEDUCED, unsafe: notes/assumptions/47.md). -/
def guardOff (i : Instruct) (g : Nat) : Bool := if engineOf i.opcode = 3 then g == 0 else !g.testBit 0

/-- Instructions that write no scratchpad buffer (R117). -/
def noBuffer (op : Nat) : Bool :=
  decide (op < 0x20) || [0x40, 0x49, 0x42, 0x43, 0x44, 0x45, 0x46, 0x47, 0x48, 0x50, 0x51, 0x52, 0x53].contains op

/-- The class waits and the signal slot allow the start (R115). -/
def tokensReady (d : Dev) (s : Nat) (i : Instruct) : Bool :=
  i.waits.all (fun c => tokMode d s c != 1 || decide (0 < tokOcc d s c)) && (tokMode d s i.sig != 1 || tokFree d s i.sig)

/-- The word address and length of a stream operand: the popped descriptor's, or a generator's and s[LEN] (R239, R240) (DEDUCED, unsafe: notes/assumptions/43.md). -/
def streamOp (t : Tile) (i : Instruct) (tokBit : Nat) (ag : Nat) (len : Nat) (ps : List TokDesc) : Nat × Nat :=
  if i.b tokBit then ((ps.getD 0 {}).addr, (ps.getD 0 {}).len) else (ag, scalar t i.cmd len)

def srcFmt (i : Instruct) : Fmt := (fmtOf (i.f 7 4)).getD .fp32
def dstFmt (i : Instruct) : Fmt := (fmtOf (i.f 3 0)).getD .fp32

/-- The element count of VCVT and VQMX (R242) (DEDUCED, unsafe: notes/assumptions/46.md). -/
def cvtCount (t : Tile) (i : Instruct) (ps : List TokDesc) : Nat :=
  let b := if i.opcode = 0x4E then (srcFmt i).bits else 32
  if i.b 14 then 32 * (ps.getD 0 {}).len / b else scalar t i.cmd (i.f 19 15)

/-- A request block of EREQ (09_external_memory.md R370). -/
structure ReqBlock where
  write : Bool
  cls : Nat
  lines : Nat
  landAddr : Nat
  addr : Nat

def reqBlock (ws : List Word) : ReqBlock :=
  let w := fun i => ws.getD i 0
  { write := fld (w 0) 1 0 == 1, cls := fld (w 0) 7 4, lines := fld (w 0) 19 8 + 1, landAddr := fld (w 1) 20 0,
    addr := (w 2).toNat + 2 ^ 32 * fld (w 3) 6 0 }

/-- The parts of a request: a BAR 2 offset and its lines, split at every 1 KiB boundary (R372). -/
def reqParts (addr lines : Nat) : List (Nat × Nat) :=
  let n := (addr % 1024 / 64 + lines + 15) / 16
  (List.range n).map fun k =>
    let first := if k = 0 then addr else addr / 1024 * 1024 + 1024 * k
    let last := min (addr + 64 * lines) (addr / 1024 * 1024 + 1024 * (k + 1))
    (first, (last - first) / 64)

/-- Bytes of a channel's region (R367). -/
def regionBytes (j : Nat) : Nat := 4 * (45 - j) * 2 ^ 30

/-- In PAIRED mode an offset of the north region that a south-channel tile names is relocated to the same place in the
south region (14_channels_twin_herd.md R524). -/
def relocate (d : Dev) (s a : Nat) : Nat :=
  let j := joinGib d
  if d.chanMode = 2 ∧ siteChannel s = 1 ∧ 8 * j * 2 ^ 30 ≤ a ∧ a < 8 * j * 2 ^ 30 + regionBytes j then a + regionBytes j else a

/-- With the boundary closed, a part must lie in its own channel's region (14_channels_twin_herd.md R524). -/
def partClosed (d : Dev) (s a : Nat) : Bool :=
  let a := relocate d s a
  d.chanMode != 0 && (decide (a < 8 * joinGib d * 2 ^ 30) || portChannel (memMap (joinGib d) a).1 != siteChannel s)

/-- The block `ws` at s[A] is invalid (R371, 14_channels_twin_herd.md R524). -/
def ereqBad (d : Dev) (s a : Nat) (ws : List Word) : Bool :=
  if a % 4 ≠ 0 ∨ spadWords < a + 4 then true
  else
    let w := fun i => ws.getD i 0
    let b := reqBlock ws
    decide (1 < fld (w 0) 1 0) || decide (fld (w 0) 3 2 ≠ 0 ∨ fld (w 0) 31 20 ≠ 0 ∨ fld (w 1) 31 21 ≠ 0 ∨ fld (w 3) 31 7 ≠ 0) ||
    decide (b.landAddr % 16 ≠ 0 ∨ b.addr % 64 ≠ 0 ∨ spadWords < b.landAddr + 16 * b.lines ∨ memCapacity < b.addr + 64 * b.lines) ||
    !(tokMode d s b.cls == 1 && tokProducer d s b.cls == 5) ||
    (reqParts b.addr b.lines).any (fun p => partClosed d s p.1)

/-- A neighbour entry names a neighbour (R122). -/
def nbrValid (d : Dev) (s dir : Nat) : Bool := bitOf (d.rd (TILE_NBR s dir)) 31

def credEn (d : Dev) (s k : Nat) : Bool := bitOf (d.rd (TILE_SCRED_STATE s k)) 31
def credits (d : Dev) (s k : Nat) : Nat := d.rdF (TILE_SCRED_STATE s k) 8 0
def outCredits (d : Dev) (s dir : Nat) : Nat :=
  if bitOf (d.rd (TILE_OUTWIN_STATE s dir)) 31 then d.rdF (TILE_OUTWIN_STATE s dir) 8 0 else 0

/-- Waits of an instruction that does its work, beyond its tokens (R128, R133, R371). -/
def resourcesReady (d : Dev) (s : Nat) (i : Instruct) : Bool :=
  match i.opcode with
  | 0x1A => !nbrValid d s (i.f 1 0) || (winEn d s (i.f 1 0) && decide (winGranted d s (i.f 1 0) + i.f 15 8 + 1 ≤ winChunks d s (i.f 1 0)))
  | 0x50 => credEn d s (i.f 31 28) && decide (0 < credits d s (i.f 31 28))
  | 0x51 => !nbrValid d s (i.f 31 30) || decide (i.f 15 8 + 1 ≤ outCredits d s (i.f 31 30))
  | 0x53 =>
    let t := d.tile s
    let a := scalar t i.cmd (i.f 31 27)
    ereqBad d s a (t.rdN a 4) || (decide (t.requests.length < 8) &&
      (let c := (reqBlock (t.rdN a 4)).cls
       decide (tokOcc d s c + (t.requests.filter fun r => r.cls == c).length < tokDepth d s c)))
  | _ => true

/-- The fault that an engine finds at start (R258); 0 when it finds none. A descriptor that the scratchpad does not hold
is no illegal descriptor: its read aborts the instruction (04_matrix_unit.md R159). -/
def startCause (d : Dev) (s : Nat) (i : Instruct) (off : Bool) (ps : List TokDesc) : Nat :=
  let t := d.tile s
  match i.opcode with
  | 0x19 => if !off && (firstFail (tileValueChecks d s (4 * i.f 9 2) (w32 (scalar t i.cmd (i.f 26 22))))).isSome then 0x12 else 0
  | 0x30 | 0x31 =>
    let (a, ms) := mxDescs t i ps
    if !off && !rangesBad [(a, 12 * ms.length)] && ms.any (fun m => mxIllegal m (i.opcode == 0x31) a) then 0x11 else 0
  | 0x4E => if (srcFmt i).isMx && cvtCount t i ps % 32 != 0 then 0x13 else 0
  | 0x4F => if cvtCount t i ps % 32 != 0 then 0x13 else 0
  | _ => 0

/-- Registers that an instruction reads (R238, R240), numbered as `Tile.tainted` is. -/
def regSources (i : Instruct) : List Nat :=
  let v := fun (hi lo : Nat) => 32 + i.f hi lo
  let p := fun (hi lo : Nat) => 64 + i.f hi lo
  let len := if i.b 14 then [] else [i.f 19 15]
  (if i.f 34 32 = 0 then [] else [p 34 32]) ++
  match i.opcode with
  | 0x11 | 0x4A | 0x53 => [i.f 31 27]
  | 0x12 | 0x14 => [i.f 26 22, i.f 21 17]
  | 0x13 | 0x19 | 0x30 | 0x31 | 0x47 => [i.f 26 22]
  | 0x15 => [p 28 26, p 25 23]
  | 0x18 => [i.f 21 17]
  | 0x20 => if i.b 21 then [] else [i.f 20 16]
  | 0x21 => [i.f 24 20, i.f 19 15]
  | 0x41 => [v 31 27]
  | 0x42 | 0x44 => [v 26 22, v 21 17]
  | 0x43 => [v 26 22, v 21 17, v 16 12]
  | 0x45 | 0x46 | 0x48 => [v 26 22]
  | 0x4C => len ++ (if i.b 13 then [i.f 12 8] else [])
  | 0x4D | 0x4E | 0x4F | 0x50 => len
  | 0x52 => i.f 31 27 :: len
  | _ => []

/-- The register that an instruction writes (R240), numbered likewise. -/
def regDest (i : Instruct) : Option Nat :=
  if [0x10, 0x11, 0x12, 0x13, 0x16, 0x46, 0x48, 0x49].contains i.opcode then some (i.f 31 27)
  else if [0x40, 0x42, 0x43, 0x45, 0x47].contains i.opcode then some (32 + i.f 31 27)
  else if [0x14, 0x15, 0x44].contains i.opcode then some (64 + i.f 31 29)
  else none

/-- What an instruction reads of the scratchpad as its start finds it: its descriptors, its request block. -/
def startBlock (t : Tile) (i : Instruct) (ps : List TokDesc) : List (List Word) :=
  if i.opcode = 0x30 ∨ i.opcode = 0x31 then (mxDescs t i ps).2
  else if i.opcode = 0x53 then [t.rdN (scalar t i.cmd (i.f 31 27)) 4] else []

/-- An instruction starts: pops, reservation, its registers (R233), draws of an instruction that is off (R115, R118, R205,
R206). The descriptor of one that is off has LEN 0; its ADDR is 0, and its POISON 0 where it would write a buffer: the
spec states neither (DESIGN CHOICE, unsafe: notes/assumptions/108.md). -/
def startRun (s e : Nat) (q : Queued) (rest : List Queued) (off : Bool) (ps : List TokDesc) (d : Dev) : Dev :=
  let i := q.ins
  let modes := i.waits.map fun c => (c, tokMode d s c == 1)
  let rsv := tokMode d s i.sig == 1
  let poison := if noBuffer i.opcode then ps.any (·.poison) else (supply i ps).any (·.poison)
  d.modTile s fun t =>
    let t := { t with
      tok := modes.foldl (fun k m => if m.2 then kvModD k [] m.1 List.tail else k) t.tok
      rsvd := if rsv then kvModD t.rsvd 0 i.sig (· + 1) else t.rsvd }
    let t := if e = 2 ∧ t.mxNew then { t with mxNew := false, mxSeed := t.seed, mxDraw := 0 } else t
    let t := if e = 3 ∧ t.vxNew then { t with vxNew := false, vxSeed := t.seed, vxDraw := 0 } else t
    let draws := if off ∧ (i.opcode = 0x4E ∨ i.opcode = 0x4F) ∧ i.f 13 12 = 2 then cvtCount t i ps else 0
    let t := { t with vxDraw := (t.vxDraw + draws) % 2 ^ 48 }
    t.setEngine e { (t.engine e) with
      queue := rest
      run := some { q, popped := ps, off, guard := guardOf t i, finished := off, poison, rsv
                    scalars := t.scalars, vectors := t.vectors, preds := t.preds
                    taint := (regSources i).any t.tainted.contains, block := startBlock t i ps
                    out := { predOff := off, poison := poison && (!off || noBuffer i.opcode) } } }

/-- The instruction at the head of an engine's queue starts (R115). `strikes` are the words whose read finds them newly
uncorrectable (DESIGN CHOICE, unsafe: notes/assumptions/4.md). -/
def engineStart (s e : Nat) (strikes : List Nat) (d : Dev) : Dev :=
  let x := (d.tile s).engine e
  match x.run, x.queue with
  | none, q :: rest =>
    let i := q.ins
    if x.stopped || d.tileFenced s || !tokensReady d s i then d
    else
      let ps := popHeads d s i
      let off := guardOff i (guardOf (d.tile s) i) || (supply i ps).any (·.predOff)
      if !off && !resourcesReady d s i then d
      else
        let d := strikes.foldl (fun d a => strike s a d) d
        match startCause d s i off ps with
        | 0 => startRun s e q rest off ps d
        | k => tileFault s k i q.ord (d.modEngine s e fun x => { x with queue := rest })
  | _, _ => d

/-- The instruction in progress completes (R112, R116): its reserved slot receives its descriptor. A poisoned output
withholds the beat's commit (R139). -/
def engineComplete (s e : Nat) (d : Dev) : Dev :=
  let x := (d.tile s).engine e
  match x.run with
  | some r =>
    if r.finished then
      let d := dropRun s e false r d
      let d := if e = 0 then d else d.active (siteField s) (e - 1)
      let d := if r.rsv then tokPush s r.q.ins.sig r.out d else d
      if r.out.poison then { d with flt := { d.flt with failReports := d.flt.failReports ++ [(r.q.ins.cmd.stream, r.q.ins.cmd.tag)] } }
      else d
    else d
  | none => d

/-- The head of a queue has waited for TOK_TIMEOUT cycles (R120). -/
def tokenTimeout (s e : Nat) (d : Dev) : Dev :=
  let x := (d.tile s).engine e
  match x.run, x.queue with
  | none, _ :: _ => if x.stopped then d else stopEngine s e (some flTokenStall) true d
  | _, _ => d

/-! ### The instruction in progress -/

/-- The work of the instruction in progress in an engine, when it has the opcode of the command and work to do. -/
def onRun (s e op : Nat) (f : Running → Dev → Dev) (d : Dev) : Dev :=
  match ((d.tile s).engine e).run with
  | some r => if r.q.ins.opcode = op ∧ !r.finished ∧ !d.tileFenced s then f r d else d
  | none => d

/-- A register that an instruction has written derives from an uncorrectable word, or no longer does (R139): a vector
instruction leaves the lanes that are off as they were. -/
def Tile.setTaint (t : Tile) (r : Running) (b : Bool) : Tile :=
  match regDest r.q.ins with
  | some k =>
    if b then { t with tainted := setIns t.tainted k }
    else if engineOf r.q.ins.opcode = 3 && 32 ≤ k && r.guard != allLanes then t else { t with tainted := setDel t.tainted k }
  | none => t

/-- Its work is done: the descriptor it will leave, poisoned where a buffer or a register it reads derives from an
uncorrectable word (R139) (DEDUCED, unsafe: notes/assumptions/43.md; DEDUCED, unsafe: notes/assumptions/45.md). -/
def finish (s e : Nat) (out : TokDesc) (d : Dev) : Dev :=
  match ((d.tile s).engine e).run with
  | some r =>
    let p := out.poison || r.poison || r.taint
    d.modTile s fun t => (t.setEngine e { t.engine e with
      run := some { r with finished := true, out := { out with poison := p } } }).setTaint r p
  | none => d

/-- The tile with the registers as an instruction's start found them (R233). -/
def Running.sees (r : Running) (t : Tile) : Tile := { t with scalars := r.scalars, vectors := r.vectors, preds := r.preds }

/-- Scalar operands of an instruction in progress. -/
def sOp (d : Dev) (s : Nat) (r : Running) (hi lo : Nat) : Nat := scalar (r.sees (d.tile s)) r.q.ins.cmd (r.q.ins.f hi lo)

/-! ### CTL (R240) -/

def sext22 (v : Nat) : Nat := ofSigned 64 (toSigned 22 v)

def ctlScalar (s op : Nat) (f : Dev → Running → Nat) (d : Dev) : Dev :=
  onRun s 0 op (fun r d => finish s 0 {} (setScalar s (r.q.ins.f 31 27) (f d r) d)) d

/-- SALU (R240). -/
def salu (func a b : Nat) : Nat :=
  let m := 2 ^ 64
  let sa := toSigned 64 a
  let sb := toSigned 64 b
  match func with
  | 0 => (a + b) % m
  | 1 => (a + m - b) % m
  | 2 => a * b % m
  | 3 => a &&& b
  | 4 => a ||| b
  | 5 => a ^^^ b
  | 6 => a <<< (b % 64) % m
  | 7 => a >>> (b % 64)
  | 8 => ofSigned 64 (sa / 2 ^ (b % 64))
  | 9 => if sb < sa then b else a
  | 10 => if sa < sb then b else a
  | 11 => min a b
  | _ => max a b

/-- PCMP (R240). -/
def pcmp (func a b : Nat) : Bool :=
  match func with
  | 0 => a == b
  | 1 => a != b
  | 2 => decide (toSigned 64 a < toSigned 64 b)
  | 3 => decide (toSigned 64 a ≤ toSigned 64 b)
  | 4 => decide (a < b)
  | _ => decide (a ≤ b)

/-- PLOG (R240). -/
def plog (func a b : Nat) : Nat :=
  match func with
  | 0 => a &&& b
  | 1 => a ||| b
  | 2 => a ^^^ b
  | 3 => a &&& (b ^^^ allLanes)
  | _ => a ^^^ allLanes

/-- SYS (R240). -/
def sysValue (d : Dev) (s : Nat) (c : Cmd) (func : Nat) : Nat :=
  match func with
  | 0 => d.tileId s
  | 1 => d.tileGen s
  | 2 => siteField s
  | 3 => c.tag
  | 4 => c.stream
  | 5 => c.beat
  | 6 => c.attempt
  | _ => d.rdF (TILE_GROUP s) 5 0

/-- GRANT (R127 step 1): the next chunks are GRANTED and a credit message goes to the neighbour (DEDUCED, unsafe: notes/assumptions/41.md). -/
def grant (s : Nat) (r : Running) (d : Dev) : Dev :=
  let i := r.q.ins
  let dir := i.f 1 0
  let k := i.f 15 8 + 1
  if !nbrValid d s dir then abortRun s 0 d
  else
    let n := winChunks d s dir
    let d := setWin s dir (winGranted d s dir + k) ((winNext d s dir + k) % n) d
    let (d, ok) := sendNbr s dir { vc := 3, typ := 5, dest := 0, par := [winBase d s dir, n - 1, k] } (some i) d
    if ok then finish s 0 {} d else stopEngine s 0 none false d

/-- One head slot is freed, and its credit returns to the sender recorded for it (R135) (DEDUCED, unsafe: notes/assumptions/44.md). -/
def releaseOne (s q : Nat) (i : Instruct) (d : Dev) : Dev × Bool :=
  match kvGetD (d.tile s).slots [] q with
  | (src, gen, k) :: rest =>
    let d := d.modTile s fun t => { t with slots := kvSetD t.slots [] q rest }
    let d := setRq s q ((rqHead d s q + 1) % rqSlots d s q) (rqTail d s q) (rqOcc d s q - 1) d
    inject s { vc := 3, typ := 1, dest := src, destGen := gen, aux := k } (some i) d
  | [] => (d, true)

/-- RELEASE (R135): of the slots that are occupied; a credit discarded at its own injection aborts it and stops the
engine (R143, 07_fabric.md R280) (DEDUCED, unsafe: notes/assumptions/44.md). -/
def release (s : Nat) (r : Running) (d : Dev) : Dev :=
  let i := r.q.ins
  let (d, ok) := (List.range (i.f 15 8 + 1)).foldl
    (fun (x : Dev × Bool) _ => if x.2 then releaseOne s (i.f 2 0) i x.1 else x) (d, true)
  if ok then finish s 0 {} d else stopEngine s 0 none false d

/-! ### LD (R123, R240) -/

/-- Words of a range do not all exist (R105). -/
def spadOver (a n : Nat) : Bool := decide (spadWords < a + n)

/-- COPY (R240): the source is read, then the destination written (DEDUCED, unsafe: notes/assumptions/43.md). -/
def copyLines (s : Nat) (r : Running) (d : Dev) : Dev :=
  let i := r.q.ins
  let t := d.tile s
  let (a, n) := if i.b 21 then ((r.popped.getD 0 {}).addr, (r.popped.getD 0 {}).len)
    else (r.q.ags.getD 1 0, 4 * sOp d s r 20 16)
  let dst := r.q.ags.getD 0 0
  if spadOver a n || spadOver dst n then addrAbort s 1 d
  else
    let (d, bad) := readPoison s i [(a, n)] d
    let ws := t.rdN a n
    finish s 1 { addr := dst, len := n, poison := bad } (d.modTile s fun t => t.wrN dst ws)

/-- NLD (R123): a request for whole lines; the responses fill the destination. -/
def nbrLoad (s : Nat) (r : Running) (d : Dev) : Dev :=
  let i := r.q.ins
  let dir := i.f 31 30
  let lines := sOp d s r 19 15
  let src := sOp d s r 24 20
  let dst := r.q.ags.getD 0 0
  if 0 < r.left then d
  else if !nbrValid d s dir then abortRun s 1 d
  else if spadOver dst (4 * lines) || spadOver src (4 * lines) then addrAbort s 1 d
  else if lines = 0 then finish s 1 { addr := dst } d
  else
    let (d, ok) := sendNbr s dir { vc := 2, typ := 2, dest := 0, addr := src, par := [lines, dst] } (some i) d
    if ok then d.modEngine s 1 fun x => { x with run := some { r with left := (4 * lines + 511) / 512, out := { addr := dst, len := 4 * lines, poison := r.poison || r.taint } } }
    else stopEngine s 1 none false d

/-! ### SD (R128, R133, R291, R371, R372) -/

/-- SEND (R133) (DEDUCED, unsafe: notes/assumptions/42.md). -/
def sendMsg (s : Nat) (r : Running) (d : Dev) : Dev :=
  let i := r.q.ins
  let k := i.f 31 28
  let (a, n) := streamOp (r.sees (d.tile s)) i 14 (r.q.ags.getD 0 0) (i.f 19 15) r.popped
  if spadOver a n then addrAbort s 4 d
  else
    let (d, bad) := readPoison s i [(a, n)] d
    let dst := d.rd (TILE_SCRED_DEST s k)
    let d := d.wrF (TILE_SCRED_STATE s k) 8 0 (credits d s k - 1)
    let (d, ok) := inject s { vc := 2, typ := 0, dest := fld dst 13 0, destGen := fld dst 31 24, aux := fld dst 18 16,
                              par := [k], poison := bad || r.poison || r.taint, data := (d.tile s).rdN a n } (some i) d
    if ok then finish s 4 { poison := bad } d else stopEngine s 4 none false d

/-- NST (R127 steps 3 and 4, R128): packets of 32 B into the next chunks in ring order, then the completion (DEDUCED, unsafe: notes/assumptions/41.md). -/
def nbrStore (s : Nat) (r : Running) (d : Dev) : Dev :=
  let i := r.q.ins
  let dir := i.f 31 30
  let k := i.f 15 8 + 1
  let a := r.q.ags.getD 0 0
  if !nbrValid d s dir then abortRun s 4 d
  else if spadOver a (64 * k) then addrAbort s 4 d
  else
    let (d, bad) := readPoison s i [(a, 64 * k)] d
    let geo := d.rd (TILE_OUTWIN_BASE s dir)
    let n := fld geo 31 24 + 1
    let next := d.rdF (TILE_OUTWIN_STATE s dir) 23 16
    let ws := (d.tile s).rdN a (64 * k)
    let d := d.wr (TILE_OUTWIN_STATE s dir) (setFld (setFld (d.rd (TILE_OUTWIN_STATE s dir)) 8 0 (outCredits d s dir - k)) 23 16 ((next + k) % n))
    let ps := bad || r.poison || r.taint
    let pkts : List Packet := (List.range (8 * k)).map fun j =>
      { vc := 2, typ := 4, dest := 0, poison := ps, addr := fld geo 20 0 + 64 * ((next + j / 8) % n) + 8 * (j % 8), data := (ws.drop (8 * j)).take 8 }
    let pkts := pkts ++ [{ vc := 2, typ := 6, dest := 0, poison := ps, par := [next, k] }]
    let (d, ok) := pkts.foldl (fun (acc : Dev × Bool) p => if acc.2 then sendNbr s dir p (some i) acc.1 else acc) (d, true)
    if ok then finish s 4 { poison := bad } d else stopEngine s 4 none false d

/-- REDC (R291, R296). -/
def redContribute (s : Nat) (r : Running) (d : Dev) : Dev :=
  let i := r.q.ins
  let t := d.tile s
  let id := sOp d s r 31 27 % 256
  let (a, n) := streamOp (r.sees t) i 14 (r.q.ags.getD 0 0) (i.f 19 15) r.popped
  let e0 := redEntry d s id 0
  if n = 0 ∨ 512 < n ∨ (bitOf e0 0 ∧ redOp e0 = 9 ∧ n % 2 = 1) then addrAbort s 4 d
  else if spadOver a n then addrAbort s 4 d
  else
    let (d, bad) := readPoison s i [(a, n)] d
    let remote := fld e0 29 28 == 2
    let p : Packet := { vc := 1, typ := 8, dest := id, addr := n, poison := bad || r.poison || r.taint, data := t.rdN a n
                        redirect := remote, destSite := if remote then fld (redEntry d s id 2) 21 8 else 0 }
    if !bitOf e0 0 && !d.tileFenced s && d.tileBound s then
      let p := { p with src := d.tileId s, srcGen := d.tileGen s }
      stopEngine s 4 none false (tileRecord s 0x0B p.word0 (some (i.ref true)) (dropCount s 1 p d))
    else
      let (d, ok) := inject s p (some i) d
      if ok then finish s 4 { poison := bad } d else stopEngine s 4 none false d

/-- EREQ (R371, R372). The packet's parameters: operation, request, part, BAR 2 offset, lines (DEDUCED, unsafe: notes/assumptions/42.md). -/
def edgeRequest (s : Nat) (r : Running) (d : Dev) : Dev :=
  let i := r.q.ins
  let t := d.tile s
  let a := sOp d s r 31 27
  let ws := r.block.headD []
  if ereqBad d s a ws then addrAbort s 4 d
  else
    let b := reqBlock ws
    let (d, bad) := readPoison s i ((a, 4) :: (if b.write then [(b.landAddr, 16 * b.lines)] else [])) d
    let parts := reqParts b.addr b.lines
    let id := t.nextReq
    let pkts : List Packet := parts.zipIdx.map fun e =>
      let at_ := relocate d s e.1.1
      let code := (memMap (joinGib d) at_).1
      { vc := 2, typ := 0xA, dest := code, destSite := (edgeRouter code (siteX s) (siteY s)).getD 0
        poison := bad || r.poison || r.taint
        par := [b2n b.write, id, e.2, at_, e.1.2]
        addr := b.landAddr + (e.1.1 - b.addr) / 4
        data := if b.write then t.rdN (b.landAddr + (e.1.1 - b.addr) / 4) (16 * e.1.2) else [] }
    let req : EdgeRequest := { id, cmd := i.cmd, cls := b.cls, gen := d.tileGen s, parts := parts.zipIdx.map fun e => (e.2, relocate d s e.1.1)
                               landAddr := b.landAddr, landLen := 16 * b.lines }
    let (d, ok) := pkts.foldl (fun (acc : Dev × Bool) p => if acc.2 then inject s p (some i) acc.1 else acc) (d, true)
    if ok then finish s 4 { poison := bad } (d.modTile s fun t => { t with requests := t.requests ++ [req], nextReq := id + 1 })
    else stopEngine s 4 none false d

/-! ### A page write of SR_SEED_HI (R206) -/

def srSeedWrite (s agent : Nat) (data : Word) (d : Dev) : Dev :=
  d.checked (.tile s) 0x134 agent (d.baseChecks agent (.tile s) ++ [(.state, !(d.tile s).idle)]) (seedWrite s data)

/-! ### Commands -/

/-- BROADCAST_ARRIVAL (R216). -/
def execBroadcastArrival (q : Nat) (s : State) : Result := guardUnit (unitSeq q) (onMesh (q / 4) (broadcastArrival q) s)
/-- TILE_DISPATCH (R111). -/
def execTileDispatch (site : Nat) (s : State) : Result := guardUnit (unitSite site) (onMesh (siteField site) (tileDispatch site) s)
/-- HOLD_SIGNAL (R217). -/
def execHoldSignal (site : Nat) (s : State) : Result := guardUnit (unitSite site) (onMesh (siteField site) (holdSignal site) s)
/-- ENGINE_START (R115). -/
def execEngineStart (site eng : Nat) (strikes : List Nat) (s : State) : Result :=
  guardUnit (unitSite site && decide (eng < 5)) (onMesh (siteField site) (engineStart site eng strikes) s)
/-- ENGINE_COMPLETE (R116). -/
def execEngineComplete (site eng : Nat) (s : State) : Result :=
  guardUnit (unitSite site && decide (eng < 5)) (onMesh (siteField site) (engineComplete site eng) s)
/-- TOKEN_TIMEOUT (R120). -/
def execTokenTimeout (site eng : Nat) (s : State) : Result :=
  guardUnit (unitSite site && decide (eng < 5)) (onMesh (siteField site) (tokenTimeout site eng) s)
/-- SR_SEED_WRITE (R206). -/
def execSrSeedWrite (site agent : Nat) (data : Word) (s : State) : Result := guardUnit (unitSite site) (onDev (srSeedWrite site agent data) s)
/-- SLI (R240). -/
def execSli (site : Nat) (s : State) : Result :=
  guardUnit (unitSite site) (onMesh (siteField site) (ctlScalar site 0x10 fun _ r => sext22 (r.q.ins.f 21 0)) s)
/-- SLIH (R240). -/
def execSlih (site : Nat) (s : State) : Result :=
  guardUnit (unitSite site) (onMesh (siteField site) (ctlScalar site 0x11 fun d r => sOp d site r 31 27 % 2 ^ 42 + r.q.ins.f 21 0 * 2 ^ 42) s)
/-- SALU (R240). -/
def execSalu (site : Nat) (s : State) : Result :=
  guardUnit (unitSite site) (onMesh (siteField site) (ctlScalar site 0x12 fun d r => salu (r.q.ins.f 3 0) (sOp d site r 26 22) (sOp d site r 21 17)) s)
/-- SADDI (R240). -/
def execSaddi (site : Nat) (s : State) : Result :=
  guardUnit (unitSite site) (onMesh (siteField site) (ctlScalar site 0x13 fun d r => (sOp d site r 26 22 + sext22 (r.q.ins.f 21 0)) % 2 ^ 64) s)
/-- PCMP (R240). -/
def execPcmp (site : Nat) (s : State) : Result :=
  guardUnit (unitSite site) (onMesh (siteField site) (onRun site 0 0x14 fun r d => finish site 0 {}
    (setPred site (r.q.ins.f 31 29) (if pcmp (r.q.ins.f 2 0) (sOp d site r 26 22) (sOp d site r 21 17) then allLanes else 0) d)) s)
/-- PLOG (R240). -/
def execPlog (site : Nat) (s : State) : Result :=
  guardUnit (unitSite site) (onMesh (siteField site) (onRun site 0 0x15 fun r d => finish site 0 {}
    (setPred site (r.q.ins.f 31 29) (plog (r.q.ins.f 2 0) (predicate (r.sees (d.tile site)) (r.q.ins.f 28 26)) (predicate (r.sees (d.tile site)) (r.q.ins.f 25 23))) d)) s)
/-- SYS (R240). -/
def execSys (site : Nat) (s : State) : Result :=
  guardUnit (unitSite site) (onMesh (siteField site) (ctlScalar site 0x16 fun d r => sysValue d site r.q.ins.cmd (r.q.ins.f 2 0)) s)
/-- AGSETI (R235): its field was set at dispatch. -/
def execAgseti (site : Nat) (s : State) : Result :=
  guardUnit (unitSite site) (onMesh (siteField site) (onRun site 0 0x17 fun _ d => finish site 0 {} d) s)
/-- AGSET (R235). -/
def execAgset (site : Nat) (s : State) : Result :=
  guardUnit (unitSite site) (onMesh (siteField site) (onRun site 0 0x18 fun r d => finish site 0 {}
    (d.modTile site fun t => t.modAg (r.q.ins.f 31 28) fun g => g.setField (r.q.ins.f 26 24) (sOp d site r 21 17))) s)
/-- TCFG (R240). -/
def execTcfg (site : Nat) (s : State) : Result :=
  guardUnit (unitSite site) (onMesh (siteField site) (onRun site 0 0x19 fun r d => finish site 0 {}
    (tileValueSet site (4 * r.q.ins.f 9 2) (w32 (sOp d site r 26 22)) d)) s)
/-- GRANT (R127). -/
def execGrant (site : Nat) (s : State) : Result := guardUnit (unitSite site) (onMesh (siteField site) (onRun site 0 0x1A (grant site)) s)
/-- RELEASE (R135). -/
def execRelease (site : Nat) (s : State) : Result := guardUnit (unitSite site) (onMesh (siteField site) (onRun site 0 0x1B (release site)) s)
/-- COPY (R240). -/
def execCopy (site : Nat) (s : State) : Result := guardUnit (unitSite site) (onMesh (siteField site) (onRun site 1 0x20 (copyLines site)) s)
/-- NLD (R123). -/
def execNld (site : Nat) (s : State) : Result := guardUnit (unitSite site) (onMesh (siteField site) (onRun site 1 0x21 (nbrLoad site)) s)
/-- SEND (R133). -/
def execSend (site : Nat) (s : State) : Result := guardUnit (unitSite site) (onMesh (siteField site) (onRun site 4 0x50 (sendMsg site)) s)
/-- NST (R128). -/
def execNst (site : Nat) (s : State) : Result := guardUnit (unitSite site) (onMesh (siteField site) (onRun site 4 0x51 (nbrStore site)) s)
/-- REDC (R291). -/
def execRedc (site : Nat) (s : State) : Result := guardUnit (unitSite site) (onMesh (siteField site) (onRun site 4 0x52 (redContribute site)) s)
/-- EREQ (R371). -/
def execEreq (site : Nat) (s : State) : Result := guardUnit (unitSite site) (onMesh (siteField site) (onRun site 4 0x53 (edgeRequest site)) s)

end Sys2Proof.Machine
end

