-- ==== Sys2Proof/Machine/Vector.lean ====
section
/-! DEFINITION. The vector engine's instructions (06_sequencers_isa.md R240 to R242, 05_number_formats.md R204 to R212). -/

namespace Sys2Proof.Machine

/-! ### Lane operations -/

/-- VALU and VSOP (R240). -/
def laneOp (func a b : Nat) : Nat :=
  let m := 2 ^ 32
  let sa := toSigned 32 a
  let sb := toSigned 32 b
  match func with
  | 0 => addF .fp32 a b
  | 1 => subF32 a b
  | 2 => mulF32 a b
  | 3 => maxF .fp32 a b
  | 4 => minF .fp32 a b
  | 8 => (a + b) % m
  | 9 => (a + m - b) % m
  | 10 => a * b % m
  | 11 => a &&& b
  | 12 => a ||| b
  | 13 => a ^^^ b
  | 14 => a <<< (b % 32) % m
  | 15 => a >>> (b % 32)
  | 16 => ofSigned 32 (sa / 2 ^ (b % 32))
  | 17 => if sa < sb then b else a
  | _ => if sb < sa then b else a

/-- VCMP (R240). -/
def laneCmp (func a b : Nat) : Bool :=
  let x := f32 a
  let y := f32 b
  let unord := x.isNan || y.isNan
  match func with
  | 0 => !unord && x.cmp y == 0
  | 1 => !unord && decide (x.cmp y < 0)
  | 2 => !unord && decide (x.cmp y ≤ 0)
  | 3 => unord
  | 4 => a == b
  | _ => decide (toSigned 32 a < toSigned 32 b)

/-- Neighbouring values combined, pair by pair. -/
def pairUp (f : Nat → Nat → Nat) : List Nat → List Nat
  | a :: b :: t => f a b :: pairUp f t
  | l => l

/-- The fixed tree of R241 over 64 lanes: 32 sums, then pairs of those sums, down to one. -/
def laneTree (f : Nat → Nat → Nat) (l : List Nat) : Nat :=
  ((List.range 6).foldl (fun l _ => pairUp f l) l).headD 0

/-- Maximum or minimum over lanes (R212): the canonical NaN when every lane is NaN. -/
def laneMinMax (f : Nat → Nat → Nat) : List Nat → Nat
  | [] => 0
  | a :: t => let r := t.foldl f a; if (f32 r).isNan then Fmt.fp32.nanBits else r

/-- VRED (R241). -/
def lanesReduce (func guard : Nat) (v : List Word) : Nat :=
  let on := fun l => guard.testBit l
  let all := v.zipIdx.map fun e => if on e.2 then e.1.toNat else 0
  let some_ := (v.zipIdx.filter fun e => on e.2).map fun e => e.1.toNat
  match func with
  | 0 => laneTree (addF .fp32) all
  | 1 => laneMinMax (maxF .fp32) some_
  | 2 => laneMinMax (minF .fp32) some_
  | _ => laneTree addI32 all

/-! ### Registers -/

/-- A lane-wise instruction into v[D] (DEDUCED, unsafe: notes/assumptions/47.md). -/
def laneWise (s op : Nat) (f : Dev → Running → Nat → Nat) (d : Dev) : Dev :=
  onRun s 3 op (fun r d => finish s 3 {} (setVector s (r.q.ins.f 31 27) r.guard (fun l => w32 (f d r l)) d)) d

/-- Lane l of the vector operand in bits [hi:lo], as the start found it (R233). -/
def vOp (r : Running) (hi lo l : Nat) : Nat := ((kvGetD r.vectors zeroVec (r.q.ins.f hi lo)).getD l 0).toNat

/-- VCMP: the lanes whose guard bit is 1. -/
def vectorCompare (s : Nat) (r : Running) (d : Dev) : Dev :=
  let i := r.q.ins
  let old := predicate (d.tile s) (i.f 31 29)
  let new := (List.range 64).foldl (fun p l =>
    let b := if r.guard.testBit l then laneCmp (i.f 2 0) (vOp r 26 22 l) (vOp r 21 17 l) else old.testBit l
    if b then p + 2 ^ l else p) 0
  finish s 3 {} (setPred s (i.f 31 29) new d)

/-- VLD, VST, SLD, SST (R240). -/
def vectorLoad (s : Nat) (r : Running) (d : Dev) : Dev :=
  let a := r.q.ags.getD 0 0
  if spadOver a 64 then addrAbort s 3 d
  else
    let (d, bad) := readPoison s r.q.ins [(a, 64)] d
    let ws := (d.tile s).rdN a 64
    finish s 3 { poison := bad } (setVector s (r.q.ins.f 31 27) r.guard (fun l => ws.getD l 0) d)

def vectorStore (s : Nat) (r : Running) (d : Dev) : Dev :=
  let a := r.q.ags.getD 0 0
  if spadOver a 64 then addrAbort s 3 d
  else
    let v := kvGetD r.vectors zeroVec (r.q.ins.f 31 27)
    finish s 3 { addr := a, len := 64 } (d.modTile s fun t => t.wrWhere a v fun l => r.guard.testBit l)

def scalarLoad (s : Nat) (r : Running) (d : Dev) : Dev :=
  let a := r.q.ags.getD 0 0 / 2 * 2
  if spadOver a 2 then addrAbort s 3 d
  else
    let (d, bad) := readPoison s r.q.ins [(a, 2)] d
    finish s 3 { poison := bad } (setScalar s (r.q.ins.f 31 27) (wordsNum ((d.tile s).rdN a 2)) d)

def scalarStore (s : Nat) (r : Running) (d : Dev) : Dev :=
  let a := r.q.ags.getD 0 0 / 2 * 2
  if spadOver a 2 then addrAbort s 3 d
  else
    let v := sOp d s r 31 27
    finish s 3 { addr := a, len := 2 } (d.modTile s fun t => t.wrN a (numWords 2 v))

/-! ### Streams (R240, R242) -/

/-- A stream of words: word k of the result is `f k` of the words read; a lane is k modulo 64. -/
def wordStream (s : Nat) (r : Running) (second : Option Nat) (f : Nat → Word → Word → Nat) (d : Dev) : Dev :=
  let (a, n) := streamOp (r.sees (d.tile s)) r.q.ins 14 (r.q.ags.getD 1 0) (r.q.ins.f 19 15) r.popped
  let dst := r.q.ags.getD 0 0
  let b := match second with | some b => [(b, n)] | none => []
  if spadOver a n || spadOver dst n || b.any (fun x => spadOver x.1 x.2) then addrAbort s 3 d
  else
    let (d, bad) := readPoison s r.q.ins ((a, n) :: b) d
    let t := d.tile s
    let bs := match second with | some b => t.rdN b n | none => []
    let ws := (t.rdN a n).zipIdx.map fun e => w32 (f e.2 e.1 (bs.getD e.2 0))
    finish s 3 { addr := dst, len := n, poison := bad } (d.modTile s fun t => t.wrWhere dst ws fun k => r.guard.testBit (k % 64))

/-- VSOP: operand b from BAG or from s[B]. -/
def streamOpn (s : Nat) (r : Running) (d : Dev) : Dev :=
  let i := r.q.ins
  if i.b 13 then
    let b := sOp d s r 12 8 % 2 ^ 32
    wordStream s r none (fun _ a _ => laneOp (i.f 4 0) a.toNat b) d
  else wordStream s r (some (r.q.ags.getD 2 0)) (fun _ a b => laneOp (i.f 4 0) a.toNat b.toNat) d

def streamFn (s : Nat) (r : Running) (d : Dev) : Dev := wordStream s r none (fun _ a _ => vfn (r.q.ins.f 1 0) a.toNat) d

/-- Elements of `b` bits put at a word address: an element whose lane is off, and the bits past the last element, keep
what memory holds (R186, R238); a word all of whose lanes are off is not written (03_tile.md R104). -/
def putElems (t : Tile) (a b guard : Nat) (es : List Nat) : Tile :=
  let n := (b * es.length + 31) / 32
  let old := wordsNum (t.rdN a n)
  let v := packElems b (es.zipIdx.map fun e => if guard.testBit (e.2 % 64) then e.1 else elemAt b old e.2)
  let on := fun w => (List.range es.length).any fun k => guard.testBit (k % 64) && decide (32 * w < b * (k + 1) ∧ b * k < 32 * (w + 1))
  t.wrWhere a (numWords n (v + old / 2 ^ (b * es.length) * 2 ^ (b * es.length))) on

/-- The words that n elements of b bits take. -/
def elemWords (b n : Nat) : Nat := (b * n + 31) / 32

/-- The draws of an instruction's elements, in order; the counter moves past them (R205). -/
def vxDraws (s n : Nat) (stoch : Bool) (d : Dev) : (Nat → Nat) × Dev :=
  let t := d.tile s
  (fun k => srDraw t.vxSeed 3 ((t.vxDraw + k) % 2 ^ 48),
   if stoch then d.modTile s fun t => { t with vxDraw := (t.vxDraw + n) % 2 ^ 48 } else d)

/-- VCVT (R242). -/
def vectorConvert (s : Nat) (r : Running) (d : Dev) : Dev :=
  let i := r.q.ins
  let src := srcFmt i
  let dst := dstFmt i
  let n := cvtCount (r.sees (d.tile s)) i r.popped
  let a := if i.b 14 then (r.popped.getD 0 {}).addr else r.q.ags.getD 1 0
  let out := r.q.ags.getD 0 0
  let sa := r.q.ags.getD 2 0
  let ins := (a, elemWords src.bits n) :: (if src.isMx then [(sa, elemWords 8 (n / 32))] else [])
  if ins.any (fun x => spadOver x.1 x.2) || spadOver out (elemWords dst.bits n) then addrAbort s 3 d
  else
    let (d, bad) := readPoison s i ins d
    let (draw, d) := vxDraws s n (i.f 13 12 == 2) d
    let t := d.tile s
    let num := wordsNum (t.rdN a (elemWords src.bits n))
    let scs := if src.isMx then wordsNum (t.rdN sa (elemWords 8 (n / 32))) else 0
    let es := (List.range n).map fun k =>
      let v := decodeF src (elemAt src.bits num k)
      let v := if src.isMx then scaled (elemAt 8 scs (k / 32)) v else v
      let rnd := rndOf (i.f 13 12) (draw k)
      if dst = .int8 then toInt8 rnd v else convert dst rnd (i.b 11) v
    finish s 3 { addr := out, len := elemWords dst.bits n, poison := bad } (d.modTile s fun t => putElems t out dst.bits r.guard es)

/-- VQMX (R208, R209): lanes that are off enter the scale choice as +0. -/
def vectorQuantise (s : Nat) (r : Running) (d : Dev) : Dev :=
  let i := r.q.ins
  let dst := dstFmt i
  let n := cvtCount (r.sees (d.tile s)) i r.popped
  let a := if i.b 14 then (r.popped.getD 0 {}).addr else r.q.ags.getD 1 0
  let out := r.q.ags.getD 0 0
  let sa := r.q.ags.getD 2 0
  if spadOver a n || spadOver out (elemWords dst.bits n) || spadOver sa (elemWords 8 (n / 32)) then addrAbort s 3 d
  else
    let (d, bad) := readPoison s i [(a, n)] d
    let (draw, d) := vxDraws s n (i.f 13 12 == 2) d
    let ws := (d.tile s).rdN a n
    let blocks := (List.range (n / 32)).map fun b =>
      mxBlock dst (i.f 13 12) (fun k => draw (32 * b + k)) ((List.range 32).map fun k =>
        if r.guard.testBit ((32 * b + k) % 64) then f32 (ws.getD (32 * b + k) 0).toNat else .fin false 0 0)
    finish s 3 { addr := out, len := elemWords dst.bits n, poison := bad } (d.modTile s fun t =>
      putElems (putElems t out dst.bits r.guard (blocks.flatMap (·.2))) sa 8 allLanes (blocks.map (·.1)))

/-! ### Commands -/

/-- VLD (R240). -/
def execVld (site : Nat) (s : State) : Result := guardUnit (unitSite site) (onMesh (siteField site) (onRun site 3 0x40 (vectorLoad site)) s)
/-- VST (R240). -/
def execVst (site : Nat) (s : State) : Result := guardUnit (unitSite site) (onMesh (siteField site) (onRun site 3 0x41 (vectorStore site)) s)
/-- VALU (R240). -/
def execValu (site : Nat) (s : State) : Result :=
  guardUnit (unitSite site) (onMesh (siteField site) (laneWise site 0x42 fun _ r l => laneOp (r.q.ins.f 4 0) (vOp r 26 22 l) (vOp r 21 17 l)) s)
/-- VFMA (R240). -/
def execVfma (site : Nat) (s : State) : Result :=
  guardUnit (unitSite site) (onMesh (siteField site) (laneWise site 0x43 fun _ r l => fmaF32 (vOp r 26 22 l) (vOp r 21 17 l) (vOp r 16 12 l)) s)
/-- VCMP (R240). -/
def execVcmp (site : Nat) (s : State) : Result := guardUnit (unitSite site) (onMesh (siteField site) (onRun site 3 0x44 (vectorCompare site)) s)
/-- VFN (R241). -/
def execVfn (site : Nat) (s : State) : Result :=
  guardUnit (unitSite site) (onMesh (siteField site) (laneWise site 0x45 fun _ r l => vfn (r.q.ins.f 1 0) (vOp r 26 22 l)) s)
/-- VRED (R241). -/
def execVred (site : Nat) (s : State) : Result :=
  guardUnit (unitSite site) (onMesh (siteField site) (onRun site 3 0x46 fun r d => finish site 3 {} (setScalar site (r.q.ins.f 31 27)
    (lanesReduce (r.q.ins.f 1 0) r.guard (kvGetD r.vectors zeroVec (r.q.ins.f 26 22))) d)) s)
/-- VBCAST (R240). -/
def execVbcast (site : Nat) (s : State) : Result :=
  guardUnit (unitSite site) (onMesh (siteField site) (laneWise site 0x47 fun d r _ => sOp d site r 26 22 % 2 ^ 32) s)
/-- VEXT (R240). -/
def execVext (site : Nat) (s : State) : Result :=
  guardUnit (unitSite site) (onMesh (siteField site) (onRun site 3 0x48 fun r d => finish site 3 {} (setScalar site (r.q.ins.f 31 27)
    (vOp r 26 22 (r.q.ins.f 5 0)) d)) s)
/-- SLD (R240). -/
def execSld (site : Nat) (s : State) : Result := guardUnit (unitSite site) (onMesh (siteField site) (onRun site 3 0x49 (scalarLoad site)) s)
/-- SST (R240). -/
def execSst (site : Nat) (s : State) : Result := guardUnit (unitSite site) (onMesh (siteField site) (onRun site 3 0x4A (scalarStore site)) s)
/-- VSOP (R240). -/
def execVsop (site : Nat) (s : State) : Result := guardUnit (unitSite site) (onMesh (siteField site) (onRun site 3 0x4C (streamOpn site)) s)
/-- VSFN (R240). -/
def execVsfn (site : Nat) (s : State) : Result := guardUnit (unitSite site) (onMesh (siteField site) (onRun site 3 0x4D (streamFn site)) s)
/-- VCVT (R242). -/
def execVcvt (site : Nat) (s : State) : Result := guardUnit (unitSite site) (onMesh (siteField site) (onRun site 3 0x4E (vectorConvert site)) s)
/-- VQMX (R208). -/
def execVqmx (site : Nat) (s : State) : Result := guardUnit (unitSite site) (onMesh (siteField site) (onRun site 3 0x4F (vectorQuantise site)) s)

end Sys2Proof.Machine
end

