-- ==== Sys2Proof/Machine/Mem.lean ====
section
/-! DEFINITION. External memory (09_external_memory.md): edge ports, memory ports and their lines, responses at the tile,
errors, scrubbing, page retirement, temperature; and the router tables behind RT_DATA (07_fabric.md R313). -/

namespace Sys2Proof.Machine

def Dev.port (d : Dev) (m : Nat) : MemPort := kvGetD d.memp {} m
def Dev.modPort (d : Dev) (m : Nat) (f : MemPort → MemPort) : Dev := { d with memp := kvModD d.memp {} m f }

/-- Channel of a port code (07_fabric.md R307): that of its attach routers. -/
def codeChannel (code : Nat) : Nat := fieldChannel (edgeField code)

/-- Seconds of TAI. -/
def Dev.sec (d : Dev) : Nat := d.taiNs / 1000000000

/-- A record of a memory port: it knows no command (13_faults_recovery.md R652). -/
def portRecord (m cls kind unit synd : Nat) (d : Dev) : Dev :=
  d.record cls kind unit synd (routerCmd d (portChannel m) cls)

/-- STATUS_MP as a MEM_PORT record (13_faults_recovery.md R484). -/
def statusRecord (m : Nat) (d : Dev) : Dev := portRecord m 0x12 8 m (d.rd (MEMP_STATUS_MP m)).toNat d

/-- Unit of a stack page (13_faults_recovery.md R483). -/
def pageUnit (m page : Nat) : Nat := page % 2 ^ 24 + m * 2 ^ 24

/-! ### Retirement (R382) -/

/-- A page is to be retired: its copy starts, or the remap table is full (DEDUCED, unsafe: notes/assumptions/62.md). -/
def retire (m page : Nat) (d : Dev) : Dev :=
  let p := d.port m
  if p.retiring.contains page then d
  else if 4096 ≤ p.remap.length + p.retiring.length ∧ !p.remap.contains page then
    statusRecord m (d.wr (MEMP_STATUS_MP m) (setBit (d.rd (MEMP_STATUS_MP m)) 6 true))
  else d.modPort m fun p => { p with retiring := p.retiring ++ [page] }

/-- The copy of the oldest page in retirement ends: the page is remapped and its requests are released (DEDUCED, unsafe: notes/assumptions/62.md). -/
def retireDone (m : Nat) (d : Dev) : Dev :=
  match (d.port m).retiring with
  | [] => d
  | page :: rest =>
    let d := d.modPort m fun p => { p with
      retiring := rest, remap := if p.remap.contains page then p.remap else p.remap ++ [page], pageCe := kvDel p.pageCe page }
    let d := { d with boot := { d.boot with store := { d.boot.store with pages := kvPut d.boot.store.pages m (d.port m).remap } } }
    d.wrF (MEMP_RETIRED m) 12 0 (d.port m).remap.length

/-! ### Lines (R378 to R380) -/

/-- A correctable error in a line (R379). -/
def lineCe (m page : Nat) (d : Dev) : Dev :=
  let d := d.bump (MEMP_CE_COUNT m)
  let d := d.modPort m fun p => { p with pageCe := kvPut p.pageCe page (kvGetD p.pageCe 0 page + 1), ceSince := p.ceSince + 1 }
  let p := d.port m
  let d := if p.ceSec = some d.sec then d
    else portRecord m 0x10 3 (pageUnit m page) p.ceSince (d.modPort m fun p => { p with ceSince := 0, ceSec := some d.sec })
  let c := d.rd (MEMP_RETIRE_CFG m)
  if bitOf c 31 && decide (fld c 7 0 ≤ kvGetD p.pageCe 0 page) then retire m page d else d

/-- An uncorrectable error in a line (R380); `src` is the source of its record: 0 read, 1 scrub, 3 host (DESIGN CHOICE, safe: notes/assumptions/19.md; DESIGN CHOICE, safe: notes/assumptions/60.md). -/
def lineUe (m off src : Nat) (d : Dev) : Dev :=
  let d := d.bump (MEMP_UE_COUNT m)
  let d := if bitOf (d.rd (MEMP_FIRST_UE_HI m)) 31 then d
    else (d.wrN (MEMP_FIRST_UE_LO m) off).wrN (MEMP_FIRST_UE_HI m) (2 ^ 31 + off / 2 ^ 32 % 16)
  let d := portRecord m 0x11 3 (pageUnit m (off / 4096)) (off / 64 % 64 + src * 2 ^ 8) d
  retire m (off / 4096) d

/-- A line as it is delivered: its bytes and its poison. -/
structure LineRead where
  bytes : List Byte
  poison : Bool
  writes : List MemWrite
deriving DecidableEq, Repr

/-- A whole line is read at its port (R373, R378 to R380): `err` is 0 none, 1 a correctable, 2 an uncorrectable error.
What an uncorrectable line holds is a free value; a correctable error counts in a poisoned line as in any other. -/
def lineRead (m line src err : Nat) (x : ExtMem) (d : Dev) : LineRead × Dev :=
  let off := (memMap (joinGib d) (64 * line)).2
  let d := count48 (MEMP_RD_LINES_LO m) 1 d
  if x.poison.contains line then
    let d := d.bump (MEMP_POISON_COUNT m)
    ({ bytes := x.read (64 * line) 64, poison := true, writes := [] }, if err = 1 then lineCe m (off / 4096) d else d)
  else if err = 2 then
    let (vs, d) := d.freeN 64
    let bs := vs.map fun v => BitVec.ofNat 8 v
    ({ bytes := bs, poison := true, writes := [.lost line bs] }, lineUe m off src d)
  else if err = 1 then ({ bytes := x.read (64 * line) 64, poison := false, writes := [] }, lineCe m (off / 4096) d)
  else ({ bytes := x.read (64 * line) 64, poison := false, writes := [] }, d)

/-- Lines read one after the other: the errors by line, the bytes, the poison, the memory writes (DESIGN CHOICE, safe: notes/assumptions/60.md). -/
def linesRead (src : Nat) (errs : KV Nat) (x : ExtMem) : List Nat → Dev → LineRead × Dev
  | [], d => ({ bytes := [], poison := false, writes := [] }, d)
  | l :: t, d =>
    let m := (memMap (joinGib d) (64 * l)).1
    let (r, d) := lineRead m l src (kvGetD errs 0 l) x d
    let (q, d) := linesRead src errs x t d
    ({ bytes := r.bytes ++ q.bytes, poison := r.poison || q.poison, writes := r.writes ++ q.writes }, d)

/-! ### Edge ports (07_fabric.md R286, R308) -/

/-- An edge port receives the oldest request that has reached it: its generation is checked, and it is queued. -/
def edgeReq (code : Nat) (d : Dev) : Dev :=
  match takeFirst (fun e => e.1 == code) d.fab.edge with
  | none => d
  | some (e, rest) =>
    let p := e.2
    let d := d.modFab fun f => { f with edge := rest }
    let b := bindEntry d (16384 + code) p.src
    if !entryValid b || entryGen b != p.srcGen then
      let d := d.bump (FIELD_INJ_STALE_COUNT (edgeField code))
      let d := d.traceEvent (edgeField code) 6 0x3F 2 (entrySite b) p.word0 7
      d.record 0x05 1 (entrySite b + 16384 * p.src) (p.stale 3) (routerCmd d (codeChannel code) 0x05)
    else if code < 8 then
      d.modPort code fun q => { q with queue := q.queue ++ [{
        site := entrySite b, dest := p.src, destGen := p.srcGen, req := p.par.getD 1 0, part := p.par.getD 2 0
        write := p.par.getD 0 0 == 1, addr := p.par.getD 3 0, lines := p.par.getD 4 0, landAddr := p.addr
        data := p.data, poison := p.poison }] }
    else d

/-! ### Requests at a memory port (R373, R380, R386) -/

def MemPart.lineList (p : MemPart) : List Nat := (List.range p.lines).map fun i => p.addr / 64 + i

/-- A response or an acknowledgement is injected at the router of its tile (R307, R372): the port's own binding table
names the site (DEDUCED, unsafe: notes/assumptions/59.md). -/
def respond (m : Nat) (q : MemPart) (data : List Word) (poison : Bool) (d : Dev) : Dev :=
  let b := bindEntry d (16384 + m) q.dest
  let site := if entryValid b then entrySite b else q.site
  let router := (edgeRouter m (siteX site) (siteY site)).getD 0
  let e := bindEntry d router q.dest
  let p : Packet := { vc := 3, typ := 0xB, dest := q.dest, destGen := q.destGen, src := m, addr := q.landAddr, poison
                      par := [q.req, q.part], data }
  if !entryValid e then routerRecord router 0x0B p.word0 (dropCount router 1 p d)
  else if entryGen e != q.destGen then routerRecord router 0x05 (p.stale 0) (dropCount router 2 p d)
  else d.modFab fun f => { f with net := f.net ++ [{ pkt := { p with destSite := entrySite e }, site := router, port := 0 }] }

/-- A request that touches a line of an earlier one waits for it (R373); a request to a page in retirement waits (R382) (DEDUCED, unsafe: notes/assumptions/98.md). -/
def mayServe (d : Dev) (m k : Nat) (q : MemPart) : Bool :=
  let p := d.port m
  !((p.queue.take k).any fun r => r.lineList.any fun l => q.lineList.contains l) &&
    !(q.lineList.any fun l => p.retiring.contains ((memMap (joinGib d) (64 * l)).2 / 4096))

/-- The port serves request `k` of its queue (R373): `ce` and `ue` are the lines of the part found with a correctable or
an uncorrectable error (DEDUCED, unsafe: notes/assumptions/98.md). -/
def memRequest (m k : Nat) (ce ue : List Nat) (x : ExtMem) (d : Dev) : Dev × List MemWrite :=
  match (d.port m).queue[k]? with
  | none => (d, [])
  | some q =>
    if portFailed d m then
      let d := d.modPort m fun p => { p with queue := p.queue.eraseIdx k }
      let (vs, d) := d.freeN (if q.write then 0 else 16 * q.lines)
      (respond m q (vs.map w32) true d, [])
    else if !mayServe d m k q then (d, [])
    else
      let d := d.modPort m fun p => { p with queue := p.queue.eraseIdx k }
      if q.write then
        (respond m q [] q.poison d,
          .bytes q.addr (wordBytes q.data) :: (if q.poison then q.lineList.map .poison else []))
      else
        let errs : KV Nat := (q.lineList.zipIdx.filterMap fun e =>
          if ue.contains e.2 then some (e.1, 2) else if ce.contains e.2 then some (e.1, 1) else none)
        let (r, d) := linesRead 0 errs x q.lineList d
        (respond m q (leWords r.bytes) r.poison d, r.writes)

/-! ### Responses at the tile (R372, R374, 03_tile.md R137, R653) -/

/-- The page and line of a part's first line, as an MEM_UE record names them: source 2, a time-out (DEDUCED, unsafe: notes/assumptions/59.md). -/
def timeoutRecord (addr : Nat) (cmd : Option CmdRef) (d : Dev) : Dev :=
  let p := memMap (joinGib d) addr
  d.record 0x11 3 (pageUnit p.1 (p.2 / 4096)) (p.2 / 64 % 64 + 2 * 2 ^ 8) cmd

/-- A request is complete: its class fills (R372), or the fill is dropped for want of a slot (R653) (DEDUCED, unsafe: notes/assumptions/98.md). -/
def requestDone (s : Nat) (r : EdgeRequest) (d : Dev) : Dev :=
  let d := d.modTile s fun t => { t with requests := t.requests.filter fun x => x.id != r.id }
  match tokFill s r.cls { addr := r.landAddr, len := r.landLen, src := 0, poison := r.poison } d with
  | (d', true) => d'
  | (_, false) => rqOverflow s 5 d

/-- A response lands (R372): read data from the part's place, and the class once every part has landed. A response of
a request that has ended is discarded and recorded (R374). An acknowledgement that carries POISON withholds the commit of its
command's beat (08_streams_context.md R334) (DEDUCED, unsafe: notes/assumptions/59.md). -/
def edgeResp (s : Nat) (d : Dev) : Dev :=
  takeLanded s 0xB d fun p d =>
    match (d.tile s).requests.find? fun r => r.id == p.par.getD 0 0 && r.parts.any (fun e => e.1 == p.par.getD 1 0) with
    | none => d.record 0x11 3 (pageUnit p.src 0) (2 * 2 ^ 8) none
    | some r =>
      if spadWords < p.addr + p.data.length then engineStopRecord s 5 (rvRef d s) (tileFlag s flAddrRange d)
      else
        let d := d.modTile s fun t => t.wrN p.addr p.data
        let d := if p.poison && p.data.isEmpty then
            { d with flt := { d.flt with failReports := d.flt.failReports ++ [(r.cmd.stream, r.cmd.tag)] } } else d
        let r := { r with parts := r.parts.filter (fun e => e.1 != p.par.getD 1 0), poison := r.poison || p.poison }
        if r.parts = [] then requestDone s r d
        else d.modTile s fun t => { t with requests := t.requests.map fun x => if x.id == r.id then r else x }

/-- A part without response within 65,536 cycles (R374): the request completes with POISON = 1 (DEDUCED, unsafe: notes/assumptions/59.md). -/
def eReqTimeout (s id : Nat) (d : Dev) : Dev :=
  match (d.tile s).requests.find? fun r => r.id == id with
  | none => d
  | some r =>
    match r.parts with
    | [] => d
    | e :: _ =>
      let d := timeoutRecord e.2 (some { opcode := 0x53, tag := r.cmd.tag, stream := r.cmd.stream, withheld := true }) d
      requestDone s { r with poison := true } d

/-! ### Scrubbing, temperature (R381 to R383) -/

/-- Lines of a stack's 45 GiB (R365). -/
def stackLines : Nat := 45 * 2 ^ 24

/-- Correction counts of a port's pages return to 0 (DEDUCED, unsafe: notes/assumptions/63.md). -/
def countsReset (m : Nat) (d : Dev) : Dev := d.modPort m fun p => { p with pageCe := [], resetTick := d.time.tb }

/-- The scrubber reads the next line; the pass that ends resets the counts (R381, R382). -/
def scrubMem (m err : Nat) (x : ExtMem) (d : Dev) : Dev × List MemWrite :=
  if bitOf (d.rd (MEMP_SCRUB_CFG m)) 0 && !portFailed d m then
    let k := (d.port m).scrubLine
    let (r, d) := lineRead m (memUnmap (joinGib d) m (64 * k) / 64) 1 err x d
    let last := decide (stackLines ≤ k + 1)
    let d := d.modPort m fun p => { p with scrubLine := if last then 0 else k + 1 }
    let d := if last then countsReset m (d.wrF (MEMP_SCRUB_POS m) 31 16 (d.rdF (MEMP_SCRUB_POS m) 31 16 + 1)) else d
    (d.wrF (MEMP_SCRUB_POS m) 15 0 ((d.port m).scrubLine * 65536 / stackLines), r.writes)
  else (d, [])

/-- An apply has set SCRUB_CFG.EN to 0: the hours of R382 count from it. -/
def scrubOff (m : Nat) (d : Dev) : Dev := d.modPort m fun p => { p with resetTick := d.time.tb }

/-- With scrubbing off, the counts return to 0 every PERIOD_H hours (R382) (DEDUCED, unsafe: notes/assumptions/63.md). -/
def countsPeriod (m : Nat) (d : Dev) : Dev :=
  let c := d.rd (MEMP_SCRUB_CFG m)
  if !bitOf c 0 && decide ((d.port m).resetTick + usTicks (3600000000 * fld c 15 8) ≤ d.time.tb) then countsReset m d else d

/-- THROTTLE_US counts the microseconds spent with THROTTLE above 0 (R387) (DEDUCED, unsafe: notes/assumptions/63.md). -/
def throttleNow (m : Nat) (d : Dev) : Word :=
  let n := d.time.tb / 800 - (d.port m).throttleTick / 800
  if d.rdF (MEMP_STATUS_MP m) 5 4 = 0 then d.rd (MEMP_THROTTLE_US m) else satAdd (d.rd (MEMP_THROTTLE_US m)) n

def throttleCount (m : Nat) (d : Dev) : Dev :=
  (d.wr (MEMP_THROTTLE_US m) (throttleNow m d)).modPort m fun p => { p with throttleTick := d.time.tb }

/-- A condition that sets at `thr` and clears 3 °C below it, in quarter °C (R383); `base` is the table's value (DEDUCED, unsafe: notes/assumptions/63.md). -/
def above3 (was : Bool) (t thr base : Int) : Bool := if was then decide (base - 12 < t) else decide (thr ≤ t)

/-- Bit HOT of a port (R383, 12_power_thermal.md R472). -/
def mempHot (d : Dev) (m : Nat) : Bool := bitOf (d.rd (MEMP_STATUS_MP m)) 3

/-- With no stack at HOT the HBM cause requests no OPP (12_power_thermal.md R469, R472) (DEDUCED, unsafe: notes/assumptions/115.md). -/
def hbmRelease (d : Dev) : Dev :=
  if (kvGet? d.pwr.oppReq 6).isSome then
    ({ d with pwr := { d.pwr with oppReq := kvDel d.pwr.oppReq 6 } }).wrF PWR_THR_CAUSE 4 4 0
  else d

/-- A port reads its stack's temperature, in quarter °C (R383): `temp` is two's complement of 16 bits (DEDUCED, unsafe: notes/assumptions/63.md). -/
def hbmPoll (m temp : Nat) (d : Dev) : Dev :=
  let d := throttleCount m d
  let t := toSigned 16 temp
  let w := d.rd (MEMP_STATUS_MP m)
  let thr := fld w 5 4
  let refresh := above3 (bitOf w 2) t 341 340
  let t1 := above3 (decide (1 ≤ thr)) t 360 360
  let t2 := above3 (decide (2 ≤ thr)) t 372 372
  let hot := above3 (bitOf w 3) t 380 380
  let w' := setFld (setBit (setBit w 2 refresh) 3 hot) 5 4 (if t2 then 2 else if t1 then 1 else 0)
  let d := (d.wr (MEMP_STATUS_MP m) w').wrF (MEMP_TEMP m) 15 0 temp
  let d := if w' = w then d else statusRecord m d
  if (List.range 8).any (mempHot d) then d else hbmRelease d

/-- Compute reset of the memory ports (R385): requests not accepted are lost with the fabric, accepted writes complete,
reads bring no response. -/
def mempComputeReset (d : Dev) : Dev :=
  { d with memp := d.memp.map fun (e : Nat × MemPort) => (e.1, { e.2 with queue := e.2.queue.filter (·.write) }) }

/-- Checks of the MEMP pages' staged values (R388). -/
def mempApplyChecks (d : Dev) (m : Nat) : List Check :=
  [(.range, decide (45 < fld (d.stagedRd (MEMP_MAP m)) 5 0) || decide (fld (d.stagedRd (MEMP_RETIRE_CFG m)) 7 0 = 0) ||
      decide (fld (d.stagedRd (MEMP_SCRUB_CFG m)) 15 8 = 0) || decide (48 < fld (d.stagedRd (MEMP_SCRUB_CFG m)) 15 8))]

/-! ### Router tables (07_fabric.md R313) -/

def rtAddr (d : Dev) (f : Nat) : Word := d.rd (FIELD_RT_ADDR f)
def rtTable (d : Dev) (f : Nat) : Nat := fld (rtAddr d f) 13 12
def rtSite (d : Dev) (f : Nat) : Nat := siteOfLocal f (fld (rtAddr d f) 10 0)
def rtIndex (d : Dev) (f : Nat) : Nat := fld (rtAddr d f) 27 14
def rtWord (d : Dev) (f : Nat) : Nat := fld (rtAddr d f) 29 28
/-- Entries and words of a table. -/
def rtEntries (table : Nat) : Nat := [16384, 256, 64].getD table 0
def rtWords (table : Nat) : Nat := [1, 3, 2].getD table 0

/-- The word in force. -/
def rtRead (d : Dev) (site table index word : Nat) : Word :=
  match table with
  | 0 => bindEntry d site index
  | 1 => redEntry d site index word
  | _ => bcEntry d site index word

def rtKey (site table index word : Nat) : Nat := 4 * (16384 * (4 * site + table) + index) + word

/-- The entry as a write of one of its words completes it: held words stand before those in force (DEDUCED, unsafe: notes/assumptions/65.md). -/
def rtAssembled (d : Dev) (site table index word : Nat) (data : Word) : List Word :=
  (List.range (rtWords table)).map fun w =>
    if w = word then data else (kvGet? d.fab.rtHeld (rtKey site table index w)).getD (rtRead d site table index w)

/-- Checks that depend on the place alone (DEDUCED, unsafe: notes/assumptions/65.md). -/
def rtPlaceChecks (d : Dev) (f : Nat) : List Check :=
  let t := rtTable d f
  [(.reserved, t == 3),
   (.range, t != 3 && (decide (1152 ≤ fld (rtAddr d f) 10 0) || decide (rtEntries t ≤ rtIndex d f) || decide (rtWords t ≤ rtWord d f))),
   (.fenced, (decide (fld (rtAddr d f) 10 0 < 1152) && routerFenced d (rtSite d f)) || d.isFenced (.field f))]

/-- A mesh port leads to no router of the die. -/
def offDie (site c : Nat) : Bool := decide (1 ≤ c ∧ c ≤ 4) && (neighbour site c).isNone
def rvClass (d : Dev) (s c : Nat) : Bool := tokMode d s c == 1 && tokProducer d s c == 5

/-- Checks of an entry's content, made when its last word is written (DEDUCED, unsafe: notes/assumptions/65.md). -/
def rtContentChecks (d : Dev) (site table index : Nat) (e : List Word) : List Check :=
  let w0 := e.getD 0 0
  let w1 := e.getD 1 0
  let w2 := e.getD 2 0
  if table = 0 then [(.reserved, decide (fld w0 30 22 ≠ 0))]
  else if table = 1 then
    let v := bitOf w0 0
    let order := (List.range 5).map fun k => fld w0 (12 + 3 * k) (10 + 3 * k)
    let used := order.takeWhile (· != 7)
    let root := fld w0 27 25 == 0
    [(.reserved, decide (fld w0 31 30 ≠ 0) || decide (fld w2 31 22 ≠ 0) ||
        (v && (decide (9 < fld w0 4 1) || decide (4 < fld w0 27 25) || fld w0 29 28 == 3 || order.any fun c => c == 5 || c == 6))),
     (.range, v && (offDie site (fld w0 27 25) || (redMask w0).any (offDie site) ||
        used.mergeSort (· ≤ ·) != redMask w0 || (order.drop used.length).any (· != 7) ||
        (root && bitOf w1 31 && decide (fld w1 30 25 < 4)))),
     (.state, v && root && !bitOf w1 31 && fld w0 29 28 == 0 && !rvClass d site (fld w1 24 21))]
  else
    let v := bitOf w0 0
    [(.reserved, decide (fld w0 31 25 ≠ 0) || decide (fld w1 31 25 ≠ 0) || (v && (decide (4 < fld w0 3 1) || decide (1 < fld w0 10 9)))),
     (.range, v && [1, 2, 3, 4].any fun c => bitOf w0 (4 + c) && offDie site c),
     (.state, v && decide (4 ≤ index) && bitOf w0 4 && fld w0 10 9 == 0 && !rvClass d site (fld w1 24 21))]

/-- WORD and INDEX advance after an access. -/
def rtAdvance (f : Nat) (d : Dev) : Dev :=
  if rtWord d f + 1 < rtWords (rtTable d f) then d.wrF (FIELD_RT_ADDR f) 29 28 (rtWord d f + 1)
  else (d.wrF (FIELD_RT_ADDR f) 29 28 0).wrF (FIELD_RT_ADDR f) 27 14 (rtIndex d f + 1)

/-- The whole entry changes in one cycle (DEDUCED, unsafe: notes/assumptions/65.md). -/
def rtStore (site table index : Nat) (e : List Word) (d : Dev) : Dev :=
  d.modFab fun x =>
    let x := { x with rtHeld := (List.range 4).foldl (fun h w => kvDel h (rtKey site table index w)) x.rtHeld }
    match table with
    | 0 => { x with bindRt := kvPut x.bindRt (16384 * site + index) (e.getD 0 0) }
    | 1 => { x with red := (List.range 3).foldl (fun r w => kvSetD r 0 (4 * (256 * site + index) + w) (e.getD w 0)) x.red }
    | _ => { x with bc := (List.range 2).foldl (fun r w =>
        let k := 2 * (64 * site + index) + w
        if index < 4 then kvPut r k (e.getD w 0) else kvSetD r 0 k (e.getD w 0)) x.bc }

/-- An access to RT_DATA of field f: a write of `data`, or a read. -/
def rtAccess (f agent : Nat) (data : Option Word) (d : Dev) : Dev :=
  let site := rtSite d f
  let table := rtTable d f
  let index := rtIndex d f
  let word := rtWord d f
  match data with
  | none =>
    match firstFail (rtPlaceChecks d f) with
    | some c => (d.reject (.field f) 0x934 agent c).answerW 0
    | none => rtAdvance f (d.answerW (rtRead d site table index word))
  | some w =>
    let e := rtAssembled d site table index word w
    let last := decide (rtWords table ≤ word + 1)
    let content := if last && (firstFail (rtPlaceChecks d f)).isNone then rtContentChecks d site table index e else []
    d.checked (.field f) 0x934 agent
      (d.baseChecks agent (.field f) ++ rtPlaceChecks d f ++ content ++
       [(.privilege, table == 2 && decide (index < 4) && !isPewter agent),
        (.busy, table == 1 && d.fab.insts.any fun r => r.site == site && r.id == index && !r.dead)])
      fun d =>
        rtAdvance f (if last then rtStore site table index e d
          else d.modFab fun x => { x with rtHeld := kvPut x.rtHeld (rtKey site table index word) w })

/-! ### Commands -/

def unitMemp (m : Nat) : Bool := decide (m < 8)
def unitEdge (code : Nat) : Bool := (edgeRouter code 0 0).isSome

/-- RT_DATA_ACCESS (07_fabric.md R313). -/
def execRtDataAccess (f agent : Nat) (data : Option Word) (s : State) : Result := guardUnit (unitField f) (onDev (rtAccess f agent data) s)
/-- EDGE_REQ (07_fabric.md R308). -/
def execEdgeReq (code : Nat) (s : State) : Result := guardUnit (unitEdge code) (onDev (edgeReq code) s)
/-- EDGE_RESP (R372). -/
def execEdgeResp (site : Nat) (s : State) : Result := guardUnit (unitSite site) (onMesh (siteField site) (edgeResp site) s)
/-- EREQ_TIMEOUT (R374). -/
def execEreqTimeout (site id : Nat) (s : State) : Result := guardUnit (unitSite site) (onMesh (siteField site) (eReqTimeout site id) s)
/-- MEM_SCRUB_STEP (R381): `err` 0 none, 1 correctable, 2 uncorrectable. -/
def execMemScrubStep (m err : Nat) (s : State) : Result := guardUnit (unitMemp m) (onDevMem (scrubMem m err) s)
/-- PAGE_RETIRE_DONE (R382). -/
def execPageRetireDone (m : Nat) (s : State) : Result := guardUnit (unitMemp m) (onDev (retireDone m) s)
/-- CORRECTION_COUNT_RESET (R382). -/
def execCorrectionCountReset (m : Nat) (s : State) : Result := guardUnit (unitMemp m) (onDev (countsPeriod m) s)
/-- HBM_TEMP_POLL (R383). -/
def execHbmTempPoll (m temp : Nat) (s : State) : Result := guardUnit (unitMemp m) (onDev (hbmPoll m temp) s)

end Sys2Proof.Machine
end

