-- ==== Sys2Proof/Machine/Snigus.lean ====
section
/-! DEFINITION. The Snigus transport between modules, and what twins and herds are made of (14_channels_twin_herd.md R529
to R536). -/

namespace Sys2Proof.Machine

def Dev.modPeer (d : Dev) (f : PeerSt → PeerSt) : Dev := { d with peer := f d.peer }
def Dev.modStrm (d : Dev) (f : StreamSt → StreamSt) : Dev := { d with strm := f d.strm }
def Dev.modFlt (d : Dev) (f : FaultSt → FaultSt) : Dev := { d with flt := f d.flt }
def Dev.modBoot (d : Dev) (f : BootSt → BootSt) : Dev := { d with boot := f d.boot }

/-! ### Who is who -/

def twinEn (d : Dev) : Bool := bitOf (d.rd TWIN_CFG) 0
def herdEn (d : Dev) : Bool := bitOf (d.rd HERD_CFG) 31
def herdPaired (d : Dev) : Bool := bitOf (d.rd HERD_CFG) 25
def herdPos (d : Dev) : Nat := d.rdF HERD_CFG 21 16
def herdSide (d : Dev) : Nat := d.rdF HERD_CFG 24 24
def herdId (d : Dev) : Nat := d.rdF HERD_CFG 15 0
def twinRole (d : Dev) : Nat := d.rdF TWIN_STATE 4 4

/-- Own PEER code (R557). -/
def ownKey (d : Dev) : Nat := if herdEn d then herdPos d + 64 * herdSide d else twinRole d

/-- The Chamois partner (R533, R554). -/
def partnerKey (d : Dev) : Nat := if herdEn d then herdPos d + 64 * (1 - herdSide d) else 1 - twinRole d

def twinSt (d : Dev) : Nat := d.rdF TWIN_STATE 2 0
def herdSt (d : Dev) : Nat := d.rdF HERD_STATE 2 0
def leadPos (d : Dev) : Nat := d.rdF HERD_STATE 13 8
def isLead (d : Dev) : Bool := herdSt d == 4
def isMember (d : Dev) : Bool := herdSt d == 3 || herdSt d == 4
def memberAt (d : Dev) (p : Nat) : Bool := bitOf (d.rd (HERD_MEMBERS (p / 32))) (p % 32)
/-- Positions present, ascending. -/
def members (d : Dev) : List Nat := below 64 (memberAt d)
/-- The largest herd of the profile (R6, R12). -/
def herdMax (d : Dev) : Nat := if d.rdF LIC_PROFILE 1 0 = 2 then 4 else 64

/-- Peers that are fenced or leave the herd: every lock they hold breaks (02_control_model.md R77). A peer is its position,
plus 64 on the other side (R73, R532) (DEDUCED, unsafe: notes/assumptions/119.md). -/
def peersOut (ks : List Nat) (d : Dev) : Dev := ks.foldl (fun d k => breakLocksOf (0x80 + k) d) d

/-- Membership as MEMBERS_LO, MEMBERS_HI and STATE.MEMBERS show it. The members that are no longer present have left; an
empty membership is the module's own exit, after which the others go on. -/
def setMembers (ps : List Nat) (d : Dev) : Dev :=
  let gone := (members d).filter fun p => !ps.contains p
  let m := ps.foldl (fun m p => m ||| 2 ^ p) 0
  let d := (d.wr64 (HERD_MEMBERS 0) m).wrF HERD_STATE 22 16 ps.length
  if ps.isEmpty then d else peersOut gone d

def maskPositions (m : Nat) : List Nat := below 64 fun p => m.testBit p

/-! ### Records (R557) -/

def twinRecord (event reason peer stream beat : Nat) (d : Dev) : Dev :=
  d.record 0x19 12 (peer % 256 + stream * 2 ^ 16) (event + reason % 256 * 2 ^ 8 + beat % 65536 * 2 ^ 16)

def herdRecord (event reason peer beat : Nat) (d : Dev) : Dev :=
  d.record 0x1A 12 (peer % 256) (event + reason % 256 * 2 ^ 8 + beat % 65536 * 2 ^ 16)

/-! ### Frames (R529 to R531) -/

def fHello : Nat := 1
def fHeartbeat : Nat := 2
def fDigest : Nat := 3
def fHold : Nat := 4
def fIngest : Nat := 5
def fTime : Nat := 6
def fFrame : Nat := 7
def fJoin : Nat := 8
def fAdmit : Nat := 9
def fRefuse : Nat := 0xA
def fMembership : Nat := 0xB
def fReport : Nat := 0xC
def fShare : Nat := 0xD
def fSched : Nat := 0xE
def fAppend : Nat := 0xF
def fRegAccess : Nat := 0x10
def fRegResp : Nat := 0x11
def fPartial : Nat := 0x12
def fCopy : Nat := 0x13

/-- Planes that are up: a spur port enabled and up (R529, 16_interfaces_pins.md R614). -/
def planeUp (d : Dev) (n : Nat) : Bool := bitOf (d.rd (SPUR_PORT_STATUS n)) 0 && d.rdF SPUR_PORT_EN 3 0 / 2 ^ n % 2 == 1
def planes (d : Dev) : List Nat := below 4 (planeUp d)

/-- HERD records of planes that have changed from one state to another (R557). -/
def planeEvents (was now : List Nat) (d : Dev) : Dev :=
  if herdEn d then
    let d := (was.filter fun n => !now.contains n).foldl (fun d n => herdRecord 7 n 0xFF 0 d) d
    (now.filter fun n => !was.contains n).foldl (fun d n => herdRecord 8 n 0xFF 0 d) d
  else d

/-- The plane of a frame: the first that is up from a plane on. -/
def planeFrom (d : Dev) (n : Nat) : Nat := (([0, 1, 2, 3].map fun k => (n + k) % 4).find? (planeUp d)).getD n

/-- A frame as it leaves: SEQ and ACK, then its payload (R529). No frame leaves during a Pewter restart
(15_bringup_reset_licences.md R592) (DEDUCED, unsafe: notes/assumptions/94.md; DESIGN CHOICE, safe: notes/assumptions/105.md). -/
def emitFrame (plane typ peer seq : Nat) (fields : List Nat) (data : List Byte) (d : Dev) : Dev :=
  if d.boot.restarting then d
  else { d with tx := d.tx ++ [.snigus plane typ peer ([seq, kvGetD d.peer.seqIn 0 peer] ++ fields) data] }

/-- A frame is sent; it is kept until its acknowledgement (R531). -/
def sendOn (plane typ peer : Nat) (fields : List Nat) (data : List Byte) (d : Dev) : Dev :=
  if d.boot.restarting then d
  else
    let seq := (kvGetD d.peer.seqOut 0 peer + 1) % 2 ^ 32
    let plane := planeFrom d plane
    let d := d.modPeer fun p => { p with
      seqOut := kvPut p.seqOut peer seq
      unacked := p.unacked ++ [{ peer, seq, plane, tick := d.time.tb, typ, fields, data }] }
    emitFrame plane typ peer seq fields data d

def send (typ peer : Nat) (fields : List Nat) (d : Dev) : Dev := sendOn 0 typ peer fields [] d

/-- The other members, as PEER codes. -/
def otherMembers (d : Dev) : List Nat := ((members d).filter (· != herdPos d)).map (· + 64 * herdSide d)

def sendAll (typ : Nat) (fields : List Nat) (d : Dev) : Dev := (otherMembers d).foldl (fun d k => send typ k fields d) d

/-- A number spread over fields of 32 bits. -/
def splitWords (n v : Nat) : List Nat := (List.range n).map fun i => v / 2 ^ (32 * i) % 2 ^ 32

/-- A frame of the other side of a paired herd (R531, R554): its position and generation are as that side's lead last told
them; until a MEMBERSHIP of it has come, any position of the herd is heard (DEDUCED, unsafe: notes/assumptions/119.md). -/
def knownOther (d : Dev) (h : FrameHdr) : Bool :=
  herdPaired d && (match d.peer.otherMembers with
    | none => true
    | some m => m.testBit (h.src % 64) && kvGetD d.peer.gens h.gen (64 + h.src % 64) == h.gen)

/-- The modules a frame may come from: the partner, the members of the own side, those of the other side. -/
def knownPeer (d : Dev) (h : FrameHdr) : Bool :=
  if herdEn d then
    h.herd == herdId d &&
      (if h.src / 64 = herdSide d then memberAt d (h.src % 64) && kvGetD d.peer.gens 0 (h.src % 64) == h.gen
       else knownOther d h)
  else twinEn d && h.herd == 0 && h.src == partnerKey d

/-- A frame of a module that it cannot be accepted from is dropped (R531). -/
def staleFrame (h : FrameHdr) (typ : Nat) (d : Dev) : Dev := herdRecord 9 typ h.src 0 (d.bump HERD_STALE_FRAME_COUNT)

/-- What every accepted frame does: the sender is heard, and frames up to its ACK are acknowledged. -/
def frameHeard (h : FrameHdr) (d : Dev) : Dev :=
  d.modPeer fun p => { p with
    heard := kvPut p.heard h.src d.time.tb
    unacked := p.unacked.filter fun s => !(s.peer == h.src && decide (s.seq ≤ h.ack)) }

/-- A frame with its own SEQ is delivered in order (R531): a repeated one is dropped, one ahead of its turn waits (DESIGN CHOICE, safe: notes/assumptions/105.md). -/
def deliver (known : Dev → Bool) (h : FrameHdr) (typ : Nat) (f : Dev → Dev × List MemWrite) (d : Dev) : Dev × List MemWrite :=
  if !known d then (staleFrame h typ d, [])
  else
    let d1 := frameHeard h d
    let last := kvGetD d.peer.seqIn 0 h.src
    if h.seq ≤ last then (d1, [])
    else if h.seq ≠ last + 1 then (d, [])
    else f (d1.modPeer fun p => { p with seqIn := kvPut p.seqIn h.src h.seq })

/-- As `deliver`, for an effect inside the part. -/
def deliver1 (known : Dev → Bool) (h : FrameHdr) (typ : Nat) (f : Dev → Dev) (d : Dev) : Dev :=
  (deliver known h typ (fun d => (f d, [])) d).1

/-! ### Compared streams (R535, R536) -/

def cmpFirst (d : Dev) : Nat := d.rdF TWIN_CMP_RANGE 13 0
def inCmpRange (d : Dev) (n : Nat) : Bool := decide (cmpFirst d ≤ n ∧ n ≤ cmpFirst d + d.rdF TWIN_CMP_RANGE 21 16)

/-- A stream of the range in a twin whose partner takes part: LINKING, COMPARING or LOST. -/
def compared (d : Dev) (n : Nat) : Bool := twinEn d && inCmpRange d n

def mapBit (d : Dev) (reg : Nat → Nat) (n : Nat) : Bool :=
  let k := n - cmpFirst d
  bitOf (d.rd (reg (k / 32))) (k % 32)
def setMapBit (reg : Nat → Nat) (n : Nat) (b : Bool) (d : Dev) : Dev :=
  let k := n - cmpFirst d
  d.wr (reg (k / 32)) (setBit (d.rd (reg (k / 32))) (k % 32) b)

def lapsed (d : Dev) (n : Nat) : Bool := mapBit d TWIN_LAPSED n
def rebuilding (d : Dev) (n : Nat) : Bool := mapBit d TWIN_REBUILDING n

/-- Own commits of a stream, newest first. -/
def history (d : Dev) (n : Nat) : List Commit := kvGetD d.peer.hist [] n

/-- MAX_LAG (R560): the largest current lag of a compared stream. -/
def showLag (d : Dev) : Dev :=
  let lags := d.peer.hist.map fun (e : Nat × List Commit) =>
    match e.2.head?, kvGet? d.peer.partnerLast e.1 with
    | some c, some p => max (c.beat - p.1) (p.1 - c.beat)
    | _, _ => 0
  d.wrF TWIN_MAX_LAG 8 0 (min 511 (lags.foldl max 0))

end Sys2Proof.Machine
end

