-- ==== Sys2Proof/Machine/Streams.lean ====
section
/-! DEFINITION. Streams (08_streams_context.md): descriptors, stream commands, beat programs, input rings, releases,
deadlines, the choice and issue of beats, reports of failures, the summary selectors. -/

namespace Sys2Proof.Machine

/-! ### Descriptors (R315) -/

def Dev.dF (d : Dev) (n w hi lo : Nat) : Nat := d.rdF (descAddr n w) hi lo
def Dev.setDF (d : Dev) (n w hi lo v : Nat) : Dev := d.wrF (descAddr n w) hi lo v

def sFree : Nat := 0
def sWaiting : Nat := 1
def sReady : Nat := 2
def sRunning : Nat := 3
def sPaused : Nat := 4
def sClosing : Nat := 5
def sFaulted : Nat := 6

def Dev.strmSt (d : Dev) (n : Nat) : Nat := d.dF n 0 3 0
def strmProg (d : Dev) (n : Nat) : Nat := d.dF n 0 17 12
def ringEn (d : Dev) (n : Nat) : Bool := d.dF n 0 11 11 == 1
def dlEn (d : Dev) (n : Nat) : Bool := d.dF n 0 8 8 == 1
def strmRing (d : Dev) (n : Nat) : Nat := d.dF n 9 21 16
def strmBeat (d : Dev) (n : Nat) : Nat := d.dF n 6 31 0 + 2 ^ 32 * d.dF n 7 15 0
def strmAttempt (d : Dev) (n : Nat) : Nat := d.dF n 7 23 16
def credits16 (d : Dev) (n : Nat) : Nat := d.dF n 8 15 0
def ctxBase (d : Dev) (n : Nat) : Nat := d.dF n 2 31 0 + 2 ^ 32 * d.dF n 3 6 0
def commitBase (d : Dev) (n : Nat) : Nat := d.dF n 10 31 0 + 2 ^ 32 * d.dF n 11 6 0
def slotPages (d : Dev) (n : Nat) : Nat := d.dF n 11 15 8 + 1
def capacity (d : Dev) (n : Nat) : Nat := 2 ^ d.dF n 3 20 16
def replayPend (d : Dev) (n : Nat) : Bool := d.dF n 0 20 20 == 1
def pausePend (d : Dev) (n : Nat) : Bool := d.dF n 0 19 19 == 1

/-- BAR 2 offset of the slot of a beat (R335). -/
def slotAddr (d : Dev) (n beat : Nat) : Nat := commitBase d n + 0x1000 * (1 + beat % 2 * slotPages d n)

/-- Streams that are not FREE; their word 0 is never at its reset value. -/
def openStreams (d : Dev) : List Nat :=
  d.regs.filterMap fun e =>
    if 0x100000 ≤ e.1 ∧ e.1 < 0x200000 ∧ e.1 % 64 = 0 ∧ fld e.2 3 0 ≠ 0 then some ((e.1 - 0x100000) / 64) else none

/-- A beat of the stream is in flight. -/
def inFlight (d : Dev) (n : Nat) : Bool := d.strm.beats.any (fun b => b.stream == n && !b.refill)

/-- Bits that the table of R315 names, that are writable, and that are writable in FREE only. -/
def descNamed : List Nat :=
  [0xFF1FFFFF, 0xFFFF00FF, 0xFFFFFFFF, 0x001F007F, 0x07FFFFFF, 0x03FFFFFF, 0xFFFFFFFF, 0x00FFFFFF,
   0x0FFFFFFF, 0xFF3FFFFF, 0xFFFFFFFF, 0x0000FF7F, 0xFFFFFFFF, 0xFFFFFFFF, 0xFFFFFFFF, 0xFFFFFFFF]
def descWritable : List Nat :=
  [0x0007FFF0, 0xFFFF00FF, 0xFFFFFFFF, 0x001F007F, 0x07FFFFFF, 0x03FFFFFF, 0xFFFFFFFF, 0x0000FFFF,
   0x0FFFFFFF, 0x003FFFFF, 0xFFFFFFFF, 0x0000FF7F, 0xFFFFFFFF, 0, 0, 0]
def descFreeOnly : List Nat :=
  [0x0003FFF0, 0xFFFF00FF, 0xFFFFFFFF, 0x001F007F, 0x07FFFFFF, 0x03FFFFFF, 0xFFFFFFFF, 0x0000FFFF,
   0x0FFFFFFF, 0x003FFFFF, 0xFFFFFFFF, 0x0000FF7F, 0, 0, 0, 0]

/-- A rejection that REJ_INFO describes (R316, R359): it is set with ERR_CODE (DEDUCED, unsafe: notes/assumptions/66.md). -/
def strmReject (n word src off agent : Nat) (c : ErrCode) (d : Dev) : Dev :=
  let had := bitOf (d.rd (Page.strm.base + 0x10)) 31
  let d := d.reject .strm off agent c
  if had then d else d.wrN STRM_REJ_INFO (n + word * 2 ^ 16 + src * 2 ^ 20 + 2 ^ 31)

def strmChecked (n word src off agent : Nat) (cs : List Check) (f : Dev → Dev) (d : Dev) : Dev :=
  match firstFail cs with
  | some c => strmReject n word src off agent c d
  | none => f d

/-- A write of one descriptor word (R316) (DEDUCED, unsafe: notes/assumptions/66.md). -/
def descWrite (agent n w : Nat) (data : Word) (d : Dev) : Dev :=
  let old := d.rd (descAddr n w)
  let m : Nat := descWritable.getD w 0
  let new := w32 ((old.toNat &&& (0xFFFFFFFF - m)) ||| (data.toNat &&& m))
  let changed := old.toNat ^^^ new.toNat
  let isOpen := d.strmSt n != sFree
  strmChecked n w 1 ((64 * n + 4 * w) % 4096) agent
    [(.privilege, !d.mayWrite agent .strm || (isOpen && w == 0 && changed.testBit 18 && (agent == agentHost || agent == agentDebug))),
     (.state, !d.up || (isOpen && (changed &&& descFreeOnly.getD w 0) != 0)),
     (.reserved, m == 0 || (data.toNat &&& (0xFFFFFFFF - descNamed.getD w 0)) != 0)]
    (fun d => d.wr (descAddr n w) new) d

/-! ### Rings and work (R327 to R329) -/

structure Ring where
  base : Nat
  entry : Nat
  size : Nat
  prod : Nat
  cons : Nat
  en : Bool

def ring (d : Dev) (r : Nat) : Ring :=
  let c := d.rd (STRM_RING_CFG r)
  { base := (d.rd (STRM_RING_BASE_LO r)).toNat + 2 ^ 32 * fld c 6 0, entry := 64 * (fld c 15 8 + 1), size := 2 ^ fld c 20 16,
    prod := (d.rd (STRM_RING_PROD r)).toNat, cons := (d.rd (STRM_RING_CONS r)).toNat, en := bitOf c 31 }

/-- Entries between a ring's consumer and a limit; none when the limit lies behind. -/
def between (cons limit : Nat) : Nat :=
  let n := (limit + 2 ^ 32 - cons) % 2 ^ 32
  if 2 ^ 31 ≤ n then 0 else n

/-- Entries that the stream may ingest (R328, R329). -/
def entries (d : Dev) (n : Nat) : Nat :=
  if ringEn d n then
    let r := ring d (strmRing d n)
    between r.cons (if dlEn d n then d.dF n 14 31 0 else r.prod)
  else 0

def hasWork (d : Dev) (n : Nat) : Bool := decide (0 < credits16 d n) || decide (0 < entries d n)

/-! ### State changes (R318, R321) -/

/-- A stream enters a state. PAUSED and FAULTED clear PAUSE_PEND; FREE discards what the stream has pending, and takes it
out of comparison (R319, 14_channels_twin_herd.md R540). -/
def setStrm (n st : Nat) (d : Dev) : Dev :=
  let was := d.strmSt n
  let d := d.setDF n 0 3 0 st
  let d := if st = sPaused ∨ st = sFaulted ∨ st = sFree then d.setDF n 0 19 19 0 else d
  let d := if st = sFaulted ∧ was ≠ sFaulted then d.bump STRM_FAULT_COUNT else d
  if st = sFree then
    let d := d.setDF n 0 20 20 0
    let d := d.modStrm fun s => { s with
      replay := kvDel s.replay n, deadlines := setDel s.deadlines n, missed := setDel s.missed n
      rollbackNext := setDel s.rollbackNext n, ingestWait := kvDel s.ingestWait n, parked := kvDel s.parked n }
    let d := d.modPeer fun p => { p with
      hist := kvDel p.hist n, partner := kvDel p.partner n, partnerLast := kvDel p.partnerLast n, waitTick := kvDel p.waitTick n
      repeats := kvDel p.repeats n, holdSent := kvDel p.holdSent n, firstDigest := kvDel p.firstDigest n, barred := setDel p.barred n, counts := kvDel p.counts n
      appendLen := kvDel p.appendLen n, appendPend := p.appendPend.filter fun e => e.1 != n }
    if inCmpRange d n then setMapBit TWIN_LAPSED n false d else d
  else d

/-- READY or WAITING, as the stream has work. -/
def toWork (n : Nat) (d : Dev) : Dev := setStrm n (if hasWork d n then sReady else sWaiting) d

/-- Work has come to WAITING streams (R321). -/
def wake (d : Dev) : Dev :=
  (openStreams d).foldl (fun d n => if d.strmSt n = sWaiting && hasWork d n then setStrm n sReady d else d) d

/-- PAUSE (R319, R321): a RUNNING stream pauses when its beat, or its pending replay, ends (DEDUCED, unsafe: notes/assumptions/67.md). -/
def strmPause (n : Nat) (d : Dev) : Dev :=
  let st := d.strmSt n
  if st = sRunning then d.setDF n 0 19 19 1
  else if st = sWaiting ∨ st = sReady then setStrm n sPaused d
  else d

/-- The pause of a recovery that keeps the beat for replay (13_faults_recovery.md R511, R512; 14_channels_twin_herd.md R537): a
stream whose replay is pending and not in flight is PAUSED with it at once (DEDUCED, unsafe: notes/assumptions/67.md). -/
def pewterPause (n : Nat) (d : Dev) : Dev :=
  if d.strmSt n = sRunning && !inFlight d n then setStrm n sPaused d else strmPause n d

/-! ### Beat programs (R323) -/

def progWord (d : Dev) (p w : Nat) : Word := kvGetD d.strm.progs 0 (50 * p + w)
def progValid (d : Dev) (p : Nat) : Bool := bitOf (d.rd (STRM_PROG_VALID (p / 32))) (p % 32)
def progMask (d : Dev) (p : Nat) : Nat := (progWord d p 0).toNat + 2 ^ 32 * fld (progWord d p 1) 15 0
def progSeqs (d : Dev) (p : Nat) : List Nat := below 48 fun q => (progMask d p).testBit q
/-- The entry of a kind: 0 decode, 1 ingestion. -/
def progEntry (d : Dev) (p q kind : Nat) : Nat := if kind = 1 then fld (progWord d p (2 + q)) 28 16 else fld (progWord d p (2 + q)) 12 0

def progNamed (d : Dev) (p : Nat) : Bool :=
  (openStreams d).any fun n => strmProg d n == p && [sWaiting, sReady, sRunning, sClosing].contains (d.strmSt n)

def progNext (d : Dev) : Dev := d.wrF STRM_PROG_ADDR 13 8 (d.rdF STRM_PROG_ADDR 13 8 + 1)

/-- An access to PROG_DATA (R323, R359). -/
def progAccess (agent : Nat) (data : Option Word) (d : Dev) : Dev :=
  let p := d.rdF STRM_PROG_ADDR 5 0
  let w := d.rdF STRM_PROG_ADDR 13 8
  match data with
  | none => if 50 ≤ w then (d.reject .strm 0x12C agent .range).answerW 0 else progNext (d.answerW (progWord d p w))
  | some x =>
    let held := fun i => if i = w then x else (kvGet? d.strm.progHeld (50 * p + i)).getD (progWord d p i)
    let mask := (held 0).toNat + 2 ^ 32 * fld (held 1) 15 0
    d.checked .strm 0x12C agent
      [(.privilege, !d.mayWrite agent .strm), (.state, !d.up), (.busy, progNamed d p),
       (.reserved, (w == 1 && decide (fld x 31 16 ≠ 0)) || (decide (2 ≤ w ∧ w < 50) && (x.toNat &&& 0xE000E000) != 0)),
       (.range, decide (50 ≤ w) || (w == 49 && mask == 0))]
      fun d =>
        let d :=
          if w = 49 then
            let d := d.modStrm fun s => { s with
              progs := (List.range 50).foldl (fun m i => kvSetD m 0 (50 * p + i) (held i)) s.progs
              progHeld := s.progHeld.filter fun (e : Nat × Word) => e.1 / 50 != p }
            let d := d.wr (STRM_PROG_VALID (p / 32)) (setBit (d.rd (STRM_PROG_VALID (p / 32))) (p % 32) true)
            d.modFlt fun f => { f with stalePrograms := setDel f.stalePrograms p }
          else d.modStrm fun s => { s with progHeld := kvPut s.progHeld (50 * p + w) x }
        progNext d

/-- Every stream whose program's mask meets a set of sequencers (13_faults_recovery.md R511, R512). -/
def strmsOf (d : Dev) (seqs : List Nat) : List Nat :=
  (openStreams d).filter fun n => (progSeqs d (strmProg d n)).any (seqs.contains ·)
def pauseOf (seqs : List Nat) (d : Dev) : Dev := (strmsOf d seqs).foldl (fun d n => pewterPause n d) d

def fieldSeqs (f : Nat) : List Nat := (List.range 4).map (4 * f + ·)
def channelSeqs (c : Nat) : List Nat := (List.range 24).map (24 * c + ·)

/-! ### Releases (R328, 14_channels_twin_herd.md R535, R546) -/

/-- INGEST_LIMIT lies a number of entries beyond the consumer. -/
def setLimit (n cnt : Nat) (d : Dev) : Dev :=
  let d := d.setDF n 14 31 0 ((ring d (strmRing d n)).cons + cnt)
  let d := d.modStrm fun s => { s with ingestWait := kvDel s.ingestWait n }
  if d.strmSt n = sWaiting && hasWork d n then setStrm n sReady d else d

/-- The modules whose counts a release waits for. -/
def countPeers (d : Dev) (n : Nat) : List Nat :=
  (if compared d n && twinSt d == 2 && !lapsed d n then [partnerKey d] else []) ++
  (if isLead d then otherMembers d else if herdSt d = 3 then [leadPos d + 64 * herdSide d] else [])

def countOf (d : Dev) (n peer frame : Nat) : Option Nat :=
  ((kvGetD d.peer.counts [] n).find? fun c => c.1 == peer && c.2.1 == frame).map (·.2.2)

/-- The smallest count: the own one and those that have come. -/
def smallest (d : Dev) (n own frame : Nat) : Nat := ((countPeers d n).filterMap fun p => countOf d n p frame).foldl min own

/-- The limit is settled with a count; the lead sends it to the members. -/
def settle (n cnt : Nat) (d : Dev) : Dev :=
  let frame := d.dF n 13 31 0
  let d := d.modPeer fun p => { p with counts := kvDel p.counts n }
  let d := setLimit n cnt d
  if isLead d then sendAll fIngest [n, frame, cnt] d else d

/-- A waiting release settles once every count has come. -/
def trySettle (n : Nat) (d : Dev) : Dev :=
  match kvGet? d.strm.ingestWait n with
  | none => d
  | some own =>
    let frame := d.dF n 13 31 0
    if (countPeers d n).all fun p => (countOf d n p frame).isSome then settle n (smallest d n own frame) d else d

/-- A release (R328). The first one after a rebuild ends it (14_channels_twin_herd.md R542, step 6). -/
def strmReleaseNow (n : Nat) (d : Dev) : Dev :=
  let frame := d.frame
  let d := d.setDF n 13 31 0 frame
  let d := d.setDF n 15 31 0 (frame + d.dF n 1 7 0)
  let d := d.setDF n 8 15 0 (min 65535 (credits16 d n + d.dF n 9 15 0))
  let r := ring d (strmRing d n)
  let d := match kvGet? d.peer.rebuild n with
    | some r => if r.step = 6 then
        setMapBit TWIN_REBUILDING n false (setMapBit TWIN_LAPSED n false (d.modPeer fun p => { p with
          rebuild := kvDel p.rebuild n, barred := setDel p.barred n }))
      else d
    | none => d
  let d := d.modStrm fun s => { s with missed := setDel s.missed n, deadlines := if dlEn d n then setIns s.deadlines n else setDel s.deadlines n }
  let cnt := between r.cons r.prod
  let exchange := ringEn d n && (compared d n && twinSt d == 2 || isMember d)
  let d :=
    if exchange then
      let d := if compared d n && twinSt d == 2 then send fIngest (partnerKey d) [n, frame, cnt] d else d
      let d := if herdSt d = 3 then send fIngest (leadPos d + 64 * herdSide d) [n, frame, cnt] d else d
      if countPeers d n = [] then setLimit n cnt d
      else trySettle n (d.modStrm fun s => { s with ingestWait := kvPut s.ingestWait n cnt })
    else d.setDF n 14 31 0 r.prod
  wake d

/-! ### Deadlines (R332) -/

/-- The deadline of the stream's release is reached at this tick (DEDUCED, unsafe: notes/assumptions/69.md). -/
def deadlineReached (d : Dev) (n : Nat) : Bool :=
  let k := toSigned 32 ((d.frame + 2 ^ 32 - d.dF n 15 31 0) % 2 ^ 32)
  decide (0 < k) || (k == 0 && decide (d.dF n 1 31 16 ≤ d.phase))

def deadline (n : Nat) (d : Dev) : Dev :=
  if d.strm.deadlines.contains n && deadlineReached d n then
    let d := d.modStrm fun s => { s with deadlines := setDel s.deadlines n }
    let st := d.strmSt n
    let left := if ringEn d n then between (ring d (strmRing d n)).cons (d.dF n 14 31 0) else 0
    if dlEn d n && [sWaiting, sReady, sRunning, sClosing].contains st && (decide (0 < credits16 d n) || decide (0 < left)) then
      let d := d.record 0x13 0 0 (credits16 d n + min left 0x7FFF * 2 ^ 16)
      let d := (d.setDF n 9 31 24 (min 255 (d.dF n 9 31 24 + 1))).bump STRM_MISS_COUNT
      let d := d.modStrm fun s => { s with missed := setIns s.missed n }
      match d.dF n 0 10 9 with
      | 1 =>
        let d := d.setDF n 8 15 0 0
        let d := if ringEn d n && decide (0 < left) then d.wrN (STRM_RING_CONS (strmRing d n)) (d.dF n 14 31 0) else d
        if st = sReady && !hasWork d n then setStrm n sWaiting d else d
      | 2 => strmPause n d
      | _ => d
    else d
  else d

/-! ### Stream commands (R319, R320) -/

/-- Checks of OPEN (R320, 14_channels_twin_herd.md R522, R524, R535) (DEDUCED, unsafe: notes/assumptions/67.md; DEDUCED, unsafe: notes/assumptions/78.md). -/
def openChecks (d : Dev) (n : Nat) : List Check :=
  let chan := d.dF n 0 5 4
  let cap := d.dF n 3 20 16
  let p := strmProg d n
  let mode := d.chanMode
  let r := strmRing d n
  let modeOk := if mode = 0 then chan == 0 else if mode = 1 then chan == 1 || chan == 2 else chan == 1
  let j := joinGib d
  let lo := 8 * j * 2 ^ 30 + (if mode = 1 ∧ chan = 2 then regionBytes j else 0)
  let inside := fun a n => decide (lo ≤ a ∧ a + n ≤ lo + regionBytes j)
  let area := 0x1000 * (1 + 2 * slotPages d n)
  [(.state, d.strmSt n != sFree || !progValid d p || (chan != 3 && !modeOk) || (ringEn d n && !(ring d r).en) ||
      (compared d n && (d.dF n 0 10 9 == 1 || (ringEn d n && !dlEn d n)))),
   (.conflict, ringEn d n && (openStreams d).any fun m => m != n && ringEn d m && strmRing d m == r),
   (.reserved, d.dF n 0 10 9 == 3 || chan == 3),
   (.range, decide (cap < 16) || decide (26 < cap) || decide (2 ^ cap < d.dF n 4 26 0) || decide (2 ^ cap ≤ d.dF n 5 25 0) ||
      decide (ctxBase d n % 4096 ≠ 0) || decide (commitBase d n % 4096 ≠ 0) ||
      (progSeqs d p).any (fun q => (chan == 1 && decide (24 ≤ q)) || (chan == 2 && decide (q < 24))) ||
      (mode != 0 && !(inside (ctxBase d n) 1 && inside (commitBase d n) area))),
   (.unmapped, decide (memCapacity ≤ ctxBase d n) || decide (memCapacity < commitBase d n + area))]

/-- Checks of a command by its OP. -/
def opChecks (d : Dev) (n op arg : Nat) : List Check :=
  let st := d.strmSt n
  let live := [sWaiting, sReady, sRunning, sPaused].contains st
  match op with
  | 1 => openChecks d n
  | 2 => [(.state, st == sFree)]
  | 3 => [(.state, !([sWaiting, sReady, sRunning].contains st))]
  | 4 => [(.state, st != sPaused || d.flt.stalePrograms.contains (strmProg d n))]
  | 5 => [(.state, !live), (.range, arg == 0 || decide (65535 < credits16 d n + arg))]
  | 6 => [(.state, !live)]
  | 7 => [(.state, st != sFaulted)]
  | _ => [(.reserved, true)]

/-- STATUS.BUSY of the STRM page (R43, R319). -/
def strmBusy (b : Bool) (d : Dev) : Dev := d.wrF (Page.strm.base + 0xC) 4 4 (b2n b)

/-- The effect of an accepted command (DEDUCED, unsafe: notes/assumptions/67.md). -/
def opEffect (n op arg : Nat) (d : Dev) : Dev :=
  let st := d.strmSt n
  match op with
  | 1 =>
    let d := (d.setDF n 0 31 24 (d.dF n 0 31 24 + 1)).setDF n 7 23 16 0
    strmBusy true (d.modStrm fun s => { s with opening := some n })
  | 2 =>
    if st = sRunning && inFlight d n then setStrm n sClosing (d.setDF n 0 20 20 0)
    else setStrm n sFree (d.modStrm fun s => { s with
      beats := s.beats.map fun b => if b.stream = n ∧ !b.refill then { b with orphan := true } else b })
  | 3 => strmPause n d
  | 4 => if replayPend d n then setStrm n sRunning d else toWork n d
  | 5 => wake (d.setDF n 8 15 0 (credits16 d n + arg))
  | 6 => strmReleaseNow n d
  | _ => setStrm n sPaused ((d.setDF n 0 20 20 1).setDF n 7 23 16 0)

/-- A write of STRM.CMD (R319) (DEDUCED, unsafe: notes/assumptions/67.md). -/
def strmCmd (agent : Nat) (data : Word) (d : Dev) : Dev :=
  let n := fld data 13 0
  let op := fld data 17 14
  let arg := fld data 31 18
  strmChecked n 0 0 0x104 agent
    ([(.privilege, !d.mayWrite agent .strm), (.state, !d.up), (.busy, d.strm.opening.isSome)] ++ opChecks d n op arg)
    (opEffect n op arg) d

/-- The word of a command. -/
def cmdWord (n op arg : Nat) : Word := w32 (n % 16384 + op * 2 ^ 14 + arg * 2 ^ 18)

/-- In PAIRED mode the south copy lies at the same place in the south region (14_channels_twin_herd.md R524, R525). -/
def mirrorOff (d : Dev) : Nat := regionBytes (joinGib d)

/-- A write to a commit area, in paired mode to both copies while the south channel is there (R525, R526). -/
def areaWrite (d : Dev) (a : Nat) (bs : List Byte) : List MemWrite :=
  .bytes a bs :: (if d.chanMode = 2 ∧ !bitOf (d.rd CHAN_CH_STATUS) 1 then [.bytes (a + mirrorOff d) bs] else [])

def ones (n : Nat) : List Byte := List.replicate n 0xFF

/-- The initialisation of a commit area ends (R319, R335, R336) (DEDUCED, unsafe: notes/assumptions/67.md). -/
def openDone (d : Dev) : Dev × List MemWrite :=
  match d.strm.opening with
  | none => (d, [])
  | some n =>
    let rec_ := ones 6 ++ [0, BitVec.ofNat 8 (d.dF n 0 31 24)] ++ ones 6 ++ List.replicate (4096 - 14) 0
    let ws := areaWrite d (commitBase d n) rec_ ++ areaWrite d (slotAddr d n 0) (ones 6) ++ areaWrite d (slotAddr d n 1) (ones 6)
    let d := strmBusy false (d.modStrm fun s => { s with opening := none })
    (toWork n d, ws)

/-! ### Issue (R324, R325, R329, R331) -/

/-- Sequencers of a stream's beats: the mask, and in paired mode its mirror, unless the south channel is lost (R525,
R526). -/
def beatSeqs (d : Dev) (n : Nat) : List Nat :=
  let m := progSeqs d (strmProg d n)
  if d.chanMode = 2 ∧ !bitOf (d.rd CHAN_CH_STATUS) 1 then m ++ m.map (· + 24) else m

/-- Every sequencer has at most one beat incomplete. -/
def hasRoom (d : Dev) (qs : List Nat) : Bool :=
  qs.all fun q => decide ((d.strm.beats.filter fun b => b.left.contains q).length ≤ 1)

def quarantined (d : Dev) (f : Nat) : Bool := bitOf (d.rd (FIELD_HEALTH f)) 4

/-- Beats to a sequencer are held: a field under Ibex (13_faults_recovery.md R507), a swap that waits for its boundary
(06_sequencers_isa.md R224). -/
def seqHeld (d : Dev) (q : Nat) : Bool := quarantined d (q / 4) || d.strm.swaps.any fun w => w.mask.contains q

/-- A stream may be issued (DEDUCED, unsafe: notes/assumptions/68.md). -/
def eligible (d : Dev) (n : Nat) : Bool :=
  let st := d.strmSt n
  ((st == sRunning && replayPend d n) || (st == sReady && hasWork d n)) && !inFlight d n &&
    (kvGet? d.strm.parked n).isNone && (kvGet? d.strm.ingestWait n).isNone &&
    hasRoom d (beatSeqs d n) && !(beatSeqs d n).any (seqHeld d) && beatSeqs d n != []

/-- `before` of R331 (DEDUCED, unsafe: notes/assumptions/68.md). -/
def issueBefore (d : Dev) (a b : Nat) : Bool :=
  let ra := replayPend d a
  let rb := replayPend d b
  if ra != rb then ra
  else if dlEn d a != dlEn d b then dlEn d a
  else
    let fa := toSigned 32 ((d.dF a 15 31 0 + 2 ^ 32 - d.frame) % 2 ^ 32)
    let fb := toSigned 32 ((d.dF b 15 31 0 + 2 ^ 32 - d.frame) % 2 ^ 32)
    if dlEn d a && fa != fb then decide (fa < fb)
    else if dlEn d a && d.dF a 1 31 16 != d.dF b 1 31 16 then decide (d.dF a 1 31 16 < d.dF b 1 31 16)
    else if d.dF a 0 7 6 != d.dF b 0 7 6 then decide (d.dF a 0 7 6 < d.dF b 0 7 6)
    else decide ((a + 16384 - d.strm.rr) % 16384 < (b + 16384 - d.strm.rr) % 16384)

/-- The first stream of the order (DEDUCED, unsafe: notes/assumptions/68.md). -/
def nextStream (d : Dev) : Option Nat :=
  ((openStreams d).filter (eligible d)).foldl (fun (o : Option Nat) n =>
    match o with | none => some n | some m => if issueBefore d n m then some n else some m) none

/-- Kind, tokens and arguments of a new beat (R324, R329) (DEDUCED, unsafe: notes/assumptions/68.md). -/
def freshInfo (d : Dev) (n : Nat) : IssueInfo :=
  let e := entries d n
  let kind := if 0 < e then 1 else 0
  let tokens := if kind = 1 then min (d.dF n 8 27 16 + 1) e else 1
  let beat := strmBeat d n
  let r := ring d (strmRing d n)
  { kind, tokens, args := [
      slotAddr d n beat / 4096 % 2 ^ 27 + beat % 2 * 2 ^ 27,
      d.dF n 5 25 0 + kind * 2 ^ 26,
      d.dF n 4 26 0,
      if kind = 1 then tokens - 1 + r.cons % r.size * 2 ^ 16 else d.dF n 12 31 0] }

/-- The command of a beat to a sequencer (R324): the mirror half carries the entry of its north sequencer. -/
def beatCmd (d : Dev) (b : Beat) (prog q : Nat) (args : List Nat) : Cmd :=
  let e := progEntry d prog (if d.chanMode = 2 then q % 24 else q) b.kind
  { words := [w32 (b.tag + b.stream * 2 ^ 16), w32 b.beat, w32 (b.beat / 2 ^ 32 % 65536 + e * 2 ^ 16), w32 (b.attempt % 256)] ++
      args.map w32 }

/-- A command that names the beat's attempt. -/
def Beat.cmd (b : Beat) : Cmd := { words := [w32 (b.tag + b.stream * 2 ^ 16), w32 b.beat, w32 (b.beat / 2 ^ 32 % 65536), w32 (b.attempt % 256)] }

/-- A beat's commands are placed on VC_0 to its sequencers (R325). -/
def placeBeat (b : Beat) (prog : Nat) (args : List Nat) (d : Dev) : Dev :=
  let d := d.modFab fun f => { f with cmds := f.cmds ++ b.seqs.map fun q => (q, beatCmd d b prog q args) }
  d.modStrm fun s => { s with beats := s.beats ++ [b] }

/-- The bytes of a fold mask (14_channels_twin_herd.md R545). -/
def maskWrite (d : Dev) (m : Nat) : List MemWrite :=
  [.bytes ((d.rd HERD_MASK_BASE_LO).toNat + 2 ^ 32 * d.rdF HERD_MASK_BASE_HI 6 0) (leBytes 8 m)]

/-- A fold mask in wait is written, with PX_MASK, before the beat from which it holds (R545, 16_interfaces_pins.md R615). -/
def foldMaskFor (beat : Nat) (d : Dev) : Dev × List MemWrite :=
  match d.peer.maskPend with
  | some (m, b) =>
    if b ≤ beat then ((d.wr64 (SPUR_PX_MASK 0) m).modPeer fun p => { p with foldMask := m, maskPend := none }, maskWrite d m)
    else (d, [])
  | none => (d, [])

/-- The stream manager may issue (R331, R496, 11_clocking.md R440, 15_bringup_reset_licences.md R587). -/
def issueOn (d : Dev) : Bool :=
  d.up && !d.clk.refLost && bitOf (d.rd STRM_SCHED_CTRL) 0 && !bitOf (d.rd FLOOR_STATE) 4 && !bitOf (d.rd BOOT_RESET_STATUS) 0

/-- The next beat or replay is issued (R331): its slot's header is invalidated first (R338). -/
def beatIssue (d : Dev) : Dev × List MemWrite :=
  let d := swapWaits d
  if issueOn d then
    match nextStream d with
    | none => (d, [])
    | some n =>
      let beat := strmBeat d n
      let info := if replayPend d n || d.strm.rollbackNext.contains n then (kvGet? d.strm.replay n).getD (freshInfo d n) else freshInfo d n
      let info := if d.strm.rollbackNext.contains n then { info with args := info.args.set 1 (info.args.getD 1 0 % 2 ^ 28 + 2 ^ 28) } else info
      let b : Beat := { stream := n, beat, attempt := strmAttempt d n, kind := info.kind, tokens := info.tokens
                        seqs := beatSeqs d n, left := beatSeqs d n, rollback := d.strm.rollbackNext.contains n }
      let (d, ws) := foldMaskFor beat d
      let ws := ws ++ areaWrite d (slotAddr d n beat) (ones 6)
      let d := setStrm n sRunning (d.setDF n 0 20 20 0)
      let d := d.modStrm fun s => { s with
        rr := (n + 1) % 16384, replay := kvPut s.replay n info, rollbackNext := setDel s.rollbackNext n }
      let d := d.modFlt fun f => { f with attributed := kvDel f.attributed n }
      (placeBeat b (strmProg d n) info.args d, ws)
  else (d, [])

/-! ### Failure (R334, R342) -/

/-- An attempt fails: its queued commands are discarded and its running ones are stopped. -/
def failBeat (p : Beat → Bool) (d : Dev) : Dev :=
  let hit := d.strm.beats.filter fun b => p b && !b.failed
  let d := d.modStrm fun s => { s with beats := s.beats.map fun b => if p b then { b with failed := true } else b }
  hit.foldl (fun d b => b.left.foldl (fun d q => seqStop q b.cmd d) d) d

/-- The oldest report reaches the stream manager (R334). -/
def failReport (d : Dev) : Dev :=
  match d.flt.failReports with
  | [] => d
  | r :: rest => failBeat (fun b => b.stream == r.1 && b.tag == r.2) (d.modFlt fun f => { f with failReports := rest })

def failBeatsOfField (f : Nat) (d : Dev) : Dev := failBeat (fun b => b.seqs.any fun q => q / 4 == f) d

/-- Compute reset (R358): beats in flight are abandoned, streams become PAUSED with their replay pending. SEL is kept with its
requests, and commands on VC_0 go on (07_fabric.md R310). -/
def strmComputeReset (d : Dev) : Dev :=
  let d := (openStreams d).foldl (fun d n =>
    if d.strmSt n = sClosing then setStrm n sFree d
    else
      let d := if inFlight d n then d.setDF n 0 20 20 1 else d
      setStrm n sPaused d) d
  let d := d.modFlt fun f => { f with failReports := [] }
  d.modStrm fun s => { s with beats := [], ingestWait := [] }

/-! ### Registers of the STRM and SEL pages (R327, R359, R362) -/

def ringBusy (d : Dev) (r : Nat) : Bool := (openStreams d).any fun n => ringEn d n && strmRing d n == r

/-- Checks of a RING_PROD value (R327); `owner` says whether the producer writes. -/
def prodChecks (d : Dev) (r : Nat) (owner : Bool) (w : Word) : List Check :=
  let x := ring d r
  [(.owner, !owner),
   (.range, decide (2 ^ 31 ≤ (w.toNat + 2 ^ 32 - x.prod) % 2 ^ 32) || decide (x.size < (w.toNat + 2 ^ 32 - x.cons) % 2 ^ 32))]

def ringProducer (d : Dev) (r : Nat) : Nat := d.rdF (STRM_RING_CFG r) 27 24

/-- A write of RING_PROD_r by an agent. -/
def ringProdWrite (r agent : Nat) (data : Word) (d : Dev) : Dev :=
  let who := ringProducer d r
  d.checked .strm (0x148 + 16 * r) agent
    ([(.privilege, !d.mayWrite agent .strm), (.state, !d.up)] ++
      prodChecks d r ((who == 0 && agent == agentHost) || (who == 1 && isPewter agent)) data)
    fun d => wake (d.wr (STRM_RING_PROD r) data)

/-- Checks of a value written to another STRM register with fields of its own (R359). -/
def strmValueChecks (d : Dev) (off : Nat) (w : Word) : List Check :=
  if off = 0x100 then [(.range, decide (fld w 11 8 = 0))]
  else if 0x140 ≤ off ∧ off < 0x540 then
    let r := (off - 0x140) / 16
    if off % 16 = 0 then [(.busy, ringBusy d r), (.range, decide (fld w 11 0 ≠ 0))]
    else if off % 16 = 4 then
      let base := (d.rd (STRM_RING_BASE_LO r)).toNat + 2 ^ 32 * fld w 6 0
      [(.busy, ringBusy d r), (.range, decide (16 < fld w 20 16)), (.reserved, decide (9 < fld w 27 24)),
       (.unmapped, bitOf w 31 && decide (memCapacity < base + 64 * (fld w 15 8 + 1) * 2 ^ fld w 20 16))]
    else []
  else []

/-- Enabling a ring sets both indices to 0 (R327). -/
def strmValueSet (off : Nat) (old w : Word) (d : Dev) : Dev :=
  if 0x140 ≤ off ∧ off < 0x540 ∧ off % 16 = 4 ∧ bitOf w 31 ∧ !bitOf old 31 then
    (d.wr (STRM_RING_PROD ((off - 0x140) / 16)) 0).wr (STRM_RING_CONS ((off - 0x140) / 16)) 0
  else d

def blockSize (w : Word) : Nat := 32 * 2 ^ fld w 2 1

/-- Checks of SEL staged values (R362): those of one register, and those of the set. -/
def selValueChecks (off : Nat) (w : Word) : List Check :=
  if off = 0x100 then [(.reserved, decide (fld w 2 1 = 3))]
  else if off = 0x108 then [(.range, decide (fld w 5 0 < 4))]
  else if 0x140 ≤ off ∧ off < 0x170 then [(.range, decide (fld w 13 0 / 1088 ≠ (off - 0x140) / 4))]
  else []

def selApplyChecks (d : Dev) : List Check :=
  let c := d.stagedRd SEL_CFG
  let win := fld (d.stagedRd SEL_WINDOW) 22 0
  [(.busy, d.strm.selReqs.any fun (e : Nat × List (List Word)) => !e.2.isEmpty),
   (.reserved, decide (fld c 2 1 = 3)),
   (.range, decide (0x40000 < fld (d.stagedRd SEL_SUM_BASE) 20 0 + 16 * ((fld c 22 16 + 1) * (fld c 15 8 + 1))) ||
      decide (win % blockSize c ≠ 0) || decide (win < blockSize c) || decide (fld (d.stagedRd SEL_REQ) 5 0 < 4) ||
      (List.range 12).any fun f => decide (fld (d.stagedRd (SEL_TILE f)) 13 0 / 1088 ≠ f))]

/-! ### Summary selectors (R347 to R353) -/

/-- The site bound to a logical ID, as Pewter's port holds the binding. -/
def siteOf (d : Dev) (id : Nat) : Option Nat :=
  let e := bindEntry d (16384 + 0x11) id
  if entryValid e then some (entrySite e) else none

/-- A selector contributes to its reduction through the port of its tile (R351). -/
def selContribute (f : Nat) (words : List Word) (poison : Bool) (d : Dev) : Dev :=
  let id := d.rdF SEL_REQ 15 8
  match siteOf d (d.rdF (SEL_TILE f) 13 0) with
  | none => d
  | some s =>
    let e0 := redEntry d s id 0
    let remote := fld e0 29 28 == 2
    let p : Packet := { vc := 1, typ := 8, dest := id, addr := words.length, poison, data := words, redirect := remote
                        destSite := if remote then fld (redEntry d s id 2) 21 8 else 0 }
    (inject s p none d).1

def nanEntry : List Word := [w32 0x7FC00000, w32 0xFFFFFFFF]

def selReqs (d : Dev) (f : Nat) : List (List Word) := kvGetD d.strm.selReqs [] f
def setSelReqs (f : Nat) (l : List (List Word)) (d : Dev) : Dev :=
  let d := d.modStrm fun s => { s with selReqs := kvSetD s.selReqs [] f l }
  (d.wrF (SEL_STATUS f) 2 0 l.length).wrF (SEL_STATUS f) 15 15 (b2n !l.isEmpty)

/-- A request that R353 calls malformed. -/
def selBad (d : Dev) (r : List Word) : Bool :=
  let w := fun i => r.getD i 0
  let c := d.rd SEL_CFG
  let cap := fld (w 19) 4 0
  decide (r.length < 20) || decide (fld c 22 16 + 1 ≤ fld (w 16) 6 0) || decide (cap < 16) || decide (26 < cap) ||
    decide (2 ^ cap ≤ fld (w 17) 25 0) || decide (2 ^ cap < fld (w 18) 26 0) ||
    decide (13056 * (fld c 15 8 + 1) < 2 ^ cap / blockSize c)

/-- A refused or malformed request (R353): the poisoned NaN entry, and a REDUCTION record of the selector's router. -/
def selRefuse (f counter : Nat) (d : Dev) : Dev :=
  let d := d.bump counter
  let d := match siteOf d (d.rdF (SEL_TILE f) 13 0) with
    | some s => routerRecord s 0x0E (d.rdF SEL_REQ 15 8) d
    | none => d
  selContribute f nanEntry true d

/-- A request reaches the selector of a field (R348, R352, R353). -/
def selRequest (f : Nat) (d : Dev) : Dev :=
  match kvGetD d.strm.selIn [] f with
  | [] => d
  | r :: rest =>
    let d := d.modStrm fun s => { s with selIn := kvSetD s.selIn [] f rest }
    if !bitOf (d.rd SEL_CFG) 0 then d
    else if 4 ≤ (selReqs d f).length then selRefuse f SEL_REFUSED_COUNT d
    else if selBad d r then selRefuse f SEL_BAD_REQ_COUNT d
    else setSelReqs f (selReqs d f ++ [r.take 20]) d

/-- `candidate` of R349. -/
def candidate (j head len cap bs win : Nat) : Bool :=
  let x := (head + cap - (j + 1) * bs % cap) % cap
  decide (win ≤ x) && decide (x + bs ≤ len)

/-- 64 FP8 E4M3 elements of 16 words. -/
def e4m3Elems (ws : List Word) : List FVal := (List.range 64).map fun i => decodeF .e4m3 (((ws.getD (i / 4) 0).toNat >>> (8 * (i % 4))) % 256)

/-- The score of a summary (R350). -/
def score (q s : List Word) : Nat := toF32 (FVal.sum (((e4m3Elems q).zip (e4m3Elems s)).map fun e => e.1.mul e.2))

/-- Where the summary of ring block j lies: logical ID and word address (R347). -/
def summaryAt (d : Dev) (layer j : Nat) : Nat × Nat :=
  (j % 12 * 1088 + j / 12 % 1088, d.rdF SEL_SUM_BASE 20 0 + 16 * (layer * (d.rdF SEL_CFG 15 8 + 1) + j / 13056))

/-- What a scan has found: scored candidates, skipped ones, sites with an uncorrectable summary word. -/
structure Scan where
  found : List (Nat × Nat) := []
  skipped : Nat := 0
  bad : List (Nat × Nat) := []

def scanBlocks (d : Dev) (q : List Word) (layer : Nat) (js : List Nat) : Scan :=
  js.foldl (fun (s : Scan) j =>
    let p := summaryAt d layer j
    match siteOf d p.1 with
    | none => { s with skipped := s.skipped + 1 }
    | some site =>
      let t := d.tile site
      let s := match t.badIn p.2 16 with | some a => { s with bad := s.bad ++ [(site, a)] } | none => s
      { s with found := (score q (t.rdN p.2 16), j) :: s.found }) {}

/-- The oldest request of a selector is scanned and its contribution is injected (R349 to R352). -/
def selScan (f : Nat) (d : Dev) : Dev :=
  match selReqs d f with
  | [] => d
  | r :: rest =>
    let w := fun i => r.getD i 0
    let c := d.rd SEL_CFG
    let cap := 2 ^ fld (w 19) 4 0
    let layer := fld (w 16) 6 0
    let bs := blockSize c
    let js := ((List.range ((cap / bs + 11 - f) / 12)).map fun i => f + 12 * i).filter fun j =>
      candidate j (fld (w 17) 25 0) (fld (w 18) 26 0) cap bs (d.rdF SEL_WINDOW 22 0)
    let s := scanBlocks d (r.take 16) layer js
    let best := (s.found.mergeSort fun a b => !topBefore b a).take (fld c 31 24 + 1)
    let d := s.bad.foldl (fun d e => tileRecord e.1 0x03 e.2 (rvRef d e.1) (tileFlag e.1 flEccUe d)) d
    let d := (d.bump SEL_SCAN_COUNT).bumpBy SEL_SKIP_COUNT s.skipped
    let d := setSelReqs f rest (d.wrF (SEL_STATUS f) 14 8 layer)
    selContribute f (if best.isEmpty then nanEntry else wordsOf best) (!s.bad.isEmpty) d

/-! ### Commands -/

def unitRing (r : Nat) : Bool := decide (r < 64)

/-- DESCRIPTOR_WRITE (R316): word w of the descriptor of stream n. -/
def execDescriptorWrite (agent n w : Nat) (data : Word) (s : State) : Result :=
  guardUnit (unitStream n && decide (w < 16)) (onDev (descWrite agent n w data) s)
/-- OPEN (R319, R320). -/
def execOpenStream (agent n : Nat) (s : State) : Result := guardUnit (unitStream n) (onDev (strmCmd agent (cmdWord n 1 0)) s)
/-- OPEN_DONE (R319). -/
def execOpenDone (s : State) : Result := onDevMem (fun _ d => openDone d) s
/-- CLOSE (R319). -/
def execCloseStream (agent n : Nat) (s : State) : Result := guardUnit (unitStream n) (onDev (strmCmd agent (cmdWord n 2 0)) s)
/-- PAUSE (R319). -/
def execPauseStream (agent n : Nat) (s : State) : Result := guardUnit (unitStream n) (onDev (strmCmd agent (cmdWord n 3 0)) s)
/-- RESUME (R319). -/
def execResumeStream (agent n : Nat) (s : State) : Result := guardUnit (unitStream n) (onDev (strmCmd agent (cmdWord n 4 0)) s)
/-- STRM_CREDIT (R319). -/
def execStrmCredit (agent n arg : Nat) (s : State) : Result := guardUnit (unitStream n) (onDev (strmCmd agent (cmdWord n 5 arg)) s)
/-- STRM_RELEASE (R319, R328). -/
def execStrmRelease (agent n : Nat) (s : State) : Result := guardUnit (unitStream n) (onDev (strmCmd agent (cmdWord n 6 0)) s)
/-- CLEAR (R319). -/
def execClearStream (agent n : Nat) (s : State) : Result := guardUnit (unitStream n) (onDev (strmCmd agent (cmdWord n 7 0)) s)
/-- PROG_DATA_ACCESS (R323). -/
def execProgDataAccess (agent : Nat) (data : Option Word) (s : State) : Result := onDev (progAccess agent data) s
/-- RING_PROD_WRITE (R327). -/
def execRingProdWrite (r agent : Nat) (data : Word) (s : State) : Result := guardUnit (unitRing r) (onDev (ringProdWrite r agent data) s)
/-- BEAT_ISSUE (R331) (DESIGN CHOICE, unsafe: notes/assumptions/4.md). -/
def execBeatIssue (s : State) : Result := onDevMem (fun _ d => beatIssue d) s
/-- BEAT_FAIL_REPORT (R334). -/
def execBeatFailReport (s : State) : Result := onDev failReport s
/-- DEADLINE_REACHED (R332). -/
def execDeadlineReached (n : Nat) (s : State) : Result := guardUnit (unitStream n) (onDev (deadline n) s)
/-- SEL_REQUEST (R348). -/
def execSelRequest (f : Nat) (s : State) : Result := guardUnit (unitField f) (onMesh f (selRequest f) s)
/-- SEL_SCAN_DONE (R352). -/
def execSelScanDone (f : Nat) (s : State) : Result := guardUnit (unitField f) (onMesh f (selScan f) s)

end Sys2Proof.Machine
end

