-- ==== Sys2Proof/Machine/Twin.lean ====
section
/-! DEFINITION. Commits (08_streams_context.md R335 to R340), the comparison of channels, and twins
(14_channels_twin_herd.md R525 to R543). -/

namespace Sys2Proof.Machine

/-! ### Commits -/

/-- The beat digest over a copy of the slot (R527). -/
def beatDigest (x : ExtMem) (n kind beat slot pages : Nat) : Nat :=
  leNat ((sha256 (leBytes 6 beat ++ leBytes 2 n ++ leBytes 1 kind ++ x.read (slot + 64) (4096 * pages - 64))).take 16)

/-- Some line of a slot's payload is poisoned. -/
def slotPoisoned (x : ExtMem) (slot pages : Nat) : Bool :=
  x.poison.any fun l => decide (slot + 64 ≤ 64 * l ∧ 64 * l < slot + 4096 * pages)

/-- The slot header (R336). -/
def slotHeader (d : Dev) (b : Beat) (digest : Nat) : List Byte :=
  leBytes 6 b.beat ++ leBytes 1 b.attempt ++ leBytes 1 b.kind ++ leBytes 16 digest ++ leBytes 4 d.frame ++ leBytes 2 d.phase ++
    List.replicate 34 0

/-- The commit record (R335, R528). -/
def commitRecord (d : Dev) (n beat : Nat) (released : List Byte) (flags len head : Nat) : List Byte :=
  leBytes 6 beat ++ [0] ++ leBytes 1 (d.dF n 0 31 24) ++ released ++ [0, 0] ++ leBytes 4 d.frame ++ leBytes 2 d.phase ++
    leBytes 1 flags ++ [0] ++ leBytes 4 len ++ leBytes 4 head ++ List.replicate 32 0

/-- A release of a beat of a stream in PCIE.REL_RANGE raises the RELEASE interrupt (16_interfaces_pins.md R604). -/
def releaseInt (n : Nat) (d : Dev) : Dev :=
  let first := d.rdF PCIE_REL_RANGE 13 0
  if first ≤ n ∧ n ≤ first + d.rdF PCIE_REL_RANGE 29 16 then d.intCause 2 else d

/-- A stream whose commits wait for Chamois: compared, linked, not lapsed (R536, R539, R540). -/
def comparing (d : Dev) (n : Nat) : Bool := compared d n && twinSt d == 2 && !lapsed d n && !d.peer.barred.contains n

def setHistory (n : Nat) (l : List Commit) (d : Dev) : Dev := d.modPeer fun p => { p with hist := kvSetD p.hist [] n l }

/-- A field becomes due for an Ibex slice (13_faults_recovery.md R505). -/
def ibexMakeDue (f : Nat) (d : Dev) : Dev :=
  if d.flt.ibexDue.contains f || d.rdF (FIELD_HEALTH f) 1 0 == 3 then d
  else
    let d := d.modFlt fun x => { x with ibexDue := x.ibexDue ++ [f] }
    if d.rdF FLT_IBEX_STATUS 2 0 = 0 then (d.wrF FLT_IBEX_STATUS 2 0 1).wrF FLT_IBEX_STATUS 11 8 f else d
def ibexAllDue (d : Dev) : Dev := (List.range 12).foldl (fun d f => ibexMakeDue f d) d

/-- A difference is resolved against this module: reason SELF, and its fields become due (R505, R538, R539) (DEDUCED, unsafe: notes/assumptions/71.md). -/
def resolvedSelf (n beat : Nat) (d : Dev) : Dev := ibexAllDue (twinRecord 0x11 1 (partnerKey d) n beat d)

/-- HOLD for an attempt of a beat: to the partner of a compared stream, to the other members of a herd (R539, R550) (DEDUCED, unsafe: notes/assumptions/69.md). -/
def sendHold (n beat attempt : Nat) (pair : Bool) (d : Dev) : Dev :=
  let fs := [n, beat, attempt, b2n pair]
  let d := if compared d n && twinSt d == 2 then
      send fHold (partnerKey d) fs (d.modPeer fun p => { p with holdSent := kvPut p.holdSent n beat }) else d
  if isMember d then sendAll fHold fs d else d

/-- The two copies of a paired beat differ (R525): it fails with no attributed site (DEDUCED, unsafe: notes/assumptions/70.md). -/
def pairDisagree (b : Beat) (d : Dev) : Dev :=
  let d := d.bump CHAN_PAIR_DISAGREE_COUNT
  let d := d.wrN CHAN_LAST_PAIR (b.stream + b.beat % 65536 * 2 ^ 16)
  let d := twinRecord 1 0 0xFE b.stream b.beat d
  let d := failBeat (fun x => x.stream == b.stream && x.tag == b.tag) d
  let d := d.modStrm fun s => { s with beats := s.beats.map fun x => if x.stream = b.stream ∧ x.tag = b.tag then { x with told := true } else x }
  let was := compared d b.stream && twinSt d == 2
  let d := sendHold b.stream b.beat b.attempt true d
  if was then resolvedSelf b.stream b.beat d else d

/-- A paired beat commits uncompared while the south channel is lost (R526) (DEDUCED, unsafe: notes/assumptions/70.md). -/
def pairLapse (b : Beat) (d : Dev) : Dev :=
  let was := bitOf (d.rd CHAN_CH_STATUS) 2
  let d := (d.wrF CHAN_CH_STATUS 2 2 1).bump CHAN_PAIR_LAPSE_COUNT
  if was then d else twinRecord 2 0 0xFE b.stream b.beat d

/-- The position that holds a stream's append role: as the last APPEND that has taken effect says; before any, this module
where its descriptor says so, else the lead (DEDUCED, unsafe: notes/assumptions/88.md). -/
def appendHolder (d : Dev) (n : Nat) : Nat :=
  (kvGet? d.peer.appendPos n).getD (if d.dF n 0 18 18 = 1 then herdPos d else leadPos d)

/-- The role is to go to a position at a beat: every member is told (R551). -/
def appendGive (n beat next : Nat) (d : Dev) : Dev :=
  let d := d.modPeer fun p => { p with appendPend := p.appendPend ++ [(n, beat, next)] }
  sendAll fAppend [n, beat, next] (herdRecord 6 next next beat d)

/-- The next present position after one; after the highest the lowest (R551). -/
def appendNext (d : Dev) (pos : Nat) : Nat := ((members d).find? (pos < ·)).getD ((members d).headD (herdPos d))

/-- Every member counts what the holder of the append role appends: all run the same beats (R355). When the holder's
CTX_LEN reaches its capacity, or it has filled its ring anew, the lead moves the role (R355, R551) (DEDUCED, unsafe: notes/assumptions/88.md). -/
def appendMove (n tokens : Nat) (d : Dev) : Dev :=
  if isMember d then
    let holder := appendHolder d n
    let len := match kvGet? d.peer.appendLen n with
      | some l => l + tokens
      | none => if holder = herdPos d then d.dF n 4 26 0 else tokens
    let d := d.modPeer fun p => { p with appendLen := kvPut p.appendLen n len }
    if !isLead d ∨ len < capacity d n ∨ (members d).length < 2 then d
    else appendGive n (strmBeat d n) (appendNext d holder) d
  else d

/-- At its beat boundary the role moves: Pewter writes APPEND in the descriptor (R551) (DEDUCED, unsafe: notes/assumptions/88.md). -/
def appendBoundary (n : Nat) (d : Dev) : Dev :=
  let now := fun (e : Nat × Nat × Nat) => e.1 == n && decide (e.2.1 ≤ strmBeat d n)
  let due := d.peer.appendPend.filter now
  let d := due.foldl (fun d e =>
    let mine := decide (e.2.2 = herdPos d)
    let d := (d.setDF n 0 18 18 (b2n mine)).wrF HERD_STATE 24 24 (b2n mine)
    d.modPeer fun p => { p with appendPos := kvPut p.appendPos n e.2.2, appendLen := kvPut p.appendLen n 0 }) d
  d.modPeer fun p => { p with appendPend := p.appendPend.filter fun e => !now e }

/-- The descriptor changes of a commit (R337): the next beat is attempt 0. -/
def commitDesc (b : Beat) (d : Dev) : Dev :=
  let n := b.stream
  let next := (b.beat + 1) % 2 ^ 48
  let d := (d.setDF n 6 31 0 next).setDF n 7 23 0 (next / 2 ^ 32)
  let d := if d.dF n 0 18 18 = 1 then
      let len := min (capacity d n) (d.dF n 4 26 0 + b.tokens)
      (d.setDF n 5 25 0 ((d.dF n 5 25 0 + b.tokens) % capacity d n)).setDF n 4 26 0 len
    else d
  if b.kind = 1 then d.wrN (STRM_RING_CONS (strmRing d n)) ((ring d (strmRing d n)).cons + b.tokens)
  else d.setDF n 8 15 0 (credits16 d n - 1)

/-! ### Release, lapse and return (R536, R539, R540) -/

/-- A commit is released (R337, step 5): the record is rewritten with R_BEAT; TWIN says that Chamois released it. -/
def releaseCommit (n : Nat) (c : Commit) (twin : Bool) (d : Dev) : Dev × List MemWrite :=
  if c.released then (d, [])
  else
    let d := setHistory n ((history d n).map fun h => if h.beat = c.beat then { h with released := true } else h) d
    let d := d.modPeer fun p => { p with waitTick := kvDel p.waitTick n }
    let base := commitBase d n
    (releaseInt n d, areaWrite d (base + 8) (leBytes 6 c.beat) ++ areaWrite d (base + 22) (leBytes 1 (c.flags + 2 * b2n twin)))

/-- A compared stream lapses (R539): 1 HOLD, 2 timeout, 3 partner lost. Its committed beat is released alone. -/
def lapse (n reason : Nat) (d : Dev) : Dev × List MemWrite :=
  if lapsed d n then (d, [])
  else
    let d := (setMapBit TWIN_LAPSED n true d).bump TWIN_LAPSE_COUNT
    let d := twinRecord 0x14 reason (partnerKey d) n (strmBeat d n) d
    let d := d.modPeer fun p => { p with waitTick := kvDel p.waitTick n }
    let r := match (history d n).head? with
      | some c => releaseCommit n c false d
      | none => (d, [])
    (trySettle n r.1, r.2)

/-- A lapsed stream returns when the last committed beats are equal (R539); a lag above 256 beats bars it (R540). -/
def rejoin (n : Nat) (d : Dev) : Dev :=
  let d := showLag d
  match (history d n).head?, kvGet? d.peer.partnerLast n with
  | some c, some p =>
    if 256 < max (c.beat - p.1) (p.1 - c.beat) then d.modPeer fun x => { x with barred := setIns x.barred n }
    else if lapsed d n && !d.peer.barred.contains n && twinSt d == 2 && !rebuilding d n && c.beat == p.1 then
      setMapBit TWIN_LAPSED n false d
    else d
  | _, _ => d

/-- Comparison ends until a rebuild or a reopening: Pewter pauses the stream and asserts FAULT_N (R540). -/
def barStream (n : Nat) (d : Dev) : Dev :=
  let d := setMapBit TWIN_LAPSED n true (d.modPeer fun p => { p with barred := setIns p.barred n, waitTick := kvDel p.waitTick n })
  (strmPause n d).fault 1

/-- A difference on a beat that one module has released (R540) (DEDUCED, unsafe: notes/assumptions/70.md). -/
def lateDisagree (n : Nat) (c : Commit) (d : Dev) : Dev :=
  let d := d.bump TWIN_LATE_DISAGREE_COUNT
  let d := twinRecord 0x13 0 (partnerKey d) n c.beat d
  barStream n (sendHold n c.beat c.attempt false d)

/-- A committed beat is returned (R537, step 1): the record and the descriptor go back, a beat after it fails without
replay (DEDUCED, unsafe: notes/assumptions/70.md). -/
def returnBeat (n : Nat) (c : Commit) (d : Dev) : Dev × List MemWrite :=
  let d := setHistory n (history d n).tail d
  let d := d.modPeer fun p => { p with
    waitTick := kvDel p.waitTick n
    firstDigest := if (kvGet? p.firstDigest n).isSome then p.firstDigest else kvPut p.firstDigest n c.digest }
  let d := (d.setDF n 6 31 0 c.beat).setDF n 7 15 0 (c.beat / 2 ^ 32)
  let d := d.setDF n 7 23 16 (c.attempt + 1)
  let d := ((d.setDF n 5 25 0 c.head).setDF n 4 26 0 c.len).setDF n 0 18 18 (b2n c.append)
  let d := d.modPeer fun p => { p with
    appendPos := (match c.appendPos with | some x => kvPut p.appendPos n x | none => kvDel p.appendPos n)
    appendLen := (match c.appendLen with | some x => kvPut p.appendLen n x | none => kvDel p.appendLen n) }
  let d := if c.info.kind = 1 then d.wrN (STRM_RING_CONS (strmRing d n)) ((ring d (strmRing d n)).cons + 2 ^ 32 - c.info.tokens)
    else d.setDF n 8 15 0 (min 65535 (credits16 d n + 1))
  let d := failBeat (fun b => b.stream == n && !b.refill) d
  let d := d.modStrm fun s => { s with
    beats := s.beats.map fun b => if b.stream = n ∧ !b.refill then { b with dropped := true } else b
    replay := kvPut s.replay n c.info, rollbackNext := setIns s.rollbackNext n }
  let d := if d.strmSt n = sWaiting && hasWork d n then setStrm n sReady d else d
  (d, areaWrite d (commitBase d n) c.prev ++ areaWrite d (slotAddr d n c.beat) (ones 6))

/-- A stream becomes FAULTED (R321, R344): the record gives its credits and entries. -/
def strmFaulted (n tag : Nat) (d : Dev) : Dev :=
  let d := setStrm n sFaulted (d.setDF n 0 20 20 1)
  d.record 0x13 0 0 (credits16 d n + min (entries d n) 0x7FFF * 2 ^ 16 + 2 ^ 31) (some { tag, stream := n, withheld := false })

def maxAttempt (d : Dev) : Nat := d.rdF STRM_SCHED_CTRL 11 8

/-- The digests of a beat that neither module has released differ (R537): it is repeated, or the disagreement is
unresolved (DEDUCED, unsafe: notes/assumptions/70.md). -/
def disagree (n : Nat) (c : Commit) (d : Dev) : Dev × List MemWrite :=
  let k := kvGetD d.peer.repeats 0 n
  let d := twinRecord 0x10 k (partnerKey d) n c.beat (d.bump TWIN_DISAGREE_COUNT)
  let (d, ws) := returnBeat n c d
  let d :=
    if d.rdF TWIN_CFG 7 4 ≤ k then
      let d := pewterPause n d
      let d := d.setDF n 0 20 20 1
      (twinRecord 0x12 k (partnerKey d) n c.beat (d.bump TWIN_UNRESOLVED_COUNT)).fault 1
    else if maxAttempt d ≤ c.attempt then ibexAllDue (strmFaulted n (c.beat % 4096 + c.attempt % 16 * 4096) d)
    else (d.modPeer fun p => { p with repeats := kvPut p.repeats n (k + 1) }).bump TWIN_REPEAT_COUNT
  (d, ws)

/-- The partner has released the beat, as this module can tell: it has gone beyond it, or has been told to (DEDUCED, unsafe: notes/assumptions/70.md). -/
def partnerReleased (d : Dev) (n beat : Nat) : Bool :=
  (match kvGet? d.peer.partnerLast n with | some p => decide (beat < p.1) | none => false) || kvGet? d.peer.holdSent n == some beat

/-- The two digests of a beat meet (R536 to R540) (DEDUCED, unsafe: notes/assumptions/70.md). -/
def chamois (n : Nat) (c : Commit) (p : PartnerDigest) (d : Dev) : Dev × List MemWrite :=
  if d.peer.barred.contains n then (d, [])
  else if c.digest = p.digest then
    let d := match kvGet? d.peer.firstDigest n with
      | some f => if f ≠ c.digest then resolvedSelf n c.beat d else d
      | none => d
    let d := d.modPeer fun x => { x with repeats := kvDel x.repeats n, firstDigest := kvDel x.firstDigest n }
    releaseCommit n c true d
  else if c.released || partnerReleased d n c.beat then (lateDisagree n c d, [])
  else disagree n c d

/-- A commit meets the partner's digest that has come before it. -/
def chamoisPending (n : Nat) (d : Dev) : Dev × List MemWrite :=
  match (history d n).head? with
  | none => (d, [])
  | some c =>
    let l := kvGetD d.peer.partner [] n
    match l.find? fun p => p.beat == c.beat with
    | none => (d, [])
    | some p => chamois n c p (d.modPeer fun x => { x with partner := kvSetD x.partner [] n (l.filter fun q => q.beat != c.beat) })

/-- The source of a rebuild forwards its stream's writes (R542, step 2). -/
def forward (n : Nat) (ws : List MemWrite) (d : Dev) : Dev :=
  match kvGet? d.peer.rebuild n with
  | some r =>
    if r.source && twinSt d == 2 then
      ws.foldl (fun d w => match w with
        | .bytes a bs => sendOn 0 fCopy (partnerKey d) [a] bs d
        | _ => d) d
    else d
  | none => d

/-! ### The commit (R337) -/

/-- Commits of beats, since cold start. -/
def commitCount (d : Dev) : Dev := d.wr64 STRM_COMMITS_LO ((d.rd64 STRM_COMMITS_LO + 1) % 2 ^ 48)

/-- Steps 3 and 4 of R337. -/
def commitNow (b : Beat) (digest : Nat) (paired : Bool) (x : ExtMem) (d : Dev) : Dev × List MemWrite :=
  let n := b.stream
  let prev := x.read (commitBase d n) 64
  let waits := comparing d n
  let flags := b2n (d.strm.missed.contains n) + 4 * b2n paired
  let info := (kvGet? d.strm.replay n).getD { kind := b.kind, tokens := b.tokens, args := [] }
  let c : Commit := { beat := b.beat, attempt := b.attempt, info, head := d.dF n 5 25 0, len := d.dF n 4 26 0, digest
                      released := !waits, flags, prev, append := d.dF n 0 18 18 == 1
                      appendPos := kvGet? d.peer.appendPos n, appendLen := kvGet? d.peer.appendLen n }
  let ws := areaWrite d (slotAddr d n b.beat) (slotHeader d b digest)
  let d := commitCount (commitDesc b d)
  let ws := ws ++ areaWrite d (commitBase d n)
    (commitRecord d n b.beat (if waits then (prev.drop 8).take 6 else leBytes 6 b.beat) flags (d.dF n 4 26 0) (d.dF n 5 25 0))
  let d := if waits then d else releaseInt n d
  let d := d.modStrm fun s => { s with replay := kvDel s.replay n }
  let d := d.modPeer fun p => { p with commitPhase := d.phase }
  let d := appendBoundary n (appendMove n b.tokens d)
  let d :=
    if compared d n then
      let d := setHistory n ((c :: history d n).take 256) d
      let d := if waits then d.modPeer fun p => { p with waitTick := kvPut p.waitTick n d.time.tb } else d
      if twinSt d = 2 then send fDigest (partnerKey d) [n, b.beat, b.attempt, digest] d else d
    else d
  let d := match d.strmSt n with
    | 5 => setStrm n sFree d
    | 3 => if pausePend d n then setStrm n sPaused d else toWork n d
    | _ => d
  let d := forward n ws d
  let (d, ws2) := chamoisPending n d
  (rejoin n d, ws ++ ws2)

/-- A completed beat commits, or is found wrong at its commit: a poisoned payload (R139), copies that differ (R525). -/
def commitBeat (b : Beat) (x : ExtMem) (d : Dev) : Dev × List MemWrite :=
  let n := b.stream
  let slot := slotAddr d n b.beat
  let pages := slotPages d n
  let lostS := bitOf (d.rd CHAN_CH_STATUS) 1
  let both := d.chanMode == 2 && !lostS
  let fail := failBeat fun y => y.stream == n && y.tag == b.tag
  if slotPoisoned x slot pages || (both && slotPoisoned x (slot + mirrorOff d) pages) then (fail d, [])
  else
    let digest := beatDigest x n b.kind b.beat slot pages
    if both && digest != beatDigest x n b.kind b.beat (slot + mirrorOff d) pages then (pairDisagree b d, [])
    else commitNow b digest both x (if d.chanMode = 2 ∧ lostS then pairLapse b d else d)

/-! ### Frames of a twin (R533 to R541) -/

/-- A partner's DIGEST (R536, R539). -/
def digestIn (n : Nat) (p : PartnerDigest) (d : Dev) : Dev × List MemWrite :=
  if !compared d n || twinSt d != 2 then (d, [])
  else
    let d := d.modPeer fun x => { x with partnerLast := kvPut x.partnerLast n (p.beat, p.attempt) }
    let r := match (history d n).find? fun c => c.beat == p.beat with
      | some c => chamois n c p d
      | none =>
        if strmBeat d n ≤ p.beat && !d.peer.barred.contains n && d.strmSt n != sFree then
          (d.modPeer fun x => { x with partner := kvSetD x.partner [] n (kvGetD x.partner [] n ++ [p]) }, [])
        else (d, [])
    (rejoin n r.1, r.2)

/-- The spur block's part of a HOLD (R550, 16_interfaces_pins.md R616): a receive slot in use for the attempt reports it
failed and discards its receipts. -/
def pxUse (n beat attempt : Nat) : Nat := beat + n * 2 ^ 48 + attempt * 2 ^ 64
def holdSlots (n beat attempt : Nat) (d : Dev) : Dev :=
  let hit : Nat × PxSlot → Bool := fun e => e.2.use == pxUse n beat attempt && !e.2.got.isEmpty
  if d.peer.px.any hit then
    let d := d.modPeer fun p => { p with px := p.px.map fun (e : Nat × PxSlot) => if hit e then (e.1, { e.2 with got := [] }) else e }
    d.modFlt fun f => { f with failReports := f.failReports ++ [(n, beat % 4096 + attempt % 16 * 4096)] }
  else d

/-- HOLD (R539, R540, R550). A HOLD for a beat whose digest the partner has sent is a late disagreement. -/
def holdIn (src n beat attempt : Nat) (pair : Bool) (d : Dev) : Dev × List MemWrite :=
  let d := if isMember d then holdSlots n beat attempt d else d
  if !compared d n || twinSt d != 2 || src != partnerKey d || d.strmSt n == sFree then (d, [])
  else if kvGet? d.peer.partnerLast n = some (beat, attempt) then (barStream n d, [])
  else
    let r := lapse n 1 d
    (if pair then twinRecord 0x11 2 (partnerKey d) n beat r.1 else r.1, r.2)

/-- WAIT_US passes after the own commit without a digest (R539). -/
def digestTimeout (n : Nat) (d : Dev) : Dev × List MemWrite :=
  match kvGet? d.peer.waitTick n with
  | some t => if t + usTicks (d.rdF TWIN_CFG 27 16) ≤ d.time.tb then lapse n 2 d else (d, [])
  | none => (d, [])

/-- INGEST (R535, R546). -/
def ingestIn (src n frame cnt : Nat) (d : Dev) : Dev :=
  let d := d.modPeer fun p => { p with counts := kvSetD p.counts [] n (kvGetD p.counts [] n ++ [(src, frame, cnt)]) }
  trySettle n d

/-- The wait for counts ends (R535, R546): the counts that have come settle the release; a silent partner lapses the
stream. -/
def ingestTimeout (n : Nat) (d : Dev) : Dev × List MemWrite :=
  match kvGet? d.strm.ingestWait n with
  | none => (d, [])
  | some own =>
    let silent := compared d n && twinSt d == 2 && !lapsed d n && (countOf d n (partnerKey d) (d.dF n 13 31 0)).isNone
    let d := settle n (smallest d n own (d.dF n 13 31 0)) d
    if silent then lapse n 2 d else (d, [])

/-- TWIN.STATE (R560) (DEDUCED, unsafe: notes/assumptions/71.md). -/
def setTwin (st : Nat) (d : Dev) : Dev := d.wrF TWIN_STATE 2 0 st

/-- HELLO leaves with what R530 names; it takes no SEQ. -/
def helloSend (d : Dev) : Dev :=
  let k := partnerKey d
  emitFrame (planeFrom d 0) fHello k (kvGetD d.peer.seqOut 0 k)
    [d.rdF LIC_PROFILE 1 0, d.chanMode, twinRole d, (d.rd TWIN_CMP_RANGE).toNat, herdMax d, b2n (herdEn d && !herdPaired d),
     d.rd64 (DEV_ECID 0) + 2 ^ 64 * d.rd64 (DEV_ECID 2)] [] d

/-- LINKING (R533): what the link had under way is forgotten (DEDUCED, unsafe: notes/assumptions/71.md). -/
def twinLink (d : Dev) : Dev :=
  (setTwin 1 d).modPeer fun p => { p with
    unacked := p.unacked.filter fun s => s.peer != partnerKey d, seqOut := kvDel p.seqOut (partnerKey d)
    seqIn := kvDel p.seqIn (partnerKey d), refused := 0 }

/-- Why a twin is refused (R533, R557) (DESIGN CHOICE, unsafe: notes/assumptions/123.md). -/
def helloRefusal (d : Dev) (profile mode role range : Nat) (herd : Bool) : Nat :=
  if profile ≠ d.rdF LIC_PROFILE 1 0 then 1
  else if role = twinRole d then 2
  else if mode ≠ d.chanMode then 3
  else if range ≠ (d.rd TWIN_CMP_RANGE).toNat then 4
  else if herd || (herdEn d && !herdPaired d) then 5
  else 0

/-- HELLO (R533): the twin is formed, or refused; a module in LINKING answers (DEDUCED, unsafe: notes/assumptions/71.md). No
frame carries the partner's health: PARTNER_HEALTH is a free value among the codes (DESIGN CHOICE, safe:
notes/assumptions/120.md). -/
def helloIn (h : FrameHdr) (profile mode role range : Nat) (herd : Bool) (d : Dev) : Dev :=
  let d := frameHeard h d
  if twinSt d == 1 && !d.boot.restarting then
    match helloRefusal d profile mode role range herd with
    | 0 =>
      let k := partnerKey d
      let d := helloSend d
      let d := d.modPeer fun p => { p with
        seqIn := kvPut p.seqIn k h.seq, heard := kvPut p.heard k d.time.tb, firstAdopt := true, refused := 0, refFrame := none }
      let (v, d) := d.free
      let d := ((setTwin 2 d).wrF TWIN_STATE 13 12 mode).wrF TWIN_STATE 10 8 (v % 5)
      twinRecord 0x16 0 k 0 0 (d.wrF TWIN_STATE 5 5 1)
    | r => if d.peer.refused = r then d else twinRecord 0x17 r (partnerKey d) 0 0 (d.modPeer fun p => { p with refused := r })
  else d

/-- Every open compared stream, ascending. -/
def comparedStreams (d : Dev) : List Nat := (openStreams d).filter (compared d)

def lapseAll (reason : Nat) (d : Dev) : Dev × List MemWrite :=
  (comparedStreams d).foldl (fun r n => andThen r (lapse n reason)) (d, [])

/-- The partner is lost (R541). -/
def partnerLost (d : Dev) : Dev × List MemWrite :=
  if twinSt d = 2 then
    let d := (setTwin 3 d).wrF TWIN_STATE 5 5 0
    let d := d.bump TWIN_LOST_COUNT
    let d := twinRecord 0x15 0 (partnerKey d) 0 0 d
    let d := d.modPeer fun p => { p with unacked := p.unacked.filter fun s => s.peer != partnerKey d }
    lapseAll 3 (d.alert 1)
  else (d, [])

/-- No frame from the partner for 100 µs, or the port is down (R541). -/
def partnerSilent (d : Dev) : Bool :=
  (planes d).isEmpty || (!herdEn d && !planeUp d 0) || decide (kvGetD d.peer.heard 0 (partnerKey d) + usTicks 100 ≤ d.time.tb)

/-! ### Rebuild (R542) -/

def setRebuild (n : Nat) (r : Rebuild) (d : Dev) : Dev := d.modPeer fun p => { p with rebuild := kvPut p.rebuild n r }

/-- A rebuild starts on the module that is its source or its target (DEDUCED, unsafe: notes/assumptions/72.md). -/
def rebuildStart (n : Nat) (source : Bool) (d : Dev) : Dev × List MemWrite :=
  if !compared d n || twinSt d != 2 || d.strmSt n == sFree then (d, [])
  else if source then lapse n 3 (setRebuild n { source := true, step := 3 } d)
  else (strmPause n (setMapBit TWIN_REBUILDING n true (setRebuild n { source := false, step := 1 } d)), [])

/-- The stream's commit record, 64 bytes. -/
def recordOf (d : Dev) (n : Nat) (x : ExtMem) : List Byte := x.read (commitBase d n) 64

/-- Step 4: the source sends its descriptor's values and its record; the target installs them and refills (steps 4, 5) (DEDUCED, unsafe: notes/assumptions/72.md). -/
def rebuildInstall (n beat len head : Nat) (record : List Byte) (x : ExtMem) (d : Dev) : Dev × List MemWrite :=
  match kvGet? d.peer.rebuild n with
  | none => (d, [])
  | some r =>
    if r.source then
      if r.step = 3 ∧ d.strmSt n = sWaiting then
        let d := sendOn 0 fCopy (partnerKey d) [n, strmBeat d n, d.dF n 4 26 0, d.dF n 5 25 0] (recordOf d n x) d
        (setRebuild n { r with step := 6 } d, [])
      else (d, [])
    else if r.step = 1 ∧ d.strmSt n = sPaused then
      let d := (d.setDF n 6 31 0 beat).setDF n 7 23 0 (beat / 2 ^ 32 % 65536)
      let d := ((d.setDF n 4 26 0 len).setDF n 5 25 0 head).setDF n 0 20 20 0
      let d := d.wr (STRM_RING_CONS (strmRing d n)) (if ringEn d n then d.rd (STRM_RING_PROD (strmRing d n)) else d.rd (STRM_RING_CONS (strmRing d n)))
      let d := d.modPeer fun p => { p with
        hist := kvDel p.hist n, partner := kvDel p.partner n, repeats := kvDel p.repeats n, firstDigest := kvDel p.firstDigest n }
      let d := d.modStrm fun s => { s with replay := kvDel s.replay n, rollbackNext := setDel s.rollbackNext n }
      let prog := d.rdF TWIN_REBUILD_PROG 5 0
      let qs := progSeqs d prog
      let b : Beat := { stream := n, beat, attempt := 0, kind := 0, tokens := 0, seqs := qs, left := qs, refill := true }
      let args := [slotAddr d n beat / 4096 % 2 ^ 27 + beat % 2 * 2 ^ 27, head % 2 ^ 26, len % 2 ^ 27, 0xFFFFFFFF]
      (placeBeat b prog args (setRebuild n { r with step := 5 } d), areaWrite d (commitBase d n) ((record ++ List.replicate 64 0).take 64))
    else (d, [])

/-- The refill command has completed: Pewter resumes the stream (R542, step 5) (DEDUCED, unsafe: notes/assumptions/72.md). -/
def rebuildDone (n : Nat) (d : Dev) : Dev :=
  match kvGet? d.peer.rebuild n, d.strm.beats.find? (fun b => b.stream == n && b.refill) with
  | some r, some b =>
    if b.left.isEmpty && !b.failed && r.step == 5 then
      let d := d.modStrm fun s => { s with beats := s.beats.filter fun b => !(b.stream == n && b.refill) }
      let d := setRebuild n { r with step := 6 } d
      let d := twinRecord 0x19 0 (partnerKey d) n (strmBeat d n) d
      if d.strmSt n = sPaused then opEffect n 4 0 d else d
    else d
  | _, _ => d

/-- A COPY frame (R542): on the target its data lands at the same offset; a frame of the module's own leaves with the
bytes that it holds there (DEDUCED, unsafe: notes/assumptions/72.md). -/
def copyIn (h : FrameHdr) (addr : Nat) (data : List Byte) (x : ExtMem) (d : Dev) : Dev × List MemWrite :=
  if memCapacity < addr + data.length then (d, [])
  else if h.src = ownKey d then
    if d.peer.rebuild.any (fun (e : Nat × Rebuild) => e.2.source && e.2.step == 3) && twinSt d == 2 then
      (sendOn 0 fCopy (partnerKey d) [addr] (x.read addr data.length) d, [])
    else (d, [])
  else deliver (knownPeer · h) h fCopy (fun d =>
    if d.peer.rebuild.any fun (e : Nat × Rebuild) => !e.2.source then (d, [.bytes addr data]) else (d, [])) d

/-- A tile's write for a stream that is the source of a rebuild is forwarded (R542, step 2). -/
def memRequestFwd (m k : Nat) (ce ue : List Nat) (x : ExtMem) (d : Dev) : Dev × List MemWrite :=
  let part := (d.port m).queue[k]?
  let r := memRequest m k ce ue x d
  match part with
  | none => r
  | some q =>
    match tileCmd d q.site with
    | some c => (forward c.stream r.2 r.1, r.2)
    | none => r

/-! ### Commands -/

/-- MEM_REQUEST (09_external_memory.md R370 to R374): the k-th part of the port's queue is served; ce and ue name its lines
read with a correctable and with an uncorrectable error. -/
def execMemRequest (m k : Nat) (ce ue : List Nat) (s : State) : Result := guardUnit (unitMemp m) (onDevMem (memRequestFwd m k ce ue) s)
/-- HELLO (R533): what the frame says of the sender's profile, mode, role and CMP_RANGE, and whether it has an unpaired
herd configured. -/
def execHelloFrame (h : FrameHdr) (profile mode role range : Nat) (herd : Bool) (s : State) : Result :=
  onDev (fun d => if twinEn d && twinSt d != 0 then helloIn h profile mode role range herd d else staleFrame h fHello d) s
/-- HELLO_SEND (R533, R541): a module in LINKING sends it; a lost twin whose link is back links again. -/
def execHelloSend (s : State) : Result :=
  onDev (fun d => if twinSt d = 1 then helloSend d else if twinSt d == 3 && planeUp d 0 then helloSend (twinLink d) else d) s
/-- DIGEST (R536). -/
def execDigestFrame (h : FrameHdr) (stream beat attempt digest : Nat) (s : State) : Result :=
  onDevMem (fun _ d => deliver (knownPeer · h) h fDigest (digestIn stream { beat, attempt, digest }) d) s
/-- HOLD (R539, R550). -/
def execHoldFrame (h : FrameHdr) (stream beat attempt : Nat) (pair : Bool) (s : State) : Result :=
  onDevMem (fun _ d => deliver (knownPeer · h) h fHold (holdIn h.src stream beat attempt pair) d) s
/-- DIGEST_WAIT_TIMEOUT (R539). -/
def execDigestWaitTimeout (stream : Nat) (s : State) : Result :=
  guardUnit (unitStream stream) (onDevMem (fun _ d => digestTimeout stream d) s)
/-- INGEST (R535). -/
def execIngestFrame (h : FrameHdr) (stream frame count : Nat) (s : State) : Result :=
  onDev (deliver1 (knownPeer · h) h fIngest (ingestIn h.src stream frame count)) s
/-- INGEST_WAIT_TIMEOUT (R535). -/
def execIngestWaitTimeout (stream : Nat) (s : State) : Result :=
  guardUnit (unitStream stream) (onDevMem (fun _ d => ingestTimeout stream d) s)
/-- PARTNER_LOST (R541). -/
def execPartnerLost (s : State) : Result := onDevMem (fun _ d => if partnerSilent d then partnerLost d else (d, [])) s
/-- REBUILD_START (R542): on the source or on the target. -/
def execRebuildStart (stream : Nat) (source : Bool) (s : State) : Result :=
  guardUnit (unitStream stream) (onDevMem (fun _ d => rebuildStart stream source d) s)
/-- COPY_FRAME (R542). -/
def execCopyFrame (h : FrameHdr) (addr : Nat) (data : List Byte) (s : State) : Result := onDevMem (copyIn h addr data) s
/-- REBUILD_INSTALL (R542): the values are the source's, which the target installs. -/
def execRebuildInstall (stream beat len head : Nat) (record : List Byte) (s : State) : Result :=
  guardUnit (unitStream stream) (onDevMem (rebuildInstall stream beat len head record) s)
/-- REBUILD_DONE (R542). -/
def execRebuildDone (stream : Nat) (s : State) : Result := guardUnit (unitStream stream) (onDev (rebuildDone stream) s)

end Sys2Proof.Machine
end

