-- ==== Sys2Proof/Machine/Recover.lean ====
section
/-! DEFINITION. Classification by repetition, trials and refills, the floor-plan image, the end of the spares, field and port
failures, health, fencing and compute reset (13_faults_recovery.md R490 to R513, 15_bringup_reset_licences.md R586 to
R588), and the set points of the rails (12_power_thermal.md R449, R462). -/

namespace Sys2Proof.Machine

/-! ### Health (R510, R513) -/

def siteState (d : Dev) (s : Nat) : Nat := kvGetD d.flt.siteState 0 s
/-- Sites of a field in a state, ascending. -/
def fieldSitesIn (d : Dev) (f st : Nat) : List Nat :=
  d.flt.siteState.filterMap fun e => if siteField e.1 = f ∧ e.2 = st then some e.1 else none

/-- The binding table as Pewter has issued it (R282). -/
def planTable (d : Dev) : KV Word := d.fab.bindLog.foldl (fun t e => kvSetD t 0 e.1 e.2) d.fab.bindBoot
/-- Pewter's entry of a logical ID. -/
def planEntry (d : Dev) (id : Nat) : Word :=
  match (d.fab.bindLog.filter fun e => e.1 == id).getLast? with
  | some e => e.2
  | none => kvGetD d.fab.bindBoot 0 id

/-- A logical ID of the field has left the site that it received at floor-plan assembly (DEDUCED, unsafe: notes/assumptions/28.md). -/
def fieldMoved (d : Dev) (f : Nat) : Bool :=
  d.fab.bindLog.any fun e => e.1 / 1088 == f && entrySite (planEntry d e.1) != entrySite (kvGetD d.fab.bindBoot 0 e.1)

def workingPairs (d : Dev) : List Nat := below 4 fun p => !d.flt.pairsOut.contains p && !d.flt.pairsRetired.contains p

/-- The module's health and the channels lost (R513). -/
def moduleHealth (d : Dev) : Dev :=
  let st := fun f => d.rdF (FIELD_HEALTH f) 1 0
  let lostN := [0, 1, 2, 3, 4, 5].any fun f => st f == 3
  let lostS := [6, 7, 8, 9, 10, 11].any fun f => st f == 3
  let failed := (lostN && lostS) || decide ((workingPairs d).length < 2) || d.flt.memTierFault || d.clk.refLost
  let degraded := lostN || lostS || (List.range 8).any fun m => bitOf (d.rd (MEMP_STATUS_MP m)) 1
  let h := if failed then 4 else if degraded then 3 else if (List.range 12).any (fun f => st f == 2) then 2
    else if (List.range 12).any (fun f => st f == 1) then 1 else 0
  let w := setBit (setBit (setFld (d.rd FLOOR_STATE) 2 0 h) 8 lostN) 9 lostS
  let d := (d.wr FLOOR_STATE w).wr CHAN_CH_STATUS (setBit (setBit (d.rd CHAN_CH_STATUS) 0 lostN) 1 lostS)
  d.faultCond 3 failed

/-- Counts of a field's sites by state. -/
def fieldCounts (d : Dev) (f : Nat) : List Nat :=
  d.flt.siteState.foldl (fun c e => if siteField e.1 = f then modAt c e.2 (· + 1) else c) [0, 0, 0, 0, 0, 0, 0]

/-- TILES, SPARES and HEALTH.STATE of a field follow its sites (R510, R520). -/
def refreshField (f : Nat) (d : Dev) : Dev :=
  let c := fieldCounts d f
  let n := fun i => c.getD i 0
  let good := n 1 + n 2 + n 3
  let listed := n 1 + n 2 + n 3 + n 4 + n 5 + n 6
  let d := d.wrN (FIELD_TILES f) (good + (n 2 + n 3) * 2 ^ 16)
  let d := d.wrN (FIELD_SPARES f) (n 1 % 256 + n 5 % 256 * 2 ^ 8 + (1152 - listed) % 256 * 2 ^ 16 + n 6 % 256 * 2 ^ 24)
  if d.rdF (FIELD_HEALTH f) 1 0 = 3 then d
  else d.wrF (FIELD_HEALTH f) 1 0 (if good < 1088 then 2 else if fieldMoved d f then 1 else 0)

/-- A site changes state (R491); the health store follows (R504) (DEDUCED, unsafe: notes/assumptions/73.md). -/
def setSite (s st : Nat) (d : Dev) : Dev :=
  let d := d.modFlt fun x => { x with siteState := kvPut x.siteState s st }
  let d := d.modBoot fun b => { b with store := { b.store with
    dead := setPut b.store.dead s (st == 5), held := setPut b.store.held s (st == 6) } }
  moduleHealth (refreshField (siteField s) d)

/-- A HEALTH record: outcome, generation, other site (R484) (DEDUCED, unsafe: notes/assumptions/73.md). -/
def healthRecord (outcome s gen other : Nat) (d : Dev) : Dev :=
  d.record 0x1B 1 (d.siteUnit s) (outcome + gen % 256 * 2 ^ 8 + other * 2 ^ 16)

def lastRecov (outcome id gen : Nat) (d : Dev) : Dev := d.wrN FLOOR_LAST_RECOV (outcome + id * 2 ^ 8 + gen % 256 * 2 ^ 22)

/-! ### The floor-plan image (R517) -/

def base39 (d : Dev) (lo hi : Nat) : Nat := (d.rd lo).toNat + 2 ^ 32 * d.rdF hi 6 0
def imageBase (d : Dev) : Nat := base39 d FLOOR_IMAGE_BASE_LO FLOOR_IMAGE_BASE_HI
def refillBase (d : Dev) : Nat := base39 d FLOOR_REFILL_BASE_LO FLOOR_REFILL_BASE_HI
def patchBase (d : Dev) : Nat := base39 d FLOOR_PATCH_BASE_LO FLOOR_PATCH_BASE_HI

/-- Bound tiles of the die. -/
def boundCount (d : Dev) : Nat := ((List.range 12).map fun f => d.rdF (FIELD_TILES f) 26 16).sum

/-- A word of the site table; the latency that a PROXY route adds is a free value (DEDUCED, unsafe: notes/assumptions/96.md). -/
def siteWords (lat : KV Nat) (d : Dev) : KV Word :=
  d.flt.siteState.map fun e =>
    (e.1, w32 (e.2 + kvGetD lat 0 e.1 % 256 * 2 ^ 8 + kvGetD d.flt.serving 0 e.1 % 16384 * 2 ^ 16))

/-- The image is published in the copy that is not in force, which then comes into force (R517) (DEDUCED, unsafe: notes/assumptions/96.md). -/
def publish (d : Dev) : Dev × List MemWrite :=
  let k := 1 - d.rdF FLOOR_IMAGE_STATUS 0 0
  let a := imageBase d + 0x20000 * k
  let epoch := ((d.rd FLOOR_PLAN_EPOCH).toNat + 1) % 2 ^ 32
  let bound := boundCount d
  let (vs, d) := d.freeN d.flt.serving.length
  let lat := (d.flt.serving.zip vs).map fun e => (e.1.1, e.2)
  let field := fun f => leBytes 2 (d.rdF (FIELD_HEALTH f) 1 0) ++ leBytes 2 (d.rdF (FIELD_TILES f) 10 0) ++
    leBytes 2 (d.rdF (FIELD_SPARES f) 7 0) ++ leBytes 2 (d.rdF (FIELD_SPARES f) 15 8)
  let ws : List MemWrite := [
    .bytes a (leBytes 4 epoch ++ leBytes 2 bound ++ leBytes 1 (d.rdF FLOOR_STATE 2 0)),
    .bytes (a + 0x40) ((List.range 12).flatMap field),
    .bytes (a + 0x100) (wordBytes ((List.range 12).flatMap fun f => [d.rd (FIELD_SEAM_E f), d.rd (FIELD_SEAM_S f)])),
    .bytes (a + 0x1000) (wordBytes (denseWords 16384 0 (planTable d))),
    .bytes (a + 0x11000) (wordBytes (denseWords 13824 0 (siteWords lat d))),
    .bytes (a + 0x1F000) ((d.fab.regions.take 128).flatMap (fun r => leBytes 2 r.1 ++ leBytes 2 r.2.1 ++ leBytes 2 r.2.2.1 ++
      leBytes 2 r.2.2.2) ++ (if d.fab.regions.length < 128 then [0xFF, 0xFF] else []))]
  ((d.wrN FLOOR_PLAN_EPOCH epoch).wrN FLOOR_IMAGE_STATUS (k + bound * 2 ^ 16), ws)

/-! ### Fencing (R142, R178, R229) -/

/-- A tile as compute reset leaves it (03_tile.md R141, 04_matrix_unit.md R178): the scratchpad is kept. -/
def Tile.reset (t : Tile) : Tile :=
  { spad := t.spad, bad := t.bad, scrubRow := t.scrubRow, ceSince := t.ceSince, ceMs := t.ceMs, satSince := t.satSince
    satMs := t.satMs }

/-- A site is fenced: commands that it holds abort, what it was doing is abandoned, its accumulators stay. -/
def fenceSite (s : Nat) (d : Dev) : Dev :=
  let held := match d.tileSeq s with
    | none => []
    | some q => ((d.seq q).inflight.filter fun c => (d.tile s).holds (fun k => k.same c) ||
        (match (d.tile s).mx.dcw with | some a => a.cmd.same c | none => false)).map fun c => (q, c)
  let d := d.setFence (.tile s) true
  let d := d.modTile s fun t => { t with
    eng := [], input := [], requests := [],
    mx := { acc := t.mx.acc } }
  held.foldl (fun d e => seqTileFenced e.1 s e.2 d) d

/-! ### Regions of fenced routers (R284, R500) -/

abbrev Rect := Nat × Nat × Nat × Nat

/-- Two rectangles overlap or lie side by side. -/
def rectTouch (a b : Rect) : Bool :=
  !(decide (a.2.2.1 + 1 < b.1) || decide (b.2.2.1 + 1 < a.1) || decide (a.2.2.2 + 1 < b.2.1) || decide (b.2.2.2 + 1 < a.2.1))
def rectJoin (a b : Rect) : Rect := (min a.1 b.1, min a.2.1 b.2.1, max a.2.2.1 b.2.2.1, max a.2.2.2 b.2.2.2)

/-- A rectangle takes in every region that it touches; the fuel bounds the rounds. -/
def rectGrow : Nat → Rect → List Rect → Rect × List Rect
  | 0, r, l => (r, l)
  | n + 1, r, l =>
    match takeFirst (rectTouch r) l with
    | some (a, rest) => rectGrow n (rectJoin r a) rest
    | none => (r, l)

/-- Die edges that a rectangle touches. -/
def rectEdges (r : Rect) : Nat := b2n (r.1 == 0) + b2n (r.2.2.1 == 95) + b2n (r.2.1 == 0) + b2n (r.2.2.2 == 143)

/-- The regions with the router of a site fenced; none where they cannot take the form of R284. -/
def addRegion (s : Nat) (l : List Rect) : Option (List Rect) :=
  let x := siteX s
  let y := siteY s
  let (r, rest) := rectGrow (l.length + 1) (x, y, x, y) l
  if rectEdges r ≤ 1 then some (rest ++ [r]) else none

/-! ### Field and port failures (R512, R386, R475) -/

/-- The link ports of link-port domain 164 + n, by code (R451). -/
def linkPorts (n : Nat) : List Nat := [0x30 + n, 0x20 + 2 * n, 0x21 + 2 * n]

/-- A SerDes port's status word, and its two bits UP and FAILED. -/
def linkStatus (c : Nat) : Nat := if c < 0x30 then SENS_STATUS (c - 0x20) else SPUR_PORT_STATUS (c - 0x30)

/-- A host link leaves L0 for Detect (16_interfaces_pins.md R602, R626) (DEDUCED, unsafe: notes/assumptions/94.md). -/
def linkLeaves (n : Nat) (d : Dev) : Dev :=
  let d := if bitOf (d.rd (PCIE_LINK n)) 0 then
      ((d.wr (PCIE_LINK n) (setFld (d.rd (PCIE_LINK n) &&& 0x400) 0 0 0)).bump PCIE_DOWN_COUNT).record 0x1D 8 0x10 (0x02 + n * 2 ^ 8)
    else d
  breakLocksOf agentHost d

/-- A SerDes port fails (R475, R583, 16_interfaces_pins.md R627): 1 VSERDES, 2 its domain. A link port is no page, so a
port that is FAILED is what its domain's switch takes for fenced (R452; DEDUCED, safe: notes/assumptions/121.md). -/
def serdesFail (code why : Nat) (d : Dev) : Dev :=
  let was := planes d
  let d := if code = 0x10 then linkLeaves 1 (linkLeaves 0 d)
    else
      let d := d.wrF (linkStatus code) 1 0 2
      if code < 0x30 then d else d.wrF (linkStatus code) 15 8 0
  planeEvents was (planes d) (d.record 0x1D 8 code (0x0A + why * 2 ^ 8))

/-- An Ibex slice ends at its current step with a verdict (R509). -/
def ibexEnd (verdict : Nat) (d : Dev) : Dev :=
  match d.flt.ibexRun with
  | none => d
  | some r =>
    (d.modFlt fun x => { x with ibexRun := some { r with verdict := if r.verdict = 0 then verdict else r.verdict } }).wrF FLT_IBEX_STATUS 2 0 4

/-- HOLD clears (R496 step 7, R518): RECOV_US takes its length. -/
def holdEnd (start : Nat) (d : Dev) : Dev :=
  if bitOf (d.rd FLOOR_STATE) 4 then
    let us := min 0xFFFF ((d.time.tb - start) / 800)
    let d := d.wrN FLOOR_RECOV_US (us + max us (d.rdF FLOOR_RECOV_US 31 16) * 2 ^ 16)
    d.wrF FLOOR_STATE 4 4 0
  else d

/-- QUEUED of FLOOR.STATE. -/
def showQueue (d : Dev) : Dev := d.wrF FLOOR_STATE 16 12 d.flt.trialQueue.length

/-- A trial is over: RECOVERING clears. -/
def trialClear (d : Dev) : Dev := (d.modFlt fun x => { x with trial := none, refillDone := 0 }).wrF FLOOR_STATE 5 5 0

/-- A trial of a failing field ends with it, and its queued sites leave the queue. -/
def trialsEndField (f : Nat) (d : Dev) : Dev :=
  let out := d.flt.trialQueue.filter fun e => siteField e.1 == f
  let d := showQueue (d.modFlt fun x => { x with trialQueue := x.trialQueue.filter fun e => siteField e.1 != f })
  let d := d.modStrm fun s => { s with parked := s.parked.filter fun (e : Nat × Nat) => !(out.any fun o => o.1 == e.2) }
  match d.flt.trial with
  | some t => if siteField t.site = f then trialClear (holdEnd t.holdTick d) else d
  | none => d

/-- Pages of a field's units. -/
def fieldPages (f : Nat) : List Page :=
  [.field f, .trace f] ++ (fieldSeqs f).map .seq ++ (List.range 1152).map fun i => .tile (siteOfLocal f i)

/-- A field fails (R512): 1 fence form, 2 seam, 3 time-base copy, 4 PLL, 5 phases, 6 stretch, 7 rail, 8 sequencer fault,
9 router fence without a patch. -/
def fieldFailure (f cause : Nat) (d : Dev) : Dev :=
  if d.flt.fieldFailed.contains f then d
  else
    let d := seamsUnlockField f (failBeatsOfField f d)
    let d := (fieldSeqs f).foldl (fun d q => seqBreakLocks q d) d
    let d := (fieldPages f).foldl (fun d p => d.setFence p true) d
    let d := (List.range 12).foldl (fun d k => d.setDom (12 * f + k) false) (d.setDom (144 + f) false)
    let d := d.wr CLK_FIELD_PLL (setBit (setBit (d.rd CLK_FIELD_PLL) f false) (16 + f) false)
    let d := { d with
      tiles := d.tiles.filter fun (e : Nat × Tile) => siteField e.1 != f
      seqs := d.seqs.filter fun (e : Nat × Sequencer) => e.1 / 4 != f }
    let d := d.modFab fun x => { x with cmds := x.cmds.filter fun e => e.1 / 4 != f, reports := x.reports.filter fun e => e.1 / 4 != f }
    let d := d.modStrm fun s => { s with beats := s.beats.map fun b => { b with left := b.left.filter fun q => q / 4 != f } }
    let d := d.wr (FIELD_HEALTH f) (setFld (setFld (d.rd (FIELD_HEALTH f)) 1 0 3) 15 8 cause)
    let d := d.modFlt fun x => { x with fieldFailed := setIns x.fieldFailed f, ibexDue := x.ibexDue.filter (· != f) }
    let d := match d.flt.ibexRun with
      | some r => if r.field = f then ibexEnd 5 d else d
      | none => d
    moduleHealth (pauseOf (channelSeqs (fieldChannel f)) (trialsEndField f d))

/-- ABORTING ends; an uncorrectable entry of a bank that Pewter has loaded again since the last one fails the field (R512)
(DEDUCED, unsafe: notes/assumptions/132.md). -/
def abortEndField (q : Nat) (d : Dev) : Dev :=
  let d' := swapWaits (abortEnd q d)
  match (d.seq q).fault with
  | none => d'
  | some f =>
    if f.cause != 6 || (d'.seq q).fault.isSome then d'
    else if kvGet? (d.seq q).ue f.bank = some true then fieldFailure (q / 4) 8 d'
    else d'.modSeq q fun x => { x with ue := kvPut x.ue f.bank false }

/-- Every SerDes port, by code (07_fabric.md R307). -/
def serdesPorts : List Nat := 0x10 :: (List.range 8).map (0x20 + ·) ++ (List.range 4).map (0x30 + ·)

/-- A port fails: a memory port under R386, a SerDes port under R475 and 16_interfaces_pins.md R627. -/
def portFail (code : Nat) (d : Dev) : Dev :=
  if code < 8 then
    if bitOf (d.rd (MEMP_STATUS_MP code)) 1 then d
    else
      let d := d.setFence (.memp code) true
      let d := d.wr (MEMP_STATUS_MP code) (setBit (d.rd (MEMP_STATUS_MP code)) 1 true)
      moduleHealth (statusRecord code d)
  else serdesFail code 1 d

/-! ### Shrinking (R511) -/

/-- A site is declared dead in a field without a spare: the binding goes, the streams of the field pause (DEDUCED, unsafe: notes/assumptions/75.md). -/
def shrink (s : Nat) (d : Dev) : Dev × List MemWrite :=
  let f := siteField s
  let id := d.rdF (TILE_BIND s) 13 0
  let gen := d.tileGen s
  let d := healthRecord 0x08 s gen 0 d
  let d := bindIssue id 0 (fenceSite s d)
  let d := d.wrF (TILE_BIND s) 31 31 0
  let d := d.modStrm fun x => { x with parked := x.parked.filter fun (e : Nat × Nat) => e.2 != s }
  let d := pauseOf (fieldSeqs f) d
  let d := d.modFlt fun x => { x with
    stalePrograms := (below 64 fun p => progValid d p && (progSeqs d p).any fun q => q / 4 == f).foldl setIns x.stalePrograms }
  publish (lastRecov 0x08 id gen ((setSite s 5 d).bump FLOOR_SHRINK_COUNT))

/-! ### Trials (R495, R496, R500) -/

def hopsBetween (a b : Nat) : Nat :=
  (max (siteX a) (siteX b) - min (siteX a) (siteX b)) + (max (siteY a) (siteY b) - min (siteY a) (siteY b))

/-- The spare for a trial (R495). -/
def nearestSpare (d : Dev) (s : Nat) : Option Nat :=
  ((fieldSitesIn d (siteField s) 1).filter fun x => !routerFenced d x && d.domOn (siteDomain x) && !quarantined d (siteField s)).foldl
    (fun (o : Option Nat) x => match o with
      | none => some x
      | some y => if hopsBetween s x < hopsBetween s y then some x else some y) none

/-- Step 3 for one reduction entry of S: PROXY at S, REMOTE at the spare (R296) (DESIGN CHOICE, safe: notes/assumptions/74.md). -/
def proxyRed (s spare id : Nat) (d : Dev) : Dev :=
  let w := redEntry d s id 0
  if bitOf w 0 && (bitOf w 5 || fld w 27 25 == 0) then
    d.modFab fun x =>
      let set := fun (r : KV Word) (site mode redirect : Nat) =>
        let k := 4 * (256 * site + id)
        -- an entry that was not in use comes into use with the operation alone
        let e := kvGetD r 0 k
        let e := if bitOf e 0 then e else w32 (1 + redOp w * 2)
        kvSetD (kvSetD r 0 k (setFld e 29 28 mode)) 0 (k + 2) (setFld (kvGetD r 0 (k + 2)) 21 8 redirect)
      { x with red := set (set x.red s 1 spare) spare 2 s }
  else d

/-- Step 3 for one broadcast entry (DESIGN CHOICE, safe: notes/assumptions/74.md). -/
def proxyBc (s spare tree : Nat) (d : Dev) : Dev :=
  let w := bcEntry d s tree 0
  if decide (4 ≤ tree) && bitOf w 0 && bitOf w 4 then
    let k := 2 * (64 * s + tree)
    d.modFab fun x => { x with bc := kvPut x.bc k (setFld (setFld (kvGetD x.bc 0 k) 10 9 1) 24 11 spare) }
  else d

/-- Entries elsewhere that already redirect to S follow its logical ID to the new spare. -/
def redirectMoved (s spare : Nat) (d : Dev) : Dev :=
  d.modFab fun x => { x with
    red := x.red.map fun (e : Nat × Word) =>
      if e.1 % 4 = 2 ∧ fld (kvGetD x.red 0 (e.1 - 2)) 29 28 = 1 ∧ fld e.2 21 8 = s then (e.1, setFld e.2 21 8 spare) else e
    bc := x.bc.map fun (e : Nat × Word) =>
      if e.1 % 2 = 0 ∧ fld e.2 10 9 = 1 ∧ fld e.2 24 11 = s then (e.1, setFld e.2 24 11 spare) else e }

/-- NBR words of tiles that name a logical ID, but the spare itself: site, direction, word. -/
def nbrNaming (d : Dev) (id : Nat) : List (Nat × Nat × Word) :=
  d.regs.filterMap fun e =>
    let o := e.1 % 0x400
    if 0x1000000 ≤ e.1 ∧ e.1 < 0x1D80000 ∧ 0x1C0 ≤ o ∧ o < 0x1D0 ∧ bitOf e.2 31 ∧ fld e.2 13 0 = id then
      some ((e.1 - 0x1000000) / 0x400, (o - 0x1C0) / 4, e.2)
    else none

/-- The NBR words that a move of `id` to `spare` at `gen` writes (R496 step 3): those of the spare, which has the
neighbours of S, and those of every tile that names the ID (DEDUCED, unsafe: notes/assumptions/97.md). -/
def nbrUpdates (s spare id gen : Nat) (d : Dev) : List (Nat × Nat × Word) :=
  let own := (List.range 4).map fun i =>
    let w := d.rd (TILE_NBR s i)
    let adj := match nbrSite spare i with
      | some n => bitOf w 31 && d.tileBound n && d.tileId n == fld w 13 0
      | none => false
    (spare, 0x1C0 + 4 * i, setBit w 30 adj)
  let others := ((nbrNaming d id).filter fun e => e.1 != spare && e.1 != s).map fun e =>
    (e.1, 0x1C0 + 4 * e.2.1, setBit (setFld e.2.2 23 16 gen) 30 (nbrSite e.1 e.2.1 == some spare))
  own ++ others

/-- Steps 2 to 5 of a trial (R496): fence, trees, GROUP and neighbours, the binding, the start of the refill (DESIGN CHOICE, safe: notes/assumptions/74.md; DEDUCED, unsafe: notes/assumptions/97.md). -/
def trialPlace (t : Trial) (d : Dev) : Dev :=
  let s := t.site
  let d := fenceSite s d
  let d := if siteState d s = 4 then d else healthRecord 0x03 s t.gen t.spare (setSite s 4 d)
  let d := if t.withFence then d
    else (List.range 64).foldl (fun d k => proxyBc s t.spare k d) ((List.range 256).foldl (fun d k => proxyRed s t.spare k d) d)
  let d := redirectMoved s t.spare d
  let nbr := nbrUpdates s t.spare t.logical t.gen d
  let group := d.rd (TILE_GROUP s)
  let bind := setBit (setBit (setFld (setFld (d.rd (TILE_BIND t.spare)) 13 0 t.logical) 23 16 t.gen) 30 false) 31 true
  let d := d.modFab fun x => { x with updates := x.updates ++ [(t.spare, 0x108, group), (t.spare, 0x104, bind)] ++ nbr }
  let d := d.wrF (TILE_BIND s) 31 31 0
  let d := bindIssue t.logical (bindWord t.spare t.gen true) d
  let d := setSite t.spare 2 d
  let d := d.wrN FLOOR_LAST_SPARE (s + t.spare * 2 ^ 16)
  let d := d.modFlt fun x => { x with
    trial := some { t with step := 5, refillTick := d.time.tb }, serving := kvPut x.serving s t.spare, refillDone := 0 }
  d.wrN FLOOR_REFILL_STATUS 0

/-- The words of S's fence patch (R500), as pairs of its two words, up to LAST. -/
def patchWords (x : ExtMem) (a : Nat) : Nat → List (Word × Word)
  | 0 => []
  | n + 1 =>
    let w := w32 (x.readN a 4)
    (w, w32 (x.readN (a + 4) 4)) :: (if bitOf w 31 then [] else patchWords x (a + 8) n)

/-- One router-table write of a patch, under the checks of R313. -/
def patchWrite (e : Word × Word) (d : Dev) : Dev :=
  let site := fld e.1 13 0
  let table := fld e.1 15 14
  let index := fld e.1 23 16
  let word := fld e.1 25 24
  if 13824 ≤ site ∨ table = 0 ∨ table = 3 ∨ rtEntries table ≤ index ∨ rtWords table ≤ word then d
  else
    let l := rtAssembled d site table index word e.2
    if word + 1 < rtWords table then d.modFab fun x => { x with rtHeld := kvPut x.rtHeld (rtKey site table index word) e.2 }
    else if (firstFail (rtContentChecks d site table index l)).isSome then d
    else rtStore site table index l d

/-- The regions change: Pewter builds trees 0 to 3 anew (07_fabric.md R288). -/
def setRegions (rs : List Rect) (d : Dev) : Dev :=
  d.modFab fun f => { f with regions := rs, bc := f.bc.filter fun (e : Nat × Word) => decide (4 ≤ e.1 / 2 % 64) }

/-- The router of S is fenced and its patch applied (R500); a field failure where that is impossible. The answer says
whether the trial goes on. -/
def fenceRouter (s : Nat) (x : ExtMem) (d : Dev) : Dev × Bool :=
  let a := patchBase d + 16384 * s
  match addRegion s d.fab.regions with
  | none => (fieldFailure (siteField s) 1 d, false)
  | some rs =>
    if x.readN a 4 = 0xFFFFFFFF then (fieldFailure (siteField s) 9 d, false)
    else
      let d := setRegions rs d
      let caught := (d.flt.siteState.filter fun e => (e.2 == 2 || e.2 == 3) && e.1 != s && routerFenced d e.1 &&
        !d.flt.trialQueue.any fun q => q.1 == e.1).map fun e => (e.1, 1)
      let d := showQueue (d.modFlt fun f => { f with trialQueue := f.trialQueue ++ caught })
      ((patchWords x a 2048).foldl (fun d e => patchWrite e d) d, true)

/-- A trial of a site begins (R496), or the floor plan shrinks for want of a spare (R492). -/
def trialBegin (s mode : Nat) (x : ExtMem) (d : Dev) : Dev × List MemWrite :=
  if siteState d s ≠ 2 ∧ siteState d s ≠ 3 then (d, [])
  else
    let (d, ok) := if mode = 1 then fenceRouter s x d else (d, true)
    if !ok then (d, [])
    else
      match nearestSpare d s with
      | none => shrink s d
      | some spare =>
        let t : Trial := { site := s, spare, logical := d.tileId s, gen := (d.tileGen s + 1) % 256, withFence := mode == 1, step := 1
                           holdTick := d.time.tb, refillTick := 0, noReplay := mode == 2 }
        let d := (d.wrF FLOOR_STATE 4 4 1).wrF FLOOR_STATE 5 5 1
        let d := d.modStrm fun y => { y with parked := y.parked.filter fun (e : Nat × Nat) => e.2 != s }
        (trialPlace t d, [])

/-- A queued site may have its trial (R493): not in a quarantined field. -/
def trialAllowed (d : Dev) (e : Nat × Nat) : Bool := !quarantined d (siteField e.1)

/-- The next queued trial starts (R493). -/
def trialStart (x : ExtMem) (d : Dev) : Dev × List MemWrite :=
  if d.flt.trial.isSome then (d, [])
  else
    match takeFirst (trialAllowed d) d.flt.trialQueue with
    | none => (d, [])
    | some (e, rest) => trialBegin e.1 e.2 x (showQueue (d.modFlt fun f => { f with trialQueue := rest }))

/-- A trial is decided (R492): S is DEAD, or HELD (DEDUCED, unsafe: notes/assumptions/75.md). -/
def trialDecide (t : Trial) (dead : Bool) (d : Dev) : Dev × List MemWrite :=
  let outcome := if dead then 0x04 else 0x05
  let d := setSite t.site (if dead then 5 else 6) d
  let d := healthRecord outcome t.site t.gen t.spare d
  let d := d.bump (if dead then FLOOR_DEAD_COUNT else FLOOR_NOT_UNIT_COUNT)
  let d := lastRecov outcome t.logical t.gen (trialClear d)
  publish (if dead then d else ibexMakeDue (siteField t.site) d)

/-- The spare of a trial is out (R499, R502): it is DEAD, and the trial goes on at step 2 with the next spare (DEDUCED, unsafe: notes/assumptions/75.md). -/
def trialNextSpare (outcome : Nat) (t : Trial) (d : Dev) : Dev × List MemWrite :=
  let d := if outcome = 0 then d else lastRecov outcome t.logical t.gen (healthRecord outcome t.site t.gen t.spare d)
  let d := (setSite t.spare 5 (fenceSite t.spare d)).bump FLOOR_DEAD_COUNT
  let d := d.wrF (TILE_BIND t.spare) 31 31 0
  let d := d.modFab fun x => { x with updates := x.updates.filter fun u => u.1 != t.spare }
  match nearestSpare d t.site with
  | none =>
    let d := trialClear (holdEnd t.holdTick (d.wrF (TILE_BIND t.site) 13 0 t.logical))
    shrink t.site (d.modFlt fun x => { x with serving := kvDel x.serving t.site })
  | some spare => (trialPlace { t with spare, gen := (t.gen + 1) % 256, retried := false } d, [])

/-! ### The refill (R497 to R499) -/

/-- The lines that a segment copies, in order: line index of external memory and word address in the scratchpad. -/
def segmentLines (x : ExtMem) (a : Nat) : List (Nat × Nat) :=
  let w := fun i => w32 (x.readN (a + 4 * i) 4)
  if bitOf (w 1) 31 then
    let src := (w 0).toNat + 2 ^ 32 * fld (w 1) 6 0
    (List.range (fld (w 4) 31 16 + 1)).flatMap fun i2 => (List.range (fld (w 4) 15 0 + 1)).flatMap fun i1 =>
      (List.range (fld (w 3) 11 0 + 1)).map fun k =>
        ((src + i2 * (w 6).toNat + i1 * (w 5).toNat) / 64 + k,
         fld (w 2) 20 0 + 16 * (i2 * fld (w 7) 31 16 + i1 * fld (w 7) 15 0 + k))
  else []

/-- The refill list of a logical ID (R497). -/
def refillLines (x : ExtMem) (d : Dev) (id : Nat) : List (Nat × Nat) :=
  (List.range 8).flatMap fun s => segmentLines x (refillBase d + 256 * id + 32 * s)

/-- A line of the list is read at its port and written at the spare; a poisoned one becomes uncorrectable there. -/
def refillLine (spare : Nat) (errs : KV Nat) (x : ExtMem) (l : Nat × Nat) (d : Dev) : Dev × List MemWrite :=
  if memCapacity ≤ 64 * l.1 ∨ spadWords < l.2 + 16 then (d, [])
  else
    let m := (memMap (joinGib d) (64 * l.1)).1
    let (r, d) :=
      if portFailed d m then
        let (vs, d) := d.freeN 64
        (({ bytes := vs.map (BitVec.ofNat 8 ·), poison := true, writes := [] } : LineRead), d)
      else lineRead m l.1 0 (kvGetD errs 0 l.1) x d
    let d := d.modTile spare fun t =>
      let t := t.wrN l.2 (leWords r.bytes)
      if r.poison then { t with bad := (List.range 16).foldl (fun b i => setIns b (l.2 + i)) t.bad } else t
    (if r.poison then d.wrF FLOOR_REFILL_STATUS 8 8 1 else d, r.writes)

/-- Refill packets land: the next `n` lines of the list, `errs` the errors of the lines read; a port with no line left is
done (R498) (DEDUCED, unsafe: notes/assumptions/72.md). -/
def refillPacket (n : Nat) (errs : KV Nat) (x : ExtMem) (d : Dev) : Dev × List MemWrite :=
  match d.flt.trial with
  | none => (d, [])
  | some t =>
    if t.step ≠ 5 then (d, [])
    else if !(d.tileBound t.spare && d.tileId t.spare == t.logical && d.tileGen t.spare == t.gen) || d.tileFenced t.spare then
      (staleDrop t.spare { vc := 3, typ := 0xB, dest := t.logical, destGen := t.gen } d, [])
    else
      let ls := ((refillLines x d t.logical).drop d.flt.refillDone).take n
      let r := ls.foldl (fun r l => andThen r (refillLine t.spare errs x l)) (d, [])
      let left := (refillLines x d t.logical).drop (d.flt.refillDone + ls.length)
      let ports := below 8 fun m => !left.any fun l => (memMap (joinGib d) (64 * l.1)).1 == m
      let d := r.1.modFlt fun y => { y with refillDone := y.refillDone + ls.length }
      let d := d.wrF FLOOR_REFILL_STATUS 7 0 (ports.foldl (fun n m => n + 2 ^ m) 0)
      (d.wrF FLOOR_REFILL_STATUS 28 16 (min 8191 (d.flt.refillDone / 16)), r.2)

/-- The port byte counts sum to the list's total (R496 steps 6 and 7) (DEDUCED, unsafe: notes/assumptions/72.md; DEDUCED, unsafe: notes/assumptions/75.md). -/
def refillComplete (x : ExtMem) (d : Dev) : Dev × List MemWrite :=
  match d.flt.trial with
  | none => (d, [])
  | some t =>
    if t.step = 5 ∧ (refillLines x d t.logical).length ≤ d.flt.refillDone then
      let d := d.wrF FLOOR_REFILL_STATUS 7 0 0xFF
      let d := holdEnd t.holdTick d
      let t := { t with step := 7 }
      if t.noReplay then trialDecide t true d else (d.modFlt fun y => { y with trial := some t }, [])
    else (d, [])

/-- 400 µs have passed since the refill's start (R499). -/
def refillTimeout (d : Dev) : Dev × List MemWrite :=
  match d.flt.trial with
  | none => (d, [])
  | some t =>
    if t.step = 5 ∧ t.refillTick + usTicks 400 ≤ d.time.tb then
      if t.retried then trialNextSpare 0x06 t d
      else ((d.modFlt fun y => { y with trial := some { t with retried := true, refillTick := d.time.tb }, refillDone := 0 }).wrN FLOOR_REFILL_STATUS 0, [])
    else (d, [])

/-! ### Classification (R490 to R494) -/

def autoEn (d : Dev) : Bool := bitOf (d.rd FLT_CLS_CFG) 16

/-- A transient of a site (R492, R494). -/
def siteTransient (s : Nat) (d : Dev) : Dev :=
  let f := siteField s
  let d := healthRecord 0x01 s (d.tileGen s) 0 (setSite s 2 d)
  let d := (d.bump (FIELD_TRANSIENTS f)).bump FLOOR_TRANSIENT_COUNT
  let win := usTicks (60000000 * d.rdF FLT_CLS_CFG 15 8)
  let l := d.time.tb :: (kvGetD d.flt.transients [] s).filter fun t => decide (d.time.tb ≤ t + win)
  let d := d.modFlt fun x => { x with transients := kvPut x.transients s l }
  if d.rdF FLT_CLS_CFG 7 0 ≤ l.length then ibexMakeDue f d else d

/-- A site fails again (R492, R493, R500): it waits for its trial, and its replay with it. -/
def siteRepeat (s stream : Nat) (mode : Nat) (d : Dev) : Dev :=
  if quarantined d (siteField s) || decide (16 ≤ d.flt.trialQueue.length) || d.flt.trialQueue.any fun e => e.1 == s then d
  else
    let d := showQueue (d.modFlt fun x => { x with trialQueue := x.trialQueue ++ [(s, mode)] })
    d.modStrm fun y => { y with parked := kvPut y.parked stream s }

/-- The site takes part in the beat: a sequencer of the beat reaches it. -/
def takesPart (d : Dev) (b : Beat) (s : Nat) : Bool :=
  match d.tileSeq s with
  | some q => b.seqs.contains q
  | none => false

/-- An attempt has ended: the sites that it decides change state (R490, R492). A site that waits for its trial is decided
(R493). -/
def attemptEnded (b : Beat) (ok : Bool) (d : Dev) : Dev × List MemWrite :=
  let att := (kvGet? d.flt.attributed b.stream).filter fun a => a.attempt == b.attempt && !ok
  let last := kvGet? d.flt.lastAttributed b.stream
  let d := d.modFlt fun x => { x with
    attributed := kvDel x.attributed b.stream
    lastAttributed := match att with | some a => kvPut x.lastAttributed b.stream a | none => kvDel x.lastAttributed b.stream }
  if !autoEn d then (d, [])
  else
    let site := att.bind (·.site)
    let (d, ws) := match d.flt.trial with
      | some t => if t.step = 7 ∧ takesPart d b t.spare then trialDecide t ok d else (d, [])
      | none => (d, [])
    let suspects := (d.flt.siteState.filter fun e => e.2 == 3 && takesPart d b e.1 && !d.flt.trialQueue.any fun t => t.1 == e.1).map (·.1)
    let d := suspects.foldl (fun d s =>
      if site = some s then
        let link := match att, last with
          | some a, some l => a.linkUe && l.linkUe && l.site == some s
          | _, _ => false
        siteRepeat s b.stream (b2n link) d
      else if ok || site.isSome then siteTransient s d else d) d
    let d := match site with
      | some s => if siteState d s = 2 then healthRecord 0x02 s (d.tileGen s) 0 (setSite s 3 d) else d
      | none => d
    (d, ws)

/-! ### FLOOR.CMD (R518, R519) -/

/-- A write of FLOOR.CMD. A TRIAL in a field under Ibex quarantine starts nothing: the verdict decides the site (R493). -/
def floorCmd (agent : Nat) (data : Word) (x : ExtMem) (d : Dev) : Dev × List MemWrite :=
  let s := fld data 13 0
  let op := fld data 19 16
  let st := siteState d s
  let trial := op == 1 || op == 2
  match firstFail (d.baseChecks agent .floor ++
      [(.state, (trial && st != 2 && st != 3) || (op == 3 && !(st == 5 && d.flt.ibexPassed.contains s))),
       (.busy, trial && bitOf (d.rd FLOOR_STATE) 5),
       (.reserved, op == 0 || decide (4 ≤ op) || decide (data.toNat &&& 0xFFF0C000 ≠ 0)),
       (.range, decide (13824 ≤ s))]) with
  | some c => (d.reject .floor 0x124 agent c, [])
  | none =>
    if op = 3 then
      let d := (setSite s 1 d).setFence (.tile s) false
      let d := healthRecord 0x0D s (d.tileGen s) 0 (d.modFlt fun y => { y with ibexPassed := setDel y.ibexPassed s, serving := kvDel y.serving s })
      publish (lastRecov 0x0D (d.tileId s) (d.tileGen s) d)
    else if quarantined d (siteField s) then (d, [])
    else
      let d := showQueue (d.modFlt fun y => { y with trialQueue := y.trialQueue.filter fun e => e.1 != s })
      trialBegin s (op - 1) x d

/-! ### Checks of other units (R305, R392) -/

/-- A segment has not relocked within 10 µs (R305): it is FAILED, and the segment's field fails. -/
def seamTimeout (f : Nat) (south : Bool) (d : Dev) : Dev :=
  let a := seamReg f south
  if seamPresent d f south && !bitOf (d.rd a) 8 && !bitOf (d.rd a) 10 &&
      decide (kvGetD d.fab.seamTick 0 (seamUnit f south) + usTicks 10 ≤ d.time.tb) then
    let d := d.wr a (setBit (d.rd a) 10 true)
    fieldFailure f 2 (d.record 0x0F 7 (seamUnit f south) (2 ^ 16) (routerCmd d (fieldChannel f) 0x0F))
  else d

/-! ### Compute reset (15_bringup_reset_licences.md R586 to R588) -/

def inReset (d : Dev) : Bool := bitOf (d.rd BOOT_RESET_STATUS) 0

/-- A sequencer enters RESET (06_sequencers_isa.md R265). -/
def seqReset (q : Nat) (d : Dev) : Dev :=
  let d := seqBreakLocks q d
  let d := setSt q stReset 0 (setAtom q false d)
  let d := (d.wrN (SEQ_PC q) (activeBank d q * 2 ^ 16)).wr64 (SEQ_CMD_COUNT_LO q) 0
  let d := (List.range 8).foldl (fun d i => (d.wr (SEQ_LC q i) 0).wr (SEQ_CUR_CMD q i) 0) d
  let d := d.wrF (SEQ_BANK_CTRL q) 2 2 0
  d.setSeq q { imem := (d.seq q).imem, copy := (d.seq q).copy, loading := (d.seq q).loading, ue := (d.seq q).ue }

/-- A tile register that compute reset returns to its reset value (03_tile.md R141): those of the engines, classes, windows,
queues and credits (DESIGN CHOICE, unsafe: notes/assumptions/129.md). -/
def tileRegReset (a : Nat) : Bool :=
  let o := a % 0x400
  decide (0x1000000 ≤ a ∧ a < 0x1D80000 ∧ 0x120 ≤ o ∧ o < 0x310) && !([0x124, 0x128, 0x12C].contains o) &&
    !decide (0x1C0 ≤ o ∧ o < 0x1D0)

/-- Steps 1 to 3 of a compute reset (R587). -/
def computeReset (cause : Nat) (d : Dev) : Dev :=
  if inReset d then d
  else
    let d := d.wrF BOOT_RESET_STATUS 0 0 1
    let d := (d.wrF BOOT_RESET_STATUS 7 4 cause).bump BOOT_CRESET_COUNT
    let d := d.modBoot fun b => { b with crTick := d.time.tb, tested := false, failedSites := [] }
    let d := (d.strm.beats.filter fun b => !b.refill).foldl (fun d b => sendHold b.stream b.beat b.attempt false d) d
    let d := strmComputeReset d
    let d := (List.range 48).foldl (fun d q => seqReset q d) d
    let d := (List.range 8).foldl (fun d i => d.wr (DBG_HALT_REQ_LO + 4 * i) 0) d
    let d := { d with ctl := { d.ctl with deferTick := [] } }
    let d := { d with
      tiles := d.tiles.map fun (e : Nat × Tile) => (e.1, e.2.reset)
      regs := d.regs.filter fun (e : Nat × Word) => !tileRegReset e.1
      staged := d.staged.filter fun (e : Nat × Word) => !tileRegReset e.1 }
    let d := d.modFab fun x => { x with
      net := x.net.filter fun fl => fl.pkt.vc == 0
      landed := x.landed.filter fun e => e.2.vc == 0
      edge := [], insts := [], redCount := [], pxResults := [] }
    ibexEnd 5 (mempComputeReset d)

/-- Every beat in flight is abandoned (11_clocking.md R440). -/
def abandonBeats (d : Dev) : Dev := failBeat (fun _ => true) d

/-- Thermal HALT holds compute in reset (12_power_thermal.md R472). -/
def thermalHold (on : Bool) (d : Dev) : Dev :=
  let d := { d with pwr := { d.pwr with thermHalt := on } }
  if on then computeReset 5 d else d

/-! ### Set points of the rails (12_power_thermal.md R449, R462) -/

/-- PMBus command codes (R447), PMBus 1.4's own (PRESUMED, unsafe: notes/assumptions/116.md). A set point written over AVSBus
is command 0 of `TxMsg.regulator`. -/
def pmOperation : Nat := 0x01
def pmOnOffConfig : Nat := 0x02
def pmClearFaults : Nat := 0x03
def pmVoutCommand : Nat := 0x21
def pmOcFaultLimit : Nat := 0x46

/-- BOOST_f: the largest boost requested by an active hint of the field (DESIGN CHOICE, unsafe: notes/assumptions/100.md). -/
def boostOf (d : Dev) (f : Nat) : Nat :=
  (d.pwr.hints.filter fun h => h.src / 4 == f || decide (64 ≤ h.src)).foldl
    (fun m h => max m (d.rdF PWR_HINT_CFG 5 0 * h.level / 15)) 0

/-- The set point of a rail in mV: a field rail's under R449, VMEM's by its register and its trim (R445)
(DEDUCED, unsafe: notes/assumptions/114.md). -/
def vset (d : Dev) (r : Nat) : Nat :=
  if r < 12 then
    match kvGet? d.pwr.ibexMv r with
    | some v => v
    | none => min 900 (((d.pwr.baseMv : Int) + kvGetD d.pwr.trim 0 r).toNat + boostOf d r)
  else if r < 14 then ((d.rdF PMB_VMEM_MV 9 0 : Int) + kvGetD d.pwr.trim 0 r).toNat else 0

/-- VSET_f shows trim, boost and set point; a changed set point goes to the regulator. -/
def vsetRefresh (f : Nat) (d : Dev) : Dev :=
  let v := vset d f
  let was := d.rdF (PWR_VSET f) 25 16
  let d := d.wrN (PWR_VSET f) (ofSigned 8 (kvGetD d.pwr.trim 0 f) + boostOf d f % 64 * 2 ^ 8 + v % 1024 * 2 ^ 16)
  if was = v then d else { d with tx := d.tx ++ [.regulator f 0 v] }

def vsetRefreshAll (d : Dev) : Dev := (List.range 12).foldl (fun d f => vsetRefresh f d) d

/-- A hint becomes active (R462): one of a sequencer replaces that sequencer's previous hint; those of schedule entries,
`src` from 64, stand beside each other (DESIGN CHOICE, unsafe: notes/assumptions/100.md). -/
def hintAdd (h : Hint) (d : Dev) : Dev :=
  vsetRefreshAll { d with pwr := { d.pwr with
    hints := d.pwr.hints.filter (fun x => x.src != h.src || decide (64 ≤ x.src)) ++ [h] } }

/-- A hint's span or duration has ended (R462): the sender says so of a sequencer's, whose span is in cycles; TB says it of
the hints of an entry (DESIGN CHOICE, unsafe: notes/assumptions/100.md). -/
def hintExpire (src : Nat) (d : Dev) : Dev :=
  vsetRefreshAll { d with pwr := { d.pwr with
    hints := d.pwr.hints.filter fun x => x.src != src || (decide (64 ≤ src) && decide (d.time.tb < x.ends)) } }

/-- The trims go to the boot flash (R468). -/
def trimsToFlash (d : Dev) : Dev := d.modBoot fun b => { b with store := { b.store with trims := d.pwr.trim } }

/-- Limits of the profile (01_device_overview.md R6): power in W, coolant inlet in °C. -/
def licenceWatts (d : Dev) : Nat := match d.rdF LIC_PROFILE 1 0 with | 1 => 4600 | 2 => 2400 | 3 => 6000 | _ => 0
def coolantMax (d : Dev) : Int := match d.rdF LIC_PROFILE 1 0 with | 3 => 45 | _ => 65

/-! ### Commands -/

/-- TRIAL_START (R496) (DESIGN CHOICE, unsafe: notes/assumptions/4.md). -/
def execTrialStart (s : State) : Result := onDevMem trialStart s
/-- REFILL_PACKET (R498): `lines` lines of the list land; `errs` the memory errors of lines read, 1 correctable, 2 not. -/
def execRefillPacket (lines : Nat) (errs : List (Nat × Nat)) (s : State) : Result := onDevMem (refillPacket lines errs) s
/-- REFILL_DONE (R498). -/
def execRefillDone (s : State) : Result := onDevMem refillComplete s
/-- REFILL_TIMEOUT (R499). -/
def execRefillTimeout (s : State) : Result := onDevMem (fun _ d => refillTimeout d) s
/-- TRIAL (R518). -/
def execTrial (agent site : Nat) (s : State) : Result := onDevMem (floorCmd agent (w32 (site + 1 * 2 ^ 16))) s
/-- TRIAL_WITH_FENCE (R500). -/
def execTrialWithFence (agent site : Nat) (s : State) : Result := onDevMem (floorCmd agent (w32 (site + 2 * 2 ^ 16))) s
/-- REINSTATE (R504). -/
def execReinstate (agent site : Nat) (s : State) : Result := onDevMem (floorCmd agent (w32 (site + 3 * 2 ^ 16))) s
/-- SEQ_ABORT_END (06_sequencers_isa.md R262). -/
def execSeqAbortEnd (q : Nat) (s : State) : Result := guardUnit (unitSeq q) (onMesh (q / 4) (abortEndField q) s)
/-- SEAM_RELOCK_TIMEOUT (R305). -/
def execSeamRelockTimeout (f : Nat) (south : Bool) (s : State) : Result := guardUnit (unitField f) (onDev (seamTimeout f south) s)
/-- TB_COPY_CHECK (10_cadence_time.md R392): `out` names the fields whose copy is more than 2 ticks from the master. -/
def execTbCopyCheck (out : List Nat) (s : State) : Result :=
  onDev (fun d => (out.filter fun f => decide (f < 12) && !d.flt.fieldFailed.contains f).foldl
    (fun d f => fieldFailure f 3 (tbCopyOut f d)) d) s
/-- MEM_PORT_FAIL (R386). -/
def execMemPortFail (m : Nat) (s : State) : Result := guardUnit (unitMemp m) (onDev (portFail m) s)

end Sys2Proof.Machine
end

