-- ==== Sys2Proof/Machine/Beats.lean ====
section
/-! DEFINITION. The end of an attempt (08_streams_context.md R337, R342 to R344): the commit of a completed beat, the end of a
failed one. -/

namespace Sys2Proof.Machine

/-- A report or a record that withholds the attempt's commit is still on its way (R334). -/
def reportPending (d : Dev) (n tag : Nat) : Bool :=
  d.flt.failReports.any (fun r => r.1 == n && r.2 == tag) ||
    d.flt.pendingRecords.any fun r => r.withheld && r.stream == n && r.tag == tag

/-- In a twin, a beat waits until the one before it is released (R337 step 2, R340). -/
def commitWaits (d : Dev) (n : Nat) : Bool :=
  comparing d n && (match (history d n).head? with | some c => !c.released | none => false)

def dropBeat (b : Beat) (d : Dev) : Dev :=
  d.modStrm fun s => { s with beats := s.beats.filter fun x => !(x.stream == b.stream && x.tag == b.tag && x.refill == b.refill) }

/-- The commands of a stream's beat have all completed, and it has not failed (R333, R337); nothing commits without REFCLK
(11_clocking.md R440). -/
def beatCommit (n : Nat) (x : ExtMem) (d : Dev) : Dev × List MemWrite :=
  match d.strm.beats.find? fun b => b.stream == n && !b.refill with
  | none => (d, [])
  | some b =>
    if !b.left.isEmpty || b.failed || reportPending d n b.tag || commitWaits d n || inReset d || d.clk.refLost then (d, [])
    else
      if b.orphan then (dropBeat b d, []) else
      let r := commitBeat b x d
      let failed := r.1.strm.beats.any fun y => y.stream == n && y.tag == b.tag && y.failed
      if failed then r
      else andThen (dropBeat b r.1, r.2) (attemptEnded b true)

/-- What follows a failed attempt (R343, R344): a replay, FAULTED, or nothing for a beat that a twin returned. -/
def afterFailure (b : Beat) (d : Dev) : Dev :=
  let n := b.stream
  if d.strmSt n = sClosing then setStrm n sFree d
  else if b.dropped then (if pausePend d n then setStrm n sPaused d else if d.strmSt n = sRunning then toWork n d else d)
  else if maxAttempt d ≤ b.attempt then
    let d' := strmFaulted n b.tag d
    let att := kvGet? d.flt.attributed n
    if (att.filter fun a => a.attempt == b.attempt && a.site.isSome).isSome then d' else ibexAllDue d'
  else
    let d := (d.setDF n 7 23 16 (b.attempt + 1)).setDF n 0 20 20 1
    if pausePend d n then setStrm n sPaused d else d

/-- Every sequencer of a failed beat is IDLE for it (R342). -/
def abortDone (n : Nat) (d : Dev) : Dev × List MemWrite :=
  match d.strm.beats.find? fun b => b.stream == n && b.failed with
  | none => (d, [])
  | some b0 =>
    let d := b0.left.foldl (fun d q => seqStop q b0.cmd d) d
    match d.strm.beats.find? fun b => b.stream == n && b.failed with
    | none => (d, [])
    | some b =>
      if !b.left.isEmpty || reportPending d n b.tag then (d, [])
      else if b.refill || b.orphan then (dropBeat b d, [])
      else
        let d := (dropBeat b d).bump STRM_REPLAY_COUNT
        let d := if b.told || b.dropped then d else sendHold n b.beat b.attempt false d
        attemptEnded b false (afterFailure b d)

/-- BEAT_COMMIT (R337). -/
def execBeatCommit (stream : Nat) (s : State) : Result := guardUnit (unitStream stream) (onDevMem (beatCommit stream) s)
/-- BEAT_ABORT_DONE (R342). -/
def execBeatAbortDone (stream : Nat) (s : State) : Result :=
  guardUnit (unitStream stream) (onDevMem (fun _ d => abortDone stream d) s)

end Sys2Proof.Machine
end

