-- ==== Sys2Proof/Machine/Clock.lean ====
section
/-! DEFINITION. Clock regions, the die-wide frequency change, single-field points, and the loss of a PLL or of REFCLK
(11_clocking.md R429 to R444). -/

namespace Sys2Proof.Machine

/-- Fields of an OPP entry (R442). -/
def oppDiv (w : Word) : Nat := fld w 4 0
def oppMv (w : Word) : Nat := fld w 25 16
def oppValid (w : Word) : Bool := bitOf w 31

/-- OPP in force (CLK.CUR). -/
def Dev.curOpp (d : Dev) : Nat := d.rdF CLK_CUR 2 0

/-- F_VCO / DIV lies in 0.4 to 1.4 GHz (R429); F_VCO in MHz (DEDUCED, unsafe: notes/assumptions/27.md). -/
def freqOk (vco div : Nat) : Bool := decide (400 * div ≤ vco ∧ vco ≤ 1400 * div)

/-- CHG_STATE.STATE: 0 IDLE, 1 ARMED, 2 SWITCHING (R442). -/
def Dev.chgState (d : Dev) : Nat := d.rdF CLK_CHG_STATE 1 0

/-- Valid entries ascend in frequency, that is descend in DIV, with the index (R432, R443). -/
def oppAscending : List Word → Bool
  | [] => true
  | w :: t => (!oppValid w || t.all fun v => !oppValid v || decide (oppDiv v < oppDiv w)) && oppAscending t

/-- The checks of an apply of the OPP table (R443): LICENCE concerns every entry that the apply changes, valid or not (DEDUCED, unsafe: notes/assumptions/27.md). -/
def oppApplyChecks (d : Dev) : List Check :=
  let es := (List.range 8).map fun e => d.stagedRd (CLK_OPP e)
  let vco := d.rdF CLK_VCO 13 0
  [(.licence, (List.range 8).any fun e =>
      d.stagedRd (CLK_OPP e) != d.rd (CLK_OPP e) && decide (oppDiv (d.stagedRd (CLK_OPP e)) < 6)),
   (.state, d.stagedRd (CLK_OPP d.curOpp) != d.rd (CLK_OPP d.curOpp)),
   (.busy, d.chgState != 0),
   (.range, (es.any fun w => oppValid w &&
      (decide (24 < oppDiv w) || !freqOk vco (oppDiv w) || decide (oppMv w < 550) || decide (900 < oppMv w))) ||
      !oppAscending es)]

/-- Why a request for an OPP is not accepted (R434, R438, R443). -/
def chgChecks (opp : Nat) (d : Dev) : List Check :=
  [(.busy, d.chgState != 0 || bitOf (d.rd CLK_Q_FIELD) 31),
   (.range, !oppValid (d.rd (CLK_OPP opp)))]

/-- The field rails are set for an OPP (R435, 12_power_thermal.md R449): VSET_f follows, a changed set point leaves (DEDUCED, unsafe: notes/assumptions/28.md). -/
def railsFor (w : Word) (d : Dev) : Dev := vsetRefreshAll { d with pwr := { d.pwr with baseMv := oppMv w } }

/-- The common OPP that a request may reach (12_power_thermal.md R469): no higher than the lowest that a cause of throttling
requests (DEDUCED, unsafe: notes/assumptions/115.md). -/
def Dev.oppAllowed (d : Dev) (opp : Nat) : Nat :=
  ((d.pwr.oppReq.map (·.2)).filter fun e => oppValid (d.rd (CLK_OPP e))).foldl min opp

/-- An accepted request arms the change at T_s (R434, R435 steps 1 and 2); a request for the OPP in force has no
effect. `entry`: a FREQ entry asks, `ts` is its tick when it is issued ahead (DEDUCED, unsafe: notes/assumptions/130.md). -/
def chgArm (opp : Nat) (entry : Bool) (ts : Option Nat) (d : Dev) : Dev :=
  if opp = d.curOpp then d
  else
    let w := d.rd (CLK_OPP opp)
    let up := decide (oppDiv w < d.rdF CLK_CUR 12 8)
    let t := ts.getD (d.time.tb + (if up then usTicks 500 else usTicks 20))
    let d := d.wrN CLK_CHG_STATE (1 + opp * 2 ^ 4 + b2n entry * 2 ^ 8)
    let d := d.wr64 (CLK_CHG_TS 0) t
    let d := if up then railsFor w d else d
    { d with clk := { d.clk with confirmed := [], distributed := false } }

/-- A die-wide change requested by an agent or by power and thermal control (R434): the rejection, if any, is recorded
at CHG_REQ. The answer says whether it was accepted. -/
def chgRequest (agent opp : Nat) (entry : Bool) (ts : Option Nat) (d : Dev) : Dev × Bool :=
  match firstFail (chgChecks opp d) with
  | some c => (d.reject .clk 0x124 agent c, false)
  | none => (chgArm (d.oppAllowed opp) entry ts d, true)

/-- A write of CLK.CHG_REQ (R434, R442). -/
def chgReqWrite (agent : Nat) (data : Word) (d : Dev) : Dev :=
  d.checked .clk 0x124 agent
    (d.baseChecks agent .clk ++ [(.reserved, decide (fld data 31 3 ≠ 0))] ++ chgChecks (fld data 2 0) d)
    (chgArm (d.oppAllowed (fld data 2 0)) false none)

/-- The change pending is to a higher frequency. -/
def Dev.chgUp (d : Dev) : Bool :=
  decide (oppDiv (d.rd (CLK_OPP (d.rdF CLK_CHG_STATE 6 4))) < d.rdF CLK_CUR 12 8)

/-- Every field rail has confirmed the new voltage. -/
def Dev.railsConfirmed (d : Dev) : Bool := (List.range 12).all fun f => d.clk.confirmed.contains f

/-- T_s − 20 µs (R435 step 3): an upward change whose rails have not all confirmed is cancelled (DEDUCED, unsafe: notes/assumptions/28.md). -/
def chgVoltCheck (d : Dev) : Dev :=
  if d.chgState = 1 ∧ d.chgUp ∧ !d.railsConfirmed ∧ d.rd64 (CLK_CHG_TS 0) ≤ d.time.tb + usTicks 20 then
    let d := d.wrF CLK_CHG_STATE 1 0 0
    let d := d.bump CLK_ABORT_COUNT
    let d := railsFor (d.rd (CLK_OPP d.curOpp)) d
    d.reject .clk 0x124 0x10 .state
  else d

/-- T_s − 2 µs (R435 step 4): the new DIV, T_s and T_r go to every field. -/
def chgDistribute (d : Dev) : Dev :=
  if d.chgState = 1 ∧ d.rd64 (CLK_CHG_TS 0) ≤ d.time.tb + usTicks 2 ∧ (d.chgUp → d.railsConfirmed) then
    { d with clk := { d.clk with distributed := true } }
  else d

/-- HOLD of every present segment for the die-wide change (R306, R312). -/
def seamHoldAll (b : Bool) (d : Dev) : Dev := showHolds { d with clk := { d.clk with dieHold := b } }

/-- HOLD of a field's segments for its single-field point (R438). -/
def seamHoldOf (f : Nat) (b : Bool) (d : Dev) : Dev :=
  showHolds { d with clk := { d.clk with fieldHold := if b then setIns d.clk.fieldHold f else setDel d.clk.fieldHold f } }

/-- T_s − 16 cycles (R306 step 1, R435 step 5): every seam sender holds. 16 cycles of the frequency in force are
12,800 × DIV / F_VCO ticks. -/
def seamHold (d : Dev) : Dev :=
  let vco := d.rdF CLK_VCO 13 0
  let lead := if vco = 0 then 0 else (12800 * d.rdF CLK_CUR 12 8 + vco - 1) / vco
  if d.chgState = 1 ∧ d.clk.distributed ∧ d.rd64 (CLK_CHG_TS 0) ≤ d.time.tb + lead then seamHoldAll true d else d

/-- A segment, 2 f for an east and 2 f + 1 for a south seam, has flits in its synchronisers. -/
def seamFull (d : Dev) (g : Nat) : Bool :=
  decide (g < 24) && seamPresent d (g / 2) (g % 2 == 1) && d.fab.net.any (inSeam (g / 2) (g % 2 == 1))

/-- T_s, with every seam held (R435 step 6, R436): a field gates its mesh once the synchronisers of its segments are empty, and
16 ticks after T_s in any case; a segment that is not empty then unlocks. The sender names the segments that still hold
flits. -/
def clockStop (stuck : List Nat) (d : Dev) : Dev :=
  let ts := d.rd64 (CLK_CHG_TS 0)
  let armed := d.chgState == 1 && d.clk.distributed && d.clk.dieHold
  if (armed || (d.chgState == 2 && d.rdF CLK_FIELD_PLL 27 16 != 0)) && decide (ts ≤ d.time.tb) then
    let last := decide (ts + 16 ≤ d.time.tb)
    let full := stuck.filter (seamFull d)
    let waits := fun f => !last && full.any fun g => g / 2 == f || seamFar (g / 2) (g % 2 == 1) == f
    let run := (below 12 fun f => d.meshRuns f && waits f).foldl (fun n f => n + 2 ^ f) 0
    let d := (d.wrF CLK_CHG_STATE 1 0 2).wrF CLK_FIELD_PLL 27 16 run
    if last then full.foldl (fun d g => seamUnlock (g / 2) (g % 2 == 1) d) d else d
  else d

/-- A field's mesh may run: its PLL is locked, its service domain is powered, REFCLK is there (R439, R440). -/
def mayRun (d : Dev) (f : Nat) : Bool := bitOf (d.rd CLK_FIELD_PLL) f && d.domOn (144 + f) && !d.clk.refLost

def runMask (d : Dev) : Nat := (below 12 (mayRun d)).foldl (fun n f => n + 2 ^ f) 0

/-- A field's PLL locks: its mesh runs, or, during a die-wide stop, runs from T_r (R435 step 8, R439, R441). -/
def pllLocked (f : Nat) (d : Dev) : Dev :=
  let d := d.wr CLK_FIELD_PLL (setBit (d.rd CLK_FIELD_PLL) f true)
  d.wr CLK_FIELD_PLL (setBit (d.rd CLK_FIELD_PLL) (16 + f) (mayRun d f && d.chgState != 2))

/-- T_r = T_s + 32 ticks (R435 step 8), every mesh gated: every field ungates at the new frequency, seams resume, CUR is the target. -/
def clockRestart (d : Dev) : Dev :=
  if d.chgState = 2 ∧ d.rdF CLK_FIELD_PLL 27 16 = 0 ∧ d.rd64 (CLK_CHG_TS 0) + 32 ≤ d.time.tb then
    let opp := d.rdF CLK_CHG_STATE 6 4
    let w := d.rd (CLK_OPP opp)
    let d := d.wrN CLK_CUR (opp + oppDiv w * 2 ^ 8)
    let d := d.wrF CLK_FIELD_PLL 27 16 (runMask d)
    let d := seamHoldAll false d
    let d := d.bump CLK_CHG_COUNT
    let d := d.wrF CLK_CHG_STATE 1 0 0
    railsFor w { d with clk := { d.clk with distributed := false, confirmed := [] } }
  else d

/-- A rail's AVSBus read during an upward change (R449): within ±5 mV of its target the rail confirms. -/
def railConfirm (r mv : Nat) (d : Dev) : Dev :=
  let d := d.wrF (PMB_RAIL_STAT r) 11 0 mv
  if r < 12 ∧ d.chgState = 1 then
    let target := vset d r
    if mv ≤ target + 5 ∧ target ≤ mv + 5 then
      { d with clk := { d.clk with confirmed := setIns d.clk.confirmed r } }
    else d
  else d

/-- A field is back at the common OPP: its segments stay unlocked until they relock (R438). -/
def fieldReturn (f : Nat) (d : Dev) : Dev :=
  let d := seamsUnlockField f d
  seamHoldOf f false { d with clk := { d.clk with fieldDiv := kvDel d.clk.fieldDiv f } }

/-- A write of CLK.Q_FIELD (R438, R443) (DEDUCED, unsafe: notes/assumptions/27.md). -/
def qFieldWrite (agent : Nat) (data : Word) (d : Dev) : Dev :=
  let f := fld data 3 0
  let en := bitOf data 31
  let old := d.rd CLK_Q_FIELD
  let vco := d.rdF CLK_VCO 13 0
  d.checked .clk 0x150 agent
    [(.privilege, !isPewter agent), (.state, !d.up || (en && (!bitOf (d.rd (FIELD_HEALTH f)) 4 || d.chgState == 1))),
     (.reserved, decide (data.toNat &&& 0x7FFFE0F0 ≠ 0)),
     (.range, decide (11 < f) || decide (fld data 12 8 < 5) || decide (24 < fld data 12 8) ||
        !freqOk vco (fld data 12 8))]
    fun d =>
      let d := d.wr CLK_Q_FIELD data
      let d := if bitOf old 31 && (!en || fld old 3 0 != f) then fieldReturn (fld old 3 0) d else d
      if en then
        let d := seamsUnlockField f (seamHoldOf f true d)
        { d with clk := { d.clk with fieldDiv := kvPut d.clk.fieldDiv f (fld data 12 8) } }
      else d

/-- A field PLL loses lock in service (R439). -/
def pllUnlock (f : Nat) (d : Dev) : Dev :=
  if bitOf (d.rd CLK_FIELD_PLL) f then
    let d := d.wr CLK_FIELD_PLL (setBit (setBit (d.rd CLK_FIELD_PLL) f false) (16 + f) false)
    let d := seamsUnlockField f d
    let d := d.bump CLK_PLL_UNLOCK_COUNT
    let d := d.record 0x14 11 f (d.rd CLK_FIELD_PLL).toNat
    failBeatsOfField f d
  else d

/-- Pewter's relock of a field PLL at the common OPP ends (R439): it succeeds, or the field fails. No PLL relocks without
REFCLK (R440). -/
def pllRelockDone (f : Nat) (ok : Bool) (d : Dev) : Dev :=
  if bitOf (d.rd CLK_FIELD_PLL) f || !d.domOn (144 + f) || d.clk.refLost then d
  else if ok then
    let d := pllLocked f { d with clk := { d.clk with fieldDiv := kvDel d.clk.fieldDiv f } }
    let d := d.wr TIME_DIST_STATUS (setBit (d.rd TIME_DIST_STATUS) f true)
    seamsRelockField f d
  else fieldFailure f 4 d

/-- REFCLK is lost for 4 µs (R440). -/
def refclkLoss (d : Dev) : Dev :=
  if d.clk.refLost || d.held then d
  else
    let d := { d with clk := { d.clk with refLost := true }, time := { d.time with stopped := true } }
    let d := d.wrF CLK_FIELD_PLL 27 16 0
    let d := abandonBeats d
    let d := servoFreeze 3 d
    let d := d.wrN CLK_REF_STATUS 2
    let d := d.bump CLK_REF_LOSS_COUNT
    let d := d.record 0x14 0 0 (d.rd CLK_REF_STATUS).toNat
    let d := d.faultCond 0 true
    moduleHealth d

/-- REFCLK has been present and within tolerance for 10 ms (R440). -/
def refclkReturn (d : Dev) : Dev :=
  if d.clk.refLost then
    let d := { d with clk := { d.clk with refLost := false, fieldDiv := [] }, time := { d.time with stopped := false } }
    let d := d.wrF CLK_REF_STATUS 0 0 1
    let d := (List.range 12).foldl (fun d f => if d.domOn (144 + f) then
        (pllLocked f d).wr TIME_DIST_STATUS (setBit (d.rd TIME_DIST_STATUS) f true) else d) d
    let d := d.faultCond 0 false
    let d := computeReset 4 d
    let d := cadenceEnter (d.rdF CAD_CTRL 1 0) d
    moduleHealth d
  else d

/-! ### Commands -/

/-- CHG_REQ (R434). -/
def execChgReq (agent : Nat) (data : Word) (s : State) : Result := onDev (chgReqWrite agent data) s
/-- CHG_VOLT_CHECK (R435). -/
def execChgVoltCheck (s : State) : Result := onDev chgVoltCheck s
/-- CHG_DISTRIBUTE (R435). -/
def execChgDistribute (s : State) : Result := onDev chgDistribute s
/-- SEAM_HOLD (R306). -/
def execSeamHold (s : State) : Result := onDev seamHold s
/-- CLOCK_STOP (R435, R436). -/
def execClockStop (stuck : List Nat) (s : State) : Result := onDev (clockStop stuck) s
/-- CLOCK_RESTART (R435). -/
def execClockRestart (s : State) : Result := onDev clockRestart s
/-- RAIL_CONFIRM (R449). -/
def execRailConfirm (r mv : Nat) (s : State) : Result := guardUnit (decide (r < 18)) (onDev (railConfirm r mv) s)
/-- Q_FIELD_WRITE (R438). -/
def execQFieldWrite (agent : Nat) (data : Word) (s : State) : Result := onDev (qFieldWrite agent data) s
/-- PLL_UNLOCK (R439). -/
def execPllUnlock (f : Nat) (s : State) : Result := guardUnit (unitField f) (onDev (pllUnlock f) s)
/-- PLL_RELOCK_DONE (R439). -/
def execPllRelockDone (f : Nat) (ok : Bool) (s : State) : Result := guardUnit (unitField f) (onDev (pllRelockDone f ok) s)
/-- REFCLK_LOSS (R440). -/
def execRefclkLoss (s : State) : Result := onDev refclkLoss s
/-- REFCLK_RETURN (R440). -/
def execRefclkReturn (s : State) : Result := onDev refclkReturn s

end Sys2Proof.Machine
end

