-- ==== Sys2Proof/Machine/Power.lean ====
section
/-! DEFINITION. Regulators, switched domains, current ceilings, droop, hints, power limits, trims and thermal control
(12_power_thermal.md R445 to R481). Currents are counted in quarter amperes, as RAIL_STAT counts them. -/

namespace Sys2Proof.Machine

/-! ### Current ceilings and duty (R455 to R458, R465, R469) -/

/-- Phase index `i` has failed open, or lost its sense (R456, R457). -/
def Dev.phaseFailed (d : Dev) (i : Nat) : Bool := bitOf (d.rd (PWR_PHASE_FAIL (i / 32))) (i % 32)
def Dev.senseFailed (d : Dev) (i : Nat) : Bool := bitOf (d.rd (PWR_SENSE_FAIL (i / 32))) (i % 32)

/-- Working phases of VCORE_Fxx (R455). -/
def Dev.workingPhases (d : Dev) (f : Nat) : Nat :=
  ((List.range 12).filter fun p => !d.phaseFailed (12 * f + p) && !d.senseFailed (12 * f + p)).length

/-- CEIL_f in amperes (R455) (DEDUCED, unsafe: notes/assumptions/30.md). -/
def Dev.ceilA (d : Dev) (f : Nat) : Nat := d.workingPhases f * d.rdF PMB_PHASE_IMAX 7 0

/-- Some phase of the field has lost its sense: the estimate is in use (R457). -/
def Dev.estimated (d : Dev) (f : Nat) : Bool := (List.range 12).any fun p => d.senseFailed (12 * f + p)

/-- I_est of a field in quarter amperes (R457): the leakage and the engines' activity times their coefficients (DESIGN CHOICE, safe: notes/assumptions/31.md). -/
def Dev.estCurrent (d : Dev) (f : Nat) : Nat :=
  Config.leakage (kvGetD d.pwr.sensor 0 (144 + f)) (d.rdF (PMB_RAIL_STAT f) 11 0) +
    (List.range 5).foldl (fun n e => n + kvGetD d.pwr.lastActivity 0 (8 * f + e) * kvGetD d.pwr.coef 0 e) 0

/-- The current the ceiling compares, in quarter amperes times ten (R455): the measured rail current, or the
estimate times 1.1. -/
def Dev.ceilCurrent10 (d : Dev) (f : Nat) : Nat :=
  if d.estimated f then 11 * d.estCurrent f else 10 * d.rdF (PMB_RAIL_STAT f) 31 16

/-- The duty of a field: the lowest requested by any cause (R469). -/
def Dev.dutyRequested (d : Dev) (f : Nat) : Nat :=
  min (min (kvGetD d.pwr.ceilReq 16 f) (if d.pwr.droopEsc.contains f then 8 else 16))
    (min d.pwr.shortDuty (kvGetD d.pwr.thermDuty 16 f))

/-- FIELD_PWR_f and THR_CAUSE follow the causes (R465, R469, R476). -/
def dutyRefresh (f : Nat) (d : Dev) : Dev :=
  let w := d.rd (PWR_FIELD_PWR f)
  let w := setFld w 9 0 (min 1023 (d.ceilA f))
  let w := setFld w 14 10 (d.dutyRequested f)
  let w := setBit w 30 (d.estimated f)
  let d := d.wr (PWR_FIELD_PWR f) w
  if d.dutyRequested f < 16 then ibexVoid f d else d

/-- THR_CAUSE (R476): each bit is 1 while its cause is active. -/
def causeRefresh (d : Dev) : Dev :=
  let c := d.rd PWR_THR_CAUSE
  let c := setBit c 0 ((List.range 12).any fun f => kvGetD d.pwr.ceilReq 16 f < 16)
  let c := setBit c 1 (!d.pwr.droopEsc.isEmpty)
  let c := setBit c 2 (decide (d.pwr.shortDuty < 16) || (kvGet? d.pwr.oppReq 4).isSome)
  let c := setBit c 3 (!d.pwr.thermDuty.isEmpty || (kvGet? d.pwr.oppReq 5).isSome)
  let c := setBit c 4 (kvGet? d.pwr.oppReq 6).isSome
  let c := setBit c 5 (kvGet? d.pwr.oppReq 7).isSome
  let c := setBit c 6 ((kvGet? d.pwr.oppReq 7).isSome && d.pwr.herdShareNow.isSome &&
    decide (d.pwr.herdShareNow.getD 0 < licenceWatts d))
  d.wr PWR_THR_CAUSE c

/-- Every field's duty and the causes. -/
def dutyRefreshAll (d : Dev) : Dev := causeRefresh ((List.range 12).foldl (fun d f => dutyRefresh f d) d)

/-- The CEIL cause evaluates a field (R455). With I the current and G = 0.95 × CEIL_f: above G the request is
max(4, ⌊D × G / I⌋); when I × (D + 1) / D has stayed at or below G for 20 evaluations (1 ms) it rises by 1, up to 16;
with no phase failed and I below G it is 16 (DEDUCED, unsafe: notes/assumptions/30.md). -/
def ceilEval (f : Nat) (d : Dev) : Dev :=
  let i := 10 * d.ceilCurrent10 f        -- in 1/400 A
  let g := 380 * d.ceilA f               -- 0.95 × CEIL × 400
  let duty := d.rdF (PWR_FIELD_PWR f) 14 10
  let req := kvGetD d.pwr.ceilReq 16 f
  let okNow := decide (i * (duty + 1) ≤ g * duty)
  let n := if okNow then kvGetD d.pwr.ceilOk 0 f + 1 else 0
  let noFail := decide (d.workingPhases f = 12)
  let (req', n') :=
    if g < i then (max 4 (duty * g / i), 0)
    else if noFail && decide (i < g) then (16, n)
    else if 20 ≤ n then (min 16 (req + 1), 0)
    else (req, n)
  let d := { d with pwr := { d.pwr with ceilReq := kvSetD d.pwr.ceilReq 16 f req', ceilOk := kvSetD d.pwr.ceilOk 0 f n' } }
  causeRefresh (dutyRefresh f d)

/-- A phase fails open, or loses its sense (R456, R457): the ceiling falls to the share of the rest, a record is
written, ALERT_N is asserted, and with fewer than 8 working phases the field fails (R458). -/
def phaseEvent (sense : Bool) (i : Nat) (d : Dev) : Dev :=
  if (if sense then d.senseFailed i else d.phaseFailed i) then d
  else
    let a := if sense then PWR_SENSE_FAIL (i / 32) else PWR_PHASE_FAIL (i / 32)
    let d := d.wr a (setBit (d.rd a) (i % 32) true)
    let d := d.record 0x16 4 i (if sense then 3 else 2)
    let d := d.alert 1
    let d := d.bump PWR_PHASE_EVENT_COUNT
    let d := d.wr PWR_FLAGS (setBit (d.rd PWR_FLAGS) 1 true)
    let f := i / 12
    let d := ceilEval f d
    if d.workingPhases f < 8 ∧ !d.flt.fieldFailed.contains f then fieldFailure f 5 d else d

/-- A phase of a VMEM rail fails open or loses its sense (R448, R450, R475): no ceiling and no register bit concern it, and
its unit is the rail's (DEDUCED, unsafe: notes/assumptions/114.md). `p` = 63 is every phase of the rail. -/
def memPhaseEvent (sense : Bool) (r p : Nat) (d : Dev) : Dev :=
  let k := 64 * (r - 12) + p
  if (if sense then d.pwr.memLost else d.pwr.memFailed).contains k then d
  else
    let d := { d with pwr := if sense then { d.pwr with memLost := setIns d.pwr.memLost k }
      else { d.pwr with memFailed := setIns d.pwr.memFailed k } }
    let d := d.record 0x16 4 (256 + r) (if sense then 3 else 2)
    let d := (d.alert 1).bump PWR_PHASE_EVENT_COUNT
    d.wr PWR_FLAGS (setBit (d.rd PWR_FLAGS) 1 true)

/-- The phases that a rail's bitmap shows failed open, or without sense (R448). -/
def railPhases (sense : Bool) (r : Nat) (ps : List Nat) (d : Dev) : Dev :=
  if r < 12 then (ps.filter (· < 12)).foldl (fun d p => phaseEvent sense (12 * r + p) d) d
  else (ps.filter (· < 63)).foldl (fun d p => memPhaseEvent sense r p d) d

/-! ### Polls of the regulators (R447 to R450) -/

/-- A transaction failed its PEC or got no answer three times (R450) (DEDUCED, unsafe: notes/assumptions/32.md). -/
def commFail (r : Nat) (d : Dev) : Dev :=
  let d := d.bump PMB_COMM_ERR_COUNT
  let d := d.record 0x16 4 (256 + r) 1
  let was := bitOf (d.rd (PMB_RAIL_STAT r)) 15
  let d := d.wr (PMB_RAIL_STAT r) (setBit (d.rd (PMB_RAIL_STAT r)) 15 true)
  if was then d else { d with pwr := { d.pwr with commTick := kvPut d.pwr.commTick r d.time.tb } }

/-- A reading of a rail: its voltage in mV and its current in quarter amperes (DESIGN CHOICE, safe: notes/assumptions/9.md; DEDUCED, unsafe: notes/assumptions/32.md; DESIGN CHOICE, safe: notes/assumptions/104.md). -/
def railReading (r mv qa : Nat) (d : Dev) : Dev :=
  let w := setBit (setFld (setFld (d.rd (PMB_RAIL_STAT r)) 11 0 mv) 31 16 qa) 15 false
  let d := d.wr (PMB_RAIL_STAT r) w
  let d := { d with pwr := { d.pwr with commTick := kvDel d.pwr.commTick r } }
  if r < 12 then d.wrF (PWR_FIELD_PWR r) 25 16 (min 1023 (if d.estimated r then d.estCurrent r / 4 else qa / 4)) else d

/-- The poll of an AVSBus rail (R448): the rail answers, with the phases its bitmap shows failed and without sense
when its Status bits 2 and 1 are set, or its transaction failed three times. -/
def avsPoll (r : Nat) (ok : Bool) (mv qa : Nat) (open_ lost : List Nat) (d : Dev) : Dev :=
  if ok then railPhases true r lost (railPhases false r open_ (railReading r mv qa d)) else commFail r d

/-- The round-robin poll of a PMBus rail (R448): its readings, and whether its temperature is above its warning (R475). -/
def pmbusPoll (r : Nat) (ok : Bool) (mv qa : Nat) (hot : Bool) (d : Dev) : Dev :=
  if ok then
    let d := railReading r mv qa d
    if hot then (d.record 0x16 4 (256 + r) 6).alert 1 else d
  else commFail r d

/-- COMM set for 100 µs on a VCORE_Fxx or VMEM rail is a sense loss on all its phases (R450) (DEDUCED, unsafe: notes/assumptions/32.md; DEDUCED, unsafe: notes/assumptions/114.md). -/
def commTimeout (r : Nat) (d : Dev) : Dev :=
  match kvGet? d.pwr.commTick r with
  | some t =>
    if t + usTicks 100 ≤ d.time.tb ∧ bitOf (d.rd (PMB_RAIL_STAT r)) 15 then
      let d := { d with pwr := { d.pwr with commTick := kvDel d.pwr.commTick r } }
      if r < 12 then railPhases true r (List.range 12) d else memPhaseEvent true r 63 d
    else d
  | none => d

/-- PMB_ALERT_N is asserted (R447): answered with the Alert Response Address (PRESUMED, unsafe: notes/assumptions/116.md). -/
def smbAlert (d : Dev) : Dev :=
  let d := d.bump PMB_ALERT_COUNT
  { d with tx := d.tx ++ [.alertResponse] }

/-- A regulator reports a rail fault (R475): 0 over-voltage, 1 under-voltage, 2 over-current. `ports` names the memory ports
that a VHBM fault affects; one of VSERDES fails every SerDes port (16_interfaces_pins.md R627). -/
def railFault (r kind : Nat) (ports : List Nat) (d : Dev) : Dev :=
  let d := d.wr (PMB_RAIL_STAT r) (setBit (d.rd (PMB_RAIL_STAT r)) (12 + kind) true)
  if r < 14 ∨ r = 16 ∨ r = 17 then
    let d := d.record 0x16 4 (256 + r) 6
    let d := d.fault 1
    if r < 12 then fieldFailure r 7 d
    else if r < 14 then moduleHealth { d with flt := { d.flt with memTierFault := true } }
    else if r = 16 then serdesPorts.foldl (fun d c => portFail c d) d
    else ports.foldl (fun d m => if m < 8 then portFail m d else d) d
  else d

/-! ### Domains (R451 to R453) -/

/-- Sites of a core domain. -/
def domainSites (i : Nat) : List Nat :=
  (List.range 96).map fun k => siteOfLocal (i / 12) (96 * (i % 12) + k)

/-- The unit of a domain is not fenced, so it may not be switched off (R452). -/
def domainInUse (d : Dev) (i : Nat) : Bool :=
  if i < 144 then (domainSites i).any fun s => bitOf (d.rd (TILE_BIND s)) 31 && !d.fenced.contains (tileBase s)
  else if i < 156 then !d.fenced.contains (fieldBase (i - 144))
  else if i < 164 then !d.fenced.contains (mempBase (i - 156))
  else !(linkPorts (i - 164)).all fun c => bitOf (d.rd (linkStatus c)) 1

/-- A write of PWR.DOM_CTRL (R452). -/
def domCtrl (agent : Nat) (data : Word) (d : Dev) : Dev :=
  let i := fld data 7 0
  let on := bitOf data 8
  d.checked .pwr 0x1D8 agent
    [(.privilege, !isPewter agent), (.state, !d.up || (!on && decide (i < 168) && domainInUse d i)),
     (.busy, d.pwr.domSwitch.isSome || (on && d.chgState != 0)),
     (.reserved, decide (fld data 31 9 ≠ 0)), (.range, decide (167 < i))]
    fun d =>
      let d := { d with pwr := { d.pwr with domSwitch := some (i, on) } }
      d.wrF (Page.base .pwr + 0xC) 4 4 1

/-- The switch in progress ends (R453); a core domain that the comparator of 115 °C has opened stays off (R472). A field-service domain's PLL then locks, unless REFCLK is lost, and its TB copy is
realigned (11_clocking.md R441). -/
def domDone (d : Dev) : Dev :=
  match d.pwr.domSwitch with
  | none => d
  | some (i, on) =>
    let d := { d with pwr := { d.pwr with domSwitch := none } }
    let d := d.wrF (Page.base .pwr + 0xC) 4 4 0
    let d := d.setDom i (on && !(d.pwr.tripOpen && decide (i < 144)))
    if 144 ≤ i ∧ i < 156 then
      let f := i - 144
      if !on then d.wr CLK_FIELD_PLL (setBit (setBit (d.rd CLK_FIELD_PLL) f false) (16 + f) false)
      else if d.clk.refLost then d
      else (pllLocked f d).wr TIME_DIST_STATUS (setBit (d.rd TIME_DIST_STATUS) f true)
    else d

/-! ### Droop (R459 to R461) -/

/-- The field that holds a domain (R26, R451). -/
def domainField (i : Nat) : Nat :=
  if i < 144 then i / 12 else if i < 156 then i - 144
  else if i < 160 then 3 * (i - 156) else if i < 164 then 3 * (i - 160) + 2
  else [0, 2, 9, 11].getD (i - 164) 0

/-- A detector of a domain trips (R459, R460): the field's clock is stretched and its seam senders hold. -/
def droopTrip (dom : Nat) (d : Dev) : Dev :=
  let f := domainField dom
  let d := { d with pwr := { d.pwr with tripped := setIns d.pwr.tripped dom } }
  if d.pwr.stretched.contains f then d
  else
    let d := { d with pwr := { d.pwr with stretched := setIns d.pwr.stretched f } }
    showHolds (ibexVoid f (d.bump PWR_DROOP_COUNT))

/-- The stretch ends, 32 cycles after the last detector of the field clears (R459, R460). -/
def droopEnd (f cycles : Nat) (d : Dev) : Dev :=
  if d.pwr.stretched.contains f then
    let d := { d with pwr := { d.pwr with
      stretched := setDel d.pwr.stretched f, tripped := d.pwr.tripped.filter fun i => domainField i != f,
      droopEsc := setDel d.pwr.droopEsc f, escalated := kvDel d.pwr.escalated f } }
    let d := d.bumpBy PWR_DROOP_CYCLES cycles
    dutyRefreshAll (showHolds d)
  else d

/-- A stretch has lasted longer than 4,096 cycles (R461). -/
def stretchEsc (f : Nat) (d : Dev) : Dev :=
  if d.pwr.stretched.contains f ∧ !d.pwr.droopEsc.contains f then
    let d := d.record 0x16 11 f 4
    let d := d.bump PWR_STRETCH_ESC_COUNT
    let d := { d with pwr := { d.pwr with
      droopEsc := setIns d.pwr.droopEsc f, escalated := kvPut d.pwr.escalated f d.time.tb } }
    dutyRefreshAll d
  else d

/-- 1 ms after escalation (R461): detectors still tripped make a field failure. -/
def droopPersist (f : Nat) (still : Bool) (d : Dev) : Dev :=
  match kvGet? d.pwr.escalated f with
  | some t =>
    if t + usTicks 1000 ≤ d.time.tb ∧ still ∧ !d.flt.fieldFailed.contains f then
      fieldFailure f 6 { d with pwr := { d.pwr with escalated := kvDel d.pwr.escalated f } }
    else d
  | none => d

/-! ### Power limits (R463 to R467) -/

/-- The sustained limit (R463): min(licence limit, SUST_CAP, herd share when valid). -/
def Dev.sustLimit (d : Dev) : Nat :=
  let base := min (licenceWatts d) (d.rdF PWR_SUST_CAP 15 0)
  match d.pwr.herdShareNow with
  | some w => min base (min w (licenceWatts d))
  | none => base

/-- The short-term limit (R463): 1.35 × min(licence limit, SUST_CAP) (DEDUCED, unsafe: notes/assumptions/29.md). -/
def Dev.shortLimit (d : Dev) : Nat := 135 * min (licenceWatts d) (d.rdF PWR_SUST_CAP 15 0) / 100

/-- LIMITS (R476). -/
def limitsRefresh (d : Dev) : Dev := d.wrN PWR_LIMITS (d.sustLimit + d.shortLimit * 2 ^ 16)

/-- Power of a rail in quarter milliwatts; a field on the estimate counts V × I_est × 1.1 (R457, R463). -/
def Dev.railPower (d : Dev) (r : Nat) : Nat :=
  let w := d.rd (PMB_RAIL_STAT r)
  if r < 12 && d.estimated r then fld w 11 0 * d.estCurrent r * 11 / 10 else fld w 11 0 * fld w 31 16

/-- Average of the samples taken since a tick. -/
def avgSince (l : List (Nat × Nat)) (t : Nat) : Nat :=
  let xs := l.filter fun s => decide (t < s.1)
  if xs.isEmpty then 0 else (xs.foldl (fun n s => n + s.2) 0) / xs.length

/-- The power sample of 10 µs (R463), and the averages it enters (DEDUCED, unsafe: notes/assumptions/29.md). -/
def powerSample (d : Dev) : Dev :=
  let w := ((List.range 18).foldl (fun n r => n + d.railPower r) 0) / 4000
  let est := (List.range 12).any fun f => d.estimated f
  let old := d.time.tb - usTicks 60000000
  let smp := (d.time.tb, w) :: d.pwr.samples.filter fun s => decide (old ≤ s.1)
  let d := { d with pwr := { d.pwr with samples := smp, activity := [], lastActivity := d.pwr.activity } }
  let d := d.wrN PWR_POWER_NOW (min w 65535 + b2n est * 2 ^ 31)
  let d := d.wrN PWR_POWER_10MS (min 65535 (avgSince smp (d.time.tb - usTicks 10000)))
  let d := d.wrN PWR_POWER_SUST (min 65535 (avgSince smp (d.time.tb - usTicks (1000000 * d.rdF PWR_SUST_CAP 23 16))))
  let d := limitsRefresh d
  if (List.range 12).any fun f => decide (d.rdF (PWR_FIELD_PWR f) 14 10 < 16) then d.bumpBy PWR_THROTTLE_US 10 else d

/-- The next lower, and the next higher, valid OPP. -/
def Dev.oppBelow (d : Dev) (opp : Nat) : Option Nat := ((List.range opp).filter fun e => oppValid (d.rd (CLK_OPP e))).getLast?
def Dev.oppAbove (d : Dev) (opp : Nat) : Option Nat :=
  ((List.range 8).filter fun e => decide (opp < e) && oppValid (d.rd (CLK_OPP e))).head?

/-- The OPP the change in progress or in force leads to. -/
def Dev.oppHeading (d : Dev) : Nat := if d.chgState = 0 then d.curOpp else d.rdF CLK_CHG_STATE 6 4

/-- A cause of R469 requests the next lower valid OPP under R434: its request stands until it raises it again. The
answer says whether the request was accepted. -/
def oppDown (cause : Nat) (d : Dev) : Dev × Bool :=
  match d.oppBelow d.curOpp with
  | none => (d, true)
  | some e =>
    let d := d.bump PWR_OPP_DOWN_COUNT
    let (d, ok) := chgRequest 0x10 e false none d
    let d := { d with pwr := { d.pwr with oppReq := kvPut d.pwr.oppReq cause e } }
    (causeRefresh d, ok)

/-- The next higher valid OPP is requested, when no cause still requests the OPP lower (R469). -/
def oppRaise (d : Dev) : Dev × Bool :=
  match d.oppAbove d.curOpp with
  | some e =>
    if d.pwr.oppReq.all fun x => decide (e ≤ x.2) then
      let (d, ok) := chgRequest 0x10 e false none d
      (causeRefresh d, ok)
    else (causeRefresh d, true)
  | none => (causeRefresh d, true)

/-- A cause gives up one step of its request, which ends at the highest valid OPP (R469) (DEDUCED, unsafe: notes/assumptions/115.md). -/
def oppRelease (cause : Nat) (d : Dev) : Dev :=
  match kvGet? d.pwr.oppReq cause with
  | none => d
  | some r =>
    let req := match d.oppAbove r with
      | some e => if (d.oppAbove e).isSome then kvPut d.pwr.oppReq cause e else kvDel d.pwr.oppReq cause
      | none => kvDel d.pwr.oppReq cause
    { d with pwr := { d.pwr with oppReq := req } }

/-- A cause that requests the OPP lower gives up a step, and the OPP is raised (R469) (DEDUCED, unsafe: notes/assumptions/115.md). -/
def oppUp (cause : Nat) (d : Dev) : Dev × Bool :=
  if (kvGet? d.pwr.oppReq cause).isSome then oppRaise (oppRelease cause d) else (d, true)

/-- The short-term controller's step (R464). The projection is over the 10 ms window in progress: the energy so far
plus the power of the last 100 µs for the rest of the window (DEDUCED, unsafe: notes/assumptions/29.md). -/
def shortTermStep (d : Dev) : Dev :=
  let d := if usTicks 10000 ≤ d.time.tb - d.pwr.shortWin then { d with pwr := { d.pwr with shortWin := d.time.tb } } else d
  let done := (d.time.tb - d.pwr.shortWin) / 800
  let soFar := avgSince d.pwr.samples d.pwr.shortWin * done
  let last := avgSince d.pwr.samples (d.time.tb - usTicks 100)
  let proj := (soFar + last * (10000 - done)) / 10000
  let lim := d.shortLimit
  if lim < proj then
    let d := { d with pwr := { d.pwr with shortDuty := max 4 (d.pwr.shortDuty - 1) } }
    let d := dutyRefreshAll d
    if d.pwr.shortDuty = 4 then (oppDown 4 d).1 else d
  else if 10 * proj < 9 * lim then
    let d := { d with pwr := { d.pwr with shortDuty := min 16 (d.pwr.shortDuty + 1) } }
    let d := if d.pwr.shortDuty = 16 then (oppUp 4 d).1 else d
    dutyRefreshAll d
  else d

/-- The sustained controller's step (R466): at most one request per window; one rejected with BUSY is retried. Below the
ceiling it requests the next higher OPP whatever lowered it; R469 decides (DEDUCED, unsafe: notes/assumptions/29.md). -/
def sustStep (d : Dev) : Dev :=
  let avg := d.rdF PWR_POWER_SUST 15 0
  let lim := d.sustLimit
  let win := 10 * d.rdF PWR_SUST_CAP 23 16
  let low := if 100 * avg < 90 * lim then d.pwr.sustLow + 1 else 0
  let left := d.pwr.sustSteps - 1
  let d := { d with pwr := { d.pwr with sustLow := low, sustSteps := left } }
  let after (r : Dev × Bool) : Dev :=
    if r.2 then { r.1 with pwr := { r.1.pwr with sustSteps := win, sustLow := 0 } } else r.1
  if 0 < left then d
  else if 98 * lim < 100 * avg then after (oppDown 7 d)
  else if win ≤ low ∧ (d.oppAbove d.curOpp).isSome then after (oppRaise (oppRelease 7 d))
  else d

/-- A write of PWR.HERD_SHARE by Pewter (R467, R477); it takes effect at the next frame boundary. -/
def herdShareWrite (agent : Nat) (data : Word) (d : Dev) : Dev :=
  d.checked .pwr 0x11C agent
    [(.privilege, !isPewter agent), (.state, !d.up || !inHerd d), (.reserved, decide (fld data 30 16 ≠ 0))]
    fun d =>
      let d := d.wr PWR_HERD_SHARE data
      { d with pwr := { d.pwr with
          herdShareNext := if bitOf data 31 then some (fld data 15 0) else none, herdShareAge := 0 } }

/-- At a frame boundary a written share takes effect; without one for 3 frames VALID clears and the member uses
HERD_DEFAULT (R467). -/
def herdShareFrame (d : Dev) : Dev :=
  if !inHerd d then { d with pwr := { d.pwr with herdShareNow := none } }
  else
    let age := d.pwr.herdShareAge + 1
    let d := { d with pwr := { d.pwr with herdShareAge := age } }
    let d := if 3 < age then
        let d := d.wrF PWR_HERD_SHARE 31 31 0
        { d with pwr := { d.pwr with herdShareNext := none, herdShareNow := some (d.rdF PWR_HERD_DEFAULT 15 0) } }
      else { d with pwr := { d.pwr with
          herdShareNow := match d.pwr.herdShareNext with | some w => some w | none => some (d.rdF PWR_HERD_DEFAULT 15 0) } }
    limitsRefresh d

/-! ### Trims, hints, performance (R462, R468, R470) -/

/-- Pewter adjusts a field's trim (R468): `low` some monitor reported slack below the low threshold in the last
second; `high` every monitor stayed above the high threshold for the last hour. -/
def trimAdjust (f : Nat) (low high : Bool) (d : Dev) : Dev :=
  let t : Int := kvGetD d.pwr.trim 0 f
  let t' : Int := if low then min 60 (t + 5) else if high then max (-40) (t - 5) else t
  let recent : Bool := match kvGet? d.pwr.trimTick f with
    | some k => decide (d.time.tb < k + usTicks 10000000)
    | none => false
  if t' = t ∨ recent then d
  else
    let d := { d with pwr := { d.pwr with
      trim := kvSetD d.pwr.trim 0 f t', trimTick := kvPut d.pwr.trimTick f d.time.tb } }
    let d := trimsToFlash (vsetRefresh f d)
    if t' = 60 then
      let d := d.wr PWR_FLAGS (setBit (d.rd PWR_FLAGS) 0 true)
      (d.record 0x16 11 f 5).alert 1
    else d

/-- PERF.MEASURED (R470), in units of 1/65,536. -/
def perfMeasured (m : Nat) (d : Dev) : Dev := d.wrF PWR_PERF 31 16 (min m 65535)

/-- Coefficients of the estimate are calibrated (R457); the spec gives no values (DESIGN CHOICE, safe: notes/assumptions/31.md). -/
def estCalibrate (d : Dev) : Dev :=
  let (vs, d) := d.freeN 5
  { d with pwr := { d.pwr with coef := (List.range 5).map fun i => (i, vs.getD i 0) } }

/-! ### Thermal control (R471 to R473) -/

/-- The field of a junction sensor (R471). -/
def sensorField (i : Nat) : Nat :=
  if i < 144 then i / 12 else if i < 156 then i - 144 else if i < 180 then (i - 156) / 2
  else domainField (i - 24)

/-- The hottest sensor and its reading, in quarter °C: the lowest index among equals. -/
def hottest (d : Dev) : Nat × Int :=
  (List.range 192).foldl (fun b i =>
    let t := toSigned 16 (kvGetD d.pwr.sensor 0 i)
    if b.2 < t then (i, t) else b) (0, toSigned 16 (kvGetD d.pwr.sensor 0 0))

/-- A threshold with its hysteresis: set at or above `th`, cleared 3 °C below. -/
def latchT (on : Bool) (t th : Int) : Bool := if th ≤ t then true else if t ≤ th - 12 then false else on

/-- The thermal level (R478): 0 NORMAL, 1 WARN, 2 DUTY, 3 OPP, 4 HALT. -/
def PowerSt.level (p : PowerSt) : Nat :=
  if p.haltOn then 4 else if p.oppOn then 3 else if p.dutyOn then 2 else if p.warnOn then 1 else 0

/-- The thermal poll (R471, R472): the readings change the level and start each level's action (DESIGN CHOICE, safe: notes/assumptions/9.md). -/
def thermalPoll (readings : List (Nat × Nat)) (d : Dev) : Dev :=
  let sensor := readings.foldl (fun m r => if r.1 < 192 then kvSetD m 0 r.1 (r.2 % 65536) else m) d.pwr.sensor
  let d := { d with pwr := { d.pwr with sensor } }
  let (hot, t) := hottest d
  let d := d.wrN THERM_TJ_MAX (ofSigned 16 t + hot * 2 ^ 16)
  let old := d.pwr
  let lv := old.level
  let halt := if 432 ≤ t then true else if t < 380 then false else old.haltOn
  let p := { old with
    warnOn := latchT old.warnOn t (4 * d.rdF THERM_THRESH 7 0), dutyOn := latchT old.dutyOn t 400,
    oppOn := latchT old.oppOn t 412, haltOn := halt }
  let d := { d with pwr := p }
  let lv' := p.level
  let d := d.wrF THERM_STATE 2 0 lv'
  let d := if lv' = lv then d
    else d.record 0x17 6 hot (lv' + d.rdF THERM_STATE 8 8 * 8 + ofSigned 16 t * 2 ^ 16)
  let d := if p.warnOn && !old.warnOn then d.alert 1 else d
  let d := if lv = 0 ∧ 0 < lv' then d.bump THERM_WARN_COUNT else d
  let d := if p.dutyOn && !old.dutyOn then
      let f := sensorField hot
      { d with pwr := { d.pwr with dutyField := some f, thermDuty := kvSetD d.pwr.thermDuty 16 f 12 } }
    else if !p.dutyOn && old.dutyOn then { d with pwr := { d.pwr with dutyField := none, thermDuty := [] } }
    else d
  let d := dutyRefreshAll d
  let d := if p.oppOn && !old.oppOn then (oppDown 5 d).1 else d
  if p.haltOn && !old.haltOn then
    let d := d.bump THERM_HALT_COUNT
    let d := d.faultCond 1 true
    thermalHold true d
  else if !p.haltOn && old.haltOn then thermalHold false (d.faultCond 1 false)
  else d

/-- A step timer of thermal control (R472): 0 the 1 ms duty step, 1 the 20 ms OPP step, 2 the 1 s OPP raise. -/
def thermalTimer (k : Nat) (d : Dev) : Dev :=
  let (hot, t) := hottest d
  if k = 0 then
    let d := if 2 ≤ d.pwr.level then d.bump THERM_THROTTLE_MS else d
    if d.pwr.dutyOn ∧ 408 ≤ t then
      let f := sensorField hot
      let n := max 8 (kvGetD d.pwr.thermDuty 16 f - 2)
      let n := if kvGetD d.pwr.thermDuty 16 f = 16 then 12 else n
      dutyRefreshAll { d with pwr := { d.pwr with thermDuty := kvSetD d.pwr.thermDuty 16 f n } }
    else d
  else if k = 1 then (if d.pwr.oppOn ∧ 412 ≤ t then (oppDown 5 d).1 else d)
  else (if t < 388 then (oppUp 5 d).1 else d)

/-- The comparator at 115 °C (R472): every core domain, with the memory-tier banks in it (R451), opens until a cold start, and
the change to TRIP is recorded; LEVEL has no code for it, and the record carries the level in force (DEDUCED, unsafe:
notes/assumptions/117.md). -/
def thermalTrip (d : Dev) : Dev :=
  let (hot, t) := hottest d
  let d := if d.pwr.tripOpen then d
    else d.record 0x17 6 hot (d.pwr.level + d.rdF THERM_STATE 8 8 * 8 + ofSigned 16 t * 2 ^ 16)
  let d := (List.range 144).foldl (fun d i => d.setDom i false) d
  let d := { d with pwr := { d.pwr with
    tripLatched := true, tripOpen := true, railsOn := (setDel (setDel d.pwr.railsOn 12) 13) } }
  d.faultCond 2 true

/-- A stack at HOT requests the next lower OPP, once per second (R472). -/
def hbmHotStep (m : Nat) (d : Dev) : Dev := if mempHot d m then (oppDown 6 d).1 else d

/-- The inlet temperature against the profile's range (R6, R473) (DESIGN CHOICE, unsafe: notes/assumptions/11.md). -/
def coolantEval (d : Dev) : Dev :=
  let w := d.rd THERM_COOLANT_IN
  let was := bitOf (d.rd THERM_STATE) 8
  let high := bitOf w 31 && decide (4 * coolantMax d < toSigned 16 (fld w 15 0))
  let d := d.wrF THERM_STATE 8 8 (b2n high)
  if high && !was then
    (d.record 0x17 6 0 (d.pwr.level + 8 + fld w 15 0 * 2 ^ 16)).alert 1
  else d

/-- SENS_DATA (R478). -/
def sensData (d : Dev) : Word :=
  let i := d.rdF THERM_SENS_ADDR 7 0
  if i < 192 then w32 (kvGetD d.pwr.sensor 0 i) else 0

/-! ### Checks of staged values -/

/-- Applies of PWR (R477). -/
def pwrApplyChecks (d : Dev) : List Check :=
  let c := d.stagedRd PWR_SUST_CAP
  let h := d.stagedRd PWR_HINT_CFG
  [(.licence, decide (licenceWatts d < fld c 15 0) || decide (licenceWatts d < fld (d.stagedRd PWR_HERD_DEFAULT) 15 0)),
   (.range, decide (4 * fld c 15 0 < licenceWatts d) || decide (fld c 23 16 = 0) || decide (60 < fld c 23 16) ||
     decide (60 < fld h 5 0) || decide (fld h 13 8 < 20) || decide (60 < fld h 13 8))]

/-- Applies of PMB (R479, R480) (DEDUCED, unsafe: notes/assumptions/133.md). -/
def pmbApplyChecks (d : Dev) : List Check :=
  let b := d.stagedRd PMB_BUS_CFG
  let rs := (List.range 18).map fun r => d.stagedRd (PMB_RAIL r)
  let addr (w : Word) := (fld w 6 0, fld w 15 8)
  [(.reserved, decide (fld b 1 0 = 3)),
   (.state, ((List.range 14).any fun r => let w := rs.getD r 0
        w != d.rd (PMB_RAIL r) && !bitOf w 24) ||
      (List.range 18).any fun r => (List.range r).any fun q =>
        bitOf (rs.getD r 0) 31 && bitOf (rs.getD q 0) 31 && addr (rs.getD r 0) == addr (rs.getD q 0)),
   (.busy, (List.range 18).any fun r => let w := rs.getD r 0
        w != d.rd (PMB_RAIL r) && bitOf (d.rd (PMB_RAIL r)) 31 && d.pwr.railsOn.contains r),
   (.range, decide (fld b 13 8 = 0) || decide (50 < fld b 13 8) || rs.any (fun w => decide (6 < fld w 18 16)) ||
     decide (fld (d.stagedRd PMB_SLEW) 7 0 = 0) || decide (fld (d.stagedRd PMB_PHASE_IMAX) 7 0 < 20) ||
     decide (100 < fld (d.stagedRd PMB_PHASE_IMAX) 7 0) || decide (fld (d.stagedRd PMB_VMEM_MV) 9 0 < 650) ||
     decide (850 < fld (d.stagedRd PMB_VMEM_MV) 9 0))]

/-- Applies of THERM (R478). -/
def thermApplyChecks (d : Dev) : List Check :=
  let w := fld (d.stagedRd THERM_THRESH) 7 0
  [(.range, decide (w < 85) || decide (100 < w))]

/-! ### Commands -/

/-- AVS_POLL (R448). -/
def execAvsPoll (r : Nat) (ok : Bool) (mv qa : Nat) (failed lost : List Nat) (s : State) : Result :=
  guardUnit (decide (r < 14)) (onDev (avsPoll r ok mv qa failed lost) s)
/-- PMBUS_POLL (R448). -/
def execPmbusPoll (r : Nat) (ok : Bool) (mv qa : Nat) (hot : Bool) (s : State) : Result :=
  guardUnit (decide (r < 18)) (onDev (pmbusPoll r ok mv qa hot) s)
/-- COMM_TIMEOUT (R450). -/
def execCommTimeout (r : Nat) (s : State) : Result := guardUnit (decide (r < 14)) (onDev (commTimeout r) s)
/-- SMBALERT (R447). -/
def execSmbalert (s : State) : Result := onDev smbAlert s
/-- RAIL_FAULT (R475). -/
def execRailFault (r kind : Nat) (ports : List Nat) (s : State) : Result :=
  guardUnit (decide (r < 18) && decide (kind < 3)) (onDev (railFault r kind ports) s)
/-- DOM_CTRL (R452). -/
def execDomCtrl (agent : Nat) (data : Word) (s : State) : Result := onDev (domCtrl agent data) s
/-- DOMAIN_SWITCH_DONE (R453). -/
def execDomainSwitchDone (s : State) : Result := onDev domDone s
/-- CEIL_EVAL (R455). -/
def execCeilEval (f : Nat) (s : State) : Result := guardUnit (unitField f) (onDev (ceilEval f) s)
/-- EST_CALIBRATE (R457). -/
def execEstCalibrate (s : State) : Result := onDev estCalibrate s
/-- DROOP_TRIP (R459). -/
def execDroopTrip (dom : Nat) (s : State) : Result := guardUnit (decide (dom < 168)) (onDev (droopTrip dom) s)
/-- DROOP_STRETCH_END (R460). -/
def execDroopStretchEnd (f cycles : Nat) (s : State) : Result := guardUnit (unitField f) (onDev (droopEnd f cycles) s)
/-- STRETCH_ESCALATION (R461). -/
def execStretchEscalation (f : Nat) (s : State) : Result := guardUnit (unitField f) (onDev (stretchEsc f) s)
/-- DROOP_PERSIST_CHECK (R461). -/
def execDroopPersistCheck (f : Nat) (still : Bool) (s : State) : Result :=
  guardUnit (unitField f) (onDev (droopPersist f still) s)
/-- HINT (06_sequencers_isa.md R240, R462). -/
def execHint (q : Nat) (s : State) : Result :=
  guardUnit (unitSeq q) (onDev (seqExec q 0x0B fun i d => hintAdd { src := q, level := i.f 3 0, span := i.f 19 4 } d) s)
/-- HINT_EXPIRE (R462). -/
def execHintExpire (src : Nat) (s : State) : Result := onDev (hintExpire src) s
/-- POWER_SAMPLE (R463). -/
def execPowerSample (s : State) : Result := onDev powerSample s
/-- SHORT_TERM_STEP (R464). -/
def execShortTermStep (s : State) : Result := onDev shortTermStep s
/-- SUST_STEP (R466). -/
def execSustStep (s : State) : Result := onDev sustStep s
/-- HERD_SHARE (R467). -/
def execHerdShare (agent : Nat) (data : Word) (s : State) : Result := onDev (herdShareWrite agent data) s
/-- TRIM_ADJUST (R468). -/
def execTrimAdjust (f : Nat) (low high : Bool) (s : State) : Result :=
  guardUnit (unitField f) (onDev (trimAdjust f low high) s)
/-- TRIM_FLASH_WRITE (R468). -/
def execTrimFlashWrite (s : State) : Result := onDev trimsToFlash s
/-- PERF_MEASURED_UPDATE (R470). -/
def execPerfMeasuredUpdate (m : Nat) (s : State) : Result := onDev (perfMeasured m) s
/-- THERMAL_POLL (R472). -/
def execThermalPoll (readings : List (Nat × Nat)) (s : State) : Result := onDev (thermalPoll readings) s
/-- THERMAL_STEP_TIMER (R472). -/
def execThermalStepTimer (k : Nat) (s : State) : Result := guardUnit (decide (k < 3)) (onDev (thermalTimer k) s)
/-- THERMAL_TRIP (R472). -/
def execThermalTrip (s : State) : Result := onDev thermalTrip s
/-- HBM_HOT_STEP (R472). -/
def execHbmHotStep (m : Nat) (s : State) : Result := guardUnit (decide (m < 8)) (onDev (hbmHotStep m) s)

end Sys2Proof.Machine
end

