-- ==== Sys2Proof/Machine/Herd.lean ====
section
/-! DEFINITION. Herds (14_channels_twin_herd.md R544 to R554): membership, agreement on the configuration, fences, power shares,
the reference's time and frames, heartbeats and retransmission, and the partials exchange (16_interfaces_pins.md R615). -/

namespace Sys2Proof.Machine

/-! ### The device digest (R547) -/

/-- The pages of the digest, in BAR 0 order. -/
def digestPages : List Page :=
  [.clk, .strm, .sel, .chan] ++ (List.range 12).flatMap (fun f => .field f :: (fieldSeqs f).map .seq) ++ (List.range 8).map .memp

/-- The digest of a page: that of a quarantined field's FIELD and SEQ pages is the one latched at the start of its slice. -/
def pageDigest (d : Dev) (p : Page) : Nat :=
  match d.flt.ibexRun with
  | some r => (kvGet? r.digests p.base).getD (digestOf d p)
  | none => digestOf d p

/-- CRC-64 over the words of every valid beat program. -/
def progCrc (d : Dev) : Nat :=
  crc64 (wordBytes ((below 64 (progValid d)).flatMap fun p => (List.range 50).map fun w => progWord d p w))

def deviceDigest (d : Dev) : Nat :=
  leNat (sha256 ((digestPages.flatMap fun p => leBytes 4 p.base ++ leBytes 4 (d.rd p.base).toNat ++ leBytes 8 (pageDigest d p)) ++
    leBytes 4 0xFFFFFFFF ++ leBytes 4 0 ++ leBytes 8 (progCrc d)))

/-- At a frame boundary EPOCH and the digest are latched (R548), with the phase of the last commit of the frame that ends (DEDUCED, unsafe: notes/assumptions/87.md). -/
def herdLatch (d : Dev) : Dev :=
  if inHerd d then
    let v := deviceDigest d
    let d := d.modPeer fun p => { p with
      latched := ((d.rd HERD_EPOCH).toNat, v), lastCommitPhase := p.commitPhase, commitPhase := 0, reported := false }
    (splitWords 8 v).zipIdx.foldl (fun d e => d.wrN (HERD_DIGEST e.2) e.1) d
  else d

/-! ### Membership (R544, R545, R549) -/

def keyOf (d : Dev) (pos : Nat) : Nat := pos + 64 * herdSide d
def memberMask (d : Dev) : Nat := d.rd64 (HERD_MEMBERS 0)
def setHerd (st : Nat) (d : Dev) : Dev := d.wrF HERD_STATE 2 0 st
def setLead (pos : Nat) (d : Dev) : Dev := d.wrF HERD_STATE 13 8 pos
def setGen (pos gen : Nat) (d : Dev) : Dev := d.modPeer fun p => { p with gens := kvPut p.gens pos gen }

/-- The beat number from which a change holds: the next one of the stream that is furthest (DEDUCED, unsafe: notes/assumptions/87.md). -/
def herdBeat (d : Dev) : Nat := ((openStreams d).map (strmBeat d)).foldl max 0

/-- The lead of the other side of a paired herd: until that side has told its members, the own Chamois partner is taken for
it; none where the side is fenced (DEDUCED, unsafe: notes/assumptions/119.md). -/
def otherLead (d : Dev) : Option Nat :=
  match d.peer.otherMembers with
  | none => some (partnerKey d)
  | some m => ((maskPositions m).head?).map fun p => p + 64 * (1 - herdSide d)

/-- The members of the other side that are known, as peers. -/
def otherPeers (d : Dev) : List Nat := (maskPositions (d.peer.otherMembers.getD 0)).map (64 + ·)

/-- A fold mask with the positions absent on the other side of a paired herd removed (R554). -/
def foldBoth (d : Dev) (m : Nat) : Nat :=
  let o := d.peer.otherMembers.getD 0
  if herdPaired d && o != 0 then m &&& o else m

/-- The fold mask in force or in wait. -/
def curFold (d : Dev) : Nat := match d.peer.maskPend with | some e => e.1 | none => d.peer.foldMask

def setFold (m beat : Nat) (d : Dev) : Dev := if m = curFold d then d else d.modPeer fun p => { p with maskPend := some (m, beat) }

def genList (d : Dev) : List Nat := (members d).map fun p => 256 * p + kvGetD d.peer.gens 0 p

/-- MEMBERSHIP to every other member, and to the other side's lead (R545, R554) (DEDUCED, unsafe: notes/assumptions/87.md). -/
def sendMembership (beat : Nat) (to_ : List Nat) (d : Dev) : Dev :=
  let fs := [leadPos d, memberMask d, curFold d, beat] ++ genList d
  let d := to_.foldl (fun d k => send fMembership k fs d) d
  match otherLead d with
  | some k => if herdPaired d then send fMembership k fs d else d
  | none => d

/-- What is under way with a peer is forgotten: it joins anew. -/
def forgetPeer (k : Nat) (d : Dev) : Dev :=
  d.modPeer fun p => { p with
    seqOut := kvDel p.seqOut k, seqIn := kvDel p.seqIn k, unacked := p.unacked.filter fun s => s.peer != k }

/-- A module leaves the herd's work (R549): every stream pauses. -/
def fencedSelf (reason : Nat) (d : Dev) : Dev :=
  let d := setHerd 5 (setMembers [] d)
  let d := (openStreams d).foldl (fun d n => strmPause n d) d
  let d := d.modPeer fun p => { p with reports := [], missing := [], syncing := [], unacked := [], otherMembers := none }
  (herdRecord 3 reason (keyOf d (herdPos d)) (herdBeat d) d).alert 1

/-- The streams whose append role some positions hold, each with its holder. -/
def appendHeld (ps : List Nat) (d : Dev) : List (Nat × Nat) :=
  ((openStreams d).map fun n => (n, appendHolder d n)).filter fun e => ps.contains e.2

/-- The append role of a lost member moves to the next present position at the next beat (R551) (DEDUCED, unsafe: notes/assumptions/88.md). -/
def appendLost (held : List (Nat × Nat)) (d : Dev) : Dev :=
  held.foldl (fun d e => appendGive e.1 (strmBeat d e.1 + 1) (appendNext d e.2) d) d

/-- The lead fences a member (R548, R549) (DEDUCED, unsafe: notes/assumptions/87.md; DEDUCED, unsafe: notes/assumptions/118.md). -/
def fenceMember (pos reason : Nat) (d : Dev) : Dev :=
  if memberAt d pos && pos != herdPos d then
    let to_ := otherMembers d
    let held := appendHeld [pos] d
    let d := setMembers ((members d).filter (· != pos)) d
    let d := d.modPeer fun p => { p with
      syncing := kvDel p.syncing pos, missing := kvDel p.missing pos, reports := kvDel p.reports pos }
    let d := setFold (curFold d &&& (2 ^ 64 - 1 - 2 ^ pos)) (herdBeat d) d
    let d := herdRecord 3 reason (keyOf d pos) (herdBeat d) (d.bump HERD_FENCE_COUNT)
    let d := appendLost held (sendMembership (herdBeat d) to_ d)
    d.modPeer fun p => { p with unacked := p.unacked.filter fun s => s.peer != keyOf d pos }
  else d

/-- Why a join is refused (R544) (DESIGN CHOICE, unsafe: notes/assumptions/124.md). -/
def joinRefusal (d : Dev) (pos profile mode health : Nat) : Nat :=
  if profile ≠ d.rdF LIC_PROFILE 1 0 then 1
  else if herdMax d ≤ (members d).length then 2
  else if memberAt d pos then 3
  else if mode = 1 ∨ mode ≠ d.chanMode then 4
  else if 1 < health then 6
  else 0

/-- JOIN takes no SEQ (R544). -/
def joinSend (d : Dev) : Dev :=
  if herdSt d = 1 then
    emitFrame (planeFrom d 0) fJoin 0xFF 0
      [herdPos d, d.rd64 (DEV_ECID 0) + 2 ^ 64 * d.rd64 (DEV_ECID 2), d.rdF LIC_PROFILE 1 0, d.chanMode, herdMax d, d.rdF FLOOR_STATE 2 0] [] d
  else d

/-- The lead receives a JOIN. -/
def joinIn (h : FrameHdr) (pos profile mode health : Nat) (d : Dev) : Dev :=
  let d := d.modPeer fun p => { p with heard := kvPut p.heard h.src d.time.tb }
  if !herdEn d || h.herd != herdId d || h.src / 64 != herdSide d || !isLead d || d.boot.restarting then d
  else
    let k := keyOf d pos
    match joinRefusal d pos profile mode health with
    | 0 =>
      let gen := match kvGet? d.peer.gens pos with | some g => (g + 1) % 256 | none => 0
      let d := setGen pos gen (forgetPeer k d)
      let d := setMembers (setIns (members d) pos) d
      let d := d.modPeer fun p => { p with syncing := kvPut p.syncing pos 0 }
      let d := herdRecord 2 gen k (herdBeat d) d
      let d := send fAdmit k ([pos, d.frame, (d.rd HERD_EPOCH).toNat, memberMask d, gen, leadPos d] ++ genList d) d
      sendMembership (herdBeat d) ((otherMembers d).filter (· != k)) d
    | r => emitFrame (planeFrom d 0) fRefuse k 0 [pos, r, leadPos d] [] d

/-- The generations that a frame gives: 256 × position + generation. -/
def setGens (gens : List Nat) (d : Dev) : Dev := gens.foldl (fun d g =>
  let pos := g / 256
  let gen := g % 256
  if pos ≠ herdPos d ∧ kvGet? d.peer.gens pos ≠ some gen then setGen pos gen (forgetPeer (keyOf d pos) d) else setGen pos gen d) d

/-- ADMIT (R544): the joining module is SYNCING. -/
def admitIn (h : FrameHdr) (pos frame epoch mask gen lead : Nat) (gens : List Nat) (d : Dev) : Dev :=
  if herdSt d = 1 ∧ h.herd = herdId d ∧ h.src / 64 = herdSide d ∧ pos = herdPos d then
    let d := (setGens gens d).modPeer fun p => { p with
      seqIn := kvPut p.seqIn h.src h.seq, heard := kvPut p.heard h.src d.time.tb, firstAdopt := true, refFrame := some (frame, d.taiNs) }
    let d := setGen pos gen (setMembers (maskPositions mask) d)
    setHerd 2 (setLead lead ((d.wrN HERD_EPOCH epoch).wrN HERD_GEN gen))
  else d

/-- REFUSE (R544): recorded in REFUSE_INFO. A module refused while SYNCING joins anew. -/
def refuseIn (h : FrameHdr) (reason lead : Nat) (d : Dev) : Dev :=
  if (herdSt d = 1 ∨ herdSt d = 2) ∧ h.herd = herdId d ∧ h.src / 64 = herdSide d then
    let d := d.wrN HERD_REFUSE_INFO (reason + lead % 64 * 2 ^ 8)
    let d := herdRecord 1 reason h.src 0 d
    if herdSt d = 2 then setHerd 1 (setMembers [] d) else d
  else d

/-- The generations of the other side's positions: one that has changed joins anew. -/
def setOtherGens (gens : List Nat) (d : Dev) : Dev := gens.foldl (fun d g =>
  let k := 64 + g / 256 % 64
  let d' := match kvGet? d.peer.gens k with
    | some old => if old = g % 256 then d else forgetPeer (g / 256 % 64 + 64 * (1 - herdSide d)) d
    | none => d
  setGen k (g % 256) d') d

/-- The lead's members are absent on the other side, or back: the fold follows (R554). -/
def otherSide (mask fold : Nat) (beat : Nat) (gens : List Nat) (d : Dev) : Dev :=
  if fold = 0 ∧ mask = 0 then
    -- this side is fenced as a whole
    let to_ := otherMembers d
    let d := setMembers [] d
    fencedSelf 1 (to_.foldl (fun d k => send fMembership k [leadPos d, 0, 0, beat] d) d)
  else
    let gone := (otherPeers d).filter fun k => !mask.testBit (k - 64)
    let d := setOtherGens gens (peersOut gone (d.modPeer fun p => { p with otherMembers := some mask }))
    if isLead d then
      let m := foldBoth d ((members d).filter (fun p => (kvGet? d.peer.syncing p).isNone) |>.foldl (fun m p => m ||| 2 ^ p) 0)
      if m = curFold d then d else let b := max beat (herdBeat d); sendMembership b (otherMembers d) (setFold m b d)
    else d

/-- MEMBERSHIP (R545, R549). A member that finds itself absent is FENCED; why, the frame does not say: a free value among
the reasons, but DIGEST when a whole side is fenced. -/
def membershipIn (h : FrameHdr) (lead mask fold beat : Nat) (gens : List Nat) (d : Dev) : Dev :=
  if h.src / 64 ≠ herdSide d then otherSide mask fold beat gens d
  else if !mask.testBit (herdPos d) then
    let (v, d) := d.free
    fencedSelf (if mask = 0 then 1 else v % 5 + 1) d
  else
    let held := appendHeld ((members d).filter fun p => !mask.testBit p) d
    let d := setLead lead (setGens gens (setMembers (maskPositions mask) d))
    let d := if herdSt d = 4 ∧ lead ≠ herdPos d then setHerd 3 d else d
    let d := if herdSt d = 3 ∧ lead = herdPos d then appendLost held (setHerd 4 d) else d
    let d := setFold fold beat d
    if herdSt d = 2 ∧ fold.testBit (herdPos d) then setHerd 3 d else d

/-! ### Agreement (R548, R552) -/

/-- A member's REPORT, its own with it (R548). -/
def ownReport (d : Dev) : Report :=
  { frame := d.frame, epoch := d.peer.latched.1, digest := d.peer.latched.2, power := d.rdF PWR_POWER_NOW 15 0
    phase := d.peer.lastCommitPhase, health := d.rdF FLOOR_STATE 2 0 }

def reportFields (r : Report) : List Nat := [r.frame, r.epoch] ++ splitWords 8 r.digest ++ [r.power, r.phase, r.health]

/-- By REPORT_PHASE the member sends its report; none leaves during a compute reset (R548, R595) (DEDUCED, unsafe: notes/assumptions/87.md). -/
def reportSend (d : Dev) : Dev :=
  if inHerd d && !d.peer.reported && decide (d.rdF HERD_AGREE 15 0 ≤ d.phase) && !inReset d then
    let r := ownReport d
    let d := d.modPeer fun p => { p with reported := true }
    if isLead d then
      let d := d.modPeer fun p => { p with reports := kvPut p.reports (herdPos d) r }
      match otherLead d with
      | some k => if herdPaired d then send fReport k (reportFields r) d else d
      | none => d
    else send fReport (keyOf d (leadPos d)) (reportFields r) d
  else d

/-- REPORT reaches the lead. -/
def reportIn (h : FrameHdr) (r : Report) (d : Dev) : Dev :=
  if h.src / 64 ≠ herdSide d then d.modPeer fun p => { p with otherDigest := some (r.epoch, r.digest) }
  else if isLead d then d.modPeer fun p => { p with reports := kvPut p.reports (h.src % 64) r }
  else d

/-- `herd_shares` of R552: the share of a late and of another member, clamped. -/
def herdShare (d : Dev) (n late : Nat) (isLate : Bool) : Nat :=
  let base : Int := (d.rdF HERD_BUDGET 18 0 / n : Nat)
  let shift : Int := (d.rdF HERD_POWER_CFG 12 0 : Nat)
  let lic := licenceWatts d
  let s : Int := if 0 < late ∧ late < n then
      (if isLate then base + shift else base - shift * (late : Int) / ((n - late : Nat) : Int))
    else base
  (max ((lic / 4 : Nat) : Int) (min s ((lic : Nat) : Int))).toNat

/-- The shares of the present members, and their distribution (R552). `misses` names the members whose MISSES count has
risen. -/
def sendShares (reports : KV Report) (misses : List Nat) (d : Dev) : Dev :=
  let ps := members d
  let phase := fun p => (kvGet? reports p).map (·.phase)
  let first := (ps.filterMap phase).foldl min 0x10000
  let late := fun p => misses.contains p || (match phase p with | some x => decide (first + d.rdF HERD_POWER_CFG 31 16 < x) | none => false)
  let n := (ps.filter late).length
  ps.foldl (fun d p =>
    let s := herdShare d ps.length n (late p)
    if p = herdPos d then herdShareWrite 0x10 (w32 (s % 65536 + 2 ^ 31)) d else send fShare (keyOf d p) [s] d) d

/-- The lead judges one member's report (DEDUCED, unsafe: notes/assumptions/118.md). -/
def judge (own : Report) (reports : KV Report) (p : Nat) (d : Dev) : Dev :=
  match kvGet? reports p with
  | none =>
    let n := kvGetD d.peer.missing 0 p + 1
    let d := d.modPeer fun x => { x with missing := kvPut x.missing p n }
    if 3 ≤ n then fenceMember p 2 d else d
  | some r =>
    let d := d.modPeer fun x => { x with missing := kvDel x.missing p }
    let syncing := (kvGet? d.peer.syncing p).isSome
    if r.epoch ≠ own.epoch ∨ r.digest ≠ own.digest then
      let d := d.bump HERD_MISMATCH_COUNT
      if syncing then d else fenceMember p 1 d
    else if 2 ≤ r.health then fenceMember p 4 d
    else if syncing then
      let d := d.modPeer fun x => { x with syncing := kvDel x.syncing p }
      let b := herdBeat d + 2
      sendMembership b (otherMembers d) (setFold (foldBoth d (curFold d ||| 2 ^ p)) b d)
    else d

/-- The lead fences itself (R548): the next position leads. -/
def leadFencesSelf (d : Dev) : Dev :=
  let to_ := otherMembers d
  let rest := (members d).filter (· != herdPos d)
  let d := setLead (rest.headD 0) (setMembers rest d)
  let d := setFold (curFold d &&& (2 ^ 64 - 1 - 2 ^ herdPos d)) (herdBeat d) d
  fencedSelf 5 (sendMembership (herdBeat d) to_ (d.bump HERD_FENCE_COUNT))

/-- The other side's digest differs: that side is fenced as a whole (R554). -/
def judgeOther (own : Report) (d : Dev) : Dev :=
  match d.peer.otherDigest, otherLead d with
  | some (e, v), some k =>
    let d := d.modPeer fun p => { p with otherDigest := none }
    if e = own.epoch ∧ v = own.digest then d
    else
      let d := (d.bump HERD_MISMATCH_COUNT).bump HERD_FENCE_COUNT
      let d := send fMembership k [leadPos d, 0, 0, herdBeat d] (herdRecord 3 1 k (herdBeat d) d)
      peersOut (otherPeers d) (d.modPeer fun p => { p with otherMembers := some 0 })
  | _, _ => d

/-- COMPARE_PHASE (R548, R552): the reports of this frame are compared with the lead's own. -/
def herdCompare (misses : List Nat) (d : Dev) : Dev :=
  match kvGet? d.peer.reports (herdPos d) with
  | none => d
  | some own =>
    if !isLead d || decide (d.phase < d.rdF HERD_AGREE 31 16) then d
    else
      let rs := d.peer.reports.filter fun e => e.2.frame == own.frame
      let others := (members d).filter (· != herdPos d)
      let differ := others.filter fun p => match kvGet? rs p with
        | some r => r.epoch != own.epoch || r.digest != own.digest
        | none => false
      let d := d.modPeer fun p => { p with reports := [] }
      if (members d).length < 2 * differ.length then leadFencesSelf (d.bumpBy HERD_MISMATCH_COUNT differ.length)
      else
        let d := others.foldl (fun d p => judge own rs p d) d
        sendShares rs misses (if herdPaired d then judgeOther own d else d)

/-! ### Frames of the reference (R534, R546) -/

/-- The module's reference sent the frame: role A of a twin, the lead of a herd. -/
def fromReference (d : Dev) (h : FrameHdr) : Bool :=
  if herdEn d then h.src == keyOf d (leadPos d) && !isLead d else h.src == 0 && twinRole d == 1

/-- The tick nearest to a TAI value close to now. -/
def tickOfTai (d : Dev) (ns : Nat) : Nat :=
  let now := d.taiNs
  if ns ≤ now then d.time.tb - (now - ns) * 4 / 5 else d.time.tb + (ns - now) * 4 / 5

/-- FRAME: under the PARTNER source it causes the boundary, else the number is adopted at the next one. -/
def frameIn (h : FrameHdr) (frame ns : Nat) (d : Dev) : Dev :=
  if !fromReference d h then d
  else
    let prev := d.peer.refFrame
    let d := d.modPeer fun p => { p with refFrame := some (frame, ns) }
    if d.rdF CAD_CTRL 1 0 = 3 ∧ d.cad.cause.isNone then
      let dt := match prev with | some e => (ns - e.2) * 4 / 5 | none => 0
      let d := d.wrN CAD_PERIOD (if measures dt then dt else d.nomTicks)
      boundaryAt (tickOfTai d ns - 1) false (some frame) (cadSet 3 d)
    else d

/-- The frame number at a boundary of a module with its own source (R534): the reference's, where one has come (DEDUCED, unsafe: notes/assumptions/34.md). -/
def refAdopt (next : Nat) (d : Dev) : Nat × Dev :=
  match d.peer.refFrame with
  | some (n, _) =>
    if d.rdF CAD_CTRL 1 0 ≠ 3 ∧ ((twinSt d = 2 ∧ twinRole d = 1 ∧ !herdEn d) ∨ herdSt d = 2 ∨ herdSt d = 3) then
      let first := d.peer.firstAdopt
      let d := d.modPeer fun p => { p with refFrame := none, firstAdopt := false }
      (n, if n = next ∨ first then d
        else twinRecord 0x18 0 (if herdEn d then keyOf d (leadPos d) else 0) 0 0 d)
    else (next, d)
  | none => (next, d)

/-- At its boundary the reference sends FRAME; the lead sends MEMBERSHIP and counts the frames of members that
synchronise (R544, R545). -/
def referenceFrame (d : Dev) : Dev :=
  let fs := [d.frame, d.taiNsAt d.boundTick]
  let d := if !herdEn d ∧ twinSt d = 2 ∧ twinRole d = 0 then send fFrame (partnerKey d) fs d else d
  if isLead d then
    let d := sendMembership (herdBeat d) (otherMembers d) (sendAll fFrame fs d)
    let d := d.modPeer fun p => { p with syncing := p.syncing.map fun (e : Nat × Nat) => (e.1, e.2 + 1) }
    let late := (d.peer.syncing.filter fun e => decide (8 < e.2)).map (·.1)
    let d := late.foldl (fun d p =>
      let d := emitFrame (planeFrom d 0) fRefuse (keyOf d p) 0 [p, 5, leadPos d] [] d
      let d := setMembers ((members d).filter (· != p)) d
      d.modPeer fun x => { x with syncing := kvDel x.syncing p }) d
    let near := (members d).filter fun p => p == herdPos d || decide (d.time.tb ≤ kvGetD d.peer.heard 0 (keyOf d p) + usTicks 1000)
    if bitOf (d.rd HERD_STATE) 25 && decide ((members d).length < 2 * near.length) then d.wrF HERD_STATE 25 25 0 else d
  else d

/-- TIME (R534): an offset that the exchange measured, and its round trip. -/
def timeIn (h : FrameHdr) (off : Int) (rtt : Nat) (d : Dev) : Dev :=
  let d := if twinEn d && h.src == partnerKey d then d.wrF TWIN_LINK_RTT 15 0 (min 0xFFFF rtt) else d
  if fromReference d h then (if d.rdF TIME_SRC 1 0 = 3 then servoMeasure off d else d)
  else send fTime h.src [d.taiNs] d

/-! ### The lead is lost (R553) -/

/-- A member whose source was PARTNER goes on in holdover, and Pewter then applies FSYNC or INTERNAL. -/
def leaveReference (d : Dev) : Dev :=
  if d.rdF CAD_CTRL 1 0 = 3 then
    let d := cadSet 5 d
    let src := if (pinWith d 1).isSome then 1 else 2
    let d := if src = 2 then Dev.setActive d .cad 0x108 (setFld (d.rd CAD_NOM_PERIOD) 17 0 ((d.rd CAD_PERIOD).toNat / 800)) else d
    cadenceEnter src (d.setActive .cad 0x100 (setFld (d.rd CAD_CTRL) 1 0 src))
  else d

def becomeLead (lost : List Nat) (d : Dev) : Dev :=
  let own := herdPos d
  let before := (members d).length
  let near := (members d).filter fun p => p == own || (!lost.contains p && decide (d.time.tb ≤ kvGetD d.peer.heard 0 (keyOf d p) + usTicks 1000))
  let to_ := otherMembers d
  let held := appendHeld lost d
  let d := setLead own (setHerd 4 (setMembers ((members d).filter fun p => !lost.contains p) d))
  let d := setFold (lost.foldl (fun m p => m &&& (2 ^ 64 - 1 - 2 ^ p)) (curFold d)) (herdBeat d) d
  let d := herdRecord 4 0 (keyOf d own) (herdBeat d) (sendMembership (herdBeat d) to_ d)
  let d := appendLost held d
  if 2 * near.length < before then
    let d := herdRecord 5 0 (keyOf d own) (herdBeat d) (d.wrF HERD_STATE 25 25 1)
    (openStreams d).foldl (fun d n => strmPause n d) d
  else d

/-- No frame from the lead for 1 ms (R553): the lowest present member leads. A JOINING module that hears neither a lead nor
a lower position forms the herd. -/
def leadLost (d : Dev) : Dev :=
  let silent := fun k => decide (kvGetD d.peer.heard 0 k + usTicks 1000 ≤ d.time.tb)
  let own := herdPos d
  if herdSt d = 1 then
    if (below own fun p => !silent (keyOf d p)).isEmpty then
      let gen := match kvGet? d.peer.gens own with | some g => (g + 1) % 256 | none => 0
      let d := (setGen own gen (setMembers [own] d)).wrN HERD_GEN gen
      setFold (2 ^ own) (herdBeat d) (setLead own (setHerd 4 d))
    else d
  else if (herdSt d = 2 ∨ herdSt d = 3) ∧ silent (keyOf d (leadPos d)) then
    let lead := leadPos d
    let d := leaveReference d
    match (members d).find? (· != lead) with
    | some p => if p = own then becomeLead [lead] d
        else setLead p (setMembers ((members d).filter (· != lead)) d)
    | none => d
  else d

/-! ### Heartbeats, retransmission (R531) -/

/-- The modules that the module compares with or is a member with. -/
def heartbeatPeers (d : Dev) : List Nat :=
  (if twinEn d && twinSt d == 2 then [partnerKey d] else []) ++ (if inHerd d then otherMembers d else [])

def heartbeatSend (d : Dev) : Dev :=
  if d.boot.restarting then d
  else (heartbeatPeers d).foldl (fun d k => (planes d).foldl (fun d n =>
    emitFrame n fHeartbeat k (kvGetD d.peer.seqOut 0 k) [] [] d) d) d

/-- A destination is unreachable: the loss rules apply. -/
def unreachable (k : Nat) (d : Dev) : Dev × List MemWrite :=
  let d := d.modPeer fun p => { p with unacked := p.unacked.filter fun s => s.peer != k }
  let d := if isLead d && k / 64 == herdSide d then fenceMember (k % 64) 2 d else d
  let d := if (herdSt d = 2 ∨ herdSt d = 3) ∧ k = keyOf d (leadPos d) then
      leadLost (d.modPeer fun p => { p with heard := kvDel p.heard k }) else d
  if twinEn d && k == partnerKey d then partnerLost d else (d, [])

/-- Frames that wait longer than 20 µs go out again on the next plane; after 8 times their destination is unreachable. -/
def retransmit (d : Dev) : Dev × List MemWrite :=
  if d.boot.restarting then (d, [])
  else
    let due : Sent → Bool := fun s => (decide (s.tick + usTicks 20 ≤ d.time.tb))
    let out := (d.peer.unacked.filter fun s => due s && decide (8 ≤ s.tries)).map (·.peer)
    let again := d.peer.unacked.filter fun s => due s && decide (s.tries < 8) && !(out.contains s.peer)
    let d := again.foldl (fun d s => emitFrame (planeFrom d (s.plane + 1)) s.typ s.peer s.seq s.fields s.data d) d
    let d := d.modPeer fun p => { p with
      unacked := p.unacked.map fun s => if due s && decide (s.tries < 8) && !(out.contains s.peer) then
        { s with tries := s.tries + 1, tick := d.time.tb, plane := planeFrom d (s.plane + 1) } else s }
    out.foldl (fun r k => andThen r (unreachable k)) (d, [])

/-! ### Partials (16_interfaces_pins.md R615) -/

def pxMask (d : Dev) : Nat := d.rd64 (SPUR_PX_MASK 0)
def pxSize (d : Dev) : Nat := 64 * (d.rdF SPUR_PX_SLOT 6 0 + 1)
def pxSlot (d : Dev) (k : Nat) : PxSlot := kvGetD d.peer.px {} k
def setPx (k : Nat) (x : PxSlot) (d : Dev) : Dev := d.modPeer fun p => { p with px := kvSetD p.px {} k x }

/-- A slot takes a use: a new one discards what was received for the old. -/
def pxTake (x : PxSlot) (use : Nat) : PxSlot := if x.use = use then x else { use, got := [], sent := false }

/-- Every other position's partial of the slot is here, and the module's own has been sent. -/
def pxFull (d : Dev) (x : PxSlot) : Bool :=
  x.sent && ((maskPositions (pxMask d)).filter (· != herdPos d)).all fun p => x.got.contains p

/-- The spur block contributes the slot number to RX_RED_ID through the local port of PX_TILE's router. -/
def pxContribute (k : Nat) (d : Dev) : Dev :=
  match siteOf d (d.rdF SPUR_PX_TILE 13 0) with
  | none => d
  | some s =>
    let id := d.rdF SPUR_PX_CFG 23 16
    let remote := fld (redEntry d s id 0) 29 28 == 2
    (inject s { vc := 1, typ := 8, dest := id, addr := 1, data := [w32 k], redirect := remote
                destSite := if remote then fld (redEntry d s id 2) 21 8 else 0 } none d).1

/-- The slot changes; it contributes when it becomes full. -/
def pxSet (k : Nat) (x : PxSlot) (d : Dev) : Dev :=
  let was := pxFull d (pxSlot d k) && (pxSlot d k).use == x.use
  let d := setPx k x d
  if pxFull d x && !was then pxContribute k d else d

/-- An instance of the transmit reduction has completed at PX_TILE: the slot leaves in PARTIAL frames. -/
def pxTrigger (x : ExtMem) (d : Dev) : Dev :=
  match d.fab.pxResults with
  | [] => d
  | k :: rest =>
    let d := d.modFab fun f => { f with pxResults := rest }
    if !bitOf (d.rd SPUR_PX_CFG) 0 || decide (d.rdF SPUR_PX_CFG 31 24 < k) then d
    else
      let bs := x.read (base39 d SPUR_PX_TX_BASE_LO SPUR_PX_TX_BASE_HI + k * pxSize d) (pxSize d)
      let to_ := (maskPositions (pxMask d)).filter (· != herdPos d)
      let d := to_.foldl (fun d p =>
        (sendOn (d.rdF SPUR_PX_CFG 5 4) fPartial (keyOf d p) [k] bs d).wr (SPUR_PX_COUNT 0) (d.rd (SPUR_PX_COUNT 0) + 1)) d
      pxSet k { pxTake (pxSlot d k) (leNat (bs.take 9)) with sent := true } d

/-- A PARTIAL arrives. -/
def partialIn (h : FrameHdr) (k : Nat) (data : List Byte) (d : Dev) : Dev × List MemWrite :=
  let p := h.src % 64
  if !bitOf (d.rd SPUR_PX_CFG) 0 || !(pxMask d).testBit p || decide (d.rdF SPUR_PX_CFG 31 24 < k) then
    ((d.bump SPUR_PX_DROP_COUNT).record 0x1D 8 (0x30 + h.plane % 4) (8 + p * 2 ^ 8 + k % 65536 * 2 ^ 16), [])
  else
    let d := d.wr (SPUR_PX_COUNT 1) (d.rd (SPUR_PX_COUNT 1) + 1)
    let x := pxTake (pxSlot d k) (leNat (data.take 9))
    (pxSet k { x with got := setIns x.got p } d,
      [.bytes (base39 d SPUR_PX_RX_BASE_LO SPUR_PX_RX_BASE_HI + (64 * k + p) * pxSize d) (data.take (pxSize d))])

/-- An APPEND frame (R551): one that comes after the beat boundary that it names, and before the next commit, takes effect
now (DEDUCED, unsafe: notes/assumptions/88.md). -/
def appendIn (n beat pos : Nat) (d : Dev) : Dev :=
  appendBoundary n (d.modPeer fun p => { p with appendPend := p.appendPend ++ [(n, beat, pos)] })

/-! ### Commands -/

/-- HEARTBEAT (R531): it takes no SEQ. -/
def execHeartbeatFrame (h : FrameHdr) (s : State) : Result :=
  onDev (fun d => if knownPeer d h then frameHeard h d else staleFrame h fHeartbeat d) s
/-- HEARTBEAT_SEND (R531). -/
def execHeartbeatSend (s : State) : Result := onDev heartbeatSend s
/-- SNIGUS_RETRANSMIT (R531). -/
def execSnigusRetransmit (s : State) : Result := onDevMem (fun _ d => retransmit d) s
/-- SNIGUS_BAD_FRAME (R530): a frame of an unknown TYPE is dropped and recorded. -/
def execSnigusBadFrame (h : FrameHdr) (typ : Nat) (s : State) : Result :=
  onDev (fun d => if 1 ≤ typ ∧ typ ≤ 0x13 then d else herdRecord 9 typ h.src 0 d) s
/-- TIME (R534): the offset of the own TAI in ns and the round trip that the exchange measured. -/
def execTimeFrame (h : FrameHdr) (offset : Int) (rtt : Nat) (s : State) : Result :=
  onDev (deliver1 (knownPeer · h) h fTime (timeIn h offset rtt)) s
/-- FRAME (R534). -/
def execFrameFrame (h : FrameHdr) (frame ns : Nat) (s : State) : Result :=
  onDev (deliver1 (knownPeer · h) h fFrame (frameIn h frame ns)) s
/-- JOIN (R544). -/
def execJoinFrame (h : FrameHdr) (pos profile mode health : Nat) (s : State) : Result :=
  guardUnit (decide (pos < 64)) (onDev (joinIn h pos profile mode health) s)
/-- JOIN_SEND (R544). -/
def execJoinSend (s : State) : Result := onDev joinSend s
/-- ADMIT (R544). -/
def execAdmitFrame (h : FrameHdr) (pos frame epoch mask gen lead : Nat) (gens : List Nat) (s : State) : Result :=
  onDev (admitIn h pos frame epoch mask gen lead gens) s
/-- REFUSE (R544). -/
def execRefuseFrame (h : FrameHdr) (reason lead : Nat) (s : State) : Result := onDev (refuseIn h reason lead) s
/-- MEMBERSHIP (R545). -/
def execMembershipFrame (h : FrameHdr) (lead mask fold beat : Nat) (gens : List Nat) (s : State) : Result :=
  onDev (deliver1 (knownPeer · h) h fMembership (membershipIn h lead mask fold beat gens)) s
/-- HERD_REPORT_SEND (R548). -/
def execHerdReportSend (s : State) : Result := onDev reportSend s
/-- REPORT (R548). -/
def execReportFrame (h : FrameHdr) (frame epoch digest power phase health : Nat) (s : State) : Result :=
  onDev (deliver1 (knownPeer · h) h fReport (reportIn h { frame, epoch, digest, power, phase, health })) s
/-- HERD_COMPARE (R548, R552): `misses` names the members whose MISSES count has risen. -/
def execHerdCompare (misses : List Nat) (s : State) : Result := onDev (herdCompare misses) s
/-- SHARE (R552). -/
def execShareFrame (h : FrameHdr) (watts : Nat) (s : State) : Result :=
  onDev (deliver1 (knownPeer · h) h fShare (herdShareWrite 0x10 (w32 (watts % 65536 + 2 ^ 31)))) s
/-- APPEND (R551). -/
def execAppendFrame (h : FrameHdr) (stream beat pos : Nat) (s : State) : Result :=
  onDev (deliver1 (knownPeer · h) h fAppend (appendIn stream beat pos)) s
/-- PARTIAL (R615). -/
def execPartialFrame (h : FrameHdr) (slot : Nat) (data : List Byte) (s : State) : Result :=
  onDevMem (fun _ d => deliver (knownPeer · h) h fPartial (partialIn h slot data) d) s
/-- PX_TX_TRIGGER (R615). -/
def execPxTxTrigger (s : State) : Result := onDevRead pxTrigger s
/-- LEAD_LOST (R553). -/
def execLeadLost (s : State) : Result := onDev leadLost s

end Sys2Proof.Machine
end

