-- ==== Sys2Proof/Machine/Faults.lean ====
section
/-! DEFINITION. The error ring, its budget and its mirror, attribution, Pewter pairs and the Ibex margin test
(13_faults_recovery.md R485 to R490, R504 to R509). -/

namespace Sys2Proof.Machine

/-! ### The ring (R485 to R488) -/

/-- The host link is up. -/
def hostUp (d : Dev) : Bool := bitOf (d.rd (PCIE_LINK 0)) 0 || bitOf (d.rd (PCIE_LINK 1)) 0
/-- Mirror writes may leave: a link is up and not in D3hot (16_interfaces_pins.md R603). -/
def mirrorUp (d : Dev) : Bool := [0, 1].any fun i => bitOf (d.rd (PCIE_LINK i)) 0 && !bitOf (d.rd (PCIE_LINK i)) 11

/-- A stored record reaches the mirror (R487): its slot, then RING_STATUS. -/
def mirror (k : Nat) (ws : List Word) (d : Dev) : Dev :=
  if bitOf (d.rd FLT_MIRROR_CTRL) 0 then
    if mirrorUp d then
      let a := d.rd64 FLT_MIRROR_LO
      { d with tx := d.tx ++ [.hostWrite (a + 32 * k) (wordBytes ws), .hostWrite (a + 0x20000) (wordBytes [d.rd FLT_RING_STATUS])] }
    else d.bump FLT_MIRROR_LOST
  else d

/-- A record is stored in slot WR_IDX with the next RECORD_ID (R485, R487, R488) (DEDUCED, unsafe: notes/assumptions/99.md). -/
def ringStore (r : ErrRec) (d : Dev) : Dev :=
  let k := d.rdF FLT_RING_STATUS 11 0
  let id := d.rdF FLT_RING_STATUS 31 16
  let ws := r.words id
  let d := ws.zipIdx.foldl (fun d e => d.wr (ringAddr k e.2) e.1) d
  let wrapped := bitOf (d.rd FLT_RING_STATUS) 12 || k == 4095
  let d := d.wrN FLT_RING_STATUS ((k + 1) % 4096 + b2n wrapped * 2 ^ 12 + (id + 1) % 65536 * 2 ^ 16)
  let d := { d with tx := if d.boot.restarting then d.tx else d.tx ++ [.console false id] }
  let d := mirror k ws d
  let d := if bitOf (d.rd FLT_ALERT_MASK) r.cls then d.alert 0 else d
  if bitOf (d.rd FLT_FAULT_MASK) r.cls then d.fault 0 else d

def countClass (c : Nat) (d : Dev) : Dev :=
  d.modFlt fun f => { f with classCount := kvPut f.classCount c (min 0xFFFFFFFF (kvGetD f.classCount 0 c + 1)) }

/-- A record of a class in FAULT_MASK triggers a snapshot while FAULT_EN is 1 (02_control_model.md R88, R95). -/
def recordSnap (cls tick : Nat) (d : Dev) : Dev :=
  if bitOf (d.rd SNAP_CTRL) 2 && bitOf (d.rd SNAP_FAULT_MASK) cls then (snapTrigger 4 (tick + usTicks 2) d).1 else d

/-- The end of a millisecond of the budget (R486): a RING record for each class with suppressed records. -/
def budgetEnd (d : Dev) : Dev :=
  if d.flt.ms = d.ms then d
  else
    let l := d.flt.msSuppressed
    let d := d.modFlt fun f => { f with ms := d.ms, msStored := [], msSuppressed := [] }
    l.foldl (fun d e =>
      let r : ErrRec := { cls := 0x1F, kind := 0, unit := 0, synd := e.1 + e.2 % 2 ^ 24 * 2 ^ 8, taiNs := d.taiNs % 2 ^ 64,
                          tick := d.time.tb, frame := d.frame % 65536, phase := d.phase }
      recordSnap r.cls r.tick (ringStore r (countClass r.cls d))) d

/-- The site that a record attributes its attempt's failure to (R490) (DEDUCED, unsafe: notes/assumptions/99.md). -/
def recordSite (d : Dev) (r : ErrRec) : Option Nat :=
  if [0x03, 0x04, 0x06, 0x0D].contains r.cls && r.kind == 1 then some (r.unit % 16384)
  else if r.cls = 0x09 ∧ 0x10 ≤ r.synd % 256 ∧ r.synd % 256 ≤ 0x14 ∧ d.rdF (SEQ_FAULT_TILE r.unit) 31 16 = 1 then
    let e := planEntry d (d.rdF (SEQ_FAULT_TILE r.unit) 13 0)
    if entryValid e then some (entrySite e) else none
  else none

/-- The first record that withholds an attempt's commit is its attributed record (R490) (DEDUCED, unsafe: notes/assumptions/99.md). -/
def attribute_ (r : ErrRec) (d : Dev) : Dev :=
  if r.withheld && r.opValid then
    match d.strm.beats.find? fun b => b.stream == r.stream && b.tag == r.tag with
    | some b =>
      match kvGet? d.flt.attributed r.stream with
      | some a => if a.attempt = b.attempt then d
          else d.modFlt fun f => { f with attributed := kvPut f.attributed r.stream { attempt := b.attempt, site := recordSite d r, linkUe := r.cls == 0x0D } }
      | none => d.modFlt fun f => { f with attributed := kvPut f.attributed r.stream { attempt := b.attempt, site := recordSite d r, linkUe := r.cls == 0x0D } }
    | none => d
  else d

/-- A STALE_DROP record whose source is a DEAD site counts a ghost (R503). -/
def ghost (r : ErrRec) (d : Dev) : Dev :=
  if r.cls = 0x05 ∧ d.flt.siteState.any (fun e => e.2 == 5 && d.tileId e.1 == r.synd % 16384 && d.tileGen e.1 == r.synd / 2 ^ 14 % 256) then
    d.bump FLOOR_GHOST_COUNT
  else d

/-- A fault recorded at the spare of a trial during its refill: the next spare takes its place (R502). -/
def spareFault (r : ErrRec) (d : Dev) : Dev × List MemWrite :=
  match d.flt.trial with
  | some t =>
    if t.step = 5 ∧ r.kind = 1 ∧ r.unit % 16384 = t.spare ∧ r.cls ∈ [0x03, 0x04, 0x06, 0x0D] then trialNextSpare 0 t d else (d, [])
  | none => (d, [])

/-- The oldest detected record is stored, or suppressed by the budget; in both cases it acts on counters,
classification and snapshot triggers (R485, R486) (DEDUCED, unsafe: notes/assumptions/99.md). -/
def storeRecord (d : Dev) : Dev × List MemWrite :=
  match d.flt.pendingRecords with
  | [] => (d, [])
  | r :: rest =>
    let d := budgetEnd (d.modFlt fun f => { f with pendingRecords := rest })
    let d := countClass r.cls d
    let n := kvGetD d.flt.msStored 0 r.cls
    let d := if n < d.rdF FLT_BUDGET 7 0 then ringStore r (d.modFlt fun f => { f with msStored := kvPut f.msStored r.cls (n + 1) })
      else (d.modFlt fun f => { f with msSuppressed := kvPut f.msSuppressed r.cls (kvGetD f.msSuppressed 0 r.cls + 1) }).bump FLT_SUPPRESSED
    let d := ghost r (attribute_ r d)
    spareFault r (recordSnap r.cls r.tick d)

/-! ### Pewter pairs (R489) -/

/-- The two cores of a pair disagree. How many services move is a free value (DESIGN CHOICE, safe: notes/assumptions/77.md). -/
def pairOut (p : Nat) (d : Dev) : Dev :=
  if !(workingPairs d).contains p then d
  else
    let hour := usTicks 3600000000
    let ts := d.time.tb :: (kvGetD d.flt.pairTicks [] p).filter fun t => decide (d.time.tb ≤ t + hour)
    let retired := decide (3 ≤ ts.length)
    let d := breakLocksOf (0x10 + 2 * p) d
    let d := d.modFlt fun f => { f with
      pairTicks := kvPut f.pairTicks p ts, pairsOut := setIns f.pairsOut p
      pairsRetired := if retired then setIns f.pairsRetired p else f.pairsRetired }
    let (v, d) := d.free
    moduleHealth (d.record 0x18 10 p (v % 256 + b2n retired * 2 ^ 8))

/-- A pair rejoins after its self-test. -/
def pairRejoin (p : Nat) (d : Dev) : Dev :=
  if d.flt.pairsOut.contains p && !d.flt.pairsRetired.contains p then
    moduleHealth (d.modFlt fun f => { f with pairsOut := setDel f.pairsOut p })
  else d

/-! ### Ibex (R505 to R509) -/

/-- FS_3 of a field. -/
def fs3 (f : Nat) : Nat := 4 * f + 3

/-- A valid program that a stream which is not FREE names has FS_3 of the field in its mask (R506). -/
def fs3Used (d : Dev) (f : Nat) : Bool :=
  (openStreams d).any fun n => progValid d (strmProg d n) && (progMask d (strmProg d n)).testBit (fs3 f)

/-- A write of IBEX_CTRL (R506, R509). START reads 1 until ABORT is written, ABORT until START is: the spec does not say
when the bits fall (DESIGN CHOICE, unsafe: notes/assumptions/107.md). -/
def ibexCtrl (agent : Nat) (data : Word) (d : Dev) : Dev :=
  let f := fld data 3 0
  let start := bitOf data 8
  d.checked .flt 0x140 agent
    (d.baseChecks agent .flt ++
     [(.licence, start && !licensed d 0x060), (.busy, start && (d.flt.ibexRun.isSome || !d.flt.ibexDue.isEmpty || d.chgState != 0)),
      (.state, start && d.rdF (FIELD_HEALTH f) 1 0 == 3 && decide (f < 12)),
      (.conflict, start && decide (f < 12) && fs3Used d f),
      (.reserved, decide (data.toNat &&& 0xFFFFFCF0 ≠ 0)), (.range, decide (11 < f))])
    fun d =>
      let d := d.wrF FLT_IBEX_CTRL 3 0 f
      let d := if start then ibexMakeDue f (d.wrF FLT_IBEX_CTRL 9 8 1) else d
      if bitOf data 9 then ibexEnd 5 (d.wrF FLT_IBEX_CTRL 9 8 2) else d

/-- IBEX_PERIOD hours since the field's last slice (R505). -/
def ibexPeriod (f : Nat) (d : Dev) : Dev :=
  let h := d.rdF FLT_IBEX_PERIOD 7 0
  if h ≠ 0 ∧ kvGetD d.flt.ibexTick 0 f + usTicks (3600000000 * h) ≤ d.time.tb then ibexMakeDue f d else d

/-- Streams whose program includes a sequencer of a field. -/
def fieldStreams (d : Dev) (f : Nat) : List Nat := strmsOf d (fieldSeqs f)

/-- A slice may start (R505) (DEDUCED, unsafe: notes/assumptions/76.md). -/
def ibexMayStart (d : Dev) (f : Nat) : Bool :=
  !(d.strm.beats.any fun b => b.seqs.any fun q => q / 4 == f) &&
    !((fieldStreams d f).any fun n => dlEn d n && [sWaiting, sReady, sRunning].contains (d.strmSt n) && hasWork d n) &&
    d.chgState == 0 && !d.flt.fieldFailed.contains f && !inReset d

/-- Bound sites of a field. -/
def boundSites (d : Dev) (f : Nat) : List Nat := fieldSitesIn d f 2 ++ fieldSitesIn d f 3

/-- The set point that the field has at the common OPP (R449). -/
def ibexBase (d : Dev) (f : Nat) : Nat := vset { d with pwr := { d.pwr with ibexMv := kvDel d.pwr.ibexMv f } } f

/-- The operating point of step k, and FS_3's exact-fill command (R507 step 4). What the command word names beside the
image is not stated: entry 0, no arguments (DEDUCED, unsafe: notes/assumptions/76.md). -/
def ibexPoint (f k : Nat) (d : Dev) : Dev :=
  let v := ibexBase d f + d.rdF FLT_IBEX_CFG 23 16 - 5 * k
  let d := vsetRefresh f { d with pwr := { d.pwr with ibexMv := kvPut d.pwr.ibexMv f (min 900 v) } }
  let d := (boundSites d f).foldl (fun d s => if d.tileFenced s then d else d.wrF (TILE_FLAGS s) 9 9 0) d
  d.modFab fun x => { x with cmds := x.cmds ++ [(fs3 f, { words := List.replicate 8 0 })] }

/-- Steps 1 to 3 of a slice (R507): quarantine, the image into FS_3's inactive bank, the subscriptions, the field's
single-field point; then the first operating point (DEDUCED, unsafe: notes/assumptions/76.md). -/
def ibexStart (x : ExtMem) (d : Dev) : Dev :=
  if d.flt.ibexRun.isSome then d
  else
    match d.flt.ibexDue.find? (ibexMayStart d) with
    | none => d
    | some f =>
      let q := fs3 f
      let digests : KV Nat := (Page.field f :: (fieldSeqs f).map .seq).map fun p => (p.base, digestOf d p)
      let sites := boundSites d f
      let run : IbexRun := { field := f, savedGroups := sites.map fun s => (s, d.rd (TILE_GROUP s)), savedBank := d.rd (SEQ_BANK_CTRL q), digests }
      let d := d.modFlt fun y => { y with ibexDue := y.ibexDue.filter (· != f), ibexRun := some run }
      let d := d.wrF (FIELD_HEALTH f) 4 4 1
      let d := d.wrN FLT_IBEX_STATUS (2 + f * 2 ^ 8)
      let base := base39 d FLT_IBEX_IMAGE_LO FLT_IBEX_IMAGE_HI + 0x10000 * f
      let b := 1 - activeBank d q
      let d := d.modSeq q fun y => { y with
        imem := kvMerge (y.imem.filter fun (e : Nat × Word) => e.1 / 16384 != b)
          (((leWords (x.read base 65536)).zipIdx.map fun (e : Word × Nat) => (16384 * b + e.2, e.1)).filter fun (e : Nat × Word) => e.2 != 0) }
      let d := d.setActive (.seq q) (0x184 + 4 * b) (w32 (1 + 1024 * 2 ^ 16))
      let d := swapNow q d
      let m := d.rdF (SEQ_GROUP_MATCH q) 5 0
      let d := sites.foldl (fun d s => d.wr (TILE_GROUP s) (setFld (setFld (setBit (d.rd (TILE_GROUP s)) 31 true) 9 8 3) 5 0 m)) d
      let d := qFieldWrite 0x10 (w32 (f + d.rdF FLT_IBEX_CFG 4 0 * 2 ^ 8 + 2 ^ 31)) d
      ibexPoint f 0 d

/-- The exact-fill command of the step has ended on FS_3. -/
def ibexIdle (d : Dev) (f : Nat) : Bool :=
  let x := d.seq (fs3 f)
  x.queue.isEmpty && x.inflight.isEmpty && x.cur.isNone && !d.fab.cmds.any fun e => e.1 == fs3 f

/-- A margin step completes (R507 step 4, R508, R509): `void_` when a tile slipped, held, throttled or stretched and the
machine has not seen it (DEDUCED, unsafe: notes/assumptions/76.md). -/
def ibexStep (void_ : Bool) (d : Dev) : Dev :=
  match d.flt.ibexRun with
  | none => d
  | some r =>
    let f := r.field
    if 4 ≤ d.rdF FLT_IBEX_STATUS 2 0 || !ibexIdle d f then d
    else
      let d := d.wrF FLT_IBEX_STATUS 7 0 (3 + r.k * 2 ^ 4)
      if void_ || r.slipped || decide (d.rdF (PWR_FIELD_PWR f) 14 10 < 16) || d.pwr.stretched.contains f then
        if r.voided then ibexEnd 4 d
        else ibexPoint f r.k (d.modFlt fun y => { y with ibexRun := some { r with voided := true, slipped := false } })
      else
        let bad := (boundSites d f).filter fun s => bitOf (d.rd (TILE_FLAGS s)) 9
        let d := bad.foldl (fun d s => d.wrF (TILE_FLAGS s) 9 9 0) d
        let failed := bad.foldl (fun m s => if (kvGet? m s).isSome then m else kvPut m s r.k) r.failed
        let r := { r with failed, voided := false }
        let d := d.modFlt fun y => { y with ibexRun := some r }
        if r.k = d.rdF FLT_IBEX_CFG 11 8 ∨ 8 < failed.length then d.wrF FLT_IBEX_STATUS 2 0 4
        else
          let d := d.modFlt fun y => { y with ibexRun := some { r with k := r.k + 1 } }
          ibexPoint f (r.k + 1) (d.wrF FLT_IBEX_STATUS 7 4 (r.k + 1))

/-- The number of steps, from step 0 on, that every bound tile passed. -/
def ibexPassedSteps (r : IbexRun) : Nat := r.failed.foldl (fun n e => min n e.2) (if r.verdict = 0 then r.k + 1 else r.k)

/-- Tiles that fail the slice (R508): those that failed at a step up to MIN_PASS. -/
def ibexFailed (d : Dev) (r : IbexRun) : List Nat := (r.failed.filter fun e => decide (e.2 ≤ d.rdF FLT_IBEX_CFG 15 12)).map (·.1)

/-- The trim of a field changes (12_power_thermal.md R468). -/
def raiseTrim (f n : Nat) (d : Dev) : Dev :=
  let t := min (60 : Int) (kvGetD d.pwr.trim 0 f + n)
  let d := trimsToFlash (vsetRefresh f { d with pwr := { d.pwr with trim := kvSetD d.pwr.trim 0 f t, trimTick := kvPut d.pwr.trimTick f d.time.tb } })
  if t = 60 then ((d.wr PWR_FLAGS (setBit (d.rd PWR_FLAGS) 0 true)).record 0x16 11 f 5).alert 1 else d

/-- Step 5 of a slice: the point, the subscriptions and the bank go back (DEDUCED, unsafe: notes/assumptions/76.md). -/
def ibexRestore (r : IbexRun) (d : Dev) : Dev :=
  let f := r.field
  let q := fs3 f
  let d := vsetRefresh f { d with pwr := { d.pwr with ibexMv := kvDel d.pwr.ibexMv f } }
  let d := qFieldWrite 0x10 (setBit (d.rd CLK_Q_FIELD) 31 false) d
  let d := if d.flt.fieldFailed.contains f then d else seamsRelockField f d
  let d := d.modFab fun x => { x with cmds := x.cmds.filter fun e => e.1 != q }
  let d := r.savedGroups.foldl (fun d e => if siteState d e.1 = 2 ∨ siteState d e.1 = 3 then d.wr (TILE_GROUP e.1) e.2 else d) d
  if activeBank d q = fld r.savedBank 0 0 ∨ d.flt.fieldFailed.contains f then d else swapNow q d

/-- Step 6: the hold is released and the verdict stored (R507, R508) (DEDUCED, unsafe: notes/assumptions/76.md). -/
def ibexRestoreDone (d : Dev) : Dev × List MemWrite :=
  match d.flt.ibexRun with
  | none => (d, [])
  | some r =>
    if d.rdF FLT_IBEX_STATUS 2 0 ≠ 4 then (d, [])
    else
      let f := r.field
      let bad := ibexFailed d r
      let verdict := if r.verdict ≠ 0 then r.verdict else if bad.isEmpty then 1 else if bad.length ≤ 8 then 2 else 3
      let passed := ibexPassedSteps r
      let margin := 5 * (passed - 1)
      let nBad := min 255 bad.length
      let d := (ibexRestore r d).wrF (FIELD_HEALTH f) 4 4 0
      let d := d.modFlt fun y => { y with ibexRun := none, ibexTick := kvPut y.ibexTick f d.time.tb }
      let next := d.flt.ibexDue.head?
      let d := d.wrN FLT_IBEX_STATUS (b2n next.isSome + r.k * 2 ^ 4 + (next.getD f) * 2 ^ 8 + verdict * 2 ^ 12)
      let d := d.wrN FLT_IBEX_RESULT (margin % 256 + nBad * 2 ^ 8 + bad.headD 0 * 2 ^ 16)
      let d := d.bump FLT_IBEX_COUNT
      let d := d.record 0x1C 11 f (verdict + r.k * 2 ^ 4 + nBad * 2 ^ 8 + margin % 256 * 2 ^ 16)
      let d := if r.verdict = 0 ∧ d.rdF FLT_IBEX_CFG 15 12 + 1 < passed then
          d.modFlt fun y => { y with ibexPassed := (fieldSitesIn d f 5).foldl setIns y.ibexPassed }
        else d
      if verdict = 1 then
        let held := fieldSitesIn d f 6
        let d := held.foldl (fun d s => healthRecord 0x0D s (d.tileGen s) 0 ((setSite s 1 d).setFence (.tile s) false)) d
        if held.isEmpty then (d, []) else publish (d.modFlt fun y => { y with serving := held.foldl kvDel y.serving })
      else if verdict = 2 then
        let more := (bad.filter fun s => !d.flt.trialQueue.any fun e => e.1 == s).map fun s => (s, 2)
        (showQueue (d.modFlt fun y => { y with trialQueue := y.trialQueue ++ more }), [])
      else if verdict = 3 then (raiseTrim f 10 d, [])
      else (d, [])

/-! ### Commands -/

/-- ERROR_RECORD_STORE (R485). -/
def execErrorRecordStore (s : State) : Result := onDevMem (fun _ d => storeRecord d) s
/-- RING_BUDGET_END (R486). -/
def execRingBudgetEnd (s : State) : Result := onDev budgetEnd s
/-- PEWTER_DISAGREE (R489). -/
def execPewterDisagree (p : Nat) (s : State) : Result := guardUnit (decide (p < 4)) (onDev (pairOut p) s)
/-- PEWTER_PAIR_REJOIN (R489). -/
def execPewterPairRejoin (p : Nat) (s : State) : Result := guardUnit (decide (p < 4)) (onDev (pairRejoin p) s)
/-- START (R506). -/
def execIbexStart (agent f : Nat) (s : State) : Result := onDev (ibexCtrl agent (w32 (f % 16 + 2 ^ 8))) s
/-- ABORT (R509). -/
def execIbexAbort (agent : Nat) (s : State) : Result := onDev (fun d => ibexCtrl agent (w32 (d.rdF FLT_IBEX_CTRL 3 0 + 2 ^ 9)) d) s
/-- IBEX_PERIOD_DUE (R505). -/
def execIbexPeriodDue (f : Nat) (s : State) : Result := guardUnit (unitField f) (onDev (ibexPeriod f) s)
/-- IBEX_SLICE_START (R507). -/
def execIbexSliceStart (s : State) : Result := onDevRead ibexStart s
/-- IBEX_STEP (R507, R509). -/
def execIbexStep (void_ : Bool) (s : State) : Result := onDev (ibexStep void_) s
/-- IBEX_RESTORE_DONE (R507, R508). -/
def execIbexRestoreDone (s : State) : Result := onDevMem (fun _ d => ibexRestoreDone d) s

end Sys2Proof.Machine
end

