-- ==== Sys2Proof/Machine/Boot.lean ====
section
/-! DEFINITION. Start-up, the boot window and its requests, licences, authenticated requests, partial resets and what the host
link does at reset (15_bringup_reset_licences.md R564 to R599, 16_interfaces_pins.md R601 to R604, 17_electrical_mechanical.md
R641). -/

namespace Sys2Proof.Machine

/-! ### The boot flash (R567) -/

/-- `n` bytes of the flash; an erased byte reads 0xFF (PRESUMED, unsafe: notes/assumptions/90.md). -/
def flashRead (fl : KV Byte) (a n : Nat) : List Byte := denseD (0xFF : Byte) n a (fl.dropWhile fun e => decide (e.1 < a))

/-- Bytes programmed into the flash (PRESUMED, unsafe: notes/assumptions/90.md). -/
def flashWrite (a : Nat) (bs : List Byte) (fl : KV Byte) : KV Byte :=
  kvMerge (fl.filter fun e => decide (e.1 < a) || decide (a + bs.length ≤ e.1))
    ((bs.zipIdx.map fun e => (a + e.2, e.1)).filter fun e => e.2 != 0xFF)

def programFlash (a : Nat) (bs : List Byte) (d : Dev) : Dev := d.modBoot fun b => { b with flash := flashWrite a bs b.flash }

def bytesAt (bs : List Byte) (a n : Nat) : List Byte := (bs.drop a).take n
def numAt (bs : List Byte) (a n : Nat) : Nat := leNat (bytesAt bs a n)
def zeroAt (bs : List Byte) (a n : Nat) : Bool := (bytesAt bs a n).all (· == 0)

def fwHeader (slot : Nat) : Nat := 0x1000 * slot
def fwImage (slot : Nat) : Nat := 0x10000 + 0x800000 * slot
def stagingAt : Nat := 0x1100000
def stagingSize : Nat := 0x801000
def licAt (copy : Nat) : Nat := 0x1010000 + 0x1000 * copy
def boardAt : Nat := 0x1020000

/-! ### Firmware (R568, R569) -/

/-- Why a header and its image do not verify: 0 they do, 1 format, 2 signature, 3 rollback, 4 image hash. -/
def fwCause (fl : KV Byte) (hdr img : Nat) : Nat :=
  let h := flashRead fl hdr 256
  let n := numAt h 8 4
  if numAt h 0 4 ≠ 0x46574355 ∨ numAt h 4 2 ≠ 1 ∨ !zeroAt h 6 2 ∨ n < 65536 ∨ 8388608 < n ∨ !zeroAt h 14 2 ∨ !zeroAt h 64 96 then 1
  else if !ecdsaOk Config.firmwareKey (h.take 160) (h.drop 160) then 2
  else if numAt h 12 2 < Config.firmwareMin then 3
  else if sha384 (flashRead fl img n) ≠ bytesAt h 16 48 then 4
  else 0

def fwVersion (fl : KV Byte) (hdr : Nat) : Nat := numAt (flashRead fl hdr 16) 12 2

/-- A BOOT record (R596). -/
def bootRecord (event cause value : Nat) (d : Dev) : Dev := d.record 0x1E 0 0 (event + cause % 256 * 2 ^ 8 + value % 65536 * 2 ^ 16)

/-- A slot is tried; one that does not verify is recorded. -/
def fwTry (slot : Nat) (d : Dev) : Dev × Bool :=
  match fwCause d.boot.flash (fwHeader slot) (fwImage slot) with
  | 0 => (d, true)
  | c => (bootRecord 0x01 c slot d, false)

/-- BOOT.FW of the firmware that runs (R597). -/
def fwShow (slot source : Nat) (fallback : Bool) (version : Nat) (d : Dev) : Dev :=
  d.wrN BOOT_FW (slot + source * 2 + b2n fallback * 4 + version * 2 ^ 16)

/-- The ROM looks for firmware in the flash (R566, R569): the slot that runs, where one verifies. -/
def fwSelect (d : Dev) : Dev × Bool :=
  if d.rdF BOOT_STRAPS 1 0 = 2 then (d, false)
  else
    let v := fwVersion d.boot.flash
    let s := if v (fwHeader 0) < v (fwHeader 1) then 1 else 0
    let (d, ok) := fwTry s d
    if ok then (fwShow s 0 false (v (fwHeader s)) d, true)
    else
      let (d, ok) := fwTry (1 - s) (d.wrF BOOT_FW 2 2 1)
      if ok then (fwShow (1 - s) 0 true (v (fwHeader (1 - s))) d, true) else (d, false)

/-! ### Licences (R574 to R577) -/

/-- The cause for which a licence blob does not verify (R575); 0 where it does. -/
def licCause (d : Dev) (b : List Byte) : Nat :=
  let l := numAt b 6 2
  if numAt b 0 4 ≠ 0x4C494358 then 1
  else if numAt b 4 2 ≠ 1 ∨ l < 192 ∨ 4096 < l ∨ l % 8 ≠ 0 then 2
  else if !ecdsaOk Config.licenceKey (b.take (l - 96)) (bytesAt b (l - 96) 96) then 3
  else if numAt b 8 16 ≠ d.rd64 (DEV_ECID 0) + 2 ^ 64 * d.rd64 (DEV_ECID 2) then 4
  else if numAt b 32 2 < Config.licenceMin then 5
  else if numAt b 24 1 = 0 ∨ 3 < numAt b 24 1 ∨ !zeroAt b 25 3 ∨ !zeroAt b 34 6 ∨ 3 < numAt b 40 8 ∨
      ((numAt b 40 1).testBit 1 ∧ zeroAt b 48 48) then 6
  else 0

def licBlob (d : Dev) (copy : Nat) : List Byte := flashRead d.boot.flash (licAt copy) 4096
def licSerial (b : List Byte) : Nat := numAt b 28 4

/-- SERIAL of the newest verifying copy in flash. -/
def flashSerial (d : Dev) : Nat :=
  ([0, 1].filter fun c => licCause d (licBlob d c) == 0).foldl (fun m c => max m (licSerial (licBlob d c))) 0

/-- The default OPP table of a profile (11_clocking.md R432): OPP, DIV, mV. -/
def oppDefaults (profile : Nat) : List (Nat × Nat × Nat) :=
  match profile with
  | 1 => [(7, 6, 720), (6, 7, 690), (5, 8, 665), (4, 9, 645), (3, 10, 630), (2, 11, 620), (1, 14, 595), (0, 16, 585)]
  | 2 => [(7, 6, 640), (6, 7, 615), (5, 8, 595), (4, 9, 580), (3, 10, 570), (2, 11, 560)]
  | _ => [(7, 6, 800), (6, 7, 755), (5, 8, 720), (4, 9, 690), (3, 10, 670), (2, 12, 640), (1, 14, 620), (0, 16, 605)]

/-- A device capability's word 1 under a licence (02_control_model.md R70). -/
def capLicensed (profile features i : Nat) : Nat :=
  let id := capIds.getD i 0
  let on := if id = 0x030 then features.testBit 0 else if id = 0x050 then features.testBit 1 else true
  let par := if id = 0x011 then (if profile = 2 then 4 else 64) else if id = 0x012 then (if profile = 2 then 8 else 128)
    else if id = 0x040 ∨ id = 0x041 then 8 else 0
  b2n on * 2 ^ 31 + par

/-- What the licence in force sets (R576) (DESIGN CHOICE, unsafe: notes/assumptions/7.md). -/
def licApply (copy : Nat) (b : List Byte) (d : Dev) : Dev :=
  let p := numAt b 24 1
  let f := numAt b 40 8
  let d := ((d.wrF LIC_STATUS 1 0 (1 + 2 * copy)).wrN LIC_PROFILE p).wrN LIC_SERIAL (licSerial b)
  let d := (d.wrN LIC_FEATURES_LO f).wrN LIC_FEATURES_HI (f / 2 ^ 32)
  let d := d.wrF LIC_SEC_VERSION 15 0 (numAt b 32 2)
  let d := (List.range 10).foldl (fun d i => d.wrN (DEV_CAP (2 * i + 1)) (capLicensed p f i)) d
  let d := (oppDefaults p).foldl (fun d e => d.wrN (CLK_OPP e.1) (e.2.1 + e.2.2 * 2 ^ 16 + 2 ^ 31)) d
  let d := d.wrN CLK_VCO (match p with | 1 => 6600 | 2 => 4500 | _ => 8100)
  let d := (d.wrF PWR_SUST_CAP 15 0 (licenceWatts d)).wrN PWR_HERD_DEFAULT (licenceWatts d)
  if p = 3 then d.wrN FLT_IBEX_CFG 0x282C06 else d

/-- Step 4's check of both copies (R575): whether one takes effect. -/
def licSelect (d : Dev) : Dev × Bool :=
  let b0 := licBlob d 0
  let b1 := licBlob d 1
  let c0 := licCause d b0
  let c1 := licCause d b1
  let d := (d.wrN LIC_STATUS (c0 * 2 ^ 8 + c1 * 2 ^ 12)).wrN LIC_FLASH_SERIAL (flashSerial d)
  if c0 ≠ 0 ∧ c1 ≠ 0 then (bootRecord 0x02 c0 c1 d, false)
  else if c0 = 0 ∧ (c1 ≠ 0 ∨ licSerial b1 ≤ licSerial b0) then (licApply 0 b0 d, true)
  else (licApply 1 b1 d, true)

/-! ### The board configuration block (R567, R580, R601) -/

/-- The block's bytes but those of its CRC; where hash and CRC stand in it is the part's own (Config) (DESIGN CHOICE, safe: notes/assumptions/89.md). -/
def boardCrcAt : Nat := Config.boardCrcAt % 65529
def boardOk (b : List Byte) : Bool := crc64 (b.take boardCrcAt ++ b.drop (boardCrcAt + 8)) == numAt b boardCrcAt 8
def boardBlock (d : Dev) : List Byte := flashRead d.boot.flash boardAt 65536

/-- ST words of the PMB page in the block's order. -/
def pmbWords : List Nat := [PMB_BUS_CFG] ++ (List.range 18).map PMB_RAIL ++ [PMB_SLEW, PMB_PHASE_IMAX, PMB_VMEM_MV]

/-- PCIE_MODE follows the PMB values (R601). -/
def bifurcated (d : Dev) : Bool := let b := boardBlock d; boardOk b && (numAt b (4 * pmbWords.length) 4).testBit 0

def boardApply (b : List Byte) (d : Dev) : Dev :=
  let d := pmbWords.zipIdx.foldl (fun d e => d.wrN e.1 (numAt b (4 * e.2) 4 &&& configMask .pmb (e.1 % 4096))) d
  d.modBoot fun x => { x with boardKey := bytesAt b (Config.boardHashAt % 65489) 48 }

/-! ### The host configuration block (R573, R604) -/

def windowWord (d : Dev) (a : Nat) : Nat := leNat ((List.range 4).map fun i => kvGetD d.boot.window 0 (a + i))
def windowPut (a v : Nat) (d : Dev) : Dev :=
  d.modBoot fun b => { b with window := (List.range 4).foldl (fun w i => kvSetD w 0 (a + i) (BitVec.ofNat 8 (v >>> (8 * i)))) b.window }

/-- The block is applied while the host link is up. A misaligned mirror address is not taken. -/
def hostCfg (d : Dev) : Dev × Bool :=
  if !hostUp d then (d, true)
  else if windowWord d 0x40 % 4096 ≠ 0 then (d, false)
  else
    let d := d.setActive .flt (FLT_MIRROR_LO % 4096) (w32 (windowWord d 0x40))
    let d := d.setActive .flt (FLT_MIRROR_HI % 4096) (w32 (windowWord d 0x44))
    let d := d.setActive .flt (FLT_MIRROR_CTRL % 4096) (w32 (windowWord d 0x48 % 2))
    let d := d.wrN PCIE_INT_EN (windowWord d 0x4C % 32)
    (d.wrN PCIE_REL_RANGE (windowWord d 0x50 &&& 0x3FFF3FFF), true)

/-! ### The cold start (R581 to R585) -/

/-- The device in cold reset (R565): what the flash, the management target's pins and TAP hold stays; the trip of R472 stays
latched (DESIGN CHOICE, unsafe: notes/assumptions/2.md). -/
def coldReset (d : Dev) : Dev :=
  { freeCtr := d.freeCtr, tx := d.tx, held := true
    pwr := { tripLatched := d.pwr.tripLatched }
    boot := { flash := d.boot.flash, store := d.boot.store, rstN := d.boot.rstN, vaonLow := d.boot.vaonLow }
    iface := { perstLow := d.iface.perstLow, trstLow := d.iface.trstLow, jtagIr := d.iface.jtagIr, cells := d.iface.cells } }

def stage (n : Nat) (d : Dev) : Dev := { (d.wrF BOOT_STAGE 7 0 n) with tx := d.tx ++ [.console true n] }

/-- The start-up stops at a step (R583). -/
def bootStop (step : Nat) (d : Dev) : Dev :=
  (bootRecord 0x0C step 0 (d.modBoot fun b => { b with stop := true })).faultCond 5 true

/-- A new nonce (R578). -/
def newNonce (d : Dev) : Dev :=
  let (a, d) := d.free
  let (b, d) := d.free
  (d.wrN (BOOT_AUTH_NONCE 0) a).wrN (BOOT_AUTH_NONCE 1) b

/-- Pewter programs the regulator of an enabled rail over PMBus (12_power_thermal.md R447, R474): CLEAR_FAULTS,
ON_OFF_CONFIG, IOUT_OC_FAULT_LIMIT, VOUT_COMMAND, OPERATION. The spec names neither their order nor their values: a value
is free, but VOUT_COMMAND carries the set point of a rail that has one (PRESUMED, unsafe: notes/assumptions/116.md). -/
def programRail (r : Nat) (d : Dev) : Dev :=
  if bitOf (d.rd (PMB_RAIL r)) 31 then
    let (vs, d) := d.freeN 4
    let volts := if r < 14 then vset d r else vs.getD 2 0
    { d with tx := d.tx ++ [.regulator r pmClearFaults 0, .regulator r pmOnOffConfig (vs.getD 0 0),
      .regulator r pmOcFaultLimit (vs.getD 1 0), .regulator r pmVoutCommand volts, .regulator r pmOperation (vs.getD 3 0)] }
  else d

/-- Step 5: rails in order; one that does not confirm is a rail fault (R475). -/
def bootRails (x : BootFacts) (d : Dev) : Dev :=
  let d := { d with pwr := { d.pwr with
    railsOn := List.range 18, baseMv := oppMv (d.rd (CLK_OPP 7)), trim := d.boot.store.trims } }
  let order := [17, 12, 13] ++ List.range 12
  let d := (List.range 14).foldl (fun d r => d.wrF (PMB_RAIL_STAT r) 11 0 (vset d r))
    (vsetRefreshAll (order.foldl (fun d r => programRail r d) d))
  ((15 :: 16 :: order).filter x.rails.contains).foldl (fun d r =>
    railFault r 1 (List.range 8) d) d

/-- The SerDes ports of a domain fail with it (R454, R583). -/
def linkDomainFail (n : Nat) (d : Dev) : Dev := (linkPorts n).foldl (fun d c => serdesFail c 2 d) d

/-- Step 6: the domains come on in their groups (R454); one that does not reach its voltage is left off. A field whose service
domain is off keeps its core domains off (R453). -/
def bootDomains (x : BootFacts) (d : Dev) : Dev :=
  let off := fun i => x.domains.contains i || (decide (i < 144) && x.domains.contains (144 + i / 12))
  let d := (List.range 6).foldl (fun d k =>
    d.wrN (PWR_DOM_ON k) ((List.range 32).foldl (fun m j => if 32 * k + j < 168 ∧ !off (32 * k + j) then m + 2 ^ j else m) 0)) d
  let bad := (x.domains.filter (· < 168)).foldl setIns []
  let d := d.wrN FLOOR_BAD_DOMAINS (bad.length % 256)
  let d := bad.foldl (fun d i => d.record 0x1E 5 i (0x03 + i * 2 ^ 16)) d
  bad.foldl (fun d i =>
    if i < 144 then d
    else if i < 156 then fieldFailure (i - 144) 4 d
    else if i < 164 then portFail (i - 156) d
    else linkDomainFail (i - 164) d) d

/-- Steps 6 and 7: the field PLLs; one that does not lock fails its field. -/
def bootPlls (x : BootFacts) (d : Dev) : Dev :=
  let ok := fun f => !x.plls.contains f && !d.flt.fieldFailed.contains f
  let m := (List.range 12).foldl (fun m f => if ok f then m + 2 ^ f else m) 0
  let d := (d.wrN CLK_FIELD_PLL (m + m * 2 ^ 16)).wrN TIME_DIST_STATUS m
  (below 12 x.plls.contains).foldl (fun d f => fieldFailure f 4 d) d

/-- Step 8: one segment's latency (07_fabric.md R303). -/
def bootSeam (x : BootFacts) (d : Dev) (g : Nat) : Dev :=
  let f := g / 2
  let south := g % 2 == 1
  if (if south then decide (9 ≤ f) else f % 3 == 2) then d
  else
    let other := if south then f + 3 else f + 1
    let m := x.seams.getD g 0
    let l := max 5 (m + 2)
    let up := decide (l ≤ 9) && !d.flt.fieldFailed.contains f && !d.flt.fieldFailed.contains other
    let d := d.wrN (seamReg f south) (l % 16 + min 15 m * 2 ^ 4 + b2n up * 2 ^ 8 + b2n (decide (9 < l)) * 2 ^ 10 + 2 ^ 31)
    if 9 < l then fieldFailure other 2 d else d

/-- Step 9: the memory ports; retired pages are applied again (09_external_memory.md R382) (DEDUCED, unsafe: notes/assumptions/93.md). -/
def bootMem (x : BootFacts) (d : Dev) : Dev :=
  let d := (below 8 x.memPorts.contains).foldl (fun d m => portFail m (bootRecord 0x04 9 m d)) d
  let d := (List.range 8).foldl (fun d m =>
    if bitOf (d.rd (MEMP_STATUS_MP m)) 1 then d
    else (d.wrF (MEMP_STATUS_MP m) 0 0 1).wrF (MEMP_STATUS_MP m) 8 8 (b2n (d.rdF LIC_PROFILE 1 0 = 2))) d
  let d := d.boot.store.pages.foldl (fun d e => (d.modPort e.1 fun p => { p with remap := e.2 }).wrF (MEMP_RETIRED e.1) 12 0 e.2.length) d
  d.wrF BOOT_TRAIN 7 0 ((List.range 8).foldl (fun m i => if bitOf (d.rd (MEMP_STATUS_MP i)) 1 then m else m + 2 ^ i) 0)

def linkUp (c : Nat) (d : Dev) : Dev :=
  let d := d.wrF (linkStatus c) 0 0 1
  if c < 0x30 then d else d.wrF (linkStatus c) 15 8 0xFF

/-- Step 10: the sensor and spur ports (16_interfaces_pins.md R627) (DEDUCED, unsafe: notes/assumptions/93.md). -/
def bootLinks (x : BootFacts) (d : Dev) : Dev :=
  let all := [0, 1, 2, 3].flatMap linkPorts
  let d := all.foldl (fun d c =>
    if bitOf (d.rd (linkStatus c)) 1 then d
    else if x.links.contains c then (bootRecord 0x04 10 c d).record 0x1D 8 c (0x03 + 10 * 2 ^ 8 + 2 ^ 16)
    else linkUp c d) d
  let ok := fun n => (linkPorts n).all fun c => bitOf (d.rd (linkStatus c)) 0
  d.wrF BOOT_TRAIN 11 8 ((List.range 4).foldl (fun m n => if ok n then m + 2 ^ n else m) 0)

/-- Sites that steps 6, 11 and 12 found bad. -/
def bootBadSites (x : BootFacts) : List Nat := ((x.sites ++ x.logic ++ x.routers).filter (· < 13824)).foldl setIns []

/-- Steps 11 and 12: the self-tests of the sites; a failed router is fenced (07_fabric.md R284) (DEDUCED, unsafe: notes/assumptions/92.md). -/
def bootBist (x : BootFacts) (d : Dev) : Dev :=
  let n1 := ((x.sites.filter (· < 13824)).foldl setIns []).length
  let bad := bootBadSites x
  let n2 := bad.length - n1
  let d := if n1 = 0 then d else bootRecord 0x05 11 n1 d
  let d := if n2 = 0 then d else bootRecord 0x05 12 n2 d
  let d := x.routers.foldl (fun d s => if 13824 ≤ s then d else match addRegion s d.fab.regions with
    | some rs => d.modFab fun f => { f with regions := rs }
    | none => fieldFailure (siteField s) 1 d) d
  (d.wrN BOOT_BIST_BAD bad.length).wrF BOOT_TRAIN 15 14 3

/-- A site is excluded from binding (R584), and its state then: BAD, DEAD or HELD; a good site has none of these. -/
def siteExcluded (d : Dev) (bad : List Nat) (s : Nat) : Option Nat :=
  if d.boot.store.dead.contains s then some 5
  else if d.boot.store.held.contains s then some 6
  else if bad.contains s || routerFenced d s || !d.domOn (siteDomain s) then some 0
  else none

/-- Whether the i-th of g good sites with s spares becomes a spare (R584). -/
def isSpare (g s i : Nat) : Bool := decide (i * s / g < (i + 1) * s / g)

/-- The binding of a field's good sites (R584): for each site its state and, where it is bound, its logical ID. -/
def bindField (f : Nat) (good : List Nat) : List (Nat × Option Nat) :=
  let g := good.length
  let s := g - 1088
  (good.zipIdx.foldl (fun (r : List (Nat × Option Nat) × Nat) e =>
    if isSpare g s e.2 then ((e.1, none) :: r.1, r.2) else ((e.1, some r.2) :: r.1, r.2 + 1)) ([], 1088 * f)).1.reverse

/-- Step 13: sites classified, logical IDs bound, neighbours named (R584, 03_tile.md R122) (DEDUCED, unsafe: notes/assumptions/97.md). -/
def bootPlan (x : BootFacts) (d : Dev) : Dev :=
  let bad := bootBadSites x
  let plan : List (List Nat × List (Nat × Option Nat)) := (List.range 12).map fun f =>
    let sites := (List.range 1152).map (siteOfLocal f)
    let good := sites.filter fun s => (siteExcluded d bad s).isNone
    (sites, bindField f good)
  let bindBoot : KV Word := plan.flatMap fun p => p.2.filterMap fun e => e.2.map fun id => (id, bindWord e.1 0 true)
  let binds : KV Word := plan.foldl (fun m p => kvMerge m (p.2.map fun e =>
    (e.1, match e.2 with | some id => w32 (id + 2 ^ 31) | none => w32 (2 ^ 30)))) []
  let out : KV Nat := plan.foldl (fun m p => kvMerge m (p.1.filterMap fun s => (siteExcluded d bad s).map fun st => (s, st))) []
  let arr := (denseD (0 : Word) 13824 0 binds).toArray
  let nbr := fun (s : Nat) (i : Nat) => match nbrSite s i with
    | some n => let w := arr.getD n 0; if bitOf w 31 then [(TILE_NBR s i, w32 (fld w 13 0 + 2 ^ 30 + 2 ^ 31))] else []
    | none => []
  let words : KV Word := binds.flatMap fun (e : Nat × Word) =>
    (TILE_BIND e.1, e.2) :: (if bitOf e.2 31 then (List.range 4).flatMap (nbr e.1) else [])
  let badWords : KV Word := (out.filter fun e => e.2 == 0).map fun e => (TILE_BIND e.1, w32 (2 ^ 29))
  let states : KV Nat := kvMerge (out.filter fun e => e.2 != 0) (binds.map fun (e : Nat × Word) => (e.1, if bitOf e.2 31 then 2 else 1))
  let d := { d with regs := kvMerge d.regs (kvMerge words badWords) }
  let d := d.modFab fun y => { y with bindBoot, bindLog := [], bindDone := [], bindRt := [] }
  let d := d.modFlt fun y => { y with siteState := states }
  moduleHealth ((List.range 12).foldl (fun d f => refreshField f d) d)

/-- Step 14: Pewter's image goes into bank B of every sequencer, which then swaps and is IDLE (06_sequencers_isa.md R230) (DEDUCED, unsafe: notes/assumptions/93.md). -/
def bootSeqs (d : Dev) : Dev :=
  let img := Config.seqImage.take 16384
  let words : KV Word := (img.zipIdx.map fun e => (16384 + e.2, w32 e.1)).filter fun (e : Nat × Word) => e.2 != 0
  (List.range 48).foldl (fun d q =>
    if d.isFenced (.seq q) then d
    else
      let d := d.setSeq q { d.seq q with imem := words }
      setSt q stIdle 0 (setPc q 0 ((d.wrN (SEQ_BANK_CFG_B q) ((img.length + 1) / 2 * 2 ^ 16)).wrF (SEQ_BANK_CTRL q) 0 0 1))) d

/-- Step 15: READY (DEDUCED, unsafe: notes/assumptions/93.md). -/
def bootReady (x : BootFacts) (d : Dev) : Dev × List MemWrite :=
  let r := publish (stage 15 d)
  let d := { r.1 with up := true }
  let d := { d with time := { d.time with tb := max d.time.tb (usTicks (1000 * x.ms)) } }
  let ms := min 65535 (d.time.tb / 800000)
  let d := (d.wrF BOOT_STAGE 31 31 1).wrN BOOT_BOOT_MS ms
  let d := bootRecord 0x06 0 ms d
  let d := (hostCfg (d.intCause 4)).1
  let d := if d.boot.rstN then d else computeReset 1 (d.wrF BOOT_RESET_STATUS 1 1 1)
  (d, r.2)

/-- Steps 5 to 15, once firmware runs under a licence. -/
def bootFrom5 (x : BootFacts) (d : Dev) : Dev × List MemWrite :=
  let d := stage 5 d
  let b := boardBlock d
  if !boardOk b then (bootStop 5 d, [])
  else
    let d := bootRails x (limitsRefresh (boardApply b d))
    let d := bootPlls x (bootDomains x (stage 6 d))
    let d := (List.range 24).foldl (bootSeam x) (stage 8 d)
    let d := d.wrF BOOT_TRAIN 13 13 (b2n ((List.range 24).all fun g => let w := d.rd (seamReg (g / 2) (g % 2 == 1)); !bitOf w 31 || bitOf w 8))
    let d := bootLinks x (bootMem x (stage 9 d))
    let d := bootPlan x (stage 13 (bootBist x (stage 11 d)))
    bootReady x (bootSeqs (stage 14 d))

/-- Firmware runs: the licence is verified (R575, R576), or, after a Pewter restart, kept. -/
def firmwareRuns (d : Dev) : Dev × List MemWrite :=
  let d := d.modBoot fun b => { b with rom := false }
  if d.boot.restarting then
    let ms := min 65535 ((d.time.tb - d.boot.restartTick) / 800000)
    let d := d.modBoot fun b => { b with restarting := false }
    (bootRecord 0x0B 0 ms (d.wrF BOOT_RESTART_MS 31 16 ms), [])
  else
    let (d, ok) := licSelect d
    if ok then bootFrom5 d.boot.facts d
    else (((d.wrF BOOT_RESET_STATUS 0 0 1).modBoot fun b => { b with stop := true }).faultCond 4 true, [])

/-- The ROM's part of step 4: it runs a slot that verifies, waits for FW_BOOT, or stops. -/
def romLoads (d : Dev) : Dev × List MemWrite :=
  let (d, ok) := fwSelect d
  if ok then firmwareRuns d
  else if d.rdF BOOT_STRAPS 1 0 = 0 then (bootStop 4 d, [])
  else (d, [])

/-- COLD_START: the release of PORST_N, from step 1 on; REFCLK is present then (R564) (DESIGN CHOICE, unsafe: notes/assumptions/7.md; DEDUCED, unsafe: notes/assumptions/93.md). -/
def coldStart (x : BootFacts) (d : Dev) : Dev × List MemWrite :=
  if !d.held || d.boot.vaonLow then (d, [])
  else
    let d := { d with held := false }
    let d := d.modBoot fun b => { b with facts := x, rom := true }
    let d := stage 1 (d.wrN BOOT_STRAPS (x.bootSrc % 4 + x.role % 2 * 2 ^ 4))
    let d := d.wrF CLK_REF_STATUS 0 0 1
    let d := d.wrF TWIN_STATE 4 4 (x.role % 2)
    let d := (List.range 4).foldl (fun d i => d.wrN (DEV_ECID i) (Config.ecid / 2 ^ (32 * i))) d
    let d := d.wrN LIC_SEC_VERSION (Config.licenceMin % 65536 * 2 ^ 16)
    let d := (d.wrF PWR_PERF 2 0 Config.perfClass).wrF THERM_STATE 9 9 (b2n d.pwr.tripLatched)
    let d := { d with pwr := { d.pwr with tripLatched := false } }
    let d := newNonce d
    let d := stage 2 d
    if x.bootSrc % 4 = 3 then (bootStop 2 (d.wrF BOOT_STAGE 7 0 0xF2), [])
    else
      let d := moduleHealth (d.modFlt fun f => { f with pairsRetired := below 4 x.pairs.contains })
      if (workingPairs d).length < 2 then (bootStop 2 d, [])
      else
        let two := bifurcated d
        let d := stage 3 d
        let d := d.wr (PCIE_LINK 0) (setFld (setFld (w32 x.pcie0) 31 11 0) 10 10 (b2n two))
        let d := if two then d.wr (PCIE_LINK 1) (setFld (setFld (w32 x.pcie1) 31 11 0) 10 10 1) else d
        let d := d.wrF BOOT_TRAIN 12 12 (b2n (hostUp d))
        romLoads (stage 4 d)

/-- The device enters cold reset; external memory holds nothing until it is written (09_external_memory.md R385). -/
def enterReset (f : Dev → Dev) (s : State) : Result := .next { s with dev := f (coldReset s.dev), mem := {} }

/-! ### Requests (R571 to R573) -/

/-- A request takes its place: an operation that is not served ends with RESERVED; an AUTH token whose OP has no stored hash
is refused at once (R578). -/
def tokenArea (d : Dev) (r : BootReq) (n : Nat) : List Byte :=
  if r.bmc then denseD (0 : Byte) n 0 d.boot.bmcData else denseD (0 : Byte) n 0x1000 d.boot.window

/-- What a token's request ends with: the record and a new nonce (R578, R596) (DEDUCED, unsafe: notes/assumptions/91.md). -/
def authEnd (op code : Nat) (d : Dev) : Dev := newNonce (bootRecord 0x09 op code d)

def reqStart (r : BootReq) (d : Dev) : Dev :=
  let served := if d.boot.rom then r.op == 1 || r.op == 3 else decide (1 ≤ r.op ∧ r.op ≤ 9) && r.op != 3
  let op := numAt (tokenArea d r 248) 24 1
  let badAuth := served && r.op == 5 && (op == 0 || decide (3 < op))
  let d := d.wrN BOOT_REQ_STATUS (r.seq % 65536 + 2 ^ 31)
  let d := if badAuth then authEnd op 0x0B d else d
  d.modBoot fun b => { b with req := some { r with code := if !served then some 2 else if badAuth then some 0x0B else none } }

/-- A request arrives (R572, R573): its path has one in progress, or it is served in its turn (DEDUCED, unsafe: notes/assumptions/91.md). -/
def reqArrive (r : BootReq) (busy : Dev → Dev) (d : Dev) : Dev :=
  let own := fun (q : BootReq) => q.bmc == r.bmc
  if (d.boot.req.any own) || d.boot.waiting.any own then busy d
  else if d.boot.req.isSome then d.modBoot fun b => { b with waiting := b.waiting ++ [r] }
  else reqStart r d

/-- DOORBELL is polled (R571) by the ROM or by Pewter; not by a ROM that has stopped, nor during a Pewter restart. -/
def doorbellPoll (d : Dev) : Dev :=
  if d.held || (d.boot.stop && d.boot.rom) || (d.boot.restarting && !d.boot.rom) then d
  else
    let w := windowWord d 0
    let seq := w % 65536
    if seq = d.boot.lastSeq then d
    else
      let d := d.modBoot fun b => { b with lastSeq := seq }
      reqArrive { seq, op := w / 65536 % 256, len := windowWord d 4, off := windowWord d 8 }
        (windowPut 0xC (seq + 0x0C * 2 ^ 16 + 2 ^ 31)) d

/-- The request in progress is of an operation, and its work has not been done. -/
def reqOf (d : Dev) (op : Nat) : Option BootReq := d.boot.req.filter fun r => r.op == op && r.code.isNone

/-- The work of a request is done with a code of R55, 0 on success. -/
def reqCode (c : Nat) (d : Dev) : Dev := d.modBoot fun b => { b with req := b.req.map fun r => { r with code := some c } }

def areaSize (r : BootReq) : Nat := if r.bmc then 65536 else 0xFF000

/-- FW_CHUNK (R571, R580) (DEDUCED, unsafe: notes/assumptions/91.md). -/
def fwChunk (d : Dev) : Dev :=
  match reqOf d 1 with
  | none => d
  | some r =>
    let data := tokenArea d r (min r.len (areaSize r))
    if d.boot.boardNext then
      let d := d.modBoot fun b => { b with boardNext := false }
      let blk := data ++ List.replicate (65536 - data.length) 0xFF
      if 65536 < r.len ∨ !boardOk blk then reqCode 1 d else reqCode 0 (programFlash boardAt blk d)
    else if stagingSize < r.off + r.len ∨ areaSize r < r.len then reqCode 1 d
    else reqCode 0 (programFlash (stagingAt + r.off) data d)

/-- The staged header and image verify (R569). -/
def stagedOk (d : Dev) : Bool := fwCause d.boot.flash stagingAt (stagingAt + 0x1000) == 0

/-- FW_COMMIT: into the slot not in use (DEDUCED, unsafe: notes/assumptions/91.md). -/
def fwCommit (d : Dev) : Dev :=
  match reqOf d 2 with
  | none => d
  | some _ =>
    if stagedOk d then
      let slot := 1 - d.rdF BOOT_FW 0 0
      let fl := d.boot.flash
      reqCode 0 (programFlash (fwImage slot) (flashRead fl (stagingAt + 0x1000) 0x800000)
        (programFlash (fwHeader slot) (flashRead fl stagingAt 0x1000) d))
    else reqCode 0x0B d

/-- FW_BOOT: the ROM runs the staged image. -/
def fwBoot (d : Dev) : Dev × List MemWrite :=
  match reqOf d 3 with
  | none => (d, [])
  | some _ =>
    if stagedOk d then
      firmwareRuns (fwShow 0 1 (d.rdF BOOT_FW 2 2 == 1) (fwVersion d.boot.flash stagingAt) (reqCode 0 d))
    else (reqCode 0x0B d, [])

/-- LIC_WRITE (R577) (DEDUCED, unsafe: notes/assumptions/91.md). -/
def licWrite (d : Dev) : Dev :=
  match reqOf d 4 with
  | none => d
  | some r =>
    let b := tokenArea d r 4096
    let l := numAt b 6 2
    if l < 192 ∨ 4096 < l ∨ l % 8 ≠ 0 then reqCode 1 d
    else if licCause d b ≠ 0 then reqCode 0x0B d
    else
      let w := d.rd LIC_STATUS
      let copy := if bitOf w 0 then 1 - fld w 1 1 else 1
      let d := programFlash (licAt copy) (b.take l) d
      reqCode 0 (d.wrN LIC_FLASH_SERIAL (flashSerial d))

/-! ### Authenticated requests (R578 to R580) -/

/-- The hash of the public key that an OP needs. -/
def storedHash (d : Dev) (op : Nat) : List Byte :=
  if op = 2 then (if bitOf (d.rd LIC_STATUS) 0 then bytesAt (licBlob d (d.rdF LIC_STATUS 1 1)) 48 48 else List.replicate 48 0)
  else d.boot.boardKey

/-- A token passes the checks of R578. -/
def tokenOk (d : Dev) (t : List Byte) : Bool :=
  let key := bytesAt t 48 97
  numAt t 0 16 == d.rd64 (DEV_ECID 0) + 2 ^ 64 * d.rd64 (DEV_ECID 2) &&
    numAt t 16 8 == d.rd64 (BOOT_AUTH_NONCE 0) &&
    sha384 key == storedHash d (numAt t 24 1) &&
    numAt key 0 1 == 4 && ecdsaOk (beNat (bytesAt key 1 48), beNat (bytesAt key 49 48)) (t.take 152) (bytesAt t 152 96)

/-- The code a token ends with, and its effect. -/
def authRun (op : Nat) (t : List Byte) (d : Dev) : Dev × Nat :=
  let par := numAt t 32 4
  if !tokenOk d t then (d, 0x0B)
  else if op = 1 then
    if bitOf (d.rd BOOT_RESET_STATUS) 2 then ((d.wrF BOOT_RESET_STATUS 3 2 2), 0) else (d, 3)
  else if op = 2 then
    if bitOf (d.rd LIC_FEATURES_LO) 1 && decide (1 ≤ par ∧ par ≤ 86400) then
      ((d.wrF DBG_STATUS 0 0 1).modBoot fun b => { b with sessionEnd := some (d.time.tb + usTicks (1000000 * par)) }, 0)
    else (d, 0x0B)
  else (d.modBoot fun b => { b with boardNext := true }, 0)

/-- An AUTH request whose token has an OP (DEDUCED, unsafe: notes/assumptions/91.md). -/
def authReq (op : Nat) (d : Dev) : Dev :=
  match reqOf d 5 with
  | none => d
  | some r =>
    let t := tokenArea d r 248
    if numAt t 24 1 ≠ op then d
    else
      let (d, c) := authRun op t d
      reqCode c (authEnd op c d)

/-- The debug session ends (R579): locks of debug break, breaks clear (02_control_model.md R77, 06_sequencers_isa.md R257). -/
def sessionEnd (d : Dev) : Dev :=
  let d := breakLocksOf agentDebug (d.wrF DBG_STATUS 0 0 0)
  let d := (List.range 48).foldl (fun d q => d.wr (SEQ_BRK_CTRL q) 0) d
  d.modBoot fun b => { b with sessionEnd := none }

def debugLock (d : Dev) : Dev :=
  match reqOf d 6 with
  | none => d
  | some _ => if d.unlocked then reqCode 0 (sessionEnd d) else reqCode 3 d

def sessionExpire (d : Dev) : Dev :=
  match d.boot.sessionEnd with
  | some t => if t ≤ d.time.tb then sessionEnd d else d
  | none => d

/-! ### Partial resets (R586 to R593) -/

def computeResetReq (d : Dev) : Dev :=
  match reqOf d 7 with
  | none => d
  | some _ => if inReset d then reqCode 0x0C d else reqCode 0 (computeReset 2 d)

/-- A Pewter restart begins (R592) (DEDUCED, unsafe: notes/assumptions/94.md). -/
def pewterRestart (d : Dev) : Dev :=
  let d := [0x10, 0x12, 0x14, 0x16].foldl (fun d a => breakLocksOf a d) d
  let d := computeReset 6 d
  d.modBoot fun b => { b with restarting := true, restartTick := d.time.tb, rom := false }

/-- PEWTER_RESTART: a request, or Pewter's own after FW_COMMIT (R592, R593). -/
def pewterRestartReq (own : Bool) (d : Dev) : Dev :=
  if own then (if inReset d || !d.up then d else pewterRestart d)
  else
    match reqOf d 8 with
    | none => d
    | some _ => if inReset d then reqCode 0x0C d else pewterRestart (reqCode 0 d)

/-- The ROM of a restart has come to step 4. -/
def pewterRestartDone (d : Dev) : Dev × List MemWrite :=
  if d.boot.restarting && !d.boot.rom then romLoads (d.modBoot fun b => { b with rom := true }) else (d, [])

def hostCfgReq (d : Dev) : Dev :=
  match reqOf d 9 with
  | none => d
  | some _ => let (d, ok) := hostCfg d; reqCode (if ok then 0 else 1) d

/-- A request ends (R571): word 3, the record, the interrupt, and the next request's turn. -/
def bootReqDone (d : Dev) : Dev :=
  match d.boot.req with
  | none => d
  | some r =>
    match r.code with
    | none => d
    | some c =>
      let w := r.seq % 65536 + c * 2 ^ 16
      let d := d.wrN BOOT_REQ_STATUS w
      let d := if r.bmc then d.modBoot fun b => { b with bmcStatus := w + 2 ^ 31 } else (windowPut 0xC (w + 2 ^ 31) d).intCause 3
      let d := bootRecord 0x0A r.op c (d.modBoot fun b => { b with req := none })
      match d.boot.waiting with
      | [] => d
      | n :: rest => reqStart n (d.modBoot fun b => { b with waiting := rest })

/-- A write of CRESET (R597). -/
def cresetWrite (agent : Nat) (data : Word) (d : Dev) : Dev :=
  let go := bitOf data 0
  d.checked .boot 0x11C agent
    [(.privilege, !isPewter agent), (.state, !d.up), (.busy, inReset d), (.reserved, decide (fld data 31 1 ≠ 0))]
    fun d => if go then computeReset 3 d else d

/-- RST_N low passes its filter (R586). -/
def rstLow (d : Dev) : Dev :=
  if !d.boot.rstN then d
  else
    let d := d.modBoot fun b => { b with rstN := false, rstTick := d.time.tb }
    if d.held then d
    else
      let d := d.wrF BOOT_RESET_STATUS 1 1 1
      if bitOf (d.rd BOOT_RESET_STATUS) 3 || !d.up then d else computeReset 1 d

/-- RST_N is high again: the hold ends, and HELD with it (DEDUCED, unsafe: notes/assumptions/92.md). -/
def rstHigh (d : Dev) : Dev :=
  if d.boot.rstN then d
  else
    let d := d.modBoot fun b => { b with rstN := true, rstTick := d.time.tb }
    (d.wrF BOOT_RESET_STATUS 1 1 0).wrF BOOT_RESET_STATUS 2 2 0

/-- The quick self-test ends (R587 step 4) (DEDUCED, unsafe: notes/assumptions/92.md). -/
def selfTestDone (failed : List Nat) (d : Dev) : Dev :=
  if inReset d && d.up && !d.boot.tested then
    d.modBoot fun b => { b with tested := true, failedSites := (failed.filter (· < 13824)).foldl setIns [] }
  else d

/-- A hold applies at step 5. -/
def resetHold (d : Dev) : Bool :=
  (!d.boot.rstN && !bitOf (d.rd BOOT_RESET_STATUS) 3) || d.pwr.thermHalt || d.boot.restarting

/-- A site that failed the quick self-test gets its trial, queued under R493 (R587 step 7). -/
def queueTrial (s : Nat) (d : Dev) : Dev :=
  if siteState d s ≠ 2 ∧ siteState d s ≠ 3 then d.reject .floor 0x124 0x10 .state
  else if 16 ≤ d.flt.trialQueue.length ∨ d.flt.trialQueue.any (fun e => e.1 == s) then d
  else showQueue (d.modFlt fun f => { f with trialQueue := f.trialQueue ++ [(s, 0)] })

/-- Steps 6 and 7 of a compute reset. What VC_0 still carried to a sequencer at step 1 has reached it while it was in RESET
(07_fabric.md R310; DEDUCED, unsafe: notes/assumptions/112.md) (DEDUCED, unsafe: notes/assumptions/92.md). -/
def resetRelease (d : Dev) : Dev :=
  if !inReset d || !d.up || !d.boot.tested || resetHold d then d
  else
    let d := (List.range 48).foldl (fun d q => if d.isFenced (.seq q) then d else setSt q stIdle 0 d) d
    let ms := min 65535 ((d.time.tb - d.boot.crTick) / 800000)
    let cause := d.rdF BOOT_RESET_STATUS 7 4
    let d := ((d.wrF BOOT_RESET_STATUS 0 0 0).wrF BOOT_RESTART_MS 15 0 ms).wr PINS_FAULT_SRC 0
    let d := d.modFab fun x => { x with cmds := [], reports := [] }
    let d := (hostCfg d).1
    let sites := d.boot.failedSites
    let d := d.modBoot fun b => { b with tested := false, failedSites := [] }
    bootRecord 0x07 cause ms (sites.foldl (fun d s => queueTrial s d) d)

/-- RST_N has been low for 5 s (R589) (DEDUCED, unsafe: notes/assumptions/92.md). -/
def resetHeld (d : Dev) : Dev :=
  let w := d.rd BOOT_RESET_STATUS
  if !d.boot.rstN && inReset d && d.up && !bitOf w 3 && !bitOf w 2 && decide (d.boot.rstTick + usTicks 5000000 ≤ d.time.tb) then
    (bootRecord 0x08 0 0 (d.wrF BOOT_RESET_STATUS 2 2 1)).alert 1
  else d

/-- RST_N has been high for 1 ms (R591). -/
def maskClear (d : Dev) : Dev :=
  if d.boot.rstN && decide (d.boot.rstTick + usTicks 1000 ≤ d.time.tb) then d.wrF BOOT_RESET_STATUS 3 3 0 else d

/-! ### The host link (16_interfaces_pins.md R602, R603, R626) -/

/-- HOST_FUNCTION_RESET: 0 Function Level Reset, 1 hot reset, 2 the link leaves L0 (02_control_model.md R77) (DEDUCED, unsafe: notes/assumptions/94.md). -/
def hostReset (kind n : Nat) (d : Dev) : Dev :=
  if d.held then d else if kind = 2 then linkLeaves n d else breakLocksOf agentHost (d.wrF (PCIE_LINK n) 11 11 0)

/-- The link returns to L0 with a rate and a width. -/
def pcieUp (n speed width : Nat) (flit : Bool) (d : Dev) : Dev :=
  let failed := fld (d.rd (PMB_RAIL_STAT 16)) 14 12 != 0
  let two := bitOf (d.rd (PCIE_LINK 0)) 10
  if d.held || failed || (n == 1 && !two) then d
  else
    let d := { d with iface := { d.iface with perstLow := false } }
    let d := d.wrN (PCIE_LINK n) (1 + speed % 8 * 2 + width % 32 * 2 ^ 4 + b2n flit * 2 ^ 9 + b2n two * 2 ^ 10)
    let d := d.record 0x1D 8 0x10 (0x01 + speed % 8 * 2 ^ 8 + width % 32 * 2 ^ 16)
    if d.up && !d.boot.restarting then (hostCfg d).1 else d

def d3 (n : Nat) (on : Bool) (d : Dev) : Dev :=
  if bitOf (d.rd (PCIE_LINK n)) 0 then d.wrF (PCIE_LINK n) 11 11 (b2n on) else d

/-! ### Commands -/

/-- PORST_ASSERT (R565) (DESIGN CHOICE, unsafe: notes/assumptions/2.md). -/
def execPorstAssert (s : State) : Result := enterReset id s
/-- VAON_DROP (17_electrical_mechanical.md R641) (DESIGN CHOICE, unsafe: notes/assumptions/2.md). -/
def execVaonDrop (s : State) : Result := enterReset (fun d => d.modBoot fun b => { b with vaonLow := true }) s
/-- VAON_RECOVERY (17_electrical_mechanical.md R641). -/
def execVaonRecovery (s : State) : Result := onDev (fun d => d.modBoot fun b => { b with vaonLow := false }) s
/-- COLD_START (R581): what the outside gives it. -/
def execColdStart (facts : BootFacts) (s : State) : Result := onDevMem (fun _ d => coldStart facts d) s
/-- DOORBELL_POLL (R571). -/
def execDoorbellPoll (s : State) : Result := onDev doorbellPoll s
/-- FW_CHUNK (R571). -/
def execFwChunk (s : State) : Result := onDev fwChunk s
/-- FW_COMMIT (R571). -/
def execFwCommit (s : State) : Result := onDev fwCommit s
/-- FW_BOOT (R571). -/
def execFwBoot (s : State) : Result := onDevMem (fun _ d => fwBoot d) s
/-- LIC_WRITE (R577). -/
def execLicWrite (s : State) : Result := onDev licWrite s
/-- RST_MASK (R590). -/
def execRstMask (s : State) : Result := onDev (authReq 1) s
/-- DEBUG_UNLOCK (R579). -/
def execDebugUnlock (s : State) : Result := onDev (authReq 2) s
/-- BOARD_CFG (R580). -/
def execBoardCfg (s : State) : Result := onDev (authReq 3) s
/-- DEBUG_LOCK (R571). -/
def execDebugLock (s : State) : Result := onDev debugLock s
/-- COMPUTE_RESET (R587). -/
def execComputeReset (s : State) : Result := onDev computeResetReq s
/-- PEWTER_RESTART (R592): `own` when Pewter itself requests it. -/
def execPewterRestart (own : Bool) (s : State) : Result := onDev (pewterRestartReq own) s
/-- HOSTCFG_APPLY (R573). -/
def execHostcfgApply (s : State) : Result := onDev hostCfgReq s
/-- BOOT_REQUEST_DONE (R571). -/
def execBootRequestDone (s : State) : Result := onDev bootReqDone s
/-- DEBUG_SESSION_EXPIRE (R579). -/
def execDebugSessionExpire (s : State) : Result := onDev sessionExpire s
/-- RST_N_ASSERT (R586). -/
def execRstNAssert (s : State) : Result := onDev rstLow s
/-- RST_N_RELEASE (R587). -/
def execRstNRelease (s : State) : Result := onDev rstHigh s
/-- CRESET (R597). -/
def execCreset (agent : Nat) (data : Word) (s : State) : Result := onDev (cresetWrite agent data) s
/-- COMPUTE_RESET_SELFTEST_DONE (R587): the sites that failed. -/
def execComputeResetSelftestDone (failed : List Nat) (s : State) : Result := onDev (selfTestDone failed) s
/-- COMPUTE_RESET_RELEASE (R587). -/
def execComputeResetRelease (s : State) : Result := onDev resetRelease s
/-- RESET_HELD_TIMEOUT (R589). -/
def execResetHeldTimeout (s : State) : Result := onDev resetHeld s
/-- MASK_CLEAR (R591). -/
def execMaskClear (s : State) : Result := onDev maskClear s
/-- PEWTER_RESTART_DONE (R592). -/
def execPewterRestartDone (s : State) : Result := onDevMem (fun _ d => pewterRestartDone d) s
/-- HOST_FUNCTION_RESET (02_control_model.md R77): 0 Function Level Reset, 1 hot reset, 2 the link leaves L0. -/
def execHostFunctionReset (kind link : Nat) (s : State) : Result :=
  guardUnit (decide (kind < 3) && decide (link < 2)) (onDev (hostReset kind link) s)
/-- PERST_ASSERT (16_interfaces_pins.md R602). -/
def execPerstAssert (link : Nat) (s : State) : Result :=
  guardUnit (decide (link < 2)) (onDev (fun d =>
    let d := { d with iface := { d.iface with perstLow := true } }
    if d.held then d else linkLeaves link d) s)
/-- PCIE_LINK_UP (16_interfaces_pins.md R602). -/
def execPcieLinkUp (link speed width : Nat) (flit : Bool) (s : State) : Result :=
  guardUnit (decide (link < 2)) (onDev (pcieUp link speed width flit) s)
/-- D3HOT_ENTRY (16_interfaces_pins.md R603). -/
def execD3hotEntry (link : Nat) (s : State) : Result := guardUnit (decide (link < 2)) (onDev (d3 link true) s)
/-- D3HOT_EXIT (16_interfaces_pins.md R603). -/
def execD3hotExit (link : Nat) (s : State) : Result := guardUnit (decide (link < 2)) (onDev (d3 link false) s)

end Sys2Proof.Machine
end

