-- ==== Sys2Proof/Machine/View.lean ====
section
/-! DEFINITION. What a read of a BAR 0 word returns and does (02_control_model.md R45 to R50): registers that follow the
machine, data ports, reads that capture, pop, clear or acquire, and the debug memory window. -/

namespace Sys2Proof.Machine

/-! ### Pins (16_interfaces_pins.md R621 to R625, R628) -/

/-- Level of EVT_n: a pulse of an output function, else what the board drives, which the model leaves free (DESIGN CHOICE, safe: notes/assumptions/9.md; DESIGN CHOICE, safe: notes/assumptions/20.md). -/
def evtLevel (d : Dev) (n : Nat) : Bool :=
  let c := d.rd (PINS_EVT_CFG n)
  if 4 ≤ fld c 3 0 then (kvGet? d.cad.pulses n).isSome != bitOf c 4
  else (Config.freeValue d.freeCtr).testBit n

/-- HEALTHY is driven high (13_faults_recovery.md R513): health NOMINAL or SPARING, and compute not held in reset (DEDUCED, unsafe: notes/assumptions/21.md). -/
def healthyPin (d : Dev) : Bool :=
  d.up && decide (d.rdF FLOOR_STATE 2 0 ≤ 1) && !inReset d && !d.boot.restarting

/-- PINS.PIN_LEVEL (R628) (DESIGN CHOICE, safe: notes/assumptions/20.md). -/
def pinLevel (d : Dev) : Word :=
  let w := (List.range 8).foldl (fun n i => n + b2n (evtLevel d i) * 2 ^ i) 0
  w32 (w + b2n d.boot.rstN * 2 ^ 8 + b2n (!d.iface.perstLow) * 2 ^ 9 + b2n (healthyPin d) * 2 ^ 10 +
    b2n (d.rd PINS_FAULT_SRC == 0 && d.rd PINS_FAULT_COND == 0) * 2 ^ 11 + b2n (d.rd PINS_ALERT_SRC == 0) * 2 ^ 12 +
    b2n (!d.iface.trstLow) * 2 ^ 13)

/-! ### Registers that follow the machine -/

/-- THERM.HBM_MAX (12_power_thermal.md R478): the hottest stack (DEDUCED, unsafe: notes/assumptions/21.md). -/
def hbmMax (d : Dev) : Word :=
  let best := (List.range 8).foldl (fun (b : Nat × Int) m =>
    let t := toSigned 16 (d.rdF (MEMP_TEMP m) 15 0)
    if b.2 < t then (m, t) else b) ((0 : Nat), toSigned 16 (d.rdF (MEMP_TEMP 0) 15 0))
  w32 (ofSigned 16 best.2 + best.1 * 2 ^ 16)

/-- STRM.READY_COUNT (08_streams_context.md R359): streams READY, and those whose replay is pending (DEDUCED, unsafe: notes/assumptions/21.md). -/
def readyCount (d : Dev) : Nat :=
  ((openStreams d).filter fun n => d.strmSt n == sReady || replayPend d n ||
    (d.strmSt n == sRunning && !inFlight d n)).length

/-- Free entries of the schedule table (10_cadence_time.md R411) (DEDUCED, unsafe: notes/assumptions/21.md). -/
def schedFree (d : Dev) : Nat := (below 64 fun e => !bitOf (d.rd (CAD_SCHED (4 * e + 1))) 31).length

/-- The page is without power: its registers read 0 and no write reaches it (R96, R142, R265; R54). -/
def Page.dark (d : Dev) (p : Page) : Bool :=
  match p with
  | .field _ | .seq _ | .trace _ | .tile _ => !d.powered p
  | _ => false

/-- The word reads 0 because the unit's domain is off: of a TILE page only the block registers (R142) and ERR_CODE, which
holds no rejection then (R54) (DEDUCED, unsafe: notes/assumptions/14.md). -/
def Page.darkAt (d : Dev) (p : Page) (o : Nat) : Bool :=
  p.dark d && (match p with
    | .tile _ => o == 0x10 || decide (0x100 ≤ o)
    | _ => true)

/-- STRM.INFLIGHT.BEATS is four bits wide; what it reads with more than 15 beats in flight is not stated: a free value
(DESIGN CHOICE, safe: notes/assumptions/113.md). -/
def inflightWord (d : Dev) : Word :=
  w32 (if d.strm.beats.length < 16 then d.strm.beats.length else Config.freeValue d.freeCtr % 16)

/-- A count whose events the model does not have reads a free value: the cycles that bank conflicts cost (04_matrix_unit.md
R154), the codewords that a spur port's line code corrects or loses (16_interfaces_pins.md R613, R631) (DESIGN CHOICE, safe: notes/assumptions/22.md). -/
def uncounted (d : Dev) : Word := w32 (Config.freeValue d.freeCtr)

/-- A page word as a debug peek returns it, data ports and the debug memory window left out (R48). -/
def viewPage (d : Dev) (p : Page) (o : Nat) : Word :=
  if p.darkAt d o then 0
  else if o = 0xC then d.status p
  else if o = 0x18 then w32 (digestOf d p)
  else if o = 0x1C then w32 (digestOf d p / 2 ^ 32)
  else if o < 0x100 then d.rd (p.base + o)
  else
    match findRow p.rows o with
    | none => 0
    | some (r, i) =>
      let a := p.base + o
      match r.acc with
      | .wo => 0
      | .st => (match p with
        | .memp m => if o = 0x100 ∧ m ≠ 0 then d.rd (MEMP_MAP 0) else d.stagedRd a
        | _ => d.stagedRd a)
      | _ => (match p with
        | .lock => if 0x500 ≤ o ∧ o < 0x520 then brokenMap d i else d.rd a
        | .flt => if o = 0x120 then w32 (b2n (bitOf (d.rd FLT_MIRROR_CTRL) 0 && mirrorUp d))
            else if o = 0x12C then w32 (kvGetD d.flt.classCount 0 (d.rdF FLT_CLASS_SEL 4 0)) else d.rd a
        | .time => if o = 0x100 then w32 (d.taiNs % 1000000000) else d.rd a
        | .cad => if o = 0x114 then w32 d.phase else if o = 0x158 then w32 (schedFree d)
            else if o = 0x15C then d.cad.fireLog.headD 0 else d.rd a
        | .herd => if o = 0x118 then setFld (d.rd a) 31 28 ((planes d).foldl (fun m n => m + 2 ^ n) 0) else d.rd a
        | .therm => if o = 0x104 then hbmMax d else if o = 0x118 then sensData d else d.rd a
        | .strm => if o = 0x10C then inflightWord d else if o = 0x110 then w32 (readyCount d) else d.rd a
        | .pins => if o = 0x120 then pinLevel d else d.rd a
        | .spur => if 0x110 ≤ o ∧ o < 0x130 then uncounted d else d.rd a
        | .seq q => if o = 0x108 then setFld (d.rd a) 11 9 (d.seq q).inflight.length
            else if o = 0x128 then w32 (d.seq q).queue.length else d.rd a
        | .memp m => if o = 0x138 then throttleNow m d else d.rd a
        | .tile s => if o = 0x120 then engStatus (d.tile s) else if o = 0x12C then uncounted d else if 0x180 ≤ o ∧ o < 0x1C0 then tokOccWord d s i else d.rd a
        | _ => d.rd a)

/-- The view of a word of a page, a descriptor or the record ring (DEDUCED, unsafe: notes/assumptions/18.md). -/
def viewWord (d : Dev) (a : Nat) : Word :=
  match pageOf a with
  | some (p, o) => viewPage d p o
  | none => d.rd a

/-! ### The debug memory window (R83) -/

/-- Checks of an access to MEM_DATA: the session (R56), the site, the halt, the address (DEDUCED, unsafe: notes/assumptions/18.md). -/
def dbgMemChecks (agent : Nat) (d : Dev) (write : Bool) : List Check :=
  let s := d.rdF DBG_MEM_SITE 13 0
  let a := (d.rd DBG_MEM_ADDR).toNat
  let acc := bitOf (d.rd DBG_MEM_CTRL) 0
  let halted := match d.tileFollows s with
    | some q => dbgIs d DBG_HALTED_LO q
    | none => false
  [(.privilege, !d.unlocked && (write || !(isPewter agent || isSeqAgent agent))), (.fenced, decide (s < 13824) && d.isFenced (.tile s)),
   (.state, (write || acc) && !halted),
   (.range, if acc then decide (2048 ≤ a) else decide (spadWords ≤ a)), (.unmapped, decide (13824 ≤ s))]

/-- The word at MEM_SITE and MEM_ADDR; an uncorrectable scratchpad word reads as a free value (DEDUCED, unsafe: notes/assumptions/18.md; DESIGN CHOICE, safe: notes/assumptions/19.md). -/
def dbgMemWord (d : Dev) : Word × Dev :=
  let s := d.rdF DBG_MEM_SITE 13 0
  let a := (d.rd DBG_MEM_ADDR).toNat
  let t := d.tile s
  if bitOf (d.rd DBG_MEM_CTRL) 0 then (kvGetD t.mx.acc 0 a, d)
  else if t.bad.contains a then (w32 d.free.1, d.free.2)
  else (t.rd a, d)

/-- An access to MEM_DATA by an agent: a word written, or a read, which answers 0 when it is rejected. MEM_ADDR advances
by 1 after the access (DESIGN CHOICE, safe: notes/assumptions/19.md). -/
def dbgMemAccess (agent : Nat) (data : Option Word) (d : Dev) : Dev :=
  let s := d.rdF DBG_MEM_SITE 13 0
  let next := fun (d : Dev) => d.wr DBG_MEM_ADDR (d.rd DBG_MEM_ADDR + 1)
  match data with
  | none =>
    match firstFail (dbgMemChecks agent d false) with
    | some c => (d.reject .dbg 0x114 agent c).answerW 0
    | none => let (w, d) := dbgMemWord d; next (d.answerW w)
  | some w =>
    d.checked .dbg 0x114 agent
      ((.privilege, !d.mayWrite agent .dbg) :: (.state, !d.up) :: dbgMemChecks agent d true)
      fun d =>
        let a := (d.rd DBG_MEM_ADDR).toNat
        next (d.modTile s fun t =>
          if bitOf (d.rd DBG_MEM_CTRL) 0 then { t with mx := { t.mx with acc := kvSetD t.mx.acc 0 a w } } else t.wr a w)

/-! ### Reads -/

/-- The word of the last answer. -/
def Dev.answered (d : Dev) : Word := w32 (leNat d.resp.bytes)

/-- FIRE_LOG loses its head (10_cadence_time.md R419). -/
def fireLogPop (d : Dev) : Dev :=
  { d with cad := { d.cad with fireLog := d.cad.fireLog.drop 1 } }.answerW (d.cad.fireLog.headD 0)

/-- A read of one word of a page that the machine answers with more than its value: data ports act at every read, a peek
too (R48, R97); captures, acquisitions and pops only at a normal read (DEDUCED, unsafe: notes/assumptions/18.md; DESIGN CHOICE, safe: notes/assumptions/22.md). -/
def readSpecial (agent : Nat) (peek : Bool) (p : Page) (o : Nat) (d : Dev) : Option Dev :=
  match p with
  | .lock => if !peek && decide (0x100 ≤ o ∧ o < 0x500) then some (lockAcquire agent ((o - 0x100) / 4) d) else none
  | .time => if !peek && o == 0x100 then some (timeCapture d) else none
  | .cad => if !peek && o == 0x15C then some (fireLogPop d) else none
  | .therm => if o == 0x118 && decide (191 < d.rdF THERM_SENS_ADDR 7 0) then some ((d.reject .therm 0x118 agent .range).answerW 0) else none
  | .strm => if o == 0x12C then some (progAccess agent none d)
      else if o == 0x10C then some (d.free.2.answerW (inflightWord d)) else none
  | .dbg => if o == 0x114 then some (dbgMemAccess agent none d) else none
  | .pins => if o == 0x120 then some (d.free.2.answerW (pinLevel d)) else none
  | .memp m => if !peek && o == 0x138 then some ((throttleCount m d).wr (p.base + o) 0 |>.answerW (throttleNow m d)) else none
  | .seq q => if o == 0x190 then some (imemAccess q agent none d) else none
  | .trace f => if o == 0x110 then some (traceRead f d) else none
  | .field f => if o == 0x934 then some (if p.dark d then d.answerW 0 else rtAccess f agent none d) else none
  | .tile _ => if o == 0x12C && !p.dark d then some (d.free.2.answerW (uncounted d)) else none
  | .spur => if 0x110 ≤ o ∧ o < 0x130 then some (d.free.2.answerW (uncounted d)) else none
  | _ => none

/-- The read of an RC register clears it (R48). -/
def clearsOnRead (p : Page) (o : Nat) : Bool :=
  o == 0x14 || (match findRow p.rows o with
    | some (r, _) => r.acc == .rc
    | none => false)

/-- A read of one word by an agent (R46, R48). -/
def readWord (agent : Nat) (peek : Bool) (a : Nat) (d : Dev) : Word × Dev :=
  match pageOf a with
  | none => (d.rd a, d)
  | some (p, o) =>
    match readSpecial agent peek p o d with
    | some d' => (d'.answered, d')
    | none =>
      let w := viewPage d p o
      if !peek && clearsOnRead p o && !p.dark d then (w, d.wr a 0) else (w, d)

end Sys2Proof.Machine
end

