-- ==== Sys2Proof/Machine/Iface.lean ====
section
/-! DEFINITION. Sensor ports, gPTP, SerDes links, the management target, JTAG, the console and the event pins
(16_interfaces_pins.md R605 to R627). -/

namespace Sys2Proof.Machine

def Dev.modIface (d : Dev) (f : IfaceSt → IfaceSt) : Dev := { d with iface := f d.iface }

/-! ### Ethernet frames (R605) -/

def beAt (bs : List Byte) (a n : Nat) : Nat := beNat ((bs.drop a).take n)

/-- One byte through the frame check sequence of IEEE 802.3 (PRESUMED, unsafe: notes/assumptions/80.md). -/
def fcsByte (c : Nat) (b : Byte) : Nat :=
  (List.range 8).foldl (fun c _ => if c % 2 = 1 then Nat.xor (c / 2) 0xEDB88320 else c / 2) (Nat.xor c b.toNat)

/-- The frame check sequence of a frame's bytes (PRESUMED, unsafe: notes/assumptions/80.md). -/
def fcs (bs : List Byte) : Nat := Nat.xor (bs.foldl fcsByte 0xFFFFFFFF) 0xFFFFFFFF

/-- The ones' complement sum of 16-bit words, a last odd byte padded with 0 (R612). -/
def onesSum (bs : List Byte) : Nat :=
  ((chunksOf 2 bs.length bs).map fun c => (c.getD 0 0).toNat * 256 + (c.getD 1 0).toNat).foldl
    (fun n w => (n + w) % 65536 + (n + w) / 65536) 0

/-- A frame below its tag: EtherType and payload; stacked tags leave none. -/
def etherBody (bs : List Byte) : Option (Nat × List Byte) :=
  let t := beAt bs 12 2
  if t = 0x8100 then
    let t' := beAt bs 16 2
    if t' = 0x8100 ∨ t' = 0x88A8 then none else some (t', bs.drop 18)
  else some (t, bs.drop 14)

/-- Bytes of the port's MAC address. -/
def portMac (d : Dev) (p : Nat) : List Byte := leBytes 4 (d.rd (SENS_MAC_LO p)).toNat ++ leBytes 2 (d.rdF (SENS_MAC_HI p) 15 0)

/-- The destination is the port's address, the broadcast address or a multicast address (R605). -/
def addressed (d : Dev) (p : Nat) (bs : List Byte) : Bool := bs.take 6 == portMac d p || (bs.headD 0).toNat % 2 == 1

/-! ### Flows (R606, R611, R612) -/

/-- What a frame offers to the flows: the AVTP stream and its parts, or the UDP port and payload. -/
inductive FlowFrame where
  /-- stream_id, sequence_num where the subtype counts frames, tv, avtp_timestamp, stream data; `ok` for an accepted
  version, sv and subtype -/
  | avtp (id : Nat) (seq : Option Nat) (tv : Bool) (ts : Nat) (payload : List Byte) (ok : Bool)
  | udp (dport : Nat) (payload : List Byte)
  | bad
deriving DecidableEq, Repr

/-- An AVTP frame (R611). The places of its fields are those of IEEE 1722-2016 (PRESUMED, unsafe: notes/assumptions/80.md). -/
def avtpFrame (b : List Byte) : FlowFrame :=
  let sub := beAt b 0 1
  let v := beAt b 1 1
  let ok := decide (v / 128 = 1 ∧ v / 16 % 8 = 0) && (sub == 0x03 || sub == 0x07 || sub == 0x82)
  let id := beAt b 4 8
  let len := beAt b 20 2
  if sub = 0x82 then .avtp id none false 0 ((b.drop 12).take (v % 8 * 256 + beAt b 2 1)) (ok && decide (12 ≤ b.length))
  else
    let h := if sub = 0x07 then 32 else 24
    .avtp id (some (beAt b 2 1)) (v % 2 == 1) (beAt b 12 4) ((b.drop h).take (len - (h - 24))) (ok && decide (h ≤ b.length))

/-- The UDP datagram of an IP payload (R612): `pseudo` is the pseudo header's sum (PRESUMED, unsafe: notes/assumptions/80.md). -/
def udpFrame (pseudo : List Byte) (v6 : Bool) (b : List Byte) : FlowFrame :=
  let len := beAt b 4 2
  let ck := beAt b 6 2
  if len < 8 ∨ b.length < len then .bad
  else
    let dg := b.take len
    let sum := onesSum (pseudo ++ [0, 17] ++ (leBytes 2 len).reverse ++ dg)
    if (ck = 0 ∧ v6) ∨ (ck ≠ 0 ∧ sum ≠ 0xFFFF) then .bad else .udp (beAt b 2 2) (dg.drop 8)

/-- An IPv4 datagram to the port's address or a multicast address (R612) (PRESUMED, unsafe: notes/assumptions/80.md). -/
def ipv4Frame (d : Dev) (p : Nat) (b : List Byte) : FlowFrame :=
  let hl := beAt b 0 1 % 16 * 4
  let own := (d.rd (SENS_IPV4 p)).toNat
  let dst := beAt b 16 4
  if beAt b 0 1 / 16 ≠ 4 ∨ hl < 20 ∨ b.length < beAt b 2 2 ∨ own = 0 ∨ (dst ≠ own ∧ dst / 2 ^ 28 ≠ 0xE) ∨
      onesSum (b.take hl) ≠ 0xFFFF ∨ beAt b 6 2 % 0x4000 ≠ 0 ∨ beAt b 9 1 ≠ 17 then .bad
  else udpFrame ((b.drop 12).take 8) false ((b.take (beAt b 2 2)).drop hl)

/-- IPv6 extension headers but Fragment are skipped (R612): the upper protocol and its bytes. -/
def ipv6Skip : Nat → Nat → List Byte → Option (Nat × List Byte)
  | 0, _, _ => none
  | n + 1, next, b =>
    if next = 0 ∨ next = 43 ∨ next = 60 ∨ next = 135 then ipv6Skip n (beAt b 0 1) (b.drop (8 * (beAt b 1 1 + 1)))
    else if next = 51 then ipv6Skip n (beAt b 0 1) (b.drop (4 * (beAt b 1 1 + 2)))
    else if next = 44 then none
    else some (next, b)

/-- The port's IPv6 address. -/
def portIpv6 (d : Dev) (p : Nat) : Nat :=
  [SENS_IPV6_0 p, SENS_IPV6_1 p, SENS_IPV6_2 p, SENS_IPV6_3 p].foldl (fun n a => n * 2 ^ 32 + (d.rd a).toNat) 0

def ipv6Frame (d : Dev) (p : Nat) (b : List Byte) : FlowFrame :=
  let own := portIpv6 d p
  let dst := beAt b 24 16
  if beAt b 0 1 / 16 ≠ 6 ∨ own = 0 ∨ (dst ≠ own ∧ beAt b 24 1 ≠ 0xFF) ∨ b.length < 40 + beAt b 4 2 then .bad
  else
    match ipv6Skip 64 (beAt b 6 1) ((b.drop 40).take (beAt b 4 2)) with
    | some (17, u) => udpFrame ((b.drop 8).take 32) true u
    | _ => .bad

/-- gPTP, ARP and Neighbor Discovery have commands of their own (R606). -/
def ownProtocol (t : Nat) (b : List Byte) : Bool :=
  t == 0x88F7 || t == 0x0806 ||
    (t == 0x86DD && beAt b 6 1 == 58 && (beAt b 40 1 == 135 || beAt b 40 1 == 136))

def flowFrame (d : Dev) (p t : Nat) (b : List Byte) : FlowFrame :=
  if t = 0x22F0 then avtpFrame b else if t = 0x0800 then ipv4Frame d p b else if t = 0x86DD then ipv6Frame d p b else .bad

/-- The key of a flow meets a frame (R606). -/
def flowMatches (d : Dev) (p i : Nat) (f : FlowFrame) : Bool :=
  let k := d.rdF (SENS_FLOW_CTRL (16 * p + i)) 1 0
  match f with
  | .avtp id .. => k == 1 && id == (d.rd (SENS_KEY_LO (16 * p + i))).toNat + 2 ^ 32 * (d.rd (SENS_KEY_HI (16 * p + i))).toNat
  | .udp dport _ => k == 2 && dport == d.rdF (SENS_KEY_LO (16 * p + i)) 15 0
  | .bad => false

/-- Capture time and payload of an accepted frame (R609): an AVTP timestamp is extended to the TAI nearest the stamp (DEDUCED, unsafe: notes/assumptions/79.md). -/
def captureOf (tsMode stamp : Nat) (f : FlowFrame) : Option (Nat × List Byte) :=
  match f with
  | .avtp _ _ tv ts pl ok =>
    if !ok then none
    else if tsMode = 1 ∧ tv then
      let lo := stamp - 2 ^ 31
      some (lo + (ts + 2 ^ 32 - lo % 2 ^ 32) % 2 ^ 32, pl)
    else some (stamp, pl)
  | .udp _ pl =>
    if tsMode = 1 then
      let ns := beAt pl 6 4
      if pl.length < 10 ∨ 1000000000 ≤ ns then none else some (beAt pl 0 6 * 1000000000 + ns, pl.drop 10)
    else some (stamp, pl)
  | .bad => none

/-! ### Ring entries (R607, R608) -/

def sensDrop (p : Nat) (d : Dev) : Dev := d.bump (SENS_DROP_COUNT p)

def linkRecord (code event detail value : Nat) (d : Dev) : Dev :=
  d.record 0x1D 8 code (event + detail % 256 * 2 ^ 8 + value % 65536 * 2 ^ 16)

/-- The port whose number a ring's PRODUCER gives: in PAIRED mode port p + 4 writes the south copy of port p's ring. -/
def ringPort (d : Dev) (p : Nat) : Nat := if d.chanMode = 2 then p % 4 else p

/-- Where the port's copy of an entry goes (R607, R608). -/
def entryAddr (d : Dev) (p r index : Nat) : Nat :=
  let x := ring d r
  x.base + index % x.size * x.entry + (if d.chanMode = 2 ∧ 4 ≤ p then regionBytes (joinGib d) else 0)

/-- With the boundary closed, the bytes must lie in the port's channel's region (R608). -/
def entryClosed (d : Dev) (p a n : Nat) : Bool :=
  let j := joinGib d
  let out := fun b => decide (b < 8 * j * 2 ^ 30) || portChannel (memMap j b).1 != p / 4
  d.chanMode != 0 && (out a || out (a + n - 1))

/-- A matched frame becomes an entry of its flow's ring (R607, R608) (DEDUCED, unsafe: notes/assumptions/57.md; DEDUCED, unsafe: notes/assumptions/79.md). -/
def sensEntry (p i : Nat) (f : FlowFrame) (d : Dev) : Dev :=
  let k := 16 * p + i
  let c := d.rd (SENS_FLOW_CTRL k)
  let r := fld c 9 4
  match captureOf (fld c 12 12) d.taiNs f with
  | none => sensDrop p d
  | some (ns, pl) =>
    let d := match f with
      | .avtp _ (some seq) .. =>
        let gap := match kvGet? d.iface.avtpSeq k with
          | some last => (seq + 255 - last) % 256
          | none => 0
        let d := d.modIface fun x => { x with avtpSeq := kvPut x.avtpSeq k seq }
        if gap = 0 then d else linkRecord (0x20 + p) 6 i gap (d.bump (SENS_SEQ_GAP_COUNT p))
      | _ => d
    let x := ring d r
    let waiting := (d.iface.entries.filter fun e => e.ring == r && e.port == p).length
    if !x.en || ringProducer d r != ringPort d p + 2 then sensDrop p d
    else if x.size ≤ (x.prod + 2 ^ 32 - x.cons) % 2 ^ 32 + waiting then
      linkRecord (0x20 + p) 5 i r (d.bump (SENS_OVERRUN_COUNT p))
    else if entryClosed d p (entryAddr d p r (x.prod + waiting)) x.entry then
      let (v, d) := (sensDrop p d).free
      d.record 0x0B 1 (d.siteUnit ((edgeRouter (0x20 + p) 0 0).getD 0)) v
    else
      let room := x.entry - 16
      let d := if pl.length ≤ room then d
        else linkRecord (0x20 + p) 7 i (pl.length - room) (d.bump (SENS_TRUNC_COUNT p))
      let d := d.wr (SENS_FLOW_FRAMES k) (d.rd (SENS_FLOW_FRAMES k) + 1)
      let e : SensEntry :=
        { port := p, flow := i, ring := r, ns, payload := pl.take room, source := fld c 27 16 + p * 2 ^ 12,
          paired := d.chanMode == 2, tick := d.time.tb }
      d.modIface fun x => { x with entries := x.entries ++ [e] }

/-- A port receives frames: enabled, up. -/
def portRuns (d : Dev) (p : Nat) : Bool := !d.held && bitOf (d.rd (SENS_CFG p)) 0 && bitOf (d.rd (SENS_STATUS p)) 0

/-- A frame arrives (R605 to R607): its bytes with the frame check sequence. -/
def sensorFrame (p : Nat) (bs : List Byte) (d : Dev) : Dev :=
  if !portRuns d p then d
  else if bs.length < 64 ∨ 9216 < bs.length ∨ leNat (bs.drop (bs.length - 4)) ≠ fcs (bs.take (bs.length - 4)) then sensDrop p d
  else if !addressed d p bs then d
  else
    match etherBody (bs.take (bs.length - 4)) with
    | none => sensDrop p d
    | some (t, b) =>
      let d := d.bump (SENS_RX_COUNT p)
      if ownProtocol t b then d
      else
        let f := flowFrame d p t b
        match (List.range 16).find? fun i => flowMatches d p i f with
        | none => sensDrop p d
        | some i => sensEntry p i f d

/-- Writes of a port to external memory, line by line; a line of a failed memory port is lost (09_external_memory.md R386). -/
def linesWrite : Nat → Nat → List Byte → Dev → Dev × List MemWrite
  | 0, _, _, d => (d, [])
  | n + 1, a, bs, d =>
    if bs.isEmpty then (d, [])
    else
      let k := 64 - a % 64
      let m := (memMap (joinGib d) a).1
      let r := linesWrite n (a + k) (bs.drop k) d
      (r.1, if portFailed d m then r.2 else .bytes a (bs.take k) :: r.2)

/-- The bytes of an entry (R330, R607). -/
def entryBytes (e : SensEntry) (prod size : Nat) : List Byte :=
  let b := leBytes 6 (e.ns / 1000000000) ++ leBytes 2 e.source ++ leBytes 4 (e.ns % 1000000000) ++ leBytes 4 prod ++ e.payload
  b ++ List.replicate (size - b.length) 0

/-- One copy of an entry is written (DEDUCED, unsafe: notes/assumptions/79.md). -/
def entryWrite (e : SensEntry) (d : Dev) : Dev × List MemWrite :=
  let x := ring d e.ring
  linesWrite (x.entry / 64 + 1) (entryAddr d e.port e.ring x.prod) (entryBytes e x.prod x.entry) d

/-- The partner of a paired entry: the other port's entry of the flow with the same capture time (R608). -/
def partnerOf (e o : SensEntry) : Bool := o.port % 4 == e.port % 4 && o.port != e.port && o.flow == e.flow && o.ns == e.ns

/-- The oldest entry of a port is written and acknowledged: RING_PROD advances (R607); a paired entry waits for its
partner (R608) (DEDUCED, unsafe: notes/assumptions/79.md). -/
def sensorEntryDone (p : Nat) (d : Dev) : Dev × List MemWrite :=
  match d.iface.entries.find? fun e => e.port == p with
  | none => (d, [])
  | some e =>
    let advance := fun (d : Dev) => wake (d.wr (STRM_RING_PROD e.ring) (d.rd (STRM_RING_PROD e.ring) + 1))
    let take := fun (o : SensEntry) (d : Dev) => d.modIface fun x => { x with entries := x.entries.erase o }
    if e.paired then
      match d.iface.entries.find? fun o => partnerOf e o with
      | none => (d, [])
      | some o =>
        let r := andThen (entryWrite e (take o (take e d))) (entryWrite o)
        (advance r.1, r.2)
    else
      let r := entryWrite e (take e d)
      (advance r.1, r.2)

/-- A paired entry without a partner within 1 ms is dropped (R608) (DEDUCED, unsafe: notes/assumptions/79.md). -/
def pairMiss (p : Nat) (d : Dev) : Dev :=
  match d.iface.entries.find? fun e => e.port == p with
  | none => d
  | some e =>
    if e.paired && !d.iface.entries.any (partnerOf e) && decide (e.tick + usTicks 1000 ≤ d.time.tb) then
      let d := d.modIface fun x => { x with entries := x.entries.erase e }
      (d.bump (SENS_PAIR_MISS_COUNT (p % 4))).bump (SENS_PAIR_MISS_COUNT (p % 4 + 4))
    else d

/-- An ARP request or a Neighbor Solicitation for the port's own address is answered (R605). -/
def arpRequest (p : Nat) (v6 : Bool) (d : Dev) : Dev :=
  let own := if v6 then portIpv6 d p else (d.rd (SENS_IPV4 p)).toNat
  if portRuns d p && own != 0 then
    { (d.bump (SENS_RX_COUNT p)) with tx := d.tx ++ [.ethernet p (b2n v6) [own]] }
  else d

/-! ### gPTP (R610) -/

def gptpOn (d : Dev) (p : Nat) : Bool := portRuns d p && bitOf (d.rd (SENS_CFG p)) 4
/-- TIME.SRC selects the port. -/
def gptpSelected (d : Dev) (p : Nat) : Bool := d.rdF TIME_SRC 1 0 == 1 && d.rdF TIME_SRC 6 4 == p

/-- GPTP_STATE changes with a record (R626) (DEDUCED, unsafe: notes/assumptions/81.md). -/
def gptpState (p st : Nat) (d : Dev) : Dev :=
  if d.rdF (SENS_STATUS p) 5 4 = st then d else linkRecord (0x20 + p) 9 st 0 (d.wrF (SENS_STATUS p) 5 4 st)

/-- A Sync, with its Follow_Up, gives the servo an offset of the own TAI from the grandmaster, in ns (R395, R610) (DESIGN CHOICE, unsafe: notes/assumptions/33.md; DEDUCED, unsafe: notes/assumptions/81.md). -/
def gptpSync (p : Nat) (off : Int) (d : Dev) : Dev :=
  if gptpOn d p && gptpSelected d p then
    servoMeasure off (gptpState p 2 d)
  else d

/-- A received Announce ranks above the port: the selected port is a slave, another passive (DEDUCED, unsafe: notes/assumptions/81.md). -/
def gptpAnnounce (p : Nat) (d : Dev) : Dev :=
  if gptpOn d p then gptpState p (if gptpSelected d p then 2 else 3) d else d

/-- Peer-delay messages are answered; the selected port's mean link delay is updated. -/
def gptpPdelay (p ns : Nat) (d : Dev) : Dev :=
  if gptpOn d p then
    let d := { d with tx := d.tx ++ [.ethernet p 2 []] }
    if gptpSelected d p then d.wrN (SENS_PDELAY_NS p) ns else d
  else d

/-! ### SerDes links (R626, R627) -/

def isLink (code : Nat) : Bool := decide (0x20 ≤ code ∧ code < 0x28) || decide (0x30 ≤ code ∧ code < 0x34)

def linkLanes (code : Nat) : Nat := if code < 0x30 then 1 else 8
/-- Rate of a link as its records give it: 0 for 10G, 1 for 25G, 2 for 1.6T. -/
def linkRate (d : Dev) (code : Nat) : Nat := if code < 0x30 then d.rdF (SENS_CFG (code - 0x20)) 1 1 else 2

/-- A port that is down retrains (R627) (DEDUCED, unsafe: notes/assumptions/82.md). -/
def linkRetrain (code : Nat) (ok : Bool) (d : Dev) : Dev :=
  let w := d.rd (linkStatus code)
  if d.held || bitOf w 0 || bitOf w 1 then d
  else if ok then
    let was := planes d
    let d := linkRecord code 1 (linkRate d code) (linkLanes code)
      ((linkUp code d).modIface fun x => { x with attempts := kvDel x.attempts code })
    planeEvents was (planes d) d
  else
    let n := kvGetD d.iface.attempts 0 code + 1
    linkRecord code 3 0 n (d.modIface fun x => { x with attempts := kvPut x.attempts code n })

/-- A port goes down in service (R627): a sensor port's entries in progress stay (DESIGN CHOICE, safe: notes/assumptions/104.md). -/
def linkDown (code : Nat) (d : Dev) : Dev :=
  let w := d.rd (linkStatus code)
  if d.held || !bitOf w 0 then d
  else
    let was := planes d
    let d := d.wrF (linkStatus code) 0 0 0
    let d := linkRecord code 2 0 0 (if code < 0x30 then d else d.wrF (linkStatus code) 15 8 0)
    planeEvents was (planes d) d

/-- A link error of the PCIe port (R626, R629) (DEDUCED, unsafe: notes/assumptions/82.md). -/
def aer (unc : Bool) (status : Nat) (d : Dev) : Dev :=
  if hostUp d then linkRecord 0x10 4 (b2n unc) status (d.bump (if unc then PCIE_AER_UE_COUNT else PCIE_AER_CE_COUNT)) else d

/-! ### The management target (R617) -/

/-- The agent of the Pewter pair that performs the services (13_faults_recovery.md R489). -/
def serviceAgent (d : Dev) : Nat := 0x10 + 2 * ((workingPairs d).headD 0)

/-- Pewter firmware runs. -/
def firmwareOn (d : Dev) : Bool := !d.held && d.up && !d.boot.restarting

def managementAnswer (bs : List Byte) (d : Dev) : Dev := { d with tx := d.tx ++ [.management bs], resp := { kind := .ok, bytes := bs } }
def nack (d : Dev) : Dev := { d with resp := { kind := .negative } }

/-- PEEK: a register as a debug peek; a reserved offset is a violation and answers 0xFF and 0 (R64) (DEDUCED, unsafe: notes/assumptions/83.md). -/
def mgmtPeek (pec : Bool) (off : Nat) (d : Dev) : Dev :=
  if !pec || !firmwareOn d then nack d
  else if implemented off then
    let (w, d) := readWord (serviceAgent d) true (off / 4 * 4) d
    managementAnswer (0 :: leBytes 4 w.toNat) d
  else managementAnswer (0xFF :: leBytes 4 0) (d.violation (serviceAgent d) false false off)

/-- COOLANT: quarter °C in two's complement. -/
def mgmtCoolant (pec : Bool) (q : Nat) (d : Dev) : Dev :=
  if !pec || !firmwareOn d then nack d
  else coolantEval ((d.wrN THERM_COOLANT_IN (q % 65536 + 2 ^ 31)).modIface fun x => { x with coolantTick := d.time.tb })

/-- No COOLANT for 10 s. -/
def coolantTimeout (d : Dev) : Dev :=
  if bitOf (d.rd THERM_COOLANT_IN) 31 && decide (d.iface.coolantTick + usTicks 10000000 ≤ d.time.tb) then
    coolantEval (d.wrF THERM_COOLANT_IN 31 31 0)
  else d

/-- DATA_WRITE: up to 240 bytes into the 64 KiB area; an overrun sets status RANGE (DEDUCED, unsafe: notes/assumptions/83.md). -/
def mgmtData (pec : Bool) (off : Nat) (bs : List Byte) (d : Dev) : Dev :=
  if !pec || d.held || decide (240 < bs.length) then nack d
  else if 65536 < off + bs.length then d.modBoot fun b => { b with bmcStatus := setFld (w32 b.bmcStatus) 23 16 1 |>.toNat }
  else d.modBoot fun b => { b with bmcData := bs.zipIdx.foldl (fun m e => kvSetD m 0 (off + e.2) e.1) b.bmcData }

/-- REQUEST (R572, R573): its SEQ follows the last (DEDUCED, unsafe: notes/assumptions/83.md). -/
def mgmtRequest (pec : Bool) (op len off : Nat) (d : Dev) : Dev :=
  if !pec || d.held || (d.boot.stop && d.boot.rom) || (d.boot.restarting && !d.boot.rom) then nack d
  else
    let seq := (d.boot.bmcStatus + 1) % 65536
    let busy := (d.boot.req.any (·.bmc)) || d.boot.waiting.any (·.bmc)
    let d := d.modBoot fun b => { b with bmcStatus := seq + (if busy then 0x0C * 2 ^ 16 + 2 ^ 31 else 0) }
    reqArrive { seq, op := op % 256, len, off, bmc := true } id d

def mgmtStatus (pec : Bool) (d : Dev) : Dev := if !pec || d.held then nack d else managementAnswer (leBytes 4 d.boot.bmcStatus) d

/-! ### JTAG (R579, R618) -/

/-- An instruction enters the instruction register (DEDUCED, unsafe: notes/assumptions/84.md). -/
def jtagIr (code : Nat) (d : Dev) : Dev := d.modIface fun x => { x with jtagIr := code, trstLow := false }

def jtagExtest (cells : List Bool) (d : Dev) : Dev := (jtagIr 0 d).modIface fun x => { x with cells }
/-- The pins are sampled, an order of cells not being stated: a free value; the cells are preloaded (DEDUCED, unsafe: notes/assumptions/84.md). -/
def jtagSample (cells : List Bool) (d : Dev) : Dev :=
  let (v, d) := (jtagIr 2 d).free
  { (d.modIface fun x => { x with cells }) with tx := d.tx ++ [.tdo (leBytes ((cells.length + 7) / 8) v)] }

def idcode : Nat := Config.siliconRevision % 16 * 2 ^ 28 + 0xC012 * 2 ^ 12 + Config.jep106 % 2048 * 2 + 1
def jtagIdcode (d : Dev) : Dev := let d := jtagIr 1 d; { d with tx := d.tx ++ [.tdo (leBytes 4 idcode)] }

/-- AUTH: the token is served by firmware as an AUTH request's (R578, R579); its result is read from the register (DEDUCED, unsafe: notes/assumptions/84.md). -/
def jtagAuth (token : List Byte) (d : Dev) : Dev :=
  let d := jtagIr 0x11 d
  if !firmwareOn d || token.length ≠ 248 then d
  else
    let op := numAt token 24 1
    let (d, c) := if op = 0 ∨ 3 < op then (d, 0x0B) else authRun op token d
    let d := authEnd op c d
    { d with tx := d.tx ++ [.tdo (leBytes 1 c)] }

/-- TRST_N is asserted: the TAP is reset and the debug session ends (R77, R579) (DEDUCED, unsafe: notes/assumptions/84.md). -/
def trstAssert (d : Dev) : Dev :=
  let d := d.modIface fun x => { x with jtagIr := 1, trstLow := true }
  if d.held then d else if d.unlocked then sessionEnd d else breakLocksOf agentDebug d

/-! ### Console, event pins, ALERT_N and FAULT_N (R619 to R624) -/

def uartInput (bs : List Byte) (d : Dev) : Dev :=
  if !d.held && d.unlocked then d.modIface fun x => { x with console := x.console ++ bs } else d

/-- Checks of a write of EVT_CFG_n (R622) (DEDUCED, unsafe: notes/assumptions/85.md). -/
def evtCfgChecks (d : Dev) (n agent : Nat) (data : Word) : List Check :=
  let cur := fld (d.rd (PINS_EVT_CFG n)) 3 0
  let f := fld data 3 0
  let owner := fld (d.rd (PINS_EVT_CFG n)) 23 16
  let release := f == 0 && cur != 0
  d.baseChecks agent .pins ++
  [(.owner, release && !(agent == owner || isPewter agent || agent == agentDebug)),
   (.state, release && ((cur == 1 && d.rdF CAD_CTRL 1 0 == 1) || (cur == 2 && d.rdF TIME_SRC 1 0 == 2))),
   (.conflict, f != 0 && cur != 0),
   (.conflict, decide (1 ≤ f ∧ f ≤ 3) && (List.range 8).any fun m => m != n && fld (d.rd (PINS_EVT_CFG m)) 3 0 == f),
   (.reserved, decide (7 ≤ f) || decide (data.toNat &&& 0xFF0000E0 ≠ 0)),
   (.range, decide (4 ≤ f ∧ f ≤ 6) && fld data 15 8 == 0)]

/-- A write of EVT_CFG_n claims or releases a pin's function (R622) (DEDUCED, unsafe: notes/assumptions/85.md). -/
def evtCfgWrite (n agent : Nat) (data : Word) (d : Dev) : Dev :=
  d.checked .pins (0x100 + 4 * n) agent (evtCfgChecks d n agent data) fun d =>
    let owner := if fld data 3 0 = 0 then 0 else agent
    let d := d.setActive .pins (0x100 + 4 * n) (w32 (fld data 15 0 + owner % 256 * 2 ^ 16))
    { d with cad := { d.cad with pulses := kvDel d.cad.pulses n } }

/-- A pulse ends WIDTH_US after its last event (R621). -/
def evtPulseEnd (n : Nat) (d : Dev) : Dev :=
  match kvGet? d.cad.pulses n with
  | some t =>
    if t + usTicks (d.rdF (PINS_EVT_CFG n) 15 8) ≤ d.time.tb then { d with cad := { d.cad with pulses := kvDel d.cad.pulses n } } else d
  | none => d

/-- A source of ALERT_N clears 100 ms after its last assertion (R623) (DEDUCED, unsafe: notes/assumptions/85.md). -/
def alertTimeout (src : Nat) (d : Dev) : Dev :=
  match kvGet? d.iface.alertTick src with
  | some t =>
    if t + usTicks 100000 ≤ d.time.tb then
      (d.wr PINS_ALERT_SRC (setBit (d.rd PINS_ALERT_SRC) src false)).modIface fun x => { x with alertTick := kvDel x.alertTick src }
    else d
  | none => d

/-- A W1C write of ALERT_SRC or FAULT_SRC (R623, R624). -/
def srcClear (a agent : Nat) (data : Word) (d : Dev) : Dev :=
  d.checked .pins (a % 4096) agent (d.baseChecks agent .pins ++ [(.reserved, decide (fld data 31 2 ≠ 0))])
    fun d => d.wr a (d.rd a &&& ~~~data)

def alertClear (agent : Nat) (data : Word) (d : Dev) : Dev :=
  d.checked .pins 0x124 agent (d.baseChecks agent .pins ++ [(.reserved, decide (fld data 31 2 ≠ 0))]) fun d =>
    let d := d.wr PINS_ALERT_SRC (d.rd PINS_ALERT_SRC &&& ~~~data)
    (List.range 2).foldl (fun d i => if bitOf (d.rd PINS_ALERT_SRC) i then d else d.modIface fun x => { x with alertTick := kvDel x.alertTick i }) d

/-! ### Commands -/

def unitSens (p : Nat) : Bool := decide (p < 8)
def unitPin (n : Nat) : Bool := decide (n < 8)

/-- SENSOR_FRAME (R607): the frame's bytes, its frame check sequence last. -/
def execSensorFrame (port : Nat) (frame : List Byte) (s : State) : Result := guardUnit (unitSens port) (onDev (sensorFrame port frame) s)
/-- SENSOR_ENTRY_DONE (R607). -/
def execSensorEntryDone (port : Nat) (s : State) : Result := guardUnit (unitSens port) (onDevMem (fun _ d => sensorEntryDone port d) s)
/-- PAIR_MISS_TIMEOUT (R608). -/
def execPairMissTimeout (port : Nat) (s : State) : Result := guardUnit (unitSens port) (onDev (pairMiss port) s)
/-- ARP_REQUEST (R605): `v6` for a Neighbor Solicitation. -/
def execArpRequest (port : Nat) (v6 : Bool) (s : State) : Result := guardUnit (unitSens port) (onDev (arpRequest port v6) s)
/-- GPTP_SYNC (R610): the measured offset in ns. -/
def execGptpSync (port : Nat) (off : Int) (s : State) : Result := guardUnit (unitSens port) (onDev (gptpSync port off) s)
/-- GPTP_ANNOUNCE (R610). -/
def execGptpAnnounce (port : Nat) (s : State) : Result := guardUnit (unitSens port) (onDev (gptpAnnounce port) s)
/-- GPTP_PDELAY (R610): the mean link delay measured. -/
def execGptpPdelay (port ns : Nat) (s : State) : Result := guardUnit (unitSens port) (onDev (gptpPdelay port ns) s)
/-- LINK_RETRAIN (R627): of a sensor or spur port by port code. -/
def execLinkRetrain (code : Nat) (ok : Bool) (s : State) : Result := guardUnit (isLink code) (onDev (linkRetrain code ok) s)
/-- SERDES_LINK_DOWN (R627). -/
def execSerdesLinkDown (code : Nat) (s : State) : Result := guardUnit (isLink code) (onDev (linkDown code) s)
/-- AER (R626). -/
def execAer (unc : Bool) (status : Nat) (s : State) : Result := onDev (aer unc status) s
/-- PEEK (R617). -/
def execPeek (pec : Bool) (off : Nat) (s : State) : Result := onDev (mgmtPeek pec off) s
/-- COOLANT (R617). -/
def execCoolant (pec : Bool) (q : Nat) (s : State) : Result := onDev (mgmtCoolant pec q) s
/-- COOLANT_TIMEOUT (R617). -/
def execCoolantTimeout (s : State) : Result := onDev coolantTimeout s
/-- DATA_WRITE (R617). -/
def execDataWrite (pec : Bool) (off : Nat) (data : List Byte) (s : State) : Result := onDev (mgmtData pec off data) s
/-- REQUEST (R617). -/
def execRequest (pec : Bool) (op len off : Nat) (s : State) : Result := onDev (mgmtRequest pec op len off) s
/-- REQ_STATUS (R617). -/
def execReqStatus (pec : Bool) (s : State) : Result := onDev (mgmtStatus pec) s
/-- DYNAMIC_ADDRESS_ASSIGN (R617). -/
def execDynamicAddressAssign (addr : Nat) (s : State) : Result := onDev (fun d => d.modIface fun x => { x with dynAddr := some (addr % 128) }) s
/-- EXTEST (R618). -/
def execExtest (cells : List Bool) (s : State) : Result := onDev (jtagExtest cells) s
/-- IDCODE (R618). -/
def execIdcode (s : State) : Result := onDev jtagIdcode s
/-- SAMPLE/PRELOAD (R618). -/
def execSamplePreload (cells : List Bool) (s : State) : Result := onDev (jtagSample cells) s
/-- CLAMP (R618). -/
def execClamp (s : State) : Result := onDev (jtagIr 3) s
/-- HIGHZ (R618). -/
def execHighz (s : State) : Result := onDev (jtagIr 4) s
/-- DAP (R618). -/
def execDap (s : State) : Result := onDev (jtagIr 0x10) s
/-- AUTH (R579). -/
def execJtagAuth (token : List Byte) (s : State) : Result := onDev (jtagAuth token) s
/-- BYPASS, or any unknown code (R618). -/
def execBypass (s : State) : Result := onDev (jtagIr 0xFF) s
/-- TRST_ASSERT (R579). -/
def execTrstAssert (s : State) : Result := onDev trstAssert s
/-- UART_INPUT (R619). -/
def execUartInput (data : List Byte) (s : State) : Result := onDev (uartInput data) s
/-- EVT_CFG_WRITE (R622). -/
def execEvtCfgWrite (n agent : Nat) (data : Word) (s : State) : Result := guardUnit (unitPin n) (onDev (evtCfgWrite n agent data) s)
/-- EVT_PULSE_END (R621). -/
def execEvtPulseEnd (n : Nat) (s : State) : Result := guardUnit (unitPin n) (onDev (evtPulseEnd n) s)
/-- ALERT_TIMEOUT (R623): 0 RECORD, 1 DIRECT. -/
def execAlertTimeout (src : Nat) (s : State) : Result := guardUnit (decide (src < 2)) (onDev (alertTimeout src) s)
/-- ALERT_CLEAR (R623). -/
def execAlertClear (agent : Nat) (data : Word) (s : State) : Result := onDev (alertClear agent data) s
/-- FAULT_CLEAR (R624). -/
def execFaultClear (agent : Nat) (data : Word) (s : State) : Result := onDev (srcClear PINS_FAULT_SRC agent data) s

end Sys2Proof.Machine
end

