-- ==== Sys2Proof/Machine/Snap.lean ====
section
/-! DEFINITION. Latching and spilling snapshots (02_control_model.md R89 to R95, R100), with the snapshot area that each
page's chapter gives. -/

namespace Sys2Proof.Machine

/-! ### The contents of the snapshot areas -/

/-- Page offset in the snapshot area, and the word latched there. -/
abbrev SaData := List (Nat × Word)

/-- Registers of a page laid from an offset of the area (DEDUCED, unsafe: notes/assumptions/24.md). -/
def saRegs (d : Dev) (p : Page) (at_ : Nat) (offs : List Nat) : SaData :=
  offs.zipIdx.map fun e => (at_ + 4 * e.2, viewPage d p e.1)

/-- The group of SNAP_STREAM_n (08_streams_context.md R361). -/
def saStream (d : Dev) (n : Nat) : SaData :=
  let w := d.rd (STRM_SNAP_STREAM n)
  let s := fld w 13 0
  if bitOf w 31 then
    [(0x60 + 16 * n, w32 (s + d.strmSt s * 2 ^ 16)), (0x64 + 16 * n, w32 (strmBeat d s + 2 ^ 48 - 1)),
     (0x68 + 16 * n, w32 (d.dF s 4 26 0)), (0x6C + 16 * n, w32 (d.dF s 5 25 0))]
  else []

/-- SA_DATA of a page (R101, R147, R269, R361, R363, R389, R425, R428, R444, R481, R521, R563, R599, R632). The spec gives
the DEV, LOCK, SNAP and DBG pages none (DEDUCED, unsafe: notes/assumptions/24.md). -/
def saData (d : Dev) (p : Page) : SaData :=
  match p with
  | .dev | .lock | .snap | .dbg => []
  | .lic => saRegs d p 0x50 [0x100, 0x104]
  | .flt => saRegs d p 0x50 [0x100, 0x154]
  | .floor => saRegs d p 0x50 [0x100, 0x104, 0x108]
  | .time =>
    let ns := match d.ctl.snap with
      | some s => d.taiNsAt s.tick
      | none => d.taiNs
    [(0x50, w32 (ns / 1000000000)), (0x54, w32 (ns / 1000000000 / 2 ^ 32 % 65536)), (0x58, w32 (ns % 1000000000))] ++
      saRegs d p 0x5C [0x134, 0x138]
  | .cad => saRegs d p 0x50 [0x10C, 0x110, 0x114, 0x118, 0x158]
  | .clk => saRegs d p 0x50 [0x120, 0x128, 0x138, 0x13C]
  | .pwr => saRegs d p 0x50 [0x108, 0x10C, 0x114] ++ saRegs d p 0x60 ((List.range 12).map fun f => 0x130 + 4 * f)
  | .therm => saRegs d p 0x50 [0x100, 0x104, 0x110]
  | .strm => saRegs d p 0x50 [0x10C, 0x110, 0x114, 0x118] ++ (List.range 4).flatMap (saStream d)
  | .sel => saRegs d p 0x50 ((List.range 12).map fun f => 0x180 + 4 * f)
  | .chan => saRegs d p 0x50 [0x104]
  | .twin => saRegs d p 0x50 [0x10C, 0x110, 0x114]
  | .herd => saRegs d p 0x50 [0x118, 0x128, 0x120, 0x124]
  | .pins => saRegs d p 0x50 [0x120, 0x124, 0x128, 0x12C]
  | .boot => saRegs d p 0x50 [0x104, 0x118]
  | .pcie => saRegs d p 0x50 [0x100, 0x104]
  | .sens => saRegs d p 0x50 ((List.range 8).map fun i => 0x120 + 64 * i)
  | .spur => saRegs d p 0x50 [0x100, 0x104, 0x108, 0x10C, 0x164, 0x168]
  | .pmb => saRegs d p 0x50 ((List.range 18).map fun r => 0x160 + 4 * r)
  | .field _ => saRegs d p 0x50 [0x100, 0x104, 0x108, 0x904, 0x908]
  | .seq _ => saRegs d p 0x50 [0x108, 0x11C, 0x120, 0x124, 0x130, 0x134, 0x138, 0x13C, 0x180, 0x10C, 0x128]
  | .trace _ => saRegs d p 0x50 [0x104, 0x108, 0x114]
  | .memp _ => saRegs d p 0x50 [0x104, 0x108, 0x128, 0x130, 0x118]
  | .tile _ => saRegs d p 0x50 [0x104, 0x10C, 0x120] ++ saRegs d p 0x60 ((List.range 16).map fun c => 0x180 + 4 * c) ++
      saRegs d p 0xA0 ((List.range 8).map fun q => 0x218 + 16 * q) ++ saRegs d p 0xC0 [0x110, 0x114, 0x118, 0x11C]

/-! ### Latching (R89 to R92) -/

/-- A page latches in its area what the device held at the instant of the latch (DEDUCED, unsafe: notes/assumptions/25.md). -/
def latchPage (src : Dev) (p : Page) (id : Nat) (late : Bool) (d : Dev) : Dev :=
  let head : SaData := [(0x40, w32 id), (0x44, w32 (b2n late)), (0x48, src.status p), (0x4C, src.rd (p.base + 0x20))]
  let area := head ++ saData src p
  let d := (List.range 48).foldl (fun d i => d.wr (p.base + 0x40 + 4 * i) 0) d
  let d := area.foldl (fun d e => d.wr (p.base + e.1) e.2) d
  let d := d.wrN (p.base + 0x24) id
  let d := d.wrF (p.base + 0xC) 5 5 (b2n late)
  if late then d.wr SNAP_LATE_PAGES (d.rd SNAP_LATE_PAGES + 1) else d

/-- The field whose spill a page belongs to (R94) (DEDUCED, unsafe: notes/assumptions/25.md). -/
def Page.spillField : Page → Option Nat
  | .field f => some f | .seq q => some (q / 4) | .tile s => some (siteField s) | _ => none

/-- Areas of a field's spill (R94). -/
def spillPages : Nat := 1157

def modSnap (f : Snap → Snap) (d : Dev) : Dev := { d with ctl := { d.ctl with snap := d.ctl.snap.map f } }

/-- The field's pages have all met the trigger: its spill starts (R94, R100), while its buffer is powered (DEDUCED, unsafe: notes/assumptions/25.md). -/
def spillBegin (f : Nat) (d : Dev) : Dev :=
  match d.ctl.snap with
  | some s =>
    if s.spill && kvGetD s.fieldDone 0 f == spillPages && d.domOn (144 + f) then
      (spillStart f s.id (modSnap (fun s => { s with spilling := setIns s.spilling f }) d)).wrF SNAP_STATE 1 1 1
    else d
  | none => d

/-- The device as the trigger in flight found it at T, where the trigger came before T (R89, R90) (DEDUCED, unsafe: notes/assumptions/25.md). -/
def snapShot (shot : Option Dev) (id : Nat) : Option Dev :=
  shot.filter fun e => match e.ctl.snap with
    | some s => s.id == id && s.reached
    | none => false

/-- A page meets the trigger at or after T (R89, R91): in time it latches what the device held at T, before anything that
took effect in that cycle (R90); late, or where the trigger itself came at or after T, what it holds on arrival. During a stop of the meshes no page latches: a
snapshot of that interval is latched after T_r and is not late for it (11_clocking.md R437) (DEDUCED, unsafe: notes/assumptions/25.md). -/
def snapLatch (shot : Option Dev) (p : Page) (late : Bool) (d : Dev) : Dev :=
  match d.ctl.snap with
  | none => d
  | some s =>
    if !s.reached || s.done.contains p.base || d.chgState == 2 then d
    else
      let src := if late then d else (snapShot shot s.id).getD d
      let late := late || (snapShot shot s.id).isNone
      let d := if src.isFenced p || !bitOf (src.rd (p.base + 8)) 2 then d else latchPage src p s.id late d
      let d := modSnap (fun s => { s with done := p.base :: s.done }) d
      let d := match p.spillField with
        | some f => spillBegin f (modSnap (fun s => { s with fieldDone := kvPut s.fieldDone f (kvGetD s.fieldDone 0 f + 1) }) d)
        | none => d
      snapEnd d

/-! ### The spill (R94, R100) -/

/-- The pages of a field's spill, in order. -/
def spillOrder (f : Nat) : List Page :=
  .field f :: (List.range 4).map (fun s => .seq (4 * f + s)) ++ (List.range 1152).map fun i => .tile (siteOfLocal f i)

/-- The words of an area: those of a dark page are 0 (DEDUCED, unsafe: notes/assumptions/24.md). -/
def areaWords (d : Dev) (p : Page) : List Word := (List.range 48).map fun i => viewPage d p (0x40 + 4 * i)

/-- The copy of a field finishes: its areas lie in the buffer from offset 0, and SA_FLAGS.SPILLED is set in the pages that
latched. -/
def spillComplete (f : Nat) (d : Dev) : Dev :=
  match d.ctl.snap with
  | none => d
  | some s =>
    if !s.spilling.contains f then d
    else
      let words := (spillOrder f).flatMap (areaWords d)
      let cells : KV Word := (words.zipIdx.filter fun e => e.1 != 0).map fun e => (e.2, e.1)
      let t := d.trace f
      let d := d.setTrace f { t with buf := cells ++ t.buf.filter fun (e : Nat × Word) => decide (spillEnd / 4 ≤ e.1) }
      let d := (spillOrder f).foldl (fun d p =>
        if d.rd (p.base + 0x40) == w32 s.id && !p.dark d then d.wrF (p.base + 0x44) 1 1 1 else d) d
      let d := modSnap (fun s => { s with spilling := setDel s.spilling f, spilled := setIns s.spilled f }) d
      let d := match d.ctl.snap with
        | some s => if s.spilling.isEmpty then d.wrF SNAP_STATE 1 1 0 else d
        | none => d
      snapEnd d

/-! ### Commands -/

/-- SNAP_LATCH (R89): of the page at a BAR 0 offset; `late` when the trigger reaches it after T. -/
def execSnapLatch (page : Nat) (late : Bool) (s : State) : Result :=
  match pageOf page with
  | some (p, 0) => onDev (snapLatch s.shot p late) s
  | _ => .fault .noSuchUnit

/-- SPILL_COMPLETE (R94). -/
def execSpillComplete (f : Nat) (s : State) : Result := guardUnit (unitField f) (onDev (spillComplete f) s)

end Sys2Proof.Machine
end

