-- ==== Sys2Proof/Machine/Apply.lean ====
section
/-! DEFINITION. Staged registers and their apply points (02_control_model.md R58 to R61): what each page checks of a
staged value at its write and of the staged set at the apply, and what an apply starts. -/

namespace Sys2Proof.Machine

/-! ### Checks of one staged value (R58) -/

/-- A DIV under R516, R443: 5 to 24, and at most 1.4 GHz. -/
def divBad (d : Dev) (div : Nat) : Bool :=
  decide (div < 5) || decide (24 < div) || decide (1400 * div < d.rdF CLK_VCO 13 0)

def fltValueChecks (d : Dev) (o : Nat) (w : Word) : List Check :=
  if o = 0x104 then [(.range, decide (fld w 7 0 = 0))]
  else if o = 0x114 then [(.range, decide (fld w 11 0 ≠ 0))]
  else if o = 0x130 then [(.range, decide (fld w 7 0 = 0) || decide (fld w 15 8 = 0))]
  else if o = 0x144 then
    [(.range, decide (fld w 11 8 = 0) || decide (fld w 11 8 ≤ fld w 15 12) || decide (100 < fld w 23 16) || divBad d (fld w 4 0))]
  else if o = 0x14C then [(.range, decide (fld w 15 0 ≠ 0))]
  else []

def floorValueChecks (o : Nat) (w : Word) : List Check :=
  if o = 0x10C then [(.range, decide (fld w 16 0 ≠ 0))]
  else if o = 0x114 ∨ o = 0x11C then [(.range, decide (fld w 11 0 ≠ 0))]
  else []

def cadValueChecks (o : Nat) (w : Word) : List Check :=
  if o = 0x100 then [(.range, decide (fld w 11 8 < 2) || decide (10 < fld w 11 8))]
  else if o = 0x104 then [(.range, decide (fld w 17 0 < 20000) || decide (200000 < fld w 17 0))]
  else if o = 0x108 then [(.range, decide (fld w 9 0 = 0) || decide (1000 < fld w 9 0))]
  else []

def clkValueChecks (d : Dev) (o : Nat) (w : Word) : List Check :=
  if 0x100 ≤ o ∧ o < 0x120 then
    [(.licence, decide (oppDiv w < 6)),
     (.range, oppValid w && (decide (24 < oppDiv w) || !freqOk (d.rdF CLK_VCO 13 0) (oppDiv w) || decide (oppMv w < 550) ||
        decide (900 < oppMv w)))]
  else []

def pwrValueChecks (d : Dev) (o : Nat) (w : Word) : List Check :=
  if o = 0x100 then
    [(.licence, decide (licenceWatts d < fld w 15 0)),
     (.range, decide (4 * fld w 15 0 < licenceWatts d) || decide (fld w 23 16 = 0) || decide (60 < fld w 23 16))]
  else if o = 0x118 then
    [(.range, decide (60 < fld w 5 0) || decide (fld w 13 8 < 20) || decide (60 < fld w 13 8))]
  else if o = 0x120 then [(.licence, decide (licenceWatts d < fld w 15 0))]
  else []

def thermValueChecks (o : Nat) (w : Word) : List Check :=
  if o = 0x10C then [(.range, decide (fld w 7 0 < 85) || decide (100 < fld w 7 0))] else []

def pmbValueChecks (o : Nat) (w : Word) : List Check :=
  if o = 0x100 then [(.reserved, decide (fld w 1 0 = 3)), (.range, decide (fld w 13 8 = 0) || decide (50 < fld w 13 8))]
  else if 0x104 ≤ o ∧ o < 0x14C then [(.state, decide (o < 0x13C) && !bitOf w 24), (.range, decide (6 < fld w 18 16))]
  else if o = 0x150 then [(.range, decide (fld w 7 0 = 0))]
  else if o = 0x154 then [(.range, decide (fld w 7 0 < 20) || decide (100 < fld w 7 0))]
  else if o = 0x158 then [(.range, decide (fld w 9 0 < 650) || decide (850 < fld w 9 0))]
  else []

def chanValueChecks (d : Dev) (o : Nat) (w : Word) : List Check :=
  if o = 0x100 then [(.licence, fld w 1 0 == 2 && !licensed d 0x020), (.reserved, decide (fld w 1 0 = 3))] else []

def twinValueChecks (d : Dev) (o : Nat) (w : Word) : List Check :=
  if o = 0x100 then [(.licence, bitOf w 0 && !licensed d 0x010), (.range, decide (fld w 7 4 = 0) || decide (fld w 27 16 < 50) || decide (4000 < fld w 27 16))]
  else if o = 0x104 then [(.range, decide (16383 < fld w 13 0 + fld w 21 16))]
  else []

def herdValueChecks (d : Dev) (o : Nat) (w : Word) : List Check :=
  if o = 0x100 then
    [(.licence, bitOf w 31 && (!licensed d 0x011 || (bitOf w 25 && !licensed d 0x012))),
     (.range, decide (herdMax d ≤ fld w 21 16))]
  else if o = 0x104 then [(.range, decide (64 * licenceWatts d < fld w 18 0))]
  else if o = 0x10C then [(.range, decide (fld w 31 16 ≤ fld w 15 0))]
  else if o = 0x110 then [(.range, decide (fld w 5 0 ≠ 0))]
  else []

def sensValueChecks (d : Dev) (o : Nat) (w : Word) : List Check :=
  if o < 0x300 then
    if o % 64 = 0 then
      [(.reserved, decide (fld w 3 2 = 3)), (.range, fld w 3 2 == 2 && !bitOf w 1)]
    else if o % 64 = 4 then [(.range, bitOf w 0)]
    else []
  else if o % 16 = 0 then
    [(.licence, (fld w 1 0 == 1 && !licensed d 0x040) || (fld w 1 0 == 2 && !licensed d 0x041)), (.reserved, decide (fld w 1 0 = 3))]
  else []

def spurValueChecks (o : Nat) (w : Word) : List Check :=
  if o = 0x140 then [(.range, bitOf w 0 && fld w 15 8 == fld w 23 16)]
  else if o = 0x144 then [(.range, decide (126 < fld w 6 0))]
  else if o = 0x14C ∨ o = 0x154 then [(.range, decide (fld w 5 0 ≠ 0))]
  else []

def mempValueChecks (o : Nat) (w : Word) : List Check :=
  if o = 0x100 then [(.range, decide (45 < fld w 5 0))]
  else if o = 0x11C then [(.range, decide (fld w 7 0 = 0))]
  else if o = 0x120 then [(.range, decide (fld w 15 8 = 0) || decide (48 < fld w 15 8))]
  else []

/-- What a page checks of the value of one ST register, RSV bits apart (DEDUCED, unsafe: notes/assumptions/12.md). -/
def stagedChecks (d : Dev) (p : Page) (o : Nat) (w : Word) : List Check :=
  match p with
  | .flt => fltValueChecks d o w
  | .floor => floorValueChecks o w
  | .time => if o = 0x128 then [(.range, decide (1000000000 ≤ w.toNat))] else []
  | .cad => cadValueChecks o w
  | .clk => clkValueChecks d o w
  | .pwr => pwrValueChecks d o w
  | .therm => thermValueChecks o w
  | .pmb => pmbValueChecks o w
  | .strm => strmValueChecks d o w
  | .sel => selValueChecks o w
  | .chan => chanValueChecks d o w
  | .twin => twinValueChecks d o w
  | .herd => herdValueChecks d o w
  | .sens => sensValueChecks d o w
  | .spur => spurValueChecks o w
  | .memp _ => mempValueChecks o w
  | .field _ => if o = 0x900 then [(.range, decide (fld w 23 0 < 1024))] else []
  | _ => []

/-! ### Checks of the staged set (R60) -/

/-- A staged value differs from its active value. -/
def differs (d : Dev) (a : Nat) : Bool := d.stagedRd a != d.rd a

/-- A staged 39-bit base of BAR 2. -/
def stagedBase (d : Dev) (lo hi : Nat) : Nat := (d.stagedRd lo).toNat + 2 ^ 32 * fld (d.stagedRd hi) 6 0

/-- `n` bytes from a base reach beyond the installed memory. -/
def beyond (base n : Nat) : Bool := decide (memCapacity < base + n)

/-- Some stream is not FREE. -/
def anyOpen (d : Dev) : Bool := !(openStreams d).isEmpty

def fltSetChecks (d : Dev) : List Check :=
  [(.busy, differs d FLT_IBEX_CFG && d.flt.ibexRun.isSome),
   (.unmapped, beyond (stagedBase d FLT_IBEX_IMAGE_LO FLT_IBEX_IMAGE_HI) 0xC0000)]

/-- The bases of the floor-plan image, the refill lists and the patches, with the sizes of their regions (R519). -/
def floorBases : List (Nat × Nat × Nat) :=
  [(FLOOR_IMAGE_BASE_LO, FLOOR_IMAGE_BASE_HI, 0x40000), (FLOOR_REFILL_BASE_LO, FLOOR_REFILL_BASE_HI, 0x400000),
   (FLOOR_PATCH_BASE_LO, FLOOR_PATCH_BASE_HI, 216 * 2 ^ 20)]

def floorSetChecks (d : Dev) : List Check :=
  [(.state, anyOpen d && floorBases.any fun (b : Nat × Nat × Nat) => differs d b.1 || differs d b.2.1),
   (.unmapped, floorBases.any fun (b : Nat × Nat × Nat) => beyond (stagedBase d b.1 b.2.1) b.2.2)]

def chanSetChecks (d : Dev) : List Check :=
  [(.state, anyOpen d || d.rdF CHAN_CH_STATUS 1 0 != 0 || twinSt d == 1 || twinSt d == 2 || !(herdSt d == 0 || herdSt d == 5))]

/-- A stream ID lies in a CMP_RANGE. -/
def inRange (w : Word) (n : Nat) : Bool := decide (fld w 13 0 ≤ n ∧ n ≤ fld w 13 0 + fld w 21 16)

def twinSetChecks (d : Dev) : List Check :=
  let en := bitOf (d.stagedRd TWIN_CFG) 0
  let prog := fld (d.stagedRd TWIN_REBUILD_PROG) 5 0
  [(.state,
    (differs d TWIN_CMP_RANGE && (openStreams d).any fun n => inRange (d.rd TWIN_CMP_RANGE) n || inRange (d.stagedRd TWIN_CMP_RANGE) n) ||
    (en && herdEn d && !herdPaired d) || (en && !progValid d prog))]

def herdSetChecks (d : Dev) : List Check :=
  [(.state,
    ([HERD_CFG, HERD_MASK_BASE_LO, HERD_MASK_BASE_HI].any (differs d) && !(herdSt d == 0 || herdSt d == 5)) ||
    (bitOf (d.stagedRd HERD_CFG) 31 && d.chanMode == 1)),
   (.unmapped, beyond (stagedBase d HERD_MASK_BASE_LO HERD_MASK_BASE_HI) 8)]

/-- The enabled flows of a sensor port: kind and key. -/
def flowKeys (d : Dev) (p : Nat) : List (Nat × Word × Word) :=
  (List.range 16).filterMap fun i =>
    let a := SENS_FLOW_CTRL (16 * p + i)
    let k := fld (d.stagedRd a) 1 0
    if k = 0 then none else some (k, d.stagedRd (a + 4), d.stagedRd (a + 8))

/-- Some entry of a list comes twice. -/
def twice {α : Type} [DecidableEq α] : List α → Bool
  | [] => false
  | x :: t => t.contains x || twice t

def sensSetChecks (d : Dev) : List Check :=
  [(.state, (List.range 8).any fun p => bitOf (d.stagedRd (SENS_CFG p)) 0 && bitOf (d.rd (SENS_STATUS p)) 1),
   (.conflict, (List.range 8).any fun p => twice (flowKeys d p)),
   (.range, (List.range 8).any fun p => (flowKeys d p).any fun (f : Nat × Word × Word) =>
      f.1 == 2 && (decide (0xFFFF < f.2.1.toNat) || f.2.2 != 0))]

/-- A logical tile ID is bound in the binding table. -/
def idBound (d : Dev) (id : Nat) : Bool := bitOf (planEntry d id) 31

def spurSetChecks (d : Dev) : List Check :=
  let cfg := d.stagedRd SPUR_PX_CFG
  let slots := 64 * (fld (d.stagedRd SPUR_PX_SLOT) 6 0 + 1) * (fld cfg 31 24 + 1)
  [(.state, (bitOf cfg 0 && !herdEn d) ||
      ((herdSt d == 3 || herdSt d == 4) &&
        [SPUR_PX_CFG, SPUR_PX_SLOT, SPUR_PX_TX_BASE_LO, SPUR_PX_TX_BASE_HI, SPUR_PX_RX_BASE_LO, SPUR_PX_RX_BASE_HI].any (differs d))),
   (.unmapped, beyond (stagedBase d SPUR_PX_TX_BASE_LO SPUR_PX_TX_BASE_HI) slots ||
      beyond (stagedBase d SPUR_PX_RX_BASE_LO SPUR_PX_RX_BASE_HI) slots ||
      ((bitOf cfg 0 || differs d SPUR_PX_TILE) && !idBound d (fld (d.stagedRd SPUR_PX_TILE) 13 0)))]

def mempSetChecks (d : Dev) (m : Nat) : List Check :=
  (.state, m == 0 && differs d (MEMP_MAP 0) && anyOpen d) :: mempApplyChecks d m

/-- What a page checks of its staged values together (DEDUCED, unsafe: notes/assumptions/12.md). -/
def setChecks (d : Dev) (p : Page) : List Check :=
  match p with
  | .flt => fltSetChecks d
  | .floor => floorSetChecks d
  | .time => timeApplyChecks d
  | .cad => cadApplyChecks d
  | .clk => oppApplyChecks d
  | .pwr => pwrApplyChecks d
  | .therm => thermApplyChecks d
  | .pmb => pmbApplyChecks d
  | .sel => selApplyChecks d
  | .chan => chanSetChecks d
  | .twin => twinSetChecks d
  | .herd => herdSetChecks d
  | .sens => sensSetChecks d
  | .spur => spurSetChecks d
  | .memp m => mempSetChecks d m
  | _ => []

/-- The page offsets of the staged values that differ from their active values, ascending. -/
def stagedOffs (d : Dev) (p : Page) : List Nat :=
  d.staged.filterMap fun e => if p.base ≤ e.1 ∧ e.1 < p.base + p.size then some (e.1 - p.base) else none

/-- Every check of an apply (R60) (DEDUCED, unsafe: notes/assumptions/12.md; DEDUCED, unsafe: notes/assumptions/102.md). -/
def applyChecks (d : Dev) (p : Page) : List Check :=
  ((stagedOffs d p).flatMap fun o => stagedChecks d p o (d.stagedRd (p.base + o))) ++ setChecks d p

/-- The page's staged values but for those whose offset fails a test. -/
def keepStaged (d : Dev) (p : Page) (keep : Nat → Bool) : Dev :=
  { d with staged := d.staged.filter fun e => !decide (p.base ≤ e.1 ∧ e.1 < p.base + p.size) || keep (e.1 - p.base) }

/-- The first register of the base in BAR 2 that a register belongs to, else the register itself (DEDUCED, unsafe: notes/assumptions/12.md). -/
def baseHead (p : Page) (o : Nat) : Nat :=
  let his : List Nat := match p with
    | .flt => [0x150]
    | .floor => [0x110, 0x118, 0x120]
    | .herd => [0x114]
    | .spur => [0x150, 0x158]
    | _ => []
  if his.contains o then o - 4 else o

/-- The code of the first failing check and the offset of the first failing register (R60): the lowest whose staged
value fails with that code by itself, else the lowest without which the set no longer does, else the lowest staged; of a
base, its low word (DEDUCED, unsafe: notes/assumptions/12.md). -/
def applyFail (d : Dev) (p : Page) : Option (ErrCode × Nat) :=
  match firstFail (applyChecks d p) with
  | none => none
  | some c =>
    let offs := stagedOffs d p
    let fails := fun (d : Dev) => decide (firstFail (applyChecks d p) = some c)
    match offs.find? fun o => fails (keepStaged d p fun x => x == o) with
    | some o => some (c, baseHead p o)
    | none => match offs.find? fun o => !fails (keepStaged d p fun x => x != o) with
      | some o => some (c, baseHead p o)
      | none => some (c, baseHead p (offs.headD 0))

/-! ### The apply -/

/-- Every staged value of the page becomes its active value. -/
def copyStaged (p : Page) (d : Dev) : Dev :=
  let offs := stagedOffs d p
  let d' := offs.foldl (fun d o => d.setActive p o (d.stagedRd (p.base + o))) d
  keepStaged d' p fun _ => false

/-- GPTP of a sensor port turns on or off (16_interfaces_pins.md R605). -/
def gptpApplied (old : Dev) (d : Dev) : Dev :=
  (List.range 8).foldl (fun d p =>
    let was := bitOf (old.rd (SENS_CFG p)) 4
    let is := bitOf (d.rd (SENS_CFG p)) 4
    if is && !was then gptpState p 1 d else if was && !is then gptpState p 0 d else d) d

/-- What a page does once its new values are in force. -/
def applied (p : Page) (old : Dev) (d : Dev) : Dev × List MemWrite :=
  match p with
  | .cad =>
    let src := d.rdF CAD_CTRL 1 0
    (if old.rdF CAD_CTRL 1 0 = src then d else cadenceEnter src d, [])
  | .time => (timeApplied (old.rd TIME_SRC) d, [])
  | .pwr => (limitsRefresh (vsetRefreshAll d), [])
  | .pmb =>
    let v := d.rdF PMB_VMEM_MV 9 0
    let d := dutyRefreshAll d
    (if old.rdF PMB_VMEM_MV 9 0 = v then d
      else { d with tx := d.tx ++ [.regulator 12 0 (vset d 12), .regulator 13 0 (vset d 13)] }, [])
  | .twin =>
    if twinEn d && !twinEn old then (twinLink d, [])
    else if twinEn old && !twinEn d then (setTwin 0 d, [])
    else (d, [])
  | .herd =>
    if herdEn d && !herdEn old then (setHerd 1 (d.modPeer fun p => { p with otherMembers := none }), [])
    else if herdEn old && !herdEn d then (setHerd 0 d, [])
    else (d, [])
  | .sens => (gptpApplied old d, [])
  | .spur => (planeEvents (planes old) (planes d) d, [])
  | .memp m =>
    let d := if bitOf (old.rd (MEMP_SCRUB_CFG m)) 0 && !bitOf (d.rd (MEMP_SCRUB_CFG m)) 0 then scrubOff m d else d
    let j := joinGib old
    let j' := joinGib d
    (d, if m ≠ 0 ∨ j = j' then [] else [.rejoin j j'])
  | _ => (d, [])

/-- An apply of a page by an agent (R59 to R61); the answer says whether it was not rejected. An apply with no staged
value that differs has no effect (DEDUCED, unsafe: notes/assumptions/102.md). -/
def applyPage (agent : Nat) (p : Page) (d : Dev) : Bool × Dev × List MemWrite :=
  if stagedOffs d p = [] then (true, d, [])
  else match applyFail d p with
    | some (c, o) => (false, d.reject p o agent c, [])
    | none => (true, applied p d (copyStaged p d))

/-- A write of CTRL (R42): REJ_RECORD and TRACE are kept, APPLY is the page's apply point (DEDUCED, unsafe: notes/assumptions/13.md; DEDUCED, unsafe: notes/assumptions/102.md; DESIGN CHOICE, unsafe: notes/assumptions/125.md). -/
def ctrlWrite (agent : Nat) (p : Page) (data : Word) (d : Dev) : Dev × List MemWrite :=
  match firstFail (d.baseChecks agent p ++ [(.privilege, p == .dbg && agent == agentHost), (.reserved, decide (fld data 31 3 ≠ 0))]) with
  | some c => (d.reject p 8 agent c, [])
  | none =>
    let d := d.wr (p.base + 8) (data &&& 6)
    if bitOf data 0 then (applyPage agent p d).2 else (d, [])

/-- APPLY (R59): a write of 1 to CTRL.APPLY of the page at a BAR 0 offset, its other CTRL fields as given. -/
def execApply (agent : Nat) (page : Nat) (data : Word) (s : State) : Result :=
  match pageOf page with
  | some (p, 0) => onDevMem (fun _ d => ctrlWrite agent p (setBit data 0 true) d) s
  | _ => .fault .noSuchUnit

end Sys2Proof.Machine
end

