-- ==== Sys2Proof/Machine/Schedule.lean ====
section
/-! DEFINITION. The schedule table and the frame boundary (10_cadence_time.md R405, R411 to R419): adding, deleting,
issuing and firing entries, and what a new frame begins. -/

namespace Sys2Proof.Machine

/-! ### Entries (R411, R412) -/

def schedValid (d : Dev) (e : Nat) : Bool := bitOf (entryWord d e 1) 31
def entryFrame (d : Dev) (e : Nat) : Nat := (entryWord d e 0).toNat
def entryPhase (d : Dev) (e : Nat) : Nat := fld (entryWord d e 1) 15 0
def entryOwner (d : Dev) (e : Nat) : Nat := fld (entryWord d e 3) 31 24

/-- Bits of ARG0 and ARG1 that a type names; none for a reserved type. -/
def entryArgs (typ : Nat) : Option (Nat × Nat) :=
  match typ with
  | 1 => some (0x7, 0) | 2 => some (0x3FFF, 0) | 3 => some (0xFFFFFFFF, 0xFFFF)
  | 4 => some (0x3FFF3FFF, 0) | 5 => some (0, 0) | 6 => some (0xFFFF0F, 0) | _ => none

/-- ceil(PHASE × P / 65,536) (R414). -/
def phaseTicks (phase p : Nat) : Nat := (phase * p + 65535) / 65536

/-- Ticks from now to the instant of an entry to be added (R413): none when its frame is in the past. -/
def aheadTicks (d : Dev) (frame phase : Nat) : Option Int :=
  let n := (frame + 2 ^ 32 - d.frame) % 2 ^ 32
  if 2 ^ 31 ≤ n then none
  else
    let per := (d.rd CAD_PERIOD).toNat
    let p := if per = 0 then d.nomTicks else per
    let b : Int := if d.cad.framePeriod = 0 then (d.time.tb : Int) else (d.boundTick : Int)
    some (b + (n * p + phaseTicks phase p : Nat) - d.time.tb)

/-- What ADD checks of the four words (R411 to R413). -/
def addChecks (d : Dev) (ws : List Word) : List Check :=
  let w1 := ws.getD 1 0
  let w2 := ws.getD 2 0
  let w3 := ws.getD 3 0
  let typ := fld w1 19 16
  let opp := d.rd (CLK_OPP (fld w2 2 0))
  let near : Nat → Bool := fun n => match aheadTicks d (ws.getD 0 0).toNat (fld w1 15 0) with
    | none => true
    | some t => decide (t < (n : Int))
  [(.noResource, decide (schedFree d = 0)),
   (.licence, typ == 1 && oppValid opp && decide (oppDiv opp < 6)),
   (.reserved, bitOf w1 28 || bitOf w1 30 || (match entryArgs typ with
      | none => true
      | some a => decide (w2.toNat &&& (0xFFFFFFFF - a.1) ≠ 0) || decide (fld w3 23 0 &&& (0xFFFFFF - a.2) ≠ 0))),
   (.range, near (usTicks 20) || (typ == 1 && (!oppValid opp || near (usTicks 500))) ||
      (typ == 3 && w2 == 0 && fld w3 15 0 == 0) || (typ == 4 && decide (16383 < fld w2 13 0 + fld w2 29 16)) ||
      (typ == 6 && fld w2 23 8 == 0)),
   (.unmapped, typ == 2 && (match pageOf (4096 * fld w2 13 0) with | some (_, o) => o != 0 | none => true))]

/-- An accepted entry takes the lowest free index, which SCHED_RESULT reports (DEDUCED, unsafe: notes/assumptions/36.md). -/
def addEntry (agent : Nat) (ws : List Word) (d : Dev) : Dev :=
  let e := ((List.range 64).find? fun e => !schedValid d e).getD 0
  let d := d.wr (CAD_SCHED (4 * e)) (ws.getD 0 0)
  let d := d.wr (CAD_SCHED (4 * e + 1)) (setBit (setBit (ws.getD 1 0) 29 false) 31 true)
  let d := d.wr (CAD_SCHED (4 * e + 2)) (ws.getD 2 0)
  let d := d.wr (CAD_SCHED (4 * e + 3)) (setFld (ws.getD 3 0) 31 24 agent)
  d.wrN CAD_SCHED_RESULT (e + 2 ^ 31)

/-- The entry last added. -/
def lastAdded (d : Dev) : Nat := d.rdF CAD_SCHED_RESULT 5 0

/-- An entry is freed (DEDUCED, unsafe: notes/assumptions/36.md). -/
def freeEntry (e : Nat) (d : Dev) : Dev :=
  let d := (List.range 4).foldl (fun d i => d.wr (CAD_SCHED (4 * e + i)) 0) d
  { d with cad := { d.cad with issued := kvDel d.cad.issued e, delAfter := setDel d.cad.delAfter e, distributed := setDel d.cad.distributed e } }

/-- The words staged for ADD. -/
def schedWords (d : Dev) : List Word := (List.range 4).map fun i => d.rd (CAD_SCHED_W i)

/-- The lead of a herd distributes an entry of the four types (14_channels_twin_herd.md R546): to every member a SCHED
frame; its own entry is a distributed one (DESIGN CHOICE, unsafe: notes/assumptions/86.md). -/
def distribute (ws : List Word) (e : Nat) (d : Dev) : Dev :=
  let typ := fld (ws.getD 1 0) 19 16
  if isLead d && [2, 3, 4, 5].contains typ then
    let d := sendAll fSched ((ws.map fun w => w.toNat) ++ [1]) d
    { d with cad := { d.cad with distributed := setIns d.cad.distributed e } }
  else d

/-- An ADD of four words by an agent, under checks; an accepted one is distributed by the lead. -/
def addWrite (agent : Nat) (base : List Check) (ws : List Word) (d : Dev) : Dev :=
  d.checked .cad 0x150 agent (base ++ addChecks d ws) fun d =>
    let d := addEntry agent ws d
    distribute ws (lastAdded d) d

/-- A DELETE (R413): of an entry issued for its current firing it takes effect after that firing (DEDUCED, unsafe: notes/assumptions/36.md). -/
def deleteEntry (e : Nat) (d : Dev) : Dev :=
  if (kvGet? d.cad.issued e).isSome then { d with cad := { d.cad with delAfter := setIns d.cad.delAfter e } } else freeEntry e d

/-- A write of SCHED_CMD (R413, R423). -/
def schedCmd (agent : Nat) (data : Word) (d : Dev) : Dev :=
  let e := fld data 13 8
  let base := d.baseChecks agent .cad ++ [(ErrCode.reserved, decide (data.toNat &&& 0xFFFFC0FC ≠ 0))]
  match fld data 1 0 with
  | 1 => addWrite agent base (schedWords d) d
  | 2 => d.checked .cad 0x150 agent
      (base ++ [(.state, !schedValid d e),
        (.owner, schedValid d e && !(agent == entryOwner d e || isPewter agent || agent == agentDebug))])
      (deleteEntry e)
  | _ => d.reject .cad 0x150 agent ((firstFail (base ++ [(.reserved, true)])).getD .reserved)

/-! ### Firing (R415 to R419) -/

/-- A BANK_SWAP entry fires (06_sequencers_isa.md R224); the answer says whether a named sequencer refused at once (DEDUCED, unsafe: notes/assumptions/37.md). -/
def fireSwap (e tick : Nat) (late : Bool) (d : Dev) : Bool × Dev :=
  let m := (entryWord d e 2).toNat + 2 ^ 32 * fld (entryWord d e 3) 15 0
  let mask := below 48 fun q => m.testBit q
  let errs := fun (d : Dev) => (mask.map fun q => (d.rd (seqBase q + 0x14)).toNat).sum
  let w : SwapWait := { mask, tick, entry := e, owner := entryOwner d e, late }
  let d' := swapWaits { d with strm := { d.strm with swaps := d.strm.swaps ++ [w] } }
  (decide (errs d < errs d'), d')

/-- A STREAM_RELEASE entry fires (R412): each stream of its range that is WAITING, READY, RUNNING or PAUSED. -/
def fireRelease (e : Nat) (d : Dev) : Dev :=
  let w := entryWord d e 2
  ((openStreams d).filter fun n => decide (fld w 13 0 ≤ n ∧ n ≤ fld w 13 0 + fld w 29 16) && decide (1 ≤ d.strmSt n ∧ d.strmSt n ≤ 4)).foldl
    (fun d n => strmReleaseNow n d) d

/-- A CONFIG_APPLY entry fires: an apply point of its page (02_control_model.md R59) (DEDUCED, unsafe: notes/assumptions/102.md). -/
def fireApply (e : Nat) (d : Dev) : Bool × Dev × List MemWrite :=
  match pageOf (4096 * fld (entryWord d e 2) 13 0) with
  | some (p, _) =>
    let a := entryOwner d e
    (match firstFail [(.fenced, d.isFenced p), (.state, !d.up)] with
    | some c => (true, d.reject p 8 a c, [])
    | none => let r := applyPage a p d; (!r.1, r.2))
  | none => (true, d, [])

/-- A distributed CONFIG_APPLY or BANK_SWAP advances HERD.EPOCH at its instant (14_channels_twin_herd.md R546). -/
def epochStep (e : Nat) (d : Dev) : Dev :=
  if d.cad.distributed.contains e && isMember d && (entryType d e == 2 || entryType d e == 3) then
    d.wr HERD_EPOCH (d.rd HERD_EPOCH + 1)
  else d

/-- The action of an entry: whether its target rejected it (DEDUCED, unsafe: notes/assumptions/37.md). -/
def entryAction (e tick : Nat) (late : Bool) (d : Dev) : Bool × Dev × List MemWrite :=
  let d := epochStep e d
  match entryType d e with
  | 2 => fireApply e d
  | 3 => let r := fireSwap e tick late d; (r.1, r.2, [])
  | 4 => (false, fireRelease e d, [])
  | 6 =>
    let w := entryWord d e 2
    let h : Hint := { src := 64 + e, level := fld w 3 0, span := fld w 23 8, ends := tick + usTicks (fld w 23 8) }
    (false, hintAdd h d, [])
  | _ => (match kvGet? d.cad.issued e with | some i => i.dropped | none => false, d, [])

/-- FIRE_LOG takes an entry, or LOG_OVF is set (R419) (DEDUCED, unsafe: notes/assumptions/35.md). -/
def fireLogPush (w : Word) (d : Dev) : Dev :=
  if d.cad.fireLog.length < 16 then { d with cad := { d.cad with fireLog := d.cad.fireLog ++ [w] } }
  else d.wrF CAD_STATE 9 9 1

/-- After its firing an entry moves on by REPEAT frames, or is freed (R417). -/
def entryNext (e : Nat) (d : Dev) : Dev :=
  let rep := fld (entryWord d e 1) 27 20
  if rep = 0 || d.cad.delAfter.contains e then freeEntry e d
  else
    let d := d.wrN (CAD_SCHED (4 * e)) (entryFrame d e + rep)
    { d with cad := { d.cad with issued := kvDel d.cad.issued e } }

/-- An entry fires (R415 to R419) (DEDUCED, unsafe: notes/assumptions/35.md). -/
def entryFire (e : Nat) (late : Bool) (d : Dev) : Dev × List MemWrite :=
  let typ := entryType d e
  let frame := entryFrame d e
  let tick := match kvGet? d.cad.issued e with | some i => i.tick | none => d.time.tb
  let d := d.wr (CAD_SCHED (4 * e + 1)) (setBit (entryWord d e 1) 29 false)
  let (dropped, d, ws) := entryAction e tick late d
  let d := if late then markLate e d else d
  let d := fireLogPush (w32 (e + typ * 2 ^ 8 + b2n late * 2 ^ 12 + b2n dropped * 2 ^ 13 + frame % 4096 * 2 ^ 16 + 2 ^ 31)) d
  (entryNext e d, ws)

/-! ### Issue (R414; 11_clocking.md R434) -/

/-- A frame runs. -/
def frameRuns (d : Dev) : Bool := decide (d.cad.framePeriod ≠ 0) && d.cad.cause.isNone

/-- The lead with which a type is issued: 2 µs for SNAPSHOT, 500 µs for FREQ. -/
def entryLead (typ : Nat) : Nat := if typ = 5 then usTicks 2 else if typ = 1 then usTicks 500 else 0

/-- The instant of an entry in the frame that begins at a tick. -/
def instantFrom (d : Dev) (b e : Nat) : Nat := b + phaseTicks (entryPhase d e) d.cad.framePeriod

/-- A SNAPSHOT or FREQ entry goes to its target with an instant, or, in the tick it falls due, late (R414, R434). -/
def issueAhead (e inst : Nat) (late : Bool) (d : Dev) : Dev :=
  let r :=
    if entryType d e = 5 then snapTrigger 2 (if late then d.time.tb + usTicks 2 else inst) d
    else chgRequest (entryOwner d e) (fld (entryWord d e 2) 2 0) true (if late then none else some inst) d
  let i : Issue := { tick := inst, late, dropped := !r.2 }
  { r.1 with cad := { r.1.cad with issued := kvPut r.1.cad.issued e i } }

/-- SCHED_ISSUE: the instant of an entry is computed and the entry is issued. A SNAPSHOT or FREQ entry is issued its lead
ahead of its instant, from the expected boundary when the instant lies less than the lead after its frame's boundary (DEDUCED, unsafe: notes/assumptions/36.md). -/
def schedIssue (e : Nat) (d : Dev) : Dev :=
  let typ := entryType d e
  let lead := entryLead typ
  if !schedValid d e || !frameRuns d || (kvGet? d.cad.issued e).isSome then d
  else if entryFrame d e = d.frame then
    let inst := instantFrom d d.boundTick e
    if lead = 0 then
      let i : Issue := { tick := inst }
      { d with cad := { d.cad with issued := kvPut d.cad.issued e i } }
    else if inst < d.boundTick + lead then (if inst ≤ d.time.tb then issueAhead e inst true d else d)
    else if inst ≤ d.time.tb + lead then issueAhead e inst false d
    else d
  else if entryFrame d e = (d.frame + 1) % 2 ^ 32 ∧ lead ≠ 0 then
    let inst := instantFrom d d.expected e
    if inst < d.expected + lead ∧ inst ≤ d.time.tb + lead then issueAhead e inst false d else d
  else d

/-- The instant of an entry: as issued, else as its frame gives it. -/
def instantOf (d : Dev) (e : Nat) : Nat :=
  match kvGet? d.cad.issued e with
  | some i => i.tick
  | none => instantFrom d d.boundTick e

/-- An entry may fire in the frame in progress: it is of that frame, or was issued ahead of the next one, from its expected
boundary (R414, R419; 11_clocking.md R434). -/
def ofFrame (d : Dev) (e : Nat) : Bool :=
  entryFrame d e == d.frame ||
    (entryLead (entryType d e) != 0 && (kvGet? d.cad.issued e).isSome && entryFrame d e == (d.frame + 1) % 2 ^ 32)

/-- An entry goes before another: an earlier instant, or the order of R415 at the same one. -/
def firesBefore (d : Dev) (x e : Nat) : Bool :=
  let i := instantOf d x
  let j := instantOf d e
  decide (i < j) || (i == j && (decide (entryType d x < entryType d e) || (entryType d x == entryType d e && decide (x < e))))

/-- The meshes stop: what is due at a tick from T_s to T_r − 1 takes effect after T_r (11_clocking.md R437). -/
def stopped (d : Dev) : Bool := d.chgState == 2

/-- An issued entry has reached its instant, and no entry that goes before it has yet to fire (R415). -/
def fireDue (d : Dev) (e : Nat) : Bool :=
  match kvGet? d.cad.issued e with
  | none => false
  | some i => schedValid d e && frameRuns d && ofFrame d e && decide (i.tick ≤ d.time.tb) && !stopped d &&
      (below 64 fun x => schedValid d x && ofFrame d x && x != e).all fun x => !firesBefore d x e

/-- An entry of a type fires at its instant; one issued in the tick it fell due is late (R414). -/
def fireAt (typ e : Nat) (d : Dev) : Dev × List MemWrite :=
  if entryType d e = typ ∧ fireDue d e then
    entryFire e (match kvGet? d.cad.issued e with | some i => i.late | none => false) d
  else (d, [])

/-! ### The frame boundary (R405) -/

/-- An entry by its place in the order of R415. -/
def insertDue (d : Dev) (e : Nat) : List Nat → List Nat
  | [] => [e]
  | x :: t => if entryType d e ≤ entryType d x then e :: x :: t else x :: insertDue d e t

/-- The entries of the ending frame not yet reached, in the order of R415. -/
def unreached (d : Dev) : List Nat :=
  (below 64 fun e => schedValid d e && entryFrame d e == d.frame).foldr (insertDue d) []

/-- One of them fires in the causing tick (R416): late when its instant lies beyond it, when it was not issued ahead, or
when no frame ran (DEDUCED, unsafe: notes/assumptions/35.md). -/
def sweepEntry (e : Nat) (d : Dev) : Dev × List MemWrite :=
  let ahead := decide (entryLead (entryType d e) ≠ 0)
  let asked := kvGet? d.cad.issued e
  let inst := match asked with | some i => i.tick | none => instantFrom d d.boundTick e
  let late := decide (d.cad.framePeriod = 0) || decide (d.time.tb < inst) || (ahead && asked.isNone)
  let d := if ahead && asked.isNone then issueAhead e inst true d else d
  entryFire e late d

/-- Everything of the ending frame not yet reached is reached in the causing tick: entries, then deadlines (DEDUCED, unsafe: notes/assumptions/35.md). -/
def frameSweep (d : Dev) : Dev × List MemWrite :=
  let r := (unreached d).foldl (fun r e => andThen r (sweepEntry e)) (d, ([] : List MemWrite))
  (r.1.strm.deadlines.foldl (fun d n => deadline n d) r.1, r.2)

/-- A new frame begins: its number, its boundary and period, and its phase-0 events. -/
def frameBegin (c : BoundCause) (d : Dev) : Dev :=
  let b := c.tick + 1
  let next := (d.frame + 1) % 2 ^ 32
  let (n, d) := match c.frame with
    | some n => (n, d.modPeer fun p => { p with firstAdopt := false })
    | none => refAdopt next d
  let p := (d.rd CAD_PERIOD).toNat
  let d := (d.wrN CAD_FRAME n).wr64 (CAD_BOUND_TB 0) b
  let d := { d with cad := { d.cad with
    cause := none, framePeriod := p, boundFromEdge := c.fromEdge, periods := (p :: d.cad.periods).take 8 } }
  let d := outPulse 4 (edgeHistPush n b d)
  referenceFrame (herdLatch (herdShareFrame d))

/-- FRAME_BOUNDARY: one tick after its cause, the new frame begins; entries that it reaches during a stop of the meshes fire
after T_r (11_clocking.md R437) (DEDUCED, unsafe: notes/assumptions/35.md). -/
def frameBoundary (d : Dev) : Dev × List MemWrite :=
  match d.cad.cause with
  | none => (d, [])
  | some c =>
    if d.time.tb ≤ c.tick || (stopped d && !(unreached d).isEmpty) then (d, [])
    else
      let now := d.time.tb
      let r := frameSweep { d with time := { d.time with tb := c.tick } }
      (frameBegin c { r.1 with time := { r.1.time with tb := now } }, r.2)

/-! ### HERD.APPLY (14_channels_twin_herd.md R561, R562) -/

/-- The entry that an APPLY names: CONFIG_APPLY of its page at phase 0, FRAMES_M1 + 2 frames ahead (DESIGN CHOICE, unsafe: notes/assumptions/86.md). -/
def applyWords (d : Dev) (data : Word) : List Word :=
  [w32 (d.frame + fld data 19 16 + 2), w32 (2 * 2 ^ 16), w32 (fld data 13 0), 0]

/-- A write of HERD.APPLY: the lead adds and distributes the entry; a member asks the lead by a SCHED frame (DESIGN CHOICE, unsafe: notes/assumptions/86.md). -/
def herdApply (agent : Nat) (data : Word) (d : Dev) : Dev :=
  let named := match pageOf (4096 * fld data 13 0) with | some (p, o) => o == 0 && digestPages.contains p | none => false
  d.checked .herd 0x150 agent
    [(.privilege, !isPewter agent), (.state, !d.up || !isMember d),
     (.reserved, decide (data.toNat &&& 0xFFF0C000 ≠ 0)), (.range, !named)]
    fun d =>
      let ws := applyWords d data
      if isLead d then addWrite agent (d.baseChecks agent .cad) ws d
      else send fSched (keyOf d (leadPos d)) ((ws.map fun w => w.toNat) ++ [0]) d

/-! ### Commands -/

def unitEntry (e : Nat) : Bool := decide (e < 64)

/-- FRAME_BOUNDARY (R405). -/
def execFrameBoundary (s : State) : Result := onDevMem (fun _ d => frameBoundary d) s
/-- ADD (R413). -/
def execSchedAdd (agent : Nat) (s : State) : Result := onDev (schedCmd agent 1) s
/-- DELETE (R413). -/
def execSchedDelete (agent e : Nat) (s : State) : Result := guardUnit (unitEntry e) (onDev (schedCmd agent (w32 (2 + e * 2 ^ 8))) s)
/-- SCHED_ISSUE (R414). -/
def execSchedIssue (e : Nat) (s : State) : Result := guardUnit (unitEntry e) (onDev (schedIssue e) s)
/-- FREQ (11_clocking.md R434). -/
def execFreqEntry (e : Nat) (s : State) : Result := guardUnit (unitEntry e) (onDevMem (fun _ d => fireAt 1 e d) s)
/-- CONFIG_APPLY (R412). -/
def execConfigApplyEntry (e : Nat) (s : State) : Result := guardUnit (unitEntry e) (onDevMem (fun _ d => fireAt 2 e d) s)
/-- BANK_SWAP (06_sequencers_isa.md R224). -/
def execBankSwapEntry (e : Nat) (s : State) : Result := guardUnit (unitEntry e) (onDevMem (fun _ d => fireAt 3 e d) s)
/-- SCHED_STREAM_RELEASE (R412). -/
def execSchedStreamRelease (e : Nat) (s : State) : Result := guardUnit (unitEntry e) (onDevMem (fun _ d => fireAt 4 e d) s)
/-- SNAPSHOT (R414; 02_control_model.md R88). -/
def execSnapshotEntry (e : Nat) (s : State) : Result := guardUnit (unitEntry e) (onDevMem (fun _ d => fireAt 5 e d) s)
/-- POWER_HINT (12_power_thermal.md R462). -/
def execPowerHintEntry (e : Nat) (s : State) : Result := guardUnit (unitEntry e) (onDevMem (fun _ d => fireAt 6 e d) s)
/-- HERD_APPLY (14_channels_twin_herd.md R561). -/
def execHerdApply (agent : Nat) (data : Word) (s : State) : Result := onDev (herdApply agent data) s
/-- FIRE_LOG_POP (R419). -/
def execFireLogPop (s : State) : Result := onDev fireLogPop s

end Sys2Proof.Machine
end

