-- ==== Sys2Proof/Machine/Bus.lean ====
section
/-! DEFINITION. Accesses to the registers and to external memory from outside (02_control_model.md R45 to R58, R79 to R83;
09_external_memory.md R375 to R377; 15_bringup_reset_licences.md R570): writes word by word, reads with their side effects,
the debug window and the debug port, host accesses through BAR 2. -/

namespace Sys2Proof.Machine

/-! ### The debug window (R80 to R82) -/

/-- A write of ACC_CTRL: WRITE and CONSUME are kept, GO starts an access. -/
def accCtrlWrite (agent : Nat) (data : Word) (d : Dev) : Dev :=
  let c := d.rd DBG_ACC_CTRL
  d.checked .dbg 0x108 agent
    [(.privilege, !d.mayWrite agent .dbg || !d.unlocked), (.state, !d.up), (.busy, bitOf data 0 && bitOf c 0),
     (.reserved, decide (data.toNat &&& 0xFFFF00F8 ≠ 0))]
    fun d => d.setActive .dbg 0x108 (setBit (setFld c 2 1 (fld data 2 1)) 0 (bitOf c 0 || bitOf data 0))

/-! ### Writes of one word -/

/-- Registers whose write is an operation of its own chapter (DEDUCED, unsafe: notes/assumptions/14.md). -/
def writeSpecial (agent : Nat) (p : Page) (o : Nat) (w : Word) (x : ExtMem) (d : Dev) : Option (Dev × List MemWrite) :=
  let one := fun (d : Dev) => some (d, ([] : List MemWrite))
  match p with
  | .dev => if o = 0x10C then one (violClear agent w d) else none
  | .lock =>
    if 0x100 ≤ o ∧ o < 0x500 then one (lockRelease agent ((o - 0x100) / 4) w d)
    else if o = 0x520 then one (breakWrite agent w d)
    else none
  | .snap => if o = 0x100 then one (snapFire agent w d) else none
  | .dbg =>
    if o = 0x108 then one (accCtrlWrite agent w d)
    else if o = 0x114 then one (dbgMemAccess agent (some w) d)
    else if o = 0x120 ∨ o = 0x124 then one (haltRequest agent (o == 0x124) w d)
    else if o = 0x128 ∨ o = 0x12C then one (resumeRequest agent (o == 0x12C) w d)
    else none
  | .flt => if o = 0x140 then one (ibexCtrl agent w d) else none
  | .floor => if o = 0x124 then some (floorCmd agent w x d) else none
  | .time => if o = 0x12C then one (timeSetGo agent w d) else none
  | .cad => if o = 0x150 then one (schedCmd agent w d) else none
  | .clk => if o = 0x124 then one (chgReqWrite agent w d) else if o = 0x150 then one (qFieldWrite agent w d) else none
  | .pwr => if o = 0x11C then one (herdShareWrite agent w d) else if o = 0x1D8 then one (domCtrl agent w d) else none
  | .strm =>
    if o = 0x104 then one (strmCmd agent w d)
    else if o = 0x12C then one (progAccess agent (some w) d)
    else if 0x140 ≤ o ∧ o < 0x540 ∧ o % 16 = 8 then one (ringProdWrite ((o - 0x140) / 16) agent w d)
    else none
  | .herd => if o = 0x150 then one (herdApply agent w d) else none
  | .pins =>
    if 0x100 ≤ o ∧ o < 0x120 then one (evtCfgWrite ((o - 0x100) / 4) agent w d)
    else if o = 0x124 then one (alertClear agent w d)
    else if o = 0x128 then one (srcClear PINS_FAULT_SRC agent w d)
    else none
  | .boot => if o = 0x11C then one (cresetWrite agent w d) else none
  | .field f => if o = 0x934 then one (rtAccess f agent (some w) d) else none
  | .seq q =>
    if o = 0x180 then one (bankSwapWrite q agent w d)
    else if o = 0x190 then one (imemAccess q agent (some w) d)
    else if o = 0x19C then one (imemDmaGo q agent w d)
    else none
  | .trace f =>
    if o = 0x100 then one (traceCtrlWrite f agent w d) else if o = 0x114 then one (spillRelease f agent w d) else none
  | .tile s => if o = 0x134 then one (srSeedWrite s agent w d) else none
  | _ => none

/-- What the page checks of the value written to a register, RSV bits apart. -/
def valueChecks (d : Dev) (p : Page) (o : Nat) (w : Word) : List Check :=
  match p with
  | .tile s => tileValueChecks d s o w
  | .seq q => seqValueChecks d q o w
  | .trace _ => if o = 0x10C then [(.range, decide (fld w 1 0 ≠ 0))] else []
  | .dbg => if o = 0x100 then [(.range, decide (fld w 1 0 ≠ 0))] else []
  | _ => stagedChecks d p o w

/-- Agents that a register of a page refuses beyond R56: DBG while locked, and its other registers to the host (R79);
registers that only Pewter writes. -/
def agentBarred (d : Dev) (agent : Nat) (p : Page) (o : Nat) : Bool :=
  match p with
  | .dbg => (0x100 ≤ o && !d.unlocked) || (agent == agentHost && !(decide (0x100 ≤ o ∧ o < 0x11C)))
  | .spur => (o == 0x15C || o == 0x160) && !isPewter agent
  | _ => false

/-- The new value of a register takes effect (R48): an ST register's staged copy, a W1C register's cleared bits, a value. -/
def valueSet (p : Page) (o : Nat) (r : RegRow) (w : Word) (d : Dev) : Dev :=
  let a := p.base + o
  match p with
  | .tile s => tileValueSet s o w d
  | .seq q => seqValueSet q o w d
  | _ =>
    if r.acc = .st then d.stagedWr a w
    else if r.acc = .w1c ∨ r.acc = .mixed then d.wr a (d.rd a &&& ~~~(w &&& w32 r.writable))
    else
      let old := d.rd a
      let d := d.setActive p o w
      match p with
      | .strm => strmValueSet o old w d
      | .therm => if o = 0x108 then coolantEval d else d
      | _ => d

/-- A write to a register that has no operation of its own (R48, R49, R52, R55, R61); a block register of a TILE page takes
writes only while the tile is idle (03_tile.md R144). -/
def plainWrite (agent : Nat) (p : Page) (o : Nat) (w : Word) (d : Dev) : Dev :=
  let busy := match p with | .tile s => !(d.tile s).idle | _ => false
  let base := d.baseChecks agent p ++ [(.privilege, agentBarred d agent p o), (.state, busy)]
  match findRow p.rows o with
  | none => d.checked p o agent (base ++ [(.reserved, true)]) id
  | some (r, _) =>
    let fixed := r.writable == 0 || (match p with | .memp (_ + 1) => o == 0x100 | _ => false)
    d.checked p o agent
      (base ++ [(.busy, r.acc == .st && d.applying p), (.reserved, fixed || decide (w.toNat &&& (0xFFFFFFFF - r.named) ≠ 0))] ++ (if fixed then [] else valueChecks d p o w))
      (valueSet p o r w)

/-- A write of 1 to ERR_CODE.VALID clears the recorded rejection (R54); with it goes STRM.REJ_INFO. -/
def errClear (p : Page) (w : Word) (d : Dev) : Dev :=
  if bitOf w 31 then
    let d := d.wr (p.base + 0x10) 0
    if p = .strm then d.wr STRM_REJ_INFO 0 else d
  else d

/-- A write of a whole word of a page. A page that reads 0 because its domain is off records nothing (R54) (DEDUCED, unsafe: notes/assumptions/101.md). -/
def pageWrite (agent : Nat) (p : Page) (o : Nat) (w : Word) (x : ExtMem) (d : Dev) : Dev × List MemWrite :=
  if p.dark d then (d, [])
  else if o = 0x10 then (errClear p w d, [])
  else if o = 8 then ctrlWrite agent p w d
  else match writeSpecial agent p o w x d with
    | some r => r
    | none => (plainWrite agent p o w d, [])

/-- A write of a whole word at a BAR 0 offset: a page's, a descriptor's; the record ring takes none; else a violation (DEDUCED, unsafe: notes/assumptions/101.md). -/
def wordWrite (agent a : Nat) (w : Word) (x : ExtMem) (d : Dev) : Dev × List MemWrite :=
  if !implemented a then (d.violates agent false true a, [])
  else match pageOf a with
    | some (p, o) => pageWrite agent p o w x d
    | none => if a < 0x200000 then (descWrite agent ((a - 0x100000) / 64) (a % 64 / 4) w d, []) else (d, [])

/-- The word that bytes from an address spell in a register word, bytes not written 0. -/
def lanes (a : Nat) (bs : List Byte) (k : Nat) : Word :=
  w32 (leNat ((List.range 4).map fun i => if a ≤ k + i then bs.getD (k + i - a) 0 else 0))

/-- A write that addresses only some bytes of a word (R46): rejected with ALIGN; a rejection of STRM.CMD sets REJ_INFO
(08_streams_context.md R359) (DEDUCED, unsafe: notes/assumptions/16.md). -/
def partialWrite (agent a : Nat) (w : Word) (d : Dev) : Dev :=
  if !implemented a then d.violates agent false true a
  else match pageOf a with
    | some (p, o) =>
      if p.dark d then d
      else if p = .strm ∧ o = 0x104 then strmReject (fld w 13 0) 0 0 o agent .align d
      else d.reject p o agent .align
    | none =>
      if a < 0x200000 then
        let o := a - 0x100000
        strmChecked (o / 64) (o % 64 / 4) 1 (o % 4096) agent [(.align, true)] id d
      else d

/-- An access of more than 8 bytes lies within the descriptors or the record ring (R47) (DEDUCED, unsafe: notes/assumptions/16.md). -/
def longAllowed (a n : Nat) : Bool := decide (0x100000 ≤ a ∧ a + n ≤ 0x220000)

/-- The register words that bytes from an address touch: word offset, and whether it is covered whole (R45). -/
def touched (a n : Nat) : List (Nat × Bool) :=
  (List.range ((a % 4 + n + 3) / 4)).map fun i =>
    let k := a / 4 * 4 + 4 * i
    (k, decide (a ≤ k ∧ k + 4 ≤ a + n))

/-- Host requests reach the device: out of cold reset, a link in L0 and not in D3hot (16_interfaces_pins.md R603) (DESIGN CHOICE, unsafe: notes/assumptions/15.md). -/
def hostReaches (d : Dev) : Bool := !d.held && mirrorUp d

/-- A write of bytes at a BAR 0 offset by an agent (R45 to R47), the words in ascending order (DESIGN CHOICE, unsafe: notes/assumptions/15.md; DEDUCED, unsafe: notes/assumptions/101.md). -/
def registerWrite (agent a : Nat) (bs : List Byte) (x : ExtMem) (d : Dev) : Dev × List MemWrite :=
  let d := { d with resp := { kind := .ok } }
  if bs = [] ∨ d.held then (d, [])
  else if agent = agentHost ∧ !hostReaches d then ({ d with resp := { kind := .unsupportedRequest } }, [])
  else if 8 < bs.length ∧ !longAllowed a bs.length then (d.violates agent false true a, [])
  else (touched a bs.length).foldl (fun r (k : Nat × Bool) =>
    andThen r (if k.2 then wordWrite agent k.1 (w32 (leNat ((bs.drop (k.1 - a)).take 4))) x else fun d => (partialWrite agent k.1 (lanes a bs k.1) d, [])))
    (d, ([] : List MemWrite))

/-! ### Reads -/

/-- A read of one word by an agent: its bytes, or a violation (R64). -/
def wordRead (agent : Nat) (peek : Bool) (a : Nat) (d : Dev) : Option Word × Dev :=
  if implemented a then let r := readWord agent peek a d; (some r.1, r.2) else (none, d.violates agent false false a)

/-- Words read in ascending order: none once one of them is a violation (DEDUCED, unsafe: notes/assumptions/16.md). -/
def wordsRead (agent : Nat) : List Nat → Dev → Option (List Byte) × Dev
  | [], d => (some [], d)
  | a :: t, d =>
    let (w, d) := wordRead agent false a d
    let (ws, d) := wordsRead agent t d
    (match w, ws with | some w, some ws => some (leBytes 4 w.toNat ++ ws) | _, _ => none, d)

/-- A normal read of bytes at a BAR 0 offset (R45 to R48): every word touched is read in full (DESIGN CHOICE, unsafe: notes/assumptions/15.md). -/
def registerRead (agent a n : Nat) (d : Dev) : Dev :=
  if n = 0 ∨ d.held then d
  else if agent = agentHost ∧ !hostReaches d then { d with resp := { kind := .unsupportedRequest } }
  else if 8 < n ∧ !longAllowed a n then d.violates agent false false a
  else
    let (bs, d) := wordsRead agent ((touched a n).map (·.1)) d
    match bs with
    | some bs => d.answer ((bs.drop (a % 4)).take n)
    | none => { d with resp := violationAnswer agent false }

/-! ### Accesses that report a code (R80, R532) -/

/-- The page that records the rejections of an offset (DEDUCED, unsafe: notes/assumptions/14.md). -/
def rejectPage (a : Nat) : Option Page :=
  match pageOf a with
  | some (p, _) => some p
  | none => if 0x100000 ≤ a ∧ a < 0x200000 then some .strm else none

/-- The error code that a page records for an access, 0 when it records none: that of its ERR_CODE, were it clear (DEDUCED, unsafe: notes/assumptions/17.md; DEDUCED, unsafe: notes/assumptions/66.md). -/
def accessCode (a : Nat) (f : Dev → Dev) (d : Dev) : Nat :=
  match rejectPage a with
  | none => 0
  | some p =>
    if p.dark d then ErrCode.fenced.code
    else
      let e := (f (d.wr (p.base + 0x10) 0)).rd (p.base + 0x10)
      if bitOf e 31 then fld e 7 0 else 0

/-- One access of a word by an agent: the data read (0 for a write), the code it reports, 0xFF for a violation (DEDUCED, unsafe: notes/assumptions/17.md). -/
def codedAccess (agent : Nat) (peek : Bool) (a : Nat) (data : Option Word) (x : ExtMem) (d : Dev) : Word × Nat × Dev × List MemWrite :=
  match data with
  | none =>
    if !implemented a then (0, 0xFF, d.violates agent false false a, [])
    else
      let r := readWord agent peek a d
      let code := match pageOf a with
        | some (p, _) => if p.dark d then 0 else accessCode a (fun d => (readWord agent peek a d).2) d
        | none => 0
      (r.1, code, r.2, [])
  | some w =>
    let r := wordWrite agent a w x d
    (0, if implemented a then accessCode a (fun d => (wordWrite agent a w x d).1) d else 0xFF, r.1, r.2)

/-- A window access completes (R80, R81): performed as agent 0x02, GO and CONSUME cleared, DONE_CODE set (DEDUCED, unsafe: notes/assumptions/17.md). -/
def windowDone (x : ExtMem) (d : Dev) : Dev × List MemWrite :=
  let c := d.rd DBG_ACC_CTRL
  if !bitOf c 0 then (d, [])
  else
    let wr := bitOf c 1
    let r := codedAccess agentDebug (!bitOf c 2) (d.rd DBG_ACC_ADDR).toNat (if wr then some (d.rd DBG_ACC_DATA) else none) x d
    let d := r.2.2.1
    let d := if wr then d else d.wr DBG_ACC_DATA r.1
    let c := d.rd DBG_ACC_CTRL
    (d.wr DBG_ACC_CTRL (setFld (setBit (setBit c 0 false) 2 false) 15 8 r.2.1), r.2.2.2)

/-- An access through the debug access port (R81): its instruction selected, in an unlocked session for a read (DEDUCED, unsafe: notes/assumptions/17.md). -/
def dapAccess (a : Nat) (consume : Bool) (data : Option Word) (x : ExtMem) (d : Dev) : Dev × List MemWrite :=
  if d.held || d.iface.jtagIr != 0x10 then (d, [])
  else if data.isNone && !d.unlocked then ({ d with resp := { kind := .negative } }, [])
  else
    let r := codedAccess agentDebug (!consume) (a / 4 * 4) data x d
    let ans : Response := { kind := .windowCode, bytes := leBytes 4 r.1.toNat, code := r.2.1 }
    ({ r.2.2.1 with resp := ans }, r.2.2.2)

/-! ### BAR 2 (09_external_memory.md R375 to R377; 15_bringup_reset_licences.md R570) -/

/-- The boot window of BAR 2. -/
def bootWindow : Nat := 0x59FFF00000

/-- The lines that a range touches. -/
def linesOf (a n : Nat) : List Nat := (List.range ((a % 64 + n + 63) / 64)).map fun i => a / 64 + i

/-- The failed port of a range, with the line that meets it (DEDUCED, unsafe: notes/assumptions/64.md). -/
def failedLine (d : Dev) (a n : Nat) : Option Nat := (linesOf a n).find? fun l => portFailed d (memMap (joinGib d) (64 * l)).1

/-- The record of a host access to a failed port (R377): MEM_UE, source 3 (DEDUCED, unsafe: notes/assumptions/64.md). -/
def hostFailRecord (l : Nat) (d : Dev) : Dev :=
  let p := memMap (joinGib d) (64 * l)
  portRecord p.1 0x11 3 (pageUnit p.1 (p.2 / 4096)) (p.2 / 64 % 64 + 3 * 2 ^ 8) d

/-- A host read of external memory, line by line. -/
def hostMemRead (a n : Nat) (errs : KV Nat) (x : ExtMem) (d : Dev) : Dev × List MemWrite :=
  match failedLine d a n with
  | some l => ({ hostFailRecord l d with resp := { kind := .completerAbort } }, [])
  | none =>
    let r := linesRead 3 errs x (linesOf a n) d
    let bytes := (r.1.bytes.drop (a % 64)).take n
    let ans : Response := { kind := if r.1.poison then .poisoned else .ok, bytes }
    ({ r.2 with resp := ans }, r.1.writes)

/-- A host write to external memory, line by line; a poisoned one stores its lines as poisoned (R378). -/
def hostMemWrite (a : Nat) (bs : List Byte) (poison : Bool) (d : Dev) : Dev × List MemWrite :=
  let bad := failedLine d a bs.length
  let r := linesWrite (bs.length + 1) a bs d
  let d := match bad with | some l => hostFailRecord l r.1 | none => r.1
  let ps := if poison then
      ((linesOf a bs.length).filter fun l => !portFailed d (memMap (joinGib d) (64 * l)).1).map MemWrite.poison else []
  (d, r.2 ++ ps)

/-- The way from the host link, which ends in F_01, to the south channel is open: F_01 and F_04 run and the seams below them
let traffic through (01_device_overview.md R28; DEDUCED, unsafe: notes/assumptions/64.md). -/
def southOpen (d : Dev) : Bool :=
  [1, 4].all fun f => d.meshRuns f && !d.flt.fieldFailed.contains f && seamOpen d f true

/-- A host access reaches its lines (09_external_memory.md R373, R382): the way is open, no request that came to the port before
touches a line of it, and no page of it is in retirement. Lines of a failed port answer at once (R377) (DEDUCED, unsafe: notes/assumptions/64.md). -/
def hostMayServe (d : Dev) (a n : Nat) : Bool :=
  (linesOf a n).all fun l =>
    let p := memMap (joinGib d) (64 * l)
    portFailed d p.1 || ((portChannel p.1 == 0 || southOpen d) &&
      !((d.port p.1).queue.any fun q => q.lineList.contains l) && !(d.port p.1).retiring.contains (p.2 / 4096))

/-- A host access through BAR 2: a read of `len` bytes, or a write of bytes. While the access may not be served it waits:
nothing changes and there is no answer yet (DEDUCED, unsafe: notes/assumptions/61.md; DEDUCED, unsafe: notes/assumptions/64.md). -/
def hostMem (a len : Nat) (data : Option (List Byte)) (poison : Bool) (errs : KV Nat) (x : ExtMem) (d : Dev) : Dev × List MemWrite :=
  let n := match data with | some bs => bs.length | none => len
  let d := { d with resp := { kind := .ok } }
  if n = 0 ∨ d.held then (d, [])
  else if !hostReaches d then ({ d with resp := { kind := .unsupportedRequest } }, [])
  else
    let wait := decide (a + n ≤ memCapacity ∧ a < bootWindow) && !hostMayServe d a n
    let d := if poison && data.isSome && !wait then d.bump PCIE_POISON_RX_COUNT else d
    if wait then ({ d with resp := {} }, [])
    else if memCapacity < a + n then (d.violation agentHost true data.isSome (max a memCapacity), [])
    else if bootWindow ≤ a then
      let w := a - bootWindow
      (match data with
      | some bs => d.modBoot fun b => { b with window := bs.zipIdx.foldl (fun m e => kvSetD m 0 (w + e.2) e.1) b.window }
      | none => d.answer ((List.range n).map fun i => kvGetD d.boot.window 0 (w + i)), [])
    else match data with
      | some bs => hostMemWrite a bs poison d
      | none => hostMemRead a n errs x d

/-! ### Commands -/

/-- REGISTER_WRITE (R45, R52). -/
def execRegisterWrite (agent addr : Nat) (bytes : List Byte) (s : State) : Result :=
  guardUnit (isAgent agent) (onDevMem (fun x d => registerWrite agent addr bytes x d) s)
/-- READ_CLEAR (R48): a normal read; it clears an RC register. -/
def execReadClear (agent addr len : Nat) (s : State) : Result :=
  guardUnit (isAgent agent) (onDev (registerRead agent addr len) s)
/-- ERR_CODE_CLEAR (R54): a write of 1 to ERR_CODE.VALID of the page at a BAR 0 offset. -/
def execErrCodeClear (agent : Nat) (page : Nat) (s : State) : Result :=
  guardUnit (isAgent agent && unitPage page) (onDevMem (fun x d => wordWrite agent (page + 0x10) 0x80000000 x d) s)
/-- DBG_WINDOW_ACCESS (R81, R82): a write of ACC_CTRL that sets GO. -/
def execDbgWindowAccess (agent : Nat) (data : Word) (s : State) : Result := onDev (accCtrlWrite agent (setBit data 0 true)) s
/-- DBG_WINDOW_DONE (R80). -/
def execDbgWindowDone (s : State) : Result := onDevMem windowDone s
/-- DBG_MEM_ACCESS (R83). -/
def execDbgMemAccess (agent : Nat) (data : Option Word) (s : State) : Result := onDev (dbgMemAccess agent data) s
/-- DAP_ACCESS (R81). -/
def execDapAccess (addr : Nat) (consume : Bool) (data : Option Word) (s : State) : Result :=
  onDevMem (fun x d => dapAccess addr consume data x d) s
/-- HOST_MEM_ACCESS (09_external_memory.md R375). -/
def execHostMemAccess (addr len : Nat) (data : Option (List Byte)) (poison : Bool) (errs : KV Nat) (s : State) : Result :=
  onDevMem (fun x d => hostMem addr len data poison errs x d) s

end Sys2Proof.Machine
end

