-- ==== Sys2Proof/Machine/Dcw.lean ====
section
/-! DEFINITION. The DCW level (06_sequencers_isa.md R245 to R249): what one DCW word does in a tile's array, cycle by
cycle. -/

namespace Sys2Proof.Machine

/-! ### Operands -/

/-- A generator's address for row or lane i: its address + i × STRIDE1 (R246). -/
def laneAddr (g : AddrGen) (i : Nat) : Nat := (((g.addr : Int) + i * toSigned 22 g.s1) % (2 ^ 21 : Int)).toNat

def dcwFmt (i : Instruct) (hi lo : Nat) : Fmt := (fmtOf (i.f hi lo)).getD .fp32
def dcwA (i : Instruct) : Fmt := dcwFmt i 7 4
def dcwB (i : Instruct) : Fmt := dcwFmt i 11 8
/-- An integer pass (R151). -/
def dcwInt (i : Instruct) : Bool := dcwA i == .int8 && dcwB i == .int8
def dcwVec (i : Instruct) : Bool := i.b 3
def dcwBank (i : Instruct) : Nat := i.f 2 2

/-- The element in the low bits of a word, with the scale in the low byte of another where its format has one. -/
def dcwElem (t : Tile) (f : Fmt) (addr saddr : Nat) : FVal :=
  let v := decodeF f ((t.rd addr).toNat % 2 ^ f.bits)
  if f.isMx then scaled ((t.rd saddr).toNat % 256) v else v

/-- A word that rounds a group or preloads a row touches its bank (R166). -/
def dcwTouches (i : Instruct) : Bool := i.b 0 && (i.f 159 128 != 0 || i.f 127 96 != 0)

/-- A word streams, preloads or drains: the array works (R171). -/
def dcwWorks (i : Instruct) : Bool := i.b 0 && (i.f 159 32 != 0 || i.b 162)

/-- The rows that a word drives, as a count from row 0. -/
def dcwRows (i : Instruct) : Nat := (List.range 32).foldl (fun n r => if i.b 0 && (i.b (32 + r) || i.b (96 + r) || i.b (128 + r)) then r + 1 else n) 0

/-- The rows enabled `cycles` cycles from now (R166, R171): the ramp of a waking array enables one row per cycle. -/
def rowsIn (d : Dev) (s cycles : Nat) : Nat :=
  let x := (d.tile s).mx
  if x.awake then (if x.rows = 0 then 32 else min 32 (x.rows + cycles))
  else if bitOf (d.rd (FIELD_MX_CTRL (siteField s))) 0 then min 32 (1 + cycles) else 32

/-- The word would preload or round into a bank whose token has not returned, or drive a row that the ramp has not enabled
after a hold of `cycles` cycles (R166) (DEDUCED, unsafe: notes/assumptions/51.md). -/
def dcwHeld (d : Dev) (s cycles : Nat) (i : Instruct) : Bool :=
  let t := d.tile s
  (dcwTouches i && t.mx.dcwTokens.contains (dcwBank i) &&
    !(match t.mx.dcw with | some a => a.took.contains (dcwBank i) | none => false)) ||
  (dcwWorks i && decide (rowsIn d s cycles < dcwRows i))

/-- The ranges of words that a cycle of a word reads, and the ones it writes. -/
def dcwReads (t : Tile) (i : Instruct) (first : Bool) : List (Nat × Nat) :=
  let ag := fun (lo : Nat) => t.ag (i.f (lo + 3) lo)
  let rows := below 32 fun r => i.b (32 + r)
  let cols := if dcwVec i then [] else below 32 fun c => i.b (64 + c)
  let pre := if first && (i.f 161 160 == 1 || i.f 161 160 == 2) then below 32 fun r => i.b (128 + r) else []
  let n := if i.f 19 16 = 1 then 16 else 32
  rows.map (fun r => (laneAddr (ag 172) r, 1)) ++ cols.map (fun c => (laneAddr (ag 177) c, 1)) ++
  (if (dcwA i).isMx then rows.map fun r => (laneAddr (ag 182) r, 1) else []) ++
  (if (dcwB i).isMx then cols.map fun c => (laneAddr (ag 187) c, 1) else []) ++
  pre.map fun r => ((if i.f 161 160 = 2 then laneAddr (ag 197) r else (ag 197).addr), n)

def dcwWrites (t : Tile) (i : Instruct) : List (Nat × Nat) :=
  if i.b 162 then [((t.ag (i.f 195 192)).addr, (dcwFmt i 15 12).bits)] else []

/-- The tile stops under DCW (R105, R143): the matrix engine stops, and the command faults. -/
def dcwAbort (s : Nat) (i : Instruct) (d : Dev) : Dev :=
  let d := tileFlag s flAddrRange d
  let d := d.modEngine s 2 fun x => { x with stopped := true }
  let d := d.modTile s fun t => { t with mx := { t.mx with dcw := none } }
  let d := engineStopRecord s 2 (some { tag := i.cmd.tag, stream := i.cmd.stream, withheld := true }) d
  tileFault s 0x14 i (d.tile s).nextOrd d

/-! ### One cycle -/

def dcwRow (t : Tile) (bank r : Nat) : List Nat := (List.range 32).map fun j => accWord t bank r j

/-- Preload of the rows of a word (R162, R174). -/
def dcwPreload (i : Instruct) (t : Tile) (a : DcwArray) : Tile × DcwArray :=
  let bank := dcwBank i
  let kind := i.f 161 160
  let bits := if i.f 19 16 = 1 then 16 else 32
  let g := t.ag (i.f 200 197)
  (below 32 fun r => i.b (128 + r)).foldl (fun (x : Tile × DcwArray) r =>
    let base := if kind = 2 then laneAddr g r else g.addr
    let ws := (List.range 32).map fun j =>
      match kind with
      | 0 => 0
      | 3 => accWord x.1 bank r j
      | _ =>
        let v := ((x.1.rd (base + bits * j / 32)).toNat >>> (bits * j % 32)) % 2 ^ bits
        if bits = 16 then v * 65536 else v
    let t := { x.1 with mx := { x.1.mx with
      acc := ws.zipIdx.foldl (fun k (e : Nat × Nat) => kvSetD k 0 (1024 * bank + 32 * r + e.2) (w32 e.1)) x.1.mx.acc } }
    (t, { x.2 with
      chkRow := kvPut x.2.chkRow r (wordSum (dcwInt i) ws)
      colPre := ws.zipIdx.foldl (fun k (e : Nat × Nat) => kvModD k [] e.2 (· ++ [e.1])) x.2.colPre })) (t, a)

/-- The elements that enter the rows and the columns (R246). -/
def dcwInject (i : Instruct) (t : Tile) (a : DcwArray) : KV Flow × KV Flow × DcwArray :=
  let ga := t.ag (i.f 175 172)
  let gb := t.ag (i.f 180 177)
  let gas := t.ag (i.f 185 182)
  let gbs := t.ag (i.f 190 187)
  let rows := below 32 fun r => i.b (32 + r)
  let cols := if dcwVec i then [] else below 32 fun c => i.b (64 + c)
  (rows.map fun r => (r, { val := dcwElem t (dcwA i) (laneAddr ga r) (laneAddr gas r), last := i.b (96 + r)
                           k := kvGetD a.rowK 0 r, lane := gb.addr, slane := gbs.addr, ctl := i.bits % 2 ^ 202 }),
   cols.map fun c => (c, { val := dcwElem t (dcwB i) (laneAddr gb c) (laneAddr gbs c), k := kvGetD a.colK 0 c, ctl := i.bits % 2 ^ 202 }),
   { a with rowK := rows.foldl (fun k r => kvModD k 0 r (· + 1)) a.rowK, colK := cols.foldl (fun k c => kvModD k 0 c (· + 1)) a.colK })

/-- The operands move one cell on, and the new ones enter (R149). -/
def dcwMove (ia ib : KV Flow) (old : KV Cell) : KV Cell :=
  (List.range 1024).filterMap fun c =>
    let x : Cell := {
      a := if c % 32 = 0 then kvGet? ia (c / 32) else (kvGetD old {} (c - 1)).a
      b := if c < 32 then kvGet? ib c else (kvGetD old {} (c - 32)).b
      grp := (kvGetD old {} c).grp }
    if x = {} then none else some (c, x)

def addTo (x : Option FVal) (v : FVal) : FVal := match x with | some y => FVal.sum [y, v] | none => v

/-- A check cell takes one k-step (R174). -/
def chkStep (int : Bool) (c : Nat) (op sum : FVal) : Nat :=
  if int then ofSigned 48 (toSigned 48 c + intVal op * intVal sum) else chkF c op (toF32 sum)

/-- One cell takes its operands (R149, R152, R169), in the mode, the formats and the bank of the word with which its row
element entered. -/
def dcwCell (i : Instruct) (t : Tile) (a : DcwArray) (c : Nat) : Tile × DcwArray :=
  let x := kvGetD a.cells {} c
  match x.a with
  | none => (t, a)
  | some fa =>
    let i := { i with bits := fa.ctl }
    let bank := dcwBank i
    let int := dcwInt i
    let bv : Option FVal :=
      if dcwVec i then
        let gb := t.ag (i.f 180 177)
        let gbs := t.ag (i.f 190 187)
        some (dcwElem t (dcwB i) (laneAddr { gb with base := fa.lane, i0 := 0, i1 := 0 } c) (laneAddr { gbs with base := fa.slane, i0 := 0, i1 := 0 } c))
      else x.b.map fun f => f.val
    let x := match bv with
      | some v => { x with
          a := some { fa with met := some (addTo fa.met v) }
          b := x.b.map fun fb => { fb with met := some (addTo fb.met fa.val) }
          grp := some (addTo x.grp (fa.val.mul v)) }
      | none => x
    let key := 32 * fa.k + c % 32
    let sofar : Option FVal := (kvGet? a.colLog key).map Prod.snd
    let a : DcwArray := match bv with
      | some v => if a.chk && dcwVec i then { a with colLog := kvPut a.colLog key (fa.val, addTo sofar v) } else a
      | none => a
    let cell := 32 * (c / 32) + c % 32
    if fa.last then
      let w := accWord t bank (c / 32) (c % 32)
      let r := match x.grp with
        | some g => if int then accI w (intVal g) else accF w g
        | none => (w, false)
      ({ t with mx := { t.mx with acc := kvSetD t.mx.acc 0 (1024 * bank + cell) (w32 r.1) } },
       { a with cells := kvPut a.cells c { x with grp := none }, sat := if r.2 then setIns a.sat cell else a.sat })
    else (t, { a with cells := kvPut a.cells c x })

/-- A row's check cell takes the element that leaves the row, a column's the one that leaves the column (R174). -/
def dcwExits (i : Instruct) (a : DcwArray) : DcwArray :=
  if !a.chk then a
  else
    let a := (List.range 32).foldl (fun (a : DcwArray) r =>
      match (kvGetD a.cells {} (32 * r + 31)).a with
      | some f => match f.met with
        | some m => { a with chkRow := kvPut a.chkRow r (chkStep (dcwInt { i with bits := f.ctl }) (kvGetD a.chkRow 0 r) f.val m) }
        | none => a
      | none => a) a
    (List.range 32).foldl (fun (a : DcwArray) j =>
      match (kvGetD a.cells {} (992 + j)).b with
      | some f => match f.met with
        | some m => { a with colLog := kvPut a.colLog (32 * f.k + j) (f.val, m) }
        | none => a
      | none => a) a

/-- The array moves on by one cycle: the operands move, the new ones enter, every cell takes its step (DEDUCED, unsafe: notes/assumptions/51.md). -/
def dcwArrayStep (i : Instruct) (ia ib : KV Flow) (t : Tile) (a : DcwArray) : Tile × DcwArray :=
  let x := (List.range 1024).foldl (fun (x : Tile × DcwArray) c => dcwCell i x.1 x.2 c) (t, { a with cells := dcwMove ia ib a.cells })
  (x.1, dcwExits i x.2)

/-- A row whose check cell no preload has loaded takes the sum of the words it holds, as KEEP does. -/
def dcwRowInit (i : Instruct) (t : Tile) (a : DcwArray) (ia : KV Flow) : DcwArray :=
  ia.foldl (fun a e => if (kvGet? a.chkRow e.1).isSome then a else
    let ws := dcwRow t (dcwBank i) e.1
    { a with chkRow := kvPut a.chkRow e.1 (wordSum (dcwInt i) ws)
             colPre := ws.zipIdx.foldl (fun k (w : Nat × Nat) => kvModD k [] w.2 (· ++ [w.1])) a.colPre }) a

/-- A drained row (R163, R205): its elements and the draws they took (DEDUCED, unsafe: notes/assumptions/51.md). -/
def dcwDrain (i : Instruct) (t : Tile) : Tile :=
  let out := dcwFmt i 15 12
  let int := dcwInt i
  let ws := dcwRow t (dcwBank i) (i.f 167 163)
  let stoch := i.f 21 20 == 2 && !int
  let es := ws.zipIdx.map fun e =>
    match out with
    | .int32 => e.1
    | .int8 => satSigned 8 (toSigned 32 e.1)
    | f => convert f (rndOf (i.f 21 20) (srDraw t.mxSeed 2 ((t.mxDraw + e.2) % 2 ^ 48))) (i.b 22) (f32 e.1)
  let t := t.wrN (t.ag (i.f 195 192)).addr (numWords out.bits (packElems out.bits es))
  if stoch then { t with mxDraw := (t.mxDraw + 32) % 2 ^ 48 } else t

/-- Comparisons of a word (R175): the drained row, and the columns (DEDUCED, unsafe: notes/assumptions/51.md). -/
def dcwChecks (i : Instruct) (t : Tile) (a : DcwArray) : List (Nat × Nat × Option Bool) :=
  if !a.chk then []
  else
    let int := dcwInt i
    let bank := dcwBank i
    let tol := i.f 28 24
    let r := i.f 167 163
    (if i.b 162 then
      [(0, r, chkCompare int tol (a.sat.any fun c => c / 32 == r) (kvGetD a.chkRow 0 r) (dcwRow t bank r))] else []) ++
    (if i.b 168 then (List.range 32).filterMap fun j =>
      match kvGet? a.colPre j with
      | none => none
      | some pre =>
        let c := ((a.colLog.filter fun e => e.1 % 32 == j).map (·.2)).foldl (fun c e => chkStep int c e.1 e.2) (wordSum int pre)
        let rows := a.chkRow.map (·.1)
        some (1, j, chkCompare int tol (a.sat.any fun k => k % 32 == j) c (rows.map fun r => accWord t bank r j))
      else [])

/-- Generators step once per cycle (R246). -/
def dcwSteps (i : Instruct) (t : Tile) : Tile :=
  [(172, 176), (177, 181), (182, 186), (187, 191), (192, 196), (197, 201)].foldl (fun t (e : Nat × Nat) =>
    if i.b e.2 then t.modAg (i.f (e.1 + 3) e.1) AddrGen.step else t) t

/-- A cycle in which the array works wakes it, and each cycle of a waking array enables a row (R166, R171). -/
def dcwRamp (s : Nat) (i : Instruct) (d : Dev) : Dev :=
  let d := if dcwWorks i then (arrayWake s d).active (siteField s) 1 else d
  d.modTile s fun t => if t.mx.rows = 0 then t else { t with mx := { t.mx with rows := min 32 (t.mx.rows + 1) } }

/-- One cycle of a word in a tile; a word with VALID = 0 only lets the array move on (DEDUCED, unsafe: notes/assumptions/51.md). -/
def dcwCycle (s : Nat) (i : Instruct) (first : Bool) (d : Dev) : Dev :=
  let d := dcwRamp s i d
  let t := d.tile s
  match t.mx.dcw with
  | none => d
  | some a =>
    if !i.b 0 then
      let x := dcwArrayStep i [] [] t a
      d.setTile s { x.1 with mx := { x.1.mx with dcw := some x.2 } }
    else
      let rs := dcwReads t i first
      if rangesBad rs || rangesBad (dcwWrites t i) then dcwAbort s i d
      else
        let (d, bad) := readPoison s i rs d
        let (t, a) := if first then dcwPreload i (d.tile s) a else (d.tile s, a)
        let (ia, ib, a) := dcwInject i t a
        let a := dcwRowInit i t a ia
        let (t, a) := dcwArrayStep i ia ib t a
        let cs := dcwChecks i t a
        let t := if i.b 162 then dcwDrain i t else t
        let t := dcwSteps i t
        let bank := dcwBank i
        let touch := dcwTouches i
        let tokens := if touch && !a.took.contains bank then setIns t.mx.dcwTokens bank else t.mx.dcwTokens
        let tokens := if i.b 162 && i.f 167 163 == 0 then setDel tokens bank else tokens
        let a := { a with took := if touch then setIns a.took bank else a.took, poison := a.poison || bad }
        let d := d.setTile s { t with mx := { t.mx with dcw := some a, dcwTokens := tokens } }
        let ref : CmdRef := { tag := i.cmd.tag, stream := i.cmd.stream, withheld := true }
        let d := d.bumpBy (FIELD_MX_CHK_SKIP_COUNT (siteField s)) (cs.filter fun c => c.2.2.isNone).length
        match cs.find? fun c => c.2.2 == some true with
        | some c =>
          if a.failed then d
          else
            let d := (mxChecked s bank (some ref) [c] d).1
            d.modTile s fun t => { t with mx := { t.mx with dcw := some { a with failed := true } } }
        | none => d

/-! ### A word -/

/-- A command's first word takes the array of an idle tile (R247) (DEDUCED, unsafe: notes/assumptions/51.md). -/
def dcwEnter (s : Nat) (i : Instruct) (d : Dev) : Dev :=
  match (d.tile s).mx.dcw with
  | some _ => d
  | none =>
    let chk := bitOf (d.rd (FIELD_MX_CTRL (siteField s))) 1
    d.modTile s fun t =>
      let t := if t.mxNew then { t with mxNew := false, mxSeed := t.seed, mxDraw := 0 } else t
      { t with mx := { t.mx with dcw := some { cmd := i.cmd, chk } } }

/-- After LAST the command leaves the tile's array (R168, R247) (DEDUCED, unsafe: notes/assumptions/51.md). -/
def dcwLeave (s : Nat) (i : Instruct) (d : Dev) : Dev :=
  match (d.tile s).mx.dcw with
  | none => d
  | some a =>
    let d := d.modTile s fun t => { t with mx := { t.mx with dcw := none } }
    let d := if a.sat.isEmpty then d else mxSaturated s (some { tag := i.cmd.tag, stream := i.cmd.stream, withheld := false }) d
    if a.poison then { d with flt := { d.flt with failReports := d.flt.failReports ++ [(i.cmd.stream, i.cmd.tag)] } } else d

/-- A word in one tile: REPEAT + 1 cycles, then its generator write, then LAST. -/
def dcwTile (s : Nat) (i : Instruct) (d : Dev) : Dev :=
  if (d.tile s).faulted.contains i.cmd.serial then d
  else
    let d := dcwEnter s i d
    let d := (List.range (i.f 511 496 + 1)).foldl (fun d k => dcwCycle s i (k == 0) d) d
    let d := if i.b 0 && i.b 256 then d.modTile s fun t => t.modAg (i.f 260 257) fun g => g.setField (i.f 263 261) (i.f 295 264) else d
    if i.b 1 then dcwLeave s i d else d

/-- A hold of `cycles` cycles before a word (R166): counted, and recorded for the first of the tiles. -/
def dcwHold (q cycles : Nat) (i : Instruct) (ss : List Nat) (d : Dev) : Dev :=
  if cycles = 0 then d
  else
    let d := ibexVoid (q / 4) (d.bumpBy (FIELD_MX_SLIP_COUNT (q / 4)) cycles)
    match ss with
    | s :: _ => tileRecord s 0x08 (i.entry % 65536 + min cycles 0xFFFF * 65536) (some { tag := i.cmd.tag, stream := i.cmd.stream, withheld := false }) d
    | [] => d

/-- After a hold the rows of a waking array have been enabled further. -/
def dcwRampHold (s cycles : Nat) (i : Instruct) (d : Dev) : Dev :=
  if cycles = 0 then d
  else
    let d := if dcwWorks i then arrayWake s d else d
    d.modTile s fun t => if t.mx.rows = 0 then t else { t with mx := { t.mx with rows := min 32 (t.mx.rows + cycles) } }

/-- A DCW word takes effect in every subscribed tile (R247), or is held while a bank's token is out or a row that it drives
is not enabled (R166). -/
def dcwWord (q cycles : Nat) (d : Dev) : Dev :=
  match (d.seq q).dcwNow with
  | none => d
  | some i =>
    let ss := subscribed d q
    if ss.any fun s => dcwHeld d s cycles i then d
    else
      let d := d.modSeq q fun x => { x with dcwNow := none }
      let d := dcwHold q cycles i ss d
      ss.foldl (fun d s => dcwTile s i (dcwRampHold s cycles i d)) d

/-- DCW_WORD (R247): after a hold of `cycles` cycles. -/
def execDcwWord (q cycles : Nat) (s : State) : Result := guardUnit (unitSeq q) (onMesh (q / 4) (dcwWord q cycles) s)

end Sys2Proof.Machine
end

