-- ==== Sys2Proof/Machine/Peer.lean ====
section
/-! DEFINITION. What other modules ask of this one's registers and schedule table (14_channels_twin_herd.md R532, R546). -/

namespace Sys2Proof.Machine

/-- The agent of a module that sends a frame (R532; 02_control_model.md R73). -/
def peerAgent (d : Dev) (h : FrameHdr) : Nat :=
  if h.src / 64 = (if herdEn d then herdSide d else 0) then 0x80 + h.src % 64 else 0xC0 + h.src % 64

/-- REG_ACCESS: performed on this module under R56, and answered with REG_RESP: data, error code, 0xFF for a violation. -/
def regAccessIn (h : FrameHdr) (a : Nat) (data : Option Word) (x : ExtMem) (d : Dev) : Dev × List MemWrite :=
  let r := codedAccess (peerAgent d h) false (a / 4 * 4) data x d
  (send fRegResp h.src [a, r.1.toNat, r.2.1] r.2.2.1, r.2.2.2)

/-- REG_RESP: the answer is kept for the requester; the lead fences a member whose ADD of a distributed entry was
rejected (R546). -/
def regRespIn (h : FrameHdr) (a data code : Nat) (d : Dev) : Dev :=
  let d := d.modPeer fun p => { p with regResp := p.regResp ++ [(h.src, a, data, code)] }
  if isLead d && a == CAD_SCHED_CMD && code != 0 && h.src / 64 == herdSide d then fenceMember (h.src % 64) 3 d else d

/-- SCHED: the member's Pewter adds the lead's entry to its own table; the lead distributes an entry that a member asks
for. A member whose ADD is rejected tells the lead, but for a SNAPSHOT entry (DESIGN CHOICE, unsafe: notes/assumptions/86.md). -/
def schedIn (h : FrameHdr) (ws : List Word) (herd : Bool) (d : Dev) : Dev :=
  let agent := serviceAgent d
  if isLead d then (if herd then d else addWrite agent (d.baseChecks agent .cad) ws d)
  else if herdSt d = 3 ∧ h.src = keyOf d (leadPos d) then
    match firstFail (d.baseChecks agent .cad ++ addChecks d ws) with
    | some c =>
      let d := d.reject .cad 0x150 agent c
      if fld (ws.getD 1 0) 19 16 = 5 then d else send fRegResp h.src [CAD_SCHED_CMD, 0, c.code] d
    | none =>
      let d := addEntry agent ws d
      if herd then { d with cad := { d.cad with distributed := setIns d.cad.distributed (lastAdded d) } } else d
  else d

/-! ### Commands -/

/-- SCHED (R546): the four words of the entry and the herd flag. -/
def execSchedFrame (h : FrameHdr) (w0 w1 w2 w3 : Word) (herd : Bool) (s : State) : Result :=
  onDev (deliver1 (knownPeer · h) h fSched (schedIn h [w0, w1, w2, w3] herd)) s
/-- REG_ACCESS (R532): a read, or a write of data. -/
def execRegAccess (h : FrameHdr) (addr : Nat) (data : Option Word) (s : State) : Result :=
  onDevMem (fun x d => deliver (knownPeer · h) h fRegAccess (regAccessIn h addr data x) d) s
/-- REG_RESP (R532). -/
def execRegResp (h : FrameHdr) (addr data code : Nat) (s : State) : Result :=
  onDev (deliver1 (knownPeer · h) h fRegResp (regRespIn h addr data code)) s

end Sys2Proof.Machine
end

