-- ==== Sys2Proof/Machine/Dispatch.lean ====
section
/-! DEFINITION. One arm for each command: the meaning it has. -/

namespace Sys2Proof.Machine

def exec (i : Instr) (s : State) : Host.Outcome State Fault Refusal :=
  match i with
  | .registerWrite agent addr bytes => Sys2Proof.Machine.execRegisterWrite agent addr bytes s
  | .violationAccess agent bar2 write addr => Sys2Proof.Machine.execViolationAccess agent bar2 write addr s
  | .readClear agent addr len => Sys2Proof.Machine.execReadClear agent addr len s
  | .errCodeClear agent page => Sys2Proof.Machine.execErrCodeClear agent page s
  | .violInfoClear agent data => Sys2Proof.Machine.execViolInfoClear agent data s
  | .apply agent page data => Sys2Proof.Machine.execApply agent page data s
  | .digestComplete page => Sys2Proof.Machine.execDigestComplete page s
  | .lockAcquire agent n => Sys2Proof.Machine.execLockAcquire agent n s
  | .lockRelease agent n data => Sys2Proof.Machine.execLockRelease agent n data s
  | .breakLock agent data => Sys2Proof.Machine.execBreakLock agent data s
  | .dbgWindowAccess agent data => Sys2Proof.Machine.execDbgWindowAccess agent data s
  | .dbgWindowDone => Sys2Proof.Machine.execDbgWindowDone s
  | .dbgMemAccess agent data => Sys2Proof.Machine.execDbgMemAccess agent data s
  | .dapAccess addr consume data => Sys2Proof.Machine.execDapAccess addr consume data s
  | .haltRequest agent hi data => Sys2Proof.Machine.execHaltRequest agent hi data s
  | .resumeRequest agent hi data => Sys2Proof.Machine.execResumeRequest agent hi data s
  | .seqHalted q => Sys2Proof.Machine.execSeqHalted q s
  | .deferredHalt q => Sys2Proof.Machine.execDeferredHalt q s
  | .forcedHalt q => Sys2Proof.Machine.execForcedHalt q s
  | .snapFire agent data => Sys2Proof.Machine.execSnapFire agent data s
  | .snapLatch page late => Sys2Proof.Machine.execSnapLatch page late s
  | .spillComplete f => Sys2Proof.Machine.execSpillComplete f s
  | .spillRelease f agent data => Sys2Proof.Machine.execSpillRelease f agent data s
  | .traceCtrlWrite f agent data => Sys2Proof.Machine.execTraceCtrlWrite f agent data s
  | .traceEntryWrite f => Sys2Proof.Machine.execTraceEntryWrite f s
  | .traceGap f => Sys2Proof.Machine.execTraceGap f s
  | .traceRead f => Sys2Proof.Machine.execTraceRead f s
  | .broadcastArrival q => Sys2Proof.Machine.execBroadcastArrival q s
  | .tileDispatch site => Sys2Proof.Machine.execTileDispatch site s
  | .holdSignal site => Sys2Proof.Machine.execHoldSignal site s
  | .engineStart site eng strikes => Sys2Proof.Machine.execEngineStart site eng strikes s
  | .engineComplete site eng => Sys2Proof.Machine.execEngineComplete site eng s
  | .tokenTimeout site eng => Sys2Proof.Machine.execTokenTimeout site eng s
  | .spadEccWriteback site => Sys2Proof.Machine.execSpadEccWriteback site s
  | .scrubStep site bank ce ue => Sys2Proof.Machine.execScrubStep site bank ce ue s
  | .scrubForced site bank ce ue => Sys2Proof.Machine.execScrubForced site bank ce ue s
  | .bindingUpdate site => Sys2Proof.Machine.execBindingUpdate site s
  | .nbrGrant site => Sys2Proof.Machine.execNbrGrant site s
  | .nbrWr site => Sys2Proof.Machine.execNbrWr site s
  | .nbrDone site => Sys2Proof.Machine.execNbrDone site s
  | .nbrRefuse site => Sys2Proof.Machine.execNbrRefuse site s
  | .nbrRd site => Sys2Proof.Machine.execNbrRd site s
  | .nbrResp site => Sys2Proof.Machine.execNbrResp site s
  | .nbrTimeout site => Sys2Proof.Machine.execNbrTimeout site s
  | .msgArrival site => Sys2Proof.Machine.execMsgArrival site s
  | .creditArrival site => Sys2Proof.Machine.execCreditArrival site s
  | .mxPassStart site slip => Sys2Proof.Machine.execMxPassStart site slip s
  | .mxDrain site => Sys2Proof.Machine.execMxDrain site s
  | .arrayGate site => Sys2Proof.Machine.execArrayGate site s
  | .srSeedWrite site agent data => Sys2Proof.Machine.execSrSeedWrite site agent data s
  | .seqCommandEnqueue q => Sys2Proof.Machine.execSeqCommandEnqueue q s
  | .seqCommandStart q => Sys2Proof.Machine.execSeqCommandStart q s
  | .seqIssue q ecc => Sys2Proof.Machine.execSeqIssue q ecc s
  | .tileFaultReport q => Sys2Proof.Machine.execTileFaultReport q s
  | .seqAbortEnd q => Sys2Proof.Machine.execSeqAbortEnd q s
  | .seqCommandComplete q => Sys2Proof.Machine.execSeqCommandComplete q s
  | .imemAccess q agent data => Sys2Proof.Machine.execImemAccess q agent data s
  | .imemDmaGo q agent data => Sys2Proof.Machine.execImemDmaGo q agent data s
  | .imemDmaDone q ue => Sys2Proof.Machine.execImemDmaDone q ue s
  | .bankSwapRequest q agent data => Sys2Proof.Machine.execBankSwapRequest q agent data s
  | .bankSwapPendingApply q => Sys2Proof.Machine.execBankSwapPendingApply q s
  | .lockRetry q => Sys2Proof.Machine.execLockRetry q s
  | .lockTimeout q => Sys2Proof.Machine.execLockTimeout q s
  | .syncResume q => Sys2Proof.Machine.execSyncResume q s
  | .nop q => Sys2Proof.Machine.execNop q s
  | .endCommand q => Sys2Proof.Machine.execEndCommand q s
  | .jmp q => Sys2Proof.Machine.execJmp q s
  | .loop q => Sys2Proof.Machine.execLoop q s
  | .lcset q => Sys2Proof.Machine.execLcset q s
  | .atomBegin q => Sys2Proof.Machine.execAtomBegin q s
  | .atomEnd q => Sys2Proof.Machine.execAtomEnd q s
  | .sync q => Sys2Proof.Machine.execSync q s
  | .lkacq q => Sys2Proof.Machine.execLkacq q s
  | .lkrel q => Sys2Proof.Machine.execLkrel q s
  | .brb q => Sys2Proof.Machine.execBrb q s
  | .hint q => Sys2Proof.Machine.execHint q s
  | .sli site => Sys2Proof.Machine.execSli site s
  | .slih site => Sys2Proof.Machine.execSlih site s
  | .salu site => Sys2Proof.Machine.execSalu site s
  | .saddi site => Sys2Proof.Machine.execSaddi site s
  | .pcmp site => Sys2Proof.Machine.execPcmp site s
  | .plog site => Sys2Proof.Machine.execPlog site s
  | .sys site => Sys2Proof.Machine.execSys site s
  | .agseti site => Sys2Proof.Machine.execAgseti site s
  | .agset site => Sys2Proof.Machine.execAgset site s
  | .tcfg site => Sys2Proof.Machine.execTcfg site s
  | .grant site => Sys2Proof.Machine.execGrant site s
  | .release site => Sys2Proof.Machine.execRelease site s
  | .copy site => Sys2Proof.Machine.execCopy site s
  | .nld site => Sys2Proof.Machine.execNld site s
  | .mxm site => Sys2Proof.Machine.execMxm site s
  | .mxf site => Sys2Proof.Machine.execMxf site s
  | .vld site => Sys2Proof.Machine.execVld site s
  | .vst site => Sys2Proof.Machine.execVst site s
  | .valu site => Sys2Proof.Machine.execValu site s
  | .vfma site => Sys2Proof.Machine.execVfma site s
  | .vcmp site => Sys2Proof.Machine.execVcmp site s
  | .vfn site => Sys2Proof.Machine.execVfn site s
  | .vred site => Sys2Proof.Machine.execVred site s
  | .vbcast site => Sys2Proof.Machine.execVbcast site s
  | .vext site => Sys2Proof.Machine.execVext site s
  | .sld site => Sys2Proof.Machine.execSld site s
  | .sst site => Sys2Proof.Machine.execSst site s
  | .vsop site => Sys2Proof.Machine.execVsop site s
  | .vsfn site => Sys2Proof.Machine.execVsfn site s
  | .vcvt site => Sys2Proof.Machine.execVcvt site s
  | .vqmx site => Sys2Proof.Machine.execVqmx site s
  | .send site => Sys2Proof.Machine.execSend site s
  | .nst site => Sys2Proof.Machine.execNst site s
  | .redc site => Sys2Proof.Machine.execRedc site s
  | .ereq site => Sys2Proof.Machine.execEreq site s
  | .dcwWord q cycles => Sys2Proof.Machine.execDcwWord q cycles s
  | .routerPacket site port vc err => Sys2Proof.Machine.execRouterPacket site port vc err s
  | .packetEjection site => Sys2Proof.Machine.execPacketEjection site s
  | .bindingChange node => Sys2Proof.Machine.execBindingChange node s
  | .bcastArrival site port => Sys2Proof.Machine.execBcastArrival site port s
  | .redArrival site port => Sys2Proof.Machine.execRedArrival site port s
  | .redTimeout site id => Sys2Proof.Machine.execRedTimeout site id s
  | .seamUnlock f south => Sys2Proof.Machine.execSeamUnlock f south s
  | .seamRelock f south => Sys2Proof.Machine.execSeamRelock f south s
  | .seamRelockTimeout f south => Sys2Proof.Machine.execSeamRelockTimeout f south s
  | .rtDataAccess f agent data => Sys2Proof.Machine.execRtDataAccess f agent data s
  | .edgeReq code => Sys2Proof.Machine.execEdgeReq code s
  | .descriptorWrite agent n w data => Sys2Proof.Machine.execDescriptorWrite agent n w data s
  | .openStream agent n => Sys2Proof.Machine.execOpenStream agent n s
  | .openDone => Sys2Proof.Machine.execOpenDone s
  | .closeStream agent n => Sys2Proof.Machine.execCloseStream agent n s
  | .pauseStream agent n => Sys2Proof.Machine.execPauseStream agent n s
  | .resumeStream agent n => Sys2Proof.Machine.execResumeStream agent n s
  | .strmCredit agent n arg => Sys2Proof.Machine.execStrmCredit agent n arg s
  | .strmRelease agent n => Sys2Proof.Machine.execStrmRelease agent n s
  | .clearStream agent n => Sys2Proof.Machine.execClearStream agent n s
  | .progDataAccess agent data => Sys2Proof.Machine.execProgDataAccess agent data s
  | .ringProdWrite r agent data => Sys2Proof.Machine.execRingProdWrite r agent data s
  | .beatIssue => Sys2Proof.Machine.execBeatIssue s
  | .beatFailReport => Sys2Proof.Machine.execBeatFailReport s
  | .beatAbortDone stream => Sys2Proof.Machine.execBeatAbortDone stream s
  | .beatCommit stream => Sys2Proof.Machine.execBeatCommit stream s
  | .deadlineReached n => Sys2Proof.Machine.execDeadlineReached n s
  | .selRequest f => Sys2Proof.Machine.execSelRequest f s
  | .selScanDone f => Sys2Proof.Machine.execSelScanDone f s
  | .memRequest m k ce ue => Sys2Proof.Machine.execMemRequest m k ce ue s
  | .edgeResp site => Sys2Proof.Machine.execEdgeResp site s
  | .ereqTimeout site id => Sys2Proof.Machine.execEreqTimeout site id s
  | .hostMemAccess addr len data poison errs => Sys2Proof.Machine.execHostMemAccess addr len data poison errs s
  | .memScrubStep m err => Sys2Proof.Machine.execMemScrubStep m err s
  | .pageRetireDone m => Sys2Proof.Machine.execPageRetireDone m s
  | .correctionCountReset m => Sys2Proof.Machine.execCorrectionCountReset m s
  | .hbmTempPoll m temp => Sys2Proof.Machine.execHbmTempPoll m temp s
  | .memPortFail m => Sys2Proof.Machine.execMemPortFail m s
  | .tbCopyCheck out => Sys2Proof.Machine.execTbCopyCheck out s
  | .timeCapture => Sys2Proof.Machine.execTimeCapture s
  | .timeSetGo agent data => Sys2Proof.Machine.execTimeSetGo agent data s
  | .taiRollover => Sys2Proof.Machine.execTaiRollover s
  | .servoHoldover => Sys2Proof.Machine.execServoHoldover s
  | .fsyncEdge => Sys2Proof.Machine.execFsyncEdge s
  | .ppsEdge => Sys2Proof.Machine.execPpsEdge s
  | .snapPinEdge => Sys2Proof.Machine.execSnapPinEdge s
  | .frameWindowClose => Sys2Proof.Machine.execFrameWindowClose s
  | .internalBoundary => Sys2Proof.Machine.execInternalBoundary s
  | .frameBoundary => Sys2Proof.Machine.execFrameBoundary s
  | .schedAdd agent => Sys2Proof.Machine.execSchedAdd agent s
  | .schedDelete agent e => Sys2Proof.Machine.execSchedDelete agent e s
  | .schedIssue e => Sys2Proof.Machine.execSchedIssue e s
  | .freqEntry e => Sys2Proof.Machine.execFreqEntry e s
  | .configApplyEntry e => Sys2Proof.Machine.execConfigApplyEntry e s
  | .bankSwapEntry e => Sys2Proof.Machine.execBankSwapEntry e s
  | .schedStreamRelease e => Sys2Proof.Machine.execSchedStreamRelease e s
  | .snapshotEntry e => Sys2Proof.Machine.execSnapshotEntry e s
  | .powerHintEntry e => Sys2Proof.Machine.execPowerHintEntry e s
  | .fireLogPop => Sys2Proof.Machine.execFireLogPop s
  | .chgReq agent data => Sys2Proof.Machine.execChgReq agent data s
  | .chgVoltCheck => Sys2Proof.Machine.execChgVoltCheck s
  | .chgDistribute => Sys2Proof.Machine.execChgDistribute s
  | .seamHold => Sys2Proof.Machine.execSeamHold s
  | .clockStop stuck => Sys2Proof.Machine.execClockStop stuck s
  | .clockRestart => Sys2Proof.Machine.execClockRestart s
  | .railConfirm r mv => Sys2Proof.Machine.execRailConfirm r mv s
  | .qFieldWrite agent data => Sys2Proof.Machine.execQFieldWrite agent data s
  | .pllUnlock f => Sys2Proof.Machine.execPllUnlock f s
  | .pllRelockDone f ok => Sys2Proof.Machine.execPllRelockDone f ok s
  | .refclkLoss => Sys2Proof.Machine.execRefclkLoss s
  | .refclkReturn => Sys2Proof.Machine.execRefclkReturn s
  | .avsPoll r ok mv qa failed lost => Sys2Proof.Machine.execAvsPoll r ok mv qa failed lost s
  | .pmbusPoll r ok mv qa hot => Sys2Proof.Machine.execPmbusPoll r ok mv qa hot s
  | .commTimeout r => Sys2Proof.Machine.execCommTimeout r s
  | .smbalert => Sys2Proof.Machine.execSmbalert s
  | .railFault r kind ports => Sys2Proof.Machine.execRailFault r kind ports s
  | .domCtrl agent data => Sys2Proof.Machine.execDomCtrl agent data s
  | .domainSwitchDone => Sys2Proof.Machine.execDomainSwitchDone s
  | .ceilEval f => Sys2Proof.Machine.execCeilEval f s
  | .estCalibrate => Sys2Proof.Machine.execEstCalibrate s
  | .droopTrip dom => Sys2Proof.Machine.execDroopTrip dom s
  | .droopStretchEnd f cycles => Sys2Proof.Machine.execDroopStretchEnd f cycles s
  | .stretchEscalation f => Sys2Proof.Machine.execStretchEscalation f s
  | .droopPersistCheck f still => Sys2Proof.Machine.execDroopPersistCheck f still s
  | .hintExpire src => Sys2Proof.Machine.execHintExpire src s
  | .powerSample => Sys2Proof.Machine.execPowerSample s
  | .shortTermStep => Sys2Proof.Machine.execShortTermStep s
  | .sustStep => Sys2Proof.Machine.execSustStep s
  | .herdShare agent data => Sys2Proof.Machine.execHerdShare agent data s
  | .trimAdjust f low high => Sys2Proof.Machine.execTrimAdjust f low high s
  | .thermalPoll readings => Sys2Proof.Machine.execThermalPoll readings s
  | .thermalStepTimer k => Sys2Proof.Machine.execThermalStepTimer k s
  | .thermalTrip => Sys2Proof.Machine.execThermalTrip s
  | .hbmHotStep m => Sys2Proof.Machine.execHbmHotStep m s
  | .errorRecordStore => Sys2Proof.Machine.execErrorRecordStore s
  | .ringBudgetEnd => Sys2Proof.Machine.execRingBudgetEnd s
  | .pewterDisagree p => Sys2Proof.Machine.execPewterDisagree p s
  | .pewterPairRejoin p => Sys2Proof.Machine.execPewterPairRejoin p s
  | .trialStart => Sys2Proof.Machine.execTrialStart s
  | .refillPacket lines errs => Sys2Proof.Machine.execRefillPacket lines errs s
  | .refillDone => Sys2Proof.Machine.execRefillDone s
  | .refillTimeout => Sys2Proof.Machine.execRefillTimeout s
  | .trial agent site => Sys2Proof.Machine.execTrial agent site s
  | .trialWithFence agent site => Sys2Proof.Machine.execTrialWithFence agent site s
  | .reinstate agent site => Sys2Proof.Machine.execReinstate agent site s
  | .ibexStart agent f => Sys2Proof.Machine.execIbexStart agent f s
  | .ibexAbort agent => Sys2Proof.Machine.execIbexAbort agent s
  | .ibexPeriodDue f => Sys2Proof.Machine.execIbexPeriodDue f s
  | .ibexSliceStart => Sys2Proof.Machine.execIbexSliceStart s
  | .ibexStep void_ => Sys2Proof.Machine.execIbexStep void_ s
  | .ibexRestoreDone => Sys2Proof.Machine.execIbexRestoreDone s
  | .helloFrame h profile mode role range herd => Sys2Proof.Machine.execHelloFrame h profile mode role range herd s
  | .helloSend => Sys2Proof.Machine.execHelloSend s
  | .heartbeatFrame h => Sys2Proof.Machine.execHeartbeatFrame h s
  | .heartbeatSend => Sys2Proof.Machine.execHeartbeatSend s
  | .snigusRetransmit => Sys2Proof.Machine.execSnigusRetransmit s
  | .snigusBadFrame h typ => Sys2Proof.Machine.execSnigusBadFrame h typ s
  | .digestFrame h stream beat attempt digest => Sys2Proof.Machine.execDigestFrame h stream beat attempt digest s
  | .holdFrame h stream beat attempt pair => Sys2Proof.Machine.execHoldFrame h stream beat attempt pair s
  | .digestWaitTimeout stream => Sys2Proof.Machine.execDigestWaitTimeout stream s
  | .ingestFrame h stream frame count => Sys2Proof.Machine.execIngestFrame h stream frame count s
  | .ingestWaitTimeout stream => Sys2Proof.Machine.execIngestWaitTimeout stream s
  | .timeFrame h offset rtt => Sys2Proof.Machine.execTimeFrame h offset rtt s
  | .frameFrame h frame ns => Sys2Proof.Machine.execFrameFrame h frame ns s
  | .partnerLost => Sys2Proof.Machine.execPartnerLost s
  | .rebuildStart stream source => Sys2Proof.Machine.execRebuildStart stream source s
  | .copyFrame h addr data => Sys2Proof.Machine.execCopyFrame h addr data s
  | .rebuildInstall stream beat len head record => Sys2Proof.Machine.execRebuildInstall stream beat len head record s
  | .rebuildDone stream => Sys2Proof.Machine.execRebuildDone stream s
  | .joinFrame h pos profile mode health => Sys2Proof.Machine.execJoinFrame h pos profile mode health s
  | .joinSend => Sys2Proof.Machine.execJoinSend s
  | .admitFrame h pos frame epoch mask gen lead gens => Sys2Proof.Machine.execAdmitFrame h pos frame epoch mask gen lead gens s
  | .refuseFrame h reason lead => Sys2Proof.Machine.execRefuseFrame h reason lead s
  | .membershipFrame h lead mask fold beat gens => Sys2Proof.Machine.execMembershipFrame h lead mask fold beat gens s
  | .herdReportSend => Sys2Proof.Machine.execHerdReportSend s
  | .reportFrame h frame epoch digest power phase health => Sys2Proof.Machine.execReportFrame h frame epoch digest power phase health s
  | .herdCompare misses => Sys2Proof.Machine.execHerdCompare misses s
  | .shareFrame h watts => Sys2Proof.Machine.execShareFrame h watts s
  | .schedFrame h w0 w1 w2 w3 herd => Sys2Proof.Machine.execSchedFrame h w0 w1 w2 w3 herd s
  | .appendFrame h stream beat pos => Sys2Proof.Machine.execAppendFrame h stream beat pos s
  | .regAccess h addr data => Sys2Proof.Machine.execRegAccess h addr data s
  | .regResp h addr data code => Sys2Proof.Machine.execRegResp h addr data code s
  | .partialFrame h slot data => Sys2Proof.Machine.execPartialFrame h slot data s
  | .pxTxTrigger => Sys2Proof.Machine.execPxTxTrigger s
  | .leadLost => Sys2Proof.Machine.execLeadLost s
  | .herdApply agent data => Sys2Proof.Machine.execHerdApply agent data s
  | .porstAssert => Sys2Proof.Machine.execPorstAssert s
  | .coldStart facts => Sys2Proof.Machine.execColdStart facts s
  | .doorbellPoll => Sys2Proof.Machine.execDoorbellPoll s
  | .fwChunk => Sys2Proof.Machine.execFwChunk s
  | .fwCommit => Sys2Proof.Machine.execFwCommit s
  | .fwBoot => Sys2Proof.Machine.execFwBoot s
  | .licWrite => Sys2Proof.Machine.execLicWrite s
  | .rstMask => Sys2Proof.Machine.execRstMask s
  | .debugUnlock => Sys2Proof.Machine.execDebugUnlock s
  | .boardCfg => Sys2Proof.Machine.execBoardCfg s
  | .debugLock => Sys2Proof.Machine.execDebugLock s
  | .computeReset => Sys2Proof.Machine.execComputeReset s
  | .pewterRestart own => Sys2Proof.Machine.execPewterRestart own s
  | .hostcfgApply => Sys2Proof.Machine.execHostcfgApply s
  | .bootRequestDone => Sys2Proof.Machine.execBootRequestDone s
  | .debugSessionExpire => Sys2Proof.Machine.execDebugSessionExpire s
  | .trstAssert => Sys2Proof.Machine.execTrstAssert s
  | .rstNAssert => Sys2Proof.Machine.execRstNAssert s
  | .creset agent data => Sys2Proof.Machine.execCreset agent data s
  | .computeResetSelftestDone failed => Sys2Proof.Machine.execComputeResetSelftestDone failed s
  | .computeResetRelease => Sys2Proof.Machine.execComputeResetRelease s
  | .resetHeldTimeout => Sys2Proof.Machine.execResetHeldTimeout s
  | .maskClear => Sys2Proof.Machine.execMaskClear s
  | .pewterRestartDone => Sys2Proof.Machine.execPewterRestartDone s
  | .vaonDrop => Sys2Proof.Machine.execVaonDrop s
  | .hostFunctionReset kind link => Sys2Proof.Machine.execHostFunctionReset kind link s
  | .perstAssert link => Sys2Proof.Machine.execPerstAssert link s
  | .pcieLinkUp link speed width flit => Sys2Proof.Machine.execPcieLinkUp link speed width flit s
  | .d3hotEntry link => Sys2Proof.Machine.execD3hotEntry link s
  | .sensorFrame port frame => Sys2Proof.Machine.execSensorFrame port frame s
  | .sensorEntryDone port => Sys2Proof.Machine.execSensorEntryDone port s
  | .pairMissTimeout port => Sys2Proof.Machine.execPairMissTimeout port s
  | .arpRequest port v6 => Sys2Proof.Machine.execArpRequest port v6 s
  | .gptpSync port off => Sys2Proof.Machine.execGptpSync port off s
  | .gptpAnnounce port => Sys2Proof.Machine.execGptpAnnounce port s
  | .gptpPdelay port ns => Sys2Proof.Machine.execGptpPdelay port ns s
  | .linkRetrain code ok => Sys2Proof.Machine.execLinkRetrain code ok s
  | .serdesLinkDown code => Sys2Proof.Machine.execSerdesLinkDown code s
  | .peek pec off => Sys2Proof.Machine.execPeek pec off s
  | .coolant pec q => Sys2Proof.Machine.execCoolant pec q s
  | .coolantTimeout => Sys2Proof.Machine.execCoolantTimeout s
  | .dataWrite pec off data => Sys2Proof.Machine.execDataWrite pec off data s
  | .request pec op len off => Sys2Proof.Machine.execRequest pec op len off s
  | .reqStatus pec => Sys2Proof.Machine.execReqStatus pec s
  | .extest cells => Sys2Proof.Machine.execExtest cells s
  | .idcode => Sys2Proof.Machine.execIdcode s
  | .samplePreload cells => Sys2Proof.Machine.execSamplePreload cells s
  | .clamp => Sys2Proof.Machine.execClamp s
  | .highz => Sys2Proof.Machine.execHighz s
  | .dap => Sys2Proof.Machine.execDap s
  | .jtagAuth token => Sys2Proof.Machine.execJtagAuth token s
  | .bypass => Sys2Proof.Machine.execBypass s
  | .uartInput data => Sys2Proof.Machine.execUartInput data s
  | .evtCfgWrite n agent data => Sys2Proof.Machine.execEvtCfgWrite n agent data s
  | .evtPulseEnd n => Sys2Proof.Machine.execEvtPulseEnd n s
  | .alertTimeout src => Sys2Proof.Machine.execAlertTimeout src s
  | .alertClear agent data => Sys2Proof.Machine.execAlertClear agent data s
  | .faultClear agent data => Sys2Proof.Machine.execFaultClear agent data s
  | .rstNRelease => Sys2Proof.Machine.execRstNRelease s
  | .vaonRecovery => Sys2Proof.Machine.execVaonRecovery s
  | .d3hotExit link => Sys2Proof.Machine.execD3hotExit link s
  | .aer unc status => Sys2Proof.Machine.execAer unc status s
  | .dynamicAddressAssign addr => Sys2Proof.Machine.execDynamicAddressAssign addr s
  | .trimFlashWrite => Sys2Proof.Machine.execTrimFlashWrite s
  | .perfMeasuredUpdate m => Sys2Proof.Machine.execPerfMeasuredUpdate m s

end Sys2Proof.Machine
end

