-- ==== Sys2Proof/WellFormed.lean ====
section
/-! DEFINITION. When a command names units that the die has (01_device_overview.md R19 to R25, R38): the commands that
are well formed. Every other value an operand may hold is one a sender can give. -/

namespace Sys2Proof

open Sys2Proof.Machine in
/-- The units that a command names exist. -/
def Instr.wf (i : Instr) : Bool :=
  match i with
  | .registerWrite agent _ _ => isAgent agent
  | .violationAccess _ _ _ _ => true
  | .readClear agent _ _ => isAgent agent
  | .errCodeClear agent page => isAgent agent && unitPage page
  | .violInfoClear _ _ => true
  | .apply _ page _ => unitPage page
  | .digestComplete page => unitPage page
  | .lockAcquire agent n => decide (n < 256) && isAgent agent
  | .lockRelease agent n _ => decide (n < 256) && isAgent agent
  | .breakLock _ _ => true
  | .dbgWindowAccess _ _ => true
  | .dbgWindowDone => true
  | .dbgMemAccess _ _ => true
  | .dapAccess _ _ _ => true
  | .haltRequest _ _ _ => true
  | .resumeRequest _ _ _ => true
  | .seqHalted q => unitSeq q
  | .deferredHalt q => unitSeq q
  | .forcedHalt q => unitSeq q
  | .snapFire _ _ => true
  | .snapLatch page _ => unitPage page
  | .spillComplete f => unitField f
  | .spillRelease f _ _ => unitField f
  | .traceCtrlWrite f _ _ => unitField f
  | .traceEntryWrite f => unitField f
  | .traceGap f => unitField f
  | .traceRead f => unitField f
  | .broadcastArrival q => unitSeq q
  | .tileDispatch site => unitSite site
  | .holdSignal site => unitSite site
  | .engineStart site eng _ => unitSite site && decide (eng < 5)
  | .engineComplete site eng => unitSite site && decide (eng < 5)
  | .tokenTimeout site eng => unitSite site && decide (eng < 5)
  | .spadEccWriteback site => unitSite site
  | .scrubStep site _ _ _ => unitSite site
  | .scrubForced site _ _ _ => unitSite site
  | .bindingUpdate site => unitSite site
  | .nbrGrant site => unitSite site
  | .nbrWr site => unitSite site
  | .nbrDone site => unitSite site
  | .nbrRefuse site => unitSite site
  | .nbrRd site => unitSite site
  | .nbrResp site => unitSite site
  | .nbrTimeout site => unitSite site
  | .msgArrival site => unitSite site
  | .creditArrival site => unitSite site
  | .mxPassStart site _ => unitSite site
  | .mxDrain site => unitSite site
  | .arrayGate site => unitSite site
  | .srSeedWrite site _ _ => unitSite site
  | .seqCommandEnqueue q => unitSeq q
  | .seqCommandStart q => unitSeq q
  | .seqIssue q _ => unitSeq q
  | .tileFaultReport q => unitSeq q
  | .seqAbortEnd q => unitSeq q
  | .seqCommandComplete q => unitSeq q
  | .imemAccess q _ _ => unitSeq q
  | .imemDmaGo q _ _ => unitSeq q
  | .imemDmaDone q _ => unitSeq q
  | .bankSwapRequest q _ _ => unitSeq q
  | .bankSwapPendingApply q => unitSeq q
  | .lockRetry q => unitSeq q
  | .lockTimeout q => unitSeq q
  | .syncResume q => unitSeq q
  | .nop q => unitSeq q
  | .endCommand q => unitSeq q
  | .jmp q => unitSeq q
  | .loop q => unitSeq q
  | .lcset q => unitSeq q
  | .atomBegin q => unitSeq q
  | .atomEnd q => unitSeq q
  | .sync q => unitSeq q
  | .lkacq q => unitSeq q
  | .lkrel q => unitSeq q
  | .brb q => unitSeq q
  | .hint q => unitSeq q
  | .sli site => unitSite site
  | .slih site => unitSite site
  | .salu site => unitSite site
  | .saddi site => unitSite site
  | .pcmp site => unitSite site
  | .plog site => unitSite site
  | .sys site => unitSite site
  | .agseti site => unitSite site
  | .agset site => unitSite site
  | .tcfg site => unitSite site
  | .grant site => unitSite site
  | .release site => unitSite site
  | .copy site => unitSite site
  | .nld site => unitSite site
  | .mxm site => unitSite site
  | .mxf site => unitSite site
  | .vld site => unitSite site
  | .vst site => unitSite site
  | .valu site => unitSite site
  | .vfma site => unitSite site
  | .vcmp site => unitSite site
  | .vfn site => unitSite site
  | .vred site => unitSite site
  | .vbcast site => unitSite site
  | .vext site => unitSite site
  | .sld site => unitSite site
  | .sst site => unitSite site
  | .vsop site => unitSite site
  | .vsfn site => unitSite site
  | .vcvt site => unitSite site
  | .vqmx site => unitSite site
  | .send site => unitSite site
  | .nst site => unitSite site
  | .redc site => unitSite site
  | .ereq site => unitSite site
  | .dcwWord q _ => unitSeq q
  | .routerPacket site _ _ _ => unitSite site
  | .packetEjection site => unitSite site
  | .bindingChange node => unitSite node || (edgeRouter (node - 16384) 0 0).isSome && decide (16384 ≤ node)
  | .bcastArrival site _ => unitSite site
  | .redArrival site _ => unitSite site
  | .redTimeout site _ => unitSite site
  | .seamUnlock f _ => unitField f
  | .seamRelock f _ => unitField f
  | .seamRelockTimeout f _ => unitField f
  | .rtDataAccess f _ _ => unitField f
  | .edgeReq code => unitEdge code
  | .descriptorWrite _ n w _ => unitStream n && decide (w < 16)
  | .openStream _ n => unitStream n
  | .openDone => true
  | .closeStream _ n => unitStream n
  | .pauseStream _ n => unitStream n
  | .resumeStream _ n => unitStream n
  | .strmCredit _ n _ => unitStream n
  | .strmRelease _ n => unitStream n
  | .clearStream _ n => unitStream n
  | .progDataAccess _ _ => true
  | .ringProdWrite r _ _ => unitRing r
  | .beatIssue => true
  | .beatFailReport => true
  | .beatAbortDone stream => unitStream stream
  | .beatCommit stream => unitStream stream
  | .deadlineReached n => unitStream n
  | .selRequest f => unitField f
  | .selScanDone f => unitField f
  | .memRequest m _ _ _ => unitMemp m
  | .edgeResp site => unitSite site
  | .ereqTimeout site _ => unitSite site
  | .hostMemAccess _ _ _ _ _ => true
  | .memScrubStep m _ => unitMemp m
  | .pageRetireDone m => unitMemp m
  | .correctionCountReset m => unitMemp m
  | .hbmTempPoll m _ => unitMemp m
  | .memPortFail m => unitMemp m
  | .tbCopyCheck _ => true
  | .timeCapture => true
  | .timeSetGo _ _ => true
  | .taiRollover => true
  | .servoHoldover => true
  | .fsyncEdge => true
  | .ppsEdge => true
  | .snapPinEdge => true
  | .frameWindowClose => true
  | .internalBoundary => true
  | .frameBoundary => true
  | .schedAdd _ => true
  | .schedDelete _ e => unitEntry e
  | .schedIssue e => unitEntry e
  | .freqEntry e => unitEntry e
  | .configApplyEntry e => unitEntry e
  | .bankSwapEntry e => unitEntry e
  | .schedStreamRelease e => unitEntry e
  | .snapshotEntry e => unitEntry e
  | .powerHintEntry e => unitEntry e
  | .fireLogPop => true
  | .chgReq _ _ => true
  | .chgVoltCheck => true
  | .chgDistribute => true
  | .seamHold => true
  | .clockStop _ => true
  | .clockRestart => true
  | .railConfirm r _ => decide (r < 18)
  | .qFieldWrite _ _ => true
  | .pllUnlock f => unitField f
  | .pllRelockDone f _ => unitField f
  | .refclkLoss => true
  | .refclkReturn => true
  | .avsPoll r _ _ _ _ _ => decide (r < 14)
  | .pmbusPoll r _ _ _ _ => decide (r < 18)
  | .commTimeout r => decide (r < 14)
  | .smbalert => true
  | .railFault r kind _ => decide (r < 18) && decide (kind < 3)
  | .domCtrl _ _ => true
  | .domainSwitchDone => true
  | .ceilEval f => unitField f
  | .estCalibrate => true
  | .droopTrip dom => decide (dom < 168)
  | .droopStretchEnd f _ => unitField f
  | .stretchEscalation f => unitField f
  | .droopPersistCheck f _ => unitField f
  | .hintExpire _ => true
  | .powerSample => true
  | .shortTermStep => true
  | .sustStep => true
  | .herdShare _ _ => true
  | .trimAdjust f _ _ => unitField f
  | .thermalPoll _ => true
  | .thermalStepTimer k => decide (k < 3)
  | .thermalTrip => true
  | .hbmHotStep m => decide (m < 8)
  | .errorRecordStore => true
  | .ringBudgetEnd => true
  | .pewterDisagree p => decide (p < 4)
  | .pewterPairRejoin p => decide (p < 4)
  | .trialStart => true
  | .refillPacket _ _ => true
  | .refillDone => true
  | .refillTimeout => true
  | .trial _ _ => true
  | .trialWithFence _ _ => true
  | .reinstate _ _ => true
  | .ibexStart _ _ => true
  | .ibexAbort _ => true
  | .ibexPeriodDue f => unitField f
  | .ibexSliceStart => true
  | .ibexStep _ => true
  | .ibexRestoreDone => true
  | .helloFrame _ _ _ _ _ _ => true
  | .helloSend => true
  | .heartbeatFrame _ => true
  | .heartbeatSend => true
  | .snigusRetransmit => true
  | .snigusBadFrame _ _ => true
  | .digestFrame _ _ _ _ _ => true
  | .holdFrame _ _ _ _ _ => true
  | .digestWaitTimeout stream => unitStream stream
  | .ingestFrame _ _ _ _ => true
  | .ingestWaitTimeout stream => unitStream stream
  | .timeFrame _ _ _ => true
  | .frameFrame _ _ _ => true
  | .partnerLost => true
  | .rebuildStart stream _ => unitStream stream
  | .copyFrame _ _ _ => true
  | .rebuildInstall stream _ _ _ _ => unitStream stream
  | .rebuildDone stream => unitStream stream
  | .joinFrame _ pos _ _ _ => decide (pos < 64)
  | .joinSend => true
  | .admitFrame _ _ _ _ _ _ _ _ => true
  | .refuseFrame _ _ _ => true
  | .membershipFrame _ _ _ _ _ _ => true
  | .herdReportSend => true
  | .reportFrame _ _ _ _ _ _ _ => true
  | .herdCompare _ => true
  | .shareFrame _ _ => true
  | .schedFrame _ _ _ _ _ _ => true
  | .appendFrame _ _ _ _ => true
  | .regAccess _ _ _ => true
  | .regResp _ _ _ _ => true
  | .partialFrame _ _ _ => true
  | .pxTxTrigger => true
  | .leadLost => true
  | .herdApply _ _ => true
  | .porstAssert => true
  | .coldStart _ => true
  | .doorbellPoll => true
  | .fwChunk => true
  | .fwCommit => true
  | .fwBoot => true
  | .licWrite => true
  | .rstMask => true
  | .debugUnlock => true
  | .boardCfg => true
  | .debugLock => true
  | .computeReset => true
  | .pewterRestart _ => true
  | .hostcfgApply => true
  | .bootRequestDone => true
  | .debugSessionExpire => true
  | .trstAssert => true
  | .rstNAssert => true
  | .creset _ _ => true
  | .computeResetSelftestDone _ => true
  | .computeResetRelease => true
  | .resetHeldTimeout => true
  | .maskClear => true
  | .pewterRestartDone => true
  | .vaonDrop => true
  | .hostFunctionReset kind link => decide (kind < 3) && decide (link < 2)
  | .perstAssert link => decide (link < 2)
  | .pcieLinkUp link _ _ _ => decide (link < 2)
  | .d3hotEntry link => decide (link < 2)
  | .sensorFrame port _ => unitSens port
  | .sensorEntryDone port => unitSens port
  | .pairMissTimeout port => unitSens port
  | .arpRequest port _ => unitSens port
  | .gptpSync port _ => unitSens port
  | .gptpAnnounce port => unitSens port
  | .gptpPdelay port _ => unitSens port
  | .linkRetrain code _ => isLink code
  | .serdesLinkDown code => isLink code
  | .peek _ _ => true
  | .coolant _ _ => true
  | .coolantTimeout => true
  | .dataWrite _ _ _ => true
  | .request _ _ _ _ => true
  | .reqStatus _ => true
  | .extest _ => true
  | .idcode => true
  | .samplePreload _ => true
  | .clamp => true
  | .highz => true
  | .dap => true
  | .jtagAuth _ => true
  | .bypass => true
  | .uartInput _ => true
  | .evtCfgWrite n _ _ => unitPin n
  | .evtPulseEnd n => unitPin n
  | .alertTimeout src => decide (src < 2)
  | .alertClear _ _ => true
  | .faultClear _ _ => true
  | .rstNRelease => true
  | .vaonRecovery => true
  | .d3hotExit link => decide (link < 2)
  | .aer _ _ => true
  | .dynamicAddressAssign _ => true
  | .trimFlashWrite => true
  | .perfMeasuredUpdate _ => true

end Sys2Proof
end

