-- ==== Sys2Proof/Safety.lean ====
section
/-! DEFINITION. What claims are stated in terms of: a command that completes, a safe queue, the invariant of every state,
what a command leaves alone. -/

namespace Sys2Proof.Machine

/-- A command completes: it answers a next state, of which the property holds. -/
def Completes (i : Instr) (s : State) (p : State → Prop) : Prop := ∃ t, exec i s = .next t ∧ p t

/-- A command completes inside the part: it answers a next state whose waiting commands, external memory, byte for byte
and line for line, and snapshot instant are those before, and the property holds of the inside. -/
def Gives (i : Instr) (s : State) (p : Dev → Prop) : Prop :=
  ∃ t, exec i s = .next t ∧ t.pending = s.pending ∧ t.mem = s.mem ∧ t.shot = s.shot ∧ p t.dev

/-- Every waiting command names units that the die has: no step of this queue stops. -/
def SafeQueue (s : State) : Prop := s.pending.all Instr.wf = true

/-- The invariant of every state: external memory is in its canonical form. -/
def StateInv (s : State) : Prop := s.mem.wf = true

/-- Every register outside a list of BAR 0 offsets holds what it held. -/
def RegsKeep (l : List Nat) (d e : Dev) : Prop := ∀ a, a ∉ l → e.rd a = d.rd a

/-- Registers apart, the inside of the part is as it was. -/
def RegsOnly (d e : Dev) : Prop := e = { d with regs := e.regs }

/-- Only the listed registers may differ: every other register and every other piece of state is as it was. -/
def OnlyRegs (l : List Nat) (d e : Dev) : Prop := RegsOnly d e ∧ RegsKeep l d e

/-- The two error registers of a page, ERR_CODE and ERR_COUNT (02_control_model.md R53). -/
def errRegs (p : Page) : List Nat := [p.base + 0x10, p.base + 0x14]

end Sys2Proof.Machine

namespace Sys2Proof

/-- The commands that can write external memory, or, of the two resets, forget it. -/
def Instr.stores (i : Instr) : Bool :=
  match i with
  | .registerWrite _ _ _ | .errCodeClear _ _ | .dbgWindowDone | .dapAccess _ _ _ | .hostMemAccess _ _ _ _ _
  | .apply _ _ _ | .trialStart | .refillPacket _ _ | .refillDone | .refillTimeout | .trial _ _
  | .trialWithFence _ _ | .reinstate _ _ | .memScrubStep _ _ | .openDone | .beatIssue | .beatAbortDone _
  | .beatCommit _ | .memRequest _ _ _ _ | .digestFrame _ _ _ _ _ | .holdFrame _ _ _ _ _ | .digestWaitTimeout _
  | .ingestWaitTimeout _ | .partnerLost | .rebuildStart _ _ | .copyFrame _ _ _ | .rebuildInstall _ _ _ _ _
  | .frameBoundary | .freqEntry _ | .configApplyEntry _ | .bankSwapEntry _ | .schedStreamRelease _
  | .snapshotEntry _ | .powerHintEntry _ | .errorRecordStore | .ibexRestoreDone | .snigusRetransmit
  | .partialFrame _ _ _ | .regAccess _ _ _ | .porstAssert | .coldStart _ | .fwBoot | .pewterRestartDone
  | .vaonDrop | .sensorEntryDone _ => true
  | _ => false

end Sys2Proof

namespace Sys2Proof.Machine

/-- The counters of lines read and written at the memory ports (09_external_memory.md R387). -/
def lineCounters : List Nat := (List.range 8).flatMap fun m =>
  [MEMP_RD_LINES_LO m, MEMP_RD_LINES_LO m + 4, MEMP_WR_LINES_LO m, MEMP_WR_LINES_LO m + 4]

end Sys2Proof.Machine

namespace Sys2Proof.Machine

/-- Every sequencer but one is as it was. -/
def SeqsKeep (q : Nat) (d e : Dev) : Prop := ∀ x, x ≠ q → e.seq x = d.seq x

/-- Every tile but one is as it was. -/
def TilesKeep (site : Nat) (d e : Dev) : Prop := ∀ x, x ≠ site → e.tile x = d.tile x

end Sys2Proof.Machine

namespace Sys2Proof.Machine

/-- A tile of the die whose field's clock runs (11_clocking.md R430). -/
def Clocked (d : Dev) (site : Nat) : Prop := site < 13824 ∧ d.meshRuns (siteField site) = true

/-- An engine of a clocked tile that is not fenced has an instruction in progress, of an opcode, with its work still to do. -/
def Works (d : Dev) (site e op : Nat) (r : Running) : Prop :=
  Clocked d site ∧ ((d.tile site).engine e).run = some r ∧ r.q.ins.opcode = op ∧ r.finished = false ∧ d.tileFenced site = false

/-- The fabric apart, only the count of the meshes' activity differs (12_power_thermal.md R457). -/
def BusyOnly (d e : Dev) : Prop := e = { d with fab := e.fab, pwr := { d.pwr with activity := e.pwr.activity } }

/-- What the instruction reads is poisoned, or derives from an uncorrectable word (03_tile.md R139). -/
def Running.tainted (r : Running) : Bool := r.poison || r.taint

/-- The descriptor that work leaves: poisoned where it or an operand is (03_tile.md R139). -/
def Running.leaves (r : Running) (out : TokDesc) : TokDesc := { out with poison := out.poison || r.tainted }

/-- Only the mark of the register that the instruction writes may differ, and it is set where the descriptor is poisoned
(03_tile.md R139). -/
def MarksKept (d : Dev) (site : Nat) (r : Running) (out : TokDesc) (d' : Dev) : Prop :=
  (∀ k, regDest r.q.ins ≠ some k → (k ∈ (d'.tile site).tainted ↔ k ∈ (d.tile site).tainted)) ∧
  ((r.leaves out).poison = true → ∀ k, regDest r.q.ins = some k → k ∈ (d'.tile site).tainted)

/-- The instruction in progress has done its work and leaves a descriptor; nothing else of the engines differs. -/
def WorkDone (d : Dev) (site e : Nat) (r : Running) (out : TokDesc) (d' : Dev) : Prop :=
  (d'.tile site).engine e = { (d.tile site).engine e with run := some { r with finished := true, out := r.leaves out } } ∧
  (∀ x, x ≠ e → (d'.tile site).engine x = (d.tile site).engine x) ∧ MarksKept d site r out d'

/-- The instruction in progress has aborted; its engine goes on with its queue (03_tile.md R115). -/
def WorkAborted (d : Dev) (site e : Nat) (d' : Dev) : Prop :=
  (d'.tile site).engine e = { (d.tile site).engine e with run := none } ∧ d' = { d with tiles := d'.tiles } ∧ TilesKeep site d d'

/-- An engine has stopped with no instruction in progress, and the tile's FLAGS bit is set (03_tile.md R115, R143). -/
def EngineStopped (site e flag : Nat) (d' : Dev) : Prop :=
  ((d'.tile site).engine e).stopped = true ∧ ((d'.tile site).engine e).run = none ∧ bitOf (d'.rd (TILE_FLAGS site)) flag = true

/-- A scalar register holds a value, s[0] and the argument registers apart, which are not written (06_sequencers_isa.md R228);
the instruction in CTL has done its work, and nothing else differs. -/
def SetsScalar (d : Dev) (site : Nat) (r : Running) (rd v : Nat) (d' : Dev) : Prop :=
  (∀ x, kvGetD (d'.tile site).scalars 0 x = if x = rd ∧ rd ≠ 0 ∧ rd < 28 then v else kvGetD (d.tile site).scalars 0 x) ∧
  WorkDone d site 0 r {} d' ∧ d'.tile site =
    { d.tile site with scalars := (d'.tile site).scalars, tainted := (d'.tile site).tainted, eng := (d'.tile site).eng } ∧
  d' = { d with tiles := d'.tiles } ∧ TilesKeep site d d'

/-- The mesh takes a packet of a tile to an ID and generation (07_fabric.md R279, R280, 14_channels_twin_herd.md R523). -/
def MeshOpen (d : Dev) (site id gen : Nat) : Prop :=
  d.tileFenced site = false ∧ d.tileBound site = true ∧ entryValid (bindEntry d site id) = true ∧
  entryGen (bindEntry d site id) = gen ∧ (d.chanMode = 0 ∨ siteChannel site = siteChannel (entrySite (bindEntry d site id)))

/-- A direction takes packets to the neighbour: on the adjacent link between routers that are not fenced, else through
the mesh (03_tile.md R125, 07_fabric.md R284). -/
def NbrOpen (d : Dev) (site dir : Nat) : Prop :=
  match bitOf (d.rd (TILE_NBR site dir)) 30, nbrSite site dir with
  | true, some dst => routerFenced d dst = false ∧ routerFenced d site = false
  | _, _ => MeshOpen d site (fld (d.rd (TILE_NBR site dir)) 13 0) (fld (d.rd (TILE_NBR site dir)) 23 16)

/-- The fabric with packets sent to the neighbour in a direction, oldest first (03_tile.md R125). -/
def nbrSends (d : Dev) (site dir : Nat) (ps : List Packet) : FabricSt :=
  let n := d.rd (TILE_NBR site dir)
  let named := fun p : Packet => { p with src := d.tileId site, srcGen := d.tileGen site, dest := fld n 13 0, destGen := fld n 23 16, aux := dir }
  match bitOf n 30, nbrSite site dir with
  | true, some dst => { d.fab with landed := d.fab.landed ++ ps.map fun p => (dst, { named p with destSite := dst, adj := opposite (dir + 1) }) }
  | _, _ => { d.fab with net := d.fab.net ++ ps.map fun p =>
      { pkt := { named p with destSite := entrySite (bindEntry d site (fld n 13 0)) }, site, port := 0 } }

/-- The oldest packet of a type that has reached a clocked tile and waits for its service, and the others; none of its
source and VC waits before it (07_fabric.md R278). -/
def Landed (d : Dev) (site typ : Nat) (p : Packet) (rest : List (Nat × Packet)) : Prop :=
  Clocked d site ∧ takeFirst (fun e => e.1 == site && e.2.typ == typ) d.fab.landed = some ((site, p), rest) ∧ d.tileFenced site = false ∧
  ∀ x ∈ d.fab.landed.takeWhile (fun e => !(e.1 == site && e.2.typ == typ)), ¬(x.1 = site ∧ x.2.vc = p.vc ∧ x.2.src = p.src)

end Sys2Proof.Machine

namespace Sys2Proof.Machine

/-- A frame of a module that it may come from, at its turn (14_channels_twin_herd.md R531). -/
def InTurn (d : Dev) (h : FrameHdr) : Prop := knownPeer d h = true ∧ h.seq = kvGetD d.peer.seqIn 0 h.src + 1

/-- Such a frame is taken: its sender is heard, what it acknowledges is acknowledged, and its SEQ is the last. -/
def frameTaken (h : FrameHdr) (d : Dev) : Dev :=
  let e := frameHeard h d
  { e with peer := { e.peer with seqIn := kvPut e.peer.seqIn h.src h.seq } }

/-- A compared stream has lapsed, alone, and its committed beat is released with TWIN = 0 (14_channels_twin_herd.md R539). -/
def Lapses (n : Nat) (s t : State) : Prop :=
  lapsed t.dev n = true ∧ t.dev.rd TWIN_LAPSE_COUNT = satAdd (s.dev.rd TWIN_LAPSE_COUNT) 1 ∧ kvGet? t.dev.peer.waitTick n = none ∧
  t.pending = s.pending ∧
  t.mem = s.mem.writeAll (match (history s.dev n).head? with
    | some c => if c.released then [] else
        areaWrite s.dev (commitBase s.dev n + 8) (leBytes 6 c.beat) ++ areaWrite s.dev (commitBase s.dev n + 22) (leBytes 1 c.flags)
    | none => []) ∧
  ∀ m, m < 16384 → m ≠ n → ∀ w, w < 16 → t.dev.rd (descAddr m w) = s.dev.rd (descAddr m w)

/-- The registers that a stream's comparison shows, and the interrupts. -/
def twinRegs : List Nat := [TWIN_MAX_LAG, TWIN_LAPSED 0, TWIN_LAPSED 1, TWIN_LAPSE_COUNT, TWIN_REBUILDING 0, TWIN_REBUILDING 1, PCIE_INT_CAUSE]

end Sys2Proof.Machine

namespace Sys2Proof.Machine

/-- The table of site states has rising keys. -/
def SitesRise (d : Dev) : Prop := (d.flt.siteState.map (·.1)).Pairwise (· < ·)

/-- The bytes of the floor-plan copy that is published next (13_faults_recovery.md R517). -/
def inNextImage (d : Dev) (a : Nat) : Prop :=
  let base := imageBase d + 0x20000 * (1 - d.rdF FLOOR_IMAGE_STATUS 0 0)
  base ≤ a ∧ a < base + 0x20000

/-- A trial of a site has begun with a spare: RECOVERING and HOLD, the site fenced and in recovery, the spare bound in its
place with the next generation, the refill under way (13_faults_recovery.md R496 steps 1 to 5). -/
def TrialBegun (site spare : Nat) (fence : Bool) (s : State) (d : Dev) : Prop :=
  (∃ t, d.flt.trial = some t ∧ t.site = site ∧ t.spare = spare ∧ t.logical = s.dev.tileId site ∧ t.gen = (s.dev.tileGen site + 1) % 256 ∧
    t.withFence = fence ∧ t.step = 5 ∧ t.refillTick = s.dev.time.tb ∧ t.retried = false) ∧
  siteState d site = 4 ∧ siteState d spare = 2 ∧ d.tileFenced site = true ∧ bitOf (d.rd (TILE_BIND site)) 31 = false ∧
  bitOf (d.rd FLOOR_STATE) 4 = true ∧ bitOf (d.rd FLOOR_STATE) 5 = true ∧ d.flt.refillDone = 0 ∧ kvGet? d.flt.serving site = some spare ∧
  d.rd FLOOR_LAST_SPARE = w32 (site + spare * 65536) ∧ planEntry d (s.dev.tileId site) = bindWord spare ((s.dev.tileGen site + 1) % 256) true

/-- The floor plan has shrunk by a site: it is dead, bound no longer, and a new image is published, which is all that
external memory shows (13_faults_recovery.md R511, R517). -/
def Shrunk (site : Nat) (s t : State) : Prop :=
  siteState t.dev site = 5 ∧ bitOf (t.dev.rd (TILE_BIND site)) 31 = false ∧ t.dev.tileFenced site = true ∧
  t.dev.rd FLOOR_SHRINK_COUNT = satAdd (s.dev.rd FLOOR_SHRINK_COUNT) 1 ∧ t.dev.rd FLOOR_PLAN_EPOCH = s.dev.rd FLOOR_PLAN_EPOCH + 1 ∧
  t.pending = s.pending ∧ ∀ a, ¬inNextImage s.dev a → t.mem.byteAt a = s.mem.byteAt a

end Sys2Proof.Machine
end

