-- ==== Sys2Proof/Certificates/Slice0/Obligations.lean ====
section
/-! DEFINITION. The statements for the provers: rules of the spec as claims about the model. -/

open Sys2Proof Sys2Proof.Machine

/-- For every state whose queue of waiting commands begins with c, step is exec of c on that state with the rest of
the queue. A block takes commands from outside one at a time; that they wait in a queue is the model's choice (log
entry 3). (02_control_model.md R45) -/
def Obligations.StepRunsFront : Prop :=
  ∀ (c : Instr) (rest : List Instr) (s : State), s.pending = c :: rest → step s = exec c { s with pending := rest }

/-- On an empty queue a step answers a next state with the same queue and the same external memory in which TB is one
more, modulo 2^64; in cold reset, or while the loss of REFCLK has stopped TB, nothing changes. That an idle step is
one tick is the model's choice (log entry 3). (10_cadence_time.md R390, 11_clocking.md R440) -/
def Obligations.IdleStepTicks : Prop :=
  ∀ (s : State), s.pending = [] →
    ∃ t, step s = .next t ∧ t.pending = [] ∧ t.mem = s.mem ∧
      ((s.dev.held = true ∨ s.dev.time.stopped = true) → t = s) ∧
      (s.dev.held = false → s.dev.time.stopped = false → t.dev.time = { s.dev.time with tb := (s.dev.time.tb + 1) % 2 ^ 64 })

/-- The state after reset has an empty queue, is held in cold reset, lists no byte of external memory (an unlisted
byte reads as 0: the model's choice, log entry 2) and keeps the invariant; its time base is 0; no page is READY,
staged or fenced by an operation; PAGE_ID of every page gives its type, its instance and revision 1, CTRL reads 4,
STATUS reads DIGEST_BUSY with READY clear, and FENCED for the pages whose power domain is still off.
(15_bringup_reset_licences.md R565, 02_control_model.md R41, 02_control_model.md R43) -/
def Obligations.ResetState : Prop :=
  State.reset.pending = [] ∧ State.reset.dev.held = true ∧ State.reset.mem.bytes = [] ∧ State.reset.mem.poison = [] ∧
    StateInv State.reset ∧ State.reset.dev.time.tb = 0 ∧
    ∀ p ∈ lowPages ++ [Page.memp 7, Page.field 11, Page.seq 47, Page.trace 0, Page.tile 13823],
      State.reset.dev.rd p.base = w32 (p.type * 2 ^ 20 + p.inst * 2 ^ 8 + 1) ∧ State.reset.dev.rd (p.base + 8) = 4 ∧
        State.reset.dev.rd (p.base + 0x10) = 0 ∧ State.reset.dev.rd (p.base + 0x14) = 0 ∧
        State.reset.dev.status p = (if p.domain.isSome then 0x48 else 0x40)

/-- For every state, whatever command waits at the front of its queue and whatever its operands, and on an empty queue
too: if external memory is in its canonical form (addresses strictly rising, no listed byte equal to what an unlisted
one reads as, poisoned lines strictly rising) and the step answers a next state, then external memory of that state is
in its canonical form. It holds of every state, reached by a run or not. (09_external_memory.md R366,
09_external_memory.md R373) -/
def Obligations.StepKeepsInv : Prop := ∀ (s t : State), StateInv s → step s = .next t → StateInv t

/-- For every command and every state: when the units that the command names exist (Instr.wf), exec answers a next
state; when one does not exist (a site above 13,823, a sequencer above 47, a stream above 16,383, an agent that R73
does not assign, and so on), exec answers the fault noSuchUnit. No command is refused and no other fault occurs.
(01_device_overview.md R19, 01_device_overview.md R20, 01_device_overview.md R21, 02_control_model.md R38,
02_control_model.md R73) -/
def Obligations.StopsOnlyOnMissingUnits : Prop :=
  ∀ (i : Instr) (s : State), (i.wf = true → ∃ t, exec i s = .next t) ∧ (i.wf = false → exec i s = .fault .noSuchUnit)

/-- For every state whose waiting commands all name units that exist, a step answers a next state, in whose queue all
commands again name units that exist: it is the rest of the queue. No command adds to the queue or takes from it.
(02_control_model.md R38, 02_control_model.md R73) -/
def Obligations.SafeQueueRuns : Prop :=
  ∀ (s : State), SafeQueue s → ∃ t, step s = .next t ∧ t.pending = s.pending.tail ∧ SafeQueue t

/-- For every command that is not one of those that can write external memory (Instr.stores names them: register
writes that reach a memory operation, host and debug accesses, memory-port service, refill and trial steps, committed
beats, records stored in the ring of the device, frames that carry data, the sensor entries, the boot and reset
commands that set memory up), whenever exec answers a next state, every address of external memory reads the byte it
read before and every line is poisoned exactly if it was. (09_external_memory.md R366, 09_external_memory.md R375,
02_control_model.md R37) -/
def Obligations.NonStoringFrame : Prop :=
  ∀ (i : Instr) (s t : State), i.stores = false → exec i s = .next t →
    t.mem = s.mem ∧ ∀ a, t.mem.byteAt a = s.mem.byteAt a ∧ t.mem.poisoned a = s.mem.poisoned a

/-- For every lock and every agent of R73, in every state, LOCK_ACQUIRE answers a next state. It returns the word that
LOCK_n then holds. When HELD was 1 the word is unchanged. When HELD was 0 the word has HELD = 1, BROKEN as before,
OWNER = the reader and GENERATION one greater (its 16 bits wrapping). No other register and nothing but the answer
changes. (R74) -/
def Obligations.LockAcquired : Prop :=
  ∀ (s : State) (agent n : Nat), n < 256 → isAgent agent = true →
    Gives (.lockAcquire agent n) s fun d =>
      let w := s.dev.rd (LOCK_LOCK n)
      let v := d.rd (LOCK_LOCK n)
      d.resp = { kind := .ok, bytes := leBytes 4 v.toNat } ∧
      (bitOf w 31 = true → v = w) ∧
      (bitOf w 31 = false → bitOf v 31 = true ∧ bitOf v 30 = bitOf w 30 ∧ fld v 29 24 = fld w 29 24 ∧
        fld v 23 16 = agent ∧ fld v 15 0 = (fld w 15 0 + 1) % 65536) ∧
      d = { s.dev with regs := d.regs, resp := d.resp } ∧ RegsKeep [LOCK_LOCK n] s.dev d

/-- LOCK_RELEASE by the owner of a held lock, with HELD = 0, BROKEN = 0, [29:16] = 0 and the current generation, in a
device that is up, by an agent that may write the LOCK page, sets HELD and BROKEN to 0 and leaves OWNER, GENERATION
and everything else unchanged. Any other release of R76 leaves the lock word unchanged and is rejected: OWNER for an
agent that is not the owner, else STATE while HELD is 0, else RESERVED for a 1 in [29:24], else RANGE. A write of
BREAK by Pewter makes a held lock's HELD 0 and its BROKEN 1 with OWNER and GENERATION unchanged, and leaves a lock
that is not held as it is. (02_control_model.md R71, 02_control_model.md R76, 02_control_model.md R77,
02_control_model.md R55, 02_control_model.md R56) -/
def Obligations.LockReleasedOrBroken : Prop :=
  (∀ (s : State) (agent n : Nat) (data : Word), n < 256 → isAgent agent = true →
    let w := s.dev.rd (LOCK_LOCK n)
    s.dev.mayWrite agent .lock = true → s.dev.up = true →
    (fld w 23 16 = agent → bitOf w 31 = true → data.toNat = fld w 15 0 →
      Gives (.lockRelease agent n data) s fun d =>
        bitOf (d.rd (LOCK_LOCK n)) 31 = false ∧ bitOf (d.rd (LOCK_LOCK n)) 30 = false ∧
        fld (d.rd (LOCK_LOCK n)) 29 0 = fld w 29 0 ∧ OnlyRegs [LOCK_LOCK n] s.dev d) ∧
    (∀ c, firstFail [(.owner, fld w 23 16 != agent), (.state, !bitOf w 31), (.reserved, decide (fld data 29 24 ≠ 0)),
        (.range, bitOf data 31 || bitOf data 30 || fld data 23 16 != 0 || fld data 15 0 != fld w 15 0)] = some c →
      Gives (.lockRelease agent n data) s fun d =>
        d = s.dev.reject .lock (0x100 + 4 * n) agent c ∧ d.rd (LOCK_LOCK n) = w)) ∧
  (∀ (s : State) (agent : Nat) (data : Word), isPewter agent = true → s.dev.up = true → data.toNat < 256 →
    let n := data.toNat
    let w := s.dev.rd (LOCK_LOCK n)
    Gives (.breakLock agent data) s fun d =>
      (bitOf w 31 = true → bitOf (d.rd (LOCK_LOCK n)) 31 = false ∧ bitOf (d.rd (LOCK_LOCK n)) 30 = true ∧
        fld (d.rd (LOCK_LOCK n)) 29 0 = fld w 29 0) ∧
      (bitOf w 31 = false → d = s.dev) ∧ OnlyRegs [LOCK_LOCK n] s.dev d)

/-- A rejection of a write at an offset of a page by an agent increments ERR_COUNT, which saturates. With VALID = 0,
ERR_CODE then has VALID = 1 and the OFFSET, AGENT and CODE of the rejection; with VALID = 1 it keeps its value. With
CTRL.REJ_RECORD = 1 one record of class REJECTION, kind 2 and the page's number joins the records that wait; with 0
none does. No other register and nothing else changes. (R53) -/
def Obligations.RejectionEffect : Prop :=
  ∀ (d : Dev) (p : Page) (off agent : Nat) (c : ErrCode), off < 4096 → agent < 256 →
    let e := d.reject p off agent c
    e.rd (p.base + 0x14) = satAdd (d.rd (p.base + 0x14)) 1 ∧
    (bitOf (d.rd (p.base + 0x10)) 31 = false → bitOf (e.rd (p.base + 0x10)) 31 = true ∧
      fld (e.rd (p.base + 0x10)) 27 16 = off ∧ fld (e.rd (p.base + 0x10)) 15 8 = agent ∧ fld (e.rd (p.base + 0x10)) 7 0 = c.code) ∧
    (bitOf (d.rd (p.base + 0x10)) 31 = true → e.rd (p.base + 0x10) = d.rd (p.base + 0x10)) ∧
    (bitOf (d.rd (p.base + 8)) 1 = false → OnlyRegs (errRegs p) d e) ∧
    (bitOf (d.rd (p.base + 8)) 1 = true → ∃ r : ErrRec, r.cls = 0 ∧ r.kind = 2 ∧ r.unit = p.base / 4096 ∧
      e.flt = { d.flt with pendingRecords := d.flt.pendingRecords ++ [r] } ∧
      e = { d with regs := e.regs, flt := e.flt } ∧ RegsKeep (errRegs p) d e)

/-- A write of one whole register word by an agent that R56 does not let write the page, at an offset other than
ERR_CODE of a page whose domain is on, that reaches the device: REGISTER_WRITE completes normally, external memory is
unchanged, the rejection is PRIVILEGE, and nothing changes but ERR_CODE and ERR_COUNT of the page (with the stream
manager's record of the rejected stream, STRM.REJ_INFO) and, with REJ_RECORD, one record. This holds for every
register of every page, those with an operation of their own among them. (02_control_model.md R52, 02_control_model.md
R53, 02_control_model.md R55, 02_control_model.md R56) -/
def Obligations.PrivilegeRejects : Prop :=
  ∀ (s : State) (agent a : Nat) (bs : List Byte) (p : Page) (o : Nat),
    isAgent agent = true → s.dev.held = false → (agent = agentHost → hostReaches s.dev = true) →
    bs.length = 4 → a % 4 = 0 → pageOf a = some (p, o) → implemented a = true → p.dark s.dev = false → o ≠ 0x10 →
    s.dev.mayWrite agent p = false →
    Gives (.registerWrite agent a bs) s fun d =>
      d.resp = { kind := .ok } ∧ RegsKeep (STRM_REJ_INFO :: errRegs p) s.dev d ∧
      d.rd (p.base + 0x14) = satAdd (s.dev.rd (p.base + 0x14)) 1 ∧
      (bitOf (s.dev.rd (p.base + 0x10)) 31 = false → fld (d.rd (p.base + 0x10)) 7 0 = 0x0B) ∧
      d = { s.dev with regs := d.regs, resp := d.resp, flt := d.flt } ∧
      (bitOf (s.dev.rd (p.base + 8)) 1 = false → d.flt = s.dev.flt)

/-- VIOLATION_ACCESS at an offset that BAR 0 reserves, or at or above the installed capacity in BAR 2: one record of
class VIOLATION joins the records that wait; VIOL_INFO.COUNT rises by one, saturating, and VALID is 1; when VALID was
0 the address words and BAR, WRITE and AGENT are those of the access, when it was 1 they keep their values; no other
register and no memory changes; a host write completes, a host read answers an Unsupported Request, a Pewter pair a
bus fault, a herd peer a negative response and the debug window the code 0xFF with data 0. A sequencer gets an access
fault: its command in progress, where no fault of it is open, faults with cause ACCESS, and its beat's commands leave
the queue. An access that is no violation is not this event and changes nothing. VIOL_INFO_CLEAR by the host with a 1
in VALID and no reserved bit, in a device that is up, makes VIOL_INFO and both address words 0. (02_control_model.md
R64, 02_control_model.md R65, 02_control_model.md R66, 02_control_model.md R67, 06_sequencers_isa.md R254) -/
def Obligations.Violations : Prop :=
  (∀ (s : State) (agent addr : Nat) (bar2 write : Bool), agent < 256 →
    (if bar2 then memCapacity ≤ addr else implemented addr = false) →
    let w := s.dev.rd DEV_VIOL_INFO
    Gives (.violationAccess agent bar2 write addr) s fun d' => ∃ d : Dev, d' = accessFault agent d ∧
      (isSeqAgent agent = false → d' = d) ∧
      (∀ q c, agent = 0x40 + q → q < 48 → (s.dev.seq q).cur = some c → (s.dev.seq q).fault = none →
        ∃ x, (d'.seq q).fault = some x ∧ x.cause = 0x0A ∧ x.cmd = c ∧ (d'.seq q).queue = (s.dev.seq q).queue.filter fun k => !k.sameBeat c) ∧
      bitOf (d.rd DEV_VIOL_INFO) 31 = true ∧ fld (d.rd DEV_VIOL_INFO) 15 0 = min (fld w 15 0 + 1) 0xFFFF ∧
      (bitOf w 31 = true → fld (d.rd DEV_VIOL_INFO) 31 16 = fld w 31 16 ∧
        RegsKeep [DEV_VIOL_INFO] s.dev d) ∧
      (bitOf w 31 = false → bitOf (d.rd DEV_VIOL_INFO) 30 = write ∧ bitOf (d.rd DEV_VIOL_INFO) 29 = bar2 ∧
        fld (d.rd DEV_VIOL_INFO) 23 16 = agent ∧ d.rd DEV_VIOL_ADDR_LO = w32 addr ∧
        d.rd DEV_VIOL_ADDR_HI = w32 (addr / 2 ^ 32 % 128) ∧
        RegsKeep [DEV_VIOL_INFO, DEV_VIOL_ADDR_LO, DEV_VIOL_ADDR_HI] s.dev d) ∧
      (∃ r : ErrRec, r.cls = 1 ∧ r.kind = 0 ∧ d.flt = { s.dev.flt with pendingRecords := s.dev.flt.pendingRecords ++ [r] }) ∧
      d = { s.dev with regs := d.regs, resp := d.resp, flt := d.flt } ∧
      (agent = 1 → d.resp.kind = if write then .ok else .unsupportedRequest) ∧
      (agent = 2 → d.resp = { kind := .windowCode, bytes := [0, 0, 0, 0], code := 0xFF }) ∧
      (isPewter agent = true → d.resp.kind = .busFault) ∧ (isSeqAgent agent = true → d.resp.kind = .accessFault) ∧
      (isPeerAgent agent = true → d.resp = { kind := .negative, bytes := [0, 0, 0, 0], code := 0xFF })) ∧
  (∀ (s : State) (agent addr : Nat) (bar2 write : Bool),
    (if bar2 then addr < memCapacity else implemented addr = true) →
    Gives (.violationAccess agent bar2 write addr) s fun d => d = s.dev) ∧
  (∀ (s : State) (data : Word), s.dev.up = true → bitOf data 31 = true → fld data 28 24 = 0 →
    Gives (.violInfoClear agentHost data) s fun d =>
      d.rd DEV_VIOL_INFO = 0 ∧ d.rd DEV_VIOL_ADDR_LO = 0 ∧ d.rd DEV_VIOL_ADDR_HI = 0 ∧
      OnlyRegs [DEV_VIOL_INFO, DEV_VIOL_ADDR_LO, DEV_VIOL_ADDR_HI] s.dev d)

/-- READ_CLEAR, a normal read of one whole aligned register word by an agent of R73 that reaches the device, at a page
whose domain is on. It returns the word that a peek of the register returns. For an RC register (ERR_COUNT and those
of the pages' tables) the register is 0 afterwards and nothing else but the answer changes. For a register that
neither is RC nor acts when read, nothing but the answer changes. FIRE_LOG, an RP register, returns the oldest entry
of its queue and removes it, and 0 when the queue is empty. (02_control_model.md R45, 02_control_model.md R48,
02_control_model.md R50) -/
def Obligations.RegisterReads : Prop :=
  (∀ (s : State) (agent a : Nat) (p : Page) (o : Nat), isAgent agent = true → s.dev.held = false →
    (agent = agentHost → hostReaches s.dev = true) → a % 4 = 0 → pageOf a = some (p, o) → implemented a = true → p.dark s.dev = false →
    (clearsOnRead p o = true →
      Gives (.readClear agent a 4) s fun d =>
        d.resp = { kind := .ok, bytes := leBytes 4 (viewPage s.dev p o).toNat } ∧ d.rd a = 0 ∧
        d = { s.dev with regs := d.regs, resp := d.resp } ∧ RegsKeep [a] s.dev d) ∧
    (clearsOnRead p o = false → (readSpecial agent false p o s.dev).isNone = true →
      Gives (.readClear agent a 4) s fun d =>
        d = { s.dev with resp := { kind := .ok, bytes := leBytes 4 (viewPage s.dev p o).toNat } })) ∧
  (∀ (s : State), 
    Gives .fireLogPop s fun d =>
      d = { s.dev with
        cad := { s.dev.cad with fireLog := s.dev.cad.fireLog.tail },
        resp := { kind := .ok, bytes := leBytes 4 (s.dev.cad.fireLog.headD 0).toNat } })

/-- REGISTER_WRITE of one whole aligned word by an agent that reaches the device, to an ST register without an
operation of its own, of a page whose domain is on. When every check of the write passes, the staged copy of that
register reads the written value, every active value, every other staged value and everything else is as before, and
STATUS.STAGED reads 1 if the value differs from the active one. When a check fails, the rejection of R53 with the
first failing code is all that changes: no staged copy does. (02_control_model.md R48, 02_control_model.md R52,
02_control_model.md R58) -/
def Obligations.StagedWrite : Prop :=
  ∀ (s : State) (agent a : Nat) (bs : List Byte) (p : Page) (o : Nat) (r : RegRow) (i : Nat),
    isAgent agent = true → s.dev.held = false → (agent = agentHost → hostReaches s.dev = true) →
    bs.length = 4 → a % 4 = 0 → pageOf a = some (p, o) → p.dark s.dev = false → 0x100 ≤ o →
    findRow p.rows o = some (r, i) → r.acc = .st → (∀ t, p ≠ .tile t) → (∀ q, p ≠ .seq q) →
    let w := w32 (leNat bs)
    let d0 : Dev := { s.dev with resp := { kind := .ok } }
    (writeSpecial agent p o w s.mem d0).isNone = true →
    let fixed := r.writable == 0 || (match p with | .memp (_ + 1) => o == 0x100 | _ => false)
    let checks := d0.baseChecks agent p ++ [(ErrCode.privilege, agentBarred d0 agent p o)] ++
      [(.reserved, fixed || decide (w.toNat &&& (0xFFFFFFFF - r.named) ≠ 0))] ++ (if fixed then [] else valueChecks d0 p o w)
    ((∀ e ∈ checks, e.2 = false) →
      Gives (.registerWrite agent a bs) s fun d =>
        d.stagedRd a = w ∧ (∀ b, b ≠ a → d.stagedRd b = d0.stagedRd b) ∧ d = { d0 with staged := d.staged } ∧
        (w ≠ d0.rd a → bitOf (d.status p) 1 = true)) ∧
    (∀ c, firstFail checks = some c →
      Gives (.registerWrite agent a bs) s fun d => d = d0.reject p o agent c)

/-- REGISTER_WRITE by an agent that reaches the device and may write the page, of a page of one instance whose unit is
up, at an offset with no operation of its own. To an RW register, with every check passed, the register reads the
written value, no other register changes, and only the digest of the page may start to be recomputed; to a W1C
register the bits written as 1 are cleared and the others keep their values. A register with no writable field, those
of the header but CTRL and ERR_CODE among them, rejects the write with RESERVED. A write of one byte of a word is
rejected with ALIGN, whatever the register. A rejected write changes nothing but the page's error registers and, with
REJ_RECORD, the records that wait. (02_control_model.md R45, 02_control_model.md R46, 02_control_model.md R48,
02_control_model.md R49, 02_control_model.md R62) -/
def Obligations.PlainWrite : Prop :=
  (∀ (s : State) (agent a : Nat) (bs : List Byte) (p : Page) (o : Nat),
    isAgent agent = true → s.dev.held = false → (agent = agentHost → hostReaches s.dev = true) →
    bs.length = 4 → a % 4 = 0 → pageOf a = some (p, o) → p ∈ lowPages → p ≠ .strm → p ≠ .therm →
    s.dev.mayWrite agent p = true → s.dev.isFenced p = false → s.dev.up = true → agentBarred s.dev agent p o = false →
    let w := w32 (leNat bs)
    let d0 : Dev := { s.dev with resp := { kind := .ok } }
    (writeSpecial agent p o w s.mem d0).isNone = true →
    (∀ r i, 0x100 ≤ o → findRow p.rows o = some (r, i) → r.writable ≠ 0 → w.toNat &&& (0xFFFFFFFF - r.named) = 0 →
      (∀ e ∈ valueChecks d0 p o w, e.2 = false) →
      (r.acc = .rw → Gives (.registerWrite agent a bs) s fun d =>
        d.rd a = w ∧ RegsKeep [a] d0 d ∧ d = { d0 with regs := d.regs, digests := d.digests, digestBusy := d.digestBusy }) ∧
      (r.acc = .w1c → Gives (.registerWrite agent a bs) s fun d =>
        d.rd a = s.dev.rd a &&& ~~~(w &&& w32 r.writable) ∧ OnlyRegs [a] d0 d)) ∧
    (∀ r i, 0x100 ≤ o → findRow p.rows o = some (r, i) → r.writable = 0 →
      Gives (.registerWrite agent a bs) s fun d => d = d0.reject p o agent .reserved) ∧
    (o < 0x100 → o ≠ 8 → o ≠ 0x10 → implemented a = true →
      Gives (.registerWrite agent a bs) s fun d => d = d0.reject p o agent .reserved)) ∧
  (∀ (s : State) (agent a : Nat) (b : Byte) (p : Page) (o : Nat),
    isAgent agent = true → s.dev.held = false → (agent = agentHost → hostReaches s.dev = true) →
    pageOf (a / 4 * 4) = some (p, o) → implemented (a / 4 * 4) = true → p.dark s.dev = false →
    Gives (.registerWrite agent a [b]) s fun d =>
      d = ({ s.dev with resp := { kind := .ok } } : Dev).reject p o agent .align)

/-- APPLY of a page by an agent that may write it, while it is neither fenced nor before start-up (by Pewter or the
debug session for the DBG page), with no reserved bit. With no staged value that differs from its active value only
CTRL is written. When the staged values are illegal as a set, the apply is rejected with the first failing code and
the offset of the failing register, and every active value but CTRL and the error registers, and every staged value,
is unchanged. When they are legal, they become the active values together: there is a state in which each staged
register of the page reads its staged value, no staged value of the page is left, every other register but CTRL and
every other staged value is as before, and the result is that state with what the page's own chapter makes of new
values (which is nothing for FLT, FLOOR, CLK, THERM, STRM, SEL and CHAN: for these pages the result is that state and
external memory is as it was). (02_control_model.md R42, 02_control_model.md R59, 02_control_model.md R60,
02_control_model.md R61) -/
def Obligations.ApplyPage : Prop :=
  ∀ (s : State) (agent a : Nat) (data : Word) (p : Page),
    pageOf a = some (p, 0) → s.dev.mayWrite agent p = true → s.dev.isFenced p = false → s.dev.up = true →
    (p = .dbg → agent ≠ agentHost) → fld data 31 3 = 0 →
    let d1 := s.dev.wr (p.base + 8) (data &&& 6)
    (stagedOffs s.dev p = [] → Gives (.apply agent a data) s fun d => d = d1) ∧
    (stagedOffs s.dev p ≠ [] → ∀ c o, applyFail d1 p = some (c, o) →
      Gives (.apply agent a data) s fun d =>
        d = d1.reject p o agent c ∧ d.staged = s.dev.staged ∧ RegsKeep ((p.base + 8) :: errRegs p) s.dev d) ∧
    (stagedOffs s.dev p ≠ [] → applyFail d1 p = none →
      Completes (.apply agent a data) s fun t => ∃ e : Dev,
        (∀ o ∈ stagedOffs s.dev p, e.rd (p.base + o) = d1.stagedRd (p.base + o)) ∧ stagedOffs e p = [] ∧
        RegsKeep ((stagedOffs s.dev p).map (p.base + ·)) d1 e ∧
        (∀ b, (b < p.base ∨ p.base + p.size ≤ b) → e.stagedRd b = d1.stagedRd b) ∧
        e = { d1 with regs := e.regs, staged := e.staged, digests := e.digests, digestBusy := e.digestBusy } ∧
        t.dev = countWrites (applied p d1 e).2 (applied p d1 e).1 ∧ t.mem = s.mem.writeAll (applied p d1 e).2 ∧
        t.pending = s.pending ∧
        (p ∈ [Page.flt, .floor, .clk, .therm, .strm, .sel, .chan] → t.dev = e ∧ t.mem = s.mem))

/-- DIGEST_COMPLETE of a page whose digest is being recomputed: its CFG_DIGEST is the CRC-64 of R63 of the
configuration it holds, CFG_EPOCH rises by 1 in the same step, DIGEST_BUSY of the page ends, and nothing else changes.
For a page whose digest is not being recomputed nothing changes. ERR_CODE_CLEAR of any page by any agent of R73,
fenced or before start-up or not, while the page's domain is on: ERR_CODE reads 0 (for the stream manager REJ_INFO
too) and nothing else changes. While the page reads 0 because its domain is off there is nothing to clear, and nothing
changes. (02_control_model.md R54, 02_control_model.md R62, 02_control_model.md R63) -/
def Obligations.PageUpkeep : Prop :=
  (∀ (s : State) (a : Nat) (p : Page), pageOf a = some (p, 0) →
    (p.base ∈ s.dev.digestBusy →
      Gives (.digestComplete a) s fun d =>
        d.rd (p.base + 0x20) = s.dev.rd (p.base + 0x20) + 1 ∧ digestOf d p = configDigest s.dev p ∧
        p.base ∉ d.digestBusy ∧ (∀ b, b ≠ p.base → (b ∈ d.digestBusy ↔ b ∈ s.dev.digestBusy)) ∧
        (∀ b, b ≠ p.base → kvGet? d.digests b = kvGet? s.dev.digests b) ∧
        RegsKeep [p.base + 0x20] s.dev d ∧
        d = { s.dev with regs := d.regs, digests := d.digests, digestBusy := d.digestBusy }) ∧
    (p.base ∉ s.dev.digestBusy → Gives (.digestComplete a) s fun d => d = s.dev)) ∧
  (∀ (s : State) (agent a : Nat) (p : Page), isAgent agent = true → pageOf a = some (p, 0) →
    (p.dark s.dev = false →
      Gives (.errCodeClear agent a) s fun d =>
        d.rd (p.base + 0x10) = 0 ∧ (p = .strm → d.rd STRM_REJ_INFO = 0) ∧
        OnlyRegs (if p = .strm then [p.base + 0x10, STRM_REJ_INFO] else [p.base + 0x10]) s.dev d) ∧
    (p.dark s.dev = true → Gives (.errCodeClear agent a) s fun d => d = s.dev))

/-- DBG_WINDOW_ACCESS by an agent that may write the DBG page in an unlocked session, with no access in progress and
no reserved bit, sets GO and the WRITE and CONSUME of the write and changes no other register; only the digest of the
page may start to be recomputed. DBG_WINDOW_DONE while GO is 1: a peek of a register that does not act when read puts
its value into ACC_DATA, clears GO and CONSUME, sets DONE_CODE to 0 and changes no other register; a read that is a
violation ends with DONE_CODE 0xFF and ACC_DATA 0; while GO is 0 nothing changes. DBG_MEM_ACCESS, in an unlocked
session: a read of a correctable scratchpad word of a site that exists, is powered and not fenced returns the word, a
write to it, with its sequencer halted, stores the word, and MEM_ADDR rises by 1. DAP_ACCESS with the DAP instruction
selected in an unlocked session: a peek of a register that does not act when read returns its value with code 0 and
changes nothing else. (02_control_model.md R79, 02_control_model.md R80, 02_control_model.md R81, 02_control_model.md
R82, 02_control_model.md R83) -/
def Obligations.DebugAccess : Prop :=
  (∀ (s : State) (agent : Nat) (data : Word), s.dev.mayWrite agent .dbg = true → s.dev.unlocked = true → s.dev.up = true →
    bitOf (s.dev.rd DBG_ACC_CTRL) 0 = false → data.toNat &&& 0xFFFF00F8 = 0 →
    Gives (.dbgWindowAccess agent data) s fun d =>
      bitOf (d.rd DBG_ACC_CTRL) 0 = true ∧ fld (d.rd DBG_ACC_CTRL) 2 1 = fld data 2 1 ∧
      fld (d.rd DBG_ACC_CTRL) 31 3 = fld (s.dev.rd DBG_ACC_CTRL) 31 3 ∧ RegsKeep [DBG_ACC_CTRL] s.dev d ∧
      d = { s.dev with regs := d.regs, digests := d.digests, digestBusy := d.digestBusy }) ∧
  (∀ (s : State), bitOf (s.dev.rd DBG_ACC_CTRL) 0 = true → bitOf (s.dev.rd DBG_ACC_CTRL) 1 = false →
    let a := (s.dev.rd DBG_ACC_ADDR).toNat
    (bitOf (s.dev.rd DBG_ACC_CTRL) 2 = false → implemented a = true →
      (∀ p o, pageOf a = some (p, o) → (readSpecial agentDebug true p o s.dev).isNone = true) →
      Gives .dbgWindowDone s fun d =>
        d.rd DBG_ACC_DATA = viewWord s.dev a ∧ bitOf (d.rd DBG_ACC_CTRL) 0 = false ∧ bitOf (d.rd DBG_ACC_CTRL) 2 = false ∧
        fld (d.rd DBG_ACC_CTRL) 15 8 = 0 ∧ OnlyRegs [DBG_ACC_DATA, DBG_ACC_CTRL] s.dev d) ∧
    (implemented a = false →
      Gives .dbgWindowDone s fun d =>
        d.rd DBG_ACC_DATA = 0 ∧ bitOf (d.rd DBG_ACC_CTRL) 0 = false ∧ fld (d.rd DBG_ACC_CTRL) 15 8 = 0xFF ∧
        RegsKeep [DBG_ACC_DATA, DBG_ACC_CTRL, DEV_VIOL_INFO, DEV_VIOL_ADDR_LO, DEV_VIOL_ADDR_HI] s.dev d ∧
        d = { s.dev with regs := d.regs, flt := d.flt, resp := d.resp })) ∧
  (∀ (s : State), bitOf (s.dev.rd DBG_ACC_CTRL) 0 = false → Gives .dbgWindowDone s fun d => d = s.dev) ∧
  (∀ (s : State) (agent : Nat), s.dev.unlocked = true →
    let site := s.dev.rdF DBG_MEM_SITE 13 0
    let a := (s.dev.rd DBG_MEM_ADDR).toNat
    site < 13824 → s.dev.isFenced (.tile site) = false → bitOf (s.dev.rd DBG_MEM_CTRL) 0 = false → a < spadWords →
    a ∉ (s.dev.tile site).bad →
    (Gives (.dbgMemAccess agent none) s fun d =>
      d.resp = { kind := .ok, bytes := leBytes 4 ((s.dev.tile site).rd a).toNat } ∧
      d.rd DBG_MEM_ADDR = s.dev.rd DBG_MEM_ADDR + 1 ∧ RegsKeep [DBG_MEM_ADDR] s.dev d ∧
      d = { s.dev with regs := d.regs, resp := d.resp }) ∧
    (∀ (w : Word) q, s.dev.mayWrite agent .dbg = true → s.dev.up = true → s.dev.tileFollows site = some q →
      dbgIs s.dev DBG_HALTED_LO q = true →
      Gives (.dbgMemAccess agent (some w)) s fun d =>
        (d.tile site).rd a = w ∧ (∀ b, b ≠ a → (d.tile site).rd b = (s.dev.tile site).rd b) ∧
        (∀ x, x ≠ site → d.tile x = s.dev.tile x) ∧
        d.rd DBG_MEM_ADDR = s.dev.rd DBG_MEM_ADDR + 1 ∧ RegsKeep [DBG_MEM_ADDR] s.dev d ∧
        d = { s.dev with regs := d.regs, tiles := d.tiles })) ∧
  (∀ (s : State) (addr : Nat), s.dev.held = false → s.dev.iface.jtagIr = 0x10 → s.dev.unlocked = true →
    let a := addr / 4 * 4
    implemented a = true → (∀ p o, pageOf a = some (p, o) → (readSpecial agentDebug true p o s.dev).isNone = true) →
    Gives (.dapAccess addr false none) s fun d =>
      d = { s.dev with resp := { kind := .windowCode, bytes := leBytes 4 (viewWord s.dev a).toNat, code := 0 } })

/-- HOST_MEM_ACCESS of a host that reaches the device, below the boot window, of lines whose ports work and which it
may reach now: the way to the channel is open, no request before it at the port touches the lines, no page of them is
in retirement. Until then an access waits: nothing changes and no answer is given (log entry 64). A write of bytes
without poison stores exactly those bytes from its address: each byte of external memory reads the written byte inside
the range and what it read before outside, no line becomes poisoned, and in the part nothing changes but the answer
and the counters of written lines. A read of lines found without an error and not poisoned returns the bytes, changes
no byte of memory, and nothing in the part but the answer and the counters of read lines. Within the boot window a
write stores into the window's buffer and a read returns it, memory unchanged. An access that reaches past the
installed capacity is a violation of the first byte beyond it. (09_external_memory.md R366, 09_external_memory.md
R367, 09_external_memory.md R375, 09_external_memory.md R376, 09_external_memory.md R377, 09_external_memory.md R387,
15_bringup_reset_licences.md R570) -/
def Obligations.HostMemory : Prop :=
  (∀ (s : State) (a len : Nat) (bs : List Byte) (errs : KV Nat), bs ≠ [] → s.dev.held = false → hostReaches s.dev = true →
    a + bs.length ≤ bootWindow → failedLine s.dev a bs.length = none → hostMayServe s.dev a bs.length = true →
    Completes (.hostMemAccess a len (some bs) false errs) s fun t =>
      (∀ x, t.mem.byteAt x = if a ≤ x ∧ x < a + bs.length then bs.getD (x - a) 0 else s.mem.byteAt x) ∧
      (∀ x, t.mem.poisoned x = true → s.mem.poisoned x = true) ∧ t.pending = s.pending ∧
      t.dev.resp = { kind := .ok } ∧ t.dev = { s.dev with regs := t.dev.regs, resp := t.dev.resp } ∧
      RegsKeep lineCounters s.dev t.dev) ∧
  (∀ (s : State) (a len : Nat), 0 < len → s.dev.held = false → hostReaches s.dev = true →
    a + len ≤ bootWindow → failedLine s.dev a len = none → hostMayServe s.dev a len = true → (∀ l ∈ linesOf a len, l ∉ s.mem.poison) →
    Gives (.hostMemAccess a len none false []) s fun d =>
      d.resp = { kind := .ok, bytes := s.mem.read a len } ∧ d = { s.dev with regs := d.regs, resp := d.resp } ∧
      RegsKeep lineCounters s.dev d) ∧
  (∀ (s : State) (a len : Nat) (data : Option (List Byte)) (poison : Bool) (errs : KV Nat), s.dev.held = false → hostReaches s.dev = true →
    let n := (data.map (·.length)).getD len
    0 < n → a + n ≤ bootWindow → hostMayServe s.dev a n = false →
    Gives (.hostMemAccess a len data poison errs) s fun d => d = { s.dev with resp := {} }) ∧
  (∀ (s : State) (o len : Nat) (bs : List Byte) (errs : KV Nat), s.dev.held = false → hostReaches s.dev = true →
    (bs ≠ [] → bootWindow + o + bs.length ≤ memCapacity →
      Gives (.hostMemAccess (bootWindow + o) len (some bs) false errs) s fun d =>
        (∀ x, kvGetD d.boot.window 0 x = if o ≤ x ∧ x < o + bs.length then bs.getD (x - o) 0 else kvGetD s.dev.boot.window 0 x) ∧
        d = { s.dev with boot := { s.dev.boot with window := d.boot.window }, resp := { kind := .ok } }) ∧
    (0 < len → bootWindow + o + len ≤ memCapacity →
      Gives (.hostMemAccess (bootWindow + o) len none false errs) s fun d =>
        d = { s.dev with resp := { kind := .ok, bytes := (List.range len).map fun i => kvGetD s.dev.boot.window 0 (o + i) } })) ∧
  (∀ (s : State) (a len : Nat) (errs : KV Nat), 0 < len → s.dev.held = false → hostReaches s.dev = true → memCapacity < a + len →
    Gives (.hostMemAccess a len none false errs) s fun d =>
      d = ({ s.dev with resp := { kind := .ok } } : Dev).violation agentHost true false (max a memCapacity))

/-- SNAP_FIRE with FIRE = 1 by an agent that may write the SNAP page, in a device that is up, with HOLD = 0, no
snapshot in flight and no reserved bit, accepts a trigger with the next ID and T 2 µs (1,600 ticks) ahead: LAST_ID is
that ID, the source 1, LAST_SEC and LAST_NS the TAI of T, LATE_PAGES 0, STATE 1, and the ID that follows is next. With
HOLD = 1 it is rejected with STATE, else with a snapshot in flight with BUSY. SNAP_LATCH of a page that the trigger in
flight reaches at or after T for the first time, no die-wide frequency change being under way: the page has then met
it; unless its unit was fenced or its SNAP enable (CTRL bit 2) 0, SA_ID and SNAP_ID of the page are the snapshot's ID,
its area shows STATUS and the data of its chapter as the part held them at T, or, for a late page, as it holds them on
arrival, SA_FLAGS is 1 exactly if it was late, and LATE_PAGES counts a late page once; a page that is fenced or not
enabled keeps its area. That a trigger that came at or after T makes its pages late is the model's reading (log entry
25). When it is the last of a field's 1,157 areas of a snapshot that spills, the field's spill begins and is held
(R94); when it is the last of all pages and no spill is in progress, the snapshot ends and STATE is 0. Before T, with
no snapshot, a second time, or while the meshes are stopped for a frequency change, nothing changes. SPILL_COMPLETE of
a field whose spill is not in progress changes nothing; of one that is, the field leaves the spills in progress and
joins those that have ended, the areas of its 1,157 pages lie in its buffer from offset 0, in their order, and the
buffer above them is as it was. (02_control_model.md R88, 02_control_model.md R89, 02_control_model.md R90,
02_control_model.md R91, 02_control_model.md R93, 02_control_model.md R94, 02_control_model.md R95) -/
def Obligations.Snapshots : Prop :=
  (∀ (s : State) (agent : Nat) (data : Word), s.dev.mayWrite agent .snap = true → s.dev.up = true → data = 1 →
    (bitOf (s.dev.rd SNAP_CTRL) 0 = false → s.dev.ctl.snap = none →
      Gives (.snapFire agent data) s fun d =>
        d.ctl = { s.dev.ctl with
          snap := some { id := s.dev.ctl.nextSnap, tick := s.dev.time.tb + 1600, spill := bitOf (s.dev.rd SNAP_CTRL) 1 },
          nextSnap := (s.dev.ctl.nextSnap + 1) % 2 ^ 32 } ∧
        d.rd SNAP_LAST_ID = w32 s.dev.ctl.nextSnap ∧ fld (d.rd SNAP_LAST_PHASE) 19 16 = 1 ∧
        d.rd SNAP_LAST_SEC_LO = w32 (s.dev.taiNsAt (s.dev.time.tb + 1600) / 1000000000) ∧
        d.rd SNAP_LAST_NS = w32 (s.dev.taiNsAt (s.dev.time.tb + 1600) % 1000000000) ∧
        d.rd SNAP_LATE_PAGES = 0 ∧ d.rd SNAP_STATE = 1 ∧ d = { s.dev with regs := d.regs, ctl := d.ctl } ∧
        RegsKeep [SNAP_LAST_ID, SNAP_LAST_SEC_LO, SNAP_LAST_SEC_HI, SNAP_LAST_NS, SNAP_LAST_PHASE, SNAP_LATE_PAGES, SNAP_STATE]
          s.dev d) ∧
    (bitOf (s.dev.rd SNAP_CTRL) 0 = true → Gives (.snapFire agent data) s fun d => d = s.dev.reject .snap 0x100 agent .state) ∧
    (bitOf (s.dev.rd SNAP_CTRL) 0 = false → s.dev.ctl.snap.isSome = true →
      Gives (.snapFire agent data) s fun d => d = s.dev.reject .snap 0x100 agent .busy)) ∧
  (∀ (s : State) (a : Nat) (late : Bool) (p : Page) (x : Snap), pageOf a = some (p, 0) → s.dev.ctl.snap = some x →
    x.reached = true → p.base ∉ x.done → s.dev.chgState ≠ 2 →
    let src := if late then s.dev else (snapShot s.shot x.id).getD s.dev
    let isLate := late || (snapShot s.shot x.id).isNone
    let en := !src.isFenced p && bitOf (src.rd (p.base + 8)) 2
    let area := SNAP_LATE_PAGES :: (p.base + 0x24) :: (p.base + 0xC) :: (List.range 48).map fun i => p.base + 0x40 + 4 * i
    let latched := fun (d : Dev) =>
      (en = true → d.rd (p.base + 0x40) = w32 x.id ∧ d.rd (p.base + 0x24) = w32 x.id ∧
        d.rd (p.base + 0x44) = (if isLate then 1 else 0) ∧ d.rd (p.base + 0x48) = src.status p ∧
        (∀ e ∈ saData src p, d.rd (p.base + e.1) = e.2) ∧
        d.rd SNAP_LATE_PAGES = s.dev.rd SNAP_LATE_PAGES + (if isLate then 1 else 0)) ∧
      (en = false → ∀ b ∈ area, d.rd b = s.dev.rd b)
    (x.done.length + 1 < pageCount → p.spillField = none →
      Gives (.snapLatch a late) s fun d =>
        d.ctl = { s.dev.ctl with snap := some { x with done := p.base :: x.done } } ∧ latched d ∧ RegsKeep area s.dev d ∧
        d = { s.dev with regs := d.regs, ctl := d.ctl }) ∧
    (x.done.length + 1 < pageCount → ∀ f, p.spillField = some f →
      let n := kvGetD x.fieldDone 0 f + 1
      let y : Snap := { x with done := p.base :: x.done, fieldDone := kvPut x.fieldDone f n }
      ((x.spill = false ∨ n ≠ spillPages ∨ s.dev.domOn (144 + f) = false) →
        Gives (.snapLatch a late) s fun d =>
          d.ctl = { s.dev.ctl with snap := some y } ∧ latched d ∧ RegsKeep area s.dev d ∧ d = { s.dev with regs := d.regs, ctl := d.ctl }) ∧
      (x.spill = true → n = spillPages → s.dev.domOn (144 + f) = true →
        Gives (.snapLatch a late) s fun d =>
          d.ctl.snap = some { y with spilling := setIns x.spilling f } ∧ bitOf (d.rd SNAP_STATE) 1 = true ∧
          d.rd (TRACE_SPILL f) = w32 (2 ^ 31 + x.id % 65536) ∧ d = { s.dev with regs := d.regs, ctl := d.ctl })) ∧
    (x.done.length + 1 = pageCount → x.spilling = [] → p.spillField = none →
      Gives (.snapLatch a late) s fun d =>
        d.ctl = { s.dev.ctl with snap := none } ∧ d.rd SNAP_STATE = 0 ∧ latched d ∧ d = { s.dev with regs := d.regs, ctl := d.ctl })) ∧
  (∀ (s : State) (a : Nat) (late : Bool) (p : Page), pageOf a = some (p, 0) →
    (∀ x, s.dev.ctl.snap = some x → x.reached = false ∨ p.base ∈ x.done ∨ s.dev.chgState = 2) →
    Gives (.snapLatch a late) s fun d => d = s.dev) ∧
  (∀ (s : State) (f : Nat), f < 12 →
    ((∀ x, s.dev.ctl.snap = some x → f ∉ x.spilling) → Gives (.spillComplete f) s fun d => d = s.dev) ∧
    (∀ x, s.dev.ctl.snap = some x → f ∈ x.spilling → x.done.length < pageCount →
      Gives (.spillComplete f) s fun d =>
        d.ctl.snap = some { x with spilling := setDel x.spilling f, spilled := setIns x.spilled f } ∧
        (∀ i, i < 48 * spillPages → kvGetD (d.trace f).buf 0 i =
          (areaWords s.dev ((spillOrder f).getD (i / 48) .dev)).getD (i % 48) 0) ∧
        (∀ i, spillEnd / 4 ≤ i → kvGetD (d.trace f).buf 0 i = kvGetD (s.dev.trace f).buf 0 i) ∧
        (∀ g, g ≠ f → d.trace g = s.dev.trace g) ∧ d = { s.dev with regs := d.regs, ctl := d.ctl }))

/-- TRACE_ENTRY_WRITE, while the buffer is not stopped, takes the oldest entry of the field's queue: its four words
lie in the buffer from TR_WR, which rises by 16 bytes, or at the buffer's end returns to the start of the region and
sets STOPPED when STOP_FULL is 1 and WRAPPED when it is 0, and a GAP entry increments GAP_COUNT; with an empty queue,
or stopped, nothing changes. TRACE_GAP, with words lost, room in the queue and the buffer not stopped, puts a GAP
entry that gives their number at the end of the queue and adds it to LOST_WORDS, and the count of lost words is 0;
otherwise nothing changes. TRACE_READ of a powered field returns the word at TR_RD_ADDR, which rises by 4 and wraps at
256 KiB. TRACE_CTRL_WRITE by an agent that may write the page, of a field that is neither fenced nor off, with no
reserved bit, sets TR_CTRL and with STOP_FULL = 0 clears STOPPED. SPILL_RELEASE by such an agent with a 1 in HELD of a
held spill clears HELD and returns the region to the whole buffer. (02_control_model.md R96, 02_control_model.md R97,
02_control_model.md R98, 02_control_model.md R99, 02_control_model.md R100) -/
def Obligations.FieldTrace : Prop :=
  ∀ (s : State) (f : Nat), f < 12 →
    let wr := s.dev.rdF (TRACE_TR_WR f) 17 0
    (∀ e q, (s.dev.trace f).queue = e :: q → bitOf (s.dev.rd (TRACE_TR_WR f)) 31 = false →
      Gives (.traceEntryWrite f) s fun d =>
        (d.trace f).queue = q ∧ (d.trace f).lost = (s.dev.trace f).lost ∧
        (∀ i, kvGetD (d.trace f).buf 0 i =
          if wr / 4 ≤ i ∧ i < wr / 4 + 4 then e.getD (i - wr / 4) 0 else kvGetD (s.dev.trace f).buf 0 i) ∧
        (wr + 16 < traceBytes → d.rdF (TRACE_TR_WR f) 17 0 = wr + 16) ∧
        (traceBytes ≤ wr + 16 → d.rdF (TRACE_TR_WR f) 17 0 = s.dev.rdF (TRACE_TR_REGION f) 17 0 ∧
          bitOf (d.rd (TRACE_TR_WR f)) (if bitOf (s.dev.rd (TRACE_TR_CTRL f)) 12 then 31 else 30) = true) ∧
        d.rd (TRACE_GAP_COUNT f) = satAdd (s.dev.rd (TRACE_GAP_COUNT f)) (if fld (e.getD 0 0) 7 0 = 0x0F then 1 else 0) ∧
        RegsKeep [TRACE_TR_WR f, TRACE_GAP_COUNT f] s.dev d ∧ d = { s.dev with regs := d.regs, ctl := { s.dev.ctl with trace := d.ctl.trace } }) ∧
    ((s.dev.trace f).queue = [] ∨ bitOf (s.dev.rd (TRACE_TR_WR f)) 31 = true →
      Gives (.traceEntryWrite f) s fun d => d = s.dev) ∧
    ((s.dev.trace f).lost ≠ 0 → (s.dev.trace f).queue.length < 64 → bitOf (s.dev.rd (TRACE_TR_WR f)) 31 = false →
      Gives (.traceGap f) s fun d =>
        d.trace f = { s.dev.trace f with
          lost := 0, queue := (s.dev.trace f).queue ++ [[w32 (0x0F + 0x3F * 2 ^ 8), w32 s.dev.time.tb, w32 (s.dev.trace f).lost, 0]] } ∧
        d.rd (TRACE_LOST_WORDS f) = satAdd (s.dev.rd (TRACE_LOST_WORDS f)) (s.dev.trace f).lost ∧
        (∀ g, g ≠ f → d.trace g = s.dev.trace g) ∧ RegsKeep [TRACE_LOST_WORDS f] s.dev d ∧
        d = { s.dev with regs := d.regs, ctl := { s.dev.ctl with trace := d.ctl.trace } }) ∧
    ((s.dev.trace f).lost = 0 ∨ 64 ≤ (s.dev.trace f).queue.length ∨ bitOf (s.dev.rd (TRACE_TR_WR f)) 31 = true →
      Gives (.traceGap f) s fun d => d = s.dev) ∧
    (s.dev.domOn (144 + f) = true →
      Gives (.traceRead f) s fun d =>
        let a := s.dev.rdF (TRACE_TR_RD_ADDR f) 17 0
        d.resp = { kind := .ok, bytes := leBytes 4 (kvGetD (s.dev.trace f).buf 0 (a / 4)).toNat } ∧
        d.rdF (TRACE_TR_RD_ADDR f) 17 0 = (a + 4) % 262144 ∧ RegsKeep [TRACE_TR_RD_ADDR f] s.dev d ∧
        d = { s.dev with regs := d.regs, resp := d.resp }) ∧
    (∀ (agent : Nat) (data : Word), s.dev.mayWrite agent (.trace f) = true → s.dev.isFenced (.trace f) = false → s.dev.up = true →
      (data.toNat &&& 0xFFFFE00E = 0 →
        Gives (.traceCtrlWrite f agent data) s fun d =>
          d.rd (TRACE_TR_CTRL f) = data ∧
          (bitOf data 12 = false → bitOf (d.rd (TRACE_TR_WR f)) 31 = false ∧ fld (d.rd (TRACE_TR_WR f)) 30 0 = fld (s.dev.rd (TRACE_TR_WR f)) 30 0) ∧
          (bitOf data 12 = true → d.rd (TRACE_TR_WR f) = s.dev.rd (TRACE_TR_WR f)) ∧
          OnlyRegs [TRACE_TR_CTRL f, TRACE_TR_WR f] s.dev d) ∧
      (fld data 30 16 = 0 → bitOf data 31 = true → bitOf (s.dev.rd (TRACE_SPILL f)) 31 = true →
        Gives (.spillRelease f agent data) s fun d =>
          bitOf (d.rd (TRACE_SPILL f)) 31 = false ∧ fld (d.rd (TRACE_SPILL f)) 30 0 = fld (s.dev.rd (TRACE_SPILL f)) 30 0 ∧
          d.rdF (TRACE_TR_REGION f) 17 0 = 0 ∧ OnlyRegs [TRACE_SPILL f, TRACE_TR_REGION f] s.dev d))

/-- TIME_CAPTURE returns the nanoseconds of TAI and captures into CAP the seconds, the frame, the phase and the time
base of the same instant; no other register changes. TIME_SET_GO with GO = 1, by an agent that may write the TIME page
of a powered unit that is not fenced, in a device that is up, with no snapshot in flight, no set waiting, no reserved
bit, a legal value, and not by debug while the source is GPTP or the partner: the three SET registers take their
staged values. In mode IMMEDIATE, 1 µs or more before a roll-over, TAI is then SET_SEC:SET_NS; in mode STEP it changes
by that offset, subtracted with NEG = 1, and STEP_COUNT rises; in mode AT_BOUNDARY, or within 1 µs of a roll-over, GO
reads 1 and the set waits. TAI_ROLLOVER at a new TAI second, with a set of mode 0 or 1 waiting for this roll-over that
does not wait for a PPS edge (mode AT_BOUNDARY under the source PPS): TAI is the value set and GO reads 0; a set that
waits for the roll-over after it waits for that one then; a step that the servo had deferred to this roll-over is
applied; before the next second nothing changes. (10_cadence_time.md R391, 10_cadence_time.md R393, 10_cadence_time.md
R398, 10_cadence_time.md R399, 10_cadence_time.md R400, 10_cadence_time.md R401) -/
def Obligations.TaiCapturedAndSet : Prop :=
  (∀ (s : State), Gives .timeCapture s fun d =>
    let ns := s.dev.taiNs
    d.resp = { kind := .ok, bytes := leBytes 4 (ns % 1000000000) } ∧ d.rd TIME_CAP_SEC_LO = w32 (ns / 1000000000) ∧
    d.rd TIME_CAP_SEC_HI = w32 (ns / 1000000000 / 2 ^ 32 % 65536) ∧ d.rd TIME_CAP_FRAME = s.dev.rd CAD_FRAME ∧
    d.rd TIME_CAP_PHASE = w32 s.dev.phase ∧ d.rd64 (TIME_CAP_TB 0) = s.dev.time.tb % 2 ^ 64 ∧
    RegsKeep [TIME_CAP_SEC_LO, TIME_CAP_SEC_HI, TIME_CAP_FRAME, TIME_CAP_PHASE, TIME_CAP_TB 0, TIME_CAP_TB 0 + 4] s.dev d ∧
    d = { s.dev with regs := d.regs, resp := d.resp }) ∧
  (∀ (s : State) (agent : Nat) (data : Word), s.dev.mayWrite agent .time = true → s.dev.isFenced .time = false → s.dev.up = true →
    s.dev.ctl.snap = none → s.dev.time.taiSet = none → bitOf data 0 = true → fld data 2 1 ≠ 3 → data.toNat &&& 0xFFFFFEF0 = 0 →
    ¬(agent = agentDebug ∧ (s.dev.rdF TIME_SRC 1 0 = 1 ∨ s.dev.rdF TIME_SRC 1 0 = 3)) →
    let sec := (s.dev.stagedRd TIME_SET_SEC_LO).toNat + 2 ^ 32 * (s.dev.stagedRd TIME_SET_SEC_HI).toNat
    let ns := (s.dev.stagedRd TIME_SET_NS).toNat
    let v : Int := ((sec * 1000000000 + ns : Nat) : Int)
    let res : Int := (s.dev.taiNs : Int) + (if bitOf data 3 then -v else v)
    ns < 1000000000 → (fld data 2 1 = 2 → 0 ≤ res ∧ res < (2 ^ 48 : Int) * 1000000000) →
    Gives (.timeSetGo agent data) s fun d =>
      (∀ a ∈ [TIME_SET_SEC_LO, TIME_SET_SEC_HI, TIME_SET_NS], d.rd a = s.dev.stagedRd a ∧ d.stagedRd a = d.rd a) ∧
      (1000 ≤ toRollover s.dev → fld data 2 1 = 1 → d.taiNs = sec * 1000000000 + ns ∧ d.time.taiSet = none) ∧
      (1000 ≤ toRollover s.dev → fld data 2 1 = 2 → (d.taiNs : Int) = res ∧ d.time.taiSet = none ∧
        d.rd TIME_STEP_COUNT = satAdd (s.dev.rd TIME_STEP_COUNT) 1) ∧
      ((toRollover s.dev < 1000 ∨ fld data 2 1 = 0) → bitOf (d.rd TIME_SET_CTRL) 0 = true ∧
        bitOf (d.rd TIME_SET_CTRL) 8 = decide (toRollover s.dev < 1000) ∧ d.taiNs = s.dev.taiNs ∧
        d.time.taiSet = some { mode := fld data 2 1, neg := bitOf data 3, sec, ns, wait := if toRollover s.dev < 1000 then 2 else 1 }) ∧
      RegsKeep [TIME_SET_CTRL, TIME_SET_SEC_LO, TIME_SET_SEC_HI, TIME_SET_NS, TIME_STEP_COUNT] s.dev d ∧
      d = { s.dev with regs := d.regs, staged := d.staged, time := d.time }) ∧
  (∀ (s : State), 
    (s.dev.taiNs / 1000000000 ≤ s.dev.time.lastSec → Gives .taiRollover s fun d => d = s.dev) ∧
    (∀ x, s.dev.time.lastSec < s.dev.taiNs / 1000000000 → waitsPps s.dev = false → s.dev.time.taiSet = some x →
      s.dev.time.servoSet = none →
      (x.wait ≤ 1 → x.mode ≠ 2 → Gives .taiRollover s fun d =>
        d.taiNs = x.sec * 1000000000 + x.ns ∧ d.time.taiSet = none ∧ bitOf (d.rd TIME_SET_CTRL) 0 = false ∧
        RegsKeep [TIME_SET_CTRL] s.dev d ∧ d = { s.dev with regs := d.regs, time := d.time, cad := d.cad }) ∧
      (1 < x.wait → Gives .taiRollover s fun d =>
        d.taiNs = s.dev.taiNs ∧ d.time.taiSet = some { x with wait := x.wait - 1 } ∧
        d = { s.dev with time := d.time, cad := d.cad })) ∧
    (∀ x, s.dev.time.lastSec < s.dev.taiNs / 1000000000 → s.dev.time.taiSet = none → s.dev.time.servoSet = some x → x.wait ≤ 1 →
      x.mode ≠ 2 → Gives .taiRollover s fun d =>
        d.taiNs = x.sec * 1000000000 + x.ns ∧ d.time.servoSet = none ∧ d = { s.dev with time := d.time, cad := d.cad }))

/-- SERVO_HOLDOVER while SYNC_STATUS is ACQUIRING or LOCKED and the source has been missing as long as R395 says: the
state is HOLDOVER, RATE is frozen at its mean over the last 10 s, TAI is continuous and one record is written; in
FREERUN or HOLDOVER, or while the source is not missing, nothing changes. The pulse at a pin is an input of the part:
the polarity and the width of the edge are free values (log entry 122). PPS_EDGE of the polarity that the pin with the
PPS function selects, of a pulse of at least 100 ns, counts the edge; with the source PPS, the servo selected and no
set waiting for the edge, OFFSET_NS is the signed distance of TAI from the nearest second, an offset of at most 1 ms
making no step; a set of mode AT_BOUNDARY that waits for this edge takes effect; with another source only the count
changes, and without such a pin, or of a shorter pulse or the other polarity, nothing. SNAP_PIN_EDGE likewise on the
pin with the snapshot function counts the edge and, with HOLD = 0 and no snapshot in flight, accepts a snapshot with
source 3 and T 2 µs after it; without such a pin nothing changes. (10_cadence_time.md R394, 10_cadence_time.md R395,
10_cadence_time.md R396, 10_cadence_time.md R399, 02_control_model.md R88, 16_interfaces_pins.md R621) -/
def Obligations.ServoAndPins : Prop :=
  (∀ (s : State),
    let st := s.dev.rdF TIME_SYNC_STATUS 1 0
    ((st = 1 ∨ st = 2) → sourceMissing s.dev = true → Gives .servoHoldover s fun d =>
      d.rdF TIME_SYNC_STATUS 1 0 = 3 ∧ d.rd TIME_RATE = w32 (ofSigned 32 (meanRate s.dev)) ∧
      d.taiUnitsAt s.dev.time.tb = s.dev.taiUnitsAt s.dev.time.tb ∧
      d.flt.pendingRecords.length = s.dev.flt.pendingRecords.length + 1 ∧ RegsKeep [TIME_SYNC_STATUS, TIME_RATE] s.dev d ∧
      d = { s.dev with regs := d.regs, time := d.time, flt := d.flt }) ∧
    (((st ≠ 1 ∧ st ≠ 2) ∨ sourceMissing s.dev = false) → Gives .servoHoldover s fun d => d = s.dev)) ∧
  (∀ (s : State),
    let pulse := Config.pinPulse 2 s.dev.time.tb
    let takes := fun n => takesEdge (bitOf (s.dev.rd (PINS_EVT_CFG n)) 4) pulse.1 pulse.2
    (pinWith s.dev 2 = none → Gives .ppsEdge s fun d => d = s.dev) ∧
    (∀ n, pinWith s.dev 2 = some n →
      (s.dev.rdF TIME_SRC 1 0 ≠ 2 → Gives .ppsEdge s fun d => (takes n = false ∧ d = s.dev) ∨ takes n = true ∧
        d.rd (PINS_EDGE_COUNT n) = satAdd (s.dev.rd (PINS_EDGE_COUNT n)) 1 ∧ OnlyRegs [PINS_EDGE_COUNT n] s.dev d) ∧
      (∀ x, s.dev.rdF TIME_SRC 1 0 = 2 → s.dev.time.taiSet = some x → x.mode = 0 → x.wait ≤ 1 →
        Gives .ppsEdge s fun d => (takes n = false ∧ d = s.dev) ∨ takes n = true ∧
          d.rd (PINS_EDGE_COUNT n) = satAdd (s.dev.rd (PINS_EDGE_COUNT n)) 1 ∧
          d.taiNs = x.sec * 1000000000 + x.ns ∧ d.time.taiSet = none ∧ bitOf (d.rd TIME_SET_CTRL) 0 = false ∧
          RegsKeep [PINS_EDGE_COUNT n, TIME_SET_CTRL] s.dev d ∧ d = { s.dev with regs := d.regs, time := d.time }) ∧
      (s.dev.rdF TIME_SRC 1 0 = 2 → waitsPps s.dev = false → s.dev.rdF TIME_SYNC_STATUS 1 0 ≠ 0 →
        let fr := s.dev.taiNs % 1000000000
        (fr ≤ 1000000 ∨ 999000000 ≤ fr) →
        Gives .ppsEdge s fun d => (takes n = false ∧ d = s.dev) ∨ takes n = true ∧
          d.rd (PINS_EDGE_COUNT n) = satAdd (s.dev.rd (PINS_EDGE_COUNT n)) 1 ∧
          d.rd TIME_OFFSET_NS = w32 (ofSigned 32 (if fr < 500000000 then (fr : Int) else (fr : Int) - 1000000000)) ∧
          d.rd TIME_STEP_COUNT = s.dev.rd TIME_STEP_COUNT ∧
          RegsKeep [PINS_EDGE_COUNT n, TIME_OFFSET_NS, TIME_RATE, TIME_SYNC_STATUS] s.dev d ∧
          d = { s.dev with regs := d.regs, time := d.time, flt := d.flt, freeCtr := d.freeCtr }))) ∧
  (∀ (s : State),
    let pulse := Config.pinPulse 3 s.dev.time.tb
    let takes := fun n => takesEdge (bitOf (s.dev.rd (PINS_EVT_CFG n)) 4) pulse.1 pulse.2
    (pinWith s.dev 3 = none → Gives .snapPinEdge s fun d => d = s.dev) ∧
    (∀ n, pinWith s.dev 3 = some n → s.dev.ctl.snap = none → bitOf (s.dev.rd SNAP_CTRL) 0 = false →
      Gives .snapPinEdge s fun d => (takes n = false ∧ d = s.dev) ∨ takes n = true ∧
        d.rd (PINS_EDGE_COUNT n) = satAdd (s.dev.rd (PINS_EDGE_COUNT n)) 1 ∧
        d.ctl.snap = some { id := s.dev.ctl.nextSnap, tick := s.dev.time.tb + 1600, spill := bitOf (s.dev.rd SNAP_CTRL) 1 } ∧
        fld (d.rd SNAP_LAST_PHASE) 19 16 = 3 ∧ d.rd SNAP_STATE = 1 ∧ d = { s.dev with regs := d.regs, ctl := d.ctl }) ∧
    (∀ n, pinWith s.dev 3 = some n → (s.dev.ctl.snap.isSome = true ∨ bitOf (s.dev.rd SNAP_CTRL) 0 = true) →
      Gives .snapPinEdge s fun d => (takes n = false ∧ d = s.dev) ∨ takes n = true ∧
        d.rd (PINS_EDGE_COUNT n) = satAdd (s.dev.rd (PINS_EDGE_COUNT n)) 1 ∧
        d.rd SNAP_DROPPED = satAdd (s.dev.rd SNAP_DROPPED) 1 ∧ OnlyRegs [PINS_EDGE_COUNT n, SNAP_DROPPED] s.dev d))

/-- The pulse at the pin is an input of the part: its polarity and width are free values (log entry 122). FSYNC_EDGE
of the polarity that CTRL.EDGE selects, of a pulse of at least 100 ns, on the pin with the FSYNC function, not after
the close of the window, with the source EXTERNAL and no boundary pending, counts the edge. In WAIT_EDGE it begins
ACQUIRE with the nominal period and causes a boundary; in LOCKED, inside the acceptance window, it causes a boundary,
and the period is measured from the last boundary if an edge caused that one; in LOCKED before the window only
EARLY_COUNT rises. Without such a pin, or of the other polarity or a shorter pulse, nothing changes.
FRAME_WINDOW_CLOSE, at or after the close of the window in a state from ACQUIRE on with no boundary pending, counts a
miss, causes a boundary at the close, and LOCKED becomes MISSED and MISSED becomes HOLDOVER; otherwise nothing
changes. INTERNAL_BOUNDARY under the source INTERNAL, with a frame running and its expected boundary no later than the
next tick, causes the boundary so that the frame begins at the expected tick. FRAME_BOUNDARY after the causing tick,
with no entry of the ending frame unreached and no deadline due: FRAME is the number that the cause carries, or one
more modulo 2^32 where it carries none and no reference frame waits, the frame begins one tick after its cause with
the period that PERIOD then holds; without a cause, or at the causing tick, nothing changes. (10_cadence_time.md R402,
10_cadence_time.md R404, 10_cadence_time.md R405, 10_cadence_time.md R406, 10_cadence_time.md R407, 10_cadence_time.md
R408, 10_cadence_time.md R410, 16_interfaces_pins.md R621) -/
def Obligations.FrameBoundaries : Prop :=
  (∀ (s : State),
    let pulse := Config.pinPulse 1 s.dev.time.tb
    let takes := takesEdge (bitOf (s.dev.rd CAD_CTRL) 2) pulse.1 pulse.2
    (pinWith s.dev 1 = none → Gives .fsyncEdge s fun d => d = s.dev) ∧
    (∀ n, pinWith s.dev 1 = some n → s.dev.rdF CAD_CTRL 1 0 = 1 → s.dev.cad.cause = none →
      (s.dev.cadState = 1 → Gives .fsyncEdge s fun d => (takes = false ∧ d = s.dev) ∨ takes = true ∧
        d.cadState = 2 ∧ d.rd CAD_PERIOD = w32 s.dev.nomTicks ∧ d.rd (PINS_EDGE_COUNT n) = satAdd (s.dev.rd (PINS_EDGE_COUNT n)) 1 ∧
        d.cad = { s.dev.cad with lastEdge := some s.dev.time.tb, cause := some { tick := s.dev.time.tb, fromEdge := true } } ∧
        RegsKeep [PINS_EDGE_COUNT n, CAD_PERIOD, CAD_STATE] s.dev d ∧ d = { s.dev with regs := d.regs, cad := d.cad, flt := d.flt }) ∧
      (s.dev.cadState = 3 → inWindow s.dev s.dev.time.tb = true → Gives .fsyncEdge s fun d => (takes = false ∧ d = s.dev) ∨ takes = true ∧
        d.cadState = 3 ∧ d.rd (PINS_EDGE_COUNT n) = satAdd (s.dev.rd (PINS_EDGE_COUNT n)) 1 ∧
        d.rd CAD_PERIOD = (if s.dev.cad.boundFromEdge then w32 (s.dev.time.tb + 1 - s.dev.boundTick) else s.dev.rd CAD_PERIOD) ∧
        d.cad = { s.dev.cad with lastEdge := some s.dev.time.tb, cause := some { tick := s.dev.time.tb, fromEdge := true } } ∧
        RegsKeep [PINS_EDGE_COUNT n, CAD_PERIOD] s.dev d ∧ d = { s.dev with regs := d.regs, cad := d.cad }) ∧
      (s.dev.cadState = 3 → s.dev.time.tb < s.dev.expected → inWindow s.dev s.dev.time.tb = false → Gives .fsyncEdge s fun d => (takes = false ∧ d = s.dev) ∨ takes = true ∧
        d.rd CAD_EARLY_COUNT = satAdd (s.dev.rd CAD_EARLY_COUNT) 1 ∧ OnlyRegs [PINS_EDGE_COUNT n, CAD_EARLY_COUNT] s.dev d))) ∧
  (∀ (s : State),
    let st := s.dev.cadState
    let due := s.dev.rdF CAD_CTRL 1 0 = 1 ∧ 2 ≤ st ∧ s.dev.cad.cause = none ∧ windowClose s.dev ≤ s.dev.time.tb
    (due → Gives .frameWindowClose s fun d =>
      d.rd CAD_MISS_COUNT = satAdd (s.dev.rd CAD_MISS_COUNT) 1 ∧
      d.cadState = (if st = 3 then 4 else if st = 4 then 5 else st) ∧
      d.cad = { s.dev.cad with cause := some { tick := windowClose s.dev, fromEdge := false } } ∧
      RegsKeep [CAD_MISS_COUNT, CAD_STATE] s.dev d ∧ d = { s.dev with regs := d.regs, cad := d.cad, flt := d.flt }) ∧
    (¬due → Gives .frameWindowClose s fun d => d = s.dev)) ∧
  (∀ (s : State),
    let due := s.dev.rdF CAD_CTRL 1 0 = 2 ∧ s.dev.cad.cause = none ∧ s.dev.cad.framePeriod ≠ 0 ∧ s.dev.expected ≤ s.dev.time.tb + 1
    (due → Gives .internalBoundary s fun d =>
      d.rd CAD_PERIOD = w32 s.dev.nomTicks ∧
      d.cad = { s.dev.cad with cause := some { tick := s.dev.expected - 1, fromEdge := false } } ∧
      RegsKeep [CAD_PERIOD] s.dev d ∧ d = { s.dev with regs := d.regs, cad := d.cad }) ∧
    (¬due → Gives .internalBoundary s fun d => d = s.dev)) ∧
  (∀ (s : State),
    ((∀ c, s.dev.cad.cause = some c → s.dev.time.tb ≤ c.tick) → Gives .frameBoundary s fun d => d = s.dev) ∧
    (∀ c, s.dev.cad.cause = some c → c.tick < s.dev.time.tb → unreached s.dev = [] → s.dev.strm.deadlines = [] →
      (c.frame = none → s.dev.peer.refFrame = none) →
      Gives .frameBoundary s fun d =>
        d.rd CAD_FRAME = (match c.frame with | some n => w32 n | none => s.dev.rd CAD_FRAME + 1) ∧
        d.rd64 (CAD_BOUND_TB 0) = (c.tick + 1) % 2 ^ 64 ∧ d.cad.framePeriod = (s.dev.rd CAD_PERIOD).toNat ∧
        d.cad.cause = none ∧ d.cad.boundFromEdge = c.fromEdge ∧ d.time = s.dev.time ∧
        d.tiles = s.dev.tiles ∧ d.seqs = s.dev.seqs ∧ d.fab = s.dev.fab ∧ d.strm = s.dev.strm ∧ d.memp = s.dev.memp))

/-- ADD by an agent that may write the CAD page, while it is neither fenced nor before start-up, with every check of
the four staged words passed: the entry takes the lowest free index with its words 0 to 3, VALID = 1, LATE = 0 and the
agent as OWNER, and SCHED_RESULT reports the index; in a module that is not the lead of a herd nothing else changes;
with a check failed only the rejection happens. DELETE by the owner, Pewter or the debug session of a valid entry: one
that is not issued is freed, all four words 0; one issued for its current firing stays and is freed after it.
SCHED_ISSUE of a valid entry of the present frame whose type is not issued ahead, not yet issued, in a running frame:
its instant is the boundary plus the phase's share of the period, rounded up; of a SNAPSHOT entry whose instant lies 2
µs or more after the boundary, once that lead remains, it triggers a snapshot with source 2 at the instant.
(10_cadence_time.md R411, 10_cadence_time.md R413, 10_cadence_time.md R414, 10_cadence_time.md R423,
14_channels_twin_herd.md R546) -/
def Obligations.ScheduleTable : Prop :=
  (∀ (s : State) (agent : Nat), s.dev.mayWrite agent .cad = true → s.dev.isFenced .cad = false → s.dev.up = true →
    let ws := schedWords s.dev
    (∀ c, firstFail (addChecks s.dev ws) = some c →
      Gives (.schedAdd agent) s fun d => d = s.dev.reject .cad 0x150 agent c) ∧
    (∀ e, firstFail (addChecks s.dev ws) = none → e < 64 → schedValid s.dev e = false → (∀ k, k < e → schedValid s.dev k = true) →
      Gives (.schedAdd agent) s fun d =>
        entryWord d e 0 = ws.getD 0 0 ∧ entryWord d e 2 = ws.getD 2 0 ∧
        schedValid d e = true ∧ bitOf (entryWord d e 1) 29 = false ∧ fld (entryWord d e 1) 28 0 = fld (ws.getD 1 0) 28 0 ∧
        fld (entryWord d e 3) 23 0 = fld (ws.getD 3 0) 23 0 ∧ entryOwner d e = agent % 256 ∧
        d.rd CAD_SCHED_RESULT = w32 (e + 2 ^ 31) ∧
        (isLead s.dev = false → OnlyRegs (CAD_SCHED_RESULT :: (List.range 4).map fun i => CAD_SCHED (4 * e + i)) s.dev d))) ∧
  (∀ (s : State) (agent e : Nat), s.dev.mayWrite agent .cad = true → s.dev.isFenced .cad = false → s.dev.up = true → e < 64 →
    schedValid s.dev e = true → (agent = entryOwner s.dev e ∨ isPewter agent = true ∨ agent = agentDebug) →
    (kvGet? s.dev.cad.issued e = none →
      Gives (.schedDelete agent e) s fun d =>
        (∀ i, i < 4 → entryWord d e i = 0) ∧ RegsKeep ((List.range 4).map fun i => CAD_SCHED (4 * e + i)) s.dev d ∧
        d = { s.dev with regs := d.regs, cad := d.cad }) ∧
    ((kvGet? s.dev.cad.issued e).isSome = true →
      Gives (.schedDelete agent e) s fun d => d = { s.dev with cad := { s.dev.cad with delAfter := setIns s.dev.cad.delAfter e } })) ∧
  (∀ (s : State) (e : Nat), e < 64 → schedValid s.dev e = true → frameRuns s.dev = true → kvGet? s.dev.cad.issued e = none →
    entryFrame s.dev e = s.dev.frame →
    let inst := s.dev.boundTick + (entryPhase s.dev e * s.dev.cad.framePeriod + 65535) / 65536
    (entryLead (entryType s.dev e) = 0 →
      Gives (.schedIssue e) s fun d =>
        d = { s.dev with cad := { s.dev.cad with issued := kvPut s.dev.cad.issued e { tick := inst } } }) ∧
    (entryType s.dev e = 5 → s.dev.boundTick + 1600 ≤ inst → inst ≤ s.dev.time.tb + 1600 → s.dev.ctl.snap = none →
      bitOf (s.dev.rd SNAP_CTRL) 0 = false →
      Gives (.schedIssue e) s fun d =>
        (∃ x, d.ctl.snap = some x ∧ x.id = s.dev.ctl.nextSnap ∧ x.tick = inst) ∧ fld (d.rd SNAP_LAST_PHASE) 19 16 = 2 ∧
        kvGet? d.cad.issued e = some { tick := inst } ∧ d = { s.dev with regs := d.regs, ctl := d.ctl, cad := d.cad }))

/-- For each of the six types: an issued, valid entry of the present frame and of that type, whose instant is reached
and before which no other of the same instant goes, in a running frame of a module that is not in a herd, with room in
FIRE_LOG. The firing of an entry with REPEAT = 0, not late, frees it and appends to FIRE_LOG its index, type, frame
and outcome. POWER_HINT adds the boost request of the entry; SNAPSHOT and FREQ, issued ahead, report the outcome of
that issue; SCHED_STREAM_RELEASE releases every open stream of its range in state WAITING, READY, RUNNING or PAUSED in
ascending order; CONFIG_APPLY of a page whose staged values are legal as a set makes them the active values together,
and none stays staged (for FLT, FLOOR, CLK, THERM, STRM, SEL and CHAN nothing else changes); where they are not legal
the apply is rejected by the page with the first failing code, logged as DROPPED, and no active and no staged value of
the page changes; of a page that is fenced it is rejected and logged as DROPPED, of a page with no staged value that
differs it changes nothing; BANK_SWAP, with no other swap waiting, swaps the banks of its sequencers at once when each
is between commands with a loaded bank to swap to, and waits with its mask, instant and owner while one of them holds
a queued command. An entry of another type, or one that is not due, does not fire. (10_cadence_time.md R412,
10_cadence_time.md R415, 10_cadence_time.md R416, 10_cadence_time.md R417, 10_cadence_time.md R419,
02_control_model.md R59, 02_control_model.md R60, 06_sequencers_isa.md R224, 12_power_thermal.md R462) -/
def Obligations.ScheduleFires : Prop :=
  (∀ (s : State) (e k : Nat) (i : Issue), e < 64 → entryType s.dev e = k → fireDue s.dev e = true → kvGet? s.dev.cad.issued e = some i →
    i.late = false → isMember s.dev = false → fld (entryWord s.dev e 1) 27 20 = 0 → s.dev.cad.fireLog.length < 16 →
    let entry : Bool → Word := fun dropped => w32 (e + k * 2 ^ 8 + b2n dropped * 2 ^ 13 + entryFrame s.dev e % 4096 * 2 ^ 16 + 2 ^ 31)
    let fired : Bool → Dev → Prop := fun dropped d =>
      d.cad.fireLog = s.dev.cad.fireLog ++ [entry dropped] ∧ ∀ j, j < 4 → entryWord d e j = 0
    let frame : Dev → Prop := fun d =>
      RegsKeep ((List.range 4).map fun j => CAD_SCHED (4 * e + j)) s.dev d ∧ d = { s.dev with regs := d.regs, cad := d.cad }
    (k = 1 → Gives (.freqEntry e) s fun d => fired i.dropped d ∧ frame d) ∧
    (k = 5 → Gives (.snapshotEntry e) s fun d => fired i.dropped d ∧ frame d) ∧
    (k = 6 →
      let w := entryWord s.dev e 2
      Gives (.powerHintEntry e) s fun d => fired false d ∧
        d.pwr = { s.dev.pwr with
          hints := s.dev.pwr.hints ++ [{ src := 64 + e, level := fld w 3 0, span := fld w 23 8, ends := i.tick + usTicks (fld w 23 8) }] } ∧
        RegsKeep (((List.range 4).map fun j => CAD_SCHED (4 * e + j)) ++ (List.range 12).map fun f => PWR_VSET f) s.dev d ∧
        d = { s.dev with regs := d.regs, cad := d.cad, pwr := d.pwr, tx := d.tx }) ∧
    (k = 2 → ∀ p o, pageOf (4096 * fld (entryWord s.dev e 2) 13 0) = some (p, o) →
      (s.dev.isFenced p = true →
        Gives (.configApplyEntry e) s fun d => fired true d ∧ d.staged = s.dev.staged ∧
          RegsKeep (errRegs p ++ (List.range 4).map fun j => CAD_SCHED (4 * e + j)) s.dev d) ∧
      (s.dev.isFenced p = false → s.dev.up = true → stagedOffs s.dev p = [] →
        Gives (.configApplyEntry e) s fun d => fired false d ∧ frame d) ∧
      (s.dev.isFenced p = false → s.dev.up = true → stagedOffs s.dev p ≠ [] →
        p ∈ [Page.flt, .floor, .clk, .therm, .strm, .sel, .chan] →
        let d1 := s.dev.wr (CAD_SCHED (4 * e + 1)) (setBit (entryWord s.dev e 1) 29 false)
        (applyFail d1 p = none → Gives (.configApplyEntry e) s fun d => fired false d ∧
          (∀ o ∈ stagedOffs s.dev p, d.rd (p.base + o) = s.dev.stagedRd (p.base + o)) ∧ stagedOffs d p = [] ∧
          (∀ b, (b < p.base ∨ p.base + p.size ≤ b) → d.stagedRd b = s.dev.stagedRd b) ∧
          RegsKeep ((stagedOffs s.dev p).map (p.base + ·) ++ (List.range 4).map fun j => CAD_SCHED (4 * e + j)) s.dev d ∧
          d = { s.dev with regs := d.regs, staged := d.staged, digests := d.digests, digestBusy := d.digestBusy, cad := d.cad }) ∧
        (∀ c o, applyFail d1 p = some (c, o) → Gives (.configApplyEntry e) s fun d => fired true d ∧ d.staged = s.dev.staged ∧
          d.rd (p.base + 0x14) = satAdd (s.dev.rd (p.base + 0x14)) 1 ∧
          RegsKeep (errRegs p ++ (List.range 4).map fun j => CAD_SCHED (4 * e + j)) s.dev d))) ∧
    (k = 4 →
      let w := entryWord s.dev e 2
      let ns := (openStreams s.dev).filter fun n => decide (fld w 13 0 ≤ n ∧ n ≤ fld w 13 0 + fld w 29 16) && decide (1 ≤ s.dev.strmSt n ∧ s.dev.strmSt n ≤ 4)
      Gives (.schedStreamRelease e) s fun d => fired false d ∧ 
        ∃ d1 : Dev, d1 = s.dev.wr (CAD_SCHED (4 * e + 1)) (setBit (entryWord s.dev e 1) 29 false) ∧
          d.strm = (ns.foldl (fun d n => strmReleaseNow n d) d1).strm) ∧
    (k = 3 → s.dev.strm.swaps = [] →
      let m := (entryWord s.dev e 2).toNat + 2 ^ 32 * fld (entryWord s.dev e 3) 15 0
      let mask := (List.range 48).filter fun q => m.testBit q
      let held := fun q => !(s.dev.seq q).queue.isEmpty || s.dev.fab.cmds.any fun x => x.1 == q
      ((∃ q ∈ mask, held q = true) →
        Gives (.bankSwapEntry e) s fun d => fired false d ∧
          d.strm = { s.dev.strm with swaps := [{ mask, tick := i.tick, entry := e, owner := entryOwner s.dev e }] } ∧
          RegsKeep ((List.range 4).map fun j => CAD_SCHED (4 * e + j)) s.dev d ∧ d = { s.dev with regs := d.regs, cad := d.cad, strm := d.strm }) ∧
      ((∀ q ∈ mask, held q = false ∧ (s.dev.seq q).cur = none ∧ swapPending s.dev q = false ∧ s.dev.isFenced (.seq q) = false ∧
          firstFail (swapChecks s.dev q) = none) → i.tick = s.dev.time.tb →
        Gives (.bankSwapEntry e) s fun d => fired false d ∧ d.strm = s.dev.strm ∧
          ∀ q, q < 48 → activeBank d q = if q ∈ mask then 1 - activeBank s.dev q else activeBank s.dev q))) ∧
  (∀ (s : State) (e : Nat), e < 64 → fireDue s.dev e = false →
    Gives (.freqEntry e) s (· = s.dev) ∧ Gives (.configApplyEntry e) s (· = s.dev) ∧ Gives (.bankSwapEntry e) s (· = s.dev) ∧
    Gives (.schedStreamRelease e) s (· = s.dev) ∧ Gives (.snapshotEntry e) s (· = s.dev) ∧ Gives (.powerHintEntry e) s (· = s.dev))

/-- For every sequencer of a field whose mesh runs, not ABORTING, whose waiting instruction has the opcode of the
command and that does not wait for a lock, the command executes it, and it waits no longer. NOP does nothing else. END
ends the command in progress and a RUN sequencer is IDLE. JMP goes to TARGET. LOOP decrements its counter, 16 bits
wrapping, and goes to TARGET unless it is then 0. LCSET writes the counter from IMM or from an argument. ATOM_BEGIN
sets IN_ATOM and ATOM_END clears it. SYNC makes issue wait. LKACQ of a free lock acquires it for agent 0x40 + q and
notes its generation; of a held one it waits, still in place. LKREL of a lock that the sequencer still owns with the
noted generation releases it; of one that is not held, or that another agent owns, it sets FLAGS[4] and leaves the
lock word. BRB goes to TARGET exactly if the lock last acquired was broken. HINT puts its boost request in force. No
other sequencer changes. A command whose instruction is not the one that waits, or in a field whose mesh is gated,
changes nothing. (06_sequencers_isa.md R230, 06_sequencers_isa.md R240, 06_sequencers_isa.md R251,
06_sequencers_isa.md R252, 06_sequencers_isa.md R253, 06_sequencers_isa.md R254, 06_sequencers_isa.md R264,
12_power_thermal.md R462) -/
def Obligations.SequencerInstructions : Prop :=
  (∀ (s : State) (q : Nat) (i : Instruct), q < 48 → (s.dev.seq q).fetched = some i → (s.dev.seq q).lockWait = none →
    s.dev.meshRuns (q / 4) = true → s.dev.seqSt q ≠ 5 →
    let d0 := s.dev.modSeq q fun x => { x with fetched := none }
    let only : List Nat → Dev → Prop := fun l d => RegsKeep l s.dev d ∧ SeqsKeep q s.dev d ∧ d.resp = s.dev.resp ∧ d.tiles = s.dev.tiles
    (i.opcode = 0x00 → Gives (.nop q) s fun d => d = d0) ∧
    (i.opcode = 0x01 → Gives (.endCommand q) s fun d =>
      (d.seq q).cur = none ∧ (d.seq q).fetched = none ∧ (s.dev.seqSt q = 2 → d.seqSt q = 1) ∧
      (s.dev.seqSt q ≠ 2 → d.seqSt q = s.dev.seqSt q ∧ (d.seq q).resumeTo = 1) ∧ only [SEQ_SEQ_STATE q] d) ∧
    (i.opcode = 0x02 → Gives (.jmp q) s fun d =>
      (d.seq q).pc = i.f 12 0 ∧ (d.seq q).fetched = none ∧ d.rdF (SEQ_PC q) 12 0 = i.f 12 0 ∧ only [SEQ_PC q] d) ∧
    (i.opcode = 0x03 → Gives (.loop q) s fun d =>
      let v := (s.dev.rdF (SEQ_LC q (i.f 31 29)) 15 0 + 65535) % 65536
      d.rdF (SEQ_LC q (i.f 31 29)) 15 0 = v ∧ (d.seq q).pc = (if v = 0 then (s.dev.seq q).pc else i.f 12 0) ∧
      (d.seq q).fetched = none ∧ only [SEQ_LC q (i.f 31 29), SEQ_PC q] d) ∧
    (i.opcode = 0x04 → Gives (.lcset q) s fun d =>
      d.rd (SEQ_LC q (i.f 31 29)) = w32 (if i.b 28 then i.cmd.arg (i.f 17 16) % 65536 else i.f 15 0) ∧
      d.seq q = d0.seq q ∧ only [SEQ_LC q (i.f 31 29)] d) ∧
    (i.opcode = 0x05 → Gives (.atomBegin q) s fun d => d.inAtom q = true ∧ d.seq q = d0.seq q ∧ d.seqSt q = s.dev.seqSt q ∧ only [SEQ_SEQ_STATE q] d) ∧
    (i.opcode = 0x06 → Gives (.atomEnd q) s fun d => d.inAtom q = false ∧ d.seq q = d0.seq q ∧ d.seqSt q = s.dev.seqSt q ∧ only [SEQ_SEQ_STATE q] d) ∧
    (i.opcode = 0x07 → Gives (.sync q) s fun d => d = d0.modSeq q fun x => { x with syncWait := true }) ∧
    (i.opcode = 0x08 → let n := i.f 7 0
      let w := s.dev.rd (LOCK_LOCK n)
      (bitOf w 31 = false → Gives (.lkacq q) s fun d =>
        bitOf (d.rd (LOCK_LOCK n)) 31 = true ∧ fld (d.rd (LOCK_LOCK n)) 23 16 = 0x40 + q ∧
        fld (d.rd (LOCK_LOCK n)) 15 0 = (fld w 15 0 + 1) % 65536 ∧
        (d.seq q).locks = (s.dev.seq q).locks ++ [(n, (fld w 15 0 + 1) % 65536)] ∧ (d.seq q).lastBroken = bitOf w 30 ∧
        (d.seq q).fetched = none ∧ (d.seq q).lockWait = none ∧
        only [LOCK_LOCK n, SEQ_LOCKS_HELD q, SEQ_LOCKS_VALID q] d) ∧
      (bitOf w 31 = true → Gives (.lkacq q) s fun d =>
        (d.seq q).lockWait = some n ∧ (d.seq q).fetched = some i ∧ d.rd (LOCK_LOCK n) = w ∧ only [] d)) ∧
    (i.opcode = 0x09 → let n := i.f 7 0
      let w := s.dev.rd (LOCK_LOCK n)
      ∀ l, (s.dev.seq q).locks.find? (fun l => l.1 == n) = some l →
        Gives (.lkrel q) s fun d =>
          (d.seq q).locks = (s.dev.seq q).locks.filter (fun k => k.1 != n) ∧ (d.seq q).fetched = none ∧
          (bitOf w 31 = true → fld w 23 16 = 0x40 + q → fld w 15 0 = l.2 → s.dev.up = true →
            d.rd (LOCK_LOCK n) = setFld w 31 30 0 ∧ d.rd (SEQ_FLAGS q) = s.dev.rd (SEQ_FLAGS q)) ∧
          ((bitOf w 31 = false ∨ fld w 23 16 ≠ 0x40 + q) → d.rd (LOCK_LOCK n) = w ∧ bitOf (d.rd (SEQ_FLAGS q)) 4 = true) ∧
          RegsKeep ([LOCK_LOCK n, SEQ_LOCKS_HELD q, SEQ_LOCKS_VALID q, SEQ_FLAGS q] ++ errRegs .lock) s.dev d ∧ SeqsKeep q s.dev d) ∧
    (i.opcode = 0x0A → Gives (.brb q) s fun d =>
      (d.seq q).pc = (if (s.dev.seq q).lastBroken then i.f 12 0 else (s.dev.seq q).pc) ∧ (d.seq q).fetched = none ∧ only [SEQ_PC q] d) ∧
    (i.opcode = 0x0B → Gives (.hint q) s fun d =>
      d.pwr.hints = s.dev.pwr.hints.filter (·.src != q) ++ [{ src := q, level := i.f 3 0, span := i.f 19 4 }] ∧
      d.seq q = d0.seq q ∧ only ((List.range 12).map fun f => PWR_VSET f) d)) ∧
  (∀ (s : State) (q : Nat), q < 48 →
    let other := fun op => s.dev.meshRuns (q / 4) = false ∨ ∀ i, (s.dev.seq q).fetched = some i → i.opcode ≠ op
    (other 0 → Gives (.nop q) s (· = s.dev)) ∧ (other 1 → Gives (.endCommand q) s (· = s.dev)) ∧
    (other 2 → Gives (.jmp q) s (· = s.dev)) ∧ (other 3 → Gives (.loop q) s (· = s.dev)) ∧
    (other 4 → Gives (.lcset q) s (· = s.dev)) ∧ (other 5 → Gives (.atomBegin q) s (· = s.dev)) ∧
    (other 6 → Gives (.atomEnd q) s (· = s.dev)) ∧ (other 7 → Gives (.sync q) s (· = s.dev)) ∧
    (other 8 → Gives (.lkacq q) s (· = s.dev)) ∧ (other 9 → Gives (.lkrel q) s (· = s.dev)) ∧
    (other 10 → Gives (.brb q) s (· = s.dev)) ∧ (other 11 → Gives (.hint q) s (· = s.dev)))

/-- In a field whose mesh runs. SEQ_COMMAND_ENQUEUE: the oldest command on its way to the sequencer joins its queue
while that holds fewer than 16, else it waits; a sequencer in RESET keeps none (log entry 112). SEQ_COMMAND_START of
an IDLE sequencer without command in progress, with fewer than 4 in flight, no bank swap pending or scheduled, not
fenced, and no break that applies: the head of the queue is the command in progress, CMD_COUNT rises by one modulo
2^48, CUR_CMD shows its eight words, PC is its entry and the state is RUN, when the entry lies inside the active bank;
when a break applies, the sequencer is HALTED before the command, with cause 2 and FLAGS[2], and the queue is as it
was. SEQ_COMMAND_COMPLETE of the oldest command in flight, once it has ended, its tiles and the tree hold nothing of
it and no fault of it is open: it leaves the commands in flight and the stream manager's beat no longer waits for this
sequencer. Otherwise, and while the mesh is gated, nothing changes. (06_sequencers_isa.md R225, 06_sequencers_isa.md
R226, 06_sequencers_isa.md R227, 06_sequencers_isa.md R229, 06_sequencers_isa.md R255) -/
def Obligations.SequencerCommands : Prop :=
  (∀ (s : State) (q : Nat) (c : Cmd) (rest : List (Nat × Cmd)), q < 48 → takeFirst (fun e => e.1 == q) s.dev.fab.cmds = some ((q, c), rest) →
    s.dev.meshRuns (q / 4) = true →
    (s.dev.seqSt q ≠ 0 → (s.dev.seq q).queue.length < 16 → Gives (.seqCommandEnqueue q) s fun d =>
      (d.seq q).queue = (s.dev.seq q).queue ++ [c] ∧ d.fab = { s.dev.fab with cmds := rest } ∧ SeqsKeep q s.dev d ∧
      d = { s.dev with fab := d.fab, seqs := d.seqs }) ∧
    (s.dev.seqSt q = 0 → Gives (.seqCommandEnqueue q) s fun d => d = { s.dev with fab := { s.dev.fab with cmds := rest } }) ∧
    (s.dev.seqSt q ≠ 0 → 16 ≤ (s.dev.seq q).queue.length → Gives (.seqCommandEnqueue q) s fun d => d = s.dev)) ∧
  (∀ (s : State) (q : Nat) (c : Cmd) (rest : List Cmd), q < 48 → s.dev.strm.swaps = [] → (s.dev.seq q).queue = c :: rest →
    s.dev.seqSt q = 1 → (s.dev.seq q).cur = none → (s.dev.seq q).inflight.length < 4 → swapPending s.dev q = false →
    s.dev.isFenced (.seq q) = false → s.dev.meshRuns (q / 4) = true →
    ((breakApplies s.dev q c = false ∨ (s.dev.seq q).breakPassed = some c) → c.entry < bankLen s.dev q (activeBank s.dev q) →
      Gives (.seqCommandStart q) s fun d =>
        (∃ k : Cmd, k.words = c.words ∧ k.seq = q ∧ k.serial = (s.dev.seq q).started + 1 ∧ (d.seq q).cur = some k ∧
          (d.seq q).inflight = (s.dev.seq q).inflight ++ [k]) ∧
        (d.seq q).queue = rest ∧ (d.seq q).pc = c.entry ∧ (d.seq q).breakPassed = none ∧ d.seqSt q = 2 ∧
        d.rd64 (SEQ_CMD_COUNT_LO q) = (s.dev.rd64 (SEQ_CMD_COUNT_LO q) + 1) % 2 ^ 48 ∧
        (∀ i, i < 8 → d.rd (SEQ_CUR_CMD q i) = c.word i) ∧ SeqsKeep q s.dev d ∧
        RegsKeep ([SEQ_CMD_COUNT_LO q, SEQ_CMD_COUNT_LO q + 4, SEQ_PC q, SEQ_SEQ_STATE q] ++ (List.range 8).map fun i => SEQ_CUR_CMD q i) s.dev d) ∧
    (breakApplies s.dev q c = true → (s.dev.seq q).breakPassed ≠ some c →
      Gives (.seqCommandStart q) s fun d =>
        d.seqSt q = 4 ∧ d.rdF (SEQ_SEQ_STATE q) 7 4 = 2 ∧ bitOf (d.rd (SEQ_FLAGS q)) 2 = true ∧ dbgIs d DBG_HALTED_LO q = true ∧
        (d.seq q).queue = c :: rest ∧ (d.seq q).cur = none ∧ (d.seq q).resumeTo = 1 ∧ (d.seq q).breakPassed = some c ∧ SeqsKeep q s.dev d)) ∧
  (∀ (s : State) (q : Nat), q < 48 → s.dev.strm.swaps = [] →
    ((s.dev.seq q).queue = [] ∨ s.dev.seqSt q ≠ 1 ∨ (s.dev.seq q).cur.isSome = true ∨ 4 ≤ (s.dev.seq q).inflight.length ∨
      swapPending s.dev q = true ∨ s.dev.isFenced (.seq q) = true ∨ s.dev.meshRuns (q / 4) = false) →
    Gives (.seqCommandStart q) s fun d => d = s.dev) ∧
  (∀ (s : State) (q : Nat) (c : Cmd) (rest : List Cmd), q < 48 → (s.dev.seq q).inflight = c :: rest →
    (∀ k, (s.dev.seq q).cur = some k → k.same c = false) → (∀ f, (s.dev.seq q).fault = some f → f.cmd.sameBeat c = false) →
    (s.dev.fab.reports.any fun r => r.1 == q && r.2.2.2.2.same c) = false → cmdHeld s.dev q (fun k => k.same c) = false → s.dev.meshRuns (q / 4) = true →
    Gives (.seqCommandComplete q) s fun d =>
      (d.seq q).inflight = rest ∧ (d.seq q).queue = (s.dev.seq q).queue ∧ SeqsKeep q s.dev d ∧
      (∀ b ∈ d.strm.beats, b.stream = c.stream → b.tag = c.tag → q ∉ b.left) ∧ d.strm.beats.length = s.dev.strm.beats.length ∧
      RegsKeep [] s.dev d)

/-- In a field whose mesh runs. SEQ_ISSUE of a RUN sequencer that is not fenced, with a command in progress and no
fault open, nothing fetched and no wait. An entry of a CTI bank that lies inside it, is readable and has no fault
goes, for an opcode below 0x10, to the sequencer, and otherwise, with no HOLD, onto the broadcast tree; PC rises by
one; with HOLD present the sequencer stays. An entry at or past the end of the bank faults with END_OF_BANK (5), an
uncorrectable one with 6, and one that the checks of R258 refuse with their cause: the state is ABORTING, nothing is
issued, and the commands of that beat leave the queue. A corrected error counts in IMEM_CE_COUNT. TILE_FAULT_REPORT of
a tile for a command in flight, with no fault open, opens the fault with the tile's logical ID and count 1 (a fenced
tile counts none) and the state is ABORTING, unless the sequencer is halting or halted; with a fault of the same beat
open it adds to the count; a report of another beat waits for the end of ABORTING. SEQ_ABORT_END, once tiles and tree
hold nothing of the beat, closes the fault: commands of that beat are in flight no more, locks it held are broken,
IN_ATOM is 0 unless the command of another beat is in progress, FLAGS.FAULT is 1 and one record names the cause;
without a break on faults and with no halt pending or deferred the sequencer is IDLE, or RUN with another command in
progress; a halt that was deferred takes effect, once no region is held. An uncorrectable entry of a bank is noted; of
a bank loaded since the last one it fails the field with cause 8 (what counts as a recurrence is the model's choice,
log entry 132). (06_sequencers_isa.md R216, 06_sequencers_isa.md R217, 06_sequencers_isa.md R227, 06_sequencers_isa.md
R230, 06_sequencers_isa.md R250, 06_sequencers_isa.md R258, 06_sequencers_isa.md R259, 06_sequencers_isa.md R260,
06_sequencers_isa.md R261, 06_sequencers_isa.md R262, 13_faults_recovery.md R512) -/
def Obligations.IssueAndFaults : Prop :=
  (∀ (s : State) (q ecc : Nat) (c : Cmd), q < 48 → (s.dev.seq q).cur = some c → s.dev.seqSt q = 2 → (s.dev.seq q).fetched = none →
    (s.dev.seq q).syncWait = false → (s.dev.seq q).lockWait = none → s.dev.isFenced (.seq q) = false →
    s.dev.meshRuns (q / 4) = true → (s.dev.seq q).fault = none →
    let bank := activeBank s.dev q
    let pc := (s.dev.seq q).pc
    let i : Instruct := { cmd := c, entry := pc, bits := imemEntry (s.dev.seq q) bank false pc, dcw := false }
    let aborts : Nat → Dev → Prop := fun cause d =>
      d.seqSt q = 5 ∧ (d.seq q).fault = some { cause, entry := pc, bank, cmd := c } ∧ (d.seq q).tree = (s.dev.seq q).tree ∧
      (d.seq q).cur = none ∧ (d.seq q).queue = (s.dev.seq q).queue.filter (fun k => !k.sameBeat c) ∧ SeqsKeep q s.dev d
    (bankLen s.dev q bank ≤ pc → Gives (.seqIssue q ecc) s fun d => aborts 5 d ∧ RegsKeep [SEQ_SEQ_STATE q] s.dev d) ∧
    (pc < bankLen s.dev q bank → ecc = 2 → Gives (.seqIssue q ecc) s fun d => aborts 6 d ∧ RegsKeep [SEQ_SEQ_STATE q] s.dev d) ∧
    (pc < bankLen s.dev q bank → ecc ≠ 2 → seqDcw s.dev q = false →
      (∀ k, k ≠ 0 → ctiCause s.dev q i = k → Gives (.seqIssue q ecc) s fun d => aborts k d) ∧
      (ctiCause s.dev q i = 0 → i.opcode < 0x10 → Gives (.seqIssue q ecc) s fun d =>
        (d.seq q).fetched = some i ∧ (d.seq q).pc = pc + 1 ∧ (d.seq q).tree = (s.dev.seq q).tree ∧ SeqsKeep q s.dev d ∧
        d.rd (FIELD_IMEM_CE_COUNT (q / 4)) = (if ecc = 1 then satAdd (s.dev.rd (FIELD_IMEM_CE_COUNT (q / 4))) 1 else s.dev.rd (FIELD_IMEM_CE_COUNT (q / 4))) ∧
        OnlyRegs [FIELD_IMEM_CE_COUNT (q / 4), SEQ_PC q] { s.dev with seqs := d.seqs } d) ∧
      (ctiCause s.dev q i = 0 → 0x10 ≤ i.opcode → held s.dev q = false → Gives (.seqIssue q ecc) s fun d =>
        (d.seq q).fetched = none ∧ (d.seq q).pc = pc + 1 ∧ (d.seq q).tree = (s.dev.seq q).tree ++ [i] ∧ SeqsKeep q s.dev d ∧
        OnlyRegs [FIELD_IMEM_CE_COUNT (q / 4), SEQ_PC q] { s.dev with seqs := d.seqs } d) ∧
      (ctiCause s.dev q i = 0 → 0x10 ≤ i.opcode → held s.dev q = true → Gives (.seqIssue q ecc) s fun d =>
        d.seq q = s.dev.seq q ∧ OnlyRegs [FIELD_IMEM_CE_COUNT (q / 4)] s.dev d))) ∧
  (∀ (s : State) (q site cause entry : Nat) (c : Cmd) (rest : List (Nat × Nat × Nat × Nat × Cmd)), q < 48 →
    takeFirst (fun r => r.1 == q) s.dev.fab.reports = some ((q, site, cause, entry, c), rest) →
    (s.dev.seq q).fault = none → ((s.dev.seq q).inflight.any fun k => k.same c) = true → s.dev.meshRuns (q / 4) = true →
    Gives (.tileFaultReport q) s fun d =>
      d.seqSt q = (if s.dev.seqSt q = 3 ∨ s.dev.seqSt q = 4 then s.dev.seqSt q else 5) ∧
      d.fab = { s.dev.fab with reports := rest } ∧ SeqsKeep q s.dev d ∧
      (d.seq q).fault = some { cause, entry, bank := activeBank s.dev q, cmd := c
                               tile := if cause = 0x15 then 0 else s.dev.siteLogical site, tiles := if cause = 0x15 then 0 else 1 } ∧
      RegsKeep [SEQ_SEQ_STATE q] s.dev d) ∧
  (∀ (s : State) (q : Nat) (f : SeqFault), q < 48 → (s.dev.seq q).fault = some f → s.dev.meshRuns (q / 4) = true →
    let mine := fun (r : Nat × Nat × Nat × Nat × Cmd) => r.1 == q && f.cmd.sameBeat r.2.2.2.2
    (takeFirst mine s.dev.fab.reports = none → Gives (.tileFaultReport q) s fun d => d = s.dev) ∧
    (∀ r rest, takeFirst mine s.dev.fab.reports = some (r, rest) → r.2.2.1 ≠ 0x15 → f.tiles ≠ 0 → Gives (.tileFaultReport q) s fun d =>
      (d.seq q).fault = some { f with tiles := f.tiles + 1 } ∧ d.fab = { s.dev.fab with reports := rest } ∧ SeqsKeep q s.dev d ∧
      d = { s.dev with fab := d.fab, seqs := d.seqs })) ∧
  (∀ (s : State) (q : Nat) (f : SeqFault), q < 48 → s.dev.strm.swaps = [] → (s.dev.seq q).fault = some f → s.dev.seqSt q = 5 →
    cmdHeld s.dev q (fun c => c.sameBeat f.cmd) = false → (s.dev.seq q).stopped = false → bitOf (s.dev.rd (SEQ_BRK_CTRL q)) 2 = false →
    (s.dev.seq q).haltPend = 0 → s.dev.meshRuns (q / 4) = true →
    let recurs := f.cause = 6 ∧ kvGet? (s.dev.seq q).ue f.bank = some true
    (recurs → s.dev.flt.fieldFailed.contains (q / 4) = false → Gives (.seqAbortEnd q) s fun d =>
      q / 4 ∈ d.flt.fieldFailed ∧ d.rdF (FIELD_HEALTH (q / 4)) 15 8 = 8) ∧
    let atom := (s.dev.seq q).cur.isSome && s.dev.inAtom q
    (¬recurs → Gives (.seqAbortEnd q) s fun d =>
      (f.cause = 6 → kvGet? (d.seq q).ue f.bank = some false) ∧ (f.cause ≠ 6 → (d.seq q).ue = (s.dev.seq q).ue) ∧
      (d.seq q).fault = none ∧ (d.seq q).locks = [] ∧ d.inAtom q = atom ∧
      (d.seq q).inflight = (s.dev.seq q).inflight.filter (fun c => !c.sameBeat f.cmd) ∧
      ((dbgIs s.dev DBG_DEFER_LO q = false ∨ atom = true) → d.seqSt q = (if (s.dev.seq q).cur.isSome then 2 else 1)) ∧
      (dbgIs s.dev DBG_DEFER_LO q = true → atom = false → d.seqSt q = 3 ∧ d.rdF (SEQ_SEQ_STATE q) 7 4 = 1 ∧
        dbgIs d DBG_DEFER_LO q = false ∧ (d.seq q).resumeTo = if (s.dev.seq q).cur.isSome then 2 else 1) ∧ bitOf (d.rd (SEQ_FLAGS q)) 0 = true ∧
      (bitOf (s.dev.rd (SEQ_FLAGS q)) 0 = false → fld (d.rd (SEQ_FAULT_INFO q)) 7 0 = f.cause % 256) ∧
      (∃ r : ErrRec, r.cls = 9 ∧ r.kind = 9 ∧ r.unit = q ∧ r.tag = f.cmd.tag ∧ r.stream = f.cmd.stream ∧ r.withheld = true ∧
        d.flt.pendingRecords = s.dev.flt.pendingRecords ++ [r]) ∧
      (∀ n, n < 256 → bitOf (s.dev.rd (LOCK_LOCK n)) 31 = true → fld (s.dev.rd (LOCK_LOCK n)) 23 16 = 0x40 + q →
        bitOf (d.rd (LOCK_LOCK n)) 31 = false ∧ bitOf (d.rd (LOCK_LOCK n)) 30 = true) ∧ SeqsKeep q s.dev d))

/-- HALT_REQUEST by an unlocked debug session of sequencers in a device that is up: the sequencer's HALT_REQ bit is
set and its RESUME bit is not (that a request of one kind takes the other's bit away is the model's choice, log entry
107); an IDLE sequencer, or a RUN one that holds no lock and is in no atomic section, is HALTING; a RUN one that holds
a lock or is in an atomic section has its halt deferred, shown in DEFER; others keep their state. The effects below
are those in a field whose mesh runs. SEQ_HALTED of a HALTING sequencer whose tiles have completed what was broadcast
to them and which holds nothing issued makes it HALTED and shows it. DEFERRED_HALT, with locks released and the
section left, makes it HALTING. FORCED_HALT of a deferred one breaks its locks, leaves the section, sets FLAGS[3] (and
FLAGS[1] if it was in a section), writes one record and makes it HALTING with cause 4. RESUME_REQUEST of a HALTED
sequencer without a forced halt makes it ABORTING where a fault of it is open, RUN with a command in progress, else
IDLE, and it is shown halted no more. SYNC_RESUME ends the wait once tree and tiles are idle. LOCK_RETRY of a lock
that has become free acquires it. LOCK_TIMEOUT of a waiting LKACQ faults the command with cause 8. Each leaves every
other sequencer alone. (02_control_model.md R84, 02_control_model.md R85, 02_control_model.md R86, 02_control_model.md
R87, 06_sequencers_isa.md R230, 06_sequencers_isa.md R240, 06_sequencers_isa.md R252) -/
def Obligations.HaltsAndWaits : Prop :=
  (∀ (s : State) (q : Nat), q < 48 → s.dev.unlocked = true → s.dev.up = true →
    let hi := decide (32 ≤ q)
    let data := BitVec.ofNat 32 (2 ^ (q % 32))
    let asked := [DBG_HALT_REQ_LO + 4 * (q / 32), DBG_RESUME_LO + 4 * (q / 32)]
    (s.dev.seqSt q = 1 ∨ (s.dev.seqSt q = 2 ∧ (s.dev.seq q).locks = [] ∧ s.dev.inAtom q = false) →
      Gives (.haltRequest agentDebug hi data) s fun d =>
        d.seqSt q = 3 ∧ d.rdF (SEQ_SEQ_STATE q) 7 4 = 1 ∧ (d.seq q).resumeTo = s.dev.seqSt q ∧ SeqsKeep q s.dev d ∧
        dbgIs d DBG_HALT_REQ_LO q = true ∧ dbgIs d DBG_RESUME_LO q = false ∧ RegsKeep (SEQ_SEQ_STATE q :: asked) s.dev d) ∧
    (s.dev.seqSt q = 2 → ((s.dev.seq q).locks ≠ [] ∨ s.dev.inAtom q = true) →
      Gives (.haltRequest agentDebug hi data) s fun d =>
        dbgIs d DBG_DEFER_LO q = true ∧ d.seqSt q = 2 ∧ d.seqs = s.dev.seqs ∧ kvGet? d.ctl.deferTick q = some s.dev.time.tb ∧
        RegsKeep ((DBG_DEFER_LO + 4 * (q / 32)) :: asked) s.dev d) ∧
    (s.dev.seqSt q = 0 ∨ s.dev.seqSt q = 3 ∨ s.dev.seqSt q = 4 → Gives (.haltRequest agentDebug hi data) s fun d => OnlyRegs asked s.dev d) ∧
    (s.dev.seqSt q = 4 → s.dev.rdF (SEQ_SEQ_STATE q) 7 4 ≠ 4 →
      Gives (.resumeRequest agentDebug hi data) s fun d =>
        d.seqSt q = (if (s.dev.seq q).fault.isSome then 5 else if (s.dev.seq q).cur.isSome then 2 else 1) ∧
        dbgIs d DBG_HALTED_LO q = false ∧ dbgIs d DBG_RESUME_LO q = true ∧ dbgIs d DBG_HALT_REQ_LO q = false ∧ SeqsKeep q s.dev d ∧
        RegsKeep ([SEQ_SEQ_STATE q, DBG_HALTED_LO + 4 * (q / 32)] ++ asked) s.dev d) ∧
    (s.dev.seqSt q ≠ 4 → Gives (.resumeRequest agentDebug hi data) s fun d => OnlyRegs asked s.dev d)) ∧
  (∀ (s : State) (q : Nat), q < 48 → s.dev.meshRuns (q / 4) = true →
    let idle := (s.dev.seq q).tree = [] ∧ (s.dev.seq q).dcwNow = none ∧ ∀ t ∈ subscribed s.dev q, (s.dev.tile t).idle = true
    (s.dev.seqSt q = 3 → (s.dev.seq q).tree = [] → (s.dev.seq q).dcwNow = none → (∀ t ∈ subscribed s.dev q, (s.dev.tile t).quiet = true) →
      (s.dev.seq q).fetched = none → (s.dev.seq q).lockWait = none →
      Gives (.seqHalted q) s fun d =>
        d.seqSt q = 4 ∧ d.rdF (SEQ_SEQ_STATE q) 7 4 = s.dev.rdF (SEQ_SEQ_STATE q) 7 4 ∧ dbgIs d DBG_HALTED_LO q = true ∧
        d.seqs = s.dev.seqs ∧ RegsKeep [SEQ_SEQ_STATE q, DBG_HALTED_LO + 4 * (q / 32)] s.dev d) ∧
    (s.dev.seqSt q ≠ 3 → Gives (.seqHalted q) s fun d => d = s.dev) ∧
    (dbgIs s.dev DBG_DEFER_LO q = true → (s.dev.seq q).locks = [] → s.dev.inAtom q = false → (s.dev.seqSt q = 1 ∨ s.dev.seqSt q = 2) →
      Gives (.deferredHalt q) s fun d =>
        d.seqSt q = 3 ∧ dbgIs d DBG_DEFER_LO q = false ∧ (d.seq q).resumeTo = s.dev.seqSt q ∧ SeqsKeep q s.dev d ∧
        RegsKeep [SEQ_SEQ_STATE q, DBG_DEFER_LO + 4 * (q / 32)] s.dev d) ∧
    (dbgIs s.dev DBG_DEFER_LO q = false → Gives (.deferredHalt q) s (· = s.dev) ∧ Gives (.forcedHalt q) s (· = s.dev)) ∧
    (dbgIs s.dev DBG_DEFER_LO q = true → s.dev.seqSt q = 2 →
      Gives (.forcedHalt q) s fun d =>
        d.seqSt q = 3 ∧ d.rdF (SEQ_SEQ_STATE q) 7 4 = 4 ∧ dbgIs d DBG_DEFER_LO q = false ∧ (d.seq q).locks = [] ∧ d.inAtom q = false ∧
        bitOf (d.rd (SEQ_FLAGS q)) 3 = true ∧ (s.dev.inAtom q = true → bitOf (d.rd (SEQ_FLAGS q)) 1 = true) ∧
        d.flt.pendingRecords.length = s.dev.flt.pendingRecords.length + 1 ∧
        (∀ n, n < 256 → bitOf (s.dev.rd (LOCK_LOCK n)) 31 = true → fld (s.dev.rd (LOCK_LOCK n)) 23 16 = 0x40 + q →
          bitOf (d.rd (LOCK_LOCK n)) 31 = false ∧ bitOf (d.rd (LOCK_LOCK n)) 30 = true) ∧ SeqsKeep q s.dev d) ∧
    ((s.dev.seq q).syncWait = true → idle → Gives (.syncResume q) s fun d => d = s.dev.modSeq q fun x => { x with syncWait := false }) ∧
    ((s.dev.seq q).syncWait = false → Gives (.syncResume q) s fun d => d = s.dev) ∧
    (∀ n, n < 256 → (s.dev.seq q).lockWait = some n → s.dev.seqSt q ≠ 5 →
      (bitOf (s.dev.rd (LOCK_LOCK n)) 31 = false → Gives (.lockRetry q) s fun d =>
        bitOf (d.rd (LOCK_LOCK n)) 31 = true ∧ fld (d.rd (LOCK_LOCK n)) 23 16 = 0x40 + q ∧ (d.seq q).lockWait = none ∧
        (d.seq q).fetched = none ∧ (d.seq q).locks.length = (s.dev.seq q).locks.length + 1 ∧ SeqsKeep q s.dev d ∧
        RegsKeep [LOCK_LOCK n, SEQ_LOCKS_HELD q, SEQ_LOCKS_VALID q] s.dev d) ∧
      (bitOf (s.dev.rd (LOCK_LOCK n)) 31 = true → Gives (.lockRetry q) s fun d =>
        d.seq q = s.dev.seq q ∧ SeqsKeep q s.dev d ∧ RegsKeep [] s.dev d) ∧
      (∀ i c, (s.dev.seq q).fetched = some i → (s.dev.seq q).cur = some c → (s.dev.seq q).fault = none →
        Gives (.lockTimeout q) s fun d =>
          d.seqSt q = (if s.dev.seqSt q = 3 ∨ s.dev.seqSt q = 4 then s.dev.seqSt q else 5) ∧ (d.seq q).fault = some { cause := 8, entry := i.entry, bank := activeBank s.dev q, cmd := c } ∧
          (d.seq q).lockWait = none ∧ SeqsKeep q s.dev d ∧ RegsKeep [SEQ_SEQ_STATE q] s.dev d)) ∧
    ((s.dev.seq q).lockWait = none → Gives (.lockRetry q) s (· = s.dev) ∧ Gives (.lockTimeout q) s (· = s.dev)))

/-- IMEM_ACCESS, a write of IMEM_DATA by an agent that may write the page of a sequencer that is neither fenced nor
before start-up, into the bank that is not active, with no copy into it and no swap pending, at an address inside the
bank: the word lies there and IMEM_ADDR moves to the next word of the entry, or the next entry; to the active bank it
is rejected with ACTIVE_BANK and no word changes. A read returns the word and moves on too. IMEM_DMA_GO with GO = 1
and legal operands starts a copy: the bank's length is 0 and BUSY is 1 until it ends. IMEM_DMA_DONE, the field's mesh
running, without an uncorrectable or poisoned line: the bank holds the entries of memory from the source address, its
configuration shows their number and mode, GO and BUSY are 0, and external memory is unchanged; with one, FLAGS[5] is
set, a record is written and no instruction word changes. BANK_SWAP_REQUEST of a loaded bank makes it the active one
at once between commands, and pending during a command; BANK_SWAP_PENDING_APPLY, the field's mesh running, makes a
pending one active once no command is in progress. A swap that changes the LEN or MODE in force starts the digest of
the page anew. (06_sequencers_isa.md R218, 06_sequencers_isa.md R220, 06_sequencers_isa.md R221, 06_sequencers_isa.md
R222, 06_sequencers_isa.md R223, 06_sequencers_isa.md R266, 06_sequencers_isa.md R267, 06_sequencers_isa.md R268) -/
def Obligations.InstructionBanks : Prop :=
  (∀ (s : State) (q agent : Nat) (w : Word), q < 48 → s.dev.mayWrite agent (.seq q) = true → s.dev.isFenced (.seq q) = false → s.dev.up = true →
    let b := imemBank s.dev q
    (copying s.dev q b = false → swapPending s.dev q = false → b ≠ activeBank s.dev q → imemRange s.dev q = false →
      Gives (.imemAccess q agent (some w)) s fun d =>
        kvGetD (d.seq q).imem 0 (imemIndex s.dev q) = w ∧
        (∀ k, k ≠ imemIndex s.dev q → kvGetD (d.seq q).imem 0 k = kvGetD (s.dev.seq q).imem 0 k) ∧
        d.rd (SEQ_IMEM_ADDR q) = (imemNext q s.dev).rd (SEQ_IMEM_ADDR q) ∧ SeqsKeep q s.dev d ∧
        RegsKeep [SEQ_IMEM_ADDR q] s.dev d ∧ d = { s.dev with regs := d.regs, seqs := d.seqs }) ∧
    (copying s.dev q b = false → swapPending s.dev q = false → b = activeBank s.dev q →
      Gives (.imemAccess q agent (some w)) s fun d => d = s.dev.reject (.seq q) 0x190 agent .activeBank) ∧
    (imemRange s.dev q = false →
      Gives (.imemAccess q agent none) s fun d =>
        d.resp = { kind := .ok, bytes := leBytes 4 (kvGetD (s.dev.seq q).imem 0 (imemIndex s.dev q)).toNat } ∧
        d.rd (SEQ_IMEM_ADDR q) = (imemNext q s.dev).rd (SEQ_IMEM_ADDR q) ∧ RegsKeep [SEQ_IMEM_ADDR q] s.dev d ∧
        d = { s.dev with regs := d.regs, resp := d.resp })) ∧
  (∀ (s : State) (q agent : Nat) (data : Word), q < 48 → s.dev.mayWrite agent (.seq q) = true → s.dev.isFenced (.seq q) = false → s.dev.up = true →
    let b := fld data 1 1
    let n := fld data 29 16
    let src := (s.dev.rd (SEQ_DMA_SRC_LO q)).toNat + 2 ^ 32 * s.dev.rdF (SEQ_DMA_SRC_HI q) 6 0
    bitOf data 0 = true → data.toNat &&& 0xC000FFF8 = 0 → (s.dev.seq q).copy = none → swapPending s.dev q = false →
    b ≠ activeBank s.dev q → n ≠ 0 → n ≤ (if bitOf data 2 then 1024 else 8192) → src % 64 = 0 →
    src + n * (if bitOf data 2 then 64 else 8) ≤ memCapacity →
    Gives (.imemDmaGo q agent data) s fun d =>
      (d.seq q).copy = some { bank := b, dcw := bitOf data 2, entries := n, src } ∧ (d.seq q).imem = (s.dev.seq q).imem ∧
      bankLen d q b = 0 ∧ bitOf (d.rd (seqBase q + 0xC)) 4 = true ∧ d.rd (SEQ_DMA_CTRL q) = data ∧ SeqsKeep q s.dev d ∧
      RegsKeep [SEQ_DMA_CTRL q, bankCfgA q b, seqBase q + 0xC] s.dev d) ∧
  (∀ (s : State) (q : Nat) (c : ImemCopy), q < 48 → (s.dev.seq q).copy = some c → s.dev.meshRuns (q / 4) = true →
    let n := c.entries * (if c.dcw then 16 else 2)
    let bad := (List.range ((4 * n + 63) / 64)).any fun k => s.mem.poisoned (c.src + 64 * k)
    (bad = false → c.entries < 2 ^ 14 → c.bank < 2 →
      Gives (.imemDmaDone q false) s fun d =>
        (d.seq q).copy = none ∧
        (∀ i, i < n → kvGetD (d.seq q).imem 0 (16384 * c.bank + i) = w32 (s.mem.readN (c.src + 4 * i) 4)) ∧
        (∀ k, (k < 16384 * c.bank ∨ 16384 * c.bank + n ≤ k) → kvGetD (d.seq q).imem 0 k = kvGetD (s.dev.seq q).imem 0 k) ∧
        bankLen d q c.bank = c.entries ∧ bankDcw d q c.bank = c.dcw ∧ bitOf (d.rd (SEQ_DMA_CTRL q)) 0 = false ∧
        bitOf (d.rd (seqBase q + 0xC)) 4 = false ∧ SeqsKeep q s.dev d ∧
        RegsKeep [SEQ_DMA_CTRL q, bankCfgA q c.bank, seqBase q + 0xC] s.dev d) ∧
    (∀ ue, (ue = true ∨ bad = true) →
      Gives (.imemDmaDone q ue) s fun d =>
        (d.seq q).copy = none ∧ (d.seq q).imem = (s.dev.seq q).imem ∧ bitOf (d.rd (SEQ_FLAGS q)) 5 = true ∧
        d.flt.pendingRecords.length = s.dev.flt.pendingRecords.length + 1 ∧ SeqsKeep q s.dev d)) ∧
  (∀ (s : State) (q agent : Nat) (data : Word), q < 48 → s.dev.mayWrite agent (.seq q) = true → s.dev.isFenced (.seq q) = false → s.dev.up = true →
    let b := 1 - activeBank s.dev q
    bitOf data 1 = true → fld data 31 3 = 0 → swapPending s.dev q = false → firstFail (swapChecks s.dev q) = none →
    ((s.dev.seq q).cur = none → Gives (.bankSwapRequest q agent data) s fun d =>
      ((bankLen s.dev q b ≠ bankLen s.dev q (1 - b) ∨ bankDcw s.dev q b ≠ bankDcw s.dev q (1 - b)) → seqBase q ∈ d.digestBusy) ∧
      activeBank d q = b ∧ swapPending d q = false ∧ (d.seq q).imem = (s.dev.seq q).imem ∧ SeqsKeep q s.dev d ∧
      RegsKeep [SEQ_BANK_CTRL q, SEQ_PC q] s.dev d) ∧
    ((s.dev.seq q).cur.isSome = true → Gives (.bankSwapRequest q agent data) s fun d =>
      swapPending d q = true ∧ activeBank d q = activeBank s.dev q ∧ OnlyRegs [SEQ_BANK_CTRL q] s.dev d)) ∧
  (∀ (s : State) (q : Nat), q < 48 → s.dev.strm.swaps = [] → s.dev.meshRuns (q / 4) = true →
    (swapPending s.dev q = true → (s.dev.seq q).cur = none → Gives (.bankSwapPendingApply q) s fun d =>
      activeBank d q = 1 - activeBank s.dev q ∧ swapPending d q = false ∧ SeqsKeep q s.dev d ∧ RegsKeep [SEQ_BANK_CTRL q, SEQ_PC q] s.dev d) ∧
    (swapPending s.dev q = false → Gives (.bankSwapPendingApply q) s fun d => d = s.dev))

/-- BROADCAST_ARRIVAL takes the oldest instruction off a sequencer's tree: it ends the input buffer of every
subscribed tile that has not faulted its command, or, a DCW word, it takes effect in the tiles once the one before has
gone. HOLD_SIGNAL: the sequencer holds a tile as waiting exactly when eight or more instructions are in its buffer.
TILE_DISPATCH of the oldest buffered instruction: with no dispatch fault, room in its engine's queue and no AGSET
pending on a generator that it names, it ends that queue with its generators' addresses and the next place in the
order, the named step applied; with a fault it and the buffered instructions of its command go and a report is sent;
without room nothing changes. ENGINE_START of the head of an idle engine's queue, with its tokens, its slot and its
resources ready and no fault: it is in progress, its classes are popped, a slot of its signal class is reserved; an
instruction that its guard or its input turns off has no work. With a fault it leaves the queue and a report is sent;
without a token or a slot it waits. ENGINE_COMPLETE of finished work frees the engine and puts the descriptor in the
reserved slot; poison withholds the commit. TOKEN_TIMEOUT of a waiting head stops the engine, sets FLAGS[4] and
reports cause 0x14. SR_SEED_WRITE at an idle tile makes the pair the seed of both engines' next instruction; at a busy
one it is rejected with STATE. (03_tile.md R111, 03_tile.md R112, 03_tile.md R115, 03_tile.md R116, 03_tile.md R118,
03_tile.md R120, 05_number_formats.md R206, 06_sequencers_isa.md R216, 06_sequencers_isa.md R217, 06_sequencers_isa.md
R235, 06_sequencers_isa.md R258, 06_sequencers_isa.md R261) -/
def Obligations.TilePipeline : Prop :=
  (∀ (s : State) (q : Nat), q < 48 → s.dev.meshRuns (q / 4) = true →
    ((s.dev.seq q).tree = [] → Gives (.broadcastArrival q) s (· = s.dev)) ∧
    (∀ i rest, (s.dev.seq q).tree = i :: rest → i.dcw = false → (subscribed s.dev q).Nodup →
      ((∃ t ∈ subscribed s.dev q, 32 ≤ (s.dev.tile t).input.length) → Gives (.broadcastArrival q) s (· = s.dev)) ∧
      ((∀ t ∈ subscribed s.dev q, (s.dev.tile t).input.length < 32) → Gives (.broadcastArrival q) s fun d =>
        d.seq q = { s.dev.seq q with tree := rest } ∧ SeqsKeep q s.dev d ∧ d = { s.dev with tiles := d.tiles, seqs := d.seqs } ∧
        ∀ t, d.tile t = if t ∈ subscribed s.dev q ∧ (s.dev.tile t).faulted.contains i.cmd.serial = false
          then { s.dev.tile t with input := (s.dev.tile t).input ++ [i] } else s.dev.tile t)) ∧
    (∀ i rest, (s.dev.seq q).tree = i :: rest → i.dcw = true →
      ((s.dev.seq q).dcwNow = none → Gives (.broadcastArrival q) s fun d =>
        d.seq q = { s.dev.seq q with tree := rest, dcwNow := some i } ∧ SeqsKeep q s.dev d ∧ d = { s.dev with seqs := d.seqs }) ∧
      ((s.dev.seq q).dcwNow.isSome = true → Gives (.broadcastArrival q) s (· = s.dev)))) ∧
  (∀ (s : State) (site : Nat), Clocked s.dev site →
    (s.dev.tileSeq site = none → Gives (.holdSignal site) s (· = s.dev)) ∧
    (∀ q, s.dev.tileSeq site = some q → Gives (.holdSignal site) s fun d =>
      (site ∈ (d.seq q).hold ↔ 8 ≤ (s.dev.tile site).input.length) ∧ (∀ x, x ≠ site → (x ∈ (d.seq q).hold ↔ x ∈ (s.dev.seq q).hold)) ∧
      d.seq q = { s.dev.seq q with hold := (d.seq q).hold } ∧ SeqsKeep q s.dev d ∧ d = { s.dev with seqs := d.seqs })) ∧
  (∀ (s : State) (site : Nat) (i : Instruct) (rest : List Instruct), Clocked s.dev site → (s.dev.tile site).input = i :: rest →
    let e := engineOf i.opcode
    let t := s.dev.tile site
    let waits := s.dev.tileFenced site = true ∨ queueDepth e ≤ (t.engine e).queue.length ∨ agHeld t i = true
    (waits → Gives (.tileDispatch site) s (· = s.dev)) ∧
    (¬waits → dispatchCause s.dev site i = 0 → Gives (.tileDispatch site) s fun d =>
      let u := d.tile site
      u.input = rest ∧ u.nextOrd = t.nextOrd + 1 ∧
      u.engine e = { t.engine e with queue := (t.engine e).queue ++ [{ ins := i, ags := (genOps i).map fun g => (t.ag g.1).addr, ord := t.nextOrd }] } ∧
      (∀ x, x ≠ e → u.engine x = t.engine x) ∧
      (∀ g, (g, true) ∉ genOps i → ¬(i.opcode = 0x17 ∧ g = i.f 31 28) → u.ag g = t.ag g) ∧
      (∀ g, (genOps i).count (g, true) = 1 → u.ag g = (t.ag g).step) ∧
      (i.opcode = 0x17 → u.ag (i.f 31 28) = (t.ag (i.f 31 28)).setField (i.f 26 24) (i.f 21 0)) ∧
      u = { t with input := u.input, nextOrd := u.nextOrd, eng := u.eng, ags := u.ags } ∧
      d = { s.dev with tiles := d.tiles } ∧ TilesKeep site s.dev d) ∧
    (∀ k, ¬waits → k ≠ 0 → dispatchCause s.dev site i = k → Gives (.tileDispatch site) s fun d =>
      (d.tile site).input = rest.filter (fun j => !j.cmd.same i.cmd) ∧ i.cmd.serial ∈ (d.tile site).faulted ∧
      d.fab = { s.dev.fab with reports := s.dev.fab.reports ++ [(i.cmd.seq, site, k, i.entry, i.cmd)] } ∧
      d = { s.dev with tiles := d.tiles, fab := d.fab } ∧ TilesKeep site s.dev d)) ∧
  (∀ (s : State) (site e : Nat) (q : Queued) (rest : List Queued), Clocked s.dev site → e < 5 →
    let t := s.dev.tile site
    let i := q.ins
    let ps := popHeads s.dev site i
    let off := guardOff i (guardOf t i) || (supply i ps).any (·.predOff)
    (t.engine e).run = none → (t.engine e).queue = q :: rest → (t.engine e).stopped = false → s.dev.tileFenced site = false →
    (tokensReady s.dev site i = false → Gives (.engineStart site e []) s (· = s.dev)) ∧
    (tokensReady s.dev site i = true → off = false → resourcesReady s.dev site i = false → Gives (.engineStart site e []) s (· = s.dev)) ∧
    (tokensReady s.dev site i = true → (off = true ∨ resourcesReady s.dev site i = true) →
      (startCause s.dev site i off ps = 0 → Gives (.engineStart site e []) s fun d =>
        let u := d.tile site
        (u.engine e).queue = rest ∧ (∃ r, (u.engine e).run = some r ∧ r.q = q ∧ r.popped = ps ∧ r.off = off ∧ r.finished = off ∧ r.left = 0 ∧
          r.scalars = t.scalars ∧ r.vectors = t.vectors ∧ r.preds = t.preds ∧ r.guard = guardOf t i) ∧
        (∀ x, x ≠ e → u.engine x = t.engine x) ∧
        (∀ c, kvGetD u.tok [] c = if c ∈ i.waits ∧ tokMode s.dev site c = 1 then (kvGetD t.tok [] c).tail else kvGetD t.tok [] c) ∧
        (∀ c, kvGetD u.rsvd 0 c = kvGetD t.rsvd 0 c + if c = i.sig ∧ tokMode s.dev site c = 1 then 1 else 0) ∧
        u = { t with eng := u.eng, tok := u.tok, rsvd := u.rsvd, mxNew := u.mxNew, mxSeed := u.mxSeed, mxDraw := u.mxDraw,
                     vxNew := u.vxNew, vxSeed := u.vxSeed, vxDraw := u.vxDraw } ∧
        d = { s.dev with tiles := d.tiles } ∧ TilesKeep site s.dev d) ∧
      (∀ k, k ≠ 0 → startCause s.dev site i off ps = k → Gives (.engineStart site e []) s fun d =>
        ((d.tile site).engine e).run = none ∧ ((d.tile site).engine e).queue = rest.filter (fun x => !(x.ins.cmd.same i.cmd && decide (q.ord ≤ x.ord))) ∧
        d.fab = { s.dev.fab with reports := s.dev.fab.reports ++ [(i.cmd.seq, site, k, i.entry, i.cmd)] } ∧
        d = { s.dev with tiles := d.tiles, fab := d.fab } ∧ TilesKeep site s.dev d))) ∧
  (∀ (s : State) (site e : Nat), Clocked s.dev site → e < 5 →
    let t := s.dev.tile site
    ((∀ r, (t.engine e).run = some r → r.finished = false) → Gives (.engineComplete site e) s (· = s.dev)) ∧
    (∀ r, (t.engine e).run = some r → r.finished = true → Gives (.engineComplete site e) s fun d =>
      let u := d.tile site
      u.engine e = { t.engine e with run := none } ∧ (∀ x, x ≠ e → u.engine x = t.engine x) ∧
      (∀ c, kvGetD u.tok [] c = if c = r.q.ins.sig ∧ r.rsv = true then kvGetD t.tok [] c ++ [r.out] else kvGetD t.tok [] c) ∧
      (∀ c, kvGetD u.rsvd 0 c = kvGetD t.rsvd 0 c - if c = r.q.ins.sig ∧ r.rsv = true then 1 else 0) ∧
      (∀ k, kvGetD d.pwr.activity 0 k = kvGetD s.dev.pwr.activity 0 k + if e ≠ 0 ∧ k = 8 * siteField site + (e - 1) then 1 else 0) ∧
      d.flt.failReports = s.dev.flt.failReports ++ (if r.out.poison then [(r.q.ins.cmd.stream, r.q.ins.cmd.tag)] else []) ∧
      u = { t with eng := u.eng, tok := u.tok, rsvd := u.rsvd } ∧
      d = { s.dev with
        tiles := d.tiles, flt := { s.dev.flt with failReports := d.flt.failReports }, pwr := { s.dev.pwr with activity := d.pwr.activity } } ∧ TilesKeep site s.dev d) ∧
    (∀ q rest, (t.engine e).run = none → (t.engine e).queue = q :: rest → (t.engine e).stopped = false →
      Gives (.tokenTimeout site e) s fun d =>
        EngineStopped site e 4 d ∧
        d.fab.reports = s.dev.fab.reports ++ [(q.ins.cmd.seq, site, 0x14, q.ins.entry, q.ins.cmd)] ∧
        d.flt.pendingRecords.length = s.dev.flt.pendingRecords.length + 1 ∧ RegsKeep [TILE_FLAGS site] s.dev d ∧ TilesKeep site s.dev d)) ∧
  (∀ (s : State) (site agent : Nat) (data : Word), site < 13824 → s.dev.mayWrite agent (.tile site) = true →
    s.dev.isFenced (.tile site) = false → s.dev.up = true →
    ((s.dev.tile site).idle = true → Gives (.srSeedWrite site agent data) s fun d =>
      d.rd (TILE_SR_SEED_HI site) = data ∧
      d.tile site = { s.dev.tile site with seed := (s.dev.rd (TILE_SR_SEED_LO site)).toNat + 2 ^ 32 * data.toNat, mxNew := true, vxNew := true } ∧
      RegsKeep [TILE_SR_SEED_HI site] s.dev d ∧ d = { s.dev with regs := d.regs, tiles := d.tiles } ∧ TilesKeep site s.dev d) ∧
    ((s.dev.tile site).idle = false → Gives (.srSeedWrite site agent data) s fun d => d = s.dev.reject (.tile site) 0x134 agent .state))

/-- Each command does the work of the instruction in progress in CTL of a tile that is not fenced, which then is
finished. SLI writes the sign-extended immediate to its scalar, SLIH replaces bits 63 to 42, SALU writes the 64-bit
function of two scalars, SADDI the sum with a sign-extended immediate, SYS the value that it names; s[0] and the
arguments are not written. PCMP makes all lanes of a predicate the truth of a comparison and PLOG combines two
predicates lane by lane; p[0] is not written. AGSETI has set its field at dispatch; AGSET sets a generator's field to
a scalar's low bits. TCFG writes a class's configuration and empties the class, or refills it with null descriptors.
GRANT adds chunks to those granted, moves NEXT_GRANT on round the ring and sends the window's geometry and the credits
to the neighbour; without a neighbour it aborts. RELEASE frees that many of the occupied slots; one slot moves HEAD on
and returns a credit to its sender. Nothing else in the tile, and no other tile, changes. (06_sequencers_isa.md R228,
06_sequencers_isa.md R232, 06_sequencers_isa.md R234, 06_sequencers_isa.md R235, 06_sequencers_isa.md R240, 03_tile.md
R113, 03_tile.md R127, 03_tile.md R135) -/
def Obligations.ControlEngine : Prop :=
  (∀ (s : State) (site : Nat) (r : Running),
    let i := r.q.ins
    let x := fun hi lo => scalar (r.sees (s.dev.tile site)) i.cmd (i.f hi lo)
    let imm := if i.f 21 0 < 2 ^ 21 then i.f 21 0 else i.f 21 0 + (2 ^ 64 - 2 ^ 22)
    (Works s.dev site 0 0x10 r → Gives (.sli site) s (SetsScalar s.dev site r (i.f 31 27) imm)) ∧
    (Works s.dev site 0 0x11 r → Gives (.slih site) s (SetsScalar s.dev site r (i.f 31 27) (x 31 27 % 2 ^ 42 + 2 ^ 42 * i.f 21 0))) ∧
    (Works s.dev site 0 0x12 r → Gives (.salu site) s (SetsScalar s.dev site r (i.f 31 27) (salu (i.f 3 0) (x 26 22) (x 21 17) % 2 ^ 64))) ∧
    (Works s.dev site 0 0x13 r → Gives (.saddi site) s (SetsScalar s.dev site r (i.f 31 27) ((x 26 22 + imm) % 2 ^ 64))) ∧
    (Works s.dev site 0 0x16 r → Gives (.sys site) s (SetsScalar s.dev site r (i.f 31 27)
      (([s.dev.tileId site, s.dev.tileGen site, siteField site, i.cmd.tag, i.cmd.stream, i.cmd.beat, i.cmd.attempt].getD (i.f 2 0)
        (s.dev.rdF (TILE_GROUP site) 5 0)) % 2 ^ 64)))) ∧
  (∀ A B : BitVec 64,
    salu 0 A.toNat B.toNat = (A + B).toNat ∧ salu 1 A.toNat B.toNat = (A - B).toNat ∧ salu 2 A.toNat B.toNat = (A * B).toNat ∧
    salu 3 A.toNat B.toNat = (A &&& B).toNat ∧ salu 4 A.toNat B.toNat = (A ||| B).toNat ∧ salu 5 A.toNat B.toNat = (A ^^^ B).toNat ∧
    salu 6 A.toNat B.toNat = (A <<< (B.toNat % 64)).toNat ∧ salu 7 A.toNat B.toNat = (A >>> (B.toNat % 64)).toNat ∧
    salu 8 A.toNat B.toNat = (A.sshiftRight (B.toNat % 64)).toNat ∧
    salu 9 A.toNat B.toNat = (if A.slt B then A else B).toNat ∧ salu 10 A.toNat B.toNat = (if A.slt B then B else A).toNat ∧
    salu 11 A.toNat B.toNat = (if A.ult B then A else B).toNat ∧ salu 12 A.toNat B.toNat = (if A.ult B then B else A).toNat ∧
    pcmp 0 A.toNat B.toNat = (A == B) ∧ pcmp 1 A.toNat B.toNat = (A != B) ∧ pcmp 2 A.toNat B.toNat = A.slt B ∧
    pcmp 3 A.toNat B.toNat = A.sle B ∧ pcmp 4 A.toNat B.toNat = A.ult B ∧ pcmp 5 A.toNat B.toNat = A.ule B) ∧
  (∀ (s : State) (site : Nat) (r : Running),
    let i := r.q.ins
    let x := fun hi lo => scalar (r.sees (s.dev.tile site)) i.cmd (i.f hi lo)
    let setsPred := fun (v : Nat → Bool) (d : Dev) =>
      (∀ l, l < 64 → i.f 31 29 ≠ 0 → (predicate (d.tile site) (i.f 31 29)).testBit l = v l) ∧
      (∀ p, p ≠ i.f 31 29 ∨ p = 0 → predicate (d.tile site) p = predicate (s.dev.tile site) p) ∧ WorkDone s.dev site 0 r {} d ∧
      d.tile site = { s.dev.tile site with preds := (d.tile site).preds, tainted := (d.tile site).tainted, eng := (d.tile site).eng } ∧
      d = { s.dev with tiles := d.tiles } ∧ TilesKeep site s.dev d
    let p := fun n l => (predicate (r.sees (s.dev.tile site)) n).testBit l
    (Works s.dev site 0 0x14 r → Gives (.pcmp site) s (setsPred fun _ => pcmp (i.f 2 0) (x 26 22) (x 21 17))) ∧
    (Works s.dev site 0 0x15 r → i.f 2 0 < 5 → Gives (.plog site) s (setsPred fun l =>
      let a := p (i.f 28 26) l
      let b := p (i.f 25 23) l
      [a && b, a || b, a ^^ b, a && !b, !a].getD (i.f 2 0) false)) ∧
    (Works s.dev site 0 0x17 r → Gives (.agseti site) s fun d => WorkDone s.dev site 0 r {} d ∧
      d.tile site = { s.dev.tile site with eng := (d.tile site).eng } ∧ d = { s.dev with tiles := d.tiles } ∧ TilesKeep site s.dev d) ∧
    (Works s.dev site 0 0x18 r → Gives (.agset site) s fun d => WorkDone s.dev site 0 r {} d ∧
      (∀ g, (d.tile site).ag g = if g = i.f 31 28 then ((s.dev.tile site).ag g).setField (i.f 26 24) (x 21 17) else (s.dev.tile site).ag g) ∧
      d.tile site = { s.dev.tile site with ags := (d.tile site).ags, eng := (d.tile site).eng } ∧
      d = { s.dev with tiles := d.tiles } ∧ TilesKeep site s.dev d) ∧
    (Works s.dev site 0 0x19 r → 0x50 ≤ i.f 9 2 → i.f 9 2 < 0x60 → Gives (.tcfg site) s fun d =>
      let c := i.f 9 2 - 0x50
      let unreserved := fun k : Running => if k.q.ins.sig = c then { k with rsv := false } else k
      (d.tile site).engine 0 = { (s.dev.tile site).engine 0 with run := some { unreserved r with finished := true, out := r.leaves {} } } ∧
      (∀ e, e ≠ 0 → (d.tile site).engine e = { (s.dev.tile site).engine e with run := ((s.dev.tile site).engine e).run.map unreserved }) ∧
      let w := w32 (x 26 22)
      d.rd (tokCfgA site c) = w ∧ kvGetD (d.tile site).tok [] c = (if fld w 1 0 = 1 then List.replicate (fld w 28 24) {} else []) ∧
      kvGetD (d.tile site).rsvd 0 c = 0 ∧ (∀ k, k ≠ c → kvGetD (d.tile site).tok [] k = kvGetD (s.dev.tile site).tok [] k ∧
        kvGetD (d.tile site).rsvd 0 k = kvGetD (s.dev.tile site).rsvd 0 k) ∧
      d.tile site = { s.dev.tile site with tok := (d.tile site).tok, rsvd := (d.tile site).rsvd, eng := (d.tile site).eng } ∧
      RegsKeep [tokCfgA site c] s.dev d ∧ d = { s.dev with regs := d.regs, digests := d.digests, digestBusy := d.digestBusy, tiles := d.tiles } ∧
      TilesKeep site s.dev d)) ∧
  (∀ (s : State) (site : Nat) (r : Running), Works s.dev site 0 0x1A r →
    let dir := r.q.ins.f 1 0
    let k := r.q.ins.f 15 8 + 1
    let n := winChunks s.dev site dir
    (nbrValid s.dev site dir = false → Gives (.grant site) s (WorkAborted s.dev site 0)) ∧
    (nbrValid s.dev site dir = true → NbrOpen s.dev site dir → winGranted s.dev site dir + k ≤ n → Gives (.grant site) s fun d =>
      winGranted d site dir = winGranted s.dev site dir + k ∧ winNext d site dir = (winNext s.dev site dir + k) % n ∧
      d.fab = nbrSends s.dev site dir [{ vc := 3, typ := 5, dest := 0, par := [winBase s.dev site dir, n - 1, k] }] ∧
      WorkDone s.dev site 0 r {} d ∧ d.tile site = { s.dev.tile site with eng := (d.tile site).eng } ∧
      RegsKeep [TILE_WIN_STATE site dir] s.dev d ∧ d = { s.dev with regs := d.regs, tiles := d.tiles, fab := d.fab } ∧ TilesKeep site s.dev d)) ∧
  (∀ (s : State) (site : Nat) (r : Running), Works s.dev site 0 0x1B r →
    let q := r.q.ins.f 2 0
    let slots := kvGetD (s.dev.tile site).slots [] q
    ((∀ x ∈ slots.take (r.q.ins.f 15 8 + 1), MeshOpen s.dev site x.1 x.2.1) → Gives (.release site) s (fun d =>
      kvGetD (d.tile site).slots [] q = slots.drop (r.q.ins.f 15 8 + 1) ∧ WorkDone s.dev site 0 r {} d ∧
      (∀ k, k ≠ q → kvGetD (d.tile site).slots [] k = kvGetD (s.dev.tile site).slots [] k) ∧
      d.tile site = { s.dev.tile site with slots := (d.tile site).slots, eng := (d.tile site).eng } ∧ TilesKeep site s.dev d)) ∧
    (∀ src gen k rest, r.q.ins.f 15 8 = 0 → slots = (src, gen, k) :: rest → entryValid (bindEntry s.dev site src) = false →
      Gives (.release site) s fun d => ((d.tile site).engine 0).stopped = true ∧ ((d.tile site).engine 0).run = none ∧
        d.fab.net = s.dev.fab.net ∧ TilesKeep site s.dev d) ∧
    (∀ src gen k rest, r.q.ins.f 15 8 = 0 → slots = (src, gen, k) :: rest → MeshOpen s.dev site src gen → rqOcc s.dev site q < 512 →
      Gives (.release site) s fun d =>
        rqHead d site q = (rqHead s.dev site q + 1) % rqSlots s.dev site q ∧ rqTail d site q = rqTail s.dev site q ∧
        rqOcc d site q = rqOcc s.dev site q - 1 ∧
        d.fab = { s.dev.fab with net := s.dev.fab.net ++ [{
          pkt := { vc := 3, typ := 1, dest := src, destGen := gen, aux := k, src := s.dev.tileId site, srcGen := s.dev.tileGen site
                   destSite := entrySite (bindEntry s.dev site src) }, site, port := 0 }] } ∧
        RegsKeep [TILE_RQ_PTR site q] s.dev d))

/-- Each command does the work of the instruction in progress in LD or SD of a tile that is not fenced. COPY of words
that all exist: the destination holds what the source held, every other word is as it was, and the descriptor names
the destination; an uncorrectable source word poisons it and sets FLAGS[2]; words beyond the scratchpad stop the
engine with FLAGS[3] and no word changes. NLD sends a request for its lines to a neighbour and waits for the
responses; of no lines it is finished; without a neighbour it aborts. SEND takes one credit and sends the words to the
receive queue that the credit entry names. NST takes its credits, moves on round the ring and sends eight packets for
each chunk and then the completion; without a neighbour it aborts. REDC hands its words to the router of its tile.
EREQ of a valid block sends one packet for each part of the request and remembers the request. Poisoned input poisons
what is sent. No word of the scratchpad changes but COPY's destination, and no other tile changes. (03_tile.md R105,
03_tile.md R122, 03_tile.md R123, 03_tile.md R127, 03_tile.md R128, 03_tile.md R133, 03_tile.md R139,
06_sequencers_isa.md R240, 07_fabric.md R291, 09_external_memory.md R371, 09_external_memory.md R372) -/
def Obligations.DataMovers : Prop :=
  (∀ (s : State) (site : Nat) (r : Running), Works s.dev site 1 0x20 r →
    let i := r.q.ins
    let t := s.dev.tile site
    let (a, n) := if i.b 21 then ((r.popped.getD 0 {}).addr, (r.popped.getD 0 {}).len) else (r.q.ags.getD 1 0, 4 * scalar (r.sees t) i.cmd (i.f 20 16))
    let dst := r.q.ags.getD 0 0
    let bad := !(badWords t [(a, n)]).isEmpty
    (a + n ≤ spadWords → dst + n ≤ spadWords → Gives (.copy site) s fun d =>
      (∀ k, k < n → (d.tile site).rd (dst + k) = t.rd (a + k)) ∧ (∀ x, (x < dst ∨ dst + n ≤ x) → (d.tile site).rd x = t.rd x) ∧
      WorkDone s.dev site 1 r { addr := dst, len := n, poison := bad } d ∧ (bad = true → bitOf (d.rd (TILE_FLAGS site)) 2 = true) ∧
      (bad = false → d = { s.dev with tiles := d.tiles }) ∧
      d.tile site = { t with spad := (d.tile site).spad, bad := (d.tile site).bad, eng := (d.tile site).eng } ∧
      RegsKeep [TILE_FLAGS site] s.dev d ∧ TilesKeep site s.dev d) ∧
    ((spadWords < a + n ∨ spadWords < dst + n) → Gives (.copy site) s fun d =>
      EngineStopped site 1 3 d ∧ (d.tile site).spad = t.spad ∧ RegsKeep [TILE_FLAGS site] s.dev d ∧ TilesKeep site s.dev d)) ∧
  (∀ (s : State) (site : Nat) (r : Running), Works s.dev site 1 0x21 r → r.left = 0 →
    let i := r.q.ins
    let t := s.dev.tile site
    let dir := i.f 31 30
    let lines := scalar (r.sees t) i.cmd (i.f 19 15)
    let src := scalar (r.sees t) i.cmd (i.f 24 20)
    let dst := r.q.ags.getD 0 0
    (nbrValid s.dev site dir = false → Gives (.nld site) s (WorkAborted s.dev site 1)) ∧
    (nbrValid s.dev site dir = true → dst + 4 * lines ≤ spadWords → src + 4 * lines ≤ spadWords →
      (lines = 0 → Gives (.nld site) s fun d => WorkDone s.dev site 1 r { addr := dst } d ∧
        d.tile site = { t with eng := (d.tile site).eng } ∧ d = { s.dev with tiles := d.tiles } ∧ TilesKeep site s.dev d) ∧
      (lines ≠ 0 → NbrOpen s.dev site dir → Gives (.nld site) s fun d =>
        d.fab = nbrSends s.dev site dir [{ vc := 2, typ := 2, dest := 0, addr := src, par := [lines, dst] }] ∧
        (∃ r', ((d.tile site).engine 1).run = some r' ∧ r'.q = r.q ∧ r'.finished = false ∧ r'.left = (4 * lines + 511) / 512) ∧
        (∀ x, x ≠ 1 → (d.tile site).engine x = t.engine x) ∧ d.tile site = { t with eng := (d.tile site).eng } ∧
        d = { s.dev with tiles := d.tiles, fab := d.fab } ∧ TilesKeep site s.dev d))) ∧
  (∀ (s : State) (site : Nat) (r : Running), Works s.dev site 4 0x50 r →
    let i := r.q.ins
    let t := s.dev.tile site
    let k := i.f 31 28
    let (a, n) := streamOp (r.sees t) i 14 (r.q.ags.getD 0 0) (i.f 19 15) r.popped
    let dst := s.dev.rd (TILE_SCRED_DEST site k)
    let bad := !(badWords t [(a, n)]).isEmpty
    a + n ≤ spadWords → MeshOpen s.dev site (fld dst 13 0) (fld dst 31 24) → Gives (.send site) s fun d =>
      credits d site k = credits s.dev site k - 1 ∧ credEn d site k = credEn s.dev site k ∧
      d.fab = { s.dev.fab with net := s.dev.fab.net ++ [{
        pkt := { vc := 2, typ := 0, poison := bad || r.tainted, dest := fld dst 13 0, destGen := fld dst 31 24, src := s.dev.tileId site
                 srcGen := s.dev.tileGen site, aux := fld dst 18 16, destSite := entrySite (bindEntry s.dev site (fld dst 13 0))
                 par := [k], data := t.rdN a n }, site, port := 0 }] } ∧
      WorkDone s.dev site 4 r { poison := bad } d ∧ d.tile site = { t with eng := (d.tile site).eng } ∧
      RegsKeep [TILE_FLAGS site, TILE_SCRED_STATE site k] s.dev d ∧ TilesKeep site s.dev d) ∧
  (∀ (s : State) (site : Nat) (r : Running), Works s.dev site 4 0x51 r →
    let i := r.q.ins
    let t := s.dev.tile site
    let dir := i.f 31 30
    let k := i.f 15 8 + 1
    let a := r.q.ags.getD 0 0
    let geo := s.dev.rd (TILE_OUTWIN_BASE site dir)
    let n := fld geo 31 24 + 1
    let next := s.dev.rdF (TILE_OUTWIN_STATE site dir) 23 16
    let bad := !(badWords t [(a, 64 * k)]).isEmpty
    (nbrValid s.dev site dir = false → Gives (.nst site) s (WorkAborted s.dev site 4)) ∧
    (nbrValid s.dev site dir = true → a + 64 * k ≤ spadWords → k ≤ outCredits s.dev site dir → NbrOpen s.dev site dir → Gives (.nst site) s fun d =>
      outCredits d site dir = outCredits s.dev site dir - k ∧ d.rdF (TILE_OUTWIN_STATE site dir) 23 16 = (next + k) % n ∧
      d.fab = nbrSends s.dev site dir (((List.range (8 * k)).map fun j =>
        { vc := 2, typ := 4, dest := 0, poison := bad || r.tainted, addr := fld geo 20 0 + 64 * ((next + j / 8) % n) + 8 * (j % 8)
          data := t.rdN (a + 8 * j) 8 }) ++ [{ vc := 2, typ := 6, dest := 0, poison := bad || r.tainted, par := [next, k] }]) ∧
      WorkDone s.dev site 4 r { poison := bad } d ∧ d.tile site = { t with eng := (d.tile site).eng } ∧
      RegsKeep [TILE_FLAGS site, TILE_OUTWIN_STATE site dir] s.dev d ∧ TilesKeep site s.dev d)) ∧
  (∀ (s : State) (site : Nat) (r : Running), Works s.dev site 4 0x52 r →
    let i := r.q.ins
    let t := s.dev.tile site
    let id := scalar (r.sees t) i.cmd (i.f 31 27) % 256
    let (a, n) := streamOp (r.sees t) i 14 (r.q.ags.getD 0 0) (i.f 19 15) r.popped
    let e0 := redEntry s.dev site id 0
    let bad := !(badWords t [(a, n)]).isEmpty
    n ≠ 0 → n ≤ 512 → ¬(redOp e0 = 9 ∧ n % 2 = 1) → a + n ≤ spadWords → bitOf e0 0 = true → fld e0 29 28 ≠ 2 → s.dev.tileBound site = true →
    Gives (.redc site) s fun d =>
      d.fab = { s.dev.fab with net := s.dev.fab.net ++ [{
        pkt := { vc := 1, typ := 8, poison := bad || r.tainted, dest := id, src := s.dev.tileId site, srcGen := s.dev.tileGen site, addr := n
                 data := t.rdN a n }, site, port := 0 }] } ∧
      WorkDone s.dev site 4 r { poison := bad } d ∧ d.tile site = { t with eng := (d.tile site).eng } ∧
      RegsKeep [TILE_FLAGS site] s.dev d ∧ TilesKeep site s.dev d) ∧
  (∀ (s : State) (site : Nat) (r : Running), Works s.dev site 4 0x53 r →
    let i := r.q.ins
    let t := s.dev.tile site
    let a := scalar (r.sees t) i.cmd (i.f 31 27)
    let b := reqBlock (r.block.headD [])
    let bad := !(badWords t ((a, 4) :: (if b.write then [(b.landAddr, 16 * b.lines)] else []))).isEmpty
    ereqBad s.dev site a (r.block.headD []) = false → s.dev.tileBound site = true → s.dev.chanMode = 0 → Gives (.ereq site) s fun d =>
      (∃ fs : List Flight, d.fab = { s.dev.fab with net := s.dev.fab.net ++ fs } ∧ fs.length = (reqParts b.addr b.lines).length ∧
        ∀ f ∈ fs, f.pkt.vc = 2 ∧ f.pkt.typ = 0xA ∧ f.site = site ∧ f.port = 0 ∧ f.pkt.poison = (bad || r.tainted) ∧
          f.pkt.src = s.dev.tileId site) ∧
      (∃ q : EdgeRequest, (d.tile site).requests = t.requests ++ [q] ∧ q.id = t.nextReq ∧ q.cmd = i.cmd ∧ q.cls = b.cls ∧
        q.gen = s.dev.tileGen site ∧ q.landAddr = b.landAddr ∧ q.landLen = 16 * b.lines ∧ q.parts.length = (reqParts b.addr b.lines).length) ∧
      (d.tile site).nextReq = t.nextReq + 1 ∧ WorkDone s.dev site 4 r { poison := bad } d ∧
      d.tile site = { t with requests := (d.tile site).requests, nextReq := t.nextReq + 1, eng := (d.tile site).eng } ∧
      RegsKeep [TILE_FLAGS site] s.dev d ∧ TilesKeep site s.dev d)

/-- SPAD_ECC_WRITEBACK counts the correction and sets FLAGS[1]; it writes one record, with the corrections since the
last, unless one was written in the same millisecond. SCRUB_STEP and SCRUB_FORCED of a bank of a powered tile with
scrubbing on: the bank's next row is one further on, round the bank; with no error and no word of the line
uncorrectable nothing else changes; a single-bit error counts a correction; a newly uncorrectable word is marked so,
sets FLAGS[2] and writes a record, what it reads as is free, and every other word is as it was. With scrubbing off
nothing changes. (03_tile.md R103, 03_tile.md R138, 03_tile.md R139, 03_tile.md R140) -/
def Obligations.ScratchpadEcc : Prop :=
  (∀ (s : State) (site : Nat), Clocked s.dev site → Gives (.spadEccWriteback site) s fun d =>
    d.rd (TILE_ECC_CE_COUNT site) = satAdd (s.dev.rd (TILE_ECC_CE_COUNT site)) 1 ∧ bitOf (d.rd (TILE_FLAGS site)) 1 = true ∧
    (if (s.dev.tile site).ceMs = some s.dev.ms then
      d.tile site = { s.dev.tile site with ceSince := (s.dev.tile site).ceSince + 1 } ∧ d.flt = s.dev.flt
     else d.tile site = { s.dev.tile site with ceSince := 0, ceMs := some s.dev.ms } ∧
      ∃ r : ErrRec, r.cls = 2 ∧ r.synd = ((s.dev.tile site).ceSince + 1) % 2 ^ 32 ∧ d.flt.pendingRecords = s.dev.flt.pendingRecords ++ [r]) ∧
    RegsKeep [TILE_ECC_CE_COUNT site, TILE_FLAGS site] s.dev d ∧ TilesKeep site s.dev d) ∧
  (∀ (s : State) (site bank : Nat) (ce : Bool) (ue : Option Nat), Clocked s.dev site →
    let both := fun p : Dev → Prop => Gives (.scrubStep site bank ce ue) s p ∧ Gives (.scrubForced site bank ce ue) s p
    let on := bitOf (s.dev.rd (TILE_SCRUB_CTRL site)) 0 = true ∧ bank < 48 ∧ s.dev.powered (.tile site) = true
    let row := kvGetD (s.dev.tile site).scrubRow 0 bank
    let t := s.dev.tile site
    (¬on → both (· = s.dev)) ∧
    (on → ue = none → badWords t [(lineAddr bank row, 4)] = [] → both fun d =>
      kvGetD (d.tile site).scrubRow 0 bank = (row + 1) % bankRows bank ∧ (d.tile site).spad = t.spad ∧ (d.tile site).bad = t.bad ∧
      (∀ b, b ≠ bank → kvGetD (d.tile site).scrubRow 0 b = kvGetD t.scrubRow 0 b) ∧ TilesKeep site s.dev d ∧
      (ce = false → d.tile site = { t with scrubRow := (d.tile site).scrubRow } ∧ d = { s.dev with tiles := d.tiles }) ∧
      (ce = true → d.rd (TILE_ECC_CE_COUNT site) = satAdd (s.dev.rd (TILE_ECC_CE_COUNT site)) 1 ∧ bitOf (d.rd (TILE_FLAGS site)) 1 = true) ∧
      RegsKeep [TILE_ECC_CE_COUNT site, TILE_FLAGS site] s.dev d) ∧
    (∀ k, on → ue = some k → ce = false → row < bankRows bank → badWords t [(lineAddr bank row, 4)] = [] → both fun d =>
      let a := lineAddr bank row + k % 4
      (d.tile site).rd a = w32 (Config.freeValue s.dev.freeCtr) ∧ (∀ x, x ≠ a → (d.tile site).rd x = t.rd x) ∧
      (∀ x, x ∈ (d.tile site).bad ↔ x = a ∨ x ∈ t.bad) ∧ bitOf (d.rd (TILE_FLAGS site)) 2 = true ∧
      kvGetD (d.tile site).scrubRow 0 bank = (row + 1) % bankRows bank ∧
      d.flt.pendingRecords.length = s.dev.flt.pendingRecords.length + 1 ∧ RegsKeep [TILE_FLAGS site] s.dev d ∧ TilesKeep site s.dev d))

/-- BINDING_UPDATE sets the register that the oldest update to a tile names; an update of NBR_d clears OUTWIN_d and
returns WIN_d's chunks to IDLE. Each neighbour command serves the oldest packet of its type at a tile that is not
fenced; with none nothing changes; one that does not name the tile and its generation is dropped, counted, and sets
FLAGS[6]. NBR_GRANT records the window's geometry and adds its credits, to at most 256; a new geometry starts its ring
at the first chunk. NBR_WR writes words that lie in granted chunks, and no other word; else nothing is written,
WIN_DROP_COUNT rises, FLAGS[7] is set, a record is written and a refusal is sent back. NBR_DONE returns its chunks to
IDLE and fills the window's class with the chunks' descriptor. NBR_REFUSE aborts the store in progress in that
direction. NBR_RD returns the lines in packets of at most 512 words, poisoned where a word is uncorrectable. NBR_RESP
writes the data of the load in progress, which is finished with the last packet. NBR_TIMEOUT of a load that waits
stops LD with FLAGS[8]. (03_tile.md R122, 03_tile.md R123, 03_tile.md R124, 03_tile.md R126, 03_tile.md R127,
03_tile.md R129, 03_tile.md R130, 03_tile.md R131, 03_tile.md R136, 03_tile.md R143) -/
def Obligations.NeighbourService : Prop :=
  (∀ (s : State) (site : Nat), Clocked s.dev site →
    (takeFirst (fun u => u.1 == site) s.dev.fab.updates = none → Gives (.bindingUpdate site) s (· = s.dev)) ∧
    (∀ off w rest, takeFirst (fun u => u.1 == site) s.dev.fab.updates = some ((site, off, w), rest) → Gives (.bindingUpdate site) s fun d =>
      d.rd (tileBase site + off) = w ∧ d.fab = { s.dev.fab with updates := rest } ∧
      (∀ i, i < 4 → off = 0x1C0 + 4 * i → d.rd (TILE_OUTWIN_BASE site i) = 0 ∧ d.rd (TILE_OUTWIN_STATE site i) = 0 ∧ d.rd (TILE_WIN_STATE site i) = 0 ∧
        RegsKeep [tileBase site + off, TILE_OUTWIN_BASE site i, TILE_OUTWIN_STATE site i, TILE_WIN_STATE site i] s.dev d) ∧
      ((off < 0x1C0 ∨ 0x1D0 ≤ off) → RegsKeep [tileBase site + off] s.dev d) ∧ d = { s.dev with regs := d.regs, fab := d.fab })) ∧
  (∀ (s : State) (site typ : Nat) (c : Instr), site < 13824 →
    (c, typ) ∈ [(Instr.nbrGrant site, 5), (.nbrWr site, 4), (.nbrDone site, 6), (.nbrRefuse site, 7), (.nbrRd site, 2), (.nbrResp site, 3)] →
    (takeFirst (fun e => e.1 == site && e.2.typ == typ) s.dev.fab.landed = none → Gives c s (· = s.dev)) ∧
    (∀ p rest, Landed s.dev site typ p rest → nbrFresh s.dev site p = false → Gives c s fun d =>
      d.fab = { s.dev.fab with landed := rest } ∧ d.tiles = s.dev.tiles ∧ bitOf (d.rd (TILE_FLAGS site)) 6 = true ∧
      d.rd (TILE_STALE_DROP_COUNT site) = satAdd (s.dev.rd (TILE_STALE_DROP_COUNT site)) 1 ∧
      RegsKeep [TILE_FLAGS site, TILE_STALE_DROP_COUNT site] s.dev d)) ∧
  (∀ (s : State) (site : Nat) (p : Packet) (rest : List (Nat × Packet)), nbrFresh s.dev site p = true →
    let i := facing p.aux
    let t := s.dev.tile site
    let f := { s.dev.fab with landed := rest }
    (Landed s.dev site 5 p rest → Gives (.nbrGrant site) s fun d =>
      let geo := w32 (p.par.getD 0 0 + p.par.getD 1 0 * 2 ^ 24)
      d.rd (TILE_OUTWIN_BASE site i) = geo ∧ bitOf (d.rd (TILE_OUTWIN_STATE site i)) 31 = true ∧
      d.rdF (TILE_OUTWIN_STATE site i) 8 0 = min 256 (s.dev.rdF (TILE_OUTWIN_STATE site i) 8 0 + p.par.getD 2 0) ∧
      d.rdF (TILE_OUTWIN_STATE site i) 23 16 = (if bitOf (s.dev.rd (TILE_OUTWIN_STATE site i)) 31 = true ∧ s.dev.rd (TILE_OUTWIN_BASE site i) = geo
        then s.dev.rdF (TILE_OUTWIN_STATE site i) 23 16 else 0) ∧
      RegsKeep [TILE_OUTWIN_BASE site i, TILE_OUTWIN_STATE site i] s.dev d ∧ d = { s.dev with regs := d.regs, fab := f }) ∧
    (Landed s.dev site 4 p rest →
      (wordsGranted s.dev site i p.addr p.data.length = true → Gives (.nbrWr site) s fun d =>
        (∀ k, k < p.data.length → (d.tile site).rd (p.addr + k) = p.data.getD k 0) ∧
        (∀ x, (x < p.addr ∨ p.addr + p.data.length ≤ x) → (d.tile site).rd x = t.rd x) ∧
        d.tile site = { t with spad := (d.tile site).spad, bad := (d.tile site).bad } ∧ d = { s.dev with tiles := d.tiles, fab := f } ∧
        TilesKeep site s.dev d) ∧
      (wordsGranted s.dev site i p.addr p.data.length = false → NbrOpen s.dev site i → Gives (.nbrWr site) s fun d =>
        d.tiles = s.dev.tiles ∧ d.rd (TILE_WIN_DROP_COUNT site) = satAdd (s.dev.rd (TILE_WIN_DROP_COUNT site)) 1 ∧
        bitOf (d.rd (TILE_FLAGS site)) 7 = true ∧ d.flt.pendingRecords.length = s.dev.flt.pendingRecords.length + 1 ∧
        d.fab = nbrSends { s.dev with fab := f } site i [{ vc := 3, typ := 7, dest := 0 }] ∧
        RegsKeep [TILE_WIN_DROP_COUNT site, TILE_FLAGS site] s.dev d)) ∧
    (Landed s.dev site 6 p rest → winEn s.dev site i = true →
      let k := p.par.getD 1 0
      let cls := s.dev.rdF (TILE_WIN_CFG site i) 27 24
      let out : TokDesc := { addr := winBase s.dev site i + 64 * p.par.getD 0 0, len := 64 * k, src := p.src, poison := p.poison }
      let room := tokMode s.dev site cls = 1 ∧ tokFree s.dev site cls = true
      (room → Gives (.nbrDone site) s fun d =>
        winGranted d site i = winGranted s.dev site i - k ∧ winNext d site i = winNext s.dev site i ∧
        kvGetD (d.tile site).tok [] cls = kvGetD t.tok [] cls ++ [out] ∧
        d.tile site = { t with tok := (d.tile site).tok } ∧ RegsKeep [TILE_WIN_STATE site i] s.dev d ∧
        d = { s.dev with regs := d.regs, tiles := d.tiles, fab := f } ∧ TilesKeep site s.dev d) ∧
      (¬room → Gives (.nbrDone site) s fun d =>
        d.tiles = s.dev.tiles ∧ d.rd (TILE_RQ_DROP_COUNT site) = satAdd (s.dev.rd (TILE_RQ_DROP_COUNT site)) 1 ∧
        bitOf (d.rd (TILE_FLAGS site)) 5 = true ∧ RegsKeep [TILE_WIN_STATE site i, TILE_RQ_DROP_COUNT site, TILE_FLAGS site] s.dev d)) ∧
    (Landed s.dev site 7 p rest → ∀ r, (t.engine 4).run = some r →
      ((r.q.ins.opcode = 0x51 ∧ r.q.ins.f 31 30 = i) → Gives (.nbrRefuse site) s fun d =>
        WorkAborted { s.dev with fab := f } site 4 d ∧ (d.tile site).spad = t.spad ∧ (d.tile site).tok = t.tok) ∧
      (¬(r.q.ins.opcode = 0x51 ∧ r.q.ins.f 31 30 = i) → Gives (.nbrRefuse site) s fun d => d = { s.dev with fab := f })) ∧
    (Landed s.dev site 2 p rest → NbrOpen s.dev site i → Gives (.nbrRd site) s fun d =>
      let n := 4 * p.par.getD 0 0
      d.fab = nbrSends { s.dev with fab := f } site i ((List.range ((n + 511) / 512)).map fun k =>
        { vc := 3, typ := 3, dest := 0, addr := p.par.getD 1 0 + 512 * k, data := t.rdN (p.addr + 512 * k) (min 512 (n - 512 * k))
          poison := (t.badIn (p.addr + 512 * k) (min 512 (n - 512 * k))).isSome }) ∧
      d.tiles = s.dev.tiles ∧ RegsKeep [TILE_FLAGS site] s.dev d ∧
      (t.badIn p.addr n = none → d = { s.dev with fab := d.fab })) ∧
    (∀ r, Landed s.dev site 3 p rest → (t.engine 1).run = some r → r.q.ins.opcode = 0x21 → 0 < r.left → Gives (.nbrResp site) s fun d =>
      (∀ k, k < p.data.length → (d.tile site).rd (p.addr + k) = p.data.getD k 0) ∧
      (∀ x, (x < p.addr ∨ p.addr + p.data.length ≤ x) → (d.tile site).rd x = t.rd x) ∧
      (∃ r', ((d.tile site).engine 1).run = some r' ∧ r'.q = r.q ∧ r'.left = r.left - 1 ∧ r'.finished = decide (r.left = 1) ∧
        r'.out = { r.out with poison := r.out.poison || p.poison }) ∧
      d.tile site = { t with spad := (d.tile site).spad, bad := (d.tile site).bad, eng := (d.tile site).eng } ∧
      d = { s.dev with tiles := d.tiles, fab := f } ∧ TilesKeep site s.dev d)) ∧
  (∀ (s : State) (site : Nat), Clocked s.dev site →
    (∀ r, ((s.dev.tile site).engine 1).run = some r → r.q.ins.opcode = 0x21 → 0 < r.left → Gives (.nbrTimeout site) s fun d =>
      EngineStopped site 1 8 d ∧ (d.tile site).spad = (s.dev.tile site).spad ∧ RegsKeep [TILE_FLAGS site] s.dev d ∧ TilesKeep site s.dev d) ∧
    (((s.dev.tile site).engine 1).run = none → Gives (.nbrTimeout site) s (· = s.dev)))

/-- MSG at an enabled queue with a free slot, a free place in its class and a message no longer than a slot: the words
lie in the slot at TAIL, TAIL moves on round the queue, the occupancy rises, the class gets the slot's descriptor and
the sender is remembered; else nothing is stored, RQ_DROP_COUNT rises and FLAGS[5] is set. CREDIT of the present
binding adds one credit to its entry, to at most 256; another is a stale drop. BCAST under a valid entry whose input
is the packet's port, with no way out held up and the boundary open: a copy goes to the neighbour in each direction of
the entry and, with the local bit and a tile that serves itself, the words land at the entry's base and its class gets
their descriptor; without such an entry the packet is discarded and a record written. RED without a valid entry or
from a port outside its mask is discarded and counted; the first contribution of an instance opens it; the last one
closes it and the words, combined in ORDER, leave on the entry's output. RED_TIMEOUT of an open instance marks it
dead, counts the abort and writes one record naming the missing inputs; without one nothing changes. (03_tile.md R134,
03_tile.md R135, 03_tile.md R136, 07_fabric.md R288, 07_fabric.md R289, 07_fabric.md R293, 07_fabric.md R294,
07_fabric.md R295, 07_fabric.md R298, 07_fabric.md R299, 07_fabric.md R300) -/
def Obligations.CollectiveArrivals : Prop :=
  (∀ (s : State) (site : Nat) (p : Packet) (rest : List (Nat × Packet)),
    let t := s.dev.tile site
    let f := { s.dev.fab with landed := rest }
    (Landed s.dev site 0 p rest →
      let q := p.aux % 8
      let slot := s.dev.rdF (TILE_RQ_BASE site q) 20 0 + rqSlotLen s.dev site q * rqTail s.dev site q
      let cls := s.dev.rdF (TILE_RQ_CFG site q) 19 16
      let fits := rqEn s.dev site q = true ∧ rqOcc s.dev site q < rqSlots s.dev site q ∧ p.data.length ≤ rqSlotLen s.dev site q ∧
        tokMode s.dev site cls = 1 ∧ tokFree s.dev site cls = true
      (fits → Gives (.msgArrival site) s fun d =>
        (∀ k, k < p.data.length → (d.tile site).rd (slot + k) = p.data.getD k 0) ∧
        (∀ x, (x < slot ∨ slot + p.data.length ≤ x) → (d.tile site).rd x = t.rd x) ∧
        rqHead d site q = rqHead s.dev site q ∧ rqTail d site q = (rqTail s.dev site q + 1) % rqSlots s.dev site q ∧
        rqOcc d site q = rqOcc s.dev site q + 1 ∧
        kvGetD (d.tile site).tok [] cls = kvGetD t.tok [] cls ++ [{ addr := slot, len := p.data.length, src := p.src, poison := p.poison }] ∧
        kvGetD (d.tile site).slots [] q = kvGetD t.slots [] q ++ [(p.src, p.srcGen, p.par.getD 0 0)] ∧
        d.tile site = { t with spad := (d.tile site).spad, bad := (d.tile site).bad, tok := (d.tile site).tok, slots := (d.tile site).slots } ∧
        RegsKeep [TILE_RQ_PTR site q] s.dev d ∧ d = { s.dev with regs := d.regs, tiles := d.tiles, fab := f } ∧ TilesKeep site s.dev d) ∧
      (¬fits → Gives (.msgArrival site) s fun d =>
        d.tiles = s.dev.tiles ∧ d.fab = f ∧ d.rd (TILE_RQ_DROP_COUNT site) = satAdd (s.dev.rd (TILE_RQ_DROP_COUNT site)) 1 ∧
        bitOf (d.rd (TILE_FLAGS site)) 5 = true ∧ RegsKeep [TILE_RQ_DROP_COUNT site, TILE_FLAGS site] s.dev d)) ∧
    (Landed s.dev site 1 p rest →
      let fresh := credEn s.dev site p.aux = true ∧ s.dev.rdF (TILE_SCRED_DEST site p.aux) 31 24 = p.srcGen
      (fresh → Gives (.creditArrival site) s fun d =>
        credits d site p.aux = min 256 (credits s.dev site p.aux + 1) ∧ credEn d site p.aux = true ∧
        RegsKeep [TILE_SCRED_STATE site p.aux] s.dev d ∧ d = { s.dev with regs := d.regs, fab := f }) ∧
      (¬fresh → Gives (.creditArrival site) s fun d =>
        d.rd (TILE_STALE_DROP_COUNT site) = satAdd (s.dev.rd (TILE_STALE_DROP_COUNT site)) 1 ∧ d.tiles = s.dev.tiles ∧ d.fab = f ∧
        RegsKeep [TILE_STALE_DROP_COUNT site, TILE_FLAGS site] s.dev d))) ∧
  (∀ (s : State) (site port : Nat) (fl : Flight) (rest : List Flight), Clocked s.dev site →
    takeFirst (fun fl => fl.site == site && fl.port == port && fl.pkt.typ == 9 && !isUnicast fl.pkt) s.dev.fab.net = some (fl, rest) →
    routerFenced s.dev site = false → upstreamFenced s.dev site port = false →
    let p := fl.pkt
    let e := bcEntry s.dev site p.dest 0
    let base := fld (bcEntry s.dev site p.dest 1) 20 0
    let cls := fld (bcEntry s.dev site p.dest 1) 24 21
    let outs := [1, 2, 3, 4].filter fun c => bitOf e (4 + c)
    let copies := outs.filterMap fun c => (neighbour site c).map fun n => { fl with site := n, port := opposite c, detour := none }
    ((bitOf e 0 = false ∨ fld e 3 1 ≠ port) → Gives (.bcastArrival site port) s fun d =>
      d.fab = { s.dev.fab with net := rest } ∧ d.flt.pendingRecords.length = s.dev.flt.pendingRecords.length + 1 ∧
      d = { s.dev with fab := d.fab, flt := d.flt }) ∧
    (bitOf e 0 = true → fld e 3 1 = port → s.dev.chanMode = 0 → (∀ c ∈ outs, ∀ n, neighbour site c = some n → routerFenced s.dev n = false ∧ hopOpen s.dev site n = true) →
      (bitOf e 4 = false → Gives (.bcastArrival site port) s fun d =>
        d.fab = { s.dev.fab with net := rest ++ copies } ∧ BusyOnly s.dev d) ∧
      (bitOf e 4 = true → fld e 10 9 ≠ 1 → s.dev.tileFenced site = false → base + p.data.length ≤ spadWords →
        tokMode s.dev site cls = 1 → tokFree s.dev site cls = true → Gives (.bcastArrival site port) s fun d =>
          d.fab = { s.dev.fab with net := rest ++ copies } ∧
          (∀ k, k < p.data.length → (d.tile site).rd (base + k) = p.data.getD k 0) ∧
          (∀ x, (x < base ∨ base + p.data.length ≤ x) → (d.tile site).rd x = (s.dev.tile site).rd x) ∧
          kvGetD (d.tile site).tok [] cls = kvGetD (s.dev.tile site).tok [] cls ++ [{ addr := base, len := p.data.length, src := p.src, poison := p.poison }] ∧
          d.tile site = { s.dev.tile site with spad := (d.tile site).spad, bad := (d.tile site).bad, tok := (d.tile site).tok } ∧
          TilesKeep site s.dev d ∧ RegsKeep [] s.dev d))) ∧
  (∀ (s : State) (site port : Nat) (fl : Flight) (rest : List Flight), Clocked s.dev site →
    takeFirst (fun fl => fl.site == site && fl.port == port && fl.pkt.typ == 8 && !isUnicast fl.pkt) s.dev.fab.net = some (fl, rest) →
    routerFenced s.dev site = false → upstreamFenced s.dev site port = false →
    let p := fl.pkt
    let e0 := redEntry s.dev site p.dest 0
    let key := 8 * (256 * site + p.dest) + port
    let n := kvGetD s.dev.fab.redCount 0 key
    let same : RedInst → Bool := fun r => r.site == site && r.id == p.dest && r.n == n
    ((bitOf e0 0 = false ∨ port ∉ redMask e0) → Gives (.redArrival site port) s fun d =>
      d.fab = { s.dev.fab with net := rest } ∧ d.flt.pendingRecords.length = s.dev.flt.pendingRecords.length + 1 ∧
      d.rd (FIELD_RED_MISMATCH_COUNT (siteField site)) = satAdd (s.dev.rd (FIELD_RED_MISMATCH_COUNT (siteField site))) 1 ∧
      RegsKeep [FIELD_RED_MISMATCH_COUNT (siteField site)] s.dev d) ∧
    (bitOf e0 0 = true → port ∈ redMask e0 → (∃ c ∈ redMask e0, c ≠ port) → s.dev.fab.insts.find? same = none →
      (s.dev.fab.insts.filter fun r => r.site == site && !r.dead).length < 16 → Gives (.redArrival site port) s fun d =>
        d.fab.net = rest ∧ kvGetD d.fab.redCount 0 key = n + 1 ∧
        d.fab.insts = s.dev.fab.insts ++ [{ site, id := p.dest, n, inputs := [(port, (p.data, p.poison))], first := port }] ∧
        d.fab = { s.dev.fab with net := d.fab.net, redCount := d.fab.redCount, insts := d.fab.insts } ∧ d = { s.dev with fab := d.fab }) ∧
    (∀ (r : RedInst) (b : Nat), bitOf e0 0 = true → port ∈ redMask e0 → s.dev.fab.insts.find? same = some r → r.dead = false →
      (∀ c ∈ redMask e0, c ≠ port → (kvGet? r.inputs c).isSome = true) → s.dev.chanMode = 0 → fld e0 27 25 ≠ 0 →
      neighbour site (fld e0 27 25) = some b → routerFenced s.dev b = false → hopOpen s.dev site b = true →
      let ins := (redOrder e0).filterMap fun c => kvGet? (kvPut r.inputs port (p.data, p.poison)) c
      redOp e0 < 9 → (∀ x ∈ ins, ∀ y ∈ ins, x.1.length = y.1.length) →
      Gives (.redArrival site port) s fun d =>
        (∃ q : Packet, d.fab.net = rest ++ [{ pkt := q, site := b, port := opposite (fld e0 27 25) }] ∧
          q.vc = 1 ∧ q.typ = 8 ∧ q.dest = p.dest ∧ q.poison = ins.any (·.2) ∧ q.src = s.dev.tileId site ∧
          (∀ x y, ins = x :: y → q.data.length = x.1.length ∧ ∀ j, j < x.1.length →
            q.data.getD j 0 = y.foldl (fun acc z => redStep (redOp e0) acc (z.1.getD j 0)) (x.1.getD j 0))) ∧
        kvGetD d.fab.redCount 0 key = n + 1 ∧ (∀ y ∈ d.fab.insts, same y = false) ∧ BusyOnly s.dev d)) ∧
  (∀ (s : State) (site id : Nat), Clocked s.dev site → routerFenced s.dev site = false →
    (s.dev.fab.insts.find? (fun r => r.site == site && r.id == id && !r.dead) = none → Gives (.redTimeout site id) s (· = s.dev)) ∧
    (∀ r, s.dev.fab.insts.find? (fun r => r.site == site && r.id == id && !r.dead) = some r → redOpen s.dev site id = true → s.dev.chanMode = 0 →
      fld (redEntry s.dev site id 0) 27 25 ≠ 0 → Gives (.redTimeout site id) s fun d =>
        d.rd (FIELD_RED_ABORT_COUNT (siteField site)) = satAdd (s.dev.rd (FIELD_RED_ABORT_COUNT (siteField site))) 1 ∧
        d.fab.insts = s.dev.fab.insts.map (fun y => if y.site == site && y.id == id && y.n == r.n then { y with dead := true } else y) ∧
        (∃ e : ErrRec, e.cls = 0x0E ∧ d.flt.pendingRecords = s.dev.flt.pendingRecords ++ [e] ∧
          ∀ c, c < 5 → (e.synd.testBit (8 + c) = true ↔ id < 256 ∧ c ∈ redMask (redEntry s.dev site id 0) ∧ (kvGet? r.inputs c).isNone = true) ∨ 256 ≤ id) ∧
        d.tiles = s.dev.tiles ∧ RegsKeep [FIELD_RED_ABORT_COUNT (siteField site)] s.dev d))

/-- ROUTER_PACKET serves the oldest unicast packet of an input and VC. Between fenced regions nowhere and with the
boundary open, a packet for another router moves to a neighbour that is one hop nearer, when the seam on the way is
open, and waits where it is when it is not; a packet for this router's tile waits for ejection, and one for an edge
port has reached it. A corrected link error counts in LINK_CE_COUNT; a data error poisons the packet and counts in
LINK_UE_COUNT; a control error discards it. With no such packet and no error nothing changes; a control error discards
the oldest packet of a tree at that input and VC. PACKET_EJECTION of a packet that names the tile's ID and generation,
from a source of the present generation, hands it to the tile; a stale one is dropped, counted and sets FLAGS[6].
BINDING_CHANGE applies the next change in the order of issue at one node: the node then resolves that ID to the new
entry, and every other ID as before. SEAM_UNLOCK of a locked segment clears LOCKED, discards the packets inside,
counts their flits and writes one record; SEAM_RELOCK sets LOCKED when the segment has not failed, both of its fields
run at the common OPP from locked PLLs and no frequency change is switching; else nothing changes. (07_fabric.md R277,
07_fabric.md R279, 07_fabric.md R281, 07_fabric.md R282, 07_fabric.md R283, 07_fabric.md R286, 07_fabric.md R305,
07_fabric.md R306, 07_fabric.md R311) -/
def Obligations.RoutersAndSeams : Prop :=
  (∀ (s : State) (site port vc err : Nat), Clocked s.dev site →
    let head := takeFirst (fun fl => fl.site == site && fl.port == port && fl.pkt.vc == vc && isUnicast fl.pkt && !fl.eject) s.dev.fab.net
    let tree := fun (fl : Flight) => fl.site == site && fl.port == port && port != 0 && fl.pkt.vc == vc && !isUnicast fl.pkt
    (head = none → err = 0 → Gives (.routerPacket site port vc err) s (· = s.dev)) ∧
    (∀ fl rest, head = none → err = 3 → takeFirst tree s.dev.fab.net = some (fl, rest) → Gives (.routerPacket site port vc err) s fun d =>
      d.fab = { s.dev.fab with net := rest } ∧
      d.rd (FIELD_LINK_UE_COUNT (siteField site)) = satAdd (s.dev.rd (FIELD_LINK_UE_COUNT (siteField site))) 1 ∧
      RegsKeep [FIELD_LINK_UE_COUNT (siteField site)] s.dev d ∧ d.tiles = s.dev.tiles) ∧
    (∀ fl rest, head = some (fl, rest) → upstreamFenced s.dev site port = false →
      let marked : Packet := if err = 2 then { fl.pkt with poison := true } else fl.pkt
      let f := siteField site
      let errs := fun d : Dev =>
        d.rd (FIELD_LINK_CE_COUNT f) = (if err = 1 then satAdd (s.dev.rd (FIELD_LINK_CE_COUNT f)) 1 else s.dev.rd (FIELD_LINK_CE_COUNT f)) ∧
        d.rd (FIELD_LINK_UE_COUNT f) = (if err = 2 ∨ err = 3 then satAdd (s.dev.rd (FIELD_LINK_UE_COUNT f)) 1 else s.dev.rd (FIELD_LINK_UE_COUNT f)) ∧
        RegsKeep [FIELD_LINK_CE_COUNT f, FIELD_LINK_UE_COUNT f] s.dev d ∧ d.tiles = s.dev.tiles ∧
        (err = 0 → BusyOnly s.dev d)
      (err = 3 → Gives (.routerPacket site port vc err) s fun d => d.fab.net = rest ∧ errs d) ∧
      (err ≠ 3 → fl.pkt.typ < 0xD → fl.pkt.destSite = site → ¬(fl.pkt.typ = 8 ∧ fl.pkt.par = []) → Gives (.routerPacket site port vc err) s fun d =>
        errs d ∧ if fl.pkt.typ = 0xA then d.fab.edge = s.dev.fab.edge ++ [(fl.pkt.dest, marked)] ∧ d.fab.net = rest
          else d.fab.net = rest ++ [{ fl with pkt := marked, eject := true, detour := none }] ∧ d.fab.edge = s.dev.fab.edge) ∧
      (err ≠ 3 → fl.pkt.typ < 0xD → fl.pkt.destSite < 13824 → fl.pkt.destSite ≠ site → s.dev.fab.regions = [] → s.dev.chanMode = 0 → fl.detour = none →
        ∃ n, neighbour site (dimOrder (xFirst vc) site fl.pkt.destSite) = some n ∧ n < 13824 ∧
          ((siteX n : Int) - siteX fl.pkt.destSite).natAbs + ((siteY n : Int) - siteY fl.pkt.destSite).natAbs + 1 =
            ((siteX site : Int) - siteX fl.pkt.destSite).natAbs + ((siteY site : Int) - siteY fl.pkt.destSite).natAbs ∧
          (hopOpen s.dev site n = true → Gives (.routerPacket site port vc err) s fun d =>
            errs d ∧ d.fab.net = rest ++ [{ fl with pkt := marked, site := n, port := opposite (dimOrder (xFirst vc) site fl.pkt.destSite) }]) ∧
          (hopOpen s.dev site n = false → Gives (.routerPacket site port vc err) s (· = s.dev))))) ∧
  (∀ (s : State) (site : Nat), Clocked s.dev site →
    let head := takeFirst (fun fl => fl.site == site && fl.eject) s.dev.fab.net
    (head = none → Gives (.packetEjection site) s (· = s.dev)) ∧
    (∀ fl rest, head = some (fl, rest) → s.dev.tileFenced site = false → fl.pkt.redirect = false →
      let p := fl.pkt
      let fresh := s.dev.tileBound site = true ∧ s.dev.tileId site = p.dest ∧ s.dev.tileGen site = p.destGen ∧
        (fromTile p = true → entryGen (bindEntry s.dev site p.src) = p.srcGen)
      (fresh → Gives (.packetEjection site) s fun d =>
        d.fab = { s.dev.fab with net := rest, landed := s.dev.fab.landed ++ [(site, p)] } ∧ d = { s.dev with fab := d.fab }) ∧
      (¬fresh → Gives (.packetEjection site) s fun d =>
        d.fab = { s.dev.fab with net := rest } ∧ d.rd (TILE_STALE_DROP_COUNT site) = satAdd (s.dev.rd (TILE_STALE_DROP_COUNT site)) 1 ∧
        bitOf (d.rd (TILE_FLAGS site)) 6 = true ∧ d.tiles = s.dev.tiles ∧ RegsKeep [TILE_STALE_DROP_COUNT site, TILE_FLAGS site] s.dev d))) ∧
  (∀ (s : State) (node : Nat), Clocked s.dev node →
    let k := kvGetD s.dev.fab.bindDone 0 node
    (s.dev.fab.bindLog.length ≤ k → Gives (.bindingChange node) s (· = s.dev)) ∧
    (∀ id w, s.dev.fab.bindLog[k]? = some (id, w) → id < 16384 → bindWaits s.dev node = false → Gives (.bindingChange node) s fun d =>
      bindEntry d node id = w ∧ (∀ x, x < 16384 → x ≠ id → bindEntry d node x = bindEntry s.dev node x) ∧
      (∀ n x, n ≠ node → x < 16384 → bindEntry d n x = bindEntry s.dev n x) ∧
      d.fab = { s.dev.fab with bindDone := d.fab.bindDone, bindRt := d.fab.bindRt } ∧ d = { s.dev with fab := d.fab })) ∧
  (∀ (s : State) (f : Nat) (south : Bool), f < 12 →
    let a := seamReg f south
    let lost := s.dev.fab.net.filter (inSeam f south)
    (seamPresent s.dev f south = true → bitOf (s.dev.rd a) 8 = true → Gives (.seamUnlock f south) s fun d =>
      bitOf (d.rd a) 8 = false ∧ seamOpen d f south = false ∧
      d.fab = { s.dev.fab with net := s.dev.fab.net.filter (fun fl => !inSeam f south fl), seamTick := d.fab.seamTick } ∧
      d.rd (FIELD_SEAM_DROP_COUNT f) = satAdd (s.dev.rd (FIELD_SEAM_DROP_COUNT f)) ((lost.map fun fl => fl.pkt.flits).sum) ∧
      (∃ r : ErrRec, r.cls = 0x0F ∧ d.flt.pendingRecords = s.dev.flt.pendingRecords ++ [r]) ∧ RegsKeep [a, FIELD_SEAM_DROP_COUNT f] s.dev d ∧
      d.tiles = s.dev.tiles) ∧
    ((seamPresent s.dev f south = false ∨ bitOf (s.dev.rd a) 8 = false) → Gives (.seamUnlock f south) s (· = s.dev)) ∧
    let ready := seamPresent s.dev f south = true ∧ bitOf (s.dev.rd a) 10 = false ∧ s.dev.atCommonOpp f = true ∧
      s.dev.atCommonOpp (seamFar f south) = true ∧ s.dev.rdF CLK_CHG_STATE 1 0 ≠ 2
    (ready → Gives (.seamRelock f south) s fun d =>
      bitOf (d.rd a) 8 = true ∧ seamOpen d f south = !bitOf (s.dev.rd a) 9 ∧ OnlyRegs [a] s.dev d) ∧
    (¬ready → Gives (.seamRelock f south) s (· = s.dev)))

/-- Each command does the work of the instruction in progress in VX of a tile that is not fenced, which then is
finished. VALU, VFMA, VFN and VBCAST write lane by lane, under the guard, the function of the named lanes, and leave
the lanes that the guard turns off, and every other vector, as they were; the integer functions are those of 32-bit
arithmetic. VCMP writes the truth of the comparison to the lanes of a predicate under the guard; p[0] is not written.
VRED writes the reduction over the lanes that are on to a scalar, VEXT one lane. No register, no memory and no other
tile changes. (06_sequencers_isa.md R228, 06_sequencers_isa.md R238, 06_sequencers_isa.md R240, 06_sequencers_isa.md
R241) -/
def Obligations.VectorLanes : Prop :=
  (∀ (s : State) (site : Nat) (r : Running),
    let i := r.q.ins
    let t := s.dev.tile site
    let u := r.sees t
    let v := fun hi lo l => ((vector u (i.f hi lo)).getD l 0).toNat
    let setsLanes := fun (f : Nat → Nat) (d : Dev) =>
      (∀ l, l < 64 → (vector (d.tile site) (i.f 31 27)).getD l 0 = if r.guard.testBit l then w32 (f l) else (vector t (i.f 31 27)).getD l 0) ∧
      (∀ x, x ≠ i.f 31 27 → vector (d.tile site) x = vector t x) ∧ WorkDone s.dev site 3 r {} d ∧
      d.tile site = { t with vectors := (d.tile site).vectors, tainted := (d.tile site).tainted, eng := (d.tile site).eng } ∧ d = { s.dev with tiles := d.tiles } ∧ TilesKeep site s.dev d
    let setsScalar := fun (x : Nat) (d : Dev) =>
      (∀ k, kvGetD (d.tile site).scalars 0 k = if k = i.f 31 27 ∧ k ≠ 0 ∧ k < 28 then x % 2 ^ 64 else kvGetD t.scalars 0 k) ∧ WorkDone s.dev site 3 r {} d ∧
      d.tile site = { t with scalars := (d.tile site).scalars, tainted := (d.tile site).tainted, eng := (d.tile site).eng } ∧ d = { s.dev with tiles := d.tiles } ∧ TilesKeep site s.dev d
    (Works s.dev site 3 0x42 r → Gives (.valu site) s (setsLanes fun l => laneOp (i.f 4 0) (v 26 22 l) (v 21 17 l))) ∧
    (Works s.dev site 3 0x43 r → Gives (.vfma site) s (setsLanes fun l => fmaF32 (v 26 22 l) (v 21 17 l) (v 16 12 l))) ∧
    (Works s.dev site 3 0x45 r → Gives (.vfn site) s (setsLanes fun l => vfn (i.f 1 0) (v 26 22 l))) ∧
    (Works s.dev site 3 0x47 r → Gives (.vbcast site) s (setsLanes fun _ => scalar u i.cmd (i.f 26 22) % 2 ^ 32)) ∧
    (Works s.dev site 3 0x46 r → Gives (.vred site) s (setsScalar (lanesReduce (i.f 1 0) r.guard (vector u (i.f 26 22))))) ∧
    (Works s.dev site 3 0x48 r → Gives (.vext site) s (setsScalar (v 26 22 (i.f 5 0)))) ∧
    (Works s.dev site 3 0x44 r → Gives (.vcmp site) s fun d =>
      (∀ l, l < 64 → i.f 31 29 ≠ 0 → (predicate (d.tile site) (i.f 31 29)).testBit l =
        if r.guard.testBit l then laneCmp (i.f 2 0) (v 26 22 l) (v 21 17 l) else (predicate t (i.f 31 29)).testBit l) ∧
      (∀ p, p ≠ i.f 31 29 ∨ p = 0 → predicate (d.tile site) p = predicate t p) ∧ WorkDone s.dev site 3 r {} d ∧
      d.tile site = { t with preds := (d.tile site).preds, tainted := (d.tile site).tainted, eng := (d.tile site).eng } ∧ d = { s.dev with tiles := d.tiles } ∧ TilesKeep site s.dev d)) ∧
  (∀ A B : BitVec 32,
    laneOp 8 A.toNat B.toNat = (A + B).toNat ∧ laneOp 9 A.toNat B.toNat = (A - B).toNat ∧ laneOp 10 A.toNat B.toNat = (A * B).toNat ∧
    laneOp 11 A.toNat B.toNat = (A &&& B).toNat ∧ laneOp 12 A.toNat B.toNat = (A ||| B).toNat ∧ laneOp 13 A.toNat B.toNat = (A ^^^ B).toNat ∧
    laneOp 14 A.toNat B.toNat = (A <<< (B.toNat % 32)).toNat ∧ laneOp 15 A.toNat B.toNat = (A >>> (B.toNat % 32)).toNat ∧
    laneOp 16 A.toNat B.toNat = (A.sshiftRight (B.toNat % 32)).toNat ∧
    laneOp 17 A.toNat B.toNat = (if A.slt B then B else A).toNat ∧ laneOp 18 A.toNat B.toNat = (if A.slt B then A else B).toNat ∧
    laneCmp 4 A.toNat B.toNat = (A == B) ∧ laneCmp 5 A.toNat B.toNat = A.slt B)

/-- Each command does the work of the instruction in progress in VX of a tile that is not fenced; words beyond the
scratchpad stop the engine with FLAGS[3] and write no word. VLD writes the 64 words to the lanes under the guard, VST
the lanes under the guard to the words; SLD and SST move a scalar's two words at the even address. VSOP and VSFN
write, under the guard of each word's lane, the function of each word of the stream. VCVT writes each element of the
stream, under the guard of its lane, converted to the destination format with its scale, rounding and draw; VQMX
writes one scale byte for each 32 elements. Every word outside the destination is as it was, the descriptor names the
destination, uncorrectable input poisons it, and no other tile changes. (03_tile.md R105, 03_tile.md R139,
05_number_formats.md R186, 05_number_formats.md R205, 05_number_formats.md R208, 06_sequencers_isa.md R238,
06_sequencers_isa.md R239, 06_sequencers_isa.md R240, 06_sequencers_isa.md R242) -/
def Obligations.VectorMemory : Prop :=
  (∀ (s : State) (site : Nat) (r : Running),
    let i := r.q.ins
    let t := s.dev.tile site
    let a := r.q.ags.getD 0 0
    let b := a / 2 * 2
    let bad := fun a n => !(badWords t [(a, n)]).isEmpty
    let lanes := vector t (i.f 31 27)
    let stored := vector (r.sees t) (i.f 31 27)
    (Works s.dev site 3 0x40 r → a + 64 ≤ spadWords → Gives (.vld site) s fun d =>
      (∀ l, l < 64 → (vector (d.tile site) (i.f 31 27)).getD l 0 = if r.guard.testBit l then t.rd (a + l) else lanes.getD l 0) ∧
      (∀ x, x ≠ i.f 31 27 → vector (d.tile site) x = vector t x) ∧ WorkDone s.dev site 3 r { poison := bad a 64 } d ∧
      d.tile site = { t with vectors := (d.tile site).vectors, tainted := (d.tile site).tainted, eng := (d.tile site).eng } ∧ RegsKeep [TILE_FLAGS site] s.dev d ∧ TilesKeep site s.dev d) ∧
    (Works s.dev site 3 0x41 r → a + 64 ≤ spadWords → stored.length = 64 → Gives (.vst site) s fun d =>
      (∀ l, l < 64 → (d.tile site).rd (a + l) = if r.guard.testBit l then stored.getD l 0 else t.rd (a + l)) ∧
      (∀ x, (x < a ∨ a + 64 ≤ x) → (d.tile site).rd x = t.rd x) ∧ WorkDone s.dev site 3 r { addr := a, len := 64 } d ∧
      d.tile site = { t with spad := (d.tile site).spad, bad := (d.tile site).bad, eng := (d.tile site).eng } ∧
      d = { s.dev with tiles := d.tiles } ∧ TilesKeep site s.dev d) ∧
    (Works s.dev site 3 0x49 r → b + 2 ≤ spadWords → Gives (.sld site) s fun d =>
      (∀ k, kvGetD (d.tile site).scalars 0 k = if k = i.f 31 27 ∧ k ≠ 0 ∧ k < 28 then (t.rd b).toNat + 2 ^ 32 * (t.rd (b + 1)).toNat else kvGetD t.scalars 0 k) ∧
      WorkDone s.dev site 3 r { poison := bad b 2 } d ∧ d.tile site = { t with scalars := (d.tile site).scalars, tainted := (d.tile site).tainted, eng := (d.tile site).eng } ∧
      RegsKeep [TILE_FLAGS site] s.dev d ∧ TilesKeep site s.dev d) ∧
    (Works s.dev site 3 0x4A r → b + 2 ≤ spadWords → Gives (.sst site) s fun d =>
      let v := scalar (r.sees t) i.cmd (i.f 31 27)
      (d.tile site).rd b = w32 v ∧ (d.tile site).rd (b + 1) = w32 (v / 2 ^ 32) ∧ (∀ x, x ≠ b → x ≠ b + 1 → (d.tile site).rd x = t.rd x) ∧
      WorkDone s.dev site 3 r { addr := b, len := 2 } d ∧
      d.tile site = { t with spad := (d.tile site).spad, bad := (d.tile site).bad, eng := (d.tile site).eng } ∧
      d = { s.dev with tiles := d.tiles } ∧ TilesKeep site s.dev d) ∧
    (∀ (c : Instr) (op n x : Nat), (c, op, n, x) ∈ [(Instr.vld site, 0x40, 64, a), (.vst site, 0x41, 64, a), (.sld site, 0x49, 2, b), (.sst site, 0x4A, 2, b)] →
      Works s.dev site 3 op r → spadWords < x + n → Gives c s fun d =>
        EngineStopped site 3 3 d ∧ (d.tile site).spad = t.spad ∧ (d.tile site).vectors = t.vectors ∧ (d.tile site).scalars = t.scalars ∧
        RegsKeep [TILE_FLAGS site] s.dev d ∧ TilesKeep site s.dev d)) ∧
  (∀ (s : State) (site : Nat) (r : Running),
    let i := r.q.ins
    let t := s.dev.tile site
    let (a, n) := streamOp (r.sees t) i 14 (r.q.ags.getD 1 0) (i.f 19 15) r.popped
    let out := r.q.ags.getD 0 0
    let writes := fun (f : Nat → Nat) (poison : Bool) (d : Dev) =>
      (∀ k, k < n → (d.tile site).rd (out + k) = if r.guard.testBit (k % 64) then w32 (f k) else t.rd (out + k)) ∧
      (∀ x, (x < out ∨ out + n ≤ x) → (d.tile site).rd x = t.rd x) ∧ WorkDone s.dev site 3 r { addr := out, len := n, poison } d ∧
      d.tile site = { t with spad := (d.tile site).spad, bad := (d.tile site).bad, eng := (d.tile site).eng } ∧
      RegsKeep [TILE_FLAGS site] s.dev d ∧ TilesKeep site s.dev d
    let w := fun k => (t.rd (a + k)).toNat
    let bs := r.q.ags.getD 2 0
    a + n ≤ spadWords → out + n ≤ spadWords →
    (Works s.dev site 3 0x4C r → i.b 13 = true → Gives (.vsop site) s
      (writes (fun k => laneOp (i.f 4 0) (w k) (scalar (r.sees t) i.cmd (i.f 12 8) % 2 ^ 32)) (!(badWords t [(a, n)]).isEmpty))) ∧
    (Works s.dev site 3 0x4C r → i.b 13 = false → bs + n ≤ spadWords → Gives (.vsop site) s
      (writes (fun k => laneOp (i.f 4 0) (w k) (t.rd (bs + k)).toNat) (!(badWords t [(a, n), (bs, n)]).isEmpty))) ∧
    (Works s.dev site 3 0x4D r → Gives (.vsfn site) s (writes (fun k => vfn (i.f 1 0) (w k)) (!(badWords t [(a, n)]).isEmpty)))) ∧
  (∀ (s : State) (site : Nat) (r : Running),
    let i := r.q.ins
    let t := s.dev.tile site
    let src := srcFmt i
    let dst := dstFmt i
    let n := cvtCount (r.sees t) i r.popped
    let a := if i.b 14 then (r.popped.getD 0 {}).addr else r.q.ags.getD 1 0
    let out := r.q.ags.getD 0 0
    let sa := r.q.ags.getD 2 0
    let len := elemWords dst.bits n
    let draw := fun k => srDraw t.vxSeed 3 ((t.vxDraw + k) % 2 ^ 48)
    let frame := fun (d : Dev) => (d.tile site).vxDraw = (if i.f 13 12 = 2 then (t.vxDraw + n) % 2 ^ 48 else t.vxDraw) ∧
      d.tile site = { t with spad := (d.tile site).spad, bad := (d.tile site).bad, eng := (d.tile site).eng, vxDraw := (d.tile site).vxDraw } ∧
      RegsKeep [TILE_FLAGS site] s.dev d ∧ TilesKeep site s.dev d
    (Works s.dev site 3 0x4E r → src.isMx = false → a + elemWords src.bits n ≤ spadWords → out + len ≤ spadWords → Gives (.vcvt site) s fun d =>
      (∀ k, k < n →
        let e := decodeF src (elemAt src.bits (wordsNum (t.rdN a (elemWords src.bits n))) k)
        let v := if dst = .int8 then toInt8 (rndOf (i.f 13 12) (draw k)) e else convert dst (rndOf (i.f 13 12) (draw k)) (i.b 11) e
        elemAt dst.bits (wordsNum ((d.tile site).rdN out len)) k =
          if r.guard.testBit (k % 64) then v % 2 ^ dst.bits else elemAt dst.bits (wordsNum (t.rdN out len)) k) ∧
      (∀ x, (x < out ∨ out + len ≤ x) → (d.tile site).rd x = t.rd x) ∧
      WorkDone s.dev site 3 r { addr := out, len, poison := !(badWords t [(a, elemWords src.bits n)]).isEmpty } d ∧ frame d) ∧
    (Works s.dev site 3 0x4E r → src.isMx = true → a + elemWords src.bits n ≤ spadWords → out + len ≤ spadWords →
      sa + elemWords 8 (n / 32) ≤ spadWords → Gives (.vcvt site) s fun d =>
      (∀ k, k < n →
        let e := scaled (elemAt 8 (wordsNum (t.rdN sa (elemWords 8 (n / 32)))) (k / 32)) (decodeF src (elemAt src.bits (wordsNum (t.rdN a (elemWords src.bits n))) k))
        let v := if dst = .int8 then toInt8 (rndOf (i.f 13 12) (draw k)) e else convert dst (rndOf (i.f 13 12) (draw k)) (i.b 11) e
        elemAt dst.bits (wordsNum ((d.tile site).rdN out len)) k =
          if r.guard.testBit (k % 64) then v % 2 ^ dst.bits else elemAt dst.bits (wordsNum (t.rdN out len)) k) ∧
      (∀ x, (x < out ∨ out + len ≤ x) → (d.tile site).rd x = t.rd x) ∧
      WorkDone s.dev site 3 r
        { addr := out, len, poison := !(badWords t [(a, elemWords src.bits n), (sa, elemWords 8 (n / 32))]).isEmpty } d ∧ frame d) ∧
    (Works s.dev site 3 0x4F r → a + n ≤ spadWords → out + len ≤ spadWords → sa + elemWords 8 (n / 32) ≤ spadWords → n % 32 = 0 →
      Gives (.vqmx site) s fun d =>
        (∀ b, b < n / 32 → elemAt 8 (wordsNum ((d.tile site).rdN sa (elemWords 8 (n / 32)))) b =
          (mxBlock dst (i.f 13 12) (fun k => draw (32 * b + k)) ((List.range 32).map fun k =>
            if r.guard.testBit ((32 * b + k) % 64) then f32 (t.rd (a + (32 * b + k))).toNat else .fin false 0 0)).1 % 2 ^ 8) ∧
        ((out + len ≤ sa ∨ sa + elemWords 8 (n / 32) ≤ out) → ∀ j, j < n → elemAt dst.bits (wordsNum ((d.tile site).rdN out len)) j =
          if r.guard.testBit (j % 64) then ((mxBlock dst (i.f 13 12) (fun k => draw (32 * (j / 32) + k)) ((List.range 32).map fun k =>
            if r.guard.testBit ((32 * (j / 32) + k) % 64) then f32 (t.rd (a + (32 * (j / 32) + k))).toNat else .fin false 0 0)).2.getD (j % 32) 0) % 2 ^ dst.bits
          else elemAt dst.bits (wordsNum (t.rdN out len)) j) ∧
        (∀ x, (x < out ∨ out + elemWords dst.bits n ≤ x) → (x < sa ∨ sa + elemWords 8 (n / 32) ≤ x) → (d.tile site).rd x = t.rd x) ∧
        WorkDone s.dev site 3 r { addr := out, len, poison := !(badWords t [(a, n)]).isEmpty } d ∧ frame d)) ∧
  (∀ (s : State) (site : Nat) (r : Running),
    let i := r.q.ins
    let t := s.dev.tile site
    let (a, n) := streamOp (r.sees t) i 14 (r.q.ags.getD 1 0) (i.f 19 15) r.popped
    let m := cvtCount (r.sees t) i r.popped
    let out := r.q.ags.getD 0 0
    let c := r.q.ags.getD 2 0
    let scales := elemWords 8 (m / 32)
    let stops := fun (k : Instr) => Gives k s fun d => EngineStopped site 3 3 d ∧ (d.tile site).spad = t.spad ∧ (d.tile site).vxDraw = t.vxDraw ∧
      RegsKeep [TILE_FLAGS site] s.dev d ∧ TilesKeep site s.dev d
    (Works s.dev site 3 0x4C r → (spadWords < a + n ∨ spadWords < out + n ∨ (i.b 13 = false ∧ spadWords < c + n)) → stops (.vsop site)) ∧
    (Works s.dev site 3 0x4D r → (spadWords < a + n ∨ spadWords < out + n) → stops (.vsfn site)) ∧
    (Works s.dev site 3 0x4E r → (spadWords < a + elemWords (srcFmt i).bits m ∨ spadWords < out + elemWords (dstFmt i).bits m ∨
      ((srcFmt i).isMx = true ∧ spadWords < c + scales)) → stops (.vcvt site)) ∧
    (Works s.dev site 3 0x4F r → (spadWords < a + m ∨ spadWords < out + elemWords (dstFmt i).bits m ∨ spadWords < c + scales) → stops (.vqmx site)))

/-- MXM in progress at a tile that is doing no other pass: outside matrix-vector mode its passes are the row blocks of
each column block in turn, in alternating banks from BANK0; MXF's passes are its list entries in order. A range beyond
the scratchpad stops the engine with FLAGS[3]. MX_PASS_START of the next pass, when its bank's token is back and fewer
than two passes are active: the pass is active, the array is awake, slip cycles of a list entry are counted and
recorded, and no word of the scratchpad or of a bank changes; else nothing changes. MX_DRAIN of the oldest active
pass, none of whose words has changed since it started: each cell of the bank holds its start word combined with the
products of its k range, the other bank is as it was, and the bank is free; an INT32 drain outside matrix-vector mode
puts the bank's words in the output rows; every word outside the rows is as it was; a failed comparison sets FLAGS[9]
and counts; after the last pass the instruction is finished with its descriptor. ARRAY_GATE of an idle array stops its
clock; of a busy one changes nothing. (04_matrix_unit.md R152, 04_matrix_unit.md R157, 04_matrix_unit.md R159,
04_matrix_unit.md R160, 04_matrix_unit.md R161, 04_matrix_unit.md R162, 04_matrix_unit.md R163, 04_matrix_unit.md
R164, 04_matrix_unit.md R165, 04_matrix_unit.md R168, 04_matrix_unit.md R171, 04_matrix_unit.md R175) -/
def Obligations.MatrixPasses : Prop :=
  (∀ (s : State) (site : Nat) (r : Running),
    let t := s.dev.tile site
    let i := r.q.ins
    let ms := r.block
    let desc := (scalar (r.sees t) i.cmd (i.f 26 22) % 2 ^ 21, 12 * ms.length)
    let legal := rangesBad (ms.flatMap instrRanges) = false ∧ rangesBad [desc] = false
    let begun := fun (d : Dev) => (d.tile site).mx.active = [] ∧
      (d.tile site).mx.poison = !(badWords t [desc]).isEmpty ∧ (d.tile site).eng = t.eng ∧
      d.tile site = { t with mx := { t.mx with plan := (d.tile site).mx.plan, active := [], poison := (d.tile site).mx.poison } } ∧
      RegsKeep [TILE_FLAGS site] s.dev d ∧ TilesKeep site s.dev d
    Works s.dev site 2 i.opcode r → r.off = false → t.mx.plan = [] → t.mx.active = [] →
    (i.opcode = 0x30 → legal → mxVec (ms.getD 0 []) = false → Gives (.mxm site) s fun d =>
      let m := ms.getD 0 []
      let mbs := (mxM m + 31) / 32
      (d.tile site).mx.plan.length = (mxN m + 31) / 32 * mbs ∧
      (∀ p, p < (mxN m + 31) / 32 * mbs → (d.tile site).mx.plan[p]? = some { bank := (mxBank0 m + p) % 2, mb := p % mbs, nb := p / mbs, desc := m }) ∧
      begun d) ∧
    (i.opcode = 0x30 → legal → mxVec (ms.getD 0 []) = true → Gives (.mxm site) s fun d =>
      let m := ms.getD 0 []
      (d.tile site).mx.plan.length = (mxN m + 1023) / 1024 ∧
      (∀ p, p < (mxN m + 1023) / 1024 → (d.tile site).mx.plan[p]? = some { bank := (mxBank0 m + p) % 2, mb := 0, nb := p, desc := m }) ∧ begun d) ∧
    (i.opcode = 0x31 → legal → Gives (.mxf site) s fun d =>
      (d.tile site).mx.plan.length = ms.length ∧
      (∀ p, p < ms.length → ∃ m, ms[p]? = some m ∧ (d.tile site).mx.plan[p]? = some { bank := mxBank0 m % 2, mb := 0, nb := 0, desc := m, entry := p }) ∧
      begun d) ∧
    (¬legal → (∀ c op, (c, op) ∈ [(Instr.mxm site, 0x30), (.mxf site, 0x31)] → i.opcode = op → Gives c s fun d =>
      EngineStopped site 2 3 d ∧ (d.tile site).spad = t.spad ∧ RegsKeep [TILE_FLAGS site] s.dev d ∧ TilesKeep site s.dev d))) ∧
  (∀ (s : State) (site : Nat) (r : Running) (p : MxPass) (rest : List MxPass),
    let t := s.dev.tile site
    let f := siteField site
    Clocked s.dev site → (t.engine 2).run = some r → t.mx.plan = p :: rest →
    ((bankFree t.mx p.bank = false ∨ 2 ≤ t.mx.active.length) → ∀ slip, Gives (.mxPassStart site slip) s (· = s.dev)) ∧
    (∀ slip, bankFree t.mx p.bank = true → t.mx.active.length < 2 → badWords t (passRanges p) = [] →
      let slipped := r.q.ins.opcode = 0x31 ∧ slip ≠ 0
      Gives (.mxPassStart site slip) s fun d =>
        let u := d.tile site
        (∃ x, u.mx.active = t.mx.active ++ [x] ∧ x.bank = p.bank ∧ x.mb = p.mb ∧ x.nb = p.nb ∧ x.desc = p.desc ∧
          x.chk = bitOf (s.dev.rd (FIELD_MX_CTRL f)) 1 ∧ passChanged t x = false) ∧
        u = { t with mx := { t.mx with plan := rest, active := u.mx.active, awake := true, rows := u.mx.rows } } ∧
        (t.mx.awake = false → bitOf (s.dev.rd (FIELD_MX_CTRL f)) 0 = true → d.rd (FIELD_MX_RAMP_COUNT f) = satAdd (s.dev.rd (FIELD_MX_RAMP_COUNT f)) 1) ∧
        (slipped → d.rd (FIELD_MX_SLIP_COUNT f) = satAdd (s.dev.rd (FIELD_MX_SLIP_COUNT f)) slip ∧
          d.flt.pendingRecords.length = s.dev.flt.pendingRecords.length + 1) ∧
        RegsKeep [FIELD_MX_RAMP_COUNT f, FIELD_MX_SLIP_COUNT f] s.dev d ∧
        (¬slipped → d = { s.dev with regs := d.regs, tiles := d.tiles } ∧ d.rd (FIELD_MX_SLIP_COUNT f) = s.dev.rd (FIELD_MX_SLIP_COUNT f)) ∧
        TilesKeep site s.dev d)) ∧
  (∀ (s : State) (site : Nat) (r : Running) (p : MxPass) (rest : List MxPass),
    let t := s.dev.tile site
    let m := p.desc
    let f := siteField site
    let cols := if mxVec m then min 1024 (mxN m - 1024 * p.nb) else passCols p
    let rows := if mxVec m then [outRange m 0 (1024 * p.nb) cols] else (List.range (passRows p)).map fun i => outRange m (32 * p.mb + i) (32 * p.nb) cols
    let q := (passRun t p.chk p).2
    Clocked s.dev site → (t.engine 2).run = some r → t.mx.active = p :: rest → passChanged t p = false → Gives (.mxDrain site) s fun d =>
      let u := d.tile site
      u.mx.active = rest ∧ u.mx.plan = t.mx.plan ∧
      (∀ a j, a < 32 → j < 32 →
        let ops := cellOps p ((passARows p).map (aVals t p.desc)) ((passBCols p).map (bVals t p.desc)) a j
        accWord u p.bank a j = (if cellActive p a j then (cellRun (mxInt p.desc) (preWord t p a j) ops.1 ops.2).1 else preWord t p a j) % 2 ^ 32) ∧
      (∀ k, (k < 1024 * p.bank ∨ 1024 * p.bank + 1024 ≤ k) → kvGetD u.mx.acc 0 k = kvGetD t.mx.acc 0 k) ∧
      (∀ x, (∀ g ∈ rows, x < g.1 ∨ g.1 + g.2 ≤ x) → u.rd x = t.rd x) ∧
      (mxVec m = false → mxOut m = .int32 → cols ≤ 4 * mxCStride m → ∀ i j, i < passRows p → j < cols →
        u.rd ((outRange m (32 * p.mb + i) (32 * p.nb) cols).1 + j) = w32 (accWord u p.bank i j)) ∧
      (∀ c, (chkAll u q).find? (fun c => c.2.2 == some true) = some c →
        bitOf (d.rd (TILE_FLAGS site)) 9 = true ∧ d.rd (FIELD_MX_CHK_FAIL_COUNT f) = satAdd (s.dev.rd (FIELD_MX_CHK_FAIL_COUNT f)) 1) ∧
      (q.sat ≠ [] → bitOf (d.rd (TILE_FLAGS site)) 0 = true ∧ d.rd (FIELD_MX_SAT_COUNT f) = satAdd (s.dev.rd (FIELD_MX_SAT_COUNT f)) 1) ∧
      ((t.mx.plan ≠ [] ∨ rest ≠ []) → u.eng = t.eng) ∧
      (t.mx.plan = [] → rest = [] → ∃ r', (u.engine 2).run = some r' ∧ r'.q = r.q ∧ r'.finished = true ∧ r'.out.addr = mxBase m 5 ∧
        r'.out.len = (if mxVec m then (mxN m * outBytes (mxOut m) + 3) / 4 else mxM m * mxCStride m * 4) ∧ r'.out.poison = (u.mx.poison || r.tainted)) ∧
      RegsKeep [TILE_FLAGS site, FIELD_MX_SAT_COUNT f, FIELD_MX_CHK_SKIP_COUNT f, FIELD_MX_CHK_FAIL_COUNT f] s.dev d ∧ TilesKeep site s.dev d) ∧
  (∀ (s : State) (site : Nat), Clocked s.dev site →
    let x := (s.dev.tile site).mx
    let still := x.active = [] ∧ ∀ a, x.dcw = some a → ∀ c ∈ a.cells, c.2.a = none ∧ c.2.b = none
    (still → Gives (.arrayGate site) s fun d =>
      d.tile site = { s.dev.tile site with mx := { x with awake := false, rows := 0 } } ∧ d = { s.dev with tiles := d.tiles } ∧ TilesKeep site s.dev d) ∧
    (¬still → Gives (.arrayGate site) s (· = s.dev)))

/-- DCW_WORD with no word in effect changes nothing, and while a subscribed tile's bank token is out and the word
touches that bank, or the word drives a row that the ramp has not enabled, it is held. Else the word is over: the
sequencer has none in effect, its slip cycles are counted, a valid word that writes a generator has set its field in
every subscribed tile that has not faulted the command, a command's first word that drains a row of INT32 words has
put them at its generator's address and changed no other word, a word with LAST leaves no command in those tiles'
arrays, and no tile outside the group, no register outside the group's flags and its field's matrix counters changes.
(04_matrix_unit.md R166, 04_matrix_unit.md R168, 06_sequencers_isa.md R245, 06_sequencers_isa.md R247,
06_sequencers_isa.md R261) -/
def Obligations.DcwWords : Prop :=
  ∀ (s : State) (q cycles : Nat), q < 48 → s.dev.meshRuns (q / 4) = true →
    ((s.dev.seq q).dcwNow = none → Gives (.dcwWord q cycles) s (· = s.dev)) ∧
    (∀ i, (s.dev.seq q).dcwNow = some i →
      let ss := subscribed s.dev q
      let f := q / 4
      ((∃ t ∈ ss, dcwHeld s.dev t cycles i = true) → Gives (.dcwWord q cycles) s (· = s.dev)) ∧
      ((∀ t ∈ ss, dcwHeld s.dev t cycles i = false) → Gives (.dcwWord q cycles) s fun d =>
        d.seq q = { s.dev.seq q with dcwNow := none } ∧ SeqsKeep q s.dev d ∧ (∀ t, t ∉ ss → d.tile t = s.dev.tile t) ∧
        d.rd (FIELD_MX_SLIP_COUNT f) = satAdd (s.dev.rd (FIELD_MX_SLIP_COUNT f)) cycles ∧
        (∀ t ∈ ss, (s.dev.tile t).faulted.contains i.cmd.serial = true → d.tile t = s.dev.tile t) ∧
        (∀ t ∈ ss, (s.dev.tile t).faulted.contains i.cmd.serial = false →
          (i.b 1 = true → (d.tile t).mx.dcw = none) ∧
          (i.b 0 = true → i.b 256 = true →
            let g := (d.tile t).ag (i.f 260 257)
            let v := i.f 295 264
            (i.f 263 261 = 0 → g.base = v % 2 ^ 21) ∧ (i.f 263 261 = 1 → g.s0 = v % 2 ^ 22) ∧ (i.f 263 261 = 2 → g.count = v % 2 ^ 16) ∧
            (i.f 263 261 = 3 → g.s1 = v % 2 ^ 22) ∧ (i.f 263 261 = 4 → g.i0 = 0 ∧ g.i1 = 0)) ∧
          (let u := s.dev.tile t
           let bank := dcwBank i
           let a := (u.ag (i.f 195 192)).addr
           i.b 0 = true → i.b 162 = true → i.f 511 496 = 0 → i.f 159 32 = 0 → dcwFmt i 15 12 = .int32 → u.mx.dcw = none → ss.Nodup → a + 32 ≤ spadWords →
            (∀ j, j < 32 → (d.tile t).rd (a + j) = w32 (accWord u bank (i.f 167 163) j)) ∧
            ∀ x, (x < a ∨ a + 32 ≤ x) → (d.tile t).rd x = u.rd x)) ∧
        ∀ a, a ∉ [FIELD_MX_SLIP_COUNT f, FIELD_MX_SAT_COUNT f, FIELD_MX_CHK_SKIP_COUNT f, FIELD_MX_CHK_FAIL_COUNT f, FIELD_MX_RAMP_COUNT f] →
          (∀ t ∈ ss, a ≠ TILE_FLAGS t) → d.rd a = s.dev.rd a))

/-- EDGE_REQ at a memory port: the oldest packet that has reached it, of a source whose binding entry is valid and of
its generation, ends the port's queue; a stale one is dropped and counted; with none nothing changes. MEM_REQUEST of a
queued write that need not wait, at a port that has not failed: exactly its bytes of memory change, to its data, and
an acknowledgement is sent; of a read whose lines have no error and no poison: memory is unchanged, its lines are
counted and their bytes are sent to the tile; one that must wait changes nothing; at a failed port it is answered with
poison and memory is unchanged. EDGE_RESP of an outstanding part: its words land at the part's place; with the last
part the request is over and its class gets the descriptor of the landing area, else it waits for the others; an
acknowledgement with poison, which has no data, also reports the failure of the command's stream and tag (the model's
reading, log entry 59); a response of a request that has ended only writes a record. EDGE_RESP and EREQ_TIMEOUT are of
a tile whose field's clock runs. EREQ_TIMEOUT of an outstanding request writes one record and completes it poisoned;
with no such request nothing changes. (07_fabric.md R286, 07_fabric.md R308, 09_external_memory.md R372,
09_external_memory.md R373, 09_external_memory.md R374, 09_external_memory.md R380, 09_external_memory.md R386,
09_external_memory.md R387, 03_tile.md R137) -/
def Obligations.MemoryRequests : Prop :=
  (∀ (s : State) (code : Nat), code < 8 →
    (takeFirst (fun e => e.1 == code) s.dev.fab.edge = none → Gives (.edgeReq code) s (· = s.dev)) ∧
    (∀ p rest, takeFirst (fun e => e.1 == code) s.dev.fab.edge = some ((code, p), rest) →
      let b := bindEntry s.dev (16384 + code) p.src
      let fresh := entryValid b = true ∧ entryGen b = p.srcGen
      (fresh → Gives (.edgeReq code) s fun d =>
        d.fab = { s.dev.fab with edge := rest } ∧
        d.port code = { s.dev.port code with queue := (s.dev.port code).queue ++ [{
          site := entrySite b, dest := p.src, destGen := p.srcGen, req := p.par.getD 1 0, part := p.par.getD 2 0
          write := p.par.getD 0 0 == 1, addr := p.par.getD 3 0, lines := p.par.getD 4 0, landAddr := p.addr
          data := p.data, poison := p.poison }] } ∧
        (∀ m, m ≠ code → d.port m = s.dev.port m) ∧ d = { s.dev with fab := d.fab, memp := d.memp }) ∧
      (¬fresh → Gives (.edgeReq code) s fun d =>
        let a := FIELD_INJ_STALE_COUNT (edgeField code)
        d.fab = { s.dev.fab with edge := rest } ∧ d.memp = s.dev.memp ∧ d.rd a = satAdd (s.dev.rd a) 1 ∧
        d.flt.pendingRecords.length = s.dev.flt.pendingRecords.length + 1 ∧ RegsKeep [a] s.dev d))) ∧
  (∀ (s : State) (m k : Nat) (q : MemPart), m < 8 → (s.dev.port m).queue[k]? = some q →
    let rest := { s.dev.port m with queue := (s.dev.port m).queue.eraseIdx k }
    let d1 := s.dev.modPort m fun p => { p with queue := p.queue.eraseIdx k }
    (portFailed s.dev m = false → mayServe s.dev m k q = false → ∀ ce ue, Completes (.memRequest m k ce ue) s (· = s)) ∧
    (portFailed s.dev m = false → mayServe s.dev m k q = true → q.write = true → ∀ ce ue, Completes (.memRequest m k ce ue) s fun t =>
      (∀ i, i < 4 * q.data.length → t.mem.byteAt (q.addr + i) = (wordBytes q.data).getD i 0) ∧
      (∀ a, (a < q.addr ∨ q.addr + 4 * q.data.length ≤ a) → t.mem.byteAt a = s.mem.byteAt a) ∧
      (q.poison = true → ∀ l ∈ q.lineList, l ∈ t.mem.poison) ∧
      t.dev.port m = rest ∧ t.dev.fab = (respond m q [] q.poison d1).fab ∧ t.pending = s.pending) ∧
    (portFailed s.dev m = false → mayServe s.dev m k q = true → q.write = false → (∀ l ∈ q.lineList, l ∉ s.mem.poison) →
      Gives (.memRequest m k [] []) s fun d =>
        d.port m = rest ∧ d.fab = (respond m q (leWords (q.lineList.flatMap fun l => s.mem.read (64 * l) 64)) false d1).fab ∧
        (∀ x, x ≠ m → d.port x = s.dev.port x) ∧ d.tiles = s.dev.tiles) ∧
    (portFailed s.dev m = true → ∀ ce ue, Gives (.memRequest m k ce ue) s fun d =>
      d.port m = rest ∧ (∀ x, x ≠ m → d.port x = s.dev.port x) ∧ d.tiles = s.dev.tiles ∧
      ∃ data : List Word, data.length = (if q.write then 0 else 16 * q.lines) ∧ d.fab = (respond m q data true d1).fab)) ∧
  (∀ (s : State) (m k : Nat), m < 8 → (s.dev.port m).queue[k]? = none → ∀ ce ue, Completes (.memRequest m k ce ue) s (· = s)) ∧
  (∀ (s : State) (site : Nat) (p : Packet) (rest : List (Nat × Packet)), Landed s.dev site 0xB p rest →
    let t := s.dev.tile site
    let f := { s.dev.fab with landed := rest }
    let found := t.requests.find? fun r => r.id == p.par.getD 0 0 && r.parts.any (fun e => e.1 == p.par.getD 1 0)
    (found = none → Gives (.edgeResp site) s fun d =>
      d.tiles = s.dev.tiles ∧ d.fab = f ∧ d.flt.pendingRecords.length = s.dev.flt.pendingRecords.length + 1 ∧
      d = { s.dev with fab := f, flt := d.flt }) ∧
    (∀ r, found = some r → p.addr + p.data.length ≤ spadWords →
      let flt := if p.data = [] ∧ p.poison = true then { s.dev.flt with failReports := s.dev.flt.failReports ++ [(r.cmd.stream, r.cmd.tag)] } else s.dev.flt
      let parts := r.parts.filter fun e => e.1 != p.par.getD 1 0
      let lands := fun (d : Dev) => (∀ k, k < p.data.length → (d.tile site).rd (p.addr + k) = p.data.getD k 0) ∧
        (∀ x, (x < p.addr ∨ p.addr + p.data.length ≤ x) → (d.tile site).rd x = t.rd x) ∧ d.fab = f ∧ TilesKeep site s.dev d
      (parts ≠ [] → Gives (.edgeResp site) s fun d => lands d ∧
        (d.tile site).requests = t.requests.map (fun x => if x.id == r.id then { r with parts, poison := r.poison || p.poison } else x) ∧
        d.tile site = { t with spad := (d.tile site).spad, bad := (d.tile site).bad, requests := (d.tile site).requests } ∧
        d = { s.dev with tiles := d.tiles, fab := f, flt }) ∧
      (parts = [] → tokMode s.dev site r.cls = 1 → tokFree s.dev site r.cls = true → Gives (.edgeResp site) s fun d => lands d ∧
        (d.tile site).requests = t.requests.filter (fun x => x.id != r.id) ∧
        kvGetD (d.tile site).tok [] r.cls = kvGetD t.tok [] r.cls ++ [{ addr := r.landAddr, len := r.landLen, src := 0, poison := r.poison || p.poison }] ∧
        d.tile site = { t with spad := (d.tile site).spad, bad := (d.tile site).bad, requests := (d.tile site).requests, tok := (d.tile site).tok } ∧
        d = { s.dev with tiles := d.tiles, fab := f, flt }))) ∧
  (∀ (s : State) (site id : Nat), Clocked s.dev site →
    let t := s.dev.tile site
    (t.requests.find? (fun r => r.id == id) = none → Gives (.ereqTimeout site id) s (· = s.dev)) ∧
    (∀ r, t.requests.find? (fun r => r.id == id) = some r → r.parts ≠ [] → tokMode s.dev site r.cls = 1 → tokFree s.dev site r.cls = true →
      Gives (.ereqTimeout site id) s fun d =>
        (d.tile site).requests = t.requests.filter (fun x => x.id != r.id) ∧
        kvGetD (d.tile site).tok [] r.cls = kvGetD t.tok [] r.cls ++ [{ addr := r.landAddr, len := r.landLen, src := 0, poison := true }] ∧
        (∃ e : ErrRec, e.cls = 0x11 ∧ e.opcode = 0x53 ∧ e.tag = r.cmd.tag ∧ d.flt.pendingRecords = s.dev.flt.pendingRecords ++ [e]) ∧
        d.tile site = { t with requests := (d.tile site).requests, tok := (d.tile site).tok } ∧ TilesKeep site s.dev d ∧
        d = { s.dev with tiles := d.tiles, flt := d.flt }))

/-- MEM_SCRUB_STEP with scrubbing off or at a failed port changes nothing. With it on, the next line of the pass is
read, its position moves on, and the end of a pass counts the pass and returns the correction counts to 0; a line
without error leaves memory as it was, and a poisoned one also counts in POISON_COUNT; a correctable error, no
retirement following, counts in CE_COUNT and writes a record unless this second has one; an uncorrectable one is
counted and poisoned, and no byte outside it changes. PAGE_RETIRE_DONE of the oldest page in retirement: the page is
remapped and RETIRED shows the number of remapped pages; with none nothing changes. CORRECTION_COUNT_RESET with
scrubbing off, once PERIOD_H hours have passed, returns the counts of a port to 0; else nothing changes. HBM_TEMP_POLL
stores the temperature; its conditions set at their thresholds, clear 3 degrees below the values of the table, and a
change of the status writes one record; with no stack at HOT afterwards the HBM cause requests no OPP (log entry 115),
and no other request changes. (09_external_memory.md R378, 09_external_memory.md R379, 09_external_memory.md R380,
09_external_memory.md R381, 09_external_memory.md R382, 09_external_memory.md R383, 09_external_memory.md R387) -/
def Obligations.MemoryUpkeep : Prop :=
  (∀ (s : State) (m : Nat), m < 8 →
    let k := (s.dev.port m).scrubLine
    let line := memUnmap (joinGib s.dev) m (64 * k) / 64
    let on := bitOf (s.dev.rd (MEMP_SCRUB_CFG m)) 0 = true ∧ portFailed s.dev m = false
    let last := stackLines ≤ k + 1
    let moves := fun (d : Dev) => (d.port m).scrubLine = (if last then 0 else k + 1) ∧
      d.rdF (MEMP_SCRUB_POS m) 15 0 = (d.port m).scrubLine * 65536 / stackLines % 65536 ∧
      (last → d.rdF (MEMP_SCRUB_POS m) 31 16 = (s.dev.rdF (MEMP_SCRUB_POS m) 31 16 + 1) % 65536 ∧ (d.port m).pageCe = []) ∧
      (∀ x, x ≠ m → d.port x = s.dev.port x) ∧ d.tiles = s.dev.tiles
    (¬on → ∀ err, Completes (.memScrubStep m err) s (· = s)) ∧
    (on → line ∉ s.mem.poison → Gives (.memScrubStep m 0) s fun d =>
      moves d ∧ d.rd64 (MEMP_RD_LINES_LO m) = (s.dev.rd64 (MEMP_RD_LINES_LO m) + 1) % 2 ^ 48 ∧
      RegsKeep [MEMP_RD_LINES_LO m, MEMP_RD_LINES_LO m + 4, MEMP_SCRUB_POS m] s.dev d ∧ d = { s.dev with regs := d.regs, memp := d.memp }) ∧
    (on → line ∈ s.mem.poison → Gives (.memScrubStep m 0) s fun d =>
      moves d ∧ d.rd (MEMP_POISON_COUNT m) = satAdd (s.dev.rd (MEMP_POISON_COUNT m)) 1 ∧
      RegsKeep [MEMP_RD_LINES_LO m, MEMP_RD_LINES_LO m + 4, MEMP_POISON_COUNT m, MEMP_SCRUB_POS m] s.dev d ∧ d = { s.dev with regs := d.regs, memp := d.memp }) ∧
    (on → line ∉ s.mem.poison → bitOf (s.dev.rd (MEMP_RETIRE_CFG m)) 31 = false → Gives (.memScrubStep m 1) s fun d =>
      moves d ∧ d.rd (MEMP_CE_COUNT m) = satAdd (s.dev.rd (MEMP_CE_COUNT m)) 1 ∧
      d.flt.pendingRecords.length = s.dev.flt.pendingRecords.length + (if (s.dev.port m).ceSec = some s.dev.sec then 0 else 1) ∧
      RegsKeep [MEMP_RD_LINES_LO m, MEMP_RD_LINES_LO m + 4, MEMP_CE_COUNT m, MEMP_SCRUB_POS m] s.dev d ∧
      d = { s.dev with regs := d.regs, memp := d.memp, flt := d.flt }) ∧
    (on → line ∉ s.mem.poison → Completes (.memScrubStep m 2) s fun t =>
      moves t.dev ∧ t.dev.rd (MEMP_UE_COUNT m) = satAdd (s.dev.rd (MEMP_UE_COUNT m)) 1 ∧ line ∈ t.mem.poison ∧
      (∀ l, l ≠ line → (l ∈ t.mem.poison ↔ l ∈ s.mem.poison)) ∧
      (∀ a, (a < 64 * line ∨ 64 * line + 64 ≤ a) → t.mem.byteAt a = s.mem.byteAt a) ∧ t.pending = s.pending)) ∧
  (∀ (s : State) (m : Nat), m < 8 →
    let p := s.dev.port m
    (p.retiring = [] → Gives (.pageRetireDone m) s (· = s.dev)) ∧
    (∀ page rest, p.retiring = page :: rest → Gives (.pageRetireDone m) s fun d =>
      (d.port m).retiring = rest ∧ (∀ x, x ∈ (d.port m).remap ↔ x = page ∨ x ∈ p.remap) ∧
      d.rdF (MEMP_RETIRED m) 12 0 = (d.port m).remap.length % 8192 ∧ (∀ x, x ≠ m → d.port x = s.dev.port x) ∧
      kvGet? d.boot.store.pages m = some (d.port m).remap ∧ OnlyRegs [MEMP_RETIRED m] { s.dev with memp := d.memp, boot := d.boot } d) ∧
    let due := bitOf (s.dev.rd (MEMP_SCRUB_CFG m)) 0 = false ∧ p.resetTick + usTicks (3600000000 * s.dev.rdF (MEMP_SCRUB_CFG m) 15 8) ≤ s.dev.time.tb
    (due → Gives (.correctionCountReset m) s fun d =>
      d.port m = { p with pageCe := [], resetTick := s.dev.time.tb } ∧ (∀ x, x ≠ m → d.port x = s.dev.port x) ∧ d = { s.dev with memp := d.memp }) ∧
    (¬due → Gives (.correctionCountReset m) s (· = s.dev))) ∧
  (∀ (s : State) (m temp : Nat), m < 8 → Gives (.hbmTempPoll m temp) s fun d =>
    let t := toSigned 16 temp
    let w := s.dev.rd (MEMP_STATUS_MP m)
    let w' := d.rd (MEMP_STATUS_MP m)
    d.rdF (MEMP_TEMP m) 15 0 = temp % 65536 ∧
    bitOf w' 2 = (if bitOf w 2 then decide (328 < t) else decide (341 ≤ t)) ∧ bitOf w' 3 = (if bitOf w 3 then decide (368 < t) else decide (380 ≤ t)) ∧
    (fld w 5 4 = 0 → fld w' 5 4 = if 372 ≤ t then 2 else if 360 ≤ t then 1 else 0) ∧
    (fld w 5 4 = 1 → fld w' 5 4 = if 372 ≤ t then 2 else if 348 < t then 1 else 0) ∧
    (fld w 5 4 = 2 → fld w' 5 4 = if 360 < t then 2 else if 348 < t then 1 else 0) ∧
    fld w' 1 0 = fld w 1 0 ∧ fld w' 31 6 = fld w 31 6 ∧
    (w' = w → d.flt = s.dev.flt) ∧ (w' ≠ w → d.flt.pendingRecords.length = s.dev.flt.pendingRecords.length + 1) ∧
    (∀ k, kvGet? d.pwr.oppReq k = if k = 6 ∧ (List.range 8).all (fun x => !mempHot d x) then none else kvGet? s.dev.pwr.oppReq k) ∧
    d.pwr = { s.dev.pwr with oppReq := d.pwr.oppReq } ∧
    ((∃ x, x < 8 ∧ mempHot d x = true) → d.rd PWR_THR_CAUSE = s.dev.rd PWR_THR_CAUSE) ∧
    RegsKeep [MEMP_STATUS_MP m, MEMP_TEMP m, MEMP_THROTTLE_US m, PWR_THR_CAUSE] s.dev d ∧ d = { s.dev with regs := d.regs, memp := d.memp, pwr := d.pwr, flt := d.flt })

/-- RT_DATA_ACCESS of a place that exists, of a router that is not fenced: a read answers the word in force and moves
the address on, and changes nothing else. A write of the one word of a binding entry with no unnamed bit set, by an
agent that may write the page of a powered field that is not fenced, in a device that is up, changes that entry of
that router alone. A write of an earlier word of a reduction or broadcast entry changes no entry in force; the write
of its last word, its content legal, puts the whole entry in force at once, and no entry of another ID or another
router changes. A read of a place that fails a check of the place answers 0 and is rejected with the first failing
code. (07_fabric.md R279, 07_fabric.md R288, 07_fabric.md R292, 07_fabric.md R313) -/
def Obligations.RouterTables : Prop :=
  (∀ (s : State) (f agent : Nat), f < 12 →
    (firstFail (rtPlaceChecks s.dev f) = none → Gives (.rtDataAccess f agent none) s fun d =>
      d.resp = { kind := .ok, bytes := leBytes 4 (rtRead s.dev (rtSite s.dev f) (rtTable s.dev f) (rtIndex s.dev f) (rtWord s.dev f)).toNat } ∧
      d.rd (FIELD_RT_ADDR f) = (rtAdvance f s.dev).rd (FIELD_RT_ADDR f) ∧ RegsKeep [FIELD_RT_ADDR f] s.dev d ∧
      d = { s.dev with regs := d.regs, resp := d.resp }) ∧
    (∀ c, firstFail (rtPlaceChecks s.dev f) = some c → Gives (.rtDataAccess f agent none) s fun d =>
      d = { s.dev.reject (.field f) 0x934 agent c with resp := { kind := .ok, bytes := leBytes 4 0 } })) ∧
  (∀ (s : State) (f agent : Nat) (data : Word), f < 12 → firstFail (rtPlaceChecks s.dev f) = none →
    s.dev.mayWrite agent (.field f) = true → s.dev.isFenced (.field f) = false → s.dev.up = true →
    let site := rtSite s.dev f
    let index := rtIndex s.dev f
    let word := rtWord s.dev f
    let e := rtAssembled s.dev site (rtTable s.dev f) index word data
    let frame := fun (d : Dev) => RegsKeep [FIELD_RT_ADDR f] s.dev d ∧ d = { s.dev with regs := d.regs, fab := d.fab } ∧ d.fab.net = s.dev.fab.net ∧
      d.fab.insts = s.dev.fab.insts
    (rtTable s.dev f = 0 → fld data 30 22 = 0 → Gives (.rtDataAccess f agent (some data)) s fun d =>
      bindEntry d site index = data ∧ (∀ n x, x < 16384 → ¬(n = site ∧ x = index) → bindEntry d n x = bindEntry s.dev n x) ∧
      d.rdF (FIELD_RT_ADDR f) 27 14 = (index + 1) % 16384 ∧ d.fab.red = s.dev.fab.red ∧ d.fab.bc = s.dev.fab.bc ∧ frame d) ∧
    (rtTable s.dev f = 1 → word < 2 → (s.dev.fab.insts.any fun r => r.site == site && r.id == index && !r.dead) = false →
      Gives (.rtDataAccess f agent (some data)) s fun d =>
        d.fab.red = s.dev.fab.red ∧ d.fab.bc = s.dev.fab.bc ∧ d.fab.bindRt = s.dev.fab.bindRt ∧
        kvGet? d.fab.rtHeld (rtKey site 1 index word) = some data ∧ d.rdF (FIELD_RT_ADDR f) 29 28 = word + 1 ∧ frame d) ∧
    (rtTable s.dev f = 1 → word = 2 → (s.dev.fab.insts.any fun r => r.site == site && r.id == index && !r.dead) = false →
      firstFail (rtContentChecks s.dev site 1 index e) = none → Gives (.rtDataAccess f agent (some data)) s fun d =>
        (∀ w, w < 3 → redEntry d site index w = e.getD w 0) ∧
        (∀ n x w, x < 256 → w < 3 → ¬(n = site ∧ x = index) → redEntry d n x w = redEntry s.dev n x w) ∧
        d.fab.bc = s.dev.fab.bc ∧ d.fab.bindRt = s.dev.fab.bindRt ∧ frame d) ∧
    (rtTable s.dev f = 2 → word = 1 → (4 ≤ index ∨ isPewter agent = true) → firstFail (rtContentChecks s.dev site 2 index e) = none →
      Gives (.rtDataAccess f agent (some data)) s fun d =>
        (∀ w, w < 2 → bcEntry d site index w = e.getD w 0) ∧
        (∀ n x w, x < 64 → w < 2 → ¬(n = site ∧ x = index) → bcEntry d n x w = bcEntry s.dev n x w) ∧
        d.fab.red = s.dev.fab.red ∧ d.fab.bindRt = s.dev.fab.bindRt ∧ frame d))

/-- By an agent that may write the STRM page, in a device that is up, with no OPEN in progress: a command whose checks
fail is only rejected, with what REJ_INFO shows. OPEN of a FREE stream with its checks passed raises GEN, clears
ATTEMPT and starts the initialisation of the commit area, with BUSY. CLOSE of a RUNNING stream with a beat in flight
makes it CLOSING, of any other, but for a FREE one, FREE, with nothing pending. PAUSE of a WAITING or READY stream
makes it PAUSED, of a RUNNING one sets PAUSE_PEND. RESUME of a PAUSED stream: RUNNING with a replay pending, else
READY or WAITING as there is work. STRM_CREDIT adds credits; STRM_RELEASE outside a twin and a herd stores the frame,
the deadline's frame and the limit of ingestion and adds the credits per release, to at most 65,535; after both, every
WAITING stream with work is READY. CLEAR of a FAULTED stream makes it PAUSED with attempt 0 and a replay pending. No
other register and nothing outside the stream manager changes. (08_streams_context.md R318, 08_streams_context.md
R319, 08_streams_context.md R320, 08_streams_context.md R321, 08_streams_context.md R328, 08_streams_context.md R343,
08_streams_context.md R359, 02_control_model.md R43) -/
def Obligations.StreamCommands : Prop :=
  ∀ (s : State) (agent n arg : Nat), n < 16384 → arg < 16384 → s.dev.mayWrite agent .strm = true → s.dev.up = true → s.dev.strm.opening = none →
    let st := s.dev.strmSt n
    let woken := fun (d : Dev) => ∀ m, m < 16384 → d.strmSt m = if s.dev.strmSt m = 1 ∧ hasWork d m = true then 2 else s.dev.strmSt m
    (∀ (c : Instr) (op a : Nat) (code : ErrCode), (c, op, a) ∈ [(Instr.openStream agent n, 1, 0), (.closeStream agent n, 2, 0), (.pauseStream agent n, 3, 0),
        (.resumeStream agent n, 4, 0), (.strmCredit agent n arg, 5, arg), (.strmRelease agent n, 6, 0), (.clearStream agent n, 7, 0)] →
      firstFail (opChecks s.dev n op a) = some code → Gives c s fun d =>
        d = strmReject n 0 0 0x104 agent code s.dev ∧ d.strm = s.dev.strm ∧ RegsKeep (STRM_REJ_INFO :: errRegs .strm) s.dev d) ∧
    (firstFail (openChecks s.dev n) = none → Gives (.openStream agent n) s fun d =>
      d.strm = { s.dev.strm with opening := some n } ∧ d.dF n 0 31 24 = (s.dev.dF n 0 31 24 + 1) % 256 ∧ strmAttempt d n = 0 ∧
      bitOf (d.rd (Page.strm.base + 0xC)) 4 = true ∧ d.strmSt n = 0 ∧
      RegsKeep [descAddr n 0, descAddr n 7, Page.strm.base + 0xC] s.dev d ∧ d = { s.dev with regs := d.regs, strm := d.strm }) ∧
    (st = 3 → inFlight s.dev n = true → Gives (.closeStream agent n) s fun d =>
      d.strmSt n = 5 ∧ replayPend d n = false ∧ OnlyRegs [descAddr n 0] s.dev d) ∧
    (st ≠ 0 → ¬(st = 3 ∧ inFlight s.dev n = true) → Gives (.closeStream agent n) s fun d =>
      d.strmSt n = 0 ∧ replayPend d n = false ∧ pausePend d n = false ∧ kvGet? d.strm.replay n = none ∧ n ∉ d.strm.deadlines ∧
      n ∉ d.strm.missed ∧ n ∉ d.strm.rollbackNext ∧ kvGet? d.strm.parked n = none ∧ d.strm.beats.map (fun b => { b with orphan := false }) = s.dev.strm.beats.map (fun b => { b with orphan := false }) ∧
      (∀ m, m < 16384 → m ≠ n → d.strmSt m = s.dev.strmSt m) ∧ (inCmpRange s.dev n = false → RegsKeep [descAddr n 0] s.dev d) ∧
      d = { s.dev with regs := d.regs, strm := d.strm, peer := d.peer }) ∧
    ((st = 1 ∨ st = 2 ∨ st = 3) → Gives (.pauseStream agent n) s fun d =>
      OnlyRegs [descAddr n 0] s.dev d ∧
      if st = 3 then d.strmSt n = 3 ∧ pausePend d n = true else d.strmSt n = 4 ∧ pausePend d n = false) ∧
    (st = 4 → s.dev.flt.stalePrograms.contains (strmProg s.dev n) = false → Gives (.resumeStream agent n) s fun d =>
      d.strmSt n = (if replayPend s.dev n then 3 else if hasWork s.dev n then 2 else 1) ∧ OnlyRegs [descAddr n 0] s.dev d) ∧
    ((st = 1 ∨ st = 2 ∨ st = 3 ∨ st = 4) →
      (0 < arg → credits16 s.dev n + arg ≤ 65535 → Gives (.strmCredit agent n arg) s fun d =>
        credits16 d n = credits16 s.dev n + arg ∧ woken d ∧ RegsOnly s.dev d ∧
        ∀ a, a ≠ descAddr n 8 → (∀ m, m < 16384 → a ≠ descAddr m 0) → d.rd a = s.dev.rd a) ∧
      (compared s.dev n = false → isMember s.dev = false → kvGet? s.dev.peer.rebuild n = none → Gives (.strmRelease agent n) s fun d =>
        d.dF n 13 31 0 = s.dev.frame ∧ d.dF n 15 31 0 = (s.dev.frame + s.dev.dF n 1 7 0) % 2 ^ 32 ∧
        credits16 d n = min 65535 (credits16 s.dev n + s.dev.dF n 9 15 0) ∧ d.dF n 14 31 0 = (s.dev.rd (STRM_RING_PROD (strmRing s.dev n))).toNat ∧
        (n ∈ d.strm.deadlines ↔ dlEn s.dev n = true) ∧ n ∉ d.strm.missed ∧ woken d ∧
        d = { s.dev with regs := d.regs, strm := { s.dev.strm with missed := d.strm.missed, deadlines := d.strm.deadlines } } ∧
        ∀ a, a ∉ [descAddr n 8, descAddr n 13, descAddr n 14, descAddr n 15] → (∀ m, m < 16384 → a ≠ descAddr m 0) → d.rd a = s.dev.rd a)) ∧
    (st = 6 → Gives (.clearStream agent n) s fun d =>
      d.strmSt n = 4 ∧ replayPend d n = true ∧ strmAttempt d n = 0 ∧ pausePend d n = false ∧ OnlyRegs [descAddr n 0, descAddr n 7] s.dev d)

/-- DESCRIPTOR_WRITE by an agent that may write the STRM page, in a device that is up, of a FREE stream or of bits
that may change in any state: the writable bits of the word take the data's value, the others stay, and no other
register changes; a change of a bit that is writable in FREE only, of another stream, is only rejected with STATE,
with what REJ_INFO shows. PROG_DATA_ACCESS: a read answers the word in force and moves on; a write of a word before
the last is held; the write of the last word of a program that no waiting or running stream names puts the whole
program in force and makes it valid. RING_PROD_WRITE by the ring's producer of an index that moves forward within the
ring sets it and wakes the streams with work; an index beyond is rejected with RANGE. DEADLINE_REACHED of a stream
with an outstanding deadline that has been reached and work left: one record, the two miss counts rise, and the policy
of the descriptor is applied: nothing, the work dropped, or PAUSE; without work left nothing but the check is over;
before the deadline nothing changes. (08_streams_context.md R315, 08_streams_context.md R316, 08_streams_context.md
R323, 08_streams_context.md R327, 08_streams_context.md R332, 08_streams_context.md R335, 08_streams_context.md R359,
14_channels_twin_herd.md R527) -/
def Obligations.StreamTables : Prop :=
  (∀ (s : State) (agent n w : Nat) (data : Word), n < 16384 → w < 16 → s.dev.mayWrite agent .strm = true → s.dev.up = true →
    let m := descWritable.getD w 0
    let old := s.dev.rd (descAddr n w)
    let changed := (old.toNat ^^^ data.toNat) &&& m
    m ≠ 0 → data.toNat &&& (0xFFFFFFFF - descNamed.getD w 0) = 0 →
    ((s.dev.strmSt n = 0 ∨ (changed &&& descFreeOnly.getD w 0 = 0 ∧ (w = 0 → changed.testBit 18 = false))) →
      Gives (.descriptorWrite agent n w data) s fun d =>
        (∀ i, i < 32 → bitOf (d.rd (descAddr n w)) i = if m.testBit i then bitOf data i else bitOf old i) ∧ OnlyRegs [descAddr n w] s.dev d) ∧
    (s.dev.strmSt n ≠ 0 → changed &&& descFreeOnly.getD w 0 ≠ 0 → (w = 0 → changed.testBit 18 = false) →
      Gives (.descriptorWrite agent n w data) s fun d => d = strmReject n w 1 ((64 * n + 4 * w) % 4096) agent .state s.dev)) ∧
  (∀ (s : State) (agent : Nat),
    let p := s.dev.rdF STRM_PROG_ADDR 5 0
    let w := s.dev.rdF STRM_PROG_ADDR 13 8
    (w < 50 → Gives (.progDataAccess agent none) s fun d =>
      d.resp = { kind := .ok, bytes := leBytes 4 (progWord s.dev p w).toNat } ∧ d.rdF STRM_PROG_ADDR 13 8 = (w + 1) % 64 ∧
      RegsKeep [STRM_PROG_ADDR] s.dev d ∧ d = { s.dev with regs := d.regs, resp := d.resp }) ∧
    (∀ x : Word, s.dev.mayWrite agent .strm = true → s.dev.up = true → progNamed s.dev p = false →
      let held := fun i => if i = w then x else (kvGet? s.dev.strm.progHeld (50 * p + i)).getD (progWord s.dev p i)
      (w < 49 → (w = 1 → fld x 31 16 = 0) → (2 ≤ w → x.toNat &&& 0xE000E000 = 0) → Gives (.progDataAccess agent (some x)) s fun d =>
        kvGet? d.strm.progHeld (50 * p + w) = some x ∧ d.strm.progs = s.dev.strm.progs ∧ d.rdF STRM_PROG_ADDR 13 8 = w + 1 ∧
        RegsKeep [STRM_PROG_ADDR] s.dev d ∧ d = { s.dev with regs := d.regs, strm := { s.dev.strm with progHeld := d.strm.progHeld } }) ∧
      (w = 49 → x.toNat &&& 0xE000E000 = 0 → (held 0).toNat + 2 ^ 32 * fld (held 1) 15 0 ≠ 0 → Gives (.progDataAccess agent (some x)) s fun d =>
        (∀ i, i < 50 → progWord d p i = held i) ∧ (∀ q i, q ≠ p → i < 50 → progWord d q i = progWord s.dev q i) ∧ progValid d p = true ∧
        (∀ i, i < 50 → kvGet? d.strm.progHeld (50 * p + i) = none) ∧ RegsKeep [STRM_PROG_ADDR, STRM_PROG_VALID (p / 32)] s.dev d))) ∧
  (∀ (s : State) (r agent : Nat) (data : Word), r < 64 → s.dev.mayWrite agent .strm = true → s.dev.up = true →
    let who := ringProducer s.dev r
    let g := ring s.dev r
    ((who = 0 ∧ agent = agentHost) ∨ (who = 1 ∧ isPewter agent = true)) →
    ((data.toNat + 2 ^ 32 - g.prod) % 2 ^ 32 < 2 ^ 31 → (data.toNat + 2 ^ 32 - g.cons) % 2 ^ 32 ≤ g.size → Gives (.ringProdWrite r agent data) s fun d =>
      d.rd (STRM_RING_PROD r) = data ∧ RegsOnly s.dev d ∧
      (∀ m, m < 16384 → d.strmSt m = if s.dev.strmSt m = 1 ∧ hasWork d m = true then 2 else s.dev.strmSt m) ∧
      ∀ a, a ≠ STRM_RING_PROD r → (∀ m, m < 16384 → a ≠ descAddr m 0) → d.rd a = s.dev.rd a) ∧
    ((2 ^ 31 ≤ (data.toNat + 2 ^ 32 - g.prod) % 2 ^ 32 ∨ g.size < (data.toNat + 2 ^ 32 - g.cons) % 2 ^ 32) → Gives (.ringProdWrite r agent data) s fun d =>
      d = s.dev.reject .strm (0x148 + 16 * r) agent .range)) ∧
  (∀ (s : State) (n : Nat), n < 16384 →
    let due := n ∈ s.dev.strm.deadlines ∧ deadlineReached s.dev n = true
    let st := s.dev.strmSt n
    let left := if ringEn s.dev n then between (ring s.dev (strmRing s.dev n)).cons (s.dev.dF n 14 31 0) else 0
    let missed := dlEn s.dev n = true ∧ (st = 1 ∨ st = 2 ∨ st = 3 ∨ st = 5) ∧ (0 < credits16 s.dev n ∨ 0 < left)
    (¬due → Gives (.deadlineReached n) s (· = s.dev)) ∧
    (due → ¬missed → Gives (.deadlineReached n) s fun d => n ∉ d.strm.deadlines ∧ d = { s.dev with strm := { s.dev.strm with deadlines := d.strm.deadlines } }) ∧
    (due → missed → Gives (.deadlineReached n) s fun d =>
      n ∉ d.strm.deadlines ∧ n ∈ d.strm.missed ∧ d.dF n 9 31 24 = min 255 (s.dev.dF n 9 31 24 + 1) ∧
      d.rd STRM_MISS_COUNT = satAdd (s.dev.rd STRM_MISS_COUNT) 1 ∧
      (∃ e : ErrRec, e.cls = 0x13 ∧ e.synd = (credits16 s.dev n + min left 0x7FFF * 2 ^ 16) % 2 ^ 32 ∧ d.flt.pendingRecords = s.dev.flt.pendingRecords ++ [e]) ∧
      ((s.dev.dF n 0 10 9 = 0 ∨ s.dev.dF n 0 10 9 = 3) → d.strmSt n = st ∧ credits16 d n = credits16 s.dev n) ∧
      (s.dev.dF n 0 10 9 = 1 → credits16 d n = 0 ∧ d.strmSt n = (if st = 2 ∧ hasWork d n = false then 1 else st) ∧
        (0 < left → (d.rd (STRM_RING_CONS (strmRing s.dev n))).toNat = s.dev.dF n 14 31 0)) ∧
      (s.dev.dF n 0 10 9 = 2 → (st = 3 → pausePend d n = true) ∧ d.strmSt n = if st = 1 ∨ st = 2 then 4 else st) ∧
      RegsKeep [descAddr n 0, descAddr n 8, descAddr n 9, STRM_MISS_COUNT, STRM_RING_CONS (strmRing s.dev n)] s.dev d))

/-- OPEN_DONE of the stream being opened, outside paired mode: the commit record's page holds no beat and the
generation, both slot headers are invalid, no other byte of memory changes, and the stream is READY or WAITING as it
has work. BEAT_ISSUE, with issue enabled, no bank swap waiting, no fold mask waiting, outside paired mode: the next
stream of the order is RUNNING, its slot's header is invalid, and its beat's command goes to each sequencer of its
program; with no such stream nothing changes. BEAT_COMMIT, with REFCLK present and no reset, of a beat of a stream not
closed since, whose commands are all complete, with no failure or report, of a stream outside twin, herd and paired
mode, with no trial: slot header and commit record name the beat, released; the next beat is attempt 0; a decode beat
takes a credit, an ingestion beat its entries; the beat is over and COMMITS rises; the stream is READY or WAITING,
PAUSED if that was pending, FREE if it was CLOSING; no other byte changes; an incomplete one changes nothing; a
poisoned payload makes it fail. BEAT_FAIL_REPORT takes the oldest report and marks the beat that it names.
BEAT_ABORT_DONE of a failed beat of a stream not closed since, whose sequencers are idle for it, with no trial: the
beat is over, REPLAY_COUNT rises, and the stream's next attempt is pending; at MAX_ATTEMPT the stream is FAULTED;
CLOSING becomes FREE. (08_streams_context.md R319, 08_streams_context.md R324, 08_streams_context.md R325,
08_streams_context.md R329, 08_streams_context.md R331, 08_streams_context.md R334, 08_streams_context.md R335,
08_streams_context.md R336, 08_streams_context.md R337, 08_streams_context.md R342, 08_streams_context.md R343,
08_streams_context.md R344) -/
def Obligations.Beats : Prop :=
  (∀ (s : State), (s.dev.strm.opening = none → Completes .openDone s (· = s)) ∧
    (∀ n, s.dev.strm.opening = some n → n < 16384 → s.dev.chanMode ≠ 2 → Completes .openDone s fun t =>
      let base := commitBase s.dev n
      t.dev.strm = { s.dev.strm with opening := none } ∧ t.dev.strmSt n = (if hasWork s.dev n then 2 else 1) ∧
      bitOf (t.dev.rd (Page.strm.base + 0xC)) 4 = false ∧
      (∀ i, i < 4096 → t.mem.byteAt (base + i) = if i < 6 ∨ (8 ≤ i ∧ i < 14) then 0xFF else if i = 7 then BitVec.ofNat 8 (s.dev.dF n 0 31 24) else 0) ∧
      (∀ k i, k < 2 → i < 6 → t.mem.byteAt (slotAddr s.dev n k + i) = 0xFF) ∧
      (∀ a, (a < base ∨ base + 4096 ≤ a) → (∀ k, k < 2 → a < slotAddr s.dev n k ∨ slotAddr s.dev n k + 6 ≤ a) → t.mem.byteAt a = s.mem.byteAt a) ∧
      RegsKeep (descAddr n 0 :: (Page.strm.base + 0xC) :: lineCounters) s.dev t.dev ∧ t.pending = s.pending)) ∧
  (∀ (s : State), s.dev.strm.swaps = [] →
    ((issueOn s.dev = false ∨ nextStream s.dev = none) → Completes .beatIssue s (· = s)) ∧
    (∀ n, issueOn s.dev = true → nextStream s.dev = some n → s.dev.chanMode ≠ 2 → s.dev.peer.maskPend = none → s.dev.strm.rollbackNext.contains n = false →
      Completes .beatIssue s fun t =>
        let beat := strmBeat s.dev n
        let qs := progSeqs s.dev (strmProg s.dev n)
        eligible s.dev n = true ∧ t.dev.strmSt n = 3 ∧ replayPend t.dev n = false ∧ t.dev.strm.rr = (n + 1) % 16384 ∧
        (∃ b : Beat, t.dev.strm.beats = s.dev.strm.beats ++ [b] ∧ b.stream = n ∧ b.beat = beat ∧ b.attempt = strmAttempt s.dev n ∧ b.seqs = qs ∧
          b.left = qs ∧ b.failed = false ∧
          (replayPend s.dev n = false → b.kind = (if 0 < entries s.dev n then 1 else 0) ∧
            b.tokens = if 0 < entries s.dev n then min (s.dev.dF n 8 27 16 + 1) (entries s.dev n) else 1)) ∧
        (∃ l : List (Nat × Cmd), t.dev.fab.cmds = s.dev.fab.cmds ++ l ∧ l.map (·.1) = qs ∧
          ∀ e ∈ l, e.2.stream = n ∧ e.2.beat = beat ∧ e.2.attempt = strmAttempt s.dev n ∧ e.2.tag = beat % 4096 + strmAttempt s.dev n % 16 * 4096) ∧
        (∀ i, i < 6 → t.mem.byteAt (slotAddr s.dev n beat + i) = 0xFF) ∧
        (∀ a, (a < slotAddr s.dev n beat ∨ slotAddr s.dev n beat + 6 ≤ a) → t.mem.byteAt a = s.mem.byteAt a) ∧
        RegsKeep (descAddr n 0 :: lineCounters) s.dev t.dev ∧ t.pending = s.pending)) ∧
  (∀ (s : State) (n : Nat) (b : Beat), n < 16384 → s.dev.strm.beats.find? (fun b => b.stream == n && !b.refill) = some b →
    compared s.dev n = false → isMember s.dev = false → s.dev.chanMode = 0 → kvGet? s.dev.peer.rebuild n = none → history s.dev n = [] →
    s.dev.flt.trial = none → b.orphan = false →
    let waits := b.left ≠ [] ∨ b.failed = true ∨ reportPending s.dev n b.tag = true ∨ inReset s.dev = true ∨ s.dev.clk.refLost = true
    let slot := slotAddr s.dev n b.beat
    let base := commitBase s.dev n
    (waits → Completes (.beatCommit n) s (· = s)) ∧
    (¬waits → slotPoisoned s.mem slot (slotPages s.dev n) = true → Gives (.beatCommit n) s fun d =>
      ∀ y ∈ d.strm.beats, y.stream = n → y.tag = b.tag → y.failed = true) ∧
    (¬waits → slotPoisoned s.mem slot (slotPages s.dev n) = false → (∀ y ∈ s.dev.strm.beats, y.stream = n → y.tag = b.tag → y.failed = false) →
      Completes (.beatCommit n) s fun t =>
        let d := t.dev
        t.mem.readN slot 6 = b.beat % 2 ^ 48 ∧ t.mem.byteAt (slot + 6) = BitVec.ofNat 8 b.attempt ∧ t.mem.byteAt (slot + 7) = BitVec.ofNat 8 b.kind ∧
        t.mem.readN base 6 = b.beat % 2 ^ 48 ∧ t.mem.byteAt (base + 7) = BitVec.ofNat 8 (s.dev.dF n 0 31 24) ∧ t.mem.readN (base + 8) 6 = b.beat % 2 ^ 48 ∧
        (∀ a, (a < slot ∨ slot + 64 ≤ a) → (a < base ∨ base + 64 ≤ a) → t.mem.byteAt a = s.mem.byteAt a) ∧
        strmBeat d n = (b.beat + 1) % 2 ^ 48 ∧ strmAttempt d n = 0 ∧ d.rd64 STRM_COMMITS_LO = (s.dev.rd64 STRM_COMMITS_LO + 1) % 2 ^ 48 ∧
        (b.kind = 1 → d.rd (STRM_RING_CONS (strmRing s.dev n)) = w32 ((ring s.dev (strmRing s.dev n)).cons + b.tokens) ∧ credits16 d n = credits16 s.dev n) ∧
        (b.kind ≠ 1 → credits16 d n = credits16 s.dev n - 1) ∧
        (∀ y ∈ d.strm.beats, ¬(y.stream = n ∧ y.tag = b.tag ∧ y.refill = false)) ∧
        (s.dev.strmSt n = 5 → d.strmSt n = 0) ∧
        (s.dev.strmSt n = 3 → d.strmSt n = if pausePend s.dev n then 4 else if hasWork d n then 2 else 1) ∧
        d.tiles = s.dev.tiles ∧ d.seqs = s.dev.seqs ∧ t.pending = s.pending)) ∧
  (∀ (s : State),
    (s.dev.flt.failReports = [] → Gives .beatFailReport s (· = s.dev)) ∧
    (∀ r rest, s.dev.flt.failReports = r :: rest → Gives .beatFailReport s fun d =>
      d.flt.failReports = rest ∧ (∀ b ∈ d.strm.beats, b.stream = r.1 → b.tag = r.2 → b.failed = true) ∧
      d.strm.beats.length = s.dev.strm.beats.length ∧ d.tiles = s.dev.tiles ∧
      ((∀ b ∈ s.dev.strm.beats, ¬(b.stream = r.1 ∧ b.tag = r.2)) → d = { s.dev with flt := { s.dev.flt with failReports := rest } }))) ∧
  (∀ (s : State) (n : Nat) (b : Beat), n < 16384 → s.dev.strm.beats.find? (fun b => b.stream == n && b.failed) = some b → b.left = [] → b.refill = false → b.orphan = false →
    s.dev.flt.trial = none →
    (reportPending s.dev n b.tag = true → Gives (.beatAbortDone n) s (· = s.dev)) ∧
    (reportPending s.dev n b.tag = false → Gives (.beatAbortDone n) s fun d =>
      d.rd STRM_REPLAY_COUNT = satAdd (s.dev.rd STRM_REPLAY_COUNT) 1 ∧
      (∀ y ∈ d.strm.beats, ¬(y.stream = n ∧ y.tag = b.tag ∧ y.refill = false)) ∧ d.tiles = s.dev.tiles ∧ d.seqs = s.dev.seqs ∧
      (s.dev.strmSt n = 5 → d.strmSt n = 0) ∧
      (s.dev.strmSt n ≠ 5 → b.dropped = false → maxAttempt s.dev ≤ b.attempt → d.strmSt n = 6 ∧ replayPend d n = true) ∧
      (s.dev.strmSt n ≠ 5 → b.dropped = false → b.attempt < maxAttempt s.dev → strmAttempt d n = (b.attempt + 1) % 256 ∧ replayPend d n = true ∧
        d.strmSt n = if pausePend s.dev n then 4 else s.dev.strmSt n)))

/-- In a field whose clock runs: SEL_REQUEST takes the oldest delivered request of a selector: enabled, with fewer
than four requests waiting and the request well formed, it ends the queue and STATUS shows the queue; with four
waiting it is refused and SEL.REFUSED_COUNT rises, malformed it is refused and BAD_REQ_COUNT rises; disabled it is
dropped; with none nothing changes. SEL_SCAN_DONE of the oldest waiting request removes it, counts the scan and shows
its layer and the queue; with none nothing changes. No tile's memory changes. (08_streams_context.md R348,
08_streams_context.md R349, 08_streams_context.md R351, 08_streams_context.md R352, 08_streams_context.md R353,
08_streams_context.md R362) -/
def Obligations.Selectors : Prop :=
  ∀ (s : State) (f : Nat), f < 12 → s.dev.meshRuns f = true →
    let shown := fun (d : Dev) => d.rdF (SEL_STATUS f) 2 0 = (selReqs d f).length % 8 ∧ bitOf (d.rd (SEL_STATUS f)) 15 = !(selReqs d f).isEmpty
    (kvGetD s.dev.strm.selIn [] f = [] → Gives (.selRequest f) s (· = s.dev)) ∧
    (∀ r rest, kvGetD s.dev.strm.selIn [] f = r :: rest →
      (bitOf (s.dev.rd SEL_CFG) 0 = false → Gives (.selRequest f) s fun d =>
        kvGetD d.strm.selIn [] f = rest ∧ selReqs d f = selReqs s.dev f ∧ d = { s.dev with strm := { s.dev.strm with selIn := d.strm.selIn } }) ∧
      (bitOf (s.dev.rd SEL_CFG) 0 = true → (selReqs s.dev f).length < 4 → selBad s.dev r = false → Gives (.selRequest f) s fun d =>
        kvGetD d.strm.selIn [] f = rest ∧ selReqs d f = selReqs s.dev f ++ [r.take 20] ∧ shown d ∧ RegsKeep [SEL_STATUS f] s.dev d ∧
        (∀ g, g ≠ f → selReqs d g = selReqs s.dev g) ∧ d = { s.dev with regs := d.regs, strm := d.strm }) ∧
      (bitOf (s.dev.rd SEL_CFG) 0 = true → 4 ≤ (selReqs s.dev f).length → Gives (.selRequest f) s fun d =>
        d.rd SEL_REFUSED_COUNT = satAdd (s.dev.rd SEL_REFUSED_COUNT) 1 ∧ selReqs d f = selReqs s.dev f ∧ kvGetD d.strm.selIn [] f = rest ∧ d.tiles = s.dev.tiles) ∧
      (bitOf (s.dev.rd SEL_CFG) 0 = true → (selReqs s.dev f).length < 4 → selBad s.dev r = true → Gives (.selRequest f) s fun d =>
        d.rd SEL_BAD_REQ_COUNT = satAdd (s.dev.rd SEL_BAD_REQ_COUNT) 1 ∧ selReqs d f = selReqs s.dev f ∧ kvGetD d.strm.selIn [] f = rest ∧ d.tiles = s.dev.tiles)) ∧
    (selReqs s.dev f = [] → Gives (.selScanDone f) s (· = s.dev)) ∧
    (∀ r rest, selReqs s.dev f = r :: rest → Gives (.selScanDone f) s fun d =>
      selReqs d f = rest ∧ (∀ g, g ≠ f → selReqs d g = selReqs s.dev g) ∧ shown d ∧ d.rd SEL_SCAN_COUNT = satAdd (s.dev.rd SEL_SCAN_COUNT) 1 ∧
      d.rdF (SEL_STATUS f) 14 8 = fld (r.getD 16 0) 6 0 ∧ d.tiles = s.dev.tiles ∧ d.seqs = s.dev.seqs)

/-- Every frame that carries a SEQ of its own: from a module it may not come from it is only counted in
STALE_FRAME_COUNT and recorded; a repeated one only tells that its sender is heard and what it acknowledges; one ahead
of its turn changes nothing. HEARTBEAT and HELLO take no SEQ. HEARTBEAT_SEND sends one frame to each peer on every
plane that is up. A frame of unknown TYPE is recorded. SNIGUS_RETRANSMIT sends every frame that has waited 20 us again
on the next plane; after 8 times the partner is lost. HELLO in LINKING, no Pewter restart being under way, forms the
twin, with an answer and one record, or refuses it for the first reason that holds in the order of R533's list (the
model's order, log entry 123), with one record for each new reason; HELLO_SEND sends in LINKING, and a lost twin links
again. No frame leaves during a Pewter restart. (14_channels_twin_herd.md R529, 14_channels_twin_herd.md R530,
14_channels_twin_herd.md R531, 14_channels_twin_herd.md R533, 14_channels_twin_herd.md R541, 14_channels_twin_herd.md
R557, 15_bringup_reset_licences.md R592) -/
def Obligations.SnigusFrames : Prop :=
  (∀ (s : State) (h : FrameHdr) (n a b g fr p : Nat) (pair : Bool) (o : Int) (gens : List Nat) (w : Word) (x : Option Word) (bs : List Byte) (c : Instr) (typ : Nat),
    ((c, typ) ∈ [(Instr.digestFrame h n b a g, 3), (.holdFrame h n b a pair, 4), (.ingestFrame h n a b, 5), (.timeFrame h o a, 6), (.frameFrame h n a, 7),
        (.membershipFrame h n a b g gens, 0xB), (.reportFrame h n a b g fr p, 0xC), (.shareFrame h a, 0xD), (.schedFrame h w w w w pair, 0xE),
        (.appendFrame h n a b, 0xF), (.regAccess h a x, 0x10), (.regResp h n a b, 0x11), (.partialFrame h n bs, 0x12)] ∨
      (c = .copyFrame h a bs ∧ typ = 0x13 ∧ a + bs.length ≤ memCapacity ∧ h.src ≠ ownKey s.dev)) →
    (knownPeer s.dev h = false → Gives c s (· = staleFrame h typ s.dev)) ∧
    (knownPeer s.dev h = true → h.seq ≤ kvGetD s.dev.peer.seqIn 0 h.src → Gives c s (· = frameHeard h s.dev)) ∧
    (knownPeer s.dev h = true → kvGetD s.dev.peer.seqIn 0 h.src + 1 < h.seq → Gives c s (· = s.dev))) ∧
  (∀ (s : State) (h : FrameHdr) (typ : Nat),
    let stale := (s.dev.bump HERD_STALE_FRAME_COUNT).record 0x1A 12 (h.src % 256) (9 + typ % 256 * 2 ^ 8)
    staleFrame h typ s.dev = stale ∧
    (1 ≤ typ ∧ typ ≤ 0x13 → Gives (.snigusBadFrame h typ) s (· = s.dev)) ∧
    (¬(1 ≤ typ ∧ typ ≤ 0x13) → Gives (.snigusBadFrame h typ) s (· = s.dev.record 0x1A 12 (h.src % 256) (9 + typ % 256 * 2 ^ 8))) ∧
    (knownPeer s.dev h = false → Gives (.heartbeatFrame h) s (· = staleFrame h 2 s.dev)) ∧
    (knownPeer s.dev h = true → Gives (.heartbeatFrame h) s (· = { s.dev with
      peer := { s.dev.peer with heard := kvPut s.dev.peer.heard h.src s.dev.time.tb, unacked := s.dev.peer.unacked.filter fun u => !(u.peer == h.src && decide (u.seq ≤ h.ack)) } }))) ∧
  (∀ s : State,
    (s.dev.boot.restarting = true → Gives .heartbeatSend s (· = s.dev) ∧ Gives .snigusRetransmit s (· = s.dev)) ∧
    (s.dev.boot.restarting = false → Gives .heartbeatSend s (· = { s.dev with
      tx := s.dev.tx ++ (heartbeatPeers s.dev).flatMap fun k => (planes s.dev).map fun n =>
        .snigus n 2 k [kvGetD s.dev.peer.seqOut 0 k, kvGetD s.dev.peer.seqIn 0 k] [] })) ∧
    let late : Sent → Bool := fun u => decide (u.tick + 16000 ≤ s.dev.time.tb)
    let next := fun u : Sent => planeFrom s.dev (u.plane + 1)
    (s.dev.boot.restarting = false → (∀ u ∈ s.dev.peer.unacked, late u = true → u.tries < 8) → Gives .snigusRetransmit s fun d =>
      d.tx = s.dev.tx ++ (s.dev.peer.unacked.filter late).map (fun u => .snigus (next u) u.typ u.peer ([u.seq, kvGetD s.dev.peer.seqIn 0 u.peer] ++ u.fields) u.data) ∧
      d.peer.unacked = s.dev.peer.unacked.map (fun u => if late u = true then { u with tries := u.tries + 1, tick := s.dev.time.tb, plane := next u } else u) ∧
      d = { s.dev with tx := d.tx, peer := { s.dev.peer with unacked := d.peer.unacked } }) ∧
    (∀ u, s.dev.boot.restarting = false → s.dev.peer.unacked = [u] → late u = true → 8 ≤ u.tries → herdSt s.dev = 0 → twinEn s.dev = true → u.peer = partnerKey s.dev →
      twinSt s.dev = 2 → comparedStreams s.dev = [] → Gives .snigusRetransmit s fun d =>
        twinSt d = 3 ∧ d.peer.unacked = [] ∧ d.rd TWIN_LOST_COUNT = satAdd (s.dev.rd TWIN_LOST_COUNT) 1)) ∧
  (∀ (s : State) (h : FrameHdr) (profile mode role range : Nat) (herd : Bool),
    let k := partnerKey s.dev
    let heard := frameHeard h s.dev
    let refusal := helloRefusal s.dev profile mode role range herd
    let e := fun d : Dev => d = { s.dev with regs := d.regs, peer := d.peer, tx := d.tx, flt := { s.dev.flt with pendingRecords := d.flt.pendingRecords }, freeCtr := d.freeCtr }
    (twinEn s.dev = false ∨ twinSt s.dev = 0 → Gives (.helloFrame h profile mode role range herd) s (· = staleFrame h 1 s.dev)) ∧
    (twinEn s.dev = true → 2 ≤ twinSt s.dev → Gives (.helloFrame h profile mode role range herd) s (· = heard)) ∧
    (twinEn s.dev = true → twinSt s.dev = 1 → s.dev.boot.restarting = false →
      (refusal = 0 → Gives (.helloFrame h profile mode role range herd) s fun d =>
        twinSt d = 2 ∧ bitOf (d.rd TWIN_STATE) 5 = true ∧ d.rdF TWIN_STATE 13 12 = mode % 4 ∧ RegsKeep [TWIN_STATE] s.dev d ∧
        kvGet? d.peer.seqIn k = some h.seq ∧ (∃ fields, d.tx = s.dev.tx ++ [.snigus (planeFrom s.dev 0) 1 k fields []]) ∧
        (∃ r, r.cls = 0x19 ∧ r.synd % 256 = 0x16 ∧ d.flt.pendingRecords = s.dev.flt.pendingRecords ++ [r]) ∧ e d) ∧
      (refusal ≠ 0 → Gives (.helloFrame h profile mode role range herd) s fun d =>
        if s.dev.peer.refused = refusal then d = heard
        else d = { s.dev with peer := { heard.peer with refused := refusal }, flt := d.flt } ∧
          ∃ r, r.cls = 0x19 ∧ r.synd % 65536 = 0x17 + 256 * refusal ∧ d.flt = { s.dev.flt with pendingRecords := s.dev.flt.pendingRecords ++ [r] })) ∧
    (s.dev.boot.restarting = false →
      (twinSt s.dev = 1 → Gives .helloSend s fun d =>
        d = { s.dev with tx := d.tx } ∧ ∃ fields, d.tx = s.dev.tx ++ [.snigus (planeFrom s.dev 0) 1 k ([kvGetD s.dev.peer.seqOut 0 k, kvGetD s.dev.peer.seqIn 0 k] ++
          [s.dev.rdF LIC_PROFILE 1 0, s.dev.chanMode, twinRole s.dev, (s.dev.rd TWIN_CMP_RANGE).toNat] ++ fields) []]) ∧
      (twinSt s.dev = 3 → planeUp s.dev 0 = true → Gives .helloSend s fun d =>
        twinSt d = 1 ∧ RegsKeep [TWIN_STATE] s.dev d ∧ d.tx.length = s.dev.tx.length + 1 ∧ kvGet? d.peer.seqIn k = none ∧ kvGet? d.peer.seqOut k = none ∧
        (∀ u ∈ d.peer.unacked, u.peer ≠ k) ∧ d = { s.dev with regs := d.regs, peer := d.peer, tx := d.tx })) ∧
    (twinSt s.dev ≠ 1 → ¬(twinSt s.dev = 3 ∧ planeUp s.dev 0 = true) → Gives .helloSend s (· = s.dev)))

/-- For a compared stream of a linked twin. DIGEST at its turn: for a beat not committed yet it waits; an equal digest
of an unreleased beat releases it with R_BEAT and TWIN in the record; a different one that neither module has released
returns the beat, with the record and the slot as before, the attempt one higher and its replay pending; one on a
released beat bars the stream. HOLD lapses the stream; for the partner's last beat it bars it. DIGEST_WAIT_TIMEOUT
after WAIT_US lapses it. INGEST counts are kept, and with the last the limit of ingestion lies the smaller count
beyond the consumer; INGEST_WAIT_TIMEOUT settles it with what has come, and lapses the stream of a silent partner.
PARTNER_LOST lapses every compared stream. REBUILD_START, COPY_FRAME, REBUILD_INSTALL and REBUILD_DONE do the steps of
a rebuild on the source and on the target. (14_channels_twin_herd.md R535, 14_channels_twin_herd.md R536,
14_channels_twin_herd.md R537, 14_channels_twin_herd.md R539, 14_channels_twin_herd.md R540, 14_channels_twin_herd.md
R541, 14_channels_twin_herd.md R542) -/
def Obligations.TwinComparison : Prop :=
  (∀ (s : State) (h : FrameHdr) (n b a g : Nat), n < 16384 → InTurn s.dev h →
    let d0 := frameTaken h s.dev
    let known := (history s.dev n).find? fun c => c.beat == b
    (compared s.dev n = false ∨ twinSt s.dev ≠ 2 → Gives (.digestFrame h n b a g) s (· = d0)) ∧
    (compared s.dev n = true → twinSt s.dev = 2 → s.dev.peer.barred.contains n = false →
      (known = none → strmBeat s.dev n ≤ b → s.dev.strmSt n ≠ 0 → Gives (.digestFrame h n b a g) s fun d =>
        kvGetD d.peer.partner [] n = kvGetD s.dev.peer.partner [] n ++ [{ beat := b, attempt := a, digest := g }] ∧
        kvGet? d.peer.partnerLast n = some (b, a) ∧ RegsKeep twinRegs s.dev d ∧ d = { d0 with regs := d.regs, peer := d.peer }) ∧
      (∀ c, known = some c → c.released = false → c.digest = g → kvGet? s.dev.peer.firstDigest n = none →
        Completes (.digestFrame h n b a g) s fun t =>
          t.pending = s.pending ∧ t.mem = s.mem.writeAll (areaWrite s.dev (commitBase s.dev n + 8) (leBytes 6 b) ++
            areaWrite s.dev (commitBase s.dev n + 22) (leBytes 1 (c.flags + 2))) ∧
          history t.dev n = (history s.dev n).map (fun x => if x.beat = b then { x with released := true } else x) ∧
          kvGet? t.dev.peer.partnerLast n = some (b, a) ∧ kvGet? t.dev.peer.waitTick n = none ∧ RegsKeep (twinRegs ++ lineCounters) s.dev t.dev) ∧
      (∀ c, known = some c → c.released = false → c.digest ≠ g → kvGet? s.dev.peer.holdSent n ≠ some b → (∀ x ∈ s.dev.strm.beats, x.stream ≠ n) →
        Completes (.digestFrame h n b a g) s fun t =>
          t.pending = s.pending ∧ t.mem = s.mem.writeAll (areaWrite s.dev (commitBase s.dev n) c.prev ++ areaWrite s.dev (slotAddr s.dev n b) (ones 6)) ∧
          history t.dev n = (history s.dev n).tail ∧ kvGet? t.dev.strm.replay n = some c.info ∧ strmBeat t.dev n = b % 2 ^ 48 ∧
          strmAttempt t.dev n = (c.attempt + 1) % 256 ∧ t.dev.rd TWIN_DISAGREE_COUNT = satAdd (s.dev.rd TWIN_DISAGREE_COUNT) 1 ∧
          ∀ m, m < 16384 → m ≠ n → ∀ w, w < 16 → t.dev.rd (descAddr m w) = s.dev.rd (descAddr m w)) ∧
      (∀ c, known = some c → c.released = true → c.digest ≠ g → Gives (.digestFrame h n b a g) s fun d =>
        lapsed d n = true ∧ n ∈ d.peer.barred ∧ d.rd TWIN_LATE_DISAGREE_COUNT = satAdd (s.dev.rd TWIN_LATE_DISAGREE_COUNT) 1 ∧
        history d n = history s.dev n))) ∧
  (∀ (s : State) (h : FrameHdr) (n b a : Nat) (pair : Bool), n < 16384 → InTurn s.dev h → isMember s.dev = false →
    let on := compared s.dev n = true ∧ twinSt s.dev = 2 ∧ h.src = partnerKey s.dev ∧ s.dev.strmSt n ≠ 0
    (¬on → Gives (.holdFrame h n b a pair) s (· = frameTaken h s.dev)) ∧
    (on → kvGet? s.dev.peer.partnerLast n = some (b, a) → Gives (.holdFrame h n b a pair) s fun d =>
      lapsed d n = true ∧ n ∈ d.peer.barred ∧ history d n = history s.dev n) ∧
    (on → kvGet? s.dev.peer.partnerLast n ≠ some (b, a) → lapsed s.dev n = false → Completes (.holdFrame h n b a pair) s (Lapses n s))) ∧
  (∀ (s : State) (n : Nat), n < 16384 →
    let late := ∃ t, kvGet? s.dev.peer.waitTick n = some t ∧ t + 800 * s.dev.rdF TWIN_CFG 27 16 ≤ s.dev.time.tb
    (¬late → Gives (.digestWaitTimeout n) s (· = s.dev)) ∧
    (late → compared s.dev n = true → lapsed s.dev n = false → Completes (.digestWaitTimeout n) s (Lapses n s))) ∧
  (∀ (s : State) (h : FrameHdr) (n fr cnt : Nat), n < 16384 → InTurn s.dev h →
    let d0 := frameTaken h s.dev
    let cs := kvGetD s.dev.peer.counts [] n
    let cons := (s.dev.rd (STRM_RING_CONS (strmRing s.dev n))).toNat
    (kvGet? s.dev.strm.ingestWait n = none → Gives (.ingestFrame h n fr cnt) s fun d =>
      kvGetD d.peer.counts [] n = cs ++ [(h.src, fr, cnt)] ∧ d = { d0 with peer := { d0.peer with counts := d.peer.counts } }) ∧
    (∀ own, kvGet? s.dev.strm.ingestWait n = some own → countPeers s.dev n = [h.src] → cs = [] → s.dev.dF n 13 31 0 = fr → isLead s.dev = false →
      Gives (.ingestFrame h n fr cnt) s fun d =>
        d.dF n 14 31 0 = (cons + min own cnt) % 2 ^ 32 ∧ kvGet? d.strm.ingestWait n = none ∧ kvGet? d.peer.counts n = none ∧
        RegsKeep [descAddr n 14, descAddr n 0] s.dev d)) ∧
  (∀ (s : State) (n : Nat), n < 16384 →
    let cons := (s.dev.rd (STRM_RING_CONS (strmRing s.dev n))).toNat
    let frame := s.dev.dF n 13 31 0
    let silent := compared s.dev n = true ∧ twinSt s.dev = 2 ∧ lapsed s.dev n = false ∧ countOf s.dev n (partnerKey s.dev) frame = none
    (kvGet? s.dev.strm.ingestWait n = none → Gives (.ingestWaitTimeout n) s (· = s.dev)) ∧
    (∀ own, kvGet? s.dev.strm.ingestWait n = some own → isLead s.dev = false →
      let limit := (cons + smallest s.dev n own frame) % 2 ^ 32
      (¬silent → Gives (.ingestWaitTimeout n) s fun d =>
        d.dF n 14 31 0 = limit ∧ kvGet? d.strm.ingestWait n = none ∧ RegsKeep [descAddr n 14, descAddr n 0] s.dev d) ∧
      (silent → Completes (.ingestWaitTimeout n) s fun t => t.dev.dF n 14 31 0 = limit ∧ Lapses n s t))) ∧
  (∀ s : State,
    (partnerSilent s.dev = false ∨ twinSt s.dev ≠ 2 → Gives .partnerLost s (· = s.dev)) ∧
    (partnerSilent s.dev = true → twinSt s.dev = 2 → Completes .partnerLost s fun t =>
      twinSt t.dev = 3 ∧ bitOf (t.dev.rd TWIN_STATE) 5 = false ∧ t.dev.rd TWIN_LOST_COUNT = satAdd (s.dev.rd TWIN_LOST_COUNT) 1 ∧
      bitOf (t.dev.rd PINS_ALERT_SRC) 1 = true ∧ t.pending = s.pending ∧
      (∀ m, m < 16384 → s.dev.strmSt m ≠ 0 → compared s.dev m = true → lapsed t.dev m = true) ∧
      ((∀ m c, (history s.dev m).head? = some c → c.released = true) → s.dev.strm.ingestWait = [] → t.mem = s.mem ∧
        RegsKeep (twinRegs ++ [TWIN_STATE, TWIN_LOST_COUNT, PINS_ALERT_SRC]) s.dev t.dev))) ∧
  (∀ (s : State) (n : Nat) (source : Bool), n < 16384 →
    let on := compared s.dev n = true ∧ twinSt s.dev = 2 ∧ s.dev.strmSt n ≠ 0
    (¬on → Gives (.rebuildStart n source) s (· = s.dev)) ∧
    (on → Gives (.rebuildStart n false) s fun d =>
      kvGet? d.peer.rebuild n = some { source := false, step := 1 } ∧ rebuilding d n = true ∧
      (s.dev.strmSt n = 1 ∨ s.dev.strmSt n = 2 → d.strmSt n = 4) ∧ RegsKeep (twinRegs ++ [descAddr n 0]) s.dev d) ∧
    (on → Completes (.rebuildStart n true) s fun t =>
      kvGet? t.dev.peer.rebuild n = some { source := true, step := 3 } ∧ lapsed t.dev n = true ∧ (lapsed s.dev n = false → Lapses n s t))) ∧
  (∀ (s : State) (h : FrameHdr) (a : Nat) (bs : List Byte),
    (memCapacity < a + bs.length → Gives (.copyFrame h a bs) s (· = s.dev)) ∧
    (a + bs.length ≤ memCapacity → h.src ≠ ownKey s.dev → InTurn s.dev h → (∃ e ∈ s.dev.peer.rebuild, e.2.source = false) →
      Completes (.copyFrame h a bs) s fun t => t.pending = s.pending ∧ t.mem = s.mem.write (.bytes a bs) ∧ RegsKeep lineCounters s.dev t.dev) ∧
    (a + bs.length ≤ memCapacity → h.src = ownKey s.dev → (∃ e ∈ s.dev.peer.rebuild, e.2.source = true ∧ e.2.step = 3) → twinSt s.dev = 2 →
      s.dev.boot.restarting = false → Gives (.copyFrame h a bs) s fun d =>
        d.regs = s.dev.regs ∧ ∃ plane seq ack, d.tx = s.dev.tx ++ [.snigus plane 0x13 (partnerKey s.dev) [seq, ack, a] (s.mem.read a bs.length)])) ∧
  (∀ (s : State) (n beat len head : Nat) (record : List Byte), n < 16384 →
    (kvGet? s.dev.peer.rebuild n = none → Gives (.rebuildInstall n beat len head record) s (· = s.dev)) ∧
    (∀ r, kvGet? s.dev.peer.rebuild n = some r →
      (r.source = true → r.step = 3 → s.dev.strmSt n = 1 → s.dev.boot.restarting = false → Gives (.rebuildInstall n beat len head record) s fun d =>
        kvGet? d.peer.rebuild n = some { r with step := 6 } ∧ d.regs = s.dev.regs ∧ ∃ plane seq ack, d.tx = s.dev.tx ++ [.snigus plane 0x13 (partnerKey s.dev)
          [seq, ack, n, strmBeat s.dev n, s.dev.dF n 4 26 0, s.dev.dF n 5 25 0] (s.mem.read (commitBase s.dev n) 64)]) ∧
      (r.source = false → r.step = 1 → s.dev.strmSt n = 4 → record.length = 64 → Completes (.rebuildInstall n beat len head record) s fun t =>
        t.pending = s.pending ∧ t.mem = s.mem.writeAll (areaWrite s.dev (commitBase s.dev n) record) ∧
        strmBeat t.dev n = beat % 2 ^ 48 ∧ strmAttempt t.dev n = 0 ∧ t.dev.dF n 4 26 0 = len % 2 ^ 27 ∧ t.dev.dF n 5 25 0 = head % 2 ^ 26 ∧
        replayPend t.dev n = false ∧ kvGet? t.dev.strm.replay n = none ∧ kvGet? t.dev.peer.rebuild n = some { r with step := 5 } ∧
        (∃ b, b.stream = n ∧ b.refill = true ∧ t.dev.strm.beats = s.dev.strm.beats ++ [b]) ∧
        RegsKeep ([descAddr n 0, descAddr n 4, descAddr n 5, descAddr n 6, descAddr n 7, STRM_RING_CONS (strmRing s.dev n)] ++ lineCounters) s.dev t.dev))) ∧
  (∀ (s : State) (n : Nat) (r : Rebuild) (b : Beat), n < 16384 → kvGet? s.dev.peer.rebuild n = some r →
    s.dev.strm.beats.find? (fun b => b.stream == n && b.refill) = some b →
    (b.left ≠ [] ∨ b.failed = true ∨ r.step ≠ 5 → Gives (.rebuildDone n) s (· = s.dev)) ∧
    (b.left = [] → b.failed = false → r.step = 5 → Gives (.rebuildDone n) s fun d =>
      kvGet? d.peer.rebuild n = some { r with step := 6 } ∧ d.strm.beats = s.dev.strm.beats.filter (fun b => !(b.stream == n && b.refill)) ∧
      d.flt.pendingRecords.length = s.dev.flt.pendingRecords.length + 1 ∧
      (s.dev.strmSt n = 4 → replayPend s.dev n = false → d.strmSt n = if hasWork s.dev n then 2 else 1) ∧ RegsKeep [descAddr n 0] s.dev d))

/-- JOIN_SEND leaves a JOINING module only. JOIN at the lead admits the position, with one more generation, or answers
REFUSE with the first reason of the order of log entry 124; elsewhere the sender is only heard. ADMIT makes a JOINING
module SYNCING with the lead's epoch, members and its generation. REFUSE is kept in REFUSE_INFO, and a SYNCING module
joins anew. MEMBERSHIP of the own side gives the members, the lead and the fold mask; that of the other side, to a
module that does not lead, the other side's members; a member that it leaves out is FENCED: no members, ALERT_N, its
streams paused. HERD_REPORT_SEND by its phase sends the latched report once; REPORT reaches the lead. HERD_COMPARE
with every report equal fences nobody and forgets the reports; the only member that differs, is unhealthy or has been
silent three times is fenced and counted; when more than half differ the lead fences itself. LEAD_LOST: a JOINING
module that hears no lower position forms the herd; with the lead silent for 1 ms the lowest present position leads,
and a module that followed it takes FSYNC or its own source. (14_channels_twin_herd.md R544, 14_channels_twin_herd.md
R545, 14_channels_twin_herd.md R548, 14_channels_twin_herd.md R549, 14_channels_twin_herd.md R552,
14_channels_twin_herd.md R553, 14_channels_twin_herd.md R554, 14_channels_twin_herd.md R561,
15_bringup_reset_licences.md R592) -/
def Obligations.HerdMembership : Prop :=
  let hregs := [HERD_STATE, HERD_MEMBERS 0, HERD_MEMBERS 0 + 4]
  (∀ (s : State) (h : FrameHdr) (pos profile mode health : Nat), pos < 64 →
    let k := pos + 64 * herdSide s.dev
    let d0 : Dev := { s.dev with peer := { s.dev.peer with heard := kvPut s.dev.peer.heard h.src s.dev.time.tb } }
    let on := herdEn s.dev = true ∧ h.herd = herdId s.dev ∧ h.src / 64 = herdSide s.dev ∧ isLead s.dev = true ∧ s.dev.boot.restarting = false
    let why := joinRefusal s.dev pos profile mode health
    (herdSt s.dev = 1 → s.dev.boot.restarting = false → Gives .joinSend s fun d =>
      d = { s.dev with tx := d.tx } ∧ ∃ fields, d.tx = s.dev.tx ++ [.snigus (planeFrom s.dev 0) 8 0xFF ([0, kvGetD s.dev.peer.seqIn 0 0xFF, herdPos s.dev] ++ fields) []]) ∧
    (herdSt s.dev ≠ 1 ∨ s.dev.boot.restarting = true → Gives .joinSend s (· = s.dev)) ∧
    (¬on → Gives (.joinFrame h pos profile mode health) s (· = d0)) ∧
    (on → why ≠ 0 → Gives (.joinFrame h pos profile mode health) s (· = { d0 with
      tx := s.dev.tx ++ [.snigus (planeFrom s.dev 0) 0xA k [0, kvGetD s.dev.peer.seqIn 0 k, pos, why, leadPos s.dev] []] })) ∧
    (on → why = 0 → Gives (.joinFrame h pos profile mode health) s fun d =>
      (∀ p, p < 64 → memberAt d p = (memberAt s.dev p || p == pos)) ∧ kvGet? d.peer.syncing pos = some 0 ∧
      kvGet? d.peer.gens pos = some (match kvGet? s.dev.peer.gens pos with | some g => (g + 1) % 256 | none => 0) ∧
      d.flt.pendingRecords.length = s.dev.flt.pendingRecords.length + 1 ∧ s.dev.tx.length < d.tx.length ∧ RegsKeep hregs s.dev d)) ∧
  (∀ (s : State) (h : FrameHdr) (pos frame epoch mask gen lead reason : Nat) (gens : List Nat),
    let mine := h.herd = herdId s.dev ∧ h.src / 64 = herdSide s.dev
    (¬(herdSt s.dev = 1 ∧ mine ∧ pos = herdPos s.dev) → Gives (.admitFrame h pos frame epoch mask gen lead gens) s (· = s.dev)) ∧
    (herdSt s.dev = 1 → mine → pos = herdPos s.dev → Gives (.admitFrame h pos frame epoch mask gen lead gens) s fun d =>
      herdSt d = 2 ∧ leadPos d = lead % 64 ∧ (∀ p, p < 64 → memberAt d p = mask.testBit p) ∧ d.rd HERD_EPOCH = w32 epoch ∧ d.rd HERD_GEN = w32 gen ∧
      kvGet? d.peer.gens pos = some gen ∧ (∃ ns, d.peer.refFrame = some (frame, ns)) ∧ RegsKeep ([HERD_EPOCH, HERD_GEN] ++ hregs) s.dev d ∧
      d = { s.dev with regs := d.regs, peer := d.peer }) ∧
    (¬((herdSt s.dev = 1 ∨ herdSt s.dev = 2) ∧ mine) → Gives (.refuseFrame h reason lead) s (· = s.dev)) ∧
    ((herdSt s.dev = 1 ∨ herdSt s.dev = 2) → mine → Gives (.refuseFrame h reason lead) s fun d =>
      d.rd HERD_REFUSE_INFO = w32 (reason + lead % 64 * 256) ∧ herdSt d = 1 ∧ (herdSt s.dev = 1 → RegsKeep [HERD_REFUSE_INFO] s.dev d) ∧
      d.flt.pendingRecords.length = s.dev.flt.pendingRecords.length + 1 ∧ RegsKeep (HERD_REFUSE_INFO :: hregs) s.dev d)) ∧
  (∀ (s : State) (h : FrameHdr) (lead mask fold beat : Nat) (gens : List Nat), InTurn s.dev h →
    let own := herdPos s.dev
    (h.src / 64 = herdSide s.dev → mask.testBit own = true → Gives (.membershipFrame h lead mask fold beat gens) s fun d =>
      (∀ p, p < 64 → memberAt d p = mask.testBit p) ∧ leadPos d = lead % 64 ∧ curFold d = fold ∧
      herdSt d = (if (herdSt s.dev = 4 ∧ lead ≠ own) ∨ (herdSt s.dev = 2 ∧ fold.testBit own = true) then 3
        else if herdSt s.dev = 3 ∧ lead = own then 4 else herdSt s.dev) ∧
      (lead ≠ own → (∀ p, p < 64 → memberAt s.dev p = true → mask.testBit p = true) →
        RegsKeep hregs s.dev d ∧ d = { s.dev with regs := d.regs, peer := d.peer })) ∧
    (h.src / 64 = herdSide s.dev → mask.testBit own = false → Gives (.membershipFrame h lead mask fold beat gens) s fun d =>
      herdSt d = 5 ∧ (∀ p, p < 64 → memberAt d p = false) ∧ bitOf (d.rd PINS_ALERT_SRC) 1 = true ∧
      (∀ m, m < 16384 → s.dev.strmSt m = 1 ∨ s.dev.strmSt m = 2 → d.strmSt m = 4) ∧
      d.flt.pendingRecords.length = s.dev.flt.pendingRecords.length + 1) ∧
    (h.src / 64 ≠ herdSide s.dev → ¬(fold = 0 ∧ mask = 0) → isLead s.dev = false → Gives (.membershipFrame h lead mask fold beat gens) s fun d =>
      let d0 := frameTaken h s.dev
      d.peer.otherMembers = some mask ∧ (∀ a ∈ hregs, d.rd a = s.dev.rd a) ∧
      ((∀ k ∈ otherPeers s.dev, mask.testBit (k - 64) = true) → gens = [] → d = { d0 with peer := { d0.peer with otherMembers := some mask } }))) ∧
  (∀ (s : State) (h : FrameHdr) (frame epoch digest power phase health : Nat),
    let d0 := frameTaken h s.dev
    let r : Report := { frame, epoch, digest, power, phase, health }
    let time := inHerd s.dev = true ∧ s.dev.peer.reported = false ∧ s.dev.rdF HERD_AGREE 15 0 ≤ s.dev.phase ∧ inReset s.dev = false
    (¬time → Gives .herdReportSend s (· = s.dev)) ∧
    (time → isLead s.dev = false → s.dev.boot.restarting = false → Gives .herdReportSend s fun d =>
      d.peer.reported = true ∧ d.regs = s.dev.regs ∧
      let k := keyOf s.dev (leadPos s.dev)
      ∃ plane, d.tx = s.dev.tx ++ [.snigus plane 0xC k ([(kvGetD s.dev.peer.seqOut 0 k + 1) % 2 ^ 32, kvGetD s.dev.peer.seqIn 0 k] ++
        reportFields (ownReport s.dev)) []]) ∧
    (time → isLead s.dev = true → herdPaired s.dev = false → Gives .herdReportSend s (· = { s.dev with
      peer := { s.dev.peer with reported := true, reports := kvPut s.dev.peer.reports (herdPos s.dev) (ownReport s.dev) } })) ∧
    (InTurn s.dev h → h.src / 64 = herdSide s.dev → Gives (.reportFrame h frame epoch digest power phase health) s
      (· = if isLead s.dev then { d0 with peer := { d0.peer with reports := kvPut d0.peer.reports (h.src % 64) r } } else d0)) ∧
    (InTurn s.dev h → h.src / 64 ≠ herdSide s.dev → Gives (.reportFrame h frame epoch digest power phase health) s
      (· = { d0 with peer := { d0.peer with otherDigest := some (epoch, digest) } }))) ∧
  (∀ (s : State) (misses : List Nat),
    let own := herdPos s.dev
    (isLead s.dev = false ∨ kvGet? s.dev.peer.reports own = none ∨ s.dev.phase < s.dev.rdF HERD_AGREE 31 16 → Gives (.herdCompare misses) s (· = s.dev)) ∧
    (∀ mine : Report, isLead s.dev = true → kvGet? s.dev.peer.reports own = some mine → s.dev.rdF HERD_AGREE 31 16 ≤ s.dev.phase → herdPaired s.dev = false →
      let rs := s.dev.peer.reports.filter fun e => e.2.frame == mine.frame
      let others := (members s.dev).filter (· != own)
      let good := fun p => ∃ r, kvGet? rs p = some r ∧ r.epoch = mine.epoch ∧ r.digest = mine.digest ∧ r.health < 2 ∧ kvGet? s.dev.peer.syncing p = none
      let bad := fun p => (kvGet? rs p = none ∧ 2 ≤ kvGetD s.dev.peer.missing 0 p) ∨ ∃ r, kvGet? rs p = some r ∧
        (((r.epoch ≠ mine.epoch ∨ r.digest ≠ mine.digest) ∧ kvGet? s.dev.peer.syncing p = none) ∨ (r.epoch = mine.epoch ∧ r.digest = mine.digest ∧ 2 ≤ r.health))
      let differ := others.filter fun p => match kvGet? rs p with
        | some r => r.epoch != mine.epoch || r.digest != mine.digest
        | none => false
      ((∀ p ∈ others, good p) → Gives (.herdCompare misses) s fun d =>
        d.peer.reports = [] ∧ (∀ p ∈ others, kvGet? d.peer.missing p = none) ∧ RegsKeep (PWR_HERD_SHARE :: errRegs .pwr) s.dev d) ∧
      (∀ p ∈ others, bad p → (∀ q ∈ others, q ≠ p → good q) → 2 ≤ (members s.dev).length → Gives (.herdCompare misses) s fun d =>
        d.peer.reports = [] ∧ memberAt d p = false ∧ (∀ q, q < 64 → q ≠ p → memberAt d q = memberAt s.dev q) ∧
        d.rd HERD_FENCE_COUNT = satAdd (s.dev.rd HERD_FENCE_COUNT) 1 ∧ herdSt d = 4) ∧
      ((members s.dev).length < 2 * differ.length → Gives (.herdCompare misses) s fun d =>
        herdSt d = 5 ∧ (∀ p, p < 64 → memberAt d p = false) ∧ d.rd HERD_FENCE_COUNT = satAdd (s.dev.rd HERD_FENCE_COUNT) 1 ∧
        d.rd HERD_MISMATCH_COUNT = satAdd (s.dev.rd HERD_MISMATCH_COUNT) differ.length ∧ bitOf (d.rd PINS_ALERT_SRC) 1 = true))) ∧
  (∀ s : State,
    let own := herdPos s.dev
    let lead := leadPos s.dev
    let silent := fun p => kvGetD s.dev.peer.heard 0 (keyOf s.dev p) + 800000 ≤ s.dev.time.tb
    let lost := (herdSt s.dev = 2 ∨ herdSt s.dev = 3) ∧ silent lead
    (¬lost → (herdSt s.dev = 1 → ∃ p, p < own ∧ ¬silent p) → Gives .leadLost s (· = s.dev)) ∧
    (herdSt s.dev = 1 → (∀ p, p < own → silent p) → Gives .leadLost s fun d =>
      herdSt d = 4 ∧ leadPos d = own ∧ (∀ p, p < 64 → memberAt d p = (p == own)) ∧ curFold d = 2 ^ own ∧ RegsKeep (HERD_GEN :: hregs) s.dev d) ∧
    (∀ p, lost → (members s.dev).find? (· != lead) = some p → Gives .leadLost s fun d =>
      leadPos d = p ∧ memberAt d lead = false ∧ (∀ q, q < 64 → q ≠ lead → memberAt d q = memberAt s.dev q) ∧
      herdSt d = (if p = own then 4 else herdSt s.dev) ∧
      (s.dev.rdF CAD_CTRL 1 0 = 3 → d.rdF CAD_CTRL 1 0 = if (pinWith s.dev 1).isSome then 1 else 2) ∧
      (s.dev.rdF CAD_CTRL 1 0 ≠ 3 → p ≠ own → RegsKeep hregs s.dev d)))

/-- For frames at their turn. TIME of the partner sets LINK_RTT; of the reference, with TIME.SRC PARTNER, it is a
measurement of the servo; to a module that is not its reference the TAI is sent back. FRAME of the reference is
adopted at the next boundary, or, with the PARTNER source, causes one with its number and a measured period. SCHED of
the lead is added by a member, a distributed entry as such, and a rejection is told to the lead, that of a SNAPSHOT
entry apart. REG_ACCESS is performed as the sender's agent and answered by REG_RESP with the data and the code, for an
offset with no register 0 and 0xFF; REG_RESP is kept, and the lead fences a member whose ADD was rejected. SHARE sets
HERD_SHARE for the next frame. APPEND is kept for its beat; at or after that beat it is in force at once: APPEND of
the descriptor says whether the position is the own. PARTIAL lands at its place and is marked received; for no slot it
is dropped, counted and recorded. PX_TX_TRIGGER sends the slot to every other position of the mask. HERD_APPLY makes a
schedule entry, which a member asks of the lead (the model's choice, log entry 86). (14_channels_twin_herd.md R532,
14_channels_twin_herd.md R534, 14_channels_twin_herd.md R546, 14_channels_twin_herd.md R551, 14_channels_twin_herd.md
R552, 14_channels_twin_herd.md R561, 14_channels_twin_herd.md R562, 16_interfaces_pins.md R615) -/
def Obligations.HerdFrames : Prop :=
  (∀ (s : State) (h : FrameHdr) (off : Int) (rtt frame ns : Nat), InTurn s.dev h →
    let d0 := frameTaken h s.dev
    let d1 := if twinEn s.dev = true ∧ h.src = partnerKey s.dev then d0.wrF TWIN_LINK_RTT 15 0 (min 65535 rtt) else d0
    (fromReference s.dev h = true → Gives (.timeFrame h off rtt) s (· = if s.dev.rdF TIME_SRC 1 0 = 3 then servoMeasure off d1 else d1)) ∧
    (fromReference s.dev h = false → s.dev.boot.restarting = false → Gives (.timeFrame h off rtt) s fun d =>
      d.regs = d1.regs ∧ ∃ plane seq ack, d.tx = s.dev.tx ++ [.snigus plane 6 h.src [seq, ack, s.dev.taiNs] []]) ∧
    (fromReference s.dev h = false → Gives (.frameFrame h frame ns) s (· = d0)) ∧
    (fromReference s.dev h = true → s.dev.rdF CAD_CTRL 1 0 ≠ 3 ∨ s.dev.cad.cause.isSome = true → Gives (.frameFrame h frame ns) s
      (· = { d0 with peer := { d0.peer with refFrame := some (frame, ns) } })) ∧
    (fromReference s.dev h = true → s.dev.rdF CAD_CTRL 1 0 = 3 → s.dev.cad.cause = none → Gives (.frameFrame h frame ns) s fun d =>
      d.peer.refFrame = some (frame, ns) ∧ d.cad.cause = some { tick := tickOfTai s.dev ns - 1, fromEdge := false, frame := some frame } ∧
      ∀ f n, s.dev.peer.refFrame = some (f, n) → 16000000 ≤ (ns - n) * 4 / 5 → (ns - n) * 4 / 5 ≤ 160000000 → d.rd CAD_PERIOD = w32 ((ns - n) * 4 / 5))) ∧
  (∀ (s : State) (h : FrameHdr) (w0 w1 w2 w3 : Word) (herd : Bool), InTurn s.dev h →
    let ws := [w0, w1, w2, w3]
    let agent := serviceAgent s.dev
    let d0 := frameTaken h s.dev
    let checks := s.dev.baseChecks agent .cad ++ addChecks s.dev ws
    let mine := isLead s.dev = false ∧ herdSt s.dev = 3 ∧ h.src = keyOf s.dev (leadPos s.dev)
    (isLead s.dev = false → ¬mine → Gives (.schedFrame h w0 w1 w2 w3 herd) s (· = d0)) ∧
    (isLead s.dev = true → Gives (.schedFrame h w0 w1 w2 w3 herd) s (· = if herd then d0 else addWrite agent (s.dev.baseChecks agent .cad) ws d0)) ∧
    (∀ e, mine → firstFail checks = none → e < 64 → schedValid s.dev e = false → (∀ k, k < e → schedValid s.dev k = true) →
      Gives (.schedFrame h w0 w1 w2 w3 herd) s fun d =>
        entryWord d e 0 = w0 ∧ entryWord d e 2 = w2 ∧ fld (entryWord d e 1) 28 0 = fld w1 28 0 ∧ schedValid d e = true ∧ entryOwner d e = agent % 256 ∧
        (herd = true → e ∈ d.cad.distributed) ∧ RegsKeep (CAD_SCHED_RESULT :: (List.range 4).map fun i => CAD_SCHED (4 * e + i)) s.dev d) ∧
    (∀ c, mine → firstFail checks = some c → s.dev.boot.restarting = false → Gives (.schedFrame h w0 w1 w2 w3 herd) s fun d =>
      RegsKeep (errRegs .cad) s.dev d ∧
      if fld w1 19 16 = 5 then d.tx = s.dev.tx
      else ∃ plane seq ack, d.tx = s.dev.tx ++ [.snigus plane 0x11 h.src [seq, ack, CAD_SCHED_CMD, 0, c.code] []])) ∧
  (∀ (s : State) (h : FrameHdr) (a : Nat) (data : Option Word), InTurn s.dev h →
    let r := codedAccess (peerAgent s.dev h) false (a / 4 * 4) data s.mem (frameTaken h s.dev)
    (r.2.2.1.boot.restarting = false → Completes (.regAccess h a data) s fun t =>
      t.pending = s.pending ∧ t.mem = s.mem.writeAll r.2.2.2 ∧ RegsKeep lineCounters r.2.2.1 t.dev ∧
      ∃ plane seq ack, t.dev.tx = r.2.2.1.tx ++ [.snigus plane 0x11 h.src [seq, ack, a, r.1.toNat, r.2.1] []]) ∧
    (implemented (a / 4 * 4) = false → data = none → r.1 = 0 ∧ r.2.1 = 0xFF)) ∧
  (∀ (s : State) (h : FrameHdr) (a v code : Nat), InTurn s.dev h →
    let d0 := frameTaken h s.dev
    let fence := isLead s.dev = true ∧ a = CAD_SCHED_CMD ∧ code ≠ 0 ∧ h.src / 64 = herdSide s.dev
    let p := h.src % 64
    (¬fence → Gives (.regResp h a v code) s (· = { d0 with peer := { d0.peer with regResp := s.dev.peer.regResp ++ [(h.src, a, v, code)] } })) ∧
    (fence → memberAt s.dev p = true → p ≠ herdPos s.dev → Gives (.regResp h a v code) s fun d =>
      memberAt d p = false ∧ (∀ q, q < 64 → q ≠ p → memberAt d q = memberAt s.dev q) ∧
      d.rd HERD_FENCE_COUNT = satAdd (s.dev.rd HERD_FENCE_COUNT) 1 ∧ d.peer.regResp = s.dev.peer.regResp ++ [(h.src, a, v, code)])) ∧
  (∀ (s : State) (h : FrameHdr) (watts n beat pos : Nat), InTurn s.dev h →
    let d0 := frameTaken h s.dev
    (s.dev.up = true → inHerd s.dev = true → Gives (.shareFrame h watts) s fun d =>
      d.rd PWR_HERD_SHARE = w32 (watts % 65536 + 2 ^ 31) ∧ RegsKeep [PWR_HERD_SHARE] s.dev d ∧
      d = { d0 with regs := d.regs, pwr := { d0.pwr with herdShareNext := some (watts % 65536), herdShareAge := 0 } }) ∧
    (n < 16384 → (∀ e ∈ s.dev.peer.appendPend, ¬(e.1 = n ∧ e.2.1 ≤ strmBeat s.dev n)) →
      (strmBeat s.dev n < beat → Gives (.appendFrame h n beat pos) s
        (· = { d0 with peer := { d0.peer with appendPend := s.dev.peer.appendPend ++ [(n, beat, pos)] } })) ∧
      (beat ≤ strmBeat s.dev n → Gives (.appendFrame h n beat pos) s fun d =>
        d.dF n 0 18 18 = (if pos = herdPos s.dev then 1 else 0) ∧ bitOf (d.rd HERD_STATE) 24 = decide (pos = herdPos s.dev) ∧
        kvGet? d.peer.appendPos n = some pos ∧ d.peer.appendPend = s.dev.peer.appendPend ∧
        RegsKeep [descAddr n 0, HERD_STATE] s.dev d ∧ d = { d0 with regs := d.regs, peer := d.peer }))) ∧
  (∀ (s : State) (h : FrameHdr) (k : Nat) (bs : List Byte),
    let p := h.src % 64
    let on := bitOf (s.dev.rd SPUR_PX_CFG) 0 = true ∧ k ≤ s.dev.rdF SPUR_PX_CFG 31 24
    let use := leNat (bs.take 9)
    (InTurn s.dev h → ¬(on ∧ (pxMask s.dev).testBit p = true) → Gives (.partialFrame h k bs) s fun d =>
      d.rd SPUR_PX_DROP_COUNT = satAdd (s.dev.rd SPUR_PX_DROP_COUNT) 1 ∧ RegsKeep [SPUR_PX_DROP_COUNT] s.dev d ∧
      d.flt.pendingRecords.length = s.dev.flt.pendingRecords.length + 1 ∧ d.peer.px = s.dev.peer.px) ∧
    (InTurn s.dev h → on → (pxMask s.dev).testBit p = true → Completes (.partialFrame h k bs) s fun t =>
      t.pending = s.pending ∧
      t.mem = s.mem.write (.bytes (base39 s.dev SPUR_PX_RX_BASE_LO SPUR_PX_RX_BASE_HI + (64 * k + p) * pxSize s.dev) (bs.take (pxSize s.dev))) ∧
      t.dev.rd (SPUR_PX_COUNT 1) = s.dev.rd (SPUR_PX_COUNT 1) + 1 ∧ (pxSlot t.dev k).use = use ∧
      (∀ q, q ∈ (pxSlot t.dev k).got ↔ q = p ∨ ((pxSlot s.dev k).use = use ∧ q ∈ (pxSlot s.dev k).got)) ∧
      ∀ j, j ≠ k → pxSlot t.dev j = pxSlot s.dev j) ∧
    (s.dev.fab.pxResults = [] → Gives .pxTxTrigger s (· = s.dev)) ∧
    (∀ rest, s.dev.fab.pxResults = k :: rest →
      (¬on → Gives .pxTxTrigger s (· = { s.dev with fab := { s.dev.fab with pxResults := rest } })) ∧
      (on → s.dev.boot.restarting = false → Gives .pxTxTrigger s fun d =>
        let slot := s.mem.read (base39 s.dev SPUR_PX_TX_BASE_LO SPUR_PX_TX_BASE_HI + k * pxSize s.dev) (pxSize s.dev)
        (pxSlot d k).sent = true ∧ (pxSlot d k).use = leNat (slot.take 9) ∧
        (∀ q, q < 64 → (pxMask s.dev).testBit q = true → q ≠ herdPos s.dev →
          ∃ u ∈ d.peer.unacked, u.peer = keyOf s.dev q ∧ u.typ = 0x12 ∧ u.fields = [k] ∧ u.data = slot) ∧
        ∀ j, j ≠ k → pxSlot d j = pxSlot s.dev j))) ∧
  (∀ (s : State) (agent : Nat) (data : Word), isPewter agent = true → s.dev.up = true → data.toNat &&& 0xFFF0C000 = 0 →
    (∃ p ∈ digestPages, pageOf (4096 * fld data 13 0) = some (p, 0)) →
    let ws := [w32 (s.dev.frame + fld data 19 16 + 2), 0x00020000, w32 (fld data 13 0), 0]
    (isMember s.dev = false → Gives (.herdApply agent data) s (· = s.dev.reject .herd 0x150 agent .state)) ∧
    (isLead s.dev = true → Gives (.herdApply agent data) s (· = addWrite agent (s.dev.baseChecks agent .cad) ws s.dev)) ∧
    (isMember s.dev = true → isLead s.dev = false → s.dev.boot.restarting = false → Gives (.herdApply agent data) s fun d =>
      d.regs = s.dev.regs ∧ d.cad = s.dev.cad ∧ ∃ plane seq ack, d.tx = s.dev.tx ++
        [.snigus plane 0xE (keyOf s.dev (leadPos s.dev)) ([seq, ack] ++ ws.map (fun w => w.toNat) ++ [0]) []]))

/-- CHG_REQ by an agent that may write the CLK page, of a valid point with no change under way: the point is the one
asked for, or the lowest that a cause of throttling requests where that is lower (log entry 115); for the point in
force no effect; for another, ARMED for a tick 20 us ahead, or 500 us for a higher frequency, whose rails are set at
once. BUSY while a change or a single-field point is under way, else RANGE for a point that is not valid.
CHG_VOLT_CHECK 20 us before cancels an upward change that the rails have not confirmed. CHG_DISTRIBUTE, SEAM_HOLD,
CLOCK_STOP and CLOCK_RESTART do steps 4 to 8 at their ticks and nothing before: the seams hold; from T_s, with the
seams held, the mesh of every field is gated once no segment of it is full, and 16 ticks later in any case, when a
full segment unlocks; at T_r, 32 ticks after T_s with every mesh gated, CUR is the target, the powered fields with a
locked PLL run, no present segment holds for another cause, and the change is counted. RAIL_CONFIRM within 5 mV of the
set point confirms a rail. Q_FIELD_WRITE of a quarantined field sets its own divider and unlocks and holds its
segments, and EN = 0 ends it. PLL_UNLOCK stops the field, counts and records; PLL_RELOCK_DONE runs it again at the
common OPP, during a die-wide stop from T_r, or the field fails. REFCLK_LOSS stops time and every field and asserts
FAULT_N; REFCLK_RETURN starts the powered ones again, during a die-wide stop from T_r, through a compute reset of
cause 4. (11_clocking.md R434, 11_clocking.md R435, 11_clocking.md R436, 11_clocking.md R438, 11_clocking.md R439,
11_clocking.md R440, 11_clocking.md R443, 07_fabric.md R306, 12_power_thermal.md R449) -/
def Obligations.ClockChanges : Prop :=
  let vsets := (List.range 12).map fun f => PWR_VSET f
  let seamRegs := (List.range 12).flatMap fun f => [FIELD_SEAM_E f, FIELD_SEAM_S f]
  (∀ (s : State) (agent : Nat) (data : Word), s.dev.mayWrite agent .clk = true → s.dev.isFenced .clk = false → s.dev.up = true → fld data 31 3 = 0 →
    let asked := fld data 2 0
    let valid := oppValid (s.dev.rd (CLK_OPP asked))
    let opp := s.dev.oppAllowed asked
    let w := s.dev.rd (CLK_OPP opp)
    let up := oppDiv w < s.dev.rdF CLK_CUR 12 8
    let free := s.dev.chgState = 0 ∧ bitOf (s.dev.rd CLK_Q_FIELD) 31 = false
    (free → valid = true → opp = s.dev.curOpp → Gives (.chgReq agent data) s (· = s.dev)) ∧
    (free → valid = true → opp ≠ s.dev.curOpp → Gives (.chgReq agent data) s fun d =>
      d.rd CLK_CHG_STATE = w32 (1 + 16 * opp) ∧ d.rd64 (CLK_CHG_TS 0) = (s.dev.time.tb + if up then 400000 else 16000) % 2 ^ 64 ∧
      d.clk = { s.dev.clk with confirmed := [], distributed := false } ∧
      d.pwr = { s.dev.pwr with baseMv := if up then oppMv w else s.dev.pwr.baseMv } ∧
      (up → ∀ f, f < 12 → d.rdF (PWR_VSET f) 25 16 = vset d f % 1024) ∧ (¬up → d.tx = s.dev.tx) ∧
      RegsKeep ([CLK_CHG_STATE, CLK_CHG_TS 0, CLK_CHG_TS 0 + 4] ++ vsets) s.dev d ∧ d = { s.dev with regs := d.regs, clk := d.clk, pwr := d.pwr, tx := d.tx }) ∧
    (¬free → Gives (.chgReq agent data) s (· = s.dev.reject .clk 0x124 agent .busy)) ∧
    (free → valid = false → Gives (.chgReq agent data) s (· = s.dev.reject .clk 0x124 agent .range))) ∧
  (∀ (s : State) (stuck : List Nat),
    let d := s.dev
    let ts := d.rd64 (CLK_CHG_TS 0)
    let vco := d.rdF CLK_VCO 13 0
    let lead := if vco = 0 then 0 else (12800 * d.rdF CLK_CUR 12 8 + vco - 1) / vco
    let cancel := d.chgState = 1 ∧ d.chgUp = true ∧ d.railsConfirmed = false ∧ ts ≤ d.time.tb + 16000
    let send := d.chgState = 1 ∧ ts ≤ d.time.tb + 1600 ∧ (d.chgUp = true → d.railsConfirmed = true)
    let armed := d.chgState = 1 ∧ d.clk.distributed = true
    (¬cancel → Gives .chgVoltCheck s (· = d)) ∧
    (cancel → Gives .chgVoltCheck s fun e =>
      e.chgState = 0 ∧ e.rd CLK_ABORT_COUNT = satAdd (d.rd CLK_ABORT_COUNT) 1 ∧ e.pwr = { d.pwr with baseMv := oppMv (d.rd (CLK_OPP d.curOpp)) } ∧
      (bitOf (d.rd (Page.clk.base + 0x10)) 31 = false → fld (e.rd (Page.clk.base + 0x10)) 7 0 = 3) ∧
      RegsKeep ([CLK_CHG_STATE, CLK_ABORT_COUNT] ++ vsets ++ errRegs .clk) d e) ∧
    (¬send → Gives .chgDistribute s (· = d)) ∧
    (send → Gives .chgDistribute s (· = { d with clk := { d.clk with distributed := true } })) ∧
    (¬(armed ∧ ts ≤ d.time.tb + lead) → Gives .seamHold s (· = d)) ∧
    (armed → ts ≤ d.time.tb + lead → Gives .seamHold s fun e =>
      (∀ f, f < 12 → ∀ south, seamPresent d f south = true → bitOf (e.rd (seamReg f south)) 9 = true) ∧ RegsKeep seamRegs d e ∧
      e = { d with regs := e.regs, clk := { d.clk with dieHold := true } }) ∧
    let stops := ((armed ∧ d.clk.dieHold = true) ∨ (d.chgState = 2 ∧ d.rdF CLK_FIELD_PLL 27 16 ≠ 0)) ∧ ts ≤ d.time.tb
    let full := stuck.filter (seamFull d)
    (¬stops → Gives (.clockStop stuck) s (· = d)) ∧
    (stops → full = [] → Gives (.clockStop stuck) s fun e =>
      e.chgState = 2 ∧ e.rdF CLK_FIELD_PLL 27 16 = 0 ∧ OnlyRegs [CLK_CHG_STATE, CLK_FIELD_PLL] d e) ∧
    (stops → d.time.tb < ts + 16 → Gives (.clockStop stuck) s fun e =>
      e.chgState = 2 ∧ OnlyRegs [CLK_CHG_STATE, CLK_FIELD_PLL] d e ∧
      ∀ f, f < 12 → e.meshRuns f = (d.meshRuns f && full.any fun g => g / 2 == f || seamFar (g / 2) (g % 2 == 1) == f)) ∧
    (stops → ts + 16 ≤ d.time.tb → Gives (.clockStop stuck) s fun e =>
      e.chgState = 2 ∧ e.rdF CLK_FIELD_PLL 27 16 = 0 ∧ ∀ g ∈ full, bitOf (e.rd (seamReg (g / 2) (g % 2 == 1))) 8 = false) ∧
    let resumes := d.chgState = 2 ∧ d.rdF CLK_FIELD_PLL 27 16 = 0 ∧ ts + 32 ≤ d.time.tb
    (¬resumes → Gives .clockRestart s (· = d)) ∧
    (resumes → Gives .clockRestart s fun e =>
      let opp := d.rdF CLK_CHG_STATE 6 4
      let w := d.rd (CLK_OPP opp)
      e.chgState = 0 ∧ e.rd CLK_CUR = w32 (opp + 256 * oppDiv w) ∧ e.rd CLK_CHG_COUNT = satAdd (d.rd CLK_CHG_COUNT) 1 ∧
      (∀ f, f < 12 → e.meshRuns f = (bitOf (d.rd CLK_FIELD_PLL) f && d.domOn (144 + f) && !d.clk.refLost)) ∧
      (d.clk.fieldHold = [] → d.pwr.stretched = [] → ∀ f, f < 12 → ∀ south, seamPresent d f south = true → bitOf (e.rd (seamReg f south)) 9 = false) ∧
      e.clk = { d.clk with distributed := false, confirmed := [], dieHold := false } ∧ e.pwr = { d.pwr with baseMv := oppMv w } ∧
      RegsKeep ([CLK_CUR, CLK_FIELD_PLL, CLK_CHG_COUNT, CLK_CHG_STATE] ++ seamRegs ++ vsets) d e)) ∧
  (∀ (s : State) (r mv : Nat), r < 18 → Gives (.railConfirm r mv) s fun d =>
    d.rdF (PMB_RAIL_STAT r) 11 0 = mv % 4096 ∧ RegsKeep [PMB_RAIL_STAT r] s.dev d ∧ d = { s.dev with regs := d.regs, clk := d.clk } ∧
    let ok := r < 12 ∧ s.dev.chgState = 1 ∧ mv ≤ vset s.dev r + 5 ∧ vset s.dev r ≤ mv + 5
    d.clk = { s.dev.clk with confirmed := if ok then setIns s.dev.clk.confirmed r else s.dev.clk.confirmed }) ∧
  (∀ (s : State) (agent : Nat) (data : Word), isPewter agent = true → s.dev.up = true → data.toNat &&& 0x7FFFE0F0 = 0 → fld data 3 0 < 12 →
    5 ≤ fld data 12 8 → fld data 12 8 ≤ 24 → s.dev.rdF CLK_VCO 13 0 ≤ 1400 * fld data 12 8 → 400 * fld data 12 8 ≤ s.dev.rdF CLK_VCO 13 0 →
    let f := fld data 3 0
    let quarantined := bitOf (s.dev.rd (FIELD_HEALTH f)) 4 = true ∧ s.dev.chgState ≠ 1
    (bitOf data 31 = true → quarantined → Gives (.qFieldWrite agent data) s fun d =>
      d.rd CLK_Q_FIELD = data ∧ kvGet? d.clk.fieldDiv f = some (fld data 12 8) ∧ f ∈ d.clk.fieldHold ∧
      (∀ g ∈ fieldSeams f, seamPresent s.dev g.1 g.2 = true → bitOf (d.rd (seamReg g.1 g.2)) 8 = false ∧ bitOf (d.rd (seamReg g.1 g.2)) 9 = true)) ∧
    (bitOf data 31 = true → ¬quarantined → Gives (.qFieldWrite agent data) s (· = s.dev.reject .clk 0x150 agent .state)) ∧
    (bitOf data 31 = false → Gives (.qFieldWrite agent data) s fun d =>
      d.rd CLK_Q_FIELD = data ∧
      let old := s.dev.rd CLK_Q_FIELD
      if bitOf old 31 = true then d.clk = { s.dev.clk with fieldDiv := kvDel s.dev.clk.fieldDiv (fld old 3 0), fieldHold := setDel s.dev.clk.fieldHold (fld old 3 0) }
      else OnlyRegs [CLK_Q_FIELD] s.dev d)) ∧
  (∀ (s : State) (f : Nat), f < 12 →
    let locked := bitOf (s.dev.rd CLK_FIELD_PLL) f
    (locked = false → Gives (.pllUnlock f) s (· = s.dev)) ∧
    (locked = true → (∀ b ∈ s.dev.strm.beats, b.seqs = []) → Gives (.pllUnlock f) s fun d =>
      bitOf (d.rd CLK_FIELD_PLL) f = false ∧ bitOf (d.rd CLK_FIELD_PLL) (16 + f) = false ∧
      d.rd CLK_PLL_UNLOCK_COUNT = satAdd (s.dev.rd CLK_PLL_UNLOCK_COUNT) 1 ∧ s.dev.flt.pendingRecords.length < d.flt.pendingRecords.length) ∧
    (∀ ok, locked = true ∨ s.dev.domOn (144 + f) = false ∨ s.dev.clk.refLost = true → Gives (.pllRelockDone f ok) s (· = s.dev)) ∧
    (locked = false → s.dev.domOn (144 + f) = true → s.dev.clk.refLost = false → Gives (.pllRelockDone f true) s fun d =>
      bitOf (d.rd CLK_FIELD_PLL) f = true ∧ d.meshRuns f = decide (s.dev.chgState ≠ 2) ∧ bitOf (d.rd TIME_DIST_STATUS) f = true ∧
      RegsKeep ([CLK_FIELD_PLL, TIME_DIST_STATUS] ++ seamRegs) s.dev d ∧
      d = { s.dev with regs := d.regs, clk := { s.dev.clk with fieldDiv := kvDel s.dev.clk.fieldDiv f } }) ∧
    (locked = false → s.dev.domOn (144 + f) = true → s.dev.clk.refLost = false → s.dev.flt.fieldFailed.contains f = false → (∀ b ∈ s.dev.strm.beats, b.seqs = []) →
      Gives (.pllRelockDone f false) s fun d => f ∈ d.flt.fieldFailed ∧ d.rdF (FIELD_HEALTH f) 1 0 = 3 ∧ d.domOn (144 + f) = false)) ∧
  (∀ s : State,
    (s.dev.clk.refLost = true ∨ s.dev.held = true → Gives .refclkLoss s (· = s.dev)) ∧
    (s.dev.clk.refLost = false → s.dev.held = false → s.dev.strm.beats = [] → Gives .refclkLoss s fun d =>
      d.clk.refLost = true ∧ d.time.stopped = true ∧ d.rd CLK_REF_STATUS = 2 ∧ d.rdF CLK_FIELD_PLL 27 16 = 0 ∧ d.rdF TIME_SYNC_STATUS 1 0 = 3 ∧
      d.rd CLK_REF_LOSS_COUNT = satAdd (s.dev.rd CLK_REF_LOSS_COUNT) 1 ∧ bitOf (d.rd PINS_FAULT_COND) 0 = true ∧ d.rdF FLOOR_STATE 2 0 = 4 ∧
      RegsKeep [CLK_REF_STATUS, CLK_FIELD_PLL, TIME_SYNC_STATUS, TIME_RATE, CLK_REF_LOSS_COUNT, PINS_FAULT_COND, FLOOR_STATE, CHAN_CH_STATUS, PCIE_INT_CAUSE] s.dev d) ∧
    (s.dev.clk.refLost = false → Gives .refclkReturn s (· = s.dev)) ∧
    (s.dev.clk.refLost = true → Gives .refclkReturn s fun d =>
      d.clk.refLost = false ∧ d.time.stopped = false ∧ bitOf (d.rd CLK_REF_STATUS) 0 = true ∧ bitOf (d.rd PINS_FAULT_COND) 0 = false ∧ inReset d = true ∧
      (inReset s.dev = false → d.rdF BOOT_RESET_STATUS 7 4 = 4) ∧
      ∀ f, f < 12 → s.dev.domOn (144 + f) = true → bitOf (d.rd CLK_FIELD_PLL) f = true ∧ d.meshRuns f = decide (s.dev.chgState ≠ 2)))

/-- A poll of a rail keeps its voltage and current, or counts and records a failed transaction; a phase that an AVSBus
poll shows failed is noted, with ALERT_N; 100 us of failures are a sense loss of every phase; SMBALERT is counted and
answered; a rail fault sets its bit, and of VCORE, VMEM, VSERDES and VHBM rails it is recorded and signalled. DOM_CTRL
by Pewter starts one switch of a domain that is not in use, DOMAIN_SWITCH_DONE ends it; a core domain that the trip
has opened stays off. CEIL_EVAL sets the duty request of the field by R455. DROOP_TRIP stretches the field's clock and
holds the segments on all its sides, DROOP_STRETCH_END ends it and counts the cycles, escalation cuts the duty to 8
and fails the field 1 ms later. HINT_EXPIRE takes away a sequencer's hint, and of an entry's those whose time has
passed. POWER_SAMPLE shows the power and its averages; the short-term and sustained controllers step down above their
limits and up below their lower bounds. HERD_SHARE, trims, PERF.MEASURED and the estimate's coefficients (free values)
are kept. The thermal poll sets the level by its thresholds with 3 C of hysteresis, holds compute in reset at HALT;
the timers step duty and OPP; the trip opens every core domain, and the first writes a record (log entry 117); a hot
stack requests the next lower OPP. A request leads to the lowest OPP that a cause requests. (12_power_thermal.md R447,
12_power_thermal.md R448, 12_power_thermal.md R450, 12_power_thermal.md R452, 12_power_thermal.md R453,
12_power_thermal.md R455, 12_power_thermal.md R460, 12_power_thermal.md R462, 12_power_thermal.md R464,
12_power_thermal.md R466, 12_power_thermal.md R468, 12_power_thermal.md R472) -/
def Obligations.PowerThermal : Prop :=
  (∀ (s : State) (r mv qa : Nat),
    let stat := PMB_RAIL_STAT r
    let read := fun d : Dev => d.rdF stat 11 0 = mv % 4096 ∧ d.rdF stat 31 16 = qa % 65536 ∧ bitOf (d.rd stat) 15 = false ∧ kvGet? d.pwr.commTick r = none
    let fails := fun d : Dev => bitOf (d.rd stat) 15 = true ∧ d.rd PMB_COMM_ERR_COUNT = satAdd (s.dev.rd PMB_COMM_ERR_COUNT) 1 ∧
      d.flt.pendingRecords.length = s.dev.flt.pendingRecords.length + 1 ∧
      (bitOf (s.dev.rd stat) 15 = false → kvGet? d.pwr.commTick r = some s.dev.time.tb) ∧ RegsKeep [stat, PMB_COMM_ERR_COUNT] s.dev d
    (r < 14 → (∀ open_ lost, Gives (.avsPoll r false mv qa open_ lost) s fails) ∧
      Gives (.avsPoll r true mv qa [] []) s (fun d => read d ∧ RegsKeep [stat, PWR_FIELD_PWR r] s.dev d) ∧
      (∀ p, r < 12 → p < 12 → s.dev.phaseFailed (12 * r + p) = false → s.dev.flt.fieldFailed.contains r = true → Gives (.avsPoll r true mv qa [p] []) s fun d =>
        d.phaseFailed (12 * r + p) = true ∧ d.rd PWR_PHASE_EVENT_COUNT = satAdd (s.dev.rd PWR_PHASE_EVENT_COUNT) 1 ∧ bitOf (d.rd PINS_ALERT_SRC) 1 = true) ∧
      (∀ p, 12 ≤ r → p < 63 → s.dev.pwr.memFailed.contains (64 * (r - 12) + p) = false → Gives (.avsPoll r true mv qa [p] []) s fun d =>
        64 * (r - 12) + p ∈ d.pwr.memFailed ∧ d.rd PWR_PHASE_EVENT_COUNT = satAdd (s.dev.rd PWR_PHASE_EVENT_COUNT) 1 ∧
        bitOf (d.rd PWR_FLAGS) 1 = true ∧ bitOf (d.rd PINS_ALERT_SRC) 1 = true)) ∧
    (r < 18 → (∀ hot, Gives (.pmbusPoll r false mv qa hot) s fails) ∧
      Gives (.pmbusPoll r true mv qa false) s (fun d => read d ∧ RegsKeep [stat, PWR_FIELD_PWR r] s.dev d) ∧
      Gives (.pmbusPoll r true mv qa true) s (fun d => read d ∧ bitOf (d.rd PINS_ALERT_SRC) 1 = true ∧
        d.flt.pendingRecords.length = s.dev.flt.pendingRecords.length + 1)) ∧
    (∀ t, kvGet? s.dev.pwr.commTick r = some t →
      (r < 14 → s.dev.time.tb < t + 80000 → Gives (.commTimeout r) s (· = s.dev)) ∧
      (r < 12 → t + 80000 ≤ s.dev.time.tb → bitOf (s.dev.rd stat) 15 = true → Gives (.commTimeout r) s fun d => ∀ p, p < 12 → d.senseFailed (12 * r + p) = true) ∧
      (12 ≤ r → r < 14 → t + 80000 ≤ s.dev.time.tb → bitOf (s.dev.rd stat) 15 = true → s.dev.pwr.memLost.contains (64 * (r - 12) + 63) = false → Gives (.commTimeout r) s fun d =>
        64 * (r - 12) + 63 ∈ d.pwr.memLost ∧ bitOf (d.rd PWR_FLAGS) 1 = true ∧ d.rd PWR_PHASE_EVENT_COUNT = satAdd (s.dev.rd PWR_PHASE_EVENT_COUNT) 1 ∧ bitOf (d.rd PINS_ALERT_SRC) 1 = true)) ∧
    (r < 14 → kvGet? s.dev.pwr.commTick r = none → Gives (.commTimeout r) s (· = s.dev)) ∧
    Gives .smbalert s (fun d => d.rd PMB_ALERT_COUNT = satAdd (s.dev.rd PMB_ALERT_COUNT) 1 ∧ d.tx = s.dev.tx ++ [.alertResponse] ∧
      RegsKeep [PMB_ALERT_COUNT] s.dev d ∧ d = { s.dev with regs := d.regs, tx := d.tx }) ∧
    (∀ kind ports, r < 18 → kind < 3 → Gives (.railFault r kind ports) s fun d => bitOf (d.rd stat) (12 + kind) = true ∧
      (r = 14 ∨ r = 15 → OnlyRegs [stat] s.dev d) ∧ (r < 14 ∨ 16 ≤ r → bitOf (d.rd PINS_FAULT_SRC) 1 = true ∧ s.dev.flt.pendingRecords.length < d.flt.pendingRecords.length) ∧
      (r < 12 → r ∈ d.flt.fieldFailed) ∧ (r = 12 ∨ r = 13 → d.rdF FLOOR_STATE 2 0 = 4))) ∧
  (∀ (s : State) (agent : Nat) (data : Word), isPewter agent = true → fld data 31 9 = 0 →
    let i := fld data 7 0
    let on := bitOf data 8
    (s.dev.up = true → i < 168 → s.dev.pwr.domSwitch = none → (on = false → domainInUse s.dev i = false) → (on = true → s.dev.chgState = 0) →
      Gives (.domCtrl agent data) s fun d => d.pwr = { s.dev.pwr with domSwitch := some (i, on) } ∧ bitOf (d.rd (Page.pwr.base + 0xC)) 4 = true ∧
        RegsKeep [Page.pwr.base + 0xC] s.dev d ∧ d = { s.dev with regs := d.regs, pwr := d.pwr }) ∧
    (s.dev.up = true → i < 168 → on = false → domainInUse s.dev i = true → Gives (.domCtrl agent data) s (· = s.dev.reject .pwr 0x1D8 agent .state)) ∧
    (s.dev.pwr.domSwitch = none → Gives .domainSwitchDone s (· = s.dev)) ∧
    (∀ j on, s.dev.pwr.domSwitch = some (j, on) → j < 168 → Gives .domainSwitchDone s fun d =>
      d.domOn j = (on && !(s.dev.pwr.tripOpen && decide (j < 144))) ∧ (∀ k, k < 168 → k ≠ j → d.domOn k = s.dev.domOn k) ∧ d.pwr = { s.dev.pwr with domSwitch := none } ∧
      bitOf (d.rd (Page.pwr.base + 0xC)) 4 = false ∧ (144 ≤ j → j < 156 → bitOf (d.rd CLK_FIELD_PLL) (j - 144) = if on then bitOf (s.dev.rd CLK_FIELD_PLL) (j - 144) || !s.dev.clk.refLost else false) ∧
      RegsKeep ([Page.pwr.base + 0xC, PWR_DOM_ON (j / 32)] ++ if 144 ≤ j ∧ j < 156 then [CLK_FIELD_PLL, TIME_DIST_STATUS] else []) s.dev d)) ∧
  (∀ (s : State) (f : Nat), f < 12 →
    let i := 10 * s.dev.ceilCurrent10 f
    let g := 380 * s.dev.ceilA f
    let duty := s.dev.rdF (PWR_FIELD_PWR f) 14 10
    let old := kvGetD s.dev.pwr.ceilReq 16 f
    let evals := if i * (duty + 1) ≤ g * duty then kvGetD s.dev.pwr.ceilOk 0 f + 1 else 0
    let want := if g < i then max 4 (duty * g / i) else if s.dev.workingPhases f = 12 ∧ i < g then 16 else if 20 ≤ evals then min 16 (old + 1) else old
    Gives (.ceilEval f) s (fun d => kvGetD d.pwr.ceilReq 16 f = want ∧ (∀ k, k ≠ f → kvGetD d.pwr.ceilReq 16 k = kvGetD s.dev.pwr.ceilReq 16 k) ∧
      d.rdF (PWR_FIELD_PWR f) 14 10 = d.dutyRequested f % 32 ∧ RegsKeep [PWR_FIELD_PWR f, PWR_THR_CAUSE] s.dev d ∧
      d = { s.dev with regs := d.regs, pwr := d.pwr, flt := { s.dev.flt with ibexRun := d.flt.ibexRun } }) ∧
    (∀ cycles,
      (s.dev.pwr.stretched.contains f = false → Gives (.droopStretchEnd f cycles) s (· = s.dev)) ∧
      (s.dev.pwr.stretched.contains f = true → Gives (.droopStretchEnd f cycles) s fun d =>
        f ∉ d.pwr.stretched ∧ f ∉ d.pwr.droopEsc ∧ kvGet? d.pwr.escalated f = none ∧ d.rd PWR_DROOP_CYCLES = satAdd (s.dev.rd PWR_DROOP_CYCLES) cycles ∧
        (s.dev.clk.dieHold = false → s.dev.clk.fieldHold = [] → (∀ g ∈ s.dev.pwr.stretched, g = f) →
          ∀ g ∈ fieldSeams f, seamPresent s.dev g.1 g.2 = true → bitOf (d.rd (seamReg g.1 g.2)) 9 = false))) ∧
    (¬(s.dev.pwr.stretched.contains f = true ∧ s.dev.pwr.droopEsc.contains f = false) → Gives (.stretchEscalation f) s (· = s.dev)) ∧
    (s.dev.pwr.stretched.contains f = true → s.dev.pwr.droopEsc.contains f = false → Gives (.stretchEscalation f) s fun d =>
      f ∈ d.pwr.droopEsc ∧ kvGet? d.pwr.escalated f = some s.dev.time.tb ∧ d.rdF (PWR_FIELD_PWR f) 14 10 ≤ 8 ∧
      d.rd PWR_STRETCH_ESC_COUNT = satAdd (s.dev.rd PWR_STRETCH_ESC_COUNT) 1 ∧ bitOf (d.rd PWR_THR_CAUSE) 1 = true) ∧
    (∀ still,
      let fails := still = true ∧ s.dev.flt.fieldFailed.contains f = false ∧ ∃ t, kvGet? s.dev.pwr.escalated f = some t ∧ t + 800000 ≤ s.dev.time.tb
      (¬fails → Gives (.droopPersistCheck f still) s (· = s.dev)) ∧
      (fails → Gives (.droopPersistCheck f still) s fun d => f ∈ d.flt.fieldFailed))) ∧
  (∀ (s : State) (dom : Nat), dom < 168 →
    let f := domainField dom
    Gives (.droopTrip dom) s fun d => dom ∈ d.pwr.tripped ∧ f ∈ d.pwr.stretched ∧
      if s.dev.pwr.stretched.contains f = true then d = { s.dev with pwr := { s.dev.pwr with tripped := d.pwr.tripped } }
      else d.rd PWR_DROOP_COUNT = satAdd (s.dev.rd PWR_DROOP_COUNT) 1 ∧ RegsKeep (PWR_DROOP_COUNT :: allSeams.map fun g => seamReg g.1 g.2) s.dev d ∧
        ∀ g ∈ fieldSeams f, seamPresent s.dev g.1 g.2 = true → bitOf (d.rd (seamReg g.1 g.2)) 9 = true) ∧
  (∀ (s : State) (src m : Nat),
    Gives (.hintExpire src) s (fun d => d.pwr = { s.dev.pwr with hints := s.dev.pwr.hints.filter fun x => x.src != src || (decide (64 ≤ src) && decide (s.dev.time.tb < x.ends)) } ∧
      (∀ f, f < 12 → d.rdF (PWR_VSET f) 25 16 = vset d f % 1024) ∧ RegsKeep ((List.range 12).map fun f => PWR_VSET f) s.dev d ∧
      d = { s.dev with regs := d.regs, pwr := d.pwr, tx := d.tx }) ∧
    Gives (.perfMeasuredUpdate m) s (fun d => d.rdF PWR_PERF 31 16 = min m 65535 ∧ OnlyRegs [PWR_PERF] s.dev d) ∧
    Gives .trimFlashWrite s (· = { s.dev with boot := { s.dev.boot with store := { s.dev.boot.store with trims := s.dev.pwr.trim } } }) ∧
    Gives .estCalibrate s (fun d => d.freeCtr = s.dev.freeCtr + 5 ∧ (∀ i, i < 5 → kvGetD d.pwr.coef 0 i = Config.freeValue (s.dev.freeCtr + i)) ∧
      d = { s.dev with freeCtr := d.freeCtr, pwr := { s.dev.pwr with coef := d.pwr.coef } })) ∧
  (∀ s : State,
    let w := ((List.range 18).foldl (fun n r => n + s.dev.railPower r) 0) / 4000
    let lim := s.dev.sustLimit
    let avg := s.dev.rdF PWR_POWER_SUST 15 0
    let low := if 100 * avg < 90 * lim then s.dev.pwr.sustLow + 1 else 0
    let window := 10 * s.dev.rdF PWR_SUST_CAP 23 16
    Gives .powerSample s (fun d => d.rdF PWR_POWER_NOW 15 0 = min w 65535 ∧ d.pwr.activity = [] ∧ d.pwr.lastActivity = s.dev.pwr.activity ∧
      d.rdF PWR_POWER_10MS 15 0 = min 65535 (avgSince d.pwr.samples (s.dev.time.tb - 8000000)) ∧
      d.rdF PWR_POWER_SUST 15 0 = min 65535 (avgSince d.pwr.samples (s.dev.time.tb - 800000000 * s.dev.rdF PWR_SUST_CAP 23 16)) ∧ (∃ rest, d.pwr.samples = (s.dev.time.tb, w) :: rest) ∧
      RegsKeep [PWR_POWER_NOW, PWR_POWER_10MS, PWR_POWER_SUST, PWR_LIMITS, PWR_THROTTLE_US] s.dev d) ∧
    (1 < s.dev.pwr.sustSteps ∨ (100 * avg ≤ 98 * lim ∧ (low < window ∨ s.dev.oppAbove s.dev.curOpp = none)) → Gives .sustStep s (· = { s.dev with
      pwr := { s.dev.pwr with sustLow := low, sustSteps := s.dev.pwr.sustSteps - 1 } })) ∧
    (∀ e, s.dev.pwr.sustSteps ≤ 1 → 100 * avg < 90 * lim → window ≤ low → s.dev.oppAbove s.dev.curOpp = some e → firstFail (chgChecks e s.dev) = none →
      s.dev.pwr.oppReq = [] → Gives .sustStep s fun d =>
      d.chgState = 1 ∧ d.rdF CLK_CHG_STATE 6 4 = e ∧ d.pwr.sustSteps = window ∧ d.pwr.oppReq = []) ∧
    (∀ e, s.dev.pwr.sustSteps ≤ 1 → 98 * lim < 100 * avg → s.dev.oppBelow s.dev.curOpp = some e → firstFail (chgChecks e s.dev) = none →
      Gives .sustStep s fun d =>
      d.chgState = 1 ∧ d.rdF CLK_CHG_STATE 6 4 = s.dev.oppAllowed e ∧ d.pwr.sustSteps = window ∧ kvGet? d.pwr.oppReq 7 = some e ∧
      d.rd PWR_OPP_DOWN_COUNT = satAdd (s.dev.rd PWR_OPP_DOWN_COUNT) 1)) ∧
  (∀ s : State,
    let start := if 8000000 ≤ s.dev.time.tb - s.dev.pwr.shortWin then s.dev.time.tb else s.dev.pwr.shortWin
    let done := (s.dev.time.tb - start) / 800
    let proj := (avgSince s.dev.pwr.samples start * done + avgSince s.dev.pwr.samples (s.dev.time.tb - 80000) * (10000 - done)) / 10000
    let lim := s.dev.shortLimit
    (proj ≤ lim → 9 * lim ≤ 10 * proj → Gives .shortTermStep s (· = { s.dev with pwr := { s.dev.pwr with shortWin := start } })) ∧
    (lim < proj → 5 < s.dev.pwr.shortDuty → s.dev.pwr.shortDuty ≤ 16 → Gives .shortTermStep s fun d =>
      d.pwr.shortDuty = s.dev.pwr.shortDuty - 1 ∧ (∀ f, f < 12 → d.rdF (PWR_FIELD_PWR f) 14 10 ≤ s.dev.pwr.shortDuty - 1) ∧ bitOf (d.rd PWR_THR_CAUSE) 2 = true) ∧
    (proj ≤ lim → 10 * proj < 9 * lim → s.dev.pwr.shortDuty < 15 → Gives .shortTermStep s fun d => d.pwr.shortDuty = s.dev.pwr.shortDuty + 1)) ∧
  (∀ (s : State) (agent : Nat) (data : Word), isPewter agent = true → fld data 30 16 = 0 →
    (s.dev.up = true → inHerd s.dev = true → Gives (.herdShare agent data) s fun d => d.rd PWR_HERD_SHARE = data ∧ RegsKeep [PWR_HERD_SHARE] s.dev d ∧
      d = { s.dev with regs := d.regs, pwr := { s.dev.pwr with herdShareNext := if bitOf data 31 then some (fld data 15 0) else none, herdShareAge := 0 } }) ∧
    (inHerd s.dev = false → Gives (.herdShare agent data) s (· = s.dev.reject .pwr 0x11C agent .state))) ∧
  (∀ (s : State) (f : Nat) (low high : Bool), f < 12 →
    let t := kvGetD s.dev.pwr.trim 0 f
    let want := if low = true then min 60 (t + 5) else if high = true then max (-40) (t - 5) else t
    let recent := ∃ k, kvGet? s.dev.pwr.trimTick f = some k ∧ s.dev.time.tb < k + 8000000000
    (want = t ∨ recent → Gives (.trimAdjust f low high) s (· = s.dev)) ∧
    (want ≠ t → ¬recent → Gives (.trimAdjust f low high) s fun d =>
      kvGetD d.pwr.trim 0 f = want ∧ kvGet? d.pwr.trimTick f = some s.dev.time.tb ∧ d.boot.store.trims = d.pwr.trim ∧
      d.rdF (PWR_VSET f) 25 16 = vset d f % 1024 ∧ (want ≠ 60 → RegsKeep [PWR_VSET f] s.dev d) ∧
      (want = 60 → bitOf (d.rd PWR_FLAGS) 0 = true ∧ bitOf (d.rd PINS_ALERT_SRC) 1 = true))) ∧
  (∀ (s : State) (rs : List (Nat × Nat)),
    let sensor := rs.foldl (fun m r => if r.1 < 192 then kvSetD m 0 r.1 (r.2 % 65536) else m) s.dev.pwr.sensor
    let t := (hottest { s.dev with pwr := { s.dev.pwr with sensor } }).2
    let p := s.dev.pwr
    let warn := latchT p.warnOn t (4 * s.dev.rdF THERM_THRESH 7 0)
    let duty := latchT p.dutyOn t 400
    let opp := latchT p.oppOn t 412
    let halt := if 432 ≤ t then true else if t < 380 then false else p.haltOn
    Gives (.thermalPoll rs) s fun d => d.pwr.sensor = sensor ∧ d.pwr.warnOn = warn ∧ d.pwr.dutyOn = duty ∧ d.pwr.oppOn = opp ∧ d.pwr.haltOn = halt ∧
      d.rdF THERM_STATE 2 0 = (if halt then 4 else if opp then 3 else if duty then 2 else if warn then 1 else 0) ∧
      d.rd THERM_TJ_MAX = w32 (ofSigned 16 t + (hottest { s.dev with pwr := { s.dev.pwr with sensor } }).1 * 65536) ∧
      (halt = true → p.haltOn = false → d.pwr.thermHalt = true ∧ bitOf (d.rd PINS_FAULT_COND) 1 = true ∧ inReset d = true ∧
        d.rd THERM_HALT_COUNT = satAdd (s.dev.rd THERM_HALT_COUNT) 1) ∧
      (halt = false → p.haltOn = true → d.pwr.thermHalt = false ∧ bitOf (d.rd PINS_FAULT_COND) 1 = false)) ∧
  (∀ (s : State) (m : Nat),
    let t := (hottest s.dev).2
    let down := fun (d : Dev) (cause : Nat) => ∀ e, s.dev.oppBelow s.dev.curOpp = some e → firstFail (chgChecks e s.dev) = none →
      d.chgState = 1 ∧ d.rdF CLK_CHG_STATE 6 4 = s.dev.oppAllowed e ∧ kvGet? d.pwr.oppReq cause = some e
    Gives (.thermalStepTimer 0) s (fun d => d.rd THERM_THROTTLE_MS = (if 2 ≤ s.dev.pwr.level then satAdd (s.dev.rd THERM_THROTTLE_MS) 1 else s.dev.rd THERM_THROTTLE_MS) ∧
      (¬(s.dev.pwr.dutyOn = true ∧ 408 ≤ t) → OnlyRegs [THERM_THROTTLE_MS] s.dev d) ∧
      (s.dev.pwr.dutyOn = true → 408 ≤ t → let f := sensorField (hottest s.dev).1
        kvGetD d.pwr.thermDuty 16 f = if kvGetD s.dev.pwr.thermDuty 16 f = 16 then 12 else max 8 (kvGetD s.dev.pwr.thermDuty 16 f - 2))) ∧
    Gives (.thermalStepTimer 1) s (fun d => if s.dev.pwr.oppOn = true ∧ 412 ≤ t then down d 5 else d = s.dev) ∧
    Gives (.thermalStepTimer 2) s (fun d => (kvGet? s.dev.pwr.oppReq 5 = none ∨ 388 ≤ t → d = s.dev) ∧
      ∀ e, kvGet? s.dev.pwr.oppReq 5 = some e → t < 388 → s.dev.oppAbove e = none → kvGet? d.pwr.oppReq 5 = none) ∧
    Gives .thermalTrip s (fun d => (∀ i, i < 144 → d.domOn i = false) ∧ (∀ i, 144 ≤ i → i < 168 → d.domOn i = s.dev.domOn i) ∧ d.pwr.tripLatched = true ∧ d.pwr.tripOpen = true ∧
      d.flt.pendingRecords.length = s.dev.flt.pendingRecords.length + (if s.dev.pwr.tripOpen then 0 else 1) ∧
      12 ∉ d.pwr.railsOn ∧ 13 ∉ d.pwr.railsOn ∧ bitOf (d.rd PINS_FAULT_COND) 2 = true ∧
      RegsKeep ([PINS_FAULT_COND, PCIE_INT_CAUSE] ++ (List.range 5).map fun i => PWR_DOM_ON i) s.dev d) ∧
    (m < 8 → Gives (.hbmHotStep m) s fun d => if mempHot s.dev m = true then down d 6 else d = s.dev))

/-- TRIAL_START takes the first queued trial that may start: with a spare the site is fenced and in recovery, the
spare takes its ID with the next generation and the refill starts; without one the plan shrinks and a new image is
published; with a fence that cannot be made the field fails. TRIAL and TRIAL_WITH_FENCE of a bound site do the same at
once; of another site they are rejected with STATE, during a recovery with BUSY, and in a quarantined field they start
nothing; REINSTATE makes a dead site that Ibex passed a spare again. A REFILL_PACKET copies the next lines of the list
into the spare, and a port with no line left is done; REFILL_DONE ends the refill and the hold; REFILL_TIMEOUT after
400 us starts it again once, and then the spare is dead. SEAM_RELOCK_TIMEOUT, 10 us after the unlock, and
TB_COPY_CHECK fail the field, MEM_PORT_FAIL the port. (13_faults_recovery.md R493, 13_faults_recovery.md R496,
13_faults_recovery.md R497, 13_faults_recovery.md R498, 13_faults_recovery.md R499, 13_faults_recovery.md R500,
13_faults_recovery.md R504, 13_faults_recovery.md R511, 13_faults_recovery.md R512, 13_faults_recovery.md R518,
09_external_memory.md R386, 10_cadence_time.md R392) -/
def Obligations.Recoveries : Prop :=
  (∀ s : State,
    (s.dev.flt.trial.isSome = true ∨ takeFirst (trialAllowed s.dev) s.dev.flt.trialQueue = none → Gives .trialStart s (· = s.dev)) ∧
    (∀ site mode rest, s.dev.flt.trial = none → takeFirst (trialAllowed s.dev) s.dev.flt.trialQueue = some ((site, mode), rest) →
      (siteState s.dev site ≠ 2 → siteState s.dev site ≠ 3 → Gives .trialStart s fun d =>
        d.flt = { s.dev.flt with trialQueue := rest } ∧ d.rdF FLOOR_STATE 16 12 = rest.length % 32 ∧ OnlyRegs [FLOOR_STATE] { s.dev with flt := d.flt } d) ∧
      (siteState s.dev site = 2 ∨ siteState s.dev site = 3 → SitesRise s.dev → site < 13824 →
        (∀ spare, mode ≠ 1 → nearestSpare s.dev site = some spare → Gives .trialStart s fun d => TrialBegun site spare false s d ∧ d.flt.trialQueue = rest) ∧
        (mode ≠ 1 → nearestSpare s.dev site = none → Completes .trialStart s (Shrunk site s)) ∧
        (mode = 1 → addRegion site s.dev.fab.regions = none → s.dev.flt.fieldFailed.contains (siteField site) = false → Gives .trialStart s fun d =>
          siteField site ∈ d.flt.fieldFailed ∧ d.flt.trial = none)))) ∧
  (∀ (s : State) (agent site : Nat), s.dev.mayWrite agent .floor = true → s.dev.isFenced .floor = false → s.dev.up = true → site < 13824 → SitesRise s.dev →
    let st := siteState s.dev site
    let q0 := showQueue { s.dev with flt := { s.dev.flt with trialQueue := s.dev.flt.trialQueue.filter fun e => e.1 != site } }
    let r := fenceRouter site s.mem q0
    let recovering := bitOf (s.dev.rd FLOOR_STATE) 5
    (st ≠ 2 → st ≠ 3 → Gives (.trial agent site) s (· = s.dev.reject .floor 0x124 agent .state) ∧
      Gives (.trialWithFence agent site) s (· = s.dev.reject .floor 0x124 agent .state)) ∧
    (st = 2 ∨ st = 3 →
      (recovering = true → Gives (.trial agent site) s (· = s.dev.reject .floor 0x124 agent .busy) ∧
        Gives (.trialWithFence agent site) s (· = s.dev.reject .floor 0x124 agent .busy)) ∧
      (recovering = false → quarantined s.dev (siteField site) = true → Gives (.trial agent site) s (· = s.dev) ∧ Gives (.trialWithFence agent site) s (· = s.dev)) ∧
      (recovering = false → quarantined s.dev (siteField site) = false →
        (∀ spare, nearestSpare s.dev site = some spare → Gives (.trial agent site) s fun d => TrialBegun site spare false s d ∧ ∀ e ∈ d.flt.trialQueue, e.1 ≠ site) ∧
        (nearestSpare s.dev site = none → Completes (.trial agent site) s (Shrunk site s)) ∧
        (∀ spare, r.2 = true → nearestSpare r.1 site = some spare → Gives (.trialWithFence agent site) s fun d =>
          TrialBegun site spare true s d ∧ some d.fab.regions = addRegion site s.dev.fab.regions) ∧
        (addRegion site s.dev.fab.regions = none → s.dev.flt.fieldFailed.contains (siteField site) = false → Gives (.trialWithFence agent site) s fun d =>
          siteField site ∈ d.flt.fieldFailed))) ∧
    (¬(st = 5 ∧ s.dev.flt.ibexPassed.contains site = true) → Gives (.reinstate agent site) s (· = s.dev.reject .floor 0x124 agent .state)) ∧
    (st = 5 → s.dev.flt.ibexPassed.contains site = true → Completes (.reinstate agent site) s fun t =>
      siteState t.dev site = 1 ∧ (Page.tile site).base ∉ t.dev.fenced ∧ site ∉ t.dev.flt.ibexPassed ∧ t.dev.rd FLOOR_PLAN_EPOCH = s.dev.rd FLOOR_PLAN_EPOCH + 1 ∧
      t.pending = s.pending ∧ ∀ a, ¬inNextImage s.dev a → t.mem.byteAt a = s.mem.byteAt a)) ∧
  (∀ (s : State) (n : Nat) (errs : List (Nat × Nat)),
    let idle := ∀ t, s.dev.flt.trial = some t → t.step ≠ 5
    let ls := fun t : Trial => refillLines s.mem s.dev t.logical
    (idle → Gives (.refillPacket n errs) s (· = s.dev) ∧ Gives .refillDone s (· = s.dev) ∧ Gives .refillTimeout s (· = s.dev)) ∧
    (∀ t, s.dev.flt.trial = some t → t.step = 5 →
      let bound := s.dev.tileBound t.spare = true ∧ s.dev.tileId t.spare = t.logical ∧ s.dev.tileGen t.spare = t.gen ∧ s.dev.tileFenced t.spare = false
      (¬bound → Gives (.refillPacket n errs) s fun d => d.flt.refillDone = s.dev.flt.refillDone ∧ d.tiles = s.dev.tiles) ∧
      (bound → Completes (.refillPacket n errs) s fun u =>
        u.pending = s.pending ∧ u.dev.flt.refillDone = s.dev.flt.refillDone + min n ((ls t).length - s.dev.flt.refillDone) ∧
        ∀ m, m < 8 → bitOf (u.dev.rd FLOOR_REFILL_STATUS) m = !(((ls t).drop u.dev.flt.refillDone).any fun l => (memMap (joinGib s.dev) (64 * l.1)).1 == m)) ∧
      (∀ l rest, bound → (ls t).drop s.dev.flt.refillDone = l :: rest → 64 * l.1 + 64 ≤ memCapacity → l.2 + 16 ≤ spadWords → (l.1 ∉ s.mem.poison) →
        portFailed s.dev (memMap (joinGib s.dev) (64 * l.1)).1 = false → Gives (.refillPacket 1 []) s fun d =>
          (d.tile t.spare).rdN l.2 16 = leWords (s.mem.read (64 * l.1) 64) ∧ d.flt.refillDone = s.dev.flt.refillDone + 1) ∧
      (s.dev.flt.refillDone < (ls t).length → Gives .refillDone s (· = s.dev)) ∧
      ((ls t).length ≤ s.dev.flt.refillDone → t.noReplay = false → Gives .refillDone s fun d =>
        d.flt = { s.dev.flt with trial := some { t with step := 7 } } ∧ d.rdF FLOOR_REFILL_STATUS 7 0 = 255 ∧ bitOf (d.rd FLOOR_STATE) 4 = false ∧
        OnlyRegs [FLOOR_REFILL_STATUS, FLOOR_STATE, FLOOR_RECOV_US] { s.dev with flt := d.flt } d) ∧
      ((ls t).length ≤ s.dev.flt.refillDone → t.noReplay = true → t.site < 13824 → Completes .refillDone s fun u =>
        u.dev.flt.trial = none ∧ siteState u.dev t.site = 5 ∧ u.dev.rd FLOOR_DEAD_COUNT = satAdd (s.dev.rd FLOOR_DEAD_COUNT) 1 ∧
        bitOf (u.dev.rd FLOOR_STATE) 4 = false ∧ bitOf (u.dev.rd FLOOR_STATE) 5 = false ∧ ∀ a, ¬inNextImage s.dev a → u.mem.byteAt a = s.mem.byteAt a) ∧
      (s.dev.time.tb < t.refillTick + 320000 → Gives .refillTimeout s (· = s.dev)) ∧
      (t.refillTick + 320000 ≤ s.dev.time.tb → t.retried = false → Gives .refillTimeout s fun d =>
        d.flt = { s.dev.flt with trial := some { t with retried := true, refillTick := s.dev.time.tb }, refillDone := 0 } ∧
        d.rd FLOOR_REFILL_STATUS = 0 ∧ OnlyRegs [FLOOR_REFILL_STATUS] { s.dev with flt := d.flt } d) ∧
      (t.refillTick + 320000 ≤ s.dev.time.tb → t.retried = true → SitesRise s.dev → t.spare < 13824 → t.site < 13824 → t.spare ≠ t.site → Completes .refillTimeout s fun u =>
        siteState u.dev t.spare = 5 ∧ u.dev.rd FLOOR_DEAD_COUNT = satAdd (s.dev.rd FLOOR_DEAD_COUNT) 1 ∧ u.dev.tileFenced t.spare = true ∧ u.pending = s.pending ∧
        ∀ a, ¬inNextImage s.dev a → u.mem.byteAt a = s.mem.byteAt a))) ∧
  (∀ (s : State) (f m : Nat) (south : Bool) (out : List Nat),
    let w := s.dev.rd (seamReg f south)
    let late := seamPresent s.dev f south = true ∧ bitOf w 8 = false ∧ bitOf w 10 = false ∧
      kvGetD s.dev.fab.seamTick 0 (seamUnit f south) + 8000 ≤ s.dev.time.tb
    (f < 12 → ¬late → Gives (.seamRelockTimeout f south) s (· = s.dev)) ∧
    (f < 12 → late → Gives (.seamRelockTimeout f south) s fun d => bitOf (d.rd (seamReg f south)) 10 = true ∧ f ∈ d.flt.fieldFailed) ∧
    ((∀ g ∈ out, 12 ≤ g ∨ g ∈ s.dev.flt.fieldFailed) → Gives (.tbCopyCheck out) s (· = s.dev)) ∧
    Gives (.tbCopyCheck out) s (fun d => ∀ g ∈ out, g < 12 → g ∈ d.flt.fieldFailed) ∧
    (m < 8 → bitOf (s.dev.rd (MEMP_STATUS_MP m)) 1 = true → Gives (.memPortFail m) s (· = s.dev)) ∧
    (m < 8 → bitOf (s.dev.rd (MEMP_STATUS_MP m)) 1 = false → Gives (.memPortFail m) s fun d =>
      bitOf (d.rd (MEMP_STATUS_MP m)) 1 = true ∧ (Page.memp m).base ∈ d.fenced ∧ 3 ≤ d.rdF FLOOR_STATE 2 0 ∧
      d.flt.pendingRecords.length = s.dev.flt.pendingRecords.length + 1 ∧
      RegsKeep [MEMP_STATUS_MP m, FLOOR_STATE, CHAN_CH_STATUS, PINS_FAULT_COND, PCIE_INT_CAUSE] s.dev d))

/-- ERROR_RECORD_STORE takes the oldest detected record: within the budget of its class it is stored in slot WR_IDX
with the next RECORD_ID, and the index moves on; beyond it is counted as suppressed; its class is counted in both
cases. RING_BUDGET_END starts a new millisecond. PEWTER_DISAGREE takes a working pair out, for good after three times
in an hour, with one record; it rejoins at PEWTER_PAIR_REJOIN. START by an agent that may write the FLT page,
licensed, makes the field due, or is rejected with BUSY while a slice is due or runs or the clock changes; ABORT ends
a slice with verdict 5; the period makes a field due. IBEX_SLICE_START quarantines the first due field that may start
and queues the exact-fill command; IBEX_STEP goes on to the next step, repeats a void one once, and ends after the
last step; IBEX_RESTORE_DONE ends the quarantine, counts the slice and shows its verdict. (13_faults_recovery.md R482,
13_faults_recovery.md R485, 13_faults_recovery.md R486, 13_faults_recovery.md R489, 13_faults_recovery.md R505,
13_faults_recovery.md R506, 13_faults_recovery.md R507, 13_faults_recovery.md R508, 13_faults_recovery.md R509) -/
def Obligations.FaultsIbex : Prop :=
  (∀ s : State,
    (s.dev.flt.pendingRecords = [] → Gives .errorRecordStore s (· = s.dev)) ∧
    (∀ r rest, s.dev.flt.pendingRecords = r :: rest → s.dev.flt.ms = s.dev.ms → s.dev.flt.trial = none →
      let n := kvGetD s.dev.flt.msStored 0 r.cls
      let k := s.dev.rdF FLT_RING_STATUS 11 0
      let id := s.dev.rdF FLT_RING_STATUS 31 16
      let count := fun d : Dev => kvGetD d.flt.classCount 0 r.cls = min 0xFFFFFFFF (kvGetD s.dev.flt.classCount 0 r.cls + 1)
      (n < s.dev.rdF FLT_BUDGET 7 0 → Gives .errorRecordStore s fun d =>
        (∀ i, i < 8 → d.rd (ringAddr k i) = (r.words id).getD i 0) ∧ d.rdF FLT_RING_STATUS 11 0 = (k + 1) % 4096 ∧ d.rdF FLT_RING_STATUS 31 16 = (id + 1) % 65536 ∧
        bitOf (d.rd FLT_RING_STATUS) 12 = (bitOf (s.dev.rd FLT_RING_STATUS) 12 || k == 4095) ∧ count d ∧ kvGetD d.flt.msStored 0 r.cls = n + 1 ∧
        (∀ j i, j < 4096 → j ≠ k → i < 8 → d.rd (ringAddr j i) = s.dev.rd (ringAddr j i)) ∧
        (bitOf (s.dev.rd FLT_FAULT_MASK) r.cls = true → bitOf (d.rd PINS_FAULT_SRC) 0 = true) ∧
        (bitOf (s.dev.rd FLT_ALERT_MASK) r.cls = true → bitOf (d.rd PINS_ALERT_SRC) 0 = true)) ∧
      (s.dev.rdF FLT_BUDGET 7 0 ≤ n → Gives .errorRecordStore s fun d =>
        count d ∧ kvGetD d.flt.msSuppressed 0 r.cls = kvGetD s.dev.flt.msSuppressed 0 r.cls + 1 ∧
        d.rd FLT_SUPPRESSED = satAdd (s.dev.rd FLT_SUPPRESSED) 1 ∧ d.rd FLT_RING_STATUS = s.dev.rd FLT_RING_STATUS ∧
        ∀ j i, j < 4096 → i < 8 → d.rd (ringAddr j i) = s.dev.rd (ringAddr j i))) ∧
    (s.dev.flt.ms = s.dev.ms → Gives .ringBudgetEnd s (· = s.dev)) ∧
    (s.dev.flt.ms ≠ s.dev.ms → Gives .ringBudgetEnd s fun d =>
      d.flt.ms = s.dev.ms ∧ d.flt.msStored = [] ∧ d.flt.msSuppressed = [] ∧ d.flt.pendingRecords = s.dev.flt.pendingRecords ∧
      d.rdF FLT_RING_STATUS 31 16 = (s.dev.rdF FLT_RING_STATUS 31 16 + s.dev.flt.msSuppressed.length) % 65536)) ∧
  (∀ (s : State) (p : Nat), p < 4 →
    let works := p ∉ s.dev.flt.pairsOut ∧ p ∉ s.dev.flt.pairsRetired
    let recent := s.dev.time.tb :: (kvGetD s.dev.flt.pairTicks [] p).filter fun t => decide (s.dev.time.tb ≤ t + 2880000000000)
    (¬works → Gives (.pewterDisagree p) s (· = s.dev)) ∧
    (works → Gives (.pewterDisagree p) s fun d =>
      p ∈ d.flt.pairsOut ∧ (p ∈ d.flt.pairsRetired ↔ 3 ≤ recent.length) ∧ kvGet? d.flt.pairTicks p = some recent ∧
      (∃ r, r.cls = 0x18 ∧ r.unit = p ∧ d.flt.pendingRecords = s.dev.flt.pendingRecords ++ [r]) ∧ d.freeCtr = s.dev.freeCtr + 1 ∧
      ((workingPairs s.dev).length ≤ 2 → d.rdF FLOOR_STATE 2 0 = 4)) ∧
    (p ∈ s.dev.flt.pairsOut → p ∉ s.dev.flt.pairsRetired → Gives (.pewterPairRejoin p) s fun d =>
      d.flt = { s.dev.flt with pairsOut := setDel s.dev.flt.pairsOut p } ∧ p ∈ workingPairs d ∧
      RegsKeep [FLOOR_STATE, CHAN_CH_STATUS, PINS_FAULT_COND, PCIE_INT_CAUSE] s.dev d) ∧
    (p ∉ s.dev.flt.pairsOut ∨ p ∈ s.dev.flt.pairsRetired → Gives (.pewterPairRejoin p) s (· = s.dev))) ∧
  (∀ (s : State) (agent f : Nat), s.dev.mayWrite agent .flt = true → s.dev.isFenced .flt = false → s.dev.up = true → licensed s.dev 0x060 = true → f < 12 →
    let g := s.dev.rdF FLT_IBEX_CTRL 3 0
    let free := s.dev.flt.ibexRun = none ∧ s.dev.flt.ibexDue = [] ∧ s.dev.chgState = 0
    (s.dev.rdF (FIELD_HEALTH f) 1 0 ≠ 3 → fs3Used s.dev f = false →
      (free → s.dev.rdF FLT_IBEX_STATUS 2 0 = 0 → Gives (.ibexStart agent f) s fun d =>
        d.flt = { s.dev.flt with ibexDue := [f] } ∧ d.rdF FLT_IBEX_CTRL 3 0 = f ∧ d.rdF FLT_IBEX_CTRL 9 8 = 1 ∧ d.rdF FLT_IBEX_STATUS 2 0 = 1 ∧ d.rdF FLT_IBEX_STATUS 11 8 = f ∧
        RegsKeep [FLT_IBEX_CTRL, FLT_IBEX_STATUS] s.dev d) ∧
      (¬free → Gives (.ibexStart agent f) s (· = s.dev.reject .flt 0x140 agent .busy))) ∧
    (s.dev.rdF (FIELD_HEALTH f) 1 0 = 3 → Gives (.ibexStart agent f) s (· = s.dev.reject .flt 0x140 agent .state)) ∧
    (g < 12 →
      (s.dev.flt.ibexRun = none → Gives (.ibexAbort agent) s fun d => d.rdF FLT_IBEX_CTRL 9 8 = 2 ∧ OnlyRegs [FLT_IBEX_CTRL] s.dev d) ∧
      (∀ r, s.dev.flt.ibexRun = some r → Gives (.ibexAbort agent) s fun d =>
        d.flt = { s.dev.flt with ibexRun := some { r with verdict := if r.verdict = 0 then 5 else r.verdict } } ∧ d.rdF FLT_IBEX_STATUS 2 0 = 4 ∧
        d.rdF FLT_IBEX_CTRL 9 8 = 2 ∧ RegsKeep [FLT_IBEX_STATUS, FLT_IBEX_CTRL] s.dev d)) ∧
    let h := s.dev.rdF FLT_IBEX_PERIOD 7 0
    let elapsed := h ≠ 0 ∧ kvGetD s.dev.flt.ibexTick 0 f + 2880000000000 * h ≤ s.dev.time.tb
    (¬elapsed → Gives (.ibexPeriodDue f) s (· = s.dev)) ∧
    (elapsed → s.dev.rdF (FIELD_HEALTH f) 1 0 ≠ 3 → Gives (.ibexPeriodDue f) s fun d => f ∈ d.flt.ibexDue ∧ RegsKeep [FLT_IBEX_STATUS] s.dev d)) ∧
  (∀ s : State,
    (s.dev.flt.ibexRun.isSome = true ∨ s.dev.flt.ibexDue.find? (ibexMayStart s.dev) = none → Gives .ibexSliceStart s (· = s.dev)) ∧
    (∀ f, s.dev.flt.ibexRun = none → s.dev.flt.ibexDue.find? (ibexMayStart s.dev) = some f → f < 12 → (∀ x ∈ boundSites s.dev f, x < 13824) →
      Gives .ibexSliceStart s fun d =>
        (∃ r, d.flt.ibexRun = some r ∧ r.field = f ∧ r.k = 0 ∧ r.verdict = 0 ∧ r.savedBank = s.dev.rd (SEQ_BANK_CTRL (fs3 f))) ∧
        f ∉ d.flt.ibexDue ∧ bitOf (d.rd (FIELD_HEALTH f)) 4 = true ∧ d.rd FLT_IBEX_STATUS = w32 (2 + f * 256) ∧
        activeBank d (fs3 f) = 1 - activeBank s.dev (fs3 f) ∧ d.fab.cmds = s.dev.fab.cmds ++ [(fs3 f, { words := List.replicate 8 0 })])) ∧
  (∀ (s : State) (void_ : Bool),
    let st := s.dev.rdF FLT_IBEX_STATUS 2 0
    (s.dev.flt.ibexRun = none → Gives (.ibexStep void_) s (· = s.dev) ∧ Gives .ibexRestoreDone s (· = s.dev)) ∧
    (∀ r, s.dev.flt.ibexRun = some r → r.field < 12 → r.k < 16 → (∀ x ∈ boundSites s.dev r.field, x < 13824) →
      let f := r.field
      let waits := 4 ≤ st ∨ ibexIdle s.dev f = false
      let void2 := void_ = true ∨ r.slipped = true ∨ s.dev.rdF (PWR_FIELD_PWR f) 14 10 < 16 ∨ f ∈ s.dev.pwr.stretched
      (waits → Gives (.ibexStep void_) s (· = s.dev)) ∧
      (¬waits → void2 → r.voided = true → Gives (.ibexStep void_) s fun d => d.rdF FLT_IBEX_STATUS 2 0 = 4 ∧
        d.flt = { s.dev.flt with ibexRun := some { r with verdict := if r.verdict = 0 then 4 else r.verdict } } ∧ RegsKeep [FLT_IBEX_STATUS] s.dev d) ∧
      (¬waits → void2 → r.voided = false → Gives (.ibexStep void_) s fun d => d.flt.ibexRun = some { r with voided := true, slipped := false } ∧
        d.fab.cmds = s.dev.fab.cmds ++ [(fs3 f, { words := List.replicate 8 0 })]) ∧
      (¬waits → ¬void2 → (∀ x ∈ boundSites s.dev f, bitOf (s.dev.rd (TILE_FLAGS x)) 9 = false) → r.failed.length ≤ 8 →
        (r.k ≠ s.dev.rdF FLT_IBEX_CFG 11 8 → r.k < 15 → Gives (.ibexStep void_) s fun d => d.flt.ibexRun = some { r with voided := false, k := r.k + 1 } ∧
          d.rdF FLT_IBEX_STATUS 7 4 = r.k + 1 ∧ d.rdF FLT_IBEX_STATUS 2 0 = 3 ∧ d.fab.cmds = s.dev.fab.cmds ++ [(fs3 f, { words := List.replicate 8 0 })]) ∧
        (r.k = s.dev.rdF FLT_IBEX_CFG 11 8 → Gives (.ibexStep void_) s fun d => d.flt.ibexRun = some { r with voided := false } ∧
          d.rdF FLT_IBEX_STATUS 2 0 = 4 ∧ RegsKeep [FLT_IBEX_STATUS] s.dev d)) ∧
      (st ≠ 4 → Gives .ibexRestoreDone s (· = s.dev)) ∧
      (st = 4 → (∀ e ∈ r.savedGroups, e.1 < 13824) → Completes .ibexRestoreDone s fun t =>
        let bad := ibexFailed s.dev r
        let verdict := if r.verdict ≠ 0 then r.verdict else if bad = [] then 1 else if bad.length ≤ 8 then 2 else 3
        let next := s.dev.flt.ibexDue.head?
        t.dev.flt.ibexRun = none ∧ kvGet? t.dev.flt.ibexTick f = some s.dev.time.tb ∧ t.dev.rd FLT_IBEX_COUNT = satAdd (s.dev.rd FLT_IBEX_COUNT) 1 ∧
        bitOf (t.dev.rd (FIELD_HEALTH f)) 4 = false ∧ t.dev.rd FLT_IBEX_STATUS = w32 (b2n next.isSome + r.k * 16 + next.getD f * 256 + verdict * 4096) ∧
        t.pending = s.pending ∧ (verdict ≠ 1 → t.mem = s.mem) ∧ ∀ a, ¬inNextImage s.dev a → t.mem.byteAt a = s.mem.byteAt a)))

/-- PORST_ASSERT and VAON_DROP put the device in cold reset: every register at its reset value, external memory
forgotten, flash, pins and the latched trip kept. COLD_START leaves it and shows straps and ECID; from the host's
source it waits for FW_BOOT, from BOOT_SRC 3 it stops at step 2. DOORBELL_POLL takes a new SEQ, refused with BUSY
while one of its path is in progress; each request's command does its work once and leaves its code, a token that does
not pass leaves PRIVILEGE and every token a new nonce and a record; BOOT_REQUEST_DONE shows the code. A compute reset
starts with its cause from RST_N, a request, CRESET or a Pewter restart, and ends after the self-test when no hold
applies; RST_N low for 5 s is HELD, RST_N high for 1 ms clears the mask. Host resets and PERST break the host's locks;
a link comes up with rate and width, and D3hot is entered and left only while it is up. (15_bringup_reset_licences.md
R565, 15_bringup_reset_licences.md R571, 15_bringup_reset_licences.md R572, 15_bringup_reset_licences.md R577,
15_bringup_reset_licences.md R578, 15_bringup_reset_licences.md R583, 15_bringup_reset_licences.md R586,
15_bringup_reset_licences.md R587, 15_bringup_reset_licences.md R589, 15_bringup_reset_licences.md R592,
16_interfaces_pins.md R602, 16_interfaces_pins.md R603) -/
def Obligations.BootAndResets : Prop :=
  (∀ s : State,
    let cold := fun (low : Bool) (t : State) => t.pending = s.pending ∧ t.mem = {} ∧ t.dev.held = true ∧ t.dev.up = false ∧ t.dev.regs = [] ∧
      t.dev.staged = [] ∧ t.dev.fenced = [] ∧ t.dev.tiles = [] ∧ t.dev.seqs = [] ∧ t.dev.strm = {} ∧ t.dev.peer = {} ∧ t.dev.fab = {} ∧
      t.dev.pwr.tripLatched = s.dev.pwr.tripLatched ∧ t.dev.boot.flash = s.dev.boot.flash ∧ t.dev.boot.store = s.dev.boot.store ∧ t.dev.boot.vaonLow = low
    Completes .porstAssert s (cold s.dev.boot.vaonLow) ∧ Completes .vaonDrop s (cold true) ∧
    Gives .vaonRecovery s (· = { s.dev with boot := { s.dev.boot with vaonLow := false } }) ∧
    ∀ x : BootFacts,
      (s.dev.held = false ∨ s.dev.boot.vaonLow = true → Gives (.coldStart x) s (· = s.dev)) ∧
      (s.dev.held = true → s.dev.boot.vaonLow = false →
        (x.bootSrc % 4 = 3 → Gives (.coldStart x) s fun d => d.held = false ∧ d.boot.stop = true ∧ d.rdF BOOT_STAGE 7 0 = 0xF2 ∧ bitOf (d.rd PINS_FAULT_COND) 5 = true) ∧
        (x.bootSrc % 4 = 2 → s.dev.flt.pairsOut = [] → (∀ p ∈ x.pairs, 4 ≤ p) → Gives (.coldStart x) s fun d =>
          d.held = false ∧ d.up = s.dev.up ∧ d.boot.rom = true ∧ d.rdF BOOT_STAGE 7 0 = 4 ∧ d.rd BOOT_STRAPS = w32 (2 + x.role % 2 * 16) ∧
          (∀ i, i < 4 → d.rd (DEV_ECID i) = w32 (Config.ecid / 2 ^ (32 * i))) ∧ twinRole d = x.role % 2 ∧ d.freeCtr = s.dev.freeCtr + 2))) ∧
  (∀ (s : State) (c : Instr) (op : Nat), (c, op) ∈ [(Instr.fwChunk, 1), (.fwCommit, 2), (.fwBoot, 3), (.licWrite, 4), (.rstMask, 5), (.debugUnlock, 5),
      (.boardCfg, 5), (.debugLock, 6), (.computeReset, 7), (.pewterRestart false, 8), (.hostcfgApply, 9)] → reqOf s.dev op = none → Gives c s (· = s.dev)) ∧
  (∀ s : State,
    let w := windowWord s.dev 0
    let asleep := s.dev.held = true ∨ (s.dev.boot.stop = true ∧ s.dev.boot.rom = true) ∨ (s.dev.boot.restarting = true ∧ s.dev.boot.rom = false)
    let served := if s.dev.boot.rom then w / 65536 % 256 = 1 ∨ w / 65536 % 256 = 3 else 1 ≤ w / 65536 % 256 ∧ w / 65536 % 256 ≤ 9 ∧ w / 65536 % 256 ≠ 3
    (asleep ∨ w % 65536 = s.dev.boot.lastSeq → Gives .doorbellPoll s (· = s.dev)) ∧
    (¬asleep → w % 65536 ≠ s.dev.boot.lastSeq →
      (s.dev.boot.req = none → s.dev.boot.waiting = [] → w / 65536 % 256 ≠ 5 → Gives .doorbellPoll s fun d =>
        d.boot.lastSeq = w % 65536 ∧ d.rd BOOT_REQ_STATUS = w32 (w % 65536 + 2 ^ 31) ∧ RegsKeep [BOOT_REQ_STATUS] s.dev d ∧
        ∃ r, d.boot.req = some r ∧ r.seq = w % 65536 ∧ r.op = w / 65536 % 256 ∧ r.len = windowWord s.dev 4 ∧ r.off = windowWord s.dev 8 ∧ r.bmc = false ∧
          (served → r.code = none) ∧ (¬served → r.code = some 2)) ∧
      (∀ r, s.dev.boot.req = some r → r.bmc = false → Gives .doorbellPoll s fun d =>
        windowWord d 0xC = w % 65536 + 0x0C * 65536 + 2 ^ 31 ∧ d.boot.req = some r ∧ d.boot.waiting = s.dev.boot.waiting ∧ d.regs = s.dev.regs)) ∧
    (∀ r, s.dev.boot.req = some r → r.code = none → 
      let code := fun (d : Dev) (k : Nat) => d.boot.req = some { r with code := some k }
      let data := tokenArea s.dev r (min r.len (areaSize r))
      let t := tokenArea s.dev r 248
      let par := numAt t 32 4
      let sorted := (s.dev.boot.flash.map (·.1)).Pairwise (· < ·)
      let ended := fun d : Dev => d.freeCtr = s.dev.freeCtr + 2 ∧ ∃ e, e.cls = 0x1E ∧ e.synd % 256 = 9 ∧ d.flt.pendingRecords = s.dev.flt.pendingRecords ++ [e]
      (r.op = 1 → s.dev.boot.boardNext = false →
        (r.off + r.len ≤ stagingSize → r.len ≤ areaSize r → Gives .fwChunk s fun d => code d 0 ∧
          (sorted → flashRead d.boot.flash (stagingAt + r.off) r.len = data) ∧ d.regs = s.dev.regs) ∧
        (stagingSize < r.off + r.len ∨ areaSize r < r.len → Gives .fwChunk s fun d => code d 1 ∧ d.boot.flash = s.dev.boot.flash ∧ d.regs = s.dev.regs)) ∧
      (r.op = 2 → Gives .fwCommit s fun d => d.regs = s.dev.regs ∧ if stagedOk s.dev = true then code d 0 ∧ (sorted → let slot := 1 - s.dev.rdF BOOT_FW 0 0
          flashRead d.boot.flash (fwHeader slot) 0x1000 = flashRead s.dev.boot.flash stagingAt 0x1000 ∧
          flashRead d.boot.flash (fwImage slot) 0x800000 = flashRead s.dev.boot.flash (stagingAt + 0x1000) 0x800000) else code d 0x0B ∧ d.boot.flash = s.dev.boot.flash) ∧
      let fw := fun d : Dev => d.rd BOOT_FW = w32 (2 + 4 * s.dev.rdF BOOT_FW 2 2 + fwVersion s.dev.boot.flash stagingAt * 65536) ∧ d.boot.rom = false
      (r.op = 3 → Completes .fwBoot s (fun u => u.pending = s.pending) ∧
        (stagedOk s.dev = false → Gives .fwBoot s fun d => code d 0x0B ∧ d.regs = s.dev.regs) ∧
        (stagedOk s.dev = true → s.dev.boot.restarting = true → Gives .fwBoot s fun d => fw d ∧ code d 0 ∧ d.boot.restarting = false) ∧
        (stagedOk s.dev = true → s.dev.boot.restarting = false → licCause s.dev (licBlob s.dev 0) ≠ 0 → licCause s.dev (licBlob s.dev 1) ≠ 0 → Gives .fwBoot s fun d =>
          fw d ∧ d.boot.stop = true ∧ bitOf (d.rd PINS_FAULT_COND) 4 = true ∧ inReset d = true)) ∧
      (r.op = 4 → Gives .licWrite s fun d =>
        let b := tokenArea s.dev r 4096
        let l := numAt b 6 2
        if l < 192 ∨ 4096 < l ∨ l % 8 ≠ 0 then code d 1 ∧ d.boot.flash = s.dev.boot.flash
        else if licCause s.dev b ≠ 0 then code d 0x0B ∧ d.boot.flash = s.dev.boot.flash else code d 0 ∧ (sorted →
          let w := s.dev.rd LIC_STATUS
          flashRead d.boot.flash (licAt (if bitOf w 0 then 1 - fld w 1 1 else 1)) l = b.take l)) ∧
      (r.op = 5 → numAt t 24 1 = 1 → Gives .rstMask s fun d => ended d ∧
        if tokenOk s.dev t = true then
          (if bitOf (s.dev.rd BOOT_RESET_STATUS) 2 = true then code d 0 ∧ d.rdF BOOT_RESET_STATUS 3 2 = 2 else code d 3)
        else code d 0x0B) ∧
      (r.op = 5 → numAt t 24 1 = 2 → Gives .debugUnlock s fun d => ended d ∧
        if tokenOk s.dev t = true ∧ bitOf (s.dev.rd LIC_FEATURES_LO) 1 = true ∧ 1 ≤ par ∧ par ≤ 86400 then
          code d 0 ∧ d.unlocked = true ∧ d.boot.sessionEnd = some (s.dev.time.tb + 800000000 * par)
        else code d 0x0B ∧ d.unlocked = s.dev.unlocked) ∧
      (r.op = 5 → numAt t 24 1 = 3 → Gives .boardCfg s fun d => ended d ∧
        if tokenOk s.dev t = true then code d 0 ∧ d.boot.boardNext = true else code d 0x0B ∧ d.boot.boardNext = s.dev.boot.boardNext) ∧
      (r.op = 6 → Gives .debugLock s fun d =>
        if s.dev.unlocked = true then code d 0 ∧ d.unlocked = false ∧ d.boot.sessionEnd = none ∧ ∀ q, q < 48 → d.rd (SEQ_BRK_CTRL q) = 0
        else code d 3 ∧ d.regs = s.dev.regs) ∧
      (r.op = 7 → Gives .computeReset s fun d =>
        if inReset s.dev = true then code d 0x0C ∧ d.regs = s.dev.regs else code d 0 ∧ inReset d = true ∧ d.rdF BOOT_RESET_STATUS 7 4 = 2) ∧
      (r.op = 8 → Gives (.pewterRestart false) s fun d =>
        if inReset s.dev = true then code d 0x0C ∧ d.regs = s.dev.regs
        else code d 0 ∧ inReset d = true ∧ d.rdF BOOT_RESET_STATUS 7 4 = 6 ∧ d.boot.restarting = true ∧ d.boot.restartTick = s.dev.time.tb) ∧
      (r.op = 9 → Gives .hostcfgApply s fun d =>
        if hostUp s.dev = false then code d 0 ∧ d.regs = s.dev.regs
        else if windowWord s.dev 0x40 % 4096 ≠ 0 then code d 1 ∧ d.regs = s.dev.regs
        else code d 0 ∧ d.rd FLT_MIRROR_LO = w32 (windowWord s.dev 0x40) ∧ d.rd FLT_MIRROR_HI = w32 (windowWord s.dev 0x44) ∧
          d.rd PCIE_INT_EN = w32 (windowWord s.dev 0x4C % 32)) ∧
      Gives .bootRequestDone s (· = s.dev)) ∧
    (s.dev.boot.req = none → Gives .bootRequestDone s (· = s.dev)) ∧
    (∀ r k, s.dev.boot.req = some r → r.code = some k → s.dev.boot.waiting = [] → Gives .bootRequestDone s fun d =>
      d.boot.req = none ∧ d.rd BOOT_REQ_STATUS = w32 (r.seq % 65536 + k * 65536) ∧
      (r.bmc = true → d.boot.bmcStatus = r.seq % 65536 + k * 65536 + 2 ^ 31) ∧
      (r.bmc = false → k < 256 → windowWord d 0xC = r.seq % 65536 + k * 65536 + 2 ^ 31 ∧ bitOf (d.rd PCIE_INT_CAUSE) 3 = true) ∧
      ∃ e, e.cls = 0x1E ∧ e.synd % 256 = 0x0A ∧ d.flt.pendingRecords = s.dev.flt.pendingRecords ++ [e])) ∧
  (∀ s : State,
    let open_ := s.dev.boot.sessionEnd
    (∀ t, open_ = some t → t ≤ s.dev.time.tb → Gives .debugSessionExpire s fun d => d.unlocked = false ∧ d.boot.sessionEnd = none) ∧
    ((open_ = none ∨ ∃ t, open_ = some t ∧ s.dev.time.tb < t) → Gives .debugSessionExpire s (· = s.dev)) ∧
    (s.dev.boot.rstN = false → Gives .rstNAssert s (· = s.dev)) ∧
    (s.dev.boot.rstN = true → Gives .rstNAssert s fun d => d.boot.rstN = false ∧ d.boot.rstTick = s.dev.time.tb ∧
      (s.dev.held = false → bitOf (d.rd BOOT_RESET_STATUS) 1 = true) ∧
      (s.dev.held = false → bitOf (s.dev.rd BOOT_RESET_STATUS) 3 = false → s.dev.up = true → inReset s.dev = false → inReset d = true ∧ d.rdF BOOT_RESET_STATUS 7 4 = 1) ∧
      (s.dev.held = true ∨ bitOf (s.dev.rd BOOT_RESET_STATUS) 3 = true ∨ s.dev.up = false → RegsKeep [BOOT_RESET_STATUS] s.dev d ∧ inReset d = inReset s.dev)) ∧
    (s.dev.boot.rstN = true → Gives .rstNRelease s (· = s.dev)) ∧
    (s.dev.boot.rstN = false → Gives .rstNRelease s fun d => d.boot.rstN = true ∧ d.boot.rstTick = s.dev.time.tb ∧
      d.rdF BOOT_RESET_STATUS 2 1 = 0 ∧ RegsKeep [BOOT_RESET_STATUS] s.dev d) ∧
    (inReset s.dev = true ∨ s.dev.up = false → Gives (.pewterRestart true) s (· = s.dev)) ∧
    (inReset s.dev = false → s.dev.up = true → Gives (.pewterRestart true) s fun d =>
      d.boot.restarting = true ∧ d.boot.rom = false ∧ inReset d = true ∧ d.rdF BOOT_RESET_STATUS 7 4 = 6) ∧
    (¬(s.dev.boot.restarting = true ∧ s.dev.boot.rom = false) → Gives .pewterRestartDone s (· = s.dev)) ∧
    (s.dev.boot.restarting = true → s.dev.boot.rom = false → Completes .pewterRestartDone s fun t =>
      let e := { s.dev with boot := { s.dev.boot with rom := true } }
      t.pending = s.pending ∧ t.mem = s.mem ∧
      if (fwSelect e).2 = true then t.dev.boot.restarting = false ∧ t.dev.rdF BOOT_RESTART_MS 31 16 = min 65535 ((s.dev.time.tb - s.dev.boot.restartTick) / 800000)
      else t.dev.boot.restarting = true ∧ (s.dev.rdF BOOT_STRAPS 1 0 = 0 → t.dev.boot.stop = true)) ∧
    let held := s.dev.boot.rstN = false ∧ inReset s.dev = true ∧ s.dev.up = true ∧ bitOf (s.dev.rd BOOT_RESET_STATUS) 3 = false ∧
      bitOf (s.dev.rd BOOT_RESET_STATUS) 2 = false ∧ s.dev.boot.rstTick + 4000000000 ≤ s.dev.time.tb
    let clear := s.dev.boot.rstN = true ∧ s.dev.boot.rstTick + 800000 ≤ s.dev.time.tb
    (¬held → Gives .resetHeldTimeout s (· = s.dev)) ∧
    (held → Gives .resetHeldTimeout s fun d => bitOf (d.rd BOOT_RESET_STATUS) 2 = true ∧ bitOf (d.rd PINS_ALERT_SRC) 1 = true ∧
      RegsKeep [BOOT_RESET_STATUS, PINS_ALERT_SRC, PCIE_INT_CAUSE] s.dev d) ∧
    (¬clear → Gives .maskClear s (· = s.dev)) ∧
    (clear → Gives .maskClear s fun d => bitOf (d.rd BOOT_RESET_STATUS) 3 = false ∧ OnlyRegs [BOOT_RESET_STATUS] s.dev d)) ∧
  (∀ (s : State) (agent : Nat) (data : Word) (bad : List Nat), isPewter agent = true → s.dev.up = true →
    (fld data 31 1 = 0 → inReset s.dev = true → Gives (.creset agent data) s (· = s.dev.reject .boot 0x11C agent .busy)) ∧
    (fld data 31 1 = 0 → inReset s.dev = false → bitOf data 0 = false → Gives (.creset agent data) s (· = s.dev)) ∧
    (fld data 31 1 = 0 → inReset s.dev = false → bitOf data 0 = true → Gives (.creset agent data) s fun d =>
      inReset d = true ∧ d.rdF BOOT_RESET_STATUS 7 4 = 3 ∧ d.rd BOOT_CRESET_COUNT = satAdd (s.dev.rd BOOT_CRESET_COUNT) 1 ∧ d.strm.beats = [] ∧
      ∀ q, q < 48 → fld (d.rd (SEQ_SEQ_STATE q)) 3 0 = 0) ∧
    (inReset s.dev = true → s.dev.boot.tested = false → Gives (.computeResetSelftestDone bad) s (· = { s.dev with
      boot := { s.dev.boot with tested := true, failedSites := (bad.filter (· < 13824)).foldl setIns [] } })) ∧
    (inReset s.dev = false ∨ s.dev.boot.tested = true → Gives (.computeResetSelftestDone bad) s (· = s.dev)) ∧
    (inReset s.dev = false ∨ s.dev.boot.tested = false ∨ resetHold s.dev = true → Gives .computeResetRelease s (· = s.dev)) ∧
    (inReset s.dev = true → s.dev.boot.tested = true → resetHold s.dev = false → Gives .computeResetRelease s fun d =>
      inReset d = false ∧ d.rdF BOOT_RESTART_MS 15 0 = min 65535 ((s.dev.time.tb - s.dev.boot.crTick) / 800000) ∧ d.rd PINS_FAULT_SRC = 0 ∧
      d.boot.tested = false ∧ d.boot.failedSites = [] ∧ ∀ q, q < 48 → s.dev.isFenced (.seq q) = false → fld (d.rd (SEQ_SEQ_STATE q)) 3 0 = 1)) ∧
  (∀ (s : State) (kind n speed width : Nat) (flit : Bool), n < 2 →
    let link := s.dev.rd (PCIE_LINK n)
    let broken := fun d : Dev => ∀ m, m < 256 → bitOf (s.dev.rd (LOCK_LOCK m)) 31 = true → fld (s.dev.rd (LOCK_LOCK m)) 23 16 = agentHost →
      bitOf (d.rd (LOCK_LOCK m)) 31 = false ∧ bitOf (d.rd (LOCK_LOCK m)) 30 = true
    let gone := fun d : Dev => broken d ∧ bitOf (d.rd (PCIE_LINK n)) 0 = false ∧
      (bitOf link 0 = true → d.rd PCIE_DOWN_COUNT = satAdd (s.dev.rd PCIE_DOWN_COUNT) 1 ∧ d.flt.pendingRecords.length = s.dev.flt.pendingRecords.length + 1)
    let two := bitOf (s.dev.rd (PCIE_LINK 0)) 10
    let shut := s.dev.held = true ∨ s.dev.rdF (PMB_RAIL_STAT 16) 14 12 ≠ 0 ∨ (n = 1 ∧ two = false)
    (kind < 3 → s.dev.held = true → Gives (.hostFunctionReset kind n) s (· = s.dev)) ∧
    (kind < 2 → s.dev.held = false → Gives (.hostFunctionReset kind n) s fun d => broken d ∧ bitOf (d.rd (PCIE_LINK n)) 11 = false) ∧
    (s.dev.held = false → Gives (.hostFunctionReset 2 n) s gone) ∧
    Gives (.perstAssert n) s (fun d => d.iface.perstLow = true ∧ (s.dev.held = true → d.regs = s.dev.regs) ∧ (s.dev.held = false → gone d)) ∧
    (shut → Gives (.pcieLinkUp n speed width flit) s (· = s.dev)) ∧
    (¬shut → Gives (.pcieLinkUp n speed width flit) s fun d =>
      d.rd (PCIE_LINK n) = w32 (1 + speed % 8 * 2 + width % 32 * 16 + b2n flit * 512 + b2n two * 1024) ∧ d.iface.perstLow = false ∧
      d.flt.pendingRecords.length = s.dev.flt.pendingRecords.length + 1) ∧
    (bitOf link 0 = false → Gives (.d3hotEntry n) s (· = s.dev) ∧ Gives (.d3hotExit n) s (· = s.dev)) ∧
    (bitOf link 0 = true → Gives (.d3hotEntry n) s (fun d => bitOf (d.rd (PCIE_LINK n)) 11 = true ∧ OnlyRegs [PCIE_LINK n] s.dev d) ∧
      Gives (.d3hotExit n) s (fun d => bitOf (d.rd (PCIE_LINK n)) 11 = false ∧ OnlyRegs [PCIE_LINK n] s.dev d)))

/-- A frame at a port that does not run changes nothing; a wrong length or frame check sequence is dropped and
counted; a frame to another address is ignored; one of the port's own protocols is only counted as received; one that
meets no flow, or whose flow gives no capture time, is dropped. A frame that meets a flow whose ring the port produces
waits as an entry of that ring with capture time and payload, cut to the entry's size; a full ring counts an overrun,
a closed boundary and a ring of another producer drop it. SENSOR_ENTRY_DONE writes the oldest entry, a paired one with
its partner, and RING_PROD advances by one; the bytes lie at the entry's address and every other byte of memory is as
it was. PAIR_MISS_TIMEOUT drops an entry without a partner after 1 ms. Requests for the port's address and peer-delay
messages are answered; Sync and Announce set GPTP_STATE, Sync of the selected port OFFSET_NS. A port that is down
retrains or counts an attempt, a port that is up goes down, each with a record; AER counts and records an error while
a host link is up. (16_interfaces_pins.md R605, 16_interfaces_pins.md R606, 16_interfaces_pins.md R607,
16_interfaces_pins.md R608, 16_interfaces_pins.md R609, 16_interfaces_pins.md R610, 16_interfaces_pins.md R626,
16_interfaces_pins.md R627) -/
def Obligations.SensorPorts : Prop :=
  (∀ (s : State) (p : Nat) (bs : List Byte), p < 8 →
    let body := bs.take (bs.length - 4)
    let good := 64 ≤ bs.length ∧ bs.length ≤ 9216 ∧ leNat (bs.drop (bs.length - 4)) = fcs body
    let here := portRuns s.dev p = true ∧ good ∧ addressed s.dev p bs = true
    let e := fun d : Dev => RegsKeep ([SENS_RX_COUNT p, SENS_DROP_COUNT p, SENS_OVERRUN_COUNT p, SENS_TRUNC_COUNT p, SENS_SEQ_GAP_COUNT p] ++
      (List.range 16).map fun i => SENS_FLOW_FRAMES (16 * p + i)) s.dev d ∧
      d = { s.dev with regs := d.regs, freeCtr := d.freeCtr, flt := { s.dev.flt with pendingRecords := d.flt.pendingRecords }, iface := { s.dev.iface with entries := d.iface.entries, avtpSeq := d.iface.avtpSeq } }
    Gives (.sensorFrame p bs) s e ∧
    (portRuns s.dev p = false → Gives (.sensorFrame p bs) s (· = s.dev)) ∧
    (portRuns s.dev p = true → ¬good → Gives (.sensorFrame p bs) s (· = s.dev.bump (SENS_DROP_COUNT p))) ∧
    (portRuns s.dev p = true → good → addressed s.dev p bs = false → Gives (.sensorFrame p bs) s (· = s.dev)) ∧
    (here → etherBody body = none → Gives (.sensorFrame p bs) s (· = s.dev.bump (SENS_DROP_COUNT p))) ∧
    (∀ t b, here → etherBody body = some (t, b) →
      let f := flowFrame s.dev p t b
      let flow := (List.range 16).find? fun i => flowMatches s.dev p i f
      (ownProtocol t b = true → Gives (.sensorFrame p bs) s (· = s.dev.bump (SENS_RX_COUNT p))) ∧
      (ownProtocol t b = false → flow = none → Gives (.sensorFrame p bs) s (· = (s.dev.bump (SENS_RX_COUNT p)).bump (SENS_DROP_COUNT p))) ∧
      (∀ i, ownProtocol t b = false → flow = some i →
        let k := 16 * p + i
        let c := s.dev.rd (SENS_FLOW_CTRL k)
        let r := fld c 9 4
        let x := ring s.dev r
        let waiting := (s.dev.iface.entries.filter fun o => o.ring == r && o.port == p).length
        let capture := captureOf (fld c 12 12) s.dev.taiNs f
        let mine := x.en = true ∧ ringProducer s.dev r = ringPort s.dev p + 2
        let full := x.size ≤ (x.prod + 2 ^ 32 - x.cons) % 2 ^ 32 + waiting
        let closed := entryClosed s.dev p (entryAddr s.dev p r (x.prod + waiting)) x.entry
        let out := fun d : Dev => d.iface.entries = s.dev.iface.entries ∧ d.rd (SENS_RX_COUNT p) = satAdd (s.dev.rd (SENS_RX_COUNT p)) 1
        (capture = none ∨ ¬mine → Gives (.sensorFrame p bs) s fun d => out d ∧ d.rd (SENS_DROP_COUNT p) = satAdd (s.dev.rd (SENS_DROP_COUNT p)) 1) ∧
        (capture.isSome = true → mine → full → Gives (.sensorFrame p bs) s fun d => out d ∧ d.rd (SENS_OVERRUN_COUNT p) = satAdd (s.dev.rd (SENS_OVERRUN_COUNT p)) 1) ∧
        (capture.isSome = true → mine → ¬full → closed = true → Gives (.sensorFrame p bs) s fun d =>
          out d ∧ d.rd (SENS_DROP_COUNT p) = satAdd (s.dev.rd (SENS_DROP_COUNT p)) 1 ∧ d.freeCtr = s.dev.freeCtr + 1) ∧
        (∀ ns pl, capture = some (ns, pl) → mine → ¬full → closed = false → Gives (.sensorFrame p bs) s fun d =>
          d.iface.entries = s.dev.iface.entries ++ [{ port := p, flow := i, ring := r, ns, payload := pl.take (x.entry - 16), source := fld c 27 16 + p * 4096, paired := s.dev.chanMode == 2, tick := s.dev.time.tb }] ∧
          d.rd (SENS_FLOW_FRAMES k) = s.dev.rd (SENS_FLOW_FRAMES k) + 1 ∧ d.rd (SENS_RX_COUNT p) = satAdd (s.dev.rd (SENS_RX_COUNT p)) 1 ∧
          d.rd (SENS_TRUNC_COUNT p) = (if pl.length ≤ x.entry - 16 then s.dev.rd (SENS_TRUNC_COUNT p) else satAdd (s.dev.rd (SENS_TRUNC_COUNT p)) 1))))) ∧
  (∀ (s : State) (p : Nat), p < 8 →
    let first := s.dev.iface.entries.find? fun e => e.port == p
    let keeps := fun (e : SensEntry) (ws : List MemWrite) (u : State) => u.pending = s.pending ∧ u.mem = s.mem.writeAll ws ∧
      u.dev.rd (STRM_RING_PROD e.ring) = s.dev.rd (STRM_RING_PROD e.ring) + 1 ∧ u.dev.time = s.dev.time ∧ u.dev.pwr = s.dev.pwr ∧ u.dev.cad = s.dev.cad
    (first = none → Gives (.sensorEntryDone p) s (· = s.dev) ∧ Gives (.pairMissTimeout p) s (· = s.dev)) ∧
    (∀ e, first = some e → e.ring < 64 →
      let partner := s.dev.iface.entries.find? fun o => partnerOf e o
      let ws := (entryWrite e s.dev).2
      let a := entryAddr s.dev e.port e.ring (ring s.dev e.ring).prod
      let n := (ring s.dev e.ring).entry
      ((∀ m, m < 8 → portFailed s.dev m = false) → e.payload.length ≤ n - 16 → (s.mem.writeAll ws).read a n = entryBytes e (ring s.dev e.ring).prod n) ∧
      (e.payload.length ≤ n - 16 → ∀ b, b < a ∨ a + n ≤ b → (s.mem.writeAll ws).byteAt b = s.mem.byteAt b) ∧
      (e.paired = false → Completes (.sensorEntryDone p) s fun u => keeps e ws u ∧ u.dev.iface = { s.dev.iface with entries := s.dev.iface.entries.erase e }) ∧
      (e.paired = true → partner = none → Gives (.sensorEntryDone p) s (· = s.dev)) ∧
      (∀ o, e.paired = true → partner = some o → Completes (.sensorEntryDone p) s fun u =>
        keeps e (ws ++ (entryWrite o s.dev).2) u ∧ u.dev.iface = { s.dev.iface with entries := (s.dev.iface.entries.erase e).erase o }) ∧
      let lone := e.paired = true ∧ partner = none ∧ e.tick + 800000 ≤ s.dev.time.tb
      (¬lone → Gives (.pairMissTimeout p) s (· = s.dev)) ∧
      (lone → Gives (.pairMissTimeout p) s fun d => d.iface = { s.dev.iface with entries := s.dev.iface.entries.erase e } ∧
        d.rd (SENS_PAIR_MISS_COUNT p) = satAdd (s.dev.rd (SENS_PAIR_MISS_COUNT p)) 1 ∧
        OnlyRegs [SENS_PAIR_MISS_COUNT (p % 4), SENS_PAIR_MISS_COUNT (p % 4 + 4)] { s.dev with iface := d.iface } d))) ∧
  (∀ (s : State) (p ns : Nat) (v6 : Bool) (off : Int), p < 8 →
    let own := if v6 = true then portIpv6 s.dev p else (s.dev.rd (SENS_IPV4 p)).toNat
    let on := gptpOn s.dev p
    let chosen := gptpSelected s.dev p
    let showsState := fun (st : Nat) (d : Dev) => d.rdF (SENS_STATUS p) 5 4 = st ∧
      (s.dev.rdF (SENS_STATUS p) 5 4 ≠ st → d.flt.pendingRecords.length = s.dev.flt.pendingRecords.length + 1) ∧
      OnlyRegs [SENS_STATUS p] { s.dev with flt := { s.dev.flt with pendingRecords := d.flt.pendingRecords } } d
    (portRuns s.dev p = false ∨ own = 0 → Gives (.arpRequest p v6) s (· = s.dev)) ∧
    (portRuns s.dev p = true → own ≠ 0 → Gives (.arpRequest p v6) s fun d => d.tx = s.dev.tx ++ [.ethernet p (b2n v6) [own]] ∧
      d.rd (SENS_RX_COUNT p) = satAdd (s.dev.rd (SENS_RX_COUNT p)) 1 ∧ OnlyRegs [SENS_RX_COUNT p] { s.dev with tx := d.tx } d) ∧
    (on = false → Gives (.gptpAnnounce p) s (· = s.dev) ∧ Gives (.gptpPdelay p ns) s (· = s.dev)) ∧
    (on = false ∨ chosen = false → Gives (.gptpSync p off) s (· = s.dev)) ∧
    (on = true → Gives (.gptpAnnounce p) s (showsState (if chosen = true then 2 else 3)) ∧
      Gives (.gptpPdelay p ns) s fun d => d.tx = s.dev.tx ++ [.ethernet p 2 []] ∧ OnlyRegs [SENS_PDELAY_NS p] { s.dev with tx := d.tx } d ∧
        d.rd (SENS_PDELAY_NS p) = if chosen = true then w32 ns else s.dev.rd (SENS_PDELAY_NS p)) ∧
    (on = true → chosen = true → s.dev.rdF TIME_SYNC_STATUS 1 0 = 0 → Gives (.gptpSync p off) s fun d =>
      d.rdF (SENS_STATUS p) 5 4 = 2 ∧ RegsKeep [SENS_STATUS p] s.dev d ∧ d.time = s.dev.time) ∧
    (on = true → chosen = true → s.dev.rdF TIME_SYNC_STATUS 1 0 ≠ 0 → off.natAbs ≤ 1000000 → Gives (.gptpSync p off) s fun d =>
      let st := if s.dev.rdF TIME_SYNC_STATUS 1 0 = 3 then 1 else s.dev.rdF TIME_SYNC_STATUS 1 0
      let seen := if 1000 < off.natAbs then 0 else if s.dev.rdF TIME_SYNC_STATUS 1 0 = 3 then 1 else s.dev.time.inLock + 1
      d.rdF (SENS_STATUS p) 5 4 = 2 ∧ d.rd TIME_OFFSET_NS = w32 (ofSigned 32 off) ∧ d.freeCtr = s.dev.freeCtr + 1 ∧
      d.rdF TIME_SYNC_STATUS 1 0 = (if st = 1 ∧ 16 ≤ seen then 2 else st) ∧
      RegsKeep [SENS_STATUS p, TIME_OFFSET_NS, TIME_RATE, TIME_SYNC_STATUS] s.dev d)) ∧
  (∀ (s : State) (code status : Nat) (unc : Bool), isLink code = true →
    let w := s.dev.rd (linkStatus code)
    let records := fun d : Dev => d.flt.pendingRecords.length = s.dev.flt.pendingRecords.length + 1 ∧
      d = { s.dev with regs := d.regs, flt := { s.dev.flt with pendingRecords := d.flt.pendingRecords }, iface := { s.dev.iface with attempts := d.iface.attempts } }
    let down := s.dev.held = false ∧ bitOf w 0 = false ∧ bitOf w 1 = false
    (¬down → ∀ ok, Gives (.linkRetrain code ok) s (· = s.dev)) ∧
    (down → Gives (.linkRetrain code true) s (fun d => records d ∧ bitOf (d.rd (linkStatus code)) 0 = true ∧ kvGet? d.iface.attempts code = none ∧
        (48 ≤ code → d.rdF (linkStatus code) 15 8 = 255) ∧ RegsKeep [linkStatus code] s.dev d) ∧
      Gives (.linkRetrain code false) s (fun d => records d ∧ d.regs = s.dev.regs ∧
        kvGet? d.iface.attempts code = some (kvGetD s.dev.iface.attempts 0 code + 1))) ∧
    (s.dev.held = true ∨ bitOf w 0 = false → Gives (.serdesLinkDown code) s (· = s.dev)) ∧
    (s.dev.held = false → bitOf w 0 = true → Gives (.serdesLinkDown code) s fun d => records d ∧ bitOf (d.rd (linkStatus code)) 0 = false ∧
      (48 ≤ code → d.rdF (linkStatus code) 15 8 = 0) ∧ d.iface = s.dev.iface ∧ RegsKeep [linkStatus code] s.dev d) ∧
    let count := if unc = true then PCIE_AER_UE_COUNT else PCIE_AER_CE_COUNT
    (hostUp s.dev = false → Gives (.aer unc status) s (· = s.dev)) ∧
    (hostUp s.dev = true → Gives (.aer unc status) s fun d => records d ∧ d.rd count = satAdd (s.dev.rd count) 1 ∧ RegsKeep [count] s.dev d))

/-- A management command with a wrong PEC, or that nothing serves, is answered negative and changes nothing else. PEEK
returns status 0 and the register, or 0xFF and 0 at a reserved offset; COOLANT sets the temperature and COOLANT_HIGH,
COOLANT_TIMEOUT takes the validity away after 10 s; DATA_WRITE writes its bytes into the area or sets RANGE; REQUEST
takes the next SEQ and is served, waits, or ends with BUSY; REQ_STATUS answers the last request's state. Each JTAG
instruction is selected and does its own; an AUTH token leaves its code, a record and a new nonce; TRST_N resets the
TAP and ends the debug session. The console takes input in an unlocked session. EVT_CFG_WRITE claims or releases a
pin, refused with CONFLICT while the pin or the function is taken; EVT_PULSE_END ends a pulse after its width. A
source of ALERT_N clears 100 ms after its last assertion or by W1C, one of FAULT_N by W1C. (16_interfaces_pins.md
R617, 16_interfaces_pins.md R618, 16_interfaces_pins.md R619, 16_interfaces_pins.md R621, 16_interfaces_pins.md R622,
16_interfaces_pins.md R623, 16_interfaces_pins.md R624, 15_bringup_reset_licences.md R572,
15_bringup_reset_licences.md R578, 15_bringup_reset_licences.md R579, 12_power_thermal.md R480) -/
def Obligations.ManagementPins : Prop :=
  (∀ (s : State) (off q op len : Nat) (bs : List Byte),
    let nack := fun d : Dev => d = { s.dev with resp := { kind := .negative } }
    let sends := fun (b : List Byte) (d : Dev) => d = { s.dev with tx := s.dev.tx ++ [.management b], resp := { kind := .ok, bytes := b } }
    let a := off / 4 * 4
    let high := 4 * coolantMax s.dev < toSigned 16 (q % 65536)
    let seq := (s.dev.boot.bmcStatus + 1) % 65536
    let unheard := s.dev.held = true ∨ (s.dev.boot.stop = true ∧ s.dev.boot.rom = true) ∨ (s.dev.boot.restarting = true ∧ s.dev.boot.rom = false)
    (Gives (.peek false off) s nack ∧ Gives (.coolant false q) s nack ∧ Gives (.dataWrite false off bs) s nack ∧ Gives (.request false op len off) s nack ∧
      Gives (.reqStatus false) s nack) ∧
    (firmwareOn s.dev = false → Gives (.peek true off) s nack ∧ Gives (.coolant true q) s nack) ∧
    (firmwareOn s.dev = true →
      (implemented off = true → (∀ p o, pageOf a = some (p, o) → (readSpecial (serviceAgent s.dev) true p o s.dev).isNone = true) →
        Gives (.peek true off) s (sends (0 :: leBytes 4 (viewWord s.dev a).toNat))) ∧
      (implemented off = false → Gives (.peek true off) s fun d => d.tx = s.dev.tx ++ [.management (0xFF :: leBytes 4 0)] ∧
        d.resp.bytes = 0xFF :: leBytes 4 0 ∧ bitOf (d.rd DEV_VIOL_INFO) 31 = true ∧ RegsKeep [DEV_VIOL_INFO, DEV_VIOL_ADDR_LO, DEV_VIOL_ADDR_HI] s.dev d) ∧
      Gives (.coolant true q) s (fun d => d.rd THERM_COOLANT_IN = w32 (q % 65536 + 2 ^ 31) ∧ d.iface.coolantTick = s.dev.time.tb ∧
        (bitOf (d.rd THERM_STATE) 8 = true ↔ high) ∧ RegsKeep [THERM_COOLANT_IN, THERM_STATE, PINS_ALERT_SRC, PCIE_INT_CAUSE] s.dev d ∧
        (high → bitOf (s.dev.rd THERM_STATE) 8 = false → bitOf (d.rd PINS_ALERT_SRC) 1 = true ∧
          d.flt.pendingRecords.length = s.dev.flt.pendingRecords.length + 1) ∧
        (¬high ∨ bitOf (s.dev.rd THERM_STATE) 8 = true → d = { s.dev with regs := d.regs, iface := { s.dev.iface with coolantTick := s.dev.time.tb } }))) ∧
    (s.dev.held = true → Gives (.dataWrite true off bs) s nack ∧ Gives (.reqStatus true) s nack) ∧
    (240 < bs.length → Gives (.dataWrite true off bs) s nack) ∧
    (s.dev.held = false → bs.length ≤ 240 →
      (65536 < off + bs.length → Gives (.dataWrite true off bs) s (· = { s.dev with
        boot := { s.dev.boot with bmcStatus := (setFld (w32 s.dev.boot.bmcStatus) 23 16 1).toNat } })) ∧
      (off + bs.length ≤ 65536 → Gives (.dataWrite true off bs) s fun d => d = { s.dev with boot := { s.dev.boot with bmcData := d.boot.bmcData } } ∧
        ∀ x, kvGetD d.boot.bmcData 0 x = if off ≤ x ∧ x < off + bs.length then bs.getD (x - off) 0 else kvGetD s.dev.boot.bmcData 0 x)) ∧
    (s.dev.held = false → Gives (.reqStatus true) s (sends (leBytes 4 s.dev.boot.bmcStatus))) ∧
    (unheard → Gives (.request true op len off) s nack) ∧
    (¬unheard →
      (s.dev.boot.req = none → s.dev.boot.waiting = [] → op % 256 ≠ 5 → Gives (.request true op len off) s fun d =>
        d.boot.bmcStatus = seq ∧ d.rd BOOT_REQ_STATUS = w32 (seq + 2 ^ 31) ∧ RegsKeep [BOOT_REQ_STATUS] s.dev d ∧
        ∃ code, d.boot.req = some { seq, op := op % 256, len, off, bmc := true, code }) ∧
      (∀ r, s.dev.boot.req = some r → r.bmc = true → Gives (.request true op len off) s (· = { s.dev with
        boot := { s.dev.boot with bmcStatus := seq + 0x0C * 65536 + 2 ^ 31 } })) ∧
      (∀ r, s.dev.boot.req = some r → r.bmc = false → s.dev.boot.waiting = [] → Gives (.request true op len off) s (· = { s.dev with
        boot := { s.dev.boot with bmcStatus := seq, waiting := [{ seq, op := op % 256, len, off, bmc := true }] } })))) ∧
  (∀ s : State,
    let late := bitOf (s.dev.rd THERM_COOLANT_IN) 31 = true ∧ s.dev.iface.coolantTick + 8000000000 ≤ s.dev.time.tb
    (¬late → Gives .coolantTimeout s (· = s.dev)) ∧
    (late → Gives .coolantTimeout s fun d => bitOf (d.rd THERM_COOLANT_IN) 31 = false ∧ d.rdF THERM_COOLANT_IN 15 0 = s.dev.rdF THERM_COOLANT_IN 15 0 ∧
      bitOf (d.rd THERM_STATE) 8 = false ∧ OnlyRegs [THERM_COOLANT_IN, THERM_STATE] s.dev d)) ∧
  (∀ (s : State) (cells : List Bool) (token : List Byte) (addr : Nat),
    let ir := fun code : Nat => { s.dev with iface := { s.dev.iface with jtagIr := code, trstLow := false } }
    let op := numAt token 24 1
    let par := numAt token 32 4
    Gives .clamp s (· = ir 3) ∧ Gives .highz s (· = ir 4) ∧ Gives .dap s (· = ir 0x10) ∧ Gives .bypass s (· = ir 0xFF) ∧
    Gives .idcode s (· = { ir 1 with tx := s.dev.tx ++ [.tdo (leBytes 4 (Config.siliconRevision % 16 * 2 ^ 28 + 0xC012 * 4096 + Config.jep106 % 2048 * 2 + 1))] }) ∧
    Gives (.extest cells) s (· = { ir 0 with iface := { s.dev.iface with jtagIr := 0, trstLow := false, cells } }) ∧
    Gives (.samplePreload cells) s (fun d => d = { s.dev with freeCtr := s.dev.freeCtr + 1, tx := d.tx, iface := { s.dev.iface with jtagIr := 2, trstLow := false, cells } } ∧
      ∃ b : List Byte, b.length = (cells.length + 7) / 8 ∧ d.tx = s.dev.tx ++ [.tdo b]) ∧
    Gives (.dynamicAddressAssign addr) s (· = { s.dev with iface := { s.dev.iface with dynAddr := some (addr % 128) } }) ∧
    (firmwareOn s.dev = false ∨ token.length ≠ 248 → Gives (.jtagAuth token) s (· = ir 0x11)) ∧
    (firmwareOn s.dev = true → token.length = 248 → Gives (.jtagAuth token) s fun d =>
      let gives := fun code : Nat => d.tx = s.dev.tx ++ [.tdo (leBytes 1 code)] ∧ ∃ r, r.cls = 0x1E ∧ r.synd = 9 + op % 256 * 256 + code * 65536 ∧
        d.flt.pendingRecords = s.dev.flt.pendingRecords ++ [r]
      d.iface = (ir 0x11).iface ∧ d.freeCtr = s.dev.freeCtr + 2 ∧
      if op = 0 ∨ 3 < op ∨ tokenOk s.dev token = false then gives 0x0B ∧ d.unlocked = s.dev.unlocked ∧ d.boot = s.dev.boot
      else if op = 1 then (if bitOf (s.dev.rd BOOT_RESET_STATUS) 2 = true then gives 0 ∧ d.rdF BOOT_RESET_STATUS 3 2 = 2 else gives 3)
      else if op = 2 then
        (if bitOf (s.dev.rd LIC_FEATURES_LO) 1 = true ∧ 1 ≤ par ∧ par ≤ 86400 then gives 0 ∧ d.unlocked = true ∧ d.boot.sessionEnd = some (s.dev.time.tb + 800000000 * par)
          else gives 0x0B ∧ d.unlocked = s.dev.unlocked)
      else gives 0 ∧ d.boot.boardNext = true) ∧
    let low := { s.dev.iface with jtagIr := 1, trstLow := true }
    (s.dev.held = true → Gives .trstAssert s (· = { s.dev with iface := low })) ∧
    (s.dev.held = false → Gives .trstAssert s fun d => d.iface = low ∧ d.unlocked = false ∧
      (s.dev.unlocked = true → d.boot.sessionEnd = none ∧ ∀ q, q < 48 → d.rd (SEQ_BRK_CTRL q) = 0) ∧
      ∀ m, m < 256 → bitOf (s.dev.rd (LOCK_LOCK m)) 31 = true → fld (s.dev.rd (LOCK_LOCK m)) 23 16 = agentDebug →
        bitOf (d.rd (LOCK_LOCK m)) 31 = false ∧ bitOf (d.rd (LOCK_LOCK m)) 30 = true) ∧
    (∀ text, Gives (.uartInput text) s (· = if s.dev.held = false ∧ s.dev.unlocked = true then
      { s.dev with iface := { s.dev.iface with console := s.dev.iface.console ++ text } } else s.dev))) ∧
  (∀ (s : State) (n agent : Nat) (data : Word), n < 8 →
    let w := s.dev.rd (PINS_EVT_CFG n)
    let f := fld data 3 0
    let may := s.dev.mayWrite agent .pins = true ∧ s.dev.isFenced .pins = false ∧ s.dev.up = true
    let sets := fun (v : Nat) (d : Dev) => d.rd (PINS_EVT_CFG n) = w32 v ∧ RegsKeep [PINS_EVT_CFG n] s.dev d ∧
      d = { s.dev with regs := d.regs, digests := d.digests, digestBusy := d.digestBusy, cad := { s.dev.cad with pulses := kvDel s.dev.cad.pulses n } }
    (may → data.toNat &&& 0xFF0000E0 = 0 → fld w 3 0 = 0 → 1 ≤ f → f ≤ 6 → (f ≤ 3 → ∀ m, m < 8 → m ≠ n → fld (s.dev.rd (PINS_EVT_CFG m)) 3 0 ≠ f) →
      (4 ≤ f → fld data 15 8 ≠ 0) → Gives (.evtCfgWrite n agent data) s (sets (fld data 15 0 + agent % 256 * 65536))) ∧
    (may → data.toNat &&& 0xFF0000E0 = 0 → 3 ≤ fld w 3 0 → f = 0 → (agent = fld w 23 16 ∨ isPewter agent = true) →
      Gives (.evtCfgWrite n agent data) s (sets (fld data 15 0))) ∧
    (may → fld w 3 0 ≠ 0 → f ≠ 0 → Gives (.evtCfgWrite n agent data) s (· = s.dev.reject .pins (0x100 + 4 * n) agent .conflict)) ∧
    (∀ m, may → m < 8 → m ≠ n → fld (s.dev.rd (PINS_EVT_CFG m)) 3 0 = f → 1 ≤ f → f ≤ 3 →
      Gives (.evtCfgWrite n agent data) s (· = s.dev.reject .pins (0x100 + 4 * n) agent .conflict)) ∧
    let over_ := ∃ t, kvGet? s.dev.cad.pulses n = some t ∧ t + 800 * fld w 15 8 ≤ s.dev.time.tb
    (¬over_ → Gives (.evtPulseEnd n) s (· = s.dev)) ∧
    (over_ → Gives (.evtPulseEnd n) s (· = { s.dev with cad := { s.dev.cad with pulses := kvDel s.dev.cad.pulses n } }))) ∧
  (∀ (s : State) (src agent : Nat) (data : Word),
    let ended := ∃ t, kvGet? s.dev.iface.alertTick src = some t ∧ t + 80000000 ≤ s.dev.time.tb
    (src < 2 → ¬ended → Gives (.alertTimeout src) s (· = s.dev)) ∧
    (src < 2 → ended → Gives (.alertTimeout src) s fun d => d.rd PINS_ALERT_SRC = setBit (s.dev.rd PINS_ALERT_SRC) src false ∧
      d.iface = { s.dev.iface with alertTick := kvDel s.dev.iface.alertTick src } ∧ OnlyRegs [PINS_ALERT_SRC] { s.dev with iface := d.iface } d) ∧
    (s.dev.mayWrite agent .pins = true → s.dev.isFenced .pins = false → s.dev.up = true →
      (fld data 31 2 ≠ 0 → Gives (.alertClear agent data) s (· = s.dev.reject .pins 0x124 agent .reserved) ∧
        Gives (.faultClear agent data) s (· = s.dev.reject .pins (PINS_FAULT_SRC % 4096) agent .reserved)) ∧
      (fld data 31 2 = 0 →
        Gives (.alertClear agent data) s (fun d => d.rd PINS_ALERT_SRC = s.dev.rd PINS_ALERT_SRC &&& ~~~data ∧
          (∀ i, i < 2 → kvGet? d.iface.alertTick i = if bitOf (d.rd PINS_ALERT_SRC) i = true then kvGet? s.dev.iface.alertTick i else none) ∧
          OnlyRegs [PINS_ALERT_SRC] { s.dev with iface := { s.dev.iface with alertTick := d.iface.alertTick } } d) ∧
        Gives (.faultClear agent data) s (fun d => d.rd PINS_FAULT_SRC = s.dev.rd PINS_FAULT_SRC &&& ~~~data ∧ OnlyRegs [PINS_FAULT_SRC] s.dev d))))
end

