-- ==== Sys2Proof/Laws/Bits.lean ====
section
/-! SUPPORT. Bit fields of words: a field that was set reads as set, every other bit as before. -/

namespace Sys2Proof.Machine

theorem maskOf_getLsbD (hi lo i : Nat) :
    (maskOf hi lo).getLsbD i = (decide (i < 32) && decide (lo ≤ i) && decide (i - lo < hi + 1 - lo)) := by
  simp only [maskOf, BitVec.getLsbD_ofNat, Nat.testBit_shiftLeft, Nat.testBit_two_pow_sub_one, ge_iff_le]
  by_cases h : lo ≤ i <;> simp [h]

/-- The bits of a word with a field set. -/
theorem setFld_getLsbD (w : Word) (hi lo v i : Nat) :
    (setFld w hi lo v).getLsbD i =
      if lo ≤ i ∧ i - lo < hi + 1 - lo then decide (i < 32) && v.testBit (i - lo) else w.getLsbD i := by
  simp only [setFld, BitVec.getLsbD_or, BitVec.getLsbD_and, BitVec.getLsbD_not, maskOf_getLsbD, BitVec.getLsbD_ofNat,
    Nat.testBit_shiftLeft, Nat.testBit_mod_two_pow]
  by_cases h32 : i < 32 <;> by_cases hlo : lo ≤ i <;> by_cases hw : i - lo < hi + 1 - lo <;> simp [h32, hlo, hw]
  · exact BitVec.getLsbD_of_ge w i (by omega)
  · exact BitVec.getLsbD_of_ge w i (by omega)
  · exact BitVec.getLsbD_of_ge w i (by omega)

theorem bitOf_eq (w : Word) (i : Nat) : bitOf w i = w.getLsbD i := rfl

theorem fld_testBit (w : Word) (hi lo i : Nat) : (fld w hi lo).testBit i = (decide (i < hi + 1 - lo) && w.getLsbD (lo + i)) := by
  simp [fld, Nat.testBit_mod_two_pow, Nat.testBit_shiftRight, BitVec.getLsbD]

/-- A field set to a value reads as that value modulo its width. -/
theorem fld_setFld_same (w : Word) {hi lo : Nat} (v : Nat) (h : hi < 32) : fld (setFld w hi lo v) hi lo = v % 2 ^ (hi + 1 - lo) := by
  apply Nat.eq_of_testBit_eq
  intro i
  rw [fld_testBit, setFld_getLsbD, Nat.testBit_mod_two_pow]
  by_cases hi' : i < hi + 1 - lo
  · have h1 : lo ≤ lo + i ∧ lo + i - lo < hi + 1 - lo := by omega
    have h2 : lo + i < 32 := by omega
    have h3 : lo + i - lo = i := by omega
    simp [hi', h2, h3]
  · simp [hi']

/-- A field reads as before when a disjoint one is set. -/
theorem fld_setFld_other (w : Word) {hi lo h' l' : Nat} (v : Nat) (h : hi < l' ∨ h' < lo) :
    fld (setFld w h' l' v) hi lo = fld w hi lo := by
  apply Nat.eq_of_testBit_eq
  intro i
  rw [fld_testBit, fld_testBit, setFld_getLsbD]
  by_cases hi' : i < hi + 1 - lo
  · have : ¬(l' ≤ lo + i ∧ lo + i - l' < h' + 1 - l') := by omega
    simp [this]
  · simp [hi']

/-- A bit reads as before when a field without it is set. -/
theorem bitOf_setFld_other (w : Word) {i hi lo : Nat} (v : Nat) (h : i < lo ∨ hi < i) : bitOf (setFld w hi lo v) i = bitOf w i := by
  rw [bitOf_eq, bitOf_eq, setFld_getLsbD]
  have : ¬(lo ≤ i ∧ i - lo < hi + 1 - lo) := by omega
  simp [this]

@[simp] theorem bitOf_setBit_same (w : Word) (i : Nat) (b : Bool) (h : i < 32) : bitOf (setBit w i b) i = b := by
  rw [setBit, bitOf_eq, setFld_getLsbD]
  cases b <;> simp [h]

theorem bitOf_setBit_other (w : Word) {i j : Nat} (b : Bool) (h : j ≠ i) : bitOf (setBit w i b) j = bitOf w j :=
  bitOf_setFld_other w _ (by omega)

end Sys2Proof.Machine
end

