-- ==== Sys2Proof/Laws/State.lean ====
section
/-! SUPPORT. What an update of one component of the part leaves alone: one lemma for each field and each update, true by
unfolding. -/

namespace Sys2Proof.Machine

@[simp] theorem Dev.wr_staged (d : Dev) (a : Nat) (w : Word) : (d.wr a w).staged = d.staged := rfl
@[simp] theorem Dev.wr_digests (d : Dev) (a : Nat) (w : Word) : (d.wr a w).digests = d.digests := rfl
@[simp] theorem Dev.wr_digestBusy (d : Dev) (a : Nat) (w : Word) : (d.wr a w).digestBusy = d.digestBusy := rfl
@[simp] theorem Dev.wr_fenced (d : Dev) (a : Nat) (w : Word) : (d.wr a w).fenced = d.fenced := rfl
@[simp] theorem Dev.wr_up (d : Dev) (a : Nat) (w : Word) : (d.wr a w).up = d.up := rfl
@[simp] theorem Dev.wr_held (d : Dev) (a : Nat) (w : Word) : (d.wr a w).held = d.held := rfl
@[simp] theorem Dev.wr_resp (d : Dev) (a : Nat) (w : Word) : (d.wr a w).resp = d.resp := rfl
@[simp] theorem Dev.wr_freeCtr (d : Dev) (a : Nat) (w : Word) : (d.wr a w).freeCtr = d.freeCtr := rfl
@[simp] theorem Dev.wr_time (d : Dev) (a : Nat) (w : Word) : (d.wr a w).time = d.time := rfl
@[simp] theorem Dev.wr_cad (d : Dev) (a : Nat) (w : Word) : (d.wr a w).cad = d.cad := rfl
@[simp] theorem Dev.wr_clk (d : Dev) (a : Nat) (w : Word) : (d.wr a w).clk = d.clk := rfl
@[simp] theorem Dev.wr_pwr (d : Dev) (a : Nat) (w : Word) : (d.wr a w).pwr = d.pwr := rfl
@[simp] theorem Dev.wr_flt (d : Dev) (a : Nat) (w : Word) : (d.wr a w).flt = d.flt := rfl
@[simp] theorem Dev.wr_tx (d : Dev) (a : Nat) (w : Word) : (d.wr a w).tx = d.tx := rfl
@[simp] theorem Dev.wr_ctl (d : Dev) (a : Nat) (w : Word) : (d.wr a w).ctl = d.ctl := rfl
@[simp] theorem Dev.wr_tiles (d : Dev) (a : Nat) (w : Word) : (d.wr a w).tiles = d.tiles := rfl
@[simp] theorem Dev.wr_seqs (d : Dev) (a : Nat) (w : Word) : (d.wr a w).seqs = d.seqs := rfl
@[simp] theorem Dev.wr_fab (d : Dev) (a : Nat) (w : Word) : (d.wr a w).fab = d.fab := rfl
@[simp] theorem Dev.wr_strm (d : Dev) (a : Nat) (w : Word) : (d.wr a w).strm = d.strm := rfl
@[simp] theorem Dev.wr_memp (d : Dev) (a : Nat) (w : Word) : (d.wr a w).memp = d.memp := rfl
@[simp] theorem Dev.wr_peer (d : Dev) (a : Nat) (w : Word) : (d.wr a w).peer = d.peer := rfl
@[simp] theorem Dev.wr_boot (d : Dev) (a : Nat) (w : Word) : (d.wr a w).boot = d.boot := rfl
@[simp] theorem Dev.wr_iface (d : Dev) (a : Nat) (w : Word) : (d.wr a w).iface = d.iface := rfl

@[simp] theorem Dev.wrN_staged (d : Dev) (a v : Nat) : (d.wrN a v).staged = d.staged := rfl
@[simp] theorem Dev.wrN_digests (d : Dev) (a v : Nat) : (d.wrN a v).digests = d.digests := rfl
@[simp] theorem Dev.wrN_digestBusy (d : Dev) (a v : Nat) : (d.wrN a v).digestBusy = d.digestBusy := rfl
@[simp] theorem Dev.wrN_fenced (d : Dev) (a v : Nat) : (d.wrN a v).fenced = d.fenced := rfl
@[simp] theorem Dev.wrN_up (d : Dev) (a v : Nat) : (d.wrN a v).up = d.up := rfl
@[simp] theorem Dev.wrN_held (d : Dev) (a v : Nat) : (d.wrN a v).held = d.held := rfl
@[simp] theorem Dev.wrN_resp (d : Dev) (a v : Nat) : (d.wrN a v).resp = d.resp := rfl
@[simp] theorem Dev.wrN_freeCtr (d : Dev) (a v : Nat) : (d.wrN a v).freeCtr = d.freeCtr := rfl
@[simp] theorem Dev.wrN_time (d : Dev) (a v : Nat) : (d.wrN a v).time = d.time := rfl
@[simp] theorem Dev.wrN_cad (d : Dev) (a v : Nat) : (d.wrN a v).cad = d.cad := rfl
@[simp] theorem Dev.wrN_clk (d : Dev) (a v : Nat) : (d.wrN a v).clk = d.clk := rfl
@[simp] theorem Dev.wrN_pwr (d : Dev) (a v : Nat) : (d.wrN a v).pwr = d.pwr := rfl
@[simp] theorem Dev.wrN_flt (d : Dev) (a v : Nat) : (d.wrN a v).flt = d.flt := rfl
@[simp] theorem Dev.wrN_tx (d : Dev) (a v : Nat) : (d.wrN a v).tx = d.tx := rfl
@[simp] theorem Dev.wrN_ctl (d : Dev) (a v : Nat) : (d.wrN a v).ctl = d.ctl := rfl
@[simp] theorem Dev.wrN_tiles (d : Dev) (a v : Nat) : (d.wrN a v).tiles = d.tiles := rfl
@[simp] theorem Dev.wrN_seqs (d : Dev) (a v : Nat) : (d.wrN a v).seqs = d.seqs := rfl
@[simp] theorem Dev.wrN_fab (d : Dev) (a v : Nat) : (d.wrN a v).fab = d.fab := rfl
@[simp] theorem Dev.wrN_strm (d : Dev) (a v : Nat) : (d.wrN a v).strm = d.strm := rfl
@[simp] theorem Dev.wrN_memp (d : Dev) (a v : Nat) : (d.wrN a v).memp = d.memp := rfl
@[simp] theorem Dev.wrN_peer (d : Dev) (a v : Nat) : (d.wrN a v).peer = d.peer := rfl
@[simp] theorem Dev.wrN_boot (d : Dev) (a v : Nat) : (d.wrN a v).boot = d.boot := rfl
@[simp] theorem Dev.wrN_iface (d : Dev) (a v : Nat) : (d.wrN a v).iface = d.iface := rfl

@[simp] theorem Dev.wrF_staged (d : Dev) (a hi lo v : Nat) : (d.wrF a hi lo v).staged = d.staged := rfl
@[simp] theorem Dev.wrF_digests (d : Dev) (a hi lo v : Nat) : (d.wrF a hi lo v).digests = d.digests := rfl
@[simp] theorem Dev.wrF_digestBusy (d : Dev) (a hi lo v : Nat) : (d.wrF a hi lo v).digestBusy = d.digestBusy := rfl
@[simp] theorem Dev.wrF_fenced (d : Dev) (a hi lo v : Nat) : (d.wrF a hi lo v).fenced = d.fenced := rfl
@[simp] theorem Dev.wrF_up (d : Dev) (a hi lo v : Nat) : (d.wrF a hi lo v).up = d.up := rfl
@[simp] theorem Dev.wrF_held (d : Dev) (a hi lo v : Nat) : (d.wrF a hi lo v).held = d.held := rfl
@[simp] theorem Dev.wrF_resp (d : Dev) (a hi lo v : Nat) : (d.wrF a hi lo v).resp = d.resp := rfl
@[simp] theorem Dev.wrF_freeCtr (d : Dev) (a hi lo v : Nat) : (d.wrF a hi lo v).freeCtr = d.freeCtr := rfl
@[simp] theorem Dev.wrF_time (d : Dev) (a hi lo v : Nat) : (d.wrF a hi lo v).time = d.time := rfl
@[simp] theorem Dev.wrF_cad (d : Dev) (a hi lo v : Nat) : (d.wrF a hi lo v).cad = d.cad := rfl
@[simp] theorem Dev.wrF_clk (d : Dev) (a hi lo v : Nat) : (d.wrF a hi lo v).clk = d.clk := rfl
@[simp] theorem Dev.wrF_pwr (d : Dev) (a hi lo v : Nat) : (d.wrF a hi lo v).pwr = d.pwr := rfl
@[simp] theorem Dev.wrF_flt (d : Dev) (a hi lo v : Nat) : (d.wrF a hi lo v).flt = d.flt := rfl
@[simp] theorem Dev.wrF_tx (d : Dev) (a hi lo v : Nat) : (d.wrF a hi lo v).tx = d.tx := rfl
@[simp] theorem Dev.wrF_ctl (d : Dev) (a hi lo v : Nat) : (d.wrF a hi lo v).ctl = d.ctl := rfl
@[simp] theorem Dev.wrF_tiles (d : Dev) (a hi lo v : Nat) : (d.wrF a hi lo v).tiles = d.tiles := rfl
@[simp] theorem Dev.wrF_seqs (d : Dev) (a hi lo v : Nat) : (d.wrF a hi lo v).seqs = d.seqs := rfl
@[simp] theorem Dev.wrF_fab (d : Dev) (a hi lo v : Nat) : (d.wrF a hi lo v).fab = d.fab := rfl
@[simp] theorem Dev.wrF_strm (d : Dev) (a hi lo v : Nat) : (d.wrF a hi lo v).strm = d.strm := rfl
@[simp] theorem Dev.wrF_memp (d : Dev) (a hi lo v : Nat) : (d.wrF a hi lo v).memp = d.memp := rfl
@[simp] theorem Dev.wrF_peer (d : Dev) (a hi lo v : Nat) : (d.wrF a hi lo v).peer = d.peer := rfl
@[simp] theorem Dev.wrF_boot (d : Dev) (a hi lo v : Nat) : (d.wrF a hi lo v).boot = d.boot := rfl
@[simp] theorem Dev.wrF_iface (d : Dev) (a hi lo v : Nat) : (d.wrF a hi lo v).iface = d.iface := rfl

@[simp] theorem Dev.wr64_staged (d : Dev) (a v : Nat) : (d.wr64 a v).staged = d.staged := rfl
@[simp] theorem Dev.wr64_digests (d : Dev) (a v : Nat) : (d.wr64 a v).digests = d.digests := rfl
@[simp] theorem Dev.wr64_digestBusy (d : Dev) (a v : Nat) : (d.wr64 a v).digestBusy = d.digestBusy := rfl
@[simp] theorem Dev.wr64_fenced (d : Dev) (a v : Nat) : (d.wr64 a v).fenced = d.fenced := rfl
@[simp] theorem Dev.wr64_up (d : Dev) (a v : Nat) : (d.wr64 a v).up = d.up := rfl
@[simp] theorem Dev.wr64_held (d : Dev) (a v : Nat) : (d.wr64 a v).held = d.held := rfl
@[simp] theorem Dev.wr64_resp (d : Dev) (a v : Nat) : (d.wr64 a v).resp = d.resp := rfl
@[simp] theorem Dev.wr64_freeCtr (d : Dev) (a v : Nat) : (d.wr64 a v).freeCtr = d.freeCtr := rfl
@[simp] theorem Dev.wr64_time (d : Dev) (a v : Nat) : (d.wr64 a v).time = d.time := rfl
@[simp] theorem Dev.wr64_cad (d : Dev) (a v : Nat) : (d.wr64 a v).cad = d.cad := rfl
@[simp] theorem Dev.wr64_clk (d : Dev) (a v : Nat) : (d.wr64 a v).clk = d.clk := rfl
@[simp] theorem Dev.wr64_pwr (d : Dev) (a v : Nat) : (d.wr64 a v).pwr = d.pwr := rfl
@[simp] theorem Dev.wr64_flt (d : Dev) (a v : Nat) : (d.wr64 a v).flt = d.flt := rfl
@[simp] theorem Dev.wr64_tx (d : Dev) (a v : Nat) : (d.wr64 a v).tx = d.tx := rfl
@[simp] theorem Dev.wr64_ctl (d : Dev) (a v : Nat) : (d.wr64 a v).ctl = d.ctl := rfl
@[simp] theorem Dev.wr64_tiles (d : Dev) (a v : Nat) : (d.wr64 a v).tiles = d.tiles := rfl
@[simp] theorem Dev.wr64_seqs (d : Dev) (a v : Nat) : (d.wr64 a v).seqs = d.seqs := rfl
@[simp] theorem Dev.wr64_fab (d : Dev) (a v : Nat) : (d.wr64 a v).fab = d.fab := rfl
@[simp] theorem Dev.wr64_strm (d : Dev) (a v : Nat) : (d.wr64 a v).strm = d.strm := rfl
@[simp] theorem Dev.wr64_memp (d : Dev) (a v : Nat) : (d.wr64 a v).memp = d.memp := rfl
@[simp] theorem Dev.wr64_peer (d : Dev) (a v : Nat) : (d.wr64 a v).peer = d.peer := rfl
@[simp] theorem Dev.wr64_boot (d : Dev) (a v : Nat) : (d.wr64 a v).boot = d.boot := rfl
@[simp] theorem Dev.wr64_iface (d : Dev) (a v : Nat) : (d.wr64 a v).iface = d.iface := rfl

@[simp] theorem Dev.bumpBy_staged (d : Dev) (a n : Nat) : (d.bumpBy a n).staged = d.staged := rfl
@[simp] theorem Dev.bumpBy_digests (d : Dev) (a n : Nat) : (d.bumpBy a n).digests = d.digests := rfl
@[simp] theorem Dev.bumpBy_digestBusy (d : Dev) (a n : Nat) : (d.bumpBy a n).digestBusy = d.digestBusy := rfl
@[simp] theorem Dev.bumpBy_fenced (d : Dev) (a n : Nat) : (d.bumpBy a n).fenced = d.fenced := rfl
@[simp] theorem Dev.bumpBy_up (d : Dev) (a n : Nat) : (d.bumpBy a n).up = d.up := rfl
@[simp] theorem Dev.bumpBy_held (d : Dev) (a n : Nat) : (d.bumpBy a n).held = d.held := rfl
@[simp] theorem Dev.bumpBy_resp (d : Dev) (a n : Nat) : (d.bumpBy a n).resp = d.resp := rfl
@[simp] theorem Dev.bumpBy_freeCtr (d : Dev) (a n : Nat) : (d.bumpBy a n).freeCtr = d.freeCtr := rfl
@[simp] theorem Dev.bumpBy_time (d : Dev) (a n : Nat) : (d.bumpBy a n).time = d.time := rfl
@[simp] theorem Dev.bumpBy_cad (d : Dev) (a n : Nat) : (d.bumpBy a n).cad = d.cad := rfl
@[simp] theorem Dev.bumpBy_clk (d : Dev) (a n : Nat) : (d.bumpBy a n).clk = d.clk := rfl
@[simp] theorem Dev.bumpBy_pwr (d : Dev) (a n : Nat) : (d.bumpBy a n).pwr = d.pwr := rfl
@[simp] theorem Dev.bumpBy_flt (d : Dev) (a n : Nat) : (d.bumpBy a n).flt = d.flt := rfl
@[simp] theorem Dev.bumpBy_tx (d : Dev) (a n : Nat) : (d.bumpBy a n).tx = d.tx := rfl
@[simp] theorem Dev.bumpBy_ctl (d : Dev) (a n : Nat) : (d.bumpBy a n).ctl = d.ctl := rfl
@[simp] theorem Dev.bumpBy_tiles (d : Dev) (a n : Nat) : (d.bumpBy a n).tiles = d.tiles := rfl
@[simp] theorem Dev.bumpBy_seqs (d : Dev) (a n : Nat) : (d.bumpBy a n).seqs = d.seqs := rfl
@[simp] theorem Dev.bumpBy_fab (d : Dev) (a n : Nat) : (d.bumpBy a n).fab = d.fab := rfl
@[simp] theorem Dev.bumpBy_strm (d : Dev) (a n : Nat) : (d.bumpBy a n).strm = d.strm := rfl
@[simp] theorem Dev.bumpBy_memp (d : Dev) (a n : Nat) : (d.bumpBy a n).memp = d.memp := rfl
@[simp] theorem Dev.bumpBy_peer (d : Dev) (a n : Nat) : (d.bumpBy a n).peer = d.peer := rfl
@[simp] theorem Dev.bumpBy_boot (d : Dev) (a n : Nat) : (d.bumpBy a n).boot = d.boot := rfl
@[simp] theorem Dev.bumpBy_iface (d : Dev) (a n : Nat) : (d.bumpBy a n).iface = d.iface := rfl

@[simp] theorem Dev.bump_staged (d : Dev) (a : Nat) : (d.bump a).staged = d.staged := rfl
@[simp] theorem Dev.bump_digests (d : Dev) (a : Nat) : (d.bump a).digests = d.digests := rfl
@[simp] theorem Dev.bump_digestBusy (d : Dev) (a : Nat) : (d.bump a).digestBusy = d.digestBusy := rfl
@[simp] theorem Dev.bump_fenced (d : Dev) (a : Nat) : (d.bump a).fenced = d.fenced := rfl
@[simp] theorem Dev.bump_up (d : Dev) (a : Nat) : (d.bump a).up = d.up := rfl
@[simp] theorem Dev.bump_held (d : Dev) (a : Nat) : (d.bump a).held = d.held := rfl
@[simp] theorem Dev.bump_resp (d : Dev) (a : Nat) : (d.bump a).resp = d.resp := rfl
@[simp] theorem Dev.bump_freeCtr (d : Dev) (a : Nat) : (d.bump a).freeCtr = d.freeCtr := rfl
@[simp] theorem Dev.bump_time (d : Dev) (a : Nat) : (d.bump a).time = d.time := rfl
@[simp] theorem Dev.bump_cad (d : Dev) (a : Nat) : (d.bump a).cad = d.cad := rfl
@[simp] theorem Dev.bump_clk (d : Dev) (a : Nat) : (d.bump a).clk = d.clk := rfl
@[simp] theorem Dev.bump_pwr (d : Dev) (a : Nat) : (d.bump a).pwr = d.pwr := rfl
@[simp] theorem Dev.bump_flt (d : Dev) (a : Nat) : (d.bump a).flt = d.flt := rfl
@[simp] theorem Dev.bump_tx (d : Dev) (a : Nat) : (d.bump a).tx = d.tx := rfl
@[simp] theorem Dev.bump_ctl (d : Dev) (a : Nat) : (d.bump a).ctl = d.ctl := rfl
@[simp] theorem Dev.bump_tiles (d : Dev) (a : Nat) : (d.bump a).tiles = d.tiles := rfl
@[simp] theorem Dev.bump_seqs (d : Dev) (a : Nat) : (d.bump a).seqs = d.seqs := rfl
@[simp] theorem Dev.bump_fab (d : Dev) (a : Nat) : (d.bump a).fab = d.fab := rfl
@[simp] theorem Dev.bump_strm (d : Dev) (a : Nat) : (d.bump a).strm = d.strm := rfl
@[simp] theorem Dev.bump_memp (d : Dev) (a : Nat) : (d.bump a).memp = d.memp := rfl
@[simp] theorem Dev.bump_peer (d : Dev) (a : Nat) : (d.bump a).peer = d.peer := rfl
@[simp] theorem Dev.bump_boot (d : Dev) (a : Nat) : (d.bump a).boot = d.boot := rfl
@[simp] theorem Dev.bump_iface (d : Dev) (a : Nat) : (d.bump a).iface = d.iface := rfl

@[simp] theorem Dev.stagedWr_regs (d : Dev) (a : Nat) (w : Word) : (d.stagedWr a w).regs = d.regs := rfl
@[simp] theorem Dev.stagedWr_digests (d : Dev) (a : Nat) (w : Word) : (d.stagedWr a w).digests = d.digests := rfl
@[simp] theorem Dev.stagedWr_digestBusy (d : Dev) (a : Nat) (w : Word) : (d.stagedWr a w).digestBusy = d.digestBusy := rfl
@[simp] theorem Dev.stagedWr_fenced (d : Dev) (a : Nat) (w : Word) : (d.stagedWr a w).fenced = d.fenced := rfl
@[simp] theorem Dev.stagedWr_up (d : Dev) (a : Nat) (w : Word) : (d.stagedWr a w).up = d.up := rfl
@[simp] theorem Dev.stagedWr_held (d : Dev) (a : Nat) (w : Word) : (d.stagedWr a w).held = d.held := rfl
@[simp] theorem Dev.stagedWr_resp (d : Dev) (a : Nat) (w : Word) : (d.stagedWr a w).resp = d.resp := rfl
@[simp] theorem Dev.stagedWr_freeCtr (d : Dev) (a : Nat) (w : Word) : (d.stagedWr a w).freeCtr = d.freeCtr := rfl
@[simp] theorem Dev.stagedWr_time (d : Dev) (a : Nat) (w : Word) : (d.stagedWr a w).time = d.time := rfl
@[simp] theorem Dev.stagedWr_cad (d : Dev) (a : Nat) (w : Word) : (d.stagedWr a w).cad = d.cad := rfl
@[simp] theorem Dev.stagedWr_clk (d : Dev) (a : Nat) (w : Word) : (d.stagedWr a w).clk = d.clk := rfl
@[simp] theorem Dev.stagedWr_pwr (d : Dev) (a : Nat) (w : Word) : (d.stagedWr a w).pwr = d.pwr := rfl
@[simp] theorem Dev.stagedWr_flt (d : Dev) (a : Nat) (w : Word) : (d.stagedWr a w).flt = d.flt := rfl
@[simp] theorem Dev.stagedWr_tx (d : Dev) (a : Nat) (w : Word) : (d.stagedWr a w).tx = d.tx := rfl
@[simp] theorem Dev.stagedWr_ctl (d : Dev) (a : Nat) (w : Word) : (d.stagedWr a w).ctl = d.ctl := rfl
@[simp] theorem Dev.stagedWr_tiles (d : Dev) (a : Nat) (w : Word) : (d.stagedWr a w).tiles = d.tiles := rfl
@[simp] theorem Dev.stagedWr_seqs (d : Dev) (a : Nat) (w : Word) : (d.stagedWr a w).seqs = d.seqs := rfl
@[simp] theorem Dev.stagedWr_fab (d : Dev) (a : Nat) (w : Word) : (d.stagedWr a w).fab = d.fab := rfl
@[simp] theorem Dev.stagedWr_strm (d : Dev) (a : Nat) (w : Word) : (d.stagedWr a w).strm = d.strm := rfl
@[simp] theorem Dev.stagedWr_memp (d : Dev) (a : Nat) (w : Word) : (d.stagedWr a w).memp = d.memp := rfl
@[simp] theorem Dev.stagedWr_peer (d : Dev) (a : Nat) (w : Word) : (d.stagedWr a w).peer = d.peer := rfl
@[simp] theorem Dev.stagedWr_boot (d : Dev) (a : Nat) (w : Word) : (d.stagedWr a w).boot = d.boot := rfl
@[simp] theorem Dev.stagedWr_iface (d : Dev) (a : Nat) (w : Word) : (d.stagedWr a w).iface = d.iface := rfl

@[simp] theorem Dev.setFence_regs (d : Dev) (p : Page) (b : Bool) : (d.setFence p b).regs = d.regs := rfl
@[simp] theorem Dev.setFence_staged (d : Dev) (p : Page) (b : Bool) : (d.setFence p b).staged = d.staged := rfl
@[simp] theorem Dev.setFence_digests (d : Dev) (p : Page) (b : Bool) : (d.setFence p b).digests = d.digests := rfl
@[simp] theorem Dev.setFence_digestBusy (d : Dev) (p : Page) (b : Bool) : (d.setFence p b).digestBusy = d.digestBusy := rfl
@[simp] theorem Dev.setFence_up (d : Dev) (p : Page) (b : Bool) : (d.setFence p b).up = d.up := rfl
@[simp] theorem Dev.setFence_held (d : Dev) (p : Page) (b : Bool) : (d.setFence p b).held = d.held := rfl
@[simp] theorem Dev.setFence_resp (d : Dev) (p : Page) (b : Bool) : (d.setFence p b).resp = d.resp := rfl
@[simp] theorem Dev.setFence_freeCtr (d : Dev) (p : Page) (b : Bool) : (d.setFence p b).freeCtr = d.freeCtr := rfl
@[simp] theorem Dev.setFence_time (d : Dev) (p : Page) (b : Bool) : (d.setFence p b).time = d.time := rfl
@[simp] theorem Dev.setFence_cad (d : Dev) (p : Page) (b : Bool) : (d.setFence p b).cad = d.cad := rfl
@[simp] theorem Dev.setFence_clk (d : Dev) (p : Page) (b : Bool) : (d.setFence p b).clk = d.clk := rfl
@[simp] theorem Dev.setFence_pwr (d : Dev) (p : Page) (b : Bool) : (d.setFence p b).pwr = d.pwr := rfl
@[simp] theorem Dev.setFence_flt (d : Dev) (p : Page) (b : Bool) : (d.setFence p b).flt = d.flt := rfl
@[simp] theorem Dev.setFence_tx (d : Dev) (p : Page) (b : Bool) : (d.setFence p b).tx = d.tx := rfl
@[simp] theorem Dev.setFence_ctl (d : Dev) (p : Page) (b : Bool) : (d.setFence p b).ctl = d.ctl := rfl
@[simp] theorem Dev.setFence_tiles (d : Dev) (p : Page) (b : Bool) : (d.setFence p b).tiles = d.tiles := rfl
@[simp] theorem Dev.setFence_seqs (d : Dev) (p : Page) (b : Bool) : (d.setFence p b).seqs = d.seqs := rfl
@[simp] theorem Dev.setFence_fab (d : Dev) (p : Page) (b : Bool) : (d.setFence p b).fab = d.fab := rfl
@[simp] theorem Dev.setFence_strm (d : Dev) (p : Page) (b : Bool) : (d.setFence p b).strm = d.strm := rfl
@[simp] theorem Dev.setFence_memp (d : Dev) (p : Page) (b : Bool) : (d.setFence p b).memp = d.memp := rfl
@[simp] theorem Dev.setFence_peer (d : Dev) (p : Page) (b : Bool) : (d.setFence p b).peer = d.peer := rfl
@[simp] theorem Dev.setFence_boot (d : Dev) (p : Page) (b : Bool) : (d.setFence p b).boot = d.boot := rfl
@[simp] theorem Dev.setFence_iface (d : Dev) (p : Page) (b : Bool) : (d.setFence p b).iface = d.iface := rfl

@[simp] theorem Dev.answer_regs (d : Dev) (bs : List Byte) : (d.answer bs).regs = d.regs := rfl
@[simp] theorem Dev.answer_staged (d : Dev) (bs : List Byte) : (d.answer bs).staged = d.staged := rfl
@[simp] theorem Dev.answer_digests (d : Dev) (bs : List Byte) : (d.answer bs).digests = d.digests := rfl
@[simp] theorem Dev.answer_digestBusy (d : Dev) (bs : List Byte) : (d.answer bs).digestBusy = d.digestBusy := rfl
@[simp] theorem Dev.answer_fenced (d : Dev) (bs : List Byte) : (d.answer bs).fenced = d.fenced := rfl
@[simp] theorem Dev.answer_up (d : Dev) (bs : List Byte) : (d.answer bs).up = d.up := rfl
@[simp] theorem Dev.answer_held (d : Dev) (bs : List Byte) : (d.answer bs).held = d.held := rfl
@[simp] theorem Dev.answer_freeCtr (d : Dev) (bs : List Byte) : (d.answer bs).freeCtr = d.freeCtr := rfl
@[simp] theorem Dev.answer_time (d : Dev) (bs : List Byte) : (d.answer bs).time = d.time := rfl
@[simp] theorem Dev.answer_cad (d : Dev) (bs : List Byte) : (d.answer bs).cad = d.cad := rfl
@[simp] theorem Dev.answer_clk (d : Dev) (bs : List Byte) : (d.answer bs).clk = d.clk := rfl
@[simp] theorem Dev.answer_pwr (d : Dev) (bs : List Byte) : (d.answer bs).pwr = d.pwr := rfl
@[simp] theorem Dev.answer_flt (d : Dev) (bs : List Byte) : (d.answer bs).flt = d.flt := rfl
@[simp] theorem Dev.answer_tx (d : Dev) (bs : List Byte) : (d.answer bs).tx = d.tx := rfl
@[simp] theorem Dev.answer_ctl (d : Dev) (bs : List Byte) : (d.answer bs).ctl = d.ctl := rfl
@[simp] theorem Dev.answer_tiles (d : Dev) (bs : List Byte) : (d.answer bs).tiles = d.tiles := rfl
@[simp] theorem Dev.answer_seqs (d : Dev) (bs : List Byte) : (d.answer bs).seqs = d.seqs := rfl
@[simp] theorem Dev.answer_fab (d : Dev) (bs : List Byte) : (d.answer bs).fab = d.fab := rfl
@[simp] theorem Dev.answer_strm (d : Dev) (bs : List Byte) : (d.answer bs).strm = d.strm := rfl
@[simp] theorem Dev.answer_memp (d : Dev) (bs : List Byte) : (d.answer bs).memp = d.memp := rfl
@[simp] theorem Dev.answer_peer (d : Dev) (bs : List Byte) : (d.answer bs).peer = d.peer := rfl
@[simp] theorem Dev.answer_boot (d : Dev) (bs : List Byte) : (d.answer bs).boot = d.boot := rfl
@[simp] theorem Dev.answer_iface (d : Dev) (bs : List Byte) : (d.answer bs).iface = d.iface := rfl

@[simp] theorem Dev.answerW_regs (d : Dev) (w : Word) : (d.answerW w).regs = d.regs := rfl
@[simp] theorem Dev.answerW_staged (d : Dev) (w : Word) : (d.answerW w).staged = d.staged := rfl
@[simp] theorem Dev.answerW_digests (d : Dev) (w : Word) : (d.answerW w).digests = d.digests := rfl
@[simp] theorem Dev.answerW_digestBusy (d : Dev) (w : Word) : (d.answerW w).digestBusy = d.digestBusy := rfl
@[simp] theorem Dev.answerW_fenced (d : Dev) (w : Word) : (d.answerW w).fenced = d.fenced := rfl
@[simp] theorem Dev.answerW_up (d : Dev) (w : Word) : (d.answerW w).up = d.up := rfl
@[simp] theorem Dev.answerW_held (d : Dev) (w : Word) : (d.answerW w).held = d.held := rfl
@[simp] theorem Dev.answerW_freeCtr (d : Dev) (w : Word) : (d.answerW w).freeCtr = d.freeCtr := rfl
@[simp] theorem Dev.answerW_time (d : Dev) (w : Word) : (d.answerW w).time = d.time := rfl
@[simp] theorem Dev.answerW_cad (d : Dev) (w : Word) : (d.answerW w).cad = d.cad := rfl
@[simp] theorem Dev.answerW_clk (d : Dev) (w : Word) : (d.answerW w).clk = d.clk := rfl
@[simp] theorem Dev.answerW_pwr (d : Dev) (w : Word) : (d.answerW w).pwr = d.pwr := rfl
@[simp] theorem Dev.answerW_flt (d : Dev) (w : Word) : (d.answerW w).flt = d.flt := rfl
@[simp] theorem Dev.answerW_tx (d : Dev) (w : Word) : (d.answerW w).tx = d.tx := rfl
@[simp] theorem Dev.answerW_ctl (d : Dev) (w : Word) : (d.answerW w).ctl = d.ctl := rfl
@[simp] theorem Dev.answerW_tiles (d : Dev) (w : Word) : (d.answerW w).tiles = d.tiles := rfl
@[simp] theorem Dev.answerW_seqs (d : Dev) (w : Word) : (d.answerW w).seqs = d.seqs := rfl
@[simp] theorem Dev.answerW_fab (d : Dev) (w : Word) : (d.answerW w).fab = d.fab := rfl
@[simp] theorem Dev.answerW_strm (d : Dev) (w : Word) : (d.answerW w).strm = d.strm := rfl
@[simp] theorem Dev.answerW_memp (d : Dev) (w : Word) : (d.answerW w).memp = d.memp := rfl
@[simp] theorem Dev.answerW_peer (d : Dev) (w : Word) : (d.answerW w).peer = d.peer := rfl
@[simp] theorem Dev.answerW_boot (d : Dev) (w : Word) : (d.answerW w).boot = d.boot := rfl
@[simp] theorem Dev.answerW_iface (d : Dev) (w : Word) : (d.answerW w).iface = d.iface := rfl

@[simp] theorem Dev.free_regs (d : Dev) : (d.free.2).regs = d.regs := rfl
@[simp] theorem Dev.free_staged (d : Dev) : (d.free.2).staged = d.staged := rfl
@[simp] theorem Dev.free_digests (d : Dev) : (d.free.2).digests = d.digests := rfl
@[simp] theorem Dev.free_digestBusy (d : Dev) : (d.free.2).digestBusy = d.digestBusy := rfl
@[simp] theorem Dev.free_fenced (d : Dev) : (d.free.2).fenced = d.fenced := rfl
@[simp] theorem Dev.free_up (d : Dev) : (d.free.2).up = d.up := rfl
@[simp] theorem Dev.free_held (d : Dev) : (d.free.2).held = d.held := rfl
@[simp] theorem Dev.free_resp (d : Dev) : (d.free.2).resp = d.resp := rfl
@[simp] theorem Dev.free_time (d : Dev) : (d.free.2).time = d.time := rfl
@[simp] theorem Dev.free_cad (d : Dev) : (d.free.2).cad = d.cad := rfl
@[simp] theorem Dev.free_clk (d : Dev) : (d.free.2).clk = d.clk := rfl
@[simp] theorem Dev.free_pwr (d : Dev) : (d.free.2).pwr = d.pwr := rfl
@[simp] theorem Dev.free_flt (d : Dev) : (d.free.2).flt = d.flt := rfl
@[simp] theorem Dev.free_tx (d : Dev) : (d.free.2).tx = d.tx := rfl
@[simp] theorem Dev.free_ctl (d : Dev) : (d.free.2).ctl = d.ctl := rfl
@[simp] theorem Dev.free_tiles (d : Dev) : (d.free.2).tiles = d.tiles := rfl
@[simp] theorem Dev.free_seqs (d : Dev) : (d.free.2).seqs = d.seqs := rfl
@[simp] theorem Dev.free_fab (d : Dev) : (d.free.2).fab = d.fab := rfl
@[simp] theorem Dev.free_strm (d : Dev) : (d.free.2).strm = d.strm := rfl
@[simp] theorem Dev.free_memp (d : Dev) : (d.free.2).memp = d.memp := rfl
@[simp] theorem Dev.free_peer (d : Dev) : (d.free.2).peer = d.peer := rfl
@[simp] theorem Dev.free_boot (d : Dev) : (d.free.2).boot = d.boot := rfl
@[simp] theorem Dev.free_iface (d : Dev) : (d.free.2).iface = d.iface := rfl

@[simp] theorem Dev.modPeer_regs (d : Dev) (f : PeerSt → PeerSt) : (d.modPeer f).regs = d.regs := rfl
@[simp] theorem Dev.modPeer_staged (d : Dev) (f : PeerSt → PeerSt) : (d.modPeer f).staged = d.staged := rfl
@[simp] theorem Dev.modPeer_digests (d : Dev) (f : PeerSt → PeerSt) : (d.modPeer f).digests = d.digests := rfl
@[simp] theorem Dev.modPeer_digestBusy (d : Dev) (f : PeerSt → PeerSt) : (d.modPeer f).digestBusy = d.digestBusy := rfl
@[simp] theorem Dev.modPeer_fenced (d : Dev) (f : PeerSt → PeerSt) : (d.modPeer f).fenced = d.fenced := rfl
@[simp] theorem Dev.modPeer_up (d : Dev) (f : PeerSt → PeerSt) : (d.modPeer f).up = d.up := rfl
@[simp] theorem Dev.modPeer_held (d : Dev) (f : PeerSt → PeerSt) : (d.modPeer f).held = d.held := rfl
@[simp] theorem Dev.modPeer_resp (d : Dev) (f : PeerSt → PeerSt) : (d.modPeer f).resp = d.resp := rfl
@[simp] theorem Dev.modPeer_freeCtr (d : Dev) (f : PeerSt → PeerSt) : (d.modPeer f).freeCtr = d.freeCtr := rfl
@[simp] theorem Dev.modPeer_time (d : Dev) (f : PeerSt → PeerSt) : (d.modPeer f).time = d.time := rfl
@[simp] theorem Dev.modPeer_cad (d : Dev) (f : PeerSt → PeerSt) : (d.modPeer f).cad = d.cad := rfl
@[simp] theorem Dev.modPeer_clk (d : Dev) (f : PeerSt → PeerSt) : (d.modPeer f).clk = d.clk := rfl
@[simp] theorem Dev.modPeer_pwr (d : Dev) (f : PeerSt → PeerSt) : (d.modPeer f).pwr = d.pwr := rfl
@[simp] theorem Dev.modPeer_flt (d : Dev) (f : PeerSt → PeerSt) : (d.modPeer f).flt = d.flt := rfl
@[simp] theorem Dev.modPeer_tx (d : Dev) (f : PeerSt → PeerSt) : (d.modPeer f).tx = d.tx := rfl
@[simp] theorem Dev.modPeer_ctl (d : Dev) (f : PeerSt → PeerSt) : (d.modPeer f).ctl = d.ctl := rfl
@[simp] theorem Dev.modPeer_tiles (d : Dev) (f : PeerSt → PeerSt) : (d.modPeer f).tiles = d.tiles := rfl
@[simp] theorem Dev.modPeer_seqs (d : Dev) (f : PeerSt → PeerSt) : (d.modPeer f).seqs = d.seqs := rfl
@[simp] theorem Dev.modPeer_fab (d : Dev) (f : PeerSt → PeerSt) : (d.modPeer f).fab = d.fab := rfl
@[simp] theorem Dev.modPeer_strm (d : Dev) (f : PeerSt → PeerSt) : (d.modPeer f).strm = d.strm := rfl
@[simp] theorem Dev.modPeer_memp (d : Dev) (f : PeerSt → PeerSt) : (d.modPeer f).memp = d.memp := rfl
@[simp] theorem Dev.modPeer_boot (d : Dev) (f : PeerSt → PeerSt) : (d.modPeer f).boot = d.boot := rfl
@[simp] theorem Dev.modPeer_iface (d : Dev) (f : PeerSt → PeerSt) : (d.modPeer f).iface = d.iface := rfl

@[simp] theorem Dev.modStrm_regs (d : Dev) (f : StreamSt → StreamSt) : (d.modStrm f).regs = d.regs := rfl
@[simp] theorem Dev.modStrm_staged (d : Dev) (f : StreamSt → StreamSt) : (d.modStrm f).staged = d.staged := rfl
@[simp] theorem Dev.modStrm_digests (d : Dev) (f : StreamSt → StreamSt) : (d.modStrm f).digests = d.digests := rfl
@[simp] theorem Dev.modStrm_digestBusy (d : Dev) (f : StreamSt → StreamSt) : (d.modStrm f).digestBusy = d.digestBusy := rfl
@[simp] theorem Dev.modStrm_fenced (d : Dev) (f : StreamSt → StreamSt) : (d.modStrm f).fenced = d.fenced := rfl
@[simp] theorem Dev.modStrm_up (d : Dev) (f : StreamSt → StreamSt) : (d.modStrm f).up = d.up := rfl
@[simp] theorem Dev.modStrm_held (d : Dev) (f : StreamSt → StreamSt) : (d.modStrm f).held = d.held := rfl
@[simp] theorem Dev.modStrm_resp (d : Dev) (f : StreamSt → StreamSt) : (d.modStrm f).resp = d.resp := rfl
@[simp] theorem Dev.modStrm_freeCtr (d : Dev) (f : StreamSt → StreamSt) : (d.modStrm f).freeCtr = d.freeCtr := rfl
@[simp] theorem Dev.modStrm_time (d : Dev) (f : StreamSt → StreamSt) : (d.modStrm f).time = d.time := rfl
@[simp] theorem Dev.modStrm_cad (d : Dev) (f : StreamSt → StreamSt) : (d.modStrm f).cad = d.cad := rfl
@[simp] theorem Dev.modStrm_clk (d : Dev) (f : StreamSt → StreamSt) : (d.modStrm f).clk = d.clk := rfl
@[simp] theorem Dev.modStrm_pwr (d : Dev) (f : StreamSt → StreamSt) : (d.modStrm f).pwr = d.pwr := rfl
@[simp] theorem Dev.modStrm_flt (d : Dev) (f : StreamSt → StreamSt) : (d.modStrm f).flt = d.flt := rfl
@[simp] theorem Dev.modStrm_tx (d : Dev) (f : StreamSt → StreamSt) : (d.modStrm f).tx = d.tx := rfl
@[simp] theorem Dev.modStrm_ctl (d : Dev) (f : StreamSt → StreamSt) : (d.modStrm f).ctl = d.ctl := rfl
@[simp] theorem Dev.modStrm_tiles (d : Dev) (f : StreamSt → StreamSt) : (d.modStrm f).tiles = d.tiles := rfl
@[simp] theorem Dev.modStrm_seqs (d : Dev) (f : StreamSt → StreamSt) : (d.modStrm f).seqs = d.seqs := rfl
@[simp] theorem Dev.modStrm_fab (d : Dev) (f : StreamSt → StreamSt) : (d.modStrm f).fab = d.fab := rfl
@[simp] theorem Dev.modStrm_memp (d : Dev) (f : StreamSt → StreamSt) : (d.modStrm f).memp = d.memp := rfl
@[simp] theorem Dev.modStrm_peer (d : Dev) (f : StreamSt → StreamSt) : (d.modStrm f).peer = d.peer := rfl
@[simp] theorem Dev.modStrm_boot (d : Dev) (f : StreamSt → StreamSt) : (d.modStrm f).boot = d.boot := rfl
@[simp] theorem Dev.modStrm_iface (d : Dev) (f : StreamSt → StreamSt) : (d.modStrm f).iface = d.iface := rfl

@[simp] theorem Dev.modFlt_regs (d : Dev) (f : FaultSt → FaultSt) : (d.modFlt f).regs = d.regs := rfl
@[simp] theorem Dev.modFlt_staged (d : Dev) (f : FaultSt → FaultSt) : (d.modFlt f).staged = d.staged := rfl
@[simp] theorem Dev.modFlt_digests (d : Dev) (f : FaultSt → FaultSt) : (d.modFlt f).digests = d.digests := rfl
@[simp] theorem Dev.modFlt_digestBusy (d : Dev) (f : FaultSt → FaultSt) : (d.modFlt f).digestBusy = d.digestBusy := rfl
@[simp] theorem Dev.modFlt_fenced (d : Dev) (f : FaultSt → FaultSt) : (d.modFlt f).fenced = d.fenced := rfl
@[simp] theorem Dev.modFlt_up (d : Dev) (f : FaultSt → FaultSt) : (d.modFlt f).up = d.up := rfl
@[simp] theorem Dev.modFlt_held (d : Dev) (f : FaultSt → FaultSt) : (d.modFlt f).held = d.held := rfl
@[simp] theorem Dev.modFlt_resp (d : Dev) (f : FaultSt → FaultSt) : (d.modFlt f).resp = d.resp := rfl
@[simp] theorem Dev.modFlt_freeCtr (d : Dev) (f : FaultSt → FaultSt) : (d.modFlt f).freeCtr = d.freeCtr := rfl
@[simp] theorem Dev.modFlt_time (d : Dev) (f : FaultSt → FaultSt) : (d.modFlt f).time = d.time := rfl
@[simp] theorem Dev.modFlt_cad (d : Dev) (f : FaultSt → FaultSt) : (d.modFlt f).cad = d.cad := rfl
@[simp] theorem Dev.modFlt_clk (d : Dev) (f : FaultSt → FaultSt) : (d.modFlt f).clk = d.clk := rfl
@[simp] theorem Dev.modFlt_pwr (d : Dev) (f : FaultSt → FaultSt) : (d.modFlt f).pwr = d.pwr := rfl
@[simp] theorem Dev.modFlt_tx (d : Dev) (f : FaultSt → FaultSt) : (d.modFlt f).tx = d.tx := rfl
@[simp] theorem Dev.modFlt_ctl (d : Dev) (f : FaultSt → FaultSt) : (d.modFlt f).ctl = d.ctl := rfl
@[simp] theorem Dev.modFlt_tiles (d : Dev) (f : FaultSt → FaultSt) : (d.modFlt f).tiles = d.tiles := rfl
@[simp] theorem Dev.modFlt_seqs (d : Dev) (f : FaultSt → FaultSt) : (d.modFlt f).seqs = d.seqs := rfl
@[simp] theorem Dev.modFlt_fab (d : Dev) (f : FaultSt → FaultSt) : (d.modFlt f).fab = d.fab := rfl
@[simp] theorem Dev.modFlt_strm (d : Dev) (f : FaultSt → FaultSt) : (d.modFlt f).strm = d.strm := rfl
@[simp] theorem Dev.modFlt_memp (d : Dev) (f : FaultSt → FaultSt) : (d.modFlt f).memp = d.memp := rfl
@[simp] theorem Dev.modFlt_peer (d : Dev) (f : FaultSt → FaultSt) : (d.modFlt f).peer = d.peer := rfl
@[simp] theorem Dev.modFlt_boot (d : Dev) (f : FaultSt → FaultSt) : (d.modFlt f).boot = d.boot := rfl
@[simp] theorem Dev.modFlt_iface (d : Dev) (f : FaultSt → FaultSt) : (d.modFlt f).iface = d.iface := rfl

@[simp] theorem Dev.modBoot_regs (d : Dev) (f : BootSt → BootSt) : (d.modBoot f).regs = d.regs := rfl
@[simp] theorem Dev.modBoot_staged (d : Dev) (f : BootSt → BootSt) : (d.modBoot f).staged = d.staged := rfl
@[simp] theorem Dev.modBoot_digests (d : Dev) (f : BootSt → BootSt) : (d.modBoot f).digests = d.digests := rfl
@[simp] theorem Dev.modBoot_digestBusy (d : Dev) (f : BootSt → BootSt) : (d.modBoot f).digestBusy = d.digestBusy := rfl
@[simp] theorem Dev.modBoot_fenced (d : Dev) (f : BootSt → BootSt) : (d.modBoot f).fenced = d.fenced := rfl
@[simp] theorem Dev.modBoot_up (d : Dev) (f : BootSt → BootSt) : (d.modBoot f).up = d.up := rfl
@[simp] theorem Dev.modBoot_held (d : Dev) (f : BootSt → BootSt) : (d.modBoot f).held = d.held := rfl
@[simp] theorem Dev.modBoot_resp (d : Dev) (f : BootSt → BootSt) : (d.modBoot f).resp = d.resp := rfl
@[simp] theorem Dev.modBoot_freeCtr (d : Dev) (f : BootSt → BootSt) : (d.modBoot f).freeCtr = d.freeCtr := rfl
@[simp] theorem Dev.modBoot_time (d : Dev) (f : BootSt → BootSt) : (d.modBoot f).time = d.time := rfl
@[simp] theorem Dev.modBoot_cad (d : Dev) (f : BootSt → BootSt) : (d.modBoot f).cad = d.cad := rfl
@[simp] theorem Dev.modBoot_clk (d : Dev) (f : BootSt → BootSt) : (d.modBoot f).clk = d.clk := rfl
@[simp] theorem Dev.modBoot_pwr (d : Dev) (f : BootSt → BootSt) : (d.modBoot f).pwr = d.pwr := rfl
@[simp] theorem Dev.modBoot_flt (d : Dev) (f : BootSt → BootSt) : (d.modBoot f).flt = d.flt := rfl
@[simp] theorem Dev.modBoot_tx (d : Dev) (f : BootSt → BootSt) : (d.modBoot f).tx = d.tx := rfl
@[simp] theorem Dev.modBoot_ctl (d : Dev) (f : BootSt → BootSt) : (d.modBoot f).ctl = d.ctl := rfl
@[simp] theorem Dev.modBoot_tiles (d : Dev) (f : BootSt → BootSt) : (d.modBoot f).tiles = d.tiles := rfl
@[simp] theorem Dev.modBoot_seqs (d : Dev) (f : BootSt → BootSt) : (d.modBoot f).seqs = d.seqs := rfl
@[simp] theorem Dev.modBoot_fab (d : Dev) (f : BootSt → BootSt) : (d.modBoot f).fab = d.fab := rfl
@[simp] theorem Dev.modBoot_strm (d : Dev) (f : BootSt → BootSt) : (d.modBoot f).strm = d.strm := rfl
@[simp] theorem Dev.modBoot_memp (d : Dev) (f : BootSt → BootSt) : (d.modBoot f).memp = d.memp := rfl
@[simp] theorem Dev.modBoot_peer (d : Dev) (f : BootSt → BootSt) : (d.modBoot f).peer = d.peer := rfl
@[simp] theorem Dev.modBoot_iface (d : Dev) (f : BootSt → BootSt) : (d.modBoot f).iface = d.iface := rfl

@[simp] theorem Dev.modFab_regs (d : Dev) (f : FabricSt → FabricSt) : (d.modFab f).regs = d.regs := rfl
@[simp] theorem Dev.modFab_staged (d : Dev) (f : FabricSt → FabricSt) : (d.modFab f).staged = d.staged := rfl
@[simp] theorem Dev.modFab_digests (d : Dev) (f : FabricSt → FabricSt) : (d.modFab f).digests = d.digests := rfl
@[simp] theorem Dev.modFab_digestBusy (d : Dev) (f : FabricSt → FabricSt) : (d.modFab f).digestBusy = d.digestBusy := rfl
@[simp] theorem Dev.modFab_fenced (d : Dev) (f : FabricSt → FabricSt) : (d.modFab f).fenced = d.fenced := rfl
@[simp] theorem Dev.modFab_up (d : Dev) (f : FabricSt → FabricSt) : (d.modFab f).up = d.up := rfl
@[simp] theorem Dev.modFab_held (d : Dev) (f : FabricSt → FabricSt) : (d.modFab f).held = d.held := rfl
@[simp] theorem Dev.modFab_resp (d : Dev) (f : FabricSt → FabricSt) : (d.modFab f).resp = d.resp := rfl
@[simp] theorem Dev.modFab_freeCtr (d : Dev) (f : FabricSt → FabricSt) : (d.modFab f).freeCtr = d.freeCtr := rfl
@[simp] theorem Dev.modFab_time (d : Dev) (f : FabricSt → FabricSt) : (d.modFab f).time = d.time := rfl
@[simp] theorem Dev.modFab_cad (d : Dev) (f : FabricSt → FabricSt) : (d.modFab f).cad = d.cad := rfl
@[simp] theorem Dev.modFab_clk (d : Dev) (f : FabricSt → FabricSt) : (d.modFab f).clk = d.clk := rfl
@[simp] theorem Dev.modFab_pwr (d : Dev) (f : FabricSt → FabricSt) : (d.modFab f).pwr = d.pwr := rfl
@[simp] theorem Dev.modFab_flt (d : Dev) (f : FabricSt → FabricSt) : (d.modFab f).flt = d.flt := rfl
@[simp] theorem Dev.modFab_tx (d : Dev) (f : FabricSt → FabricSt) : (d.modFab f).tx = d.tx := rfl
@[simp] theorem Dev.modFab_ctl (d : Dev) (f : FabricSt → FabricSt) : (d.modFab f).ctl = d.ctl := rfl
@[simp] theorem Dev.modFab_tiles (d : Dev) (f : FabricSt → FabricSt) : (d.modFab f).tiles = d.tiles := rfl
@[simp] theorem Dev.modFab_seqs (d : Dev) (f : FabricSt → FabricSt) : (d.modFab f).seqs = d.seqs := rfl
@[simp] theorem Dev.modFab_strm (d : Dev) (f : FabricSt → FabricSt) : (d.modFab f).strm = d.strm := rfl
@[simp] theorem Dev.modFab_memp (d : Dev) (f : FabricSt → FabricSt) : (d.modFab f).memp = d.memp := rfl
@[simp] theorem Dev.modFab_peer (d : Dev) (f : FabricSt → FabricSt) : (d.modFab f).peer = d.peer := rfl
@[simp] theorem Dev.modFab_boot (d : Dev) (f : FabricSt → FabricSt) : (d.modFab f).boot = d.boot := rfl
@[simp] theorem Dev.modFab_iface (d : Dev) (f : FabricSt → FabricSt) : (d.modFab f).iface = d.iface := rfl

@[simp] theorem Dev.modIface_regs (d : Dev) (f : IfaceSt → IfaceSt) : (d.modIface f).regs = d.regs := rfl
@[simp] theorem Dev.modIface_staged (d : Dev) (f : IfaceSt → IfaceSt) : (d.modIface f).staged = d.staged := rfl
@[simp] theorem Dev.modIface_digests (d : Dev) (f : IfaceSt → IfaceSt) : (d.modIface f).digests = d.digests := rfl
@[simp] theorem Dev.modIface_digestBusy (d : Dev) (f : IfaceSt → IfaceSt) : (d.modIface f).digestBusy = d.digestBusy := rfl
@[simp] theorem Dev.modIface_fenced (d : Dev) (f : IfaceSt → IfaceSt) : (d.modIface f).fenced = d.fenced := rfl
@[simp] theorem Dev.modIface_up (d : Dev) (f : IfaceSt → IfaceSt) : (d.modIface f).up = d.up := rfl
@[simp] theorem Dev.modIface_held (d : Dev) (f : IfaceSt → IfaceSt) : (d.modIface f).held = d.held := rfl
@[simp] theorem Dev.modIface_resp (d : Dev) (f : IfaceSt → IfaceSt) : (d.modIface f).resp = d.resp := rfl
@[simp] theorem Dev.modIface_freeCtr (d : Dev) (f : IfaceSt → IfaceSt) : (d.modIface f).freeCtr = d.freeCtr := rfl
@[simp] theorem Dev.modIface_time (d : Dev) (f : IfaceSt → IfaceSt) : (d.modIface f).time = d.time := rfl
@[simp] theorem Dev.modIface_cad (d : Dev) (f : IfaceSt → IfaceSt) : (d.modIface f).cad = d.cad := rfl
@[simp] theorem Dev.modIface_clk (d : Dev) (f : IfaceSt → IfaceSt) : (d.modIface f).clk = d.clk := rfl
@[simp] theorem Dev.modIface_pwr (d : Dev) (f : IfaceSt → IfaceSt) : (d.modIface f).pwr = d.pwr := rfl
@[simp] theorem Dev.modIface_flt (d : Dev) (f : IfaceSt → IfaceSt) : (d.modIface f).flt = d.flt := rfl
@[simp] theorem Dev.modIface_tx (d : Dev) (f : IfaceSt → IfaceSt) : (d.modIface f).tx = d.tx := rfl
@[simp] theorem Dev.modIface_ctl (d : Dev) (f : IfaceSt → IfaceSt) : (d.modIface f).ctl = d.ctl := rfl
@[simp] theorem Dev.modIface_tiles (d : Dev) (f : IfaceSt → IfaceSt) : (d.modIface f).tiles = d.tiles := rfl
@[simp] theorem Dev.modIface_seqs (d : Dev) (f : IfaceSt → IfaceSt) : (d.modIface f).seqs = d.seqs := rfl
@[simp] theorem Dev.modIface_fab (d : Dev) (f : IfaceSt → IfaceSt) : (d.modIface f).fab = d.fab := rfl
@[simp] theorem Dev.modIface_strm (d : Dev) (f : IfaceSt → IfaceSt) : (d.modIface f).strm = d.strm := rfl
@[simp] theorem Dev.modIface_memp (d : Dev) (f : IfaceSt → IfaceSt) : (d.modIface f).memp = d.memp := rfl
@[simp] theorem Dev.modIface_peer (d : Dev) (f : IfaceSt → IfaceSt) : (d.modIface f).peer = d.peer := rfl
@[simp] theorem Dev.modIface_boot (d : Dev) (f : IfaceSt → IfaceSt) : (d.modIface f).boot = d.boot := rfl

@[simp] theorem Dev.modSeq_regs (d : Dev) (q : Nat) (f : Sequencer → Sequencer) : (d.modSeq q f).regs = d.regs := rfl
@[simp] theorem Dev.modSeq_staged (d : Dev) (q : Nat) (f : Sequencer → Sequencer) : (d.modSeq q f).staged = d.staged := rfl
@[simp] theorem Dev.modSeq_digests (d : Dev) (q : Nat) (f : Sequencer → Sequencer) : (d.modSeq q f).digests = d.digests := rfl
@[simp] theorem Dev.modSeq_digestBusy (d : Dev) (q : Nat) (f : Sequencer → Sequencer) : (d.modSeq q f).digestBusy = d.digestBusy := rfl
@[simp] theorem Dev.modSeq_fenced (d : Dev) (q : Nat) (f : Sequencer → Sequencer) : (d.modSeq q f).fenced = d.fenced := rfl
@[simp] theorem Dev.modSeq_up (d : Dev) (q : Nat) (f : Sequencer → Sequencer) : (d.modSeq q f).up = d.up := rfl
@[simp] theorem Dev.modSeq_held (d : Dev) (q : Nat) (f : Sequencer → Sequencer) : (d.modSeq q f).held = d.held := rfl
@[simp] theorem Dev.modSeq_resp (d : Dev) (q : Nat) (f : Sequencer → Sequencer) : (d.modSeq q f).resp = d.resp := rfl
@[simp] theorem Dev.modSeq_freeCtr (d : Dev) (q : Nat) (f : Sequencer → Sequencer) : (d.modSeq q f).freeCtr = d.freeCtr := rfl
@[simp] theorem Dev.modSeq_time (d : Dev) (q : Nat) (f : Sequencer → Sequencer) : (d.modSeq q f).time = d.time := rfl
@[simp] theorem Dev.modSeq_cad (d : Dev) (q : Nat) (f : Sequencer → Sequencer) : (d.modSeq q f).cad = d.cad := rfl
@[simp] theorem Dev.modSeq_clk (d : Dev) (q : Nat) (f : Sequencer → Sequencer) : (d.modSeq q f).clk = d.clk := rfl
@[simp] theorem Dev.modSeq_pwr (d : Dev) (q : Nat) (f : Sequencer → Sequencer) : (d.modSeq q f).pwr = d.pwr := rfl
@[simp] theorem Dev.modSeq_flt (d : Dev) (q : Nat) (f : Sequencer → Sequencer) : (d.modSeq q f).flt = d.flt := rfl
@[simp] theorem Dev.modSeq_tx (d : Dev) (q : Nat) (f : Sequencer → Sequencer) : (d.modSeq q f).tx = d.tx := rfl
@[simp] theorem Dev.modSeq_ctl (d : Dev) (q : Nat) (f : Sequencer → Sequencer) : (d.modSeq q f).ctl = d.ctl := rfl
@[simp] theorem Dev.modSeq_tiles (d : Dev) (q : Nat) (f : Sequencer → Sequencer) : (d.modSeq q f).tiles = d.tiles := rfl
@[simp] theorem Dev.modSeq_fab (d : Dev) (q : Nat) (f : Sequencer → Sequencer) : (d.modSeq q f).fab = d.fab := rfl
@[simp] theorem Dev.modSeq_strm (d : Dev) (q : Nat) (f : Sequencer → Sequencer) : (d.modSeq q f).strm = d.strm := rfl
@[simp] theorem Dev.modSeq_memp (d : Dev) (q : Nat) (f : Sequencer → Sequencer) : (d.modSeq q f).memp = d.memp := rfl
@[simp] theorem Dev.modSeq_peer (d : Dev) (q : Nat) (f : Sequencer → Sequencer) : (d.modSeq q f).peer = d.peer := rfl
@[simp] theorem Dev.modSeq_boot (d : Dev) (q : Nat) (f : Sequencer → Sequencer) : (d.modSeq q f).boot = d.boot := rfl
@[simp] theorem Dev.modSeq_iface (d : Dev) (q : Nat) (f : Sequencer → Sequencer) : (d.modSeq q f).iface = d.iface := rfl

@[simp] theorem Dev.modPort_regs (d : Dev) (m : Nat) (f : MemPort → MemPort) : (d.modPort m f).regs = d.regs := rfl
@[simp] theorem Dev.modPort_staged (d : Dev) (m : Nat) (f : MemPort → MemPort) : (d.modPort m f).staged = d.staged := rfl
@[simp] theorem Dev.modPort_digests (d : Dev) (m : Nat) (f : MemPort → MemPort) : (d.modPort m f).digests = d.digests := rfl
@[simp] theorem Dev.modPort_digestBusy (d : Dev) (m : Nat) (f : MemPort → MemPort) : (d.modPort m f).digestBusy = d.digestBusy := rfl
@[simp] theorem Dev.modPort_fenced (d : Dev) (m : Nat) (f : MemPort → MemPort) : (d.modPort m f).fenced = d.fenced := rfl
@[simp] theorem Dev.modPort_up (d : Dev) (m : Nat) (f : MemPort → MemPort) : (d.modPort m f).up = d.up := rfl
@[simp] theorem Dev.modPort_held (d : Dev) (m : Nat) (f : MemPort → MemPort) : (d.modPort m f).held = d.held := rfl
@[simp] theorem Dev.modPort_resp (d : Dev) (m : Nat) (f : MemPort → MemPort) : (d.modPort m f).resp = d.resp := rfl
@[simp] theorem Dev.modPort_freeCtr (d : Dev) (m : Nat) (f : MemPort → MemPort) : (d.modPort m f).freeCtr = d.freeCtr := rfl
@[simp] theorem Dev.modPort_time (d : Dev) (m : Nat) (f : MemPort → MemPort) : (d.modPort m f).time = d.time := rfl
@[simp] theorem Dev.modPort_cad (d : Dev) (m : Nat) (f : MemPort → MemPort) : (d.modPort m f).cad = d.cad := rfl
@[simp] theorem Dev.modPort_clk (d : Dev) (m : Nat) (f : MemPort → MemPort) : (d.modPort m f).clk = d.clk := rfl
@[simp] theorem Dev.modPort_pwr (d : Dev) (m : Nat) (f : MemPort → MemPort) : (d.modPort m f).pwr = d.pwr := rfl
@[simp] theorem Dev.modPort_flt (d : Dev) (m : Nat) (f : MemPort → MemPort) : (d.modPort m f).flt = d.flt := rfl
@[simp] theorem Dev.modPort_tx (d : Dev) (m : Nat) (f : MemPort → MemPort) : (d.modPort m f).tx = d.tx := rfl
@[simp] theorem Dev.modPort_ctl (d : Dev) (m : Nat) (f : MemPort → MemPort) : (d.modPort m f).ctl = d.ctl := rfl
@[simp] theorem Dev.modPort_tiles (d : Dev) (m : Nat) (f : MemPort → MemPort) : (d.modPort m f).tiles = d.tiles := rfl
@[simp] theorem Dev.modPort_seqs (d : Dev) (m : Nat) (f : MemPort → MemPort) : (d.modPort m f).seqs = d.seqs := rfl
@[simp] theorem Dev.modPort_fab (d : Dev) (m : Nat) (f : MemPort → MemPort) : (d.modPort m f).fab = d.fab := rfl
@[simp] theorem Dev.modPort_strm (d : Dev) (m : Nat) (f : MemPort → MemPort) : (d.modPort m f).strm = d.strm := rfl
@[simp] theorem Dev.modPort_peer (d : Dev) (m : Nat) (f : MemPort → MemPort) : (d.modPort m f).peer = d.peer := rfl
@[simp] theorem Dev.modPort_boot (d : Dev) (m : Nat) (f : MemPort → MemPort) : (d.modPort m f).boot = d.boot := rfl
@[simp] theorem Dev.modPort_iface (d : Dev) (m : Nat) (f : MemPort → MemPort) : (d.modPort m f).iface = d.iface := rfl

@[simp] theorem Dev.setTile_regs (d : Dev) (s : Nat) (t : Tile) : (d.setTile s t).regs = d.regs := rfl
@[simp] theorem Dev.setTile_staged (d : Dev) (s : Nat) (t : Tile) : (d.setTile s t).staged = d.staged := rfl
@[simp] theorem Dev.setTile_digests (d : Dev) (s : Nat) (t : Tile) : (d.setTile s t).digests = d.digests := rfl
@[simp] theorem Dev.setTile_digestBusy (d : Dev) (s : Nat) (t : Tile) : (d.setTile s t).digestBusy = d.digestBusy := rfl
@[simp] theorem Dev.setTile_fenced (d : Dev) (s : Nat) (t : Tile) : (d.setTile s t).fenced = d.fenced := rfl
@[simp] theorem Dev.setTile_up (d : Dev) (s : Nat) (t : Tile) : (d.setTile s t).up = d.up := rfl
@[simp] theorem Dev.setTile_held (d : Dev) (s : Nat) (t : Tile) : (d.setTile s t).held = d.held := rfl
@[simp] theorem Dev.setTile_resp (d : Dev) (s : Nat) (t : Tile) : (d.setTile s t).resp = d.resp := rfl
@[simp] theorem Dev.setTile_freeCtr (d : Dev) (s : Nat) (t : Tile) : (d.setTile s t).freeCtr = d.freeCtr := rfl
@[simp] theorem Dev.setTile_time (d : Dev) (s : Nat) (t : Tile) : (d.setTile s t).time = d.time := rfl
@[simp] theorem Dev.setTile_cad (d : Dev) (s : Nat) (t : Tile) : (d.setTile s t).cad = d.cad := rfl
@[simp] theorem Dev.setTile_clk (d : Dev) (s : Nat) (t : Tile) : (d.setTile s t).clk = d.clk := rfl
@[simp] theorem Dev.setTile_pwr (d : Dev) (s : Nat) (t : Tile) : (d.setTile s t).pwr = d.pwr := rfl
@[simp] theorem Dev.setTile_flt (d : Dev) (s : Nat) (t : Tile) : (d.setTile s t).flt = d.flt := rfl
@[simp] theorem Dev.setTile_tx (d : Dev) (s : Nat) (t : Tile) : (d.setTile s t).tx = d.tx := rfl
@[simp] theorem Dev.setTile_ctl (d : Dev) (s : Nat) (t : Tile) : (d.setTile s t).ctl = d.ctl := rfl
@[simp] theorem Dev.setTile_seqs (d : Dev) (s : Nat) (t : Tile) : (d.setTile s t).seqs = d.seqs := rfl
@[simp] theorem Dev.setTile_fab (d : Dev) (s : Nat) (t : Tile) : (d.setTile s t).fab = d.fab := rfl
@[simp] theorem Dev.setTile_strm (d : Dev) (s : Nat) (t : Tile) : (d.setTile s t).strm = d.strm := rfl
@[simp] theorem Dev.setTile_memp (d : Dev) (s : Nat) (t : Tile) : (d.setTile s t).memp = d.memp := rfl
@[simp] theorem Dev.setTile_peer (d : Dev) (s : Nat) (t : Tile) : (d.setTile s t).peer = d.peer := rfl
@[simp] theorem Dev.setTile_boot (d : Dev) (s : Nat) (t : Tile) : (d.setTile s t).boot = d.boot := rfl
@[simp] theorem Dev.setTile_iface (d : Dev) (s : Nat) (t : Tile) : (d.setTile s t).iface = d.iface := rfl

@[simp] theorem Dev.modTile_regs (d : Dev) (s : Nat) (f : Tile → Tile) : (d.modTile s f).regs = d.regs := rfl
@[simp] theorem Dev.modTile_staged (d : Dev) (s : Nat) (f : Tile → Tile) : (d.modTile s f).staged = d.staged := rfl
@[simp] theorem Dev.modTile_digests (d : Dev) (s : Nat) (f : Tile → Tile) : (d.modTile s f).digests = d.digests := rfl
@[simp] theorem Dev.modTile_digestBusy (d : Dev) (s : Nat) (f : Tile → Tile) : (d.modTile s f).digestBusy = d.digestBusy := rfl
@[simp] theorem Dev.modTile_fenced (d : Dev) (s : Nat) (f : Tile → Tile) : (d.modTile s f).fenced = d.fenced := rfl
@[simp] theorem Dev.modTile_up (d : Dev) (s : Nat) (f : Tile → Tile) : (d.modTile s f).up = d.up := rfl
@[simp] theorem Dev.modTile_held (d : Dev) (s : Nat) (f : Tile → Tile) : (d.modTile s f).held = d.held := rfl
@[simp] theorem Dev.modTile_resp (d : Dev) (s : Nat) (f : Tile → Tile) : (d.modTile s f).resp = d.resp := rfl
@[simp] theorem Dev.modTile_freeCtr (d : Dev) (s : Nat) (f : Tile → Tile) : (d.modTile s f).freeCtr = d.freeCtr := rfl
@[simp] theorem Dev.modTile_time (d : Dev) (s : Nat) (f : Tile → Tile) : (d.modTile s f).time = d.time := rfl
@[simp] theorem Dev.modTile_cad (d : Dev) (s : Nat) (f : Tile → Tile) : (d.modTile s f).cad = d.cad := rfl
@[simp] theorem Dev.modTile_clk (d : Dev) (s : Nat) (f : Tile → Tile) : (d.modTile s f).clk = d.clk := rfl
@[simp] theorem Dev.modTile_pwr (d : Dev) (s : Nat) (f : Tile → Tile) : (d.modTile s f).pwr = d.pwr := rfl
@[simp] theorem Dev.modTile_flt (d : Dev) (s : Nat) (f : Tile → Tile) : (d.modTile s f).flt = d.flt := rfl
@[simp] theorem Dev.modTile_tx (d : Dev) (s : Nat) (f : Tile → Tile) : (d.modTile s f).tx = d.tx := rfl
@[simp] theorem Dev.modTile_ctl (d : Dev) (s : Nat) (f : Tile → Tile) : (d.modTile s f).ctl = d.ctl := rfl
@[simp] theorem Dev.modTile_seqs (d : Dev) (s : Nat) (f : Tile → Tile) : (d.modTile s f).seqs = d.seqs := rfl
@[simp] theorem Dev.modTile_fab (d : Dev) (s : Nat) (f : Tile → Tile) : (d.modTile s f).fab = d.fab := rfl
@[simp] theorem Dev.modTile_strm (d : Dev) (s : Nat) (f : Tile → Tile) : (d.modTile s f).strm = d.strm := rfl
@[simp] theorem Dev.modTile_memp (d : Dev) (s : Nat) (f : Tile → Tile) : (d.modTile s f).memp = d.memp := rfl
@[simp] theorem Dev.modTile_peer (d : Dev) (s : Nat) (f : Tile → Tile) : (d.modTile s f).peer = d.peer := rfl
@[simp] theorem Dev.modTile_boot (d : Dev) (s : Nat) (f : Tile → Tile) : (d.modTile s f).boot = d.boot := rfl
@[simp] theorem Dev.modTile_iface (d : Dev) (s : Nat) (f : Tile → Tile) : (d.modTile s f).iface = d.iface := rfl

@[simp] theorem Dev.setTrace_regs (d : Dev) (f : Nat) (t : TraceSt) : (d.setTrace f t).regs = d.regs := rfl
@[simp] theorem Dev.setTrace_staged (d : Dev) (f : Nat) (t : TraceSt) : (d.setTrace f t).staged = d.staged := rfl
@[simp] theorem Dev.setTrace_digests (d : Dev) (f : Nat) (t : TraceSt) : (d.setTrace f t).digests = d.digests := rfl
@[simp] theorem Dev.setTrace_digestBusy (d : Dev) (f : Nat) (t : TraceSt) : (d.setTrace f t).digestBusy = d.digestBusy := rfl
@[simp] theorem Dev.setTrace_fenced (d : Dev) (f : Nat) (t : TraceSt) : (d.setTrace f t).fenced = d.fenced := rfl
@[simp] theorem Dev.setTrace_up (d : Dev) (f : Nat) (t : TraceSt) : (d.setTrace f t).up = d.up := rfl
@[simp] theorem Dev.setTrace_held (d : Dev) (f : Nat) (t : TraceSt) : (d.setTrace f t).held = d.held := rfl
@[simp] theorem Dev.setTrace_resp (d : Dev) (f : Nat) (t : TraceSt) : (d.setTrace f t).resp = d.resp := rfl
@[simp] theorem Dev.setTrace_freeCtr (d : Dev) (f : Nat) (t : TraceSt) : (d.setTrace f t).freeCtr = d.freeCtr := rfl
@[simp] theorem Dev.setTrace_time (d : Dev) (f : Nat) (t : TraceSt) : (d.setTrace f t).time = d.time := rfl
@[simp] theorem Dev.setTrace_cad (d : Dev) (f : Nat) (t : TraceSt) : (d.setTrace f t).cad = d.cad := rfl
@[simp] theorem Dev.setTrace_clk (d : Dev) (f : Nat) (t : TraceSt) : (d.setTrace f t).clk = d.clk := rfl
@[simp] theorem Dev.setTrace_pwr (d : Dev) (f : Nat) (t : TraceSt) : (d.setTrace f t).pwr = d.pwr := rfl
@[simp] theorem Dev.setTrace_flt (d : Dev) (f : Nat) (t : TraceSt) : (d.setTrace f t).flt = d.flt := rfl
@[simp] theorem Dev.setTrace_tx (d : Dev) (f : Nat) (t : TraceSt) : (d.setTrace f t).tx = d.tx := rfl
@[simp] theorem Dev.setTrace_tiles (d : Dev) (f : Nat) (t : TraceSt) : (d.setTrace f t).tiles = d.tiles := rfl
@[simp] theorem Dev.setTrace_seqs (d : Dev) (f : Nat) (t : TraceSt) : (d.setTrace f t).seqs = d.seqs := rfl
@[simp] theorem Dev.setTrace_fab (d : Dev) (f : Nat) (t : TraceSt) : (d.setTrace f t).fab = d.fab := rfl
@[simp] theorem Dev.setTrace_strm (d : Dev) (f : Nat) (t : TraceSt) : (d.setTrace f t).strm = d.strm := rfl
@[simp] theorem Dev.setTrace_memp (d : Dev) (f : Nat) (t : TraceSt) : (d.setTrace f t).memp = d.memp := rfl
@[simp] theorem Dev.setTrace_peer (d : Dev) (f : Nat) (t : TraceSt) : (d.setTrace f t).peer = d.peer := rfl
@[simp] theorem Dev.setTrace_boot (d : Dev) (f : Nat) (t : TraceSt) : (d.setTrace f t).boot = d.boot := rfl
@[simp] theorem Dev.setTrace_iface (d : Dev) (f : Nat) (t : TraceSt) : (d.setTrace f t).iface = d.iface := rfl

end Sys2Proof.Machine
end

