-- ==== Sys2Proof/Laws/Tables.lean ====
section
/-! SUPPORT. Tables from keys to values: what is read after a value is put in or taken out. -/

namespace Sys2Proof.Machine

variable {α : Type}

@[simp] theorem kvGet?_nil (a : Nat) : kvGet? ([] : KV α) a = none := rfl

@[simp] theorem kvGet?_put_same (m : KV α) (a : Nat) (x : α) : kvGet? (kvPut m a x) a = some x := by
  induction m with
  | nil => simp [kvPut, kvGet?]
  | cons e t ih =>
    simp only [kvPut]
    split
    · simp [kvGet?]
    · split
      · simp [kvGet?]
      · simp [kvGet?, *]

theorem kvGet?_put_other (m : KV α) {a b : Nat} (x : α) (h : b ≠ a) : kvGet? (kvPut m a x) b = kvGet? m b := by
  induction m with
  | nil => simp [kvPut, kvGet?, h]
  | cons e t ih =>
    simp only [kvPut]
    split
    · simp [kvGet?, h]
    · split
      · next _ hk => subst hk; simp [kvGet?, h]
      · simp only [kvGet?, ih]

theorem kvGet?_put (m : KV α) (a b : Nat) (x : α) : kvGet? (kvPut m a x) b = if b = a then some x else kvGet? m b := by
  split
  · next h => subst h; simp
  · next h => exact kvGet?_put_other m x h

@[simp] theorem kvGet?_del_same (m : KV α) (a : Nat) : kvGet? (kvDel m a) a = none := by
  induction m with
  | nil => rfl
  | cons e t ih =>
    obtain ⟨k, v⟩ := e
    by_cases h : k = a
    · subst h; simpa [kvDel] using ih
    · have h' : a ≠ k := fun x => h x.symm
      simpa [kvDel, h, kvGet?, h'] using ih

theorem kvGet?_del_other (m : KV α) {a b : Nat} (h : b ≠ a) : kvGet? (kvDel m a) b = kvGet? m b := by
  induction m with
  | nil => rfl
  | cons e t ih =>
    obtain ⟨k, v⟩ := e
    by_cases hk : k = a
    · subst hk; simpa [kvDel, kvGet?, h] using ih
    · simp only [kvDel, List.filter_cons, bne_iff_ne, ne_eq, hk, not_false_eq_true, if_true, kvGet?]
      split
      · rfl
      · exact ih

theorem kvGet?_del (m : KV α) (a b : Nat) : kvGet? (kvDel m a) b = if b = a then none else kvGet? m b := by
  split
  · next h => subst h; simp
  · next h => exact kvGet?_del_other m h

/-- A table with a value put at a key reads as before at every other key. -/
theorem kvGetD_setD [DecidableEq α] (m : KV α) (z : α) (a b : Nat) (x : α) :
    kvGetD (kvSetD m z a x) z b = if b = a then x else kvGetD m z b := by
  unfold kvSetD kvGetD
  split
  · next h => subst h; rw [kvGet?_del]; split <;> simp
  · rw [kvGet?_put]; split <;> simp

@[simp] theorem kvGetD_setD_same [DecidableEq α] (m : KV α) (z : α) (a : Nat) (x : α) : kvGetD (kvSetD m z a x) z a = x := by
  simp [kvGetD_setD]

theorem kvGetD_setD_other [DecidableEq α] (m : KV α) (z : α) {a b : Nat} (x : α) (h : b ≠ a) :
    kvGetD (kvSetD m z a x) z b = kvGetD m z b := by simp [kvGetD_setD, h]

theorem kvGetD_modD [DecidableEq α] (m : KV α) (z : α) (a b : Nat) (f : α → α) :
    kvGetD (kvModD m z a f) z b = if b = a then f (kvGetD m z a) else kvGetD m z b := by simp [kvModD, kvGetD_setD]

/-! ### Canonical form -/

/-- Keys strictly rising. -/
def KeysRise (m : KV α) : Prop := (m.map (·.1)).Pairwise (· < ·)

theorem mem_kvPut (m : KV α) (a : Nat) (x : α) (e : Nat × α) (h : e ∈ kvPut m a x) : e = (a, x) ∨ e ∈ m := by
  induction m with
  | nil => simp [kvPut] at h; exact .inl h
  | cons k t ih =>
    simp only [kvPut] at h
    split at h
    · rcases List.mem_cons.1 h with h | h
      · exact .inl h
      · exact .inr h
    · split at h
      · rcases List.mem_cons.1 h with h | h
        · exact .inl h
        · exact .inr (List.mem_cons_of_mem _ h)
      · rcases List.mem_cons.1 h with h | h
        · subst h; exact .inr (List.mem_cons_self ..)
        · rcases ih h with h | h
          · exact .inl h
          · exact .inr (List.mem_cons_of_mem _ h)

theorem keysRise_put (m : KV α) (a : Nat) (x : α) (h : KeysRise m) : KeysRise (kvPut m a x) := by
  induction m with
  | nil => simp [kvPut, KeysRise]
  | cons e t ih =>
    obtain ⟨k, v⟩ := e
    have hc := List.pairwise_cons.1 (show ((k :: t.map (·.1)).Pairwise (· < ·)) from h)
    simp only [kvPut]
    split
    · next hlt =>
      refine List.pairwise_cons.2 ⟨?_, h⟩
      intro b hb
      rcases List.mem_cons.1 hb with rfl | hb
      · exact hlt
      · exact Nat.lt_trans hlt (hc.1 b hb)
    · split
      · next hk => subst hk; exact h
      · refine List.pairwise_cons.2 ⟨?_, ih hc.2⟩
        intro b hb
        obtain ⟨e, he, rfl⟩ := List.mem_map.1 hb
        rcases mem_kvPut t a x e he with rfl | he
        · show k < a
          omega
        · exact hc.1 _ (List.mem_map_of_mem he)

theorem keysRise_filter (m : KV α) (p : Nat × α → Bool) (h : KeysRise m) : KeysRise (m.filter p) :=
  List.Pairwise.sublist (List.filter_sublist.map _) h

theorem keysRise_setD [DecidableEq α] (m : KV α) (z : α) (a : Nat) (x : α) (h : KeysRise m) : KeysRise (kvSetD m z a x) := by
  unfold kvSetD
  split
  · exact keysRise_filter _ _ h
  · exact keysRise_put _ _ _ h

/-! ### Sets of numbers -/

theorem mem_setIns (l : List Nat) (a b : Nat) : b ∈ setIns l a ↔ b = a ∨ b ∈ l := by
  induction l with
  | nil => simp [setIns]
  | cons k t ih =>
    simp only [setIns]
    split
    · simp
    · split
      · next hk => subst hk; simp
      · simp [ih]; tauto

theorem setIns_rise (l : List Nat) (a : Nat) (h : l.Pairwise (· < ·)) : (setIns l a).Pairwise (· < ·) := by
  induction l with
  | nil => simp [setIns]
  | cons k t ih =>
    have hc := List.pairwise_cons.1 h
    simp only [setIns]
    split
    · next hlt =>
      refine List.pairwise_cons.2 ⟨fun b hb => ?_, h⟩
      rcases List.mem_cons.1 hb with rfl | hb
      · exact hlt
      · exact Nat.lt_trans hlt (hc.1 b hb)
    · split
      · exact h
      · refine List.pairwise_cons.2 ⟨fun b hb => ?_, ih hc.2⟩
        rcases (mem_setIns t a b).1 hb with rfl | hb
        · omega
        · exact hc.1 b hb

@[simp] theorem mem_setDel (l : List Nat) (a b : Nat) : b ∈ setDel l a ↔ b ∈ l ∧ b ≠ a := by simp [setDel]

end Sys2Proof.Machine
end

