-- ==== Sys2Proof/Laws/Pages.lean ====
section
/-! SUPPORT. Registers: what a word, a field or a pair of words reads after a write. -/

namespace Sys2Proof.Machine

/-- A register reads what was last written to it, every other as before. -/
theorem Dev.rd_wr (d : Dev) (a b : Nat) (w : Word) : (d.wr a w).rd b = if b = a then w else d.rd b := by
  have h := kvGetD_setD d.regs (regReset a) a b w
  unfold Dev.rd Dev.wr
  unfold kvGetD at h
  by_cases hb : b = a
  · subst hb; simpa using h
  · simp only [hb, if_false] at h ⊢
    unfold kvSetD
    split
    · rw [kvGet?_del_other _ hb]
    · rw [kvGet?_put_other _ _ hb]

@[simp] theorem Dev.rd_wr_same (d : Dev) (a : Nat) (w : Word) : (d.wr a w).rd a = w := by simp [Dev.rd_wr]

theorem Dev.rd_wr_other (d : Dev) {a b : Nat} (w : Word) (h : b ≠ a) : (d.wr a w).rd b = d.rd b := by
  simp [Dev.rd_wr, h]

@[simp] theorem Dev.rd_wrN_same (d : Dev) (a v : Nat) : (d.wrN a v).rd a = w32 v := Dev.rd_wr_same d a _

theorem Dev.rd_wrN_other (d : Dev) {a b : Nat} (v : Nat) (h : b ≠ a) : (d.wrN a v).rd b = d.rd b :=
  Dev.rd_wr_other d _ h

@[simp] theorem Dev.rd_wrF_same (d : Dev) (a hi lo v : Nat) : (d.wrF a hi lo v).rd a = setFld (d.rd a) hi lo v :=
  Dev.rd_wr_same d a _

theorem Dev.rd_wrF_other (d : Dev) {a b : Nat} (hi lo v : Nat) (h : b ≠ a) : (d.wrF a hi lo v).rd b = d.rd b :=
  Dev.rd_wr_other d _ h

/-- A field reads the value it was set to, modulo its width. -/
theorem Dev.rdF_wrF_same (d : Dev) (a v : Nat) {hi lo : Nat} (h : hi < 32) :
    (d.wrF a hi lo v).rdF a hi lo = v % 2 ^ (hi + 1 - lo) := by
  unfold Dev.rdF; rw [Dev.rd_wrF_same, fld_setFld_same _ _ h]

@[simp] theorem Dev.rd_bump_same (d : Dev) (a : Nat) : (d.bump a).rd a = satAdd (d.rd a) 1 := Dev.rd_wr_same d a _

theorem Dev.rd_bump_other (d : Dev) {a b : Nat} (h : b ≠ a) : (d.bump a).rd b = d.rd b := Dev.rd_wr_other d _ h

/-- The word at an offset after a 64-bit value was written to two words. -/
theorem Dev.rd_wr64 (d : Dev) (a b v : Nat) :
    (d.wr64 a v).rd b = if b = a + 4 then w32 (v / 2 ^ 32) else if b = a then w32 v else d.rd b := by
  unfold Dev.wr64 Dev.wrN
  rw [Dev.rd_wr, Dev.rd_wr]

/-- A 64-bit value reads as written, modulo its width. -/
theorem Dev.rd64_wr64_same (d : Dev) (a v : Nat) : (d.wr64 a v).rd64 a = v % 2 ^ 64 := by
  unfold Dev.rd64
  rw [Dev.rd_wr64, Dev.rd_wr64]
  have h : a ≠ a + 4 := by omega
  simp only [h, if_false, if_true, w32, BitVec.toNat_ofNat]
  omega

theorem Dev.rd64_wr64_other (d : Dev) {a b : Nat} (v : Nat) (h : b + 4 < a ∨ a + 4 < b) :
    (d.wr64 a v).rd64 b = d.rd64 b := by
  unfold Dev.rd64
  rw [Dev.rd_wr64, Dev.rd_wr64]
  have h1 : ¬b = a + 4 := by omega
  have h2 : ¬b = a := by omega
  have h4 : ¬b + 4 = a := by omega
  simp [h1, h2, h4]

/-- Writing a register does not touch the staged copies; a staged register reads its copy. -/
theorem Dev.stagedRd_stagedWr_same (d : Dev) (a : Nat) (w : Word) : (d.stagedWr a w).stagedRd a = w := by
  unfold Dev.stagedRd Dev.stagedWr
  split
  · next h => subst h; simp [Dev.rd]
  · simp

theorem Dev.stagedRd_stagedWr_other (d : Dev) {a b : Nat} (w : Word) (h : b ≠ a) :
    (d.stagedWr a w).stagedRd b = d.stagedRd b := by
  unfold Dev.stagedRd Dev.stagedWr
  split
  · simp [kvGet?_del_other _ h, Dev.rd]
  · simp [kvGet?_put_other _ _ h, Dev.rd]

/-- A write to a staged copy changes no active value. -/
@[simp] theorem Dev.stagedWr_rd (d : Dev) (a b : Nat) (w : Word) : (d.stagedWr a w).rd b = d.rd b := rfl

end Sys2Proof.Machine
end

