-- ==== Sys2Proof/Laws/Memory.lean ====
section
/-! SUPPORT. External memory: every operation keeps the canonical form; a byte that was written reads as written, every
other as before. -/

namespace Sys2Proof.Machine

/-! ### Cells -/

/-- The canonical form of a list of cells. -/
def CellsWf (c : List Host.Cell) : Prop := KeysRise c ∧ ∀ e ∈ c, e.2 ≠ ExtMem.unlisted

theorem ExtMem.wf_iff (m : ExtMem) : m.wf = true ↔ CellsWf m.bytes ∧ m.poison.Pairwise (· < ·) := by
  simp [ExtMem.wf, CellsWf, KeysRise, List.all_eq_true, and_assoc]

theorem cellsAt_ge (bs : List Byte) (a : Nat) (e : Host.Cell) (h : e ∈ cellsAt a bs) : a ≤ e.1 ∧ e.1 < a + bs.length := by
  induction bs generalizing a with
  | nil => simp [cellsAt] at h
  | cons b t ih =>
    simp only [cellsAt] at h
    split at h
    · have := ih (a + 1) h; simp only [List.length_cons]; omega
    · rcases List.mem_cons.1 h with rfl | h
      · simp
      · have := ih (a + 1) h; simp only [List.length_cons]; omega

theorem cellsAt_wf (bs : List Byte) (a : Nat) : CellsWf (cellsAt a bs) := by
  induction bs generalizing a with
  | nil => exact ⟨List.Pairwise.nil, by simp [cellsAt]⟩
  | cons b t ih =>
    simp only [cellsAt]
    split
    · exact ih (a + 1)
    · next hb =>
      refine ⟨List.pairwise_cons.2 ⟨fun k hk => ?_, (ih (a + 1)).1⟩, fun e he => ?_⟩
      · obtain ⟨e, he, rfl⟩ := List.mem_map.1 hk
        have := cellsAt_ge t (a + 1) e he
        show a < e.1
        omega
      · rcases List.mem_cons.1 he with rfl | he
        · exact hb
        · exact (ih (a + 1)).2 e he

theorem writeBytes_wf (c : List Host.Cell) (a : Nat) (bs : List Byte) (h : CellsWf c) : CellsWf (writeBytes c a bs) := by
  refine ⟨?_, fun e he => ?_⟩
  · unfold KeysRise writeBytes
    rw [List.map_append, List.map_append]
    refine List.pairwise_append.2 ⟨List.pairwise_append.2 ⟨keysRise_filter _ _ h.1, (cellsAt_wf bs a).1, ?_⟩,
      keysRise_filter _ _ h.1, ?_⟩
    · intro x hx y hy
      obtain ⟨e, he, rfl⟩ := List.mem_map.1 hx
      obtain ⟨g, hg, rfl⟩ := List.mem_map.1 hy
      have h1 := (List.mem_filter.1 he).2
      have h2 := cellsAt_ge bs a g hg
      simp only [decide_eq_true_eq] at h1
      omega
    · intro x hx y hy
      obtain ⟨g, hg, rfl⟩ := List.mem_map.1 hy
      have h2 := (List.mem_filter.1 hg).2
      simp only [decide_eq_true_eq] at h2
      rcases List.mem_append.1 hx with hx | hx
      · obtain ⟨e, he, rfl⟩ := List.mem_map.1 hx
        have h1 := (List.mem_filter.1 he).2
        simp only [decide_eq_true_eq] at h1
        omega
      · obtain ⟨e, he, rfl⟩ := List.mem_map.1 hx
        have h1 := cellsAt_ge bs a e he
        omega
  · unfold writeBytes at he
    rcases List.mem_append.1 he with he | he
    · rcases List.mem_append.1 he with he | he
      · exact h.2 e (List.mem_filter.1 he).1
      · exact (cellsAt_wf bs a).2 e he
    · exact h.2 e (List.mem_filter.1 he).1

theorem kvSetD_wf (c : List Host.Cell) (a : Nat) (b : Byte) (h : CellsWf c) : CellsWf (kvSetD c ExtMem.unlisted a b) := by
  refine ⟨keysRise_setD _ _ _ _ h.1, fun e he => ?_⟩
  unfold kvSetD at he
  split at he
  · exact h.2 e (List.mem_filter.1 he).1
  · next hb =>
    rcases mem_kvPut c a b e he with rfl | he
    · exact hb
    · exact h.2 e he

/-! ### The canonical form -/

/-- One write keeps the canonical form. -/
theorem ExtMem.write_wf (m : ExtMem) (w : MemWrite) (h : m.wf = true) : (m.write w).wf = true := by
  rw [ExtMem.wf_iff] at h ⊢
  obtain ⟨hc, hp⟩ := h
  cases w with
  | bytes a bs => exact ⟨writeBytes_wf _ _ _ hc, hp.sublist List.filter_sublist⟩
  | poison l => exact ⟨hc, setIns_rise _ _ hp⟩
  | lost l bs => exact ⟨writeBytes_wf _ _ _ hc, setIns_rise _ _ hp⟩
  | rejoin old new =>
    constructor
    · show CellsWf (m.bytes.foldl _ [])
      suffices ∀ (l c : List Host.Cell), CellsWf c → CellsWf (l.foldl (fun c (e : Host.Cell) => kvSetD c ExtMem.unlisted (memMoved old new e.1) e.2) c) from
        this m.bytes [] ⟨List.Pairwise.nil, by simp⟩
      intro l
      induction l with
      | nil => exact fun c hc => hc
      | cons e t ih => exact fun c hc => ih _ (kvSetD_wf _ _ _ hc)
    · show (m.poison.foldl _ []).Pairwise _
      suffices ∀ (l p : List Nat), p.Pairwise (· < ·) →
          (l.foldl (fun p l => setIns p (memMoved old new (64 * l) / 64)) p).Pairwise (· < ·) from
        this m.poison [] List.Pairwise.nil
      intro l
      induction l with
      | nil => exact fun p hp => hp
      | cons e t ih => exact fun p hp => ih _ (setIns_rise _ _ hp)

/-- Writes keep the canonical form. -/
theorem ExtMem.writeAll_wf (m : ExtMem) (ws : List MemWrite) (h : m.wf = true) : (m.writeAll ws).wf = true := by
  unfold ExtMem.writeAll
  induction ws generalizing m with
  | nil => exact h
  | cons w t ih => exact ih _ (ExtMem.write_wf m w h)

theorem reset_mem_wf : State.reset.mem.wf = true := by decide

@[simp] theorem ExtMem.writeAll_nil (m : ExtMem) : m.writeAll [] = m := rfl

theorem ExtMem.writeAll_append (m : ExtMem) (u v : List MemWrite) : m.writeAll (u ++ v) = (m.writeAll u).writeAll v := by
  simp [ExtMem.writeAll]

/-! ### Reading -/

theorem kvGet?_append {α : Type} (m n : KV α) (a : Nat) : kvGet? (m ++ n) a = (kvGet? m a).or (kvGet? n a) := by
  induction m with
  | nil => simp
  | cons e t ih =>
    obtain ⟨k, v⟩ := e
    simp only [List.cons_append, kvGet?]
    split <;> simp [ih]

theorem kvGet?_filter {α : Type} (m : KV α) (p : Nat → Bool) (a : Nat) :
    kvGet? (m.filter fun e => p e.1) a = if p a then kvGet? m a else none := by
  induction m with
  | nil => simp
  | cons e t ih =>
    obtain ⟨k, v⟩ := e
    simp only [List.filter_cons]
    by_cases hk : p k
    · simp only [hk, if_true, kvGet?]
      by_cases ha : a = k
      · subst ha; simp [hk]
      · simp [ha, ih]
    · simp only [hk, kvGet?]
      by_cases ha : a = k
      · subst ha; simp [hk, ih]
      · simp [ha, ih]

theorem kvGet?_cellsAt (bs : List Byte) (a x : Nat) :
    (kvGet? (cellsAt a bs) x).getD ExtMem.unlisted = if a ≤ x then bs.getD (x - a) ExtMem.unlisted else ExtMem.unlisted := by
  induction bs generalizing a with
  | nil => simp [cellsAt]
  | cons b t ih =>
    have step : (if a + 1 ≤ x then t.getD (x - (a + 1)) ExtMem.unlisted else ExtMem.unlisted) =
        if a < x then (b :: t).getD (x - a) ExtMem.unlisted else ExtMem.unlisted := by
      by_cases h : a < x
      · have : x - a = x - (a + 1) + 1 := by omega
        have h1 : a + 1 ≤ x := h
        rw [this]; simp [h, h1]
      · have h1 : ¬a + 1 ≤ x := by omega
        simp [h, h1]
    simp only [cellsAt]
    split
    · next hb =>
      rw [ih, step]
      by_cases h : a = x
      · subst h; simp [hb]
      · by_cases h2 : a < x
        · simp [h2, Nat.le_of_lt h2]
        · have : ¬a ≤ x := by omega
          simp [h2, this]
    · simp only [kvGet?]
      by_cases h : x = a
      · subst h; simp
      · rw [if_neg h, ih, step]
        by_cases h2 : a < x
        · simp [h2, Nat.le_of_lt h2]
        · have : ¬a ≤ x := by omega
          simp [h2, this]

/-- A byte that was written reads as written, every other as before. -/
theorem byteAt_writeBytes (c : List Host.Cell) (p : List Nat) (a : Nat) (bs : List Byte) (x : Nat) :
    (⟨writeBytes c a bs, p⟩ : ExtMem).byteAt x =
      if a ≤ x ∧ x < a + bs.length then bs.getD (x - a) ExtMem.unlisted else (⟨c, p⟩ : ExtMem).byteAt x := by
  unfold ExtMem.byteAt writeBytes
  rw [kvGet?_append, kvGet?_append]
  have h1 : kvGet? (c.filter fun e => decide (e.1 < a)) x = if x < a then kvGet? c x else none := by
    have := kvGet?_filter c (fun k => decide (k < a)) x
    simpa using this
  have h2 : kvGet? (c.filter fun e => decide (a + bs.length ≤ e.1)) x = if a + bs.length ≤ x then kvGet? c x else none := by
    have := kvGet?_filter c (fun k => decide (a + bs.length ≤ k)) x
    simpa using this
  rw [h1, h2]
  have hc := kvGet?_cellsAt bs a x
  have hnone : (x < a ∨ a + bs.length ≤ x) → kvGet? (cellsAt a bs) x = none := by
    intro hx
    by_contra hn
    obtain ⟨v, hv⟩ := Option.ne_none_iff_exists'.1 hn
    have hm : ∀ (l : List Host.Cell), kvGet? l x = some v → (x, v) ∈ l := by
      intro l
      induction l with
      | nil => simp
      | cons e t ih =>
        obtain ⟨k, u⟩ := e
        simp only [kvGet?]
        split
        · next h => intro hh; cases hh; subst h; exact List.mem_cons_self ..
        · exact fun hh => List.mem_cons_of_mem _ (ih hh)
    have := cellsAt_ge bs a _ (hm _ hv)
    simp only at this
    omega
  by_cases hin : a ≤ x ∧ x < a + bs.length
  · have e1 : ¬x < a := by omega
    have e2 : ¬a + bs.length ≤ x := by omega
    rw [if_pos hin]
    simp only [e1, e2, if_false, Option.none_or, Option.or_none]
    rw [hc, if_pos hin.1]
  · rw [if_neg hin, hnone (by omega)]
    by_cases e1 : x < a
    · have e2 : ¬a + bs.length ≤ x := by omega
      simp [e1, e2]
    · have e2 : a + bs.length ≤ x := by omega
      simp [e1, e2]

/-- A write of bytes, read one byte at a time. -/
theorem ExtMem.byteAt_write_bytes (m : ExtMem) (a : Nat) (bs : List Byte) (x : Nat) :
    (m.write (.bytes a bs)).byteAt x =
      if a ≤ x ∧ x < a + bs.length then bs.getD (x - a) ExtMem.unlisted else m.byteAt x :=
  byteAt_writeBytes m.bytes _ a bs x

/-- Reading back what was written. -/
theorem ExtMem.read_write_same (m : ExtMem) (a : Nat) (bs : List Byte) : (m.write (.bytes a bs)).read a bs.length = bs := by
  apply List.ext_getElem
  · simp [ExtMem.read]
  · intro i h1 h2
    simp [ExtMem.read, ExtMem.byteAt_write_bytes, h2]

end Sys2Proof.Machine
end

