-- ==== Sys2Proof/Laws/Ops.lean ====
section
/-! SUPPORT. What each shared operation can do, said once: the lifts to an outcome, checks, rejections, records. -/

namespace Sys2Proof.Machine

/-! ### Outcomes -/

theorem onDev_eq_next (f : Dev → Dev) (s t : State) : onDev f s = .next t ↔ t = { s with dev := f s.dev } := by
  simp [onDev, eq_comm]

theorem onDevRead_eq_next (f : ExtMem → Dev → Dev) (s t : State) :
    onDevRead f s = .next t ↔ t = { s with dev := f s.mem s.dev } := by
  simp [onDevRead, eq_comm]

theorem onDevMem_eq_next (f : ExtMem → Dev → Dev × List MemWrite) (s t : State) :
    onDevMem f s = .next t ↔
      t = { s with dev := countWrites (f s.mem s.dev).2 (f s.mem s.dev).1, mem := s.mem.writeAll (f s.mem s.dev).2 } := by
  simp [onDevMem, eq_comm]

@[simp] theorem guardUnit_true (r : Result) : guardUnit true r = r := rfl
@[simp] theorem guardUnit_false (r : Result) : guardUnit false r = .fault .noSuchUnit := rfl

theorem guardUnit_eq_next (ok : Bool) (r : Result) (t : State) : guardUnit ok r = .next t ↔ ok = true ∧ r = .next t := by
  cases ok <;> simp [guardUnit]

/-- Effects inside the part keep the queue and external memory. -/
theorem onDev_keeps {f : Dev → Dev} {s t : State} (h : onDev f s = .next t) : t.pending = s.pending ∧ t.mem = s.mem := by
  rw [onDev_eq_next] at h; subst h; exact ⟨rfl, rfl⟩

/-- Effects that reach external memory keep the queue and the canonical form. -/
theorem onDevMem_keeps {f : ExtMem → Dev → Dev × List MemWrite} {s t : State} (h : onDevMem f s = .next t) :
    t.pending = s.pending ∧ (s.mem.wf = true → t.mem.wf = true) := by
  rw [onDevMem_eq_next] at h; subst h; exact ⟨rfl, ExtMem.writeAll_wf _ _⟩

/-! ### Completion -/

theorem Gives.onDev {i : Instr} {s : State} {f : Dev → Dev} {p : Dev → Prop} (h : exec i s = onDev f s) (hp : p (f s.dev)) :
    Gives i s p := ⟨_, h, rfl, rfl, rfl, hp⟩

theorem Gives.onDevRead {i : Instr} {s : State} {f : ExtMem → Dev → Dev} {p : Dev → Prop} (h : exec i s = onDevRead f s)
    (hp : p (f s.mem s.dev)) : Gives i s p := ⟨_, h, rfl, rfl, rfl, hp⟩

/-- A command that can write memory, where it writes none. -/
theorem Gives.onDevMem {i : Instr} {s : State} {f : ExtMem → Dev → Dev × List MemWrite} {p : Dev → Prop}
    (h : exec i s = onDevMem f s) (hw : (f s.mem s.dev).2 = []) (hp : p (f s.mem s.dev).1) : Gives i s p := by
  refine ⟨_, h, rfl, by rw [hw]; rfl, rfl, ?_⟩
  rw [hw]
  simpa [countWrites] using hp

/-- A command that names units that exist. -/
theorem guardUnit_pos {ok : Bool} (r : Result) (h : ok = true) : guardUnit ok r = r := by rw [h]; rfl

/-! ### Frames -/

theorem RegsOnly.refl (d : Dev) : RegsOnly d d := rfl

theorem RegsOnly.trans {a b c : Dev} (h : RegsOnly a b) (g : RegsOnly b c) : RegsOnly a c := by
  unfold RegsOnly at *; rw [g, h]

theorem RegsKeep.refl (l : List Nat) (d : Dev) : RegsKeep l d d := fun _ _ => rfl

theorem RegsKeep.trans {l : List Nat} {a b c : Dev} (h : RegsKeep l a b) (g : RegsKeep l b c) : RegsKeep l a c :=
  fun x hx => (g x hx).trans (h x hx)

theorem RegsKeep.mono {l m : List Nat} {a b : Dev} (h : RegsKeep l a b) (s : l ⊆ m) : RegsKeep m a b :=
  fun x hx => h x fun hl => hx (s hl)

theorem regsOnly_wr (d : Dev) (a : Nat) (w : Word) : RegsOnly d (d.wr a w) := rfl

theorem regsKeep_wr (d : Dev) (a : Nat) (w : Word) : RegsKeep [a] d (d.wr a w) :=
  fun x hx => Dev.rd_wr_other d w (by simpa using hx)

theorem onlyRegs_wr (d : Dev) (a : Nat) (w : Word) : OnlyRegs [a] d (d.wr a w) := ⟨regsOnly_wr d a w, regsKeep_wr d a w⟩

theorem onlyRegs_wr64 (d : Dev) (a v : Nat) : OnlyRegs [a, a + 4] d (d.wr64 a v) := by
  refine ⟨rfl, fun x hx => ?_⟩
  rw [Dev.rd_wr64]
  have h1 : x ≠ a := fun h => hx (by simp [h])
  have h2 : x ≠ a + 4 := fun h => hx (by simp [h])
  simp [h1, h2]

theorem OnlyRegs.trans {l : List Nat} {a b c : Dev} (h : OnlyRegs l a b) (g : OnlyRegs l b c) : OnlyRegs l a c :=
  ⟨h.1.trans g.1, h.2.trans g.2⟩

theorem OnlyRegs.mono {l m : List Nat} {a b : Dev} (h : OnlyRegs l a b) (s : l ⊆ m) : OnlyRegs m a b := ⟨h.1, h.2.mono s⟩

/-- The counters of written lines (09_external_memory.md R387). -/
def lineCounts : List Nat := (List.range 8).flatMap fun m => [MEMP_WR_LINES_LO m, MEMP_WR_LINES_LO m + 4]

/-- Counting written lines touches nothing but the counters. -/
theorem countWrites_only (ws : List MemWrite) (d : Dev) : OnlyRegs lineCounts d (countWrites ws d) := by
  unfold countWrites
  have key : ∀ (ports : List Nat) (l : List Nat), (∀ m ∈ l, m < 8) → ∀ d : Dev, OnlyRegs lineCounts d
      (l.foldl (fun d m => if ports.count m = 0 ∨ portFailed d m then d else count48 (MEMP_WR_LINES_LO m) (ports.count m) d) d) := by
    intro ports l
    induction l with
    | nil => exact fun _ d => ⟨rfl, RegsKeep.refl _ d⟩
    | cons m t ih =>
      intro hl d
      simp only [List.foldl_cons]
      refine OnlyRegs.trans ?_ (ih (fun x hx => hl x (List.mem_cons_of_mem _ hx)) _)
      split
      · exact ⟨rfl, RegsKeep.refl _ d⟩
      · refine (onlyRegs_wr64 d _ _).mono ?_
        intro x hx
        exact List.mem_flatMap.2 ⟨m, List.mem_range.2 (hl m (List.mem_cons_self ..)), hx⟩
  exact key _ _ (fun m hm => List.mem_range.1 hm) d

@[simp] theorem countWrites_nil (d : Dev) : countWrites [] d = d := by simp [countWrites]

/-! ### Checks (R52, R55) -/

/-- The reported code is that of a failing check, and no failing check comes before it. -/
theorem firstFail_some {cs : List Check} {c : ErrCode} (h : firstFail cs = some c) :
    (c, true) ∈ cs ∧ ∀ e ∈ cs, e.2 = true → c.rank ≤ e.1.rank := by
  induction cs generalizing c with
  | nil => simp [firstFail] at h
  | cons e t ih =>
    obtain ⟨k, b⟩ := e
    simp only [firstFail] at h
    cases ht : firstFail t with
    | none =>
      rw [ht] at h
      have hnone : ∀ (l : List Check), firstFail l = none → ∀ e ∈ l, e.2 = false := by
        intro l
        induction l with
        | nil => simp
        | cons e t ih2 =>
          obtain ⟨k, b⟩ := e
          intro hl e he
          simp only [firstFail] at hl
          cases ht2 : firstFail t with
          | none =>
            rw [ht2] at hl
            rcases List.mem_cons.1 he with rfl | he
            · cases b <;> simp_all
            · exact ih2 ht2 e he
          | some c' =>
            rw [ht2] at hl
            simp only at hl
            split at hl <;> cases hl
      cases b with
      | false => simp at h
      | true =>
        simp only [if_true, Option.some.injEq] at h
        subst h
        refine ⟨List.mem_cons_self .., fun e he hb => ?_⟩
        rcases List.mem_cons.1 he with rfl | he
        · exact Nat.le_refl _
        · rw [hnone t ht e he] at hb; cases hb
    | some c' =>
      rw [ht] at h
      obtain ⟨h1, h2⟩ := ih ht
      simp only at h
      split at h
      · next hcond =>
        simp only [Bool.and_eq_true, decide_eq_true_eq] at hcond
        cases h
        refine ⟨by simp [hcond.1], fun e he hb => ?_⟩
        rcases List.mem_cons.1 he with rfl | he
        · exact Nat.le_refl _
        · exact Nat.le_trans hcond.2 (h2 e he hb)
      · next hcond =>
        cases h
        refine ⟨List.mem_cons_of_mem _ h1, fun e he hb => ?_⟩
        rcases List.mem_cons.1 he with rfl | he
        · simp only at hb
          subst hb
          simp only [Bool.true_and, decide_eq_true_eq] at hcond
          exact Nat.le_of_lt (Nat.lt_of_not_le hcond)
        · exact h2 e he hb

/-- No code is reported exactly when no check fails. -/
theorem firstFail_none (cs : List Check) : firstFail cs = none ↔ ∀ e ∈ cs, e.2 = false := by
  induction cs with
  | nil => simp [firstFail]
  | cons e t ih =>
    obtain ⟨k, b⟩ := e
    simp only [firstFail]
    cases ht : firstFail t with
    | none =>
      have hn := ih.1 ht
      cases b
      · simpa using fun a b h => hn (a, b) h
      · simp
    | some c' =>
      have hne : ¬∀ e ∈ t, e.2 = false := fun h => by rw [ih.2 h] at ht; cases ht
      constructor
      · intro h; simp only at h; split at h <;> cases h
      · exact fun h => absurd (fun e he => h e (List.mem_cons_of_mem _ he)) hne

theorem Dev.checked_pass (d : Dev) (p : Page) (off agent : Nat) (cs : List Check) (f : Dev → Dev)
    (h : ∀ e ∈ cs, e.2 = false) : d.checked p off agent cs f = f d := by
  unfold Dev.checked; rw [(firstFail_none cs).2 h]

theorem Dev.checked_fail (d : Dev) (p : Page) (off agent : Nat) (cs : List Check) (f : Dev → Dev) (c : ErrCode)
    (h : firstFail cs = some c) : d.checked p off agent cs f = d.reject p off agent c := by
  unfold Dev.checked; rw [h]

/-! ### Records and rejections -/

/-- A record changes nothing but the records that wait and the reports to the stream manager. -/
theorem Dev.record_only (d : Dev) (cls kind unit synd : Nat) (cmd : Option CmdRef) :
    d.record cls kind unit synd cmd = { d with flt := { d.flt with
      pendingRecords := (d.record cls kind unit synd cmd).flt.pendingRecords,
      failReports := (d.record cls kind unit synd cmd).flt.failReports } } := rfl

@[simp] theorem Dev.record_rd (d : Dev) (cls kind unit synd : Nat) (cmd : Option CmdRef) (a : Nat) :
    (d.record cls kind unit synd cmd).rd a = d.rd a := rfl

theorem Dev.reject_only (d : Dev) (p : Page) (off agent : Nat) (c : ErrCode) :
    d.reject p off agent c = { d with regs := (d.reject p off agent c).regs, flt := (d.reject p off agent c).flt } := by
  unfold Dev.reject
  dsimp only
  split <;> split <;> rfl

/-- A rejection changes no register but ERR_CODE and ERR_COUNT of its page (R53). -/
theorem Dev.reject_regs (d : Dev) (p : Page) (off agent : Nat) (c : ErrCode) : RegsKeep (errRegs p) d (d.reject p off agent c) := by
  intro a ha
  have h1 : a ≠ p.base + 0x10 := fun h => ha (by simp [errRegs, h])
  have h2 : a ≠ p.base + 0x14 := fun h => ha (by simp [errRegs, h])
  unfold Dev.reject
  dsimp only
  split <;> split <;> simp [Dev.rd_wr, Dev.rd_bump_other, h1, h2]

/-- A rejection counts once (R53). -/
theorem Dev.reject_count (d : Dev) (p : Page) (off agent : Nat) (c : ErrCode) :
    (d.reject p off agent c).rd (p.base + 0x14) = satAdd (d.rd (p.base + 0x14)) 1 := by
  unfold Dev.reject
  dsimp only
  split <;> split <;> simp [Dev.rd_wr]

/-- Nothing but free values is taken when a free value is taken. -/
theorem Dev.free_only (d : Dev) : (d.free).2 = { d with freeCtr := d.freeCtr + 1 } := rfl

end Sys2Proof.Machine
end

