-- ==== Sys2Proof/Tests/Slice0.lean ====
section
/-! SUPPORT. Ill-formed commands are refused; for each statement, states and operands that meet its hypotheses, and what the
command answers there. -/

open Sys2Proof Sys2Proof.Machine

namespace Sys2Proof.Tests

-- One theorem after another: many waiting kernel checks would exhaust the memory limit.
set_option Elab.async false

/-- The command answers a next state with a property. -/
def after (c : Instr) (s : State) (p : Dev → Bool) : Bool :=
  match exec c s with
  | .next t => p t.dev
  | _ => false

/-- The command answers a next state whose memory has a property. -/
def afterMem (c : Instr) (s : State) (p : ExtMem → Bool) : Bool :=
  match exec c s with
  | .next t => p t.mem
  | _ => false

/-- The command changes nothing inside the part. -/
def same (c : Instr) (s : State) : Bool := after c s fun d => decide (d = s.dev)

/-- A device that is up, every power domain on, every field's clock running, with register words that are not at their reset value. -/
def up (r : KV Word := []) : Dev :=
  { up := true, held := false, regs := r.foldl (fun m e => kvPut m e.1 e.2) (kvPut ((List.range 6).map fun k => (PWR_DOM_ON k, 0xFFFFFFFF)) CLK_FIELD_PLL 0x0FFF0FFF) }

def st (d : Dev) (m : ExtMem := {}) : State := { pending := [], mem := m, dev := d }

/-! ### Well-formed commands -/

/-- For each kind of unit a command that names one that the die does not have, beside one that names the last it has. -/
theorem test_wf_refuses_missing_units :
    ([.registerWrite 3 0 [], .lockAcquire 1 256, .apply 1 0x17000 0, .seqHalted 48, .spillComplete 12, .tileDispatch 13824,
      .engineStart 0 5 [], .evtCfgWrite 8 1 0, .sensorFrame 8 [], .memPortFail 8, .linkRetrain 0x28 true, .alertTimeout 2,
      .hostFunctionReset 3 0, .d3hotEntry 2, .pewterDisagree 4, .commTimeout 14] : List Instr).all (fun i => !i.wf) = true ∧
    ([.registerWrite 2 0 [], .lockAcquire 1 255, .apply 1 0x16000 0, .seqHalted 47, .spillComplete 11, .tileDispatch 13823,
      .engineStart 13823 4 [], .evtCfgWrite 7 1 0, .sensorFrame 7 [], .memPortFail 7, .linkRetrain 0x33 true, .alertTimeout 1,
      .hostFunctionReset 2 1, .d3hotEntry 1, .pewterDisagree 3, .commTimeout 13] : List Instr).all Instr.wf = true := by decide +kernel

/-! ### The queue, reset, invariant -/

theorem test_StepRunsFront : ({ st (up) with pending := [.lockAcquire 1 0] } : State).pending = .lockAcquire 1 0 :: [] := rfl

theorem test_IdleStepTicks : (st (up)).pending = [] ∧ (up).held = false ∧ (up).time.stopped = false ∧
    step (st (up)) = .next (st { up with time := { (up).time with tb := 1 } }) := ⟨rfl, rfl, rfl, rfl⟩

theorem test_StepKeepsInv : StateInv State.reset ∧ step State.reset = .next State.reset := ⟨rfl, rfl⟩

theorem test_SafeQueueRuns : SafeQueue { st (up) with pending := [.lockAcquire 1 255, .tileDispatch 13823] } := rfl

theorem test_NonStoringFrame : (Instr.lockAcquire 1 0).stores = false ∧ after (.lockAcquire 1 0) (st (up)) (fun _ => true) = true := by decide +kernel

/-! ### Locks, rejections, violations -/

theorem test_LockAcquired : isAgent 0xFF = true ∧
    after (.lockAcquire 0xFF 255) (st (up)) (fun d => d.rd (LOCK_LOCK 255) == 0x80FF0001) = true ∧
    after (.lockAcquire 1 0) (st (up [(LOCK_LOCK 0, 0x80FF0005)])) (fun d => d.rd (LOCK_LOCK 0) == 0x80FF0005) = true := by decide +kernel

theorem test_LockReleased : let d := up [(LOCK_LOCK 255, 0xC0010007)]
    d.mayWrite 1 .lock = true ∧ after (.lockRelease 1 255 7) (st d) (fun e => e.rd (LOCK_LOCK 255) == 0x00010007) = true ∧
    after (.lockRelease 0x40 255 7) (st d) (fun e => e.rdF (Page.lock.base + 0x10) 7 0 == ErrCode.owner.code) = true ∧
    after (.breakLock 0x10 255) (st d) (fun e => e.rd (LOCK_LOCK 255) == 0x40010007) = true ∧
    same (.breakLock 0x10 0) (st d) = true := by decide +kernel

theorem test_RejectionEffect : let d := (up).reject .cad 0x104 1 .busy
    d.rd (Page.cad.base + 0x10) = 0x81040100 + ErrCode.busy.code ∧ (d.reject .cad 0 1 .range).rd (Page.cad.base + 0x10) = d.rd (Page.cad.base + 0x10) ∧
    ((up [(Page.cad.base + 8, 2)]).reject .cad 0 1 .range).flt.pendingRecords.length = 1 := by decide +kernel

theorem test_PrivilegeRejects : let d := up [(PCIE_LINK 0, 1)]
    hostReaches d = true ∧ pageOf CLK_VCO = some (.clk, CLK_VCO % 4096) ∧ implemented CLK_VCO = true ∧ Page.clk.dark d = false ∧
    d.mayWrite 1 .clk = false ∧ after (.registerWrite 1 CLK_VCO [1, 0, 0, 0]) (st d) (fun e => e.rdF (Page.clk.base + 0x10) 7 0 == 0x0B) = true := by decide +kernel

theorem test_Violations : implemented 0x17000 = false ∧ implemented 0 = true ∧ memCapacity ≤ memCapacity ∧
    after (.violationAccess 1 false false 0x17000) (st (up)) (fun d => d.rd DEV_VIOL_INFO == 0x80010001 && d.rd DEV_VIOL_ADDR_LO == 0x17000) = true ∧
    after (.violationAccess 2 true true memCapacity) (st (up [(DEV_VIOL_INFO, 0x8001FFFF)])) (fun d => d.rd DEV_VIOL_INFO == 0x8001FFFF) = true ∧
    same (.violationAccess 1 false false 0) (st (up)) = true ∧
    after (.violInfoClear 1 0x80000000) (st (up [(DEV_VIOL_INFO, 0x8001FFFF)])) (fun d => d.rd DEV_VIOL_INFO == 0) = true := by decide +kernel

/-! ### Registers (02_control_model.md) -/

def hostUpDev (r : KV Word := []) : Dev := up ([(PCIE_LINK 0, 1), (FIELD_SEAM_S 1, 0x80000100), (FIELD_SEAM_S 4, 0x80000100)] ++ r)

theorem test_RegisterReads : let d := hostUpDev [(Page.cad.base + 0x14, 5)]
    hostReaches d = true ∧ pageOf (Page.cad.base + 0x14) = some (.cad, 0x14) ∧ Page.cad.dark d = false ∧ clearsOnRead .cad 0x14 = true ∧
    after (.readClear 1 (Page.cad.base + 0x14) 4) (st d) (fun e => e.rd (Page.cad.base + 0x14) == 0 && e.resp.bytes == [5, 0, 0, 0]) = true ∧
    clearsOnRead .cad 0x11C = false ∧ (readSpecial 1 false .cad 0x11C d).isNone = true ∧
    after (.readClear 1 (Page.cad.base + 0x11C) 4) (st d) (fun e => decide (e = { d with resp := e.resp })) = true ∧
    after .fireLogPop (st { up with cad := { (up).cad with fireLog := [7, 8] } }) (fun e => e.resp.bytes == [7, 0, 0, 0] && e.cad.fireLog == [8]) = true := by
  decide +kernel

theorem test_StagedWrite : let d := hostUpDev
    pageOf FLT_BUDGET = some (.flt, FLT_BUDGET % 4096) ∧ (findRow rowsFlt (FLT_BUDGET % 4096)).any (fun e => e.1.acc == .st) = true ∧
    after (.registerWrite 0x10 FLT_BUDGET [9, 0, 0, 0]) (st d) (fun e => e.stagedRd FLT_BUDGET == 9 && e.rd FLT_BUDGET == d.rd FLT_BUDGET && bitOf (e.status .flt) 1) = true ∧
    after (.registerWrite 0x10 FLT_BUDGET [9, 0, 0, 0xFF]) (st d) (fun e => e.rdF (Page.flt.base + 0x10) 7 0 == ErrCode.reserved.code && e.staged == []) = true := by
  decide +kernel

theorem test_PlainWrite : let d := hostUpDev [(DEV_VIOL_INFO, 0)]
    (findRow rowsFlt 0x128).any (fun e => e.1.acc == .rw || e.1.acc == .w1c) = true ∧ (writeSpecial 0x10 .flt 0x128 1 {} d).isNone = true ∧ (valueChecks d .flt 0x128 1).all (fun e => !e.2) = true ∧
    after (.registerWrite 0x10 (Page.flt.base + 0x128) [1, 0, 0, 0]) (st d) (fun e => e.rd (Page.flt.base + 0x128) == 1) = true ∧
    after (.registerWrite 0x10 (Page.dev.base) [1, 0, 0, 0]) (st d) (fun e => e.rdF (Page.dev.base + 0x10) 7 0 == ErrCode.reserved.code) = true ∧
    after (.registerWrite 1 DEV_VIOL_INFO [1]) (st d) (fun e => e.rdF (Page.dev.base + 0x10) 7 0 == ErrCode.align.code) = true := by decide +kernel

theorem test_ApplyPage : let d := { hostUpDev with staged := [(FLT_BUDGET, 9)] }
    pageOf Page.flt.base = some (.flt, 0) ∧ d.mayWrite 0x10 .flt = true ∧ d.isFenced .flt = false ∧ stagedOffs d .flt = [FLT_BUDGET % 4096] ∧ applyFail d .flt = none ∧
    after (.apply 0x10 Page.flt.base 1) (st d) (fun e => e.rd FLT_BUDGET == 9 && e.staged == []) = true ∧
    after (.apply 0x10 Page.flt.base 5) (st hostUpDev) (fun e => e.rd (Page.flt.base + 8) == 4) = true := by decide +kernel

theorem test_PageUpkeep : let d := { up [(Page.cad.base + 0x10, 0x80000001)] with digestBusy := [Page.cad.base] }
    pageOf Page.cad.base = some (.cad, 0) ∧
    after (.digestComplete Page.cad.base) (st d) (fun e => e.rd (Page.cad.base + 0x20) == d.rd (Page.cad.base + 0x20) + 1 && e.digestBusy == []) = true ∧
    same (.digestComplete Page.dev.base) (st d) = true ∧
    after (.errCodeClear 0x40 Page.cad.base) (st d) (fun e => e.rd (Page.cad.base + 0x10) == 0) = true ∧
    (Page.tile 0).dark { up := true } = true ∧ same (.errCodeClear 0x40 (Page.tile 0).base) (st { up := true }) = true := by decide +kernel

def debugDev (r : KV Word := []) : Dev := up ((DBG_STATUS, 1) :: r)

theorem test_DebugAccess :
    (debugDev).mayWrite 2 .dbg = true ∧
    after (.dbgWindowAccess 2 5) (st debugDev) (fun e => e.rd DBG_ACC_CTRL == 5) = true ∧
    (let d := debugDev [(DBG_ACC_CTRL, 1), (DBG_ACC_ADDR, 0)];
      (readSpecial 2 true .dev 0 d).isNone = true ∧ after .dbgWindowDone (st d) (fun e => e.rd DBG_ACC_DATA == d.rd 0 && !bitOf (e.rd DBG_ACC_CTRL) 0) = true) ∧
    after .dbgWindowDone (st (debugDev [(DBG_ACC_CTRL, 1), (DBG_ACC_ADDR, 0x17000)])) (fun e => e.rd DBG_ACC_CTRL == 0xFF00) = true ∧
    same .dbgWindowDone (st debugDev) = true ∧
    after (.dapAccess 0 false none) (st { debugDev with iface := { (debugDev).iface with jtagIr := 0x10 } }) (fun e => e.resp.bytes == leBytes 4 ((debugDev).rd 0).toNat) = true := by
  decide +kernel

theorem test_DebugMemory : let d := debugDev [(DBG_MEM_SITE, 13823), (DBG_MEM_ADDR, spadWords - 1), (TILE_BIND 13823, 0x80000000), (TILE_GROUP 13823, 0x80000000), (DBG_HALTED_HI, 0x1000)]
    d.isFenced (.tile 13823) = false ∧ spadWords - 1 ∉ (d.tile 13823).bad ∧ d.tileSeq 13823 = some 44 ∧ dbgIs d DBG_HALTED_LO 44 = true ∧
    after (.dbgMemAccess 2 (some 7)) (st d) (fun e => (e.tile 13823).rd (spadWords - 1) == 7) = true ∧
    after (.dbgMemAccess 2 none) (st d) (fun e => e.resp.bytes == [0, 0, 0, 0]) = true := by decide +kernel

theorem test_HostMemory : let d := hostUpDev
    failedLine d (bootWindow - 2) 2 = none ∧
    afterMem (.hostMemAccess (bootWindow - 2) 0 (some [1, 2]) false []) (st d) (fun m => m.byteAt (bootWindow - 1) == 2) = true ∧
    after (.hostMemAccess 62 4 none false []) (st d { bytes := [(64, 5)] }) (fun e => e.resp.bytes == [0, 0, 5, 0]) = true ∧
    after (.hostMemAccess bootWindow 0 (some [1, 2]) false []) (st d) (fun e => kvGetD e.boot.window 0 1 == 2) = true ∧
    after (.hostMemAccess bootWindow 2 none false []) (st { d with boot := { d.boot with window := [(1, 2)] } }) (fun e => e.resp.bytes == [0, 2]) = true ∧
    after (.hostMemAccess (memCapacity - 1) 2 none false []) (st d) (fun e => bitOf (e.rd DEV_VIOL_INFO) 31) = true := by decide +kernel

/-! ### Snapshots and the field trace -/

def withSnap (x : Snap) (d : Dev) : Dev := { d with ctl := { d.ctl with snap := some x } }

theorem test_Snapshots : let x : Snap := { id := 3, tick := 0, reached := true }
    (up).mayWrite 1 .snap = true ∧
    after (.snapFire 1 1) (st (up)) (fun d => d.rd SNAP_STATE == 1 && d.ctl.nextSnap == (up).ctl.nextSnap + 1) = true ∧
    after (.snapFire 1 1) (st (up [(SNAP_CTRL, 1)])) (fun d => d.rdF (Page.snap.base + 0x10) 7 0 == ErrCode.state.code) = true ∧
    after (.snapFire 1 1) (st (withSnap x up)) (fun d => d.rdF (Page.snap.base + 0x10) 7 0 == ErrCode.busy.code) = true ∧
    after (.snapLatch Page.cad.base true) (st (withSnap x up)) (fun d => d.rd (Page.cad.base + 0x40) == 3 && d.rd SNAP_LATE_PAGES == 1) = true ∧
    after (.snapLatch (Page.tile 0).base false) (st (withSnap { x with spill := true, fieldDone := [(0, spillPages - 1)] } up))
      (fun d => d.rd (TRACE_SPILL 0) == 0x80000003 && (d.ctl.snap.map (·.spilling)) == some [0]) = true ∧
    after (.snapLatch (Page.tile 0).base false) (st (withSnap x up)) (fun d => (d.ctl.snap.map (·.spilling)) == some []) = true ∧
    same (.snapLatch Page.cad.base true) (st (withSnap { x with reached := false } up)) = true ∧
    same (.snapLatch Page.cad.base true) (st (withSnap { x with done := [Page.cad.base] } up)) = true ∧
    same (.spillComplete 11) (st (withSnap x up)) = true ∧
    ((withSnap { x with spilling := [11] } up).ctl.snap.map fun y => y.spilling.contains 11 && decide (y.done.length < pageCount)) = some true := by decide +kernel

def withTrace (f : Nat) (t : TraceSt) (d : Dev) : Dev := { d with ctl := { d.ctl with trace := [(f, t)] } }

theorem test_FieldTrace : let t : TraceSt := { queue := [[1, 2, 3, 4]], lost := 5 }
    after (.traceEntryWrite 11) (st (withTrace 11 t (up [(TRACE_TR_WR 11, 0x3FFF0)]))) (fun d => kvGetD (d.trace 11).buf 0 0xFFFC == 1 && d.rdF (TRACE_TR_WR 11) 17 0 == 0) = true ∧
    same (.traceEntryWrite 11) (st (withTrace 11 t (up [(TRACE_TR_WR 11, 0x80000000)]))) = true ∧
    after (.traceGap 11) (st (withTrace 11 t up)) (fun d => d.rd (TRACE_LOST_WORDS 11) == 5 && (d.trace 11).lost == 0) = true ∧
    same (.traceGap 11) (st (withTrace 11 { t with lost := 0 } up)) = true ∧
    after (.traceRead 11) (st (up [(TRACE_TR_RD_ADDR 11, 0x3FFFC)])) (fun d => d.rd (TRACE_TR_RD_ADDR 11) == 0) = true ∧
    (up).mayWrite 0x10 (.trace 11) = true ∧
    after (.traceCtrlWrite 11 0x10 1) (st (up [(TRACE_TR_WR 11, 0x80000010)])) (fun d => d.rd (TRACE_TR_WR 11) == 0x10 && d.rd (TRACE_TR_CTRL 11) == 1) = true ∧
    after (.spillRelease 11 0x10 0x80000000) (st (up [(TRACE_SPILL 11, 0x80000007)])) (fun d => d.rd (TRACE_SPILL 11) == 7) = true := by decide +kernel

/-! ### Time, cadence, schedule (10_cadence_time.md) -/

def atTick (n : Nat) (d : Dev) : Dev := { d with time := { d.time with tb := n } }

theorem test_TaiCapturedAndSet : let d := atTick 900000000 (up [(CAD_FRAME, 7), (TIME_SET_CTRL, 0)])
    let ahead := { d with staged := [(TIME_SET_SEC_LO, 5)] }
    after .timeCapture (st d) (fun e => e.rd TIME_CAP_SEC_LO == 1 && e.rd TIME_CAP_FRAME == 7 && e.resp.bytes == leBytes 4 125000000) = true ∧
    d.mayWrite 0x10 .time = true ∧ 1000 ≤ toRollover d ∧
    after (.timeSetGo 0x10 3) (st ahead) (fun e => e.taiNs == 5000000000 && e.staged == []) = true ∧
    after (.timeSetGo 0x10 5) (st ahead) (fun e => e.taiNs == 6125000000 && e.rd TIME_STEP_COUNT == 1) = true ∧
    after (.timeSetGo 0x10 1) (st ahead) (fun e => e.time.taiSet == some { mode := 0, neg := false, sec := 5, ns := 0, wait := 1 }) = true ∧
    same .taiRollover (st (atTick 0 up)) = true ∧
    after .taiRollover (st { d with time := { d.time with taiSet := some { mode := 0, neg := false, sec := 9, ns := 1, wait := 1 } } })
      (fun e => e.taiNs == 9000000001 && e.time.taiSet == none) = true := by decide +kernel

theorem test_ServoAndPins : let d := up [(PINS_EVT_CFG 7, 2), (TIME_SYNC_STATUS, 2)]
    let quiet := atTick 2400000000 d
    sourceMissing quiet = true ∧ after .servoHoldover (st quiet) (fun e => e.rdF TIME_SYNC_STATUS 1 0 == 3) = true ∧ same .servoHoldover (st up) = true ∧
    pinWith up 2 = none ∧ pinWith d 2 = some 7 ∧
    (ppsEdge false 1000 d).rd (PINS_EDGE_COUNT 7) = 1 ∧ ppsEdge true 1000 d = d ∧ ppsEdge false 99 d = d ∧
    (atTick 800000 (up [(TIME_SRC, 2)])).taiNs % 1000000000 = 1000000 ∧ (atTick 799200000 up).taiNs % 1000000000 = 999000000 ∧
    pinWith up 3 = none ∧ pinWith (up [(PINS_EVT_CFG 0, 3)]) 3 = some 0 ∧
    (let e := snapPinEdge false 100 (up [(PINS_EVT_CFG 0, 3)]); e.rd SNAP_STATE = 1 ∧ fld (e.rd SNAP_LAST_PHASE) 19 16 = 3) ∧
    (snapPinEdge false 1000 (up [(PINS_EVT_CFG 0, 3), (SNAP_CTRL, 1)])).rd SNAP_DROPPED = 1 := by decide +kernel

/-- A device in a frame: EXTERNAL source, a state, boundary at tick 0, a period. -/
def inFrame (s p : Nat) (r : KV Word := []) : Dev :=
  let d := up ([(CAD_CTRL, 1 + 4 * 256), (CAD_STATE, w32 s), (PINS_EVT_CFG 0, 1)] ++ r)
  { d with cad := { d.cad with framePeriod := p } }

theorem test_FrameBoundaries :
    pinWith up 1 = none ∧ fsyncEdge true 1000 (inFrame 1 0) = inFrame 1 0 ∧
    (let e := fsyncEdge false 1000 (inFrame 1 0); e.cadState = 2 ∧ e.rd (PINS_EDGE_COUNT 0) = 1) ∧
    inWindow (inFrame 3 1600) 1500 = true ∧ inWindow (inFrame 3 1600) 1499 = false ∧
    (fsyncEdge false 1000 (atTick 1500 (inFrame 3 1600))).cad.cause = some { tick := 1500, fromEdge := true } ∧
    (fsyncEdge false 1000 (atTick 1499 (inFrame 3 1600))).rd CAD_EARLY_COUNT = 1 ∧
    (let d := inFrame 3 1600 [(CAD_LATE_US, 1)];
      after .frameWindowClose (st (atTick 2400 d)) (fun e => e.cadState == 4 && e.rd CAD_MISS_COUNT == 1) = true ∧
      same .frameWindowClose (st (atTick 2399 d)) = true) ∧
    (let d := inFrame 3 1600 [(CAD_CTRL, 2)];
      after .internalBoundary (st (atTick 1599 d)) (fun e => e.cad.cause == some { tick := 1599, fromEdge := false }) = true ∧
      same .internalBoundary (st (atTick 1598 d)) = true) ∧
    (let d := inFrame 3 1600; let c := { d with cad := { d.cad with cause := some { tick := 1599, fromEdge := true } } };
      unreached c = [] ∧ after .frameBoundary (st (atTick 1600 c)) (fun e => e.rd CAD_FRAME == 1 && e.rd (CAD_BOUND_TB 0) == 1600 && e.cad.boundFromEdge) = true ∧
      same .frameBoundary (st (atTick 1599 c)) = true) := by decide +kernel

/-- A device in frame 5 with one schedule entry, its four words as given. -/
def entered (e : Nat) (w1 w2 w3 : Word) (r : KV Word := []) : Dev :=
  inFrame 3 65536 ([(CAD_FRAME, 5), (CAD_SCHED (4 * e), 5), (CAD_SCHED (4 * e + 1), w1), (CAD_SCHED (4 * e + 2), w2), (CAD_SCHED (4 * e + 3), w3)] ++ r)

def issuedAt (e t : Nat) (d : Dev) : Dev := { d with cad := { d.cad with issued := [(e, { tick := t })] } }

theorem test_ScheduleTable :
    (let d := inFrame 3 65536 [(CAD_SCHED_W 0, 5), (CAD_SCHED_W 1, 0x40010)];
      d.mayWrite 0x10 .cad = true ∧ firstFail (addChecks d (schedWords d)) = none ∧
      after (.schedAdd 0x10) (st d) (fun e => schedValid e 0 && e.rd CAD_SCHED_RESULT == 0x80000000) = true) ∧
    (let d := inFrame 3 65536 [(CAD_SCHED_W 1, 0x70000)];
      firstFail (addChecks d (schedWords d)) = some .reserved ∧ after (.schedAdd 0x10) (st d) (fun e => e.rdF (Page.cad.base + 0x10) 7 0 == ErrCode.reserved.code) = true) ∧
    (let d := entered 63 0x80040010 0 0x40000000;
      schedValid d 63 = true ∧ entryOwner d 63 = 0x40 ∧ after (.schedDelete 0x10 63) (st d) (fun e => !schedValid e 63) = true ∧
      after (.schedDelete 0x10 63) (st (issuedAt 63 16 d)) (fun e => e.cad.delAfter == [63]) = true ∧
      frameRuns d = true ∧ entryFrame d 63 = d.frame ∧ entryLead (entryType d 63) = 0 ∧
      after (.schedIssue 63) (st d) (fun e => kvGet? e.cad.issued 63 == some { tick := 16 }) = true) ∧
    (let d := entered 0 0x80051000 0 0;
      after (.schedIssue 0) (st (atTick 2496 d)) (fun e => (e.ctl.snap.map (·.tick)) == some 4096 && fld (e.rd SNAP_LAST_PHASE) 19 16 == 2) = true) := by decide +kernel

theorem test_ScheduleFires :
    (let d := atTick 16 (issuedAt 63 16 (entered 63 0x80060010 0x300007 0));
      fireDue d 63 = true ∧ after (.powerHintEntry 63) (st d) (fun e => !schedValid e 63 && e.pwr.hints == [{ src := 127, level := 7, span := 0x3000, ends := 16 + usTicks 0x3000 }] && e.cad.fireLog == [0x8005063F]) = true) ∧
    (let d := atTick 16 (issuedAt 0 16 (entered 0 0x80010010 3 0)); fireDue d 0 = true ∧ after (.freqEntry 0) (st d) (fun e => !schedValid e 0) = true) ∧
    (let d := atTick 16 (issuedAt 0 16 (entered 0 0x80050010 0 0)); fireDue d 0 = true ∧ after (.snapshotEntry 0) (st d) (fun e => !schedValid e 0) = true) ∧
    (let d := atTick 16 (issuedAt 0 16 (entered 0 0x80020010 8 0));
      pageOf (4096 * 8) = some (.cad, 0) ∧ d.isFenced .cad = false ∧ stagedOffs d .cad = [] ∧ after (.configApplyEntry 0) (st d) (fun e => e.cad.fireLog == [0x80050200]) = true ∧
      after (.configApplyEntry 0) (st { d with fenced := [Page.cad.base] }) (fun e => e.cad.fireLog == [0x80052200]) = true) ∧
    (let d := atTick 16 (issuedAt 0 16 (entered 0 0x80040010 0 0)); fireDue d 0 = true ∧ after (.schedStreamRelease 0) (st d) (fun e => !schedValid e 0) = true) ∧
    (let d := atTick 16 (issuedAt 0 16 (entered 0 0x80030010 1 0x8000 [(SEQ_BANK_CFG_B 0, 0x10000), (SEQ_BANK_CFG_B 47, 0x10000)]));
      firstFail (swapChecks d 47) = none ∧ after (.bankSwapEntry 0) (st d) (fun e => activeBank e 0 == 1 && activeBank e 47 == 1 && activeBank e 1 == 0) = true ∧
      after (.bankSwapEntry 0) (st { d with fab := { d.fab with cmds := [(0, { words := [] })] } }) (fun e => e.strm.swaps.length == 1) = true) ∧
    same (.freqEntry 63) (st up) = true := by decide +kernel

/-! ### Sequencers (06_sequencers_isa.md) -/

/-- An instruction of an opcode with low bits. -/
def ins (op : Nat) (lo : Nat := 0) : Instruct := { cmd := { words := [] }, entry := 3, bits := op * 2 ^ 56 + lo }

/-- A device with one sequencer. -/
def withSeq (q : Nat) (x : Sequencer) (r : KV Word := []) : Dev := { up r with seqs := [(q, x)] }

/-- Sequencer 47 has fetched an instruction. -/
def fetched (op lo : Nat) (r : KV Word := []) (x : Sequencer := {}) : State := st (withSeq 47 { x with fetched := some (ins op lo) } r)

theorem test_SequencerInstructions :
    after (.nop 47) (fetched 0 0) (fun d => (d.seq 47).fetched == none) = true ∧
    after (.endCommand 47) (fetched 1 0 [(SEQ_SEQ_STATE 47, 2)]) (fun d => d.seqSt 47 == 1) = true ∧
    after (.endCommand 47) (fetched 1 0 [(SEQ_SEQ_STATE 47, 3)]) (fun d => d.seqSt 47 == 3 && (d.seq 47).resumeTo == 1) = true ∧
    after (.jmp 47) (fetched 2 8191) (fun d => (d.seq 47).pc == 8191) = true ∧
    after (.loop 47) (fetched 3 (7 * 2 ^ 29 + 5) [(SEQ_LC 47 7, 1)]) (fun d => (d.seq 47).pc == 0) = true ∧
    after (.loop 47) (fetched 3 5) (fun d => (d.seq 47).pc == 5 && d.rd (SEQ_LC 47 0) == 0xFFFF) = true ∧
    after (.lcset 47) (fetched 4 (7 * 2 ^ 29 + 9)) (fun d => d.rd (SEQ_LC 47 7) == 9) = true ∧
    after (.atomBegin 47) (fetched 5 0) (fun d => d.inAtom 47) = true ∧
    after (.atomEnd 47) (fetched 6 0 [(SEQ_SEQ_STATE 47, 0x102)]) (fun d => !d.inAtom 47) = true ∧
    after (.sync 47) (fetched 7 0) (fun d => (d.seq 47).syncWait) = true ∧
    after (.brb 47) (fetched 10 77 [] { lastBroken := true }) (fun d => (d.seq 47).pc == 77) = true ∧
    after (.hint 47) (fetched 11 0x97) (fun d => d.pwr.hints == [{ src := 47, level := 7, span := 9 }]) = true ∧
    same (.nop 47) (fetched 1 0) = true ∧ same (.hint 0) (st up) = true := by decide +kernel

theorem test_SequencerLocks :
    after (.lkacq 47) (fetched 8 255) (fun d => d.rd (LOCK_LOCK 255) == 0x806F0001 && (d.seq 47).locks == [(255, 1)]) = true ∧
    after (.lkacq 47) (fetched 8 255 [(LOCK_LOCK 255, 0x80010001)]) (fun d => (d.seq 47).lockWait == some 255) = true ∧
    after (.lkrel 47) (fetched 9 255 [(LOCK_LOCK 255, 0x806F0001)] { locks := [(255, 1)] }) (fun d => d.rd (LOCK_LOCK 255) == 0x006F0001 && (d.seq 47).locks == []) = true ∧
    after (.lkrel 47) (fetched 9 255 [(LOCK_LOCK 255, 0x406F0001)] { locks := [(255, 1)] }) (fun d => bitOf (d.rd (SEQ_FLAGS 47)) 4) = true := by decide +kernel

def aCmd : Cmd := { words := [7, 0, 0x50000], seq := 47, serial := 1 }

theorem test_SequencerCommands :
    (let d := withSeq 47 { queue := List.replicate 15 aCmd } [(SEQ_SEQ_STATE 47, 1)];
      after (.seqCommandEnqueue 47) (st { d with fab := { d.fab with cmds := [(47, aCmd)] } }) (fun e => (e.seq 47).queue.length == 16)) = true ∧
    (let d := withSeq 47 { queue := List.replicate 16 aCmd } [(SEQ_SEQ_STATE 47, 1)]; same (.seqCommandEnqueue 47) (st { d with fab := { d.fab with cmds := [(47, aCmd)] } })) = true ∧
    (let d := withSeq 47 { queue := [aCmd] } [(SEQ_SEQ_STATE 47, 1), (SEQ_BANK_CFG_A 47, 0x60000)];
      breakApplies d 47 aCmd = false ∧ aCmd.entry < bankLen d 47 0 ∧
      after (.seqCommandStart 47) (st d) (fun e => e.seqSt 47 == 2 && (e.seq 47).pc == 5 && e.rd (SEQ_CUR_CMD 47 0) == 7)) ∧
    (let d := withSeq 47 { queue := [aCmd] } [(SEQ_SEQ_STATE 47, 1), (SEQ_BRK_CTRL 47, 2), (SEQ_BRK_TAG 47, 0xFFFF0007)];
      breakApplies d 47 aCmd = true ∧ after (.seqCommandStart 47) (st d) (fun e => e.seqSt 47 == 4 && bitOf (e.rd (SEQ_FLAGS 47)) 2)) ∧
    same (.seqCommandStart 47) (st up) = true ∧
    after (.seqCommandComplete 47) (st (withSeq 47 { inflight := [aCmd] })) (fun e => (e.seq 47).inflight == []) = true := by decide +kernel

/-- Sequencer 47 runs a command; one entry of its bank A holds an instruction. -/
def running (op : Nat) (len : Nat) : Dev :=
  withSeq 47 { cur := some aCmd, inflight := [aCmd], imem := [(1, w32 (op * 2 ^ 24))] } [(SEQ_SEQ_STATE 47, 2), (SEQ_BANK_CFG_A 47, w32 (len * 65536))]

theorem test_IssueAndFaults :
    after (.seqIssue 47 0) (st (running 1 0)) (fun d => d.seqSt 47 == 5 && (d.seq 47).fault.map (·.cause) == some 5) = true ∧
    after (.seqIssue 47 2) (st (running 1 1)) (fun d => (d.seq 47).fault.map (·.cause) == some 6) = true ∧
    after (.seqIssue 47 0) (st (running 0xFF 1)) (fun d => (d.seq 47).fault.map (·.cause) == some 1) = true ∧
    after (.seqIssue 47 1) (st (running 1 1)) (fun d => (d.seq 47).fetched.map (·.opcode) == some 1 && d.rd (FIELD_IMEM_CE_COUNT 11) == 1) = true ∧
    after (.seqIssue 47 0) (st (running 0x17 1)) (fun d => (d.seq 47).tree.length == 1 && (d.seq 47).pc == 1) = true ∧
    (let d := withSeq 47 { cur := some aCmd, hold := [13823], imem := [(1, 0x17000000)] } [(SEQ_SEQ_STATE 47, 2), (SEQ_BANK_CFG_A 47, 0x10000), (TILE_BIND 13823, 0x80000000), (TILE_GROUP 13823, 0x80000300)];
      held d 47 = true ∧ same (.seqIssue 47 0) (st d) = true) ∧
    (let d := running 1 1; after (.tileFaultReport 47) (st { d with fab := { d.fab with reports := [(47, 0, 2, 3, aCmd)] } })
      (fun e => e.seqSt 47 == 5 && (e.seq 47).fault.map (·.tiles) == some 1)) = true ∧
    (let d := withSeq 47 { fault := some { cause := 8, entry := 3, bank := 0, cmd := aCmd }, inflight := [aCmd] } [(SEQ_SEQ_STATE 47, 5), (LOCK_LOCK 255, 0x806F0001)];
      cmdHeld d 47 (fun c => c.sameBeat aCmd) = false ∧
      after (.seqAbortEnd 47) (st d) (fun e => e.seqSt 47 == 1 && e.rdF (SEQ_FAULT_INFO 47) 7 0 == 8 && e.rd (LOCK_LOCK 255) == 0x406F0001)) := by decide +kernel

theorem test_HaltsAndWaits :
    (let d := debugDev [(SEQ_SEQ_STATE 47, 1)]; after (.haltRequest 2 true 0x8000) (st d) (fun e => e.seqSt 47 == 3)) = true ∧
    (let d := debugDev [(SEQ_SEQ_STATE 31, 0x102)]; after (.haltRequest 2 false 0x80000000) (st d) (fun e => dbgIs e DBG_DEFER_LO 31)) = true ∧
    same (.haltRequest 2 true 0) (st debugDev) = true ∧
    after (.haltRequest 2 true 0x8000) (st debugDev) (fun e => e.rd DBG_HALT_REQ_HI == 0x8000 && e.seqSt 47 == 0) = true ∧
    (let d := debugDev [(SEQ_SEQ_STATE 32, 0x14)]; after (.resumeRequest 2 true 1) (st d) (fun e => e.seqSt 32 == 1)) = true ∧
    same (.resumeRequest 2 true 0) (st debugDev) = true ∧ after (.resumeRequest 2 true 1) (st debugDev) (fun e => e.rd DBG_RESUME_HI == 1) = true ∧
    after (.seqHalted 47) (st (up [(SEQ_SEQ_STATE 47, 0x13)])) (fun e => e.seqSt 47 == 4 && dbgIs e DBG_HALTED_LO 47) = true ∧
    same (.seqHalted 47) (st up) = true ∧
    after (.deferredHalt 47) (st (up [(SEQ_SEQ_STATE 47, 2), (DBG_DEFER_HI, 0x8000)])) (fun e => e.seqSt 47 == 3 && !dbgIs e DBG_DEFER_LO 47) = true ∧
    same (.deferredHalt 0) (st up) = true ∧ same (.forcedHalt 0) (st up) = true ∧
    after (.forcedHalt 47) (st (up [(SEQ_SEQ_STATE 47, 0x102), (DBG_DEFER_HI, 0x8000)])) (fun e => e.seqSt 47 == 3 && e.rdF (SEQ_FLAGS 47) 3 1 == 5) = true ∧
    after (.syncResume 47) (st (withSeq 47 { syncWait := true })) (fun e => !(e.seq 47).syncWait) = true ∧ same (.syncResume 47) (st up) = true ∧
    (let d := withSeq 47 { lockWait := some 255, cur := some aCmd, fetched := some (ins 8 255) } [(SEQ_SEQ_STATE 47, 2)];
      after (.lockRetry 47) (st d) (fun e => (e.seq 47).locks == [(255, 1)]) = true ∧
      after (.lockTimeout 47) (st d) (fun e => (e.seq 47).fault.map (·.cause) == some 8) = true) ∧
    after (.lockRetry 47) (st (withSeq 47 { lockWait := some 255 } [(LOCK_LOCK 255, 0x80010001)])) (fun e => (e.seq 47).lockWait == some 255) = true ∧
    same (.lockRetry 0) (st up) = true ∧ same (.lockTimeout 0) (st up) = true := by decide +kernel

theorem test_InstructionBanks :
    (let d := up [(SEQ_IMEM_ADDR 47, 0x8001FFF1)];
      d.mayWrite 0x10 (.seq 47) = true ∧ imemBank d 47 = 1 ∧ imemRange d 47 = false ∧
      after (.imemAccess 47 0x10 (some 9)) (st d) (fun e => kvGetD (e.seq 47).imem 0 32767 == 9) = true ∧
      after (.imemAccess 47 0x10 none) (st d) (fun e => e.resp.bytes == [0, 0, 0, 0]) = true) ∧
    after (.imemAccess 47 0x10 (some 9)) (st up) (fun e => e.rdF ((Page.seq 47).base + 0x10) 7 0 == ErrCode.activeBank.code) = true ∧
    after (.imemDmaGo 47 0x10 0x20000003) (st up) (fun e => (e.seq 47).copy == some { bank := 1, dcw := false, entries := 8192, src := 0 }) = true ∧
    (let d := withSeq 47 { copy := some { bank := 1, dcw := false, entries := 1, src := 64 } };
      after (.imemDmaDone 47 false) (st d { bytes := [(68, 5)] }) (fun e => kvGetD (e.seq 47).imem 0 16385 == 5 && bankLen e 47 1 == 1) = true ∧
      after (.imemDmaDone 47 true) (st d) (fun e => bitOf (e.rd (SEQ_FLAGS 47)) 5) = true ∧
      after (.imemDmaDone 47 false) (st d { poison := [1] }) (fun e => bitOf (e.rd (SEQ_FLAGS 47)) 5) = true) ∧
    (let r := [(SEQ_BANK_CFG_B 47, (0x10000 : Word))];
      firstFail (swapChecks (up r) 47) = none ∧ after (.bankSwapRequest 47 0x10 2) (st (up r)) (fun e => activeBank e 47 == 1) = true ∧
      after (.bankSwapRequest 47 0x10 2) (st (withSeq 47 { cur := some aCmd } r)) (fun e => swapPending e 47 && activeBank e 47 == 0) = true) ∧
    after (.bankSwapPendingApply 47) (st (up [(SEQ_BANK_CTRL 47, 4)])) (fun e => activeBank e 47 == 1) = true ∧
    same (.bankSwapPendingApply 47) (st up) = true := by decide +kernel

/-! ### Tiles (03_tile.md, 06_sequencers_isa.md) -/

/-- A device with the tile at the last site, bound to ID 5 and following sequencer 47. -/
def tiled (t : Tile) (r : KV Word := []) : Dev :=
  { up ([(TILE_BIND 13823, 0x80000005), (TILE_GROUP 13823, 0x80000300)] ++ r) with tiles := [(13823, t)] }

/-- The instruction in progress has read the registers, and what its start reads of the scratchpad, as they stand. -/
def started (d : Dev) : Dev := d.modTile 13823 fun t => { t with eng := t.eng.map fun e => (e.1, { e.2 with run := e.2.run.map fun r =>
  { r with scalars := t.scalars, vectors := t.vectors, preds := t.preds, block := startBlock t r.q.ins r.popped } }) }

/-- Its engine runs an instruction. -/
def runs (op : Nat) (lo : Nat := 0) (ags : List Nat := []) (popped : List TokDesc := []) : Running :=
  { q := { ins := ins op lo, ags }, popped, off := false, guard := 1 }

def works (e op : Nat) (lo : Nat := 0) (t : Tile := {}) (r : KV Word := []) (ags : List Nat := []) (popped : List TokDesc := []) : Dev :=
  started (tiled { t with eng := [(e, { run := some (runs op lo ags popped) })] } r)

/-- The work of the instruction is done. -/
def done (e : Nat) (d : Dev) : Bool := (((d.tile 13823).engine e).run.map (·.finished)) == some true

theorem test_Works : Works (works 0 0x10) 13823 0 0x10 (runs 0x10) ∧ Works (works 1 0x20) 13823 1 0x20 (runs 0x20) ∧
    Works (works 2 0x30) 13823 2 0x30 { runs 0x30 with block := [List.replicate 12 0] } ∧ Works (works 3 0x40) 13823 3 0x40 (runs 0x40) ∧ Works (works 4 0x50) 13823 4 0x50 (runs 0x50) := by
  unfold Works Clocked; decide +kernel

theorem test_TilePipeline :
    same (.broadcastArrival 47) (st up) = true ∧
    (let d := { tiled {} with seqs := [(47, { tree := [ins 0x10] })] };
      (subscribed d 47).Nodup ∧ after (.broadcastArrival 47) (st d) (fun e => (e.tile 13823).input.length == 1 && (e.seq 47).tree == []) = true) ∧
    (let d := { tiled {} with seqs := [(47, { tree := [{ ins 0 with dcw := true }] })] };
      after (.broadcastArrival 47) (st d) (fun e => (e.seq 47).dcwNow.isSome) = true ∧
      same (.broadcastArrival 47) (st { d with seqs := [(47, { tree := [{ ins 0 with dcw := true }], dcwNow := some (ins 0) })] }) = true) ∧
    same (.holdSignal 13823) (st up) = true ∧
    after (.holdSignal 13823) (st (tiled { input := List.replicate 8 (ins 0x10) })) (fun e => (e.seq 47).hold == [13823]) = true ∧
    after (.holdSignal 13823) (st (tiled { input := List.replicate 7 (ins 0x10) })) (fun e => (e.seq 47).hold == []) = true ∧
    same (.tileDispatch 13823) (st (tiled { input := [ins 0x10], eng := [(0, { queue := List.replicate 16 { ins := ins 0x10 } })] })) = true ∧
    after (.tileDispatch 13823) (st (tiled { input := [ins 0x17 5] })) (fun e => ((e.tile 13823).engine 0).queue.length == 1 && ((e.tile 13823).ag 0).addr == 5) = true ∧
    after (.tileDispatch 13823) (st (tiled { input := [ins 0x10], eng := [(0, { stopped := true })] })) (fun e => e.fab.reports.map (·.2.2.1) == [0x14]) = true := by
  decide +kernel

theorem test_EngineStartsAndEnds :
    (let d := tiled { eng := [(0, { queue := [{ ins := ins 0x10 }] })] };
      tokensReady d 13823 (ins 0x10) = true ∧ resourcesReady d 13823 (ins 0x10) = true ∧ startCause d 13823 (ins 0x10) false [] = 0 ∧
      after (.engineStart 13823 0 []) (st d) (fun e => ((e.tile 13823).engine 0).run.isSome) = true ∧
      after (.tokenTimeout 13823 0) (st d) (fun e => ((e.tile 13823).engine 0).stopped && bitOf (e.rd (TILE_FLAGS 13823)) 4) = true) ∧
    (let i := ins 0x10 (2 ^ 36); let d := tiled { eng := [(0, { queue := [{ ins := i }] })] } [(tokCfgA 13823 0, 1)];
      tokensReady d 13823 i = false ∧ same (.engineStart 13823 0 []) (st d) = true) ∧
    (let i := ins 0x50; let d := tiled { eng := [(4, { queue := [{ ins := i }] })] };
      tokensReady d 13823 i = true ∧ resourcesReady d 13823 i = false ∧ same (.engineStart 13823 4 []) (st d) = true) ∧
    (let i := ins 0x19 (0x50 * 4); let d := tiled { scalars := [(0, 3)], eng := [(0, { queue := [{ ins := { i with bits := i.bits + 1 * 2 ^ 22 } }] })] };
      startCause (tiled { scalars := [(1, 3)] }) 13823 { i with bits := i.bits + 2 ^ 22 } false [] = 0x12 ∧ tokensReady d 13823 i = true) ∧
    same (.engineComplete 13823 0) (st (works 0 0x10)) = true ∧
    after (.engineComplete 13823 0) (st (tiled { eng := [(0, { run := some { runs 0x10 with finished := true } })] })) (fun e => ((e.tile 13823).engine 0).run == none) = true ∧
    (tiled {}).mayWrite 0x10 (.tile 13823) = true ∧ after (.srSeedWrite 13823 0x10 7) (st (tiled {})) (fun e => (e.tile 13823).seed == 7 * 2 ^ 32) = true ∧
    after (.srSeedWrite 13823 0x10 7) (st (works 0 0x10)) (fun e => e.rdF ((Page.tile 13823).base + 0x10) 7 0 == ErrCode.state.code) = true := by
  decide +kernel

theorem test_ControlEngine :
    after (.sli 13823) (st (works 0 0x10 (27 * 2 ^ 27 + 0x3FFFFF))) (fun d => kvGetD (d.tile 13823).scalars 0 27 == 2 ^ 64 - 1 && done 0 d) = true ∧
    after (.sli 13823) (st (works 0 0x10 (28 * 2 ^ 27 + 5))) (fun d => (d.tile 13823).scalars == [] && done 0 d) = true ∧
    after (.slih 13823) (st (works 0 0x11 (2 ^ 27 + 1) { scalars := [(1, 5)] })) (fun d => kvGetD (d.tile 13823).scalars 0 1 == 2 ^ 42 + 5) = true ∧
    after (.salu 13823) (st (works 0 0x12 (2 ^ 27 + 2 ^ 22 + 2 * 2 ^ 17 + 1) { scalars := [(1, 5), (2, 6)] })) (fun d => kvGetD (d.tile 13823).scalars 0 1 == 2 ^ 64 - 1) = true ∧
    after (.saddi 13823) (st (works 0 0x13 (2 ^ 27 + 2 ^ 22 + 0x3FFFFF) { scalars := [(1, 5)] })) (fun d => kvGetD (d.tile 13823).scalars 0 1 == 4) = true ∧
    after (.sys 13823) (st (works 0 0x16 (2 ^ 27))) (fun d => kvGetD (d.tile 13823).scalars 0 1 == 5) = true ∧
    after (.pcmp 13823) (st (works 0 0x14 (2 ^ 29))) (fun d => predicate (d.tile 13823) 1 == 2 ^ 64 - 1) = true ∧
    after (.plog 13823) (st (works 0 0x15 (7 * 2 ^ 29 + 4))) (fun d => predicate (d.tile 13823) 7 == 0) = true ∧
    after (.agseti 13823) (st (works 0 0x17 5)) (done 0) = true ∧
    after (.agset 13823) (st (works 0 0x18 (15 * 2 ^ 28 + 2 ^ 17) { scalars := [(1, 9)] })) (fun d => ((d.tile 13823).ag 15).addr == 9) = true ∧
    after (.tcfg 13823) (st (works 0 0x19 (0x5F * 4))) (fun d => done 0 d) = true := by decide +kernel

/-- The binding that makes the mesh open to ID 5, and a neighbour window to the south-west of it. -/
def meshed (d : Dev) : Dev := { d with fab := { d.fab with bindBoot := [(5, bindWord 13823 0 true)] } }

theorem test_GrantRelease :
    after (.grant 13823) (st (works 0 0x1A)) (fun d => ((d.tile 13823).engine 0).run == none) = true ∧
    (let d := meshed (works 0 0x1A 0 {} [(TILE_NBR 13823 0, 0x80000005), (TILE_WIN_CFG 13823 0, 0x80000000)]);
      nbrValid d 13823 0 = true ∧ MeshOpen d 13823 5 0 ∧ winChunks d 13823 0 = 1 ∧
      after (.grant 13823) (st d) (fun e => winGranted e 13823 0 == 1 && e.fab.net.length == 1 && done 0 e) = true) ∧
    (let d := meshed (works 0 0x1B 0 { slots := [(0, [(5, 0, 3)])] } [(TILE_RQ_PTR 13823 0, 0x10000)]);
      after (.release 13823) (st d) (fun e => rqOcc e 13823 0 == 0 && e.fab.net.length == 1 && done 0 e) = true) := by
  unfold MeshOpen; decide +kernel

theorem test_DataMovers :
    after (.copy 13823) (st (works 1 0x20 (2 ^ 16) { spad := [(spadWords - 4, 9)], scalars := [(1, 1)] } [] [0, spadWords - 4])) (fun d => (d.tile 13823).rd 0 == 9 && done 1 d) = true ∧
    after (.copy 13823) (st (works 1 0x20 (2 ^ 16) { scalars := [(1, 1)] } [] [0, spadWords])) (fun d => ((d.tile 13823).engine 1).stopped && bitOf (d.rd (TILE_FLAGS 13823)) 3) = true ∧
    after (.nld 13823) (st (works 1 0x21)) (fun d => ((d.tile 13823).engine 1).run == none) = true ∧
    (let r := [(TILE_NBR 13823 0, (0x80000005 : Word))];
      after (.nld 13823) (st (works 1 0x21 0 {} r)) (done 1) = true ∧
      after (.nld 13823) (st (meshed (works 1 0x21 (2 ^ 15) { scalars := [(1, 1)] } r [0]))) (fun d => d.fab.net.length == 1 && !done 1 d) = true) ∧
    after (.send 13823) (st (meshed (works 4 0x50 (2 ^ 15) { scalars := [(1, 2)] } [(TILE_SCRED_DEST 13823 0, 5), (TILE_SCRED_STATE 13823 0, 0x80000001)] [0])))
      (fun d => credits d 13823 0 == 0 && d.fab.net.length == 1 && done 4 d) = true ∧
    after (.nst 13823) (st (works 4 0x51)) (fun d => ((d.tile 13823).engine 4).run == none) = true ∧
    after (.nst 13823) (st (meshed (works 4 0x51 0 {} [(TILE_NBR 13823 0, 0x80000005), (TILE_OUTWIN_STATE 13823 0, 0x80000001)] [0])))
      (fun d => outCredits d 13823 0 == 0 && d.fab.net.length == 9 && done 4 d) = true ∧
    (let d := meshed (works 4 0x52 (2 ^ 15) { scalars := [(1, 2)] } [] [0]); let d := { d with fab := { d.fab with red := [(4 * 256 * 13823, 1)] } };
      bitOf (redEntry d 13823 0 0) 0 = true ∧ after (.redc 13823) (st d) (fun e => e.fab.net.length == 1 && done 4 e) = true) ∧
    (let d := meshed (works 4 0x53 0 {} [(tokCfgA 13823 0, 0x51)]); ereqBad d 13823 0 [0, 0, 0, 0] = false ∧ d.chanMode = 0 ∧
      after (.ereq 13823) (st d) (fun e => e.fab.net.length == 1 && (e.tile 13823).requests.length == 1 && done 4 e) = true) := by decide +kernel

/-! ### Scratchpad, neighbour service, collectives, routers, seams (03_tile.md, 07_fabric.md) -/

theorem test_ScratchpadEcc :
    after (.spadEccWriteback 13823) (st (tiled {})) (fun d => d.rd (TILE_ECC_CE_COUNT 13823) == 1 && d.flt.pendingRecords.length == 1) = true ∧
    after (.spadEccWriteback 13823) (st (tiled { ceMs := some 0 })) (fun d => (d.tile 13823).ceSince == 1 && d.flt.pendingRecords == []) = true ∧
    same (.scrubStep 13823 48 true none) (st (tiled {} [(TILE_SCRUB_CTRL 13823, 1)])) = true ∧
    same (.scrubForced 13823 47 true none) (st (tiled {} [(TILE_SCRUB_CTRL 13823, 0)])) = true ∧
    after (.scrubStep 13823 47 false none) (st (tiled { scrubRow := [(47, 8191)] } [(TILE_SCRUB_CTRL 13823, 1)])) (fun d => kvGetD (d.tile 13823).scrubRow 0 47 == 0) = true ∧
    after (.scrubForced 13823 0 true none) (st (tiled {} [(TILE_SCRUB_CTRL 13823, 1)])) (fun d => d.rd (TILE_ECC_CE_COUNT 13823) == 1) = true ∧
    (tiled {} [(TILE_SCRUB_CTRL 13823, 1)]).powered (.tile 13823) = true ∧ 4095 < bankRows 15 ∧ 8191 < bankRows 47 := by decide +kernel

/-- A packet of a type has landed at the tile. -/
def landed (typ : Nat) (p : Packet) (d : Dev) : State := st { meshed d with fab := { (meshed d).fab with landed := [(13823, { p with typ, dest := 5 })] } }

def pkt : Packet := { vc := 2, typ := 0, dest := 5 }

theorem test_NeighbourService :
    same (.bindingUpdate 13823) (st up) = true ∧
    after (.bindingUpdate 13823) (st { up [(TILE_WIN_STATE 13823 3, 7)] with fab := { (up).fab with updates := [(13823, 0x1CC, 0x80000001)] } })
      (fun d => d.rd (TILE_NBR 13823 3) == 0x80000001 && d.rd (TILE_WIN_STATE 13823 3) == 0) = true ∧
    same (.nbrGrant 13823) (st up) = true ∧ same (.nbrWr 13823) (st up) = true ∧ same (.nbrDone 13823) (st up) = true ∧ same (.nbrRefuse 13823) (st up) = true ∧
    same (.nbrRd 13823) (st up) = true ∧ same (.nbrResp 13823) (st up) = true ∧
    after (.nbrGrant 13823) (landed 5 pkt (tiled {} [(TILE_BIND 13823, 0x80010005)])) (fun d => d.rd (TILE_STALE_DROP_COUNT 13823) == 1 && bitOf (d.rd (TILE_FLAGS 13823)) 6) = true ∧
    after (.nbrGrant 13823) (landed 5 { pkt with par := [64, 3, 2] } (tiled {})) (fun d => d.rd (TILE_OUTWIN_STATE 13823 2) == 0x80000002 && d.rd (TILE_OUTWIN_BASE 13823 2) == 0x3000040) = true ∧
    (let r := [(TILE_WIN_CFG 13823 2, (0x80000000 : Word)), (TILE_WIN_STATE 13823 2, 1), (tokCfgA 13823 0, 0x10001)];
      wordsGranted (tiled {} r) 13823 2 63 1 = true ∧
      after (.nbrWr 13823) (landed 4 { pkt with addr := 63, data := [9] } (tiled {} r)) (fun d => (d.tile 13823).rd 63 == 9) = true ∧
      wordsGranted (tiled {} r) 13823 2 64 1 = false ∧ nbrValid (tiled {} [(TILE_NBR 13823 2, 0x80000005)]) 13823 2 = true ∧
      after (.nbrWr 13823) (landed 4 { pkt with addr := 64, data := [9] } (tiled {} ((TILE_NBR 13823 2, 0x80000005) :: r)))
        (fun d => d.rd (TILE_WIN_DROP_COUNT 13823) == 1 && d.fab.net.length == 1) = true ∧
      after (.nbrDone 13823) (landed 6 { pkt with par := [0, 1] } (tiled {} r)) (fun d => winGranted d 13823 2 == 0 && tokOcc d 13823 0 == 1) = true ∧
      after (.nbrDone 13823) (landed 6 { pkt with par := [0, 1] } (tiled { rsvd := [(0, 1)] } r)) (fun d => d.rd (TILE_RQ_DROP_COUNT 13823) == 1) = true) ∧
    after (.nbrRefuse 13823) (landed 7 pkt (works 4 0x51 (2 * 2 ^ 30))) (fun d => ((d.tile 13823).engine 4).run == none) = true ∧
    after (.nbrRefuse 13823) (landed 7 pkt (works 4 0x51)) (fun d => ((d.tile 13823).engine 4).run.isSome && d.fab.landed == []) = true ∧
    after (.nbrRd 13823) (landed 2 { pkt with par := [129, 0] } (tiled {} [(TILE_NBR 13823 2, 0x80000005)])) (fun d => d.fab.net.map (fun f => f.pkt.data.length) == [512, 4]) = true ∧
    after (.nbrResp 13823) (landed 3 { pkt with data := [9] } (tiled { eng := [(1, { run := some { runs 0x21 with left := 1 } })] })) (fun d => (d.tile 13823).rd 0 == 9 && done 1 d) = true ∧
    after (.nbrTimeout 13823) (st (tiled { eng := [(1, { run := some { runs 0x21 with left := 1 } })] })) (fun d => bitOf (d.rd (TILE_FLAGS 13823)) 8) = true ∧
    same (.nbrTimeout 13823) (st (tiled {})) = true := by decide +kernel

/-- A packet is on its way into the router of the last site. -/
def flying (typ port : Nat) (p : Packet) (d : Dev) : State := st { d with fab := { d.fab with net := [{ pkt := { p with typ }, site := 13823, port }] } }

theorem test_Messages :
    (let r := [(TILE_RQ_CFG 13823 7, (0x80000000 : Word)), (tokCfgA 13823 0, 0x10001)];
      after (.msgArrival 13823) (landed 0 { pkt with aux := 7, data := [1, 2], src := 6 } (tiled {} r))
        (fun d => rqOcc d 13823 7 == 1 && (d.tile 13823).rd 1 == 2 && tokOcc d 13823 0 == 1 && (d.tile 13823).slots == [(7, [(6, 0, 0)])]) = true ∧
      after (.msgArrival 13823) (landed 0 { pkt with aux := 7, data := List.replicate 9 1 } (tiled {} r)) (fun d => d.rd (TILE_RQ_DROP_COUNT 13823) == 1) = true) ∧
    after (.creditArrival 13823) (landed 1 { pkt with aux := 15 } (tiled {} [(TILE_SCRED_STATE 13823 15, 0x80000100)])) (fun d => credits d 13823 15 == 256) = true ∧
    after (.creditArrival 13823) (landed 1 pkt (tiled {})) (fun d => d.rd (TILE_STALE_DROP_COUNT 13823) == 1) = true := by decide +kernel

theorem test_CollectiveArrivals :
    (let d := tiled {} [(tokCfgA 13823 0, 0x10001)]; let tree := fun (e : Word) => { d with fab := { d.fab with bc := [(2 * (64 * 13823 + 63), e)] } };
      bcEntry (tree 0x15) 13823 63 0 = 0x15 ∧
      after (.bcastArrival 13823 1) (flying 9 1 { pkt with dest := 63, data := [9] } (tree 0)) (fun e => e.fab.net == [] && e.flt.pendingRecords.length == 1) = true ∧
      after (.bcastArrival 13823 1) (flying 9 1 { pkt with dest := 63, data := [9] } (tree 0x103)) (fun e => e.fab.net.map (·.site) == [13822]) = true ∧
      after (.bcastArrival 13823 1) (flying 9 1 { pkt with dest := 63, data := [9] } (tree 0x13)) (fun e => (e.tile 13823).rd 0 == 9 && tokOcc e 13823 0 == 1) = true) ∧
    (let d := tiled {}; let tree := fun (e : Word) (l : List RedInst) => { d with fab := { d.fab with red := [(4 * (256 * 13823 + 255), e)], insts := l } };
      let e : Word := 1 + 3 * 2 ^ 5 + 1 * 2 ^ 13 + 7 * 2 ^ 16 + 1 * 2 ^ 25;
      redMask e = [0, 1] ∧ redOrder e = [0, 1] ∧
      after (.redArrival 13823 1) (flying 8 1 { pkt with dest := 255, data := [9] } (tree 0 [])) (fun f => f.rd (FIELD_RED_MISMATCH_COUNT 11) == 1) = true ∧
      after (.redArrival 13823 1) (flying 8 1 { pkt with dest := 255, data := [9] } (tree e [])) (fun f => f.fab.insts.length == 1 && f.fab.net == []) = true ∧
      after (.redArrival 13823 1) (flying 8 1 { pkt with dest := 255, data := [9] } (tree e [{ site := 13823, id := 255, n := 0, inputs := [(0, ([1], false))], first := 0 }]))
        (fun f => f.fab.insts == [] && f.fab.net.map (·.site) == [13727]) = true ∧
      same (.redTimeout 13823 255) (st up) = true ∧
      after (.redTimeout 13823 255) (st (tree e [{ site := 13823, id := 255, n := 0, inputs := [(0, ([1], false))], first := 0 }]))
        (fun f => f.rd (FIELD_RED_ABORT_COUNT 11) == 1 && f.fab.insts.all (·.dead)) = true) := by decide +kernel

theorem test_RoutersAndSeams :
    same (.routerPacket 13823 0 2 0) (st up) = true ∧
    after (.routerPacket 13823 1 2 3) (flying 0 1 { pkt with destSite := 13823 } (tiled {})) (fun d => d.fab.net == [] && d.rd (FIELD_LINK_UE_COUNT 11) == 1) = true ∧
    after (.routerPacket 13823 1 2 1) (flying 0 1 { pkt with destSite := 13823 } (tiled {})) (fun d => d.fab.net.map (·.eject) == [true] && d.rd (FIELD_LINK_CE_COUNT 11) == 1) = true ∧
    after (.routerPacket 13823 0 2 0) (flying 0xA 0 { pkt with destSite := 13823 } (tiled {})) (fun d => d.fab.edge.length == 1) = true ∧
    after (.routerPacket 13823 0 2 0) (flying 0 0 { pkt with destSite := 13822 } (tiled {})) (fun d => d.fab.net.map (fun f => (f.site, f.port)) == [(13822, 2)]) = true ∧
    (let d := { (up : Dev) with fab := { (up).fab with net := [{ pkt := { pkt with destSite := 32 }, site := 31, port := 0 }] } };
      hopOpen d 31 32 = false ∧ same (.routerPacket 31 0 2 0) (st d) = true) ∧
    same (.packetEjection 13823) (st up) = true ∧
    (let eject := fun (p : Packet) => { meshed (tiled {}) with fab := { (meshed (tiled {})).fab with net := [{ pkt := p, site := 13823, port := 0, eject := true }] } };
      after (.packetEjection 13823) (st (eject { pkt with src := 5 })) (fun d => d.fab.landed.length == 1 && d.fab.net == []) = true ∧
      after (.packetEjection 13823) (st (eject { pkt with dest := 6 })) (fun d => d.rd (TILE_STALE_DROP_COUNT 13823) == 1) = true) ∧
    same (.bindingChange 13823) (st up) = true ∧
    after (.bindingChange 13823) (st { up with fab := { (up).fab with bindLog := [(16383, 7)] } }) (fun d => bindEntry d 13823 16383 == 7 && bindEntry d 0 16383 == 0) = true ∧
    (let d := up [(FIELD_SEAM_E 0, 0x80000100)]; let d := { d with fab := { d.fab with net := [{ pkt, site := 32, port := 4 }] } };
      after (.seamUnlock 0 false) (st d) (fun e => e.fab.net == [] && e.rd (FIELD_SEAM_DROP_COUNT 0) == 1 && !seamOpen e 0 false) = true) ∧
    same (.seamUnlock 11 true) (st up) = true ∧
    after (.seamRelock 8 true) (st (up [(FIELD_SEAM_S 8, 0x80000000)])) (fun d => seamOpen d 8 true) = true ∧ same (.seamRelock 11 true) (st up) = true := by decide +kernel

/-! ### Vector and matrix engines (04_matrix_unit.md, 06_sequencers_isa.md) -/

/-- Lane 63 of a vector holds a word. -/
def lane63 (w : Word) : List Word := List.replicate 63 0 ++ [w]

/-- The vector engine runs an instruction under the guard of lane 63. -/
def vx (op lo : Nat) (t : Tile := {}) (ags : List Nat := []) : Dev :=
  started (tiled { t with eng := [(3, { run := some { runs op lo ags with guard := 2 ^ 63 } })] })

theorem test_VectorLanes :
    (let v : KV (List Word) := [(1, lane63 0xFFFFFFFF), (2, lane63 2)]; let o := 2 ^ 27 * 31 + 2 ^ 22 + 2 * 2 ^ 17;
      after (.valu 13823) (st (vx 0x42 (o + 8) { vectors := v })) (fun d => (vector (d.tile 13823) 31).getD 63 0 == 1 && done 3 d) = true ∧
      after (.vfma 13823) (st (vx 0x43 (o + 2 * 2 ^ 12) { vectors := [(1, lane63 0x3F800000), (2, lane63 0x40000000)] }))
        (fun d => (vector (d.tile 13823) 31).getD 63 0 == 0x40800000) = true ∧
      after (.vcmp 13823) (st (vx 0x44 (7 * 2 ^ 29 + 2 ^ 22 + 2 * 2 ^ 17 + 5) { vectors := v, preds := [(7, 1)] })) (fun d => predicate (d.tile 13823) 7 == 2 ^ 63 + 1) = true ∧
      after (.vcmp 13823) (st (vx 0x44 (2 ^ 22 + 2 * 2 ^ 17 + 5) { vectors := v })) (fun d => (d.tile 13823).preds == []) = true ∧
      after (.vfn 13823) (st (vx 0x45 (2 ^ 27 * 31 + 2 ^ 22) { vectors := [(1, lane63 0x40000000)] })) (fun d => (vector (d.tile 13823) 31).getD 63 0 == 0x40800000) = true ∧
      after (.vred 13823) (st (vx 0x46 (2 ^ 27 + 2 ^ 22) { vectors := [(1, lane63 0x40000000)] })) (fun d => kvGetD (d.tile 13823).scalars 0 1 == 0x40000000) = true ∧
      after (.vbcast 13823) (st (vx 0x47 (2 ^ 27 * 31 + 2 ^ 22) { scalars := [(1, 2 ^ 40 + 6)] })) (fun d => vector (d.tile 13823) 31 == lane63 6) = true ∧
      after (.vext 13823) (st (vx 0x48 (2 ^ 27 * 27 + 2 ^ 22 + 63) { vectors := v })) (fun d => kvGetD (d.tile 13823).scalars 0 27 == 0xFFFFFFFF) = true) := by
  decide +kernel

theorem test_VectorMemory :
    (let top := spadWords - 64; let t : Tile := { spad := [(spadWords - 1, 9)] };
      after (.vld 13823) (st (vx 0x40 (2 ^ 27 * 31) t [top])) (fun d => vector (d.tile 13823) 31 == lane63 9) = true ∧
      after (.vld 13823) (st (vx 0x40 0 t [top + 1])) (fun d => ((d.tile 13823).engine 3).stopped && bitOf (d.rd (TILE_FLAGS 13823)) 3) = true ∧
      after (.vst 13823) (st (vx 0x41 0 { vectors := [(0, lane63 8)] } [top])) (fun d => (d.tile 13823).spad == [(spadWords - 1, 8)]) = true ∧
      after (.vst 13823) (st (vx 0x41 0 t [spadWords])) (fun d => ((d.tile 13823).engine 3).stopped && (d.tile 13823).spad == t.spad) = true ∧
      after (.sld 13823) (st (vx 0x49 (2 ^ 27) t [spadWords - 1])) (fun d => kvGetD (d.tile 13823).scalars 0 1 == 9 * 2 ^ 32) = true ∧
      after (.sst 13823) (st (vx 0x4A (2 ^ 27) { scalars := [(1, 2 ^ 32 + 2)] } [0])) (fun d => (d.tile 13823).rdN 0 2 == [2, 1]) = true ∧
      after (.sst 13823) (st (vx 0x4A 0 {} [spadWords])) (fun d => ((d.tile 13823).engine 3).stopped) = true) ∧
    (let t : Tile := { scalars := [(1, 64), (2, 3)], spad := [(63, 4)] };
      after (.vsop 13823) (st (vx 0x4C (2 ^ 15 + 2 ^ 13 + 2 * 2 ^ 8 + 8) t [64, 0])) (fun d => (d.tile 13823).spad == [(63, 4), (127, 7)]) = true ∧
      after (.vsop 13823) (st (vx 0x4C (2 ^ 15 + 8) t [64, 0, 0])) (fun d => (d.tile 13823).spad == [(63, 4), (127, 8)]) = true ∧
      after (.vsfn 13823) (st (vx 0x4D (2 ^ 15 + 2) { t with spad := [(63, 0x40000000)] } [64, 0])) (fun d => (d.tile 13823).rd 127 == 0x3F000000) = true) ∧
    (let e := fun (op lo : Nat) (t : Tile) (ags : List Nat) => started (tiled { t with scalars := [(1, 1)], eng := [(3, { run := some (runs op lo ags) })] });
      (srcFmt (ins 0x4E 0x01)).isMx = false ∧
      after (.vcvt 13823) (st (e 0x4E (2 ^ 15 + 0x01) { spad := [(0, 0x3F800000)] } [8, 0])) (fun d => (d.tile 13823).rd 8 == 0x3F80 && done 3 d) = true ∧
      after (.vcvt 13823) (st (e 0x4E (2 ^ 15 + 0x05) { spad := [(0, 0xC0000000)] } [8, 0])) (fun d => (d.tile 13823).rd 8 == 0xFE) = true ∧
      (srcFmt (ins 0x4E 0x60)).isMx = true ∧
      after (.vcvt 13823) (st (started (tiled { scalars := [(1, 32)], spad := [(0, 0x38), (16, 127)], eng := [(3, { run := some (runs 0x4E (2 ^ 15 + 0x60) [32, 0, 16]) })] })))
        (fun d => (d.tile 13823).rd 32 == 0x3F800000) = true) ∧
    (let d := started (tiled { scalars := [(1, 32)], spad := [(0, 0x3F800000)], eng := [(3, { run := some (runs 0x4F (2 ^ 15 + 0x06) [32, 0, 64]) })] });
      cvtCount (d.tile 13823) (ins 0x4F (2 ^ 15 + 0x06)) [] = 32 ∧
      after (.vqmx 13823) (st d) (fun e => (e.tile 13823).rd 64 == 119 && (e.tile 13823).rd 32 == 0x78 && done 3 e) = true) := by decide +kernel

/-- An MXM descriptor: INT8 operands, INT32 outputs, one by one by K elements, at words 0, 4 and 8. -/
def mxd (fmt : Nat := 0xC55) (b : Nat := 4) : List Word := [0, 0x800, w32 fmt, 0, w32 b, 8, 0, 0, 0, 0x10001, 0x10001, 0]

/-- A tile whose matrix engine runs an instruction with its descriptor at word 64. -/
def mx (op : Nat) (lo : Nat) (m : List Word) (x : MatrixUnit := {}) (spad : KV Word := []) : Dev :=
  started (tiled { (({ spad } : Tile).wrN 64 m) with scalars := [(1, 64)], mx := x, eng := [(2, { run := some (runs op (2 ^ 22 + lo)) })] })

def aPass (m : List Word := mxd) : MxPass := { bank := 1, mb := 0, nb := 0, desc := m }

theorem test_MatrixPasses :
    (let m := [0x0020, 0x20800] ++ mxd.drop 2; let d := mx 0x30 0 m;
      mxDescs (d.tile 13823) (ins 0x30 (2 ^ 22)) [] = (64, [m]) ∧ rangesBad ([m].flatMap instrRanges) = false ∧ mxVec m = false ∧
      after (.mxm 13823) (st d) (fun e => (e.tile 13823).mx.plan.map (fun p => (p.bank, p.mb, p.nb)) == [(1, 0, 0), (0, 1, 0)]) = true) ∧
    (let m := [0x04000000, 0x10800] ++ mxd.drop 2; let d := mx 0x30 0 m;
      mxVec m = true ∧ rangesBad ([m].flatMap instrRanges) = false ∧
      after (.mxm 13823) (st d) (fun e => (e.tile 13823).mx.plan.map (fun p => (p.bank, p.mb, p.nb)) == [(0, 0, 0), (1, 0, 1)]) = true) ∧
    (let d := mx 0x31 0 mxd; after (.mxf 13823) (st d) (fun e => (e.tile 13823).mx.plan == [{ aPass with bank := 0 }]) = true) ∧
    (let m := mxd 0xC55 (spadWords - 0); let m' := mxd 0xC55 0x13FFFF;
      rangesBad ([m].flatMap instrRanges) = true ∧ rangesBad ([m'].flatMap instrRanges) = false ∧
      after (.mxm 13823) (st (mx 0x30 0 m)) (fun e => ((e.tile 13823).engine 2).stopped && bitOf (e.rd (TILE_FLAGS 13823)) 3) = true ∧
      after (.mxf 13823) (st (mx 0x31 0 m)) (fun e => ((e.tile 13823).engine 2).stopped) = true) := by decide +kernel

theorem test_MatrixPasses_start :
    (let d := mx 0x30 0 mxd { plan := [aPass] } [(0, 0xFE), (4, 3)];
      bankFree (d.tile 13823).mx 1 = true ∧ badWords (d.tile 13823) (passRanges aPass) = [] ∧
      after (.mxPassStart 13823 0) (st d) (fun e => (e.tile 13823).mx.awake && (e.tile 13823).mx.active.length == 1) = true) ∧
    (let d := mx 0x30 0 mxd { plan := [aPass], active := [aPass] };
      bankFree (d.tile 13823).mx 1 = false ∧ same (.mxPassStart 13823 0) (st d) = true) := by decide +kernel

theorem test_MatrixPasses_words :
    after (.mxDrain 13823) (st (mx 0x30 0 mxd { active := [aPass] } [(0, 0xFE), (4, 3)]))
      (fun e => accWord (e.tile 13823) 1 0 0 == 0xFFFFFFFA && (e.tile 13823).rd 8 == 0xFFFFFFFA && done 2 e) = true := by decide +kernel

theorem test_MatrixPasses_drain :
    passChanged ((mx 0x30 0 mxd { active := [aPass] }).tile 13823) aPass = false ∧
    after (.arrayGate 13823) (st (tiled { mx := { awake := true } })) (fun e => !(e.tile 13823).mx.awake) = true ∧
    same (.arrayGate 13823) (st (tiled { mx := { awake := true, active := [aPass] } })) = true := by decide +kernel

/-- A DCW word with a last mark and a write of generator 15. -/
def dcwIns (b : Nat) : Instruct := { ins 0 with bits := b, dcw := true }

theorem test_DcwWords :
    same (.dcwWord 47 3) (st (tiled {})) = true ∧
    (let i := dcwIns (1 + 2 ^ 128); let d := { tiled { mx := { dcwTokens := [0] } } with seqs := [(47, { dcwNow := some i })] };
      13823 ∈ subscribed d 47 ∧ dcwHeld d 13823 3 i = true ∧ same (.dcwWord 47 3) (st d) = true) ∧
    (let i := dcwIns (3 + 2 ^ 256 + 15 * 2 ^ 257 + 2 * 2 ^ 261 + 0x1FFFF * 2 ^ 264); let d := { tiled {} with seqs := [(47, { dcwNow := some i })] };
      (∀ t ∈ subscribed d 47, dcwHeld d t 3 i = false) ∧
      (d.tile 13823).faulted.contains i.cmd.serial = false ∧ i.b 1 = true ∧ i.b 0 = true ∧ i.b 256 = true) ∧
    (let i := dcwIns 3; let d := { tiled { faulted := [0] } with seqs := [(47, { dcwNow := some i })] };
      (d.tile 13823).faulted.contains i.cmd.serial = true ∧
      after (.dcwWord 47 3) (st d) (fun e => decide (e.tile 13823 = d.tile 13823) && (e.seq 47).dcwNow.isNone && e.rd (FIELD_MX_SLIP_COUNT 11) == 3) = true) ∧
    after (.dcwWord 47 3) (st { up with seqs := [(47, { dcwNow := some (dcwIns 3) })] })
      (fun e => (e.seq 47).dcwNow.isNone && e.rd (FIELD_MX_SLIP_COUNT 11) == 3) = true := by decide +kernel
/-! ### External memory and router tables (07_fabric.md, 09_external_memory.md) -/

/-- A device with one memory port that holds its part of state. -/
def withPort (m : Nat) (p : MemPort) (r : KV Word := []) : Dev := { meshed (up r) with memp := [(m, p)] }

/-- A request of one line by the tile with ID 5. -/
def part (write : Bool) (addr : Nat) (data : List Word := []) (lines : Nat := 1) : MemPart :=
  { site := 13823, dest := 5, destGen := 0, req := 3, part := 1, write, addr, lines, landAddr := 64, data }

theorem test_MemoryRequests :
    same (.edgeReq 7) (st up) = true ∧
    (let d := meshed up; let d := { d with fab := { d.fab with edge := [(7, { pkt with src := 5, par := [1, 3, 1, 64, 1], addr := 8 })] } };
      let b := bindEntry d 16391 5;
      entryValid b = true ∧ entryGen b = 0 ∧ after (.edgeReq 7) (st d) (fun e => (e.port 7).queue == [{ part true 64 with landAddr := 8 }] && e.fab.edge == []) = true) ∧
    (let d := up; let d := { d with fab := { d.fab with edge := [(7, { pkt with src := 5 })] } };
      entryValid (bindEntry d 16391 5) = false ∧
      after (.edgeReq 7) (st d) (fun e => e.rd (FIELD_INJ_STALE_COUNT (edgeField 7)) == 1 && (e.port 7).queue == []) = true) ∧
    (let w := part true 60 [7]; let d := withPort 7 { queue := [w, w] };
      mayServe d 7 0 w = true ∧ mayServe d 7 1 w = false ∧ portFailed d 7 = false ∧ same (.memRequest 7 1 [] []) (st d) = true ∧ same (.memRequest 7 2 [] []) (st d) = true ∧
      after (.memRequest 7 0 [] []) (st d) (fun e => (e.port 7).queue == [w] && e.fab.net.length == 1) = true ∧
      afterMem (.memRequest 7 0 [] []) (st d) (fun m => m == { bytes := [(60, 7)] }) = true) ∧
    (let r := part false 28672; let d := withPort 7 { queue := [r] };
      mayServe d 7 0 r = true ∧ (∀ l ∈ r.lineList, l ∉ ({} : ExtMem).poison) ∧
      after (.memRequest 7 0 [] []) (st d { bytes := [(28673, 9)] })
        (fun e => e.fab.net.map (fun f => f.pkt.data) == [0x900 :: List.replicate 15 0] && e.rd64 (MEMP_RD_LINES_LO 7) == 1) = true) ∧
    (let w := part true 60 [7]; let d := withPort 7 { queue := [w] } [(MEMP_STATUS_MP 7, 2)];
      portFailed d 7 = true ∧ afterMem (.memRequest 7 0 [] []) (st d) (fun m => m == {}) = true ∧
      after (.memRequest 7 0 [] []) (st d) (fun e => (e.port 7).queue == [] && e.fab.net.map (fun f => f.pkt.poison) == [true]) = true) := by decide +kernel

/-- A request of the tile with its parts outstanding. -/
def asked (parts : List (Nat × Nat)) : Tile := { requests := [{ id := 3, cmd := aCmd, cls := 0, gen := 0, parts, landAddr := 64, landLen := 16 }] }

theorem test_EdgeResponses :
    (let r := [(tokCfgA 13823 0, (0x10001 : Word))]; let p := { pkt with par := [3, 1], addr := spadWords - 1, data := [9] };
      tokMode (tiled {} r) 13823 0 = 1 ∧ tokFree (tiled {} r) 13823 0 = true ∧
      after (.edgeResp 13823) (landed 0xB p (tiled {} r)) (fun d => d.flt.pendingRecords.length == 1 && d.fab.landed == []) = true ∧
      after (.edgeResp 13823) (landed 0xB p (tiled (asked [(0, 0), (1, 64)]) r)) (fun d => (d.tile 13823).rd (spadWords - 1) == 9 &&
        (d.tile 13823).requests.map (·.parts) == [[(0, 0)]]) = true ∧
      after (.edgeResp 13823) (landed 0xB p (tiled (asked [(1, 64)]) r)) (fun d => (d.tile 13823).requests == [] &&
        kvGetD (d.tile 13823).tok [] 0 == [{ addr := 64, len := 16 }]) = true ∧
      same (.ereqTimeout 13823 2) (st (tiled (asked [(1, 64)]) r)) = true ∧
      after (.ereqTimeout 13823 3) (st (tiled (asked [(1, 64)]) r)) (fun d => kvGetD (d.tile 13823).tok [] 0 == [{ addr := 64, len := 16, poison := true }] &&
        d.flt.pendingRecords.map (·.opcode) == [0x53]) = true) := by decide +kernel

theorem test_MemoryUpkeep :
    same (.memScrubStep 7 0) (st (withPort 7 {} [(MEMP_SCRUB_CFG 7, 0)])) = true ∧
    same (.memScrubStep 7 2) (st (withPort 7 {} [(MEMP_SCRUB_CFG 7, 1), (MEMP_STATUS_MP 7, 2)])) = true ∧
    (let d := withPort 7 { scrubLine := stackLines - 1, pageCe := [(5, 1)] } [(MEMP_SCRUB_CFG 7, 1)];
      after (.memScrubStep 7 0) (st d) (fun e => (e.port 7).scrubLine == 0 && (e.port 7).pageCe == [] && e.rdF (MEMP_SCRUB_POS 7) 31 16 == 1 &&
        e.rd64 (MEMP_RD_LINES_LO 7) == 1) = true ∧
      afterMem (.memScrubStep 7 0) (st d) (fun m => m == {}) = true) ∧
    after (.memScrubStep 7 0) (st (withPort 7 {} [(MEMP_SCRUB_CFG 7, 1)])) (fun e => (e.port 7).scrubLine == 1) = true ∧
    same (.pageRetireDone 7) (st up) = true ∧
    after (.pageRetireDone 7) (st (withPort 7 { retiring := [9], remap := [4] })) (fun d => d.rdF (MEMP_RETIRED 7) 12 0 == 2 && (d.port 7).retiring == []) = true ∧
    (let d := withPort 7 { pageCe := [(5, 1)] } [(MEMP_SCRUB_CFG 7, 0x100)];
      usTicks (3600000000 * d.rdF (MEMP_SCRUB_CFG 7) 15 8) = 2880000000000 ∧ same (.correctionCountReset 7) (st d) = true ∧
      after (.correctionCountReset 7) (st { d with time := { d.time with tb := 2880000000000 } }) (fun e => (e.port 7).pageCe == []) = true) ∧
    after (.hbmTempPoll 7 341) (st up) (fun d => bitOf (d.rd (MEMP_STATUS_MP 7)) 2 && d.flt.pendingRecords.length == 1) = true ∧
    after (.hbmTempPoll 7 340) (st up) (fun d => !bitOf (d.rd (MEMP_STATUS_MP 7)) 2 && d.flt.pendingRecords == []) = true ∧
    after (.hbmTempPoll 7 329) (st (up [(MEMP_STATUS_MP 7, 4)])) (fun d => bitOf (d.rd (MEMP_STATUS_MP 7)) 2) = true ∧
    after (.hbmTempPoll 7 328) (st (up [(MEMP_STATUS_MP 7, 4)])) (fun d => !bitOf (d.rd (MEMP_STATUS_MP 7)) 2) = true ∧
    after (.hbmTempPoll 7 380) (st up) (fun d => bitOf (d.rd (MEMP_STATUS_MP 7)) 3 && d.rdF (MEMP_STATUS_MP 7) 5 4 == 2) = true ∧
    after (.hbmTempPoll 7 360) (st (up [(MEMP_STATUS_MP 7, 0x20)])) (fun d => d.rdF (MEMP_STATUS_MP 7) 5 4 == 1) = true ∧
    after (.hbmTempPoll 7 348) (st (up [(MEMP_STATUS_MP 7, 0x10)])) (fun d => d.rdF (MEMP_STATUS_MP 7) 5 4 == 0) = true := by decide +kernel

theorem test_MemoryUpkeep_lost : ({} : ExtMem).poison = [] ∧ bitOf ((withPort 7 {} [(MEMP_SCRUB_CFG 7, 1)]).rd (MEMP_SCRUB_CFG 7)) 0 = true ∧
    portFailed (withPort 7 {} [(MEMP_SCRUB_CFG 7, 1)]) 7 = false := by decide +kernel

/-- RT_ADDR of field 11 at a place. -/
def rtAt (table index word : Nat) : KV Word := [(FIELD_RT_ADDR 11, w32 (1151 + table * 2 ^ 12 + index * 2 ^ 14 + word * 2 ^ 28))]

theorem test_RouterTables :
    (let d := meshed (up (rtAt 0 5 0));
      rtSite d 11 = 13823 ∧ firstFail (rtPlaceChecks d 11) = none ∧
      after (.rtDataAccess 11 1 none) (st d) (fun e => e.resp.bytes == leBytes 4 (bindWord 13823 0 true).toNat && e.rdF (FIELD_RT_ADDR 11) 27 14 == 6) = true) ∧
    firstFail (rtPlaceChecks (up (rtAt 1 256 0)) 11) = some .range ∧ firstFail (rtPlaceChecks (up (rtAt 3 0 0)) 11) = some .reserved ∧
    after (.rtDataAccess 11 1 none) (st (up (rtAt 3 0 0))) (fun e => e.resp.bytes == [0, 0, 0, 0] && e.rdF ((Page.field 11).base + 0x10) 7 0 == ErrCode.reserved.code) = true ∧
    (up).mayWrite 0x10 (.field 11) = true ∧ (up).isFenced (.field 11) = false ∧
    after (.rtDataAccess 11 0x10 (some 0x80000007)) (st (up (rtAt 0 16383 0))) (fun e => bindEntry e 13823 16383 == 0x80000007 && e.rdF (FIELD_RT_ADDR 11) 27 14 == 0) = true ∧
    after (.rtDataAccess 11 0x10 (some 1)) (st (up (rtAt 1 255 1))) (fun e => e.rdF (FIELD_RT_ADDR 11) 29 28 == 2 && e.fab.red == [] && e.fab.rtHeld.length == 1) = true ∧
    (let d := up (rtAt 1 255 2); let d := { d with fab := { d.fab with rtHeld := [(rtKey 13823 1 255 1, 1)] } };
      let e := rtAssembled d 13823 1 255 2 0;
      e = [0, 1, 0] ∧ firstFail (rtContentChecks d 13823 1 255 e) = none ∧
      after (.rtDataAccess 11 0x10 (some 0)) (st d) (fun e => redEntry e 13823 255 1 == 1) = true) ∧
    (let d := up (rtAt 2 63 1); let e := rtAssembled d 13823 2 63 1 0;
      firstFail (rtContentChecks d 13823 2 63 e) = none ∧ after (.rtDataAccess 11 0x10 (some 0)) (st d) (fun e => bcEntry e 13823 63 1 == 0) = true) := by decide +kernel
/-! ### Streams and selectors (08_streams_context.md) -/

/-- Word 0 of the last stream's descriptor, with a context base of its own. -/
def strm (w0 : Nat) (x : StreamSt := {}) (r : KV Word := []) : Dev := { up ([(descAddr 16383 0, w32 w0)] ++ r) with strm := x }

def aBeat : Beat := { stream := 16383, beat := 0, attempt := 0, kind := 0, tokens := 1, seqs := [47], left := [] }

theorem test_StreamCommands :
    (up).mayWrite 0x10 .strm = true ∧
    firstFail (opChecks (strm 0) 16383 2 0) = some .state ∧
    after (.closeStream 0x10 16383) (st (strm 0)) (fun d => d.rdF (Page.strm.base + 0x10) 7 0 == ErrCode.state.code && d.strm == {}) = true ∧
    firstFail (opChecks (strm 1) 16383 5 0) = some .range ∧ firstFail (opChecks (strm 3) 16383 1 0) = some .state ∧
    (let d := strm 0xFF000000 {} [(STRM_PROG_VALID 0, 1), (descAddr 16383 3, 0x100000), (descAddr 16383 10, 0x1000)];
      firstFail (openChecks d 16383) = none ∧
      after (.openStream 0x10 16383) (st d) (fun e => e.strm.opening == some 16383 && e.dF 16383 0 31 24 == 0 && bitOf (e.rd (Page.strm.base + 0xC)) 4) = true) ∧
    after (.closeStream 0x10 16383) (st (strm 0x100003 { beats := [aBeat] })) (fun d => d.strmSt 16383 == 5 && !replayPend d 16383) = true ∧
    after (.closeStream 0x10 16383) (st (strm 0x100006 { missed := [16383] })) (fun d => d.strmSt 16383 == 0 && d.strm.missed == []) = true ∧
    after (.pauseStream 0x10 16383) (st (strm 3 { beats := [aBeat] })) (fun d => d.strmSt 16383 == 3 && pausePend d 16383) = true ∧
    after (.pauseStream 0x10 16383) (st (strm 2)) (fun d => d.strmSt 16383 == 4 && !pausePend d 16383) = true ∧
    after (.resumeStream 0x10 16383) (st (strm 0x100004)) (fun d => d.strmSt 16383 == 3) = true ∧
    after (.resumeStream 0x10 16383) (st (strm 4)) (fun d => d.strmSt 16383 == 1) = true ∧
    after (.strmCredit 0x10 16383 16383) (st (strm 1 {} [(descAddr 16383 8, 49152)])) (fun d => credits16 d 16383 == 65535 && d.strmSt 16383 == 2) = true ∧
    firstFail (opChecks (strm 1 {} [(descAddr 16383 8, 49153)]) 16383 5 16383) = some .range ∧
    (let d := strm 0x101 {} [(descAddr 16383 8, 0xFFFF), (descAddr 16383 9, 2), (descAddr 16383 1, 0xFF)];
      compared d 16383 = false ∧ isMember d = false ∧
      after (.strmRelease 0x10 16383) (st d) (fun e => credits16 e 16383 == 65535 && e.strm.deadlines == [16383] && e.strmSt 16383 == 2 && e.dF 16383 15 31 0 == 255) = true) ∧
    after (.clearStream 0x10 16383) (st (strm 6)) (fun d => d.strmSt 16383 == 4 && replayPend d 16383) = true := by decide +kernel

theorem test_StreamTables :
    after (.descriptorWrite 0x10 16383 12 0x12345678) (st (strm 3)) (fun d => d.rd (descAddr 16383 12) == 0x12345678) = true ∧
    descWritable.getD 12 0 ≠ 0 ∧ (0x12345678 ^^^ 0) &&& descFreeOnly.getD 12 0 = 0 ∧
    after (.descriptorWrite 0x10 16383 0 0x10) (st (strm 0)) (fun d => d.rd (descAddr 16383 0) == 0x10) = true ∧
    after (.descriptorWrite 0x10 16383 0 0x10) (st (strm 1)) (fun d => d.rd (descAddr 16383 0) == 1 && d.rdF (Page.strm.base + 0x10) 7 0 == ErrCode.state.code) = true ∧
    (let d := up [(STRM_PROG_ADDR, 0x313F)];
      d.rdF STRM_PROG_ADDR 13 8 = 49 ∧ progNamed d 63 = false ∧
      after (.progDataAccess 0x10 none) (st d) (fun e => e.rdF STRM_PROG_ADDR 13 8 == 50 && e.resp.bytes == [0, 0, 0, 0]) = true ∧
      after (.progDataAccess 0x10 (some 5)) (st { d with strm := { progHeld := [(3150, 1)] } })
        (fun e => progWord e 63 49 == 5 && progWord e 63 0 == 1 && progValid e 63 && e.strm.progHeld == []) = true) ∧
    after (.progDataAccess 0x10 (some 1)) (st (up [(STRM_PROG_ADDR, 0x003F)])) (fun e => e.strm.progHeld == [(3150, 1)] && e.rdF STRM_PROG_ADDR 13 8 == 1) = true ∧
    (let d := strm 0x801 {} [(descAddr 16383 9, 0x3F0000), (STRM_RING_CFG 63, 0x81020000)];
      ringProducer d 63 = 1 ∧ (ring d 63).size = 4 ∧
      after (.ringProdWrite 63 0x10 4) (st d) (fun e => e.rd (STRM_RING_PROD 63) == 4 && e.strmSt 16383 == 2) = true ∧
      after (.ringProdWrite 63 0x10 5) (st d) (fun e => e.rd (STRM_RING_PROD 63) == 0 && e.rdF (Page.strm.base + 0x10) 7 0 == ErrCode.range.code) = true) := by decide +kernel

theorem test_Deadlines :
    (let d := strm 0x102 { deadlines := [16383] } [(descAddr 16383 1, 0x10000), (descAddr 16383 8, 1)];
      deadlineReached d 16383 = false ∧ same (.deadlineReached 16383) (st d) = true) ∧
    (let d := strm 0x102 { deadlines := [16383] } [(descAddr 16383 8, 1), (descAddr 16383 9, 0xFF000000)];
      deadlineReached d 16383 = true ∧ dlEn d 16383 = true ∧
      after (.deadlineReached 16383) (st d) (fun e => e.strm.missed == [16383] && e.dF 16383 9 31 24 == 255 && e.rd STRM_MISS_COUNT == 1 && e.strmSt 16383 == 2 &&
        e.flt.pendingRecords.map (·.synd) == [1]) = true) ∧
    after (.deadlineReached 16383) (st (strm 0x302 { deadlines := [16383] } [(descAddr 16383 8, 1)])) (fun e => credits16 e 16383 == 0 && e.strmSt 16383 == 1) = true ∧
    after (.deadlineReached 16383) (st (strm 0x502 { deadlines := [16383] } [(descAddr 16383 8, 1)])) (fun e => e.strmSt 16383 == 4) = true ∧
    after (.deadlineReached 16383) (st (strm 0x503 { deadlines := [16383], beats := [aBeat] } [(descAddr 16383 8, 1)])) (fun e => pausePend e 16383) = true ∧
    after (.deadlineReached 16383) (st (strm 0x102 { deadlines := [16383] })) (fun e => e.strm.deadlines == [] && e.strm.missed == []) = true := by decide +kernel

/-- A stream whose program names sequencer 47, with its commit area at 0x1000. -/
def beating (w0 : Nat) (x : StreamSt := {}) (r : KV Word := []) : Dev :=
  strm w0 { x with progs := [(1, 0x8000)] } ([(STRM_PROG_VALID 0, 1), (descAddr 16383 10, 0x1000), (descAddr 16383 8, 1), (STRM_SCHED_CTRL, 0x201)] ++ r)

theorem test_Beats_issue :
    same .openDone (st up) = true ∧
    (let d := beating 0 { opening := some 16383 };
      d.chanMode = 0 ∧ after .openDone (st d) (fun e => e.strmSt 16383 == 2 && e.strm.opening == none) = true) ∧
    same .beatIssue (st (beating 1)) = true ∧ same .beatIssue (st (beating 2 {} [(STRM_SCHED_CTRL, 0x200)])) = true ∧
    (let d := beating 2;
      issueOn d = true ∧ nextStream d = some 16383 ∧ d.peer.maskPend = none ∧
      after .beatIssue (st d) (fun e => e.strmSt 16383 == 3 && e.strm.beats.map (·.left) == [[47]] && e.fab.cmds.map (·.1) == [47] && e.strm.rr == 0) = true ∧
      afterMem .beatIssue (st d) (fun m => m.read 0x2000 7 == [0xFF, 0xFF, 0xFF, 0xFF, 0xFF, 0xFF, 0]) = true) := by decide +kernel

theorem test_Beats_end :
    same (.beatCommit 16383) (st (beating 3 { beats := [{ aBeat with left := [47] }] })) = true ∧
    (let d := beating 3 { beats := [aBeat] }; d.strm.beats.find? (fun b => b.stream == 16383 && !b.refill) = some aBeat ∧ compared d 16383 = false ∧
      isMember d = false ∧ kvGet? d.peer.rebuild 16383 = none ∧ history d 16383 = [] ∧ reportPending d 16383 aBeat.tag = false ∧ inReset d = false ∧
      slotAddr d 16383 0 = 0x2000 ∧ slotPoisoned {} 0x2000 (slotPages d 16383) = false ∧
      slotPoisoned { poison := [0x2FC0 / 64] } 0x2000 (slotPages d 16383) = true ∧
      after (.beatCommit 16383) (st d { poison := [0x2FC0 / 64] }) (fun e => e.strm.beats.map (·.failed) == [true]) = true) ∧
    same .beatFailReport (st up) = true ∧
    (let d := beating 3 { beats := [aBeat] };
      after .beatFailReport (st { d with flt := { d.flt with failReports := [(16383, 0)] } }) (fun e => e.strm.beats.map (·.failed) == [true]) = true) ∧
    (let b := { aBeat with failed := true }; let d := beating 3 { beats := [b] };
      reportPending d 16383 b.tag = false ∧
      after (.beatAbortDone 16383) (st d) (fun e => e.strm.beats == [] && strmAttempt e 16383 == 1 && replayPend e 16383 && e.rd STRM_REPLAY_COUNT == 1) = true ∧
      same (.beatAbortDone 16383) (st { d with flt := { d.flt with failReports := [(16383, 0)] } }) = true ∧
      after (.beatAbortDone 16383) (st (beating 5 { beats := [b] })) (fun e => e.strmSt 16383 == 0) = true ∧
      after (.beatAbortDone 16383) (st (beating 3 { beats := [{ b with attempt := 2 }] })) (fun e => e.strmSt 16383 == 6) = true) := by decide +kernel

/-- A request that is well formed for the smallest ring. -/
def selReq : List Word := List.replicate 19 0 ++ [16]

/-- The selector of the last field with its requests. -/
def selecting (arrived : List (List Word)) (waiting : List (List Word)) (r : KV Word := []) : Dev :=
  { up ([(SEL_CFG, 0x10001)] ++ r) with strm := { selIn := [(11, arrived)], selReqs := [(11, waiting)] } }

theorem test_Selectors :
    same (.selRequest 11) (st up) = true ∧ same (.selScanDone 11) (st up) = true ∧
    after (.selRequest 11) (st (selecting [selReq] [] [(SEL_CFG, 0)])) (fun d => selReqs d 11 == []) = true ∧
    selBad (selecting [] []) selReq = false ∧
    after (.selRequest 11) (st (selecting [selReq] [selReq, selReq, selReq])) (fun d => (selReqs d 11).length == 4 && d.rdF (SEL_STATUS 11) 2 0 == 4) = true ∧
    after (.selRequest 11) (st (selecting [selReq] [selReq, selReq, selReq, selReq])) (fun d => (selReqs d 11).length == 4 && d.rd SEL_REFUSED_COUNT == 1) = true ∧
    selBad (selecting [] []) (List.replicate 19 0 ++ [15]) = true ∧
    after (.selRequest 11) (st (selecting [List.replicate 19 0 ++ [15]] [])) (fun d => selReqs d 11 == [] && d.rd SEL_BAD_REQ_COUNT == 1) = true ∧
    after (.selScanDone 11) (st (selecting [] [selReq, selReq])) (fun d => (selReqs d 11).length == 1 && d.rd SEL_SCAN_COUNT == 1) = true := by decide +kernel

theorem test_Beats_commit :
    after (.beatCommit 16383) (st (beating 3 { beats := [aBeat] })) (fun e => e.strm.beats == [] && strmBeat e 16383 == 1 && e.strmSt 16383 == 1 && credits16 e 16383 == 0) = true := by
  decide +kernel
/-! ### Twins (14_channels_twin_herd.md) -/

/-- A twin of role 0 in a state, its stream 16383 compared; the spur is up on plane 3. -/
def twin (state : Nat) (p : PeerSt := {}) (r : KV Word := []) : Dev :=
  { up ([(TWIN_CFG, 1), (TWIN_STATE, w32 state), (TWIN_CMP_RANGE, 16383), (SPUR_PORT_STATUS 3, 1), (SPUR_PORT_EN, 8)] ++ r) with peer := p }

/-- A frame of the partner with a SEQ. -/
def frm (seq : Nat) (ack : Nat := 0) : FrameHdr := { plane := 3, herd := 0, src := 1, gen := 0, seq, ack }

def aSent (seq tries tick : Nat) : Sent := { peer := 1, seq, plane := 3, tries, tick, typ := 4, fields := [7], data := [] }

theorem test_SnigusFrames :
    knownPeer (twin 2) (frm 1) = true ∧ knownPeer (twin 2) { frm 1 with src := 2 } = false ∧
    after (.digestFrame { frm 1 with src := 2 } 0 0 0 0) (st (twin 2)) (fun d => d.rd HERD_STALE_FRAME_COUNT == 1 && d.flt.pendingRecords.length == 1) = true ∧
    after (.timeFrame (frm 5 9) 0 0) (st (twin 2 { seqIn := [(1, 5)], unacked := [aSent 9 0 0, aSent 10 0 0] })) (fun d => d.peer.unacked == [aSent 10 0 0]) = true ∧
    same (.holdFrame (frm 7) 0 0 0 false) (st (twin 2 { seqIn := [(1, 5)] })) = true ∧
    same (.copyFrame (frm 7) (memCapacity - 1) [1]) (st (twin 2 { seqIn := [(1, 5)] })) = true ∧ ownKey (twin 2) = 0 ∧
    same (.snigusBadFrame (frm 1) 0x13) (st up) = true ∧ same (.snigusBadFrame (frm 1) 1) (st up) = true ∧
    after (.snigusBadFrame (frm 1) 0x14) (st up) (fun d => d.flt.pendingRecords.length == 1) = true ∧ after (.snigusBadFrame (frm 1) 0) (st up) (fun d => d.flt.pendingRecords.length == 1) = true ∧
    after (.heartbeatFrame (frm 0 9)) (st (twin 2 { unacked := [aSent 9 0 0] })) (fun d => d.peer.unacked == [] && d.peer.seqIn == []) = true ∧
    after (.heartbeatFrame { frm 0 with herd := 1 }) (st (twin 2)) (fun d => d.rd HERD_STALE_FRAME_COUNT == 1) = true ∧
    after .heartbeatSend (st (twin 2 { seqOut := [(1, 4)], seqIn := [(1, 6)] })) (fun d => d.tx == [.snigus 3 2 1 [4, 6] []]) = true ∧
    same .heartbeatSend (st { twin 2 with boot := { (twin 2).boot with restarting := true } }) = true := by decide +kernel

theorem test_SnigusRetransmit :
    (let d := twin 2 { unacked := [aSent 9 7 0, aSent 10 0 1] }; let d := { d with time := { d.time with tb := 16000 } };
      (∀ u ∈ d.peer.unacked, decide (u.tick + 16000 ≤ d.time.tb) = true → u.tries < 8) ∧
      after .snigusRetransmit (st d) (fun e => e.tx == [.snigus 3 4 1 [9, 0, 7] []] && e.peer.unacked.map (fun u => (u.tries, u.tick)) == [(8, 16000), (0, 1)]) = true) ∧
    (let d := twin 2 { unacked := [aSent 9 8 0] }; let d := { d with time := { d.time with tb := 16000 } };
      herdSt d = 0 ∧ twinEn d = true ∧ partnerKey d = 1 ∧ comparedStreams d = [] ∧
      after .snigusRetransmit (st d) (fun e => twinSt e == 3 && e.peer.unacked == [] && e.rd TWIN_LOST_COUNT == 1) = true) := by decide +kernel

theorem test_Hello :
    after (.helloFrame (frm 4) 0 0 1 16383 false) (st up) (fun d => d.rd HERD_STALE_FRAME_COUNT == 1) = true ∧
    after (.helloFrame (frm 4) 0 0 1 16383 false) (st (twin 2)) (fun d => d.flt.pendingRecords == [] && d.tx == []) = true ∧
    (let d := twin 1;
      d.rdF LIC_PROFILE 1 0 = 0 ∧ d.chanMode = 0 ∧ helloRefusal d 0 0 1 16383 false = 0 ∧ helloRefusal d 0 0 0 16383 false = 2 ∧
      after (.helloFrame (frm 4) 0 0 1 16383 false) (st d) (fun e => kvGet? e.peer.seqIn 1 == some 4 && e.tx.length == 1 && e.flt.pendingRecords.length == 1) = true ∧
      after (.helloFrame (frm 4) 0 0 0 16383 false) (st d) (fun e => twinSt e == 1 && e.peer.refused == 2 && e.flt.pendingRecords.length == 1) = true ∧
      after (.helloFrame (frm 4) 0 0 0 16383 false) (st { d with peer := { refused := 2 } }) (fun e => e.flt.pendingRecords == []) = true ∧
      after .helloSend (st d) (fun e => e.tx.length == 1) = true) ∧
    (let d := twin 3 { unacked := [aSent 9 0 0], seqIn := [(1, 6)] } [(SPUR_PORT_STATUS 0, 1), (SPUR_PORT_EN, 1)];
      planeUp d 0 = true ∧ after .helloSend (st d) (fun e => twinSt e == 1 && e.peer.unacked == [] && e.peer.seqIn == []) = true) ∧
    planeUp (twin 3) 0 = false ∧ same .helloSend (st (twin 3)) = true := by decide +kernel
theorem test_DigestFrames :
    InTurn (twin 2) (frm 1) ∧ compared (twin 2) 16382 = false ∧ compared (twin 2) 16383 = true ∧
    after (.digestFrame (frm 1) 16382 0 0 0) (st (twin 2)) (fun d => decide (d = frameTaken (frm 1) (twin 2))) = true ∧
    (let d := twin 2 {} [(descAddr 16383 0, 3), (descAddr 16383 6, 8)];
      history d 16383 = [] ∧ strmBeat d 16383 = 8 ∧ d.strmSt 16383 = 3 ∧
      after (.digestFrame (frm 1) 16383 8 1 77) (st d) (fun e => kvGetD e.peer.partner [] 16383 == [{ beat := 8, attempt := 1, digest := 77 }]) = true) ∧
    (let c : Commit := { beat := 7, attempt := 2, info := { kind := 0, tokens := 1, args := [] }, head := 0, len := 0, digest := 77, flags := 1, prev := List.replicate 64 9, append := false };
      let d := twin 2 { hist := [(16383, [c])] } [(descAddr 16383 0, 3), (descAddr 16383 6, 8), (descAddr 16383 10, 0x1000)];
      after (.digestFrame (frm 1) 16383 7 2 77) (st d) (fun e => (history e 16383).map (·.released) == [true]) = true ∧
      afterMem (.digestFrame (frm 1) 16383 7 2 77) (st d) (fun m => m.read (0x1000 + 8) 2 == [7, 0] && m.byteAt (0x1000 + 22) == 3) = true ∧
      after (.digestFrame (frm 1) 16383 7 2 78) (st d) (fun e => history e 16383 == [] && strmBeat e 16383 == 7 && strmAttempt e 16383 == 3 && e.rd TWIN_DISAGREE_COUNT == 1) = true ∧
      afterMem (.digestFrame (frm 1) 16383 7 2 78) (st d) (fun m => m.byteAt 0x1000 == 9) = true ∧
      after (.digestFrame (frm 1) 16383 7 2 78) (st { d with peer := { hist := [(16383, [{ c with released := true }])] } })
        (fun e => lapsed e 16383 && e.peer.barred == [16383] && e.rd TWIN_LATE_DISAGREE_COUNT == 1) = true) := by
  unfold InTurn; decide +kernel

theorem test_HoldAndTimeouts :
    after (.holdFrame (frm 1) 16382 0 0 false) (st (twin 2)) (fun d => decide (d = frameTaken (frm 1) (twin 2))) = true ∧
    (let d := twin 2 { partnerLast := [(16383, (7, 2))] } [(descAddr 16383 0, 3)];
      after (.holdFrame (frm 1) 16383 7 2 false) (st d) (fun e => lapsed e 16383 && e.peer.barred == [16383]) = true ∧
      after (.holdFrame (frm 1) 16383 8 0 false) (st d) (fun e => lapsed e 16383 && e.peer.barred == [] && e.rd TWIN_LAPSE_COUNT == 1) = true) ∧
    (let d := twin 2 { waitTick := [(16383, 0)] } [(TWIN_CFG, 0x10001)];
      same (.digestWaitTimeout 16383) (st d) = true ∧ d.rdF TWIN_CFG 27 16 = 1 ∧
      after (.digestWaitTimeout 16383) (st { d with time := { d.time with tb := 800 } }) (fun e => lapsed e 16383 && e.peer.waitTick == []) = true) := by decide +kernel

theorem test_IngestCounts :
    (let d := twin 2 {} [(descAddr 16383 0, 0x901), (STRM_RING_CFG 0, 0x80040000), (STRM_RING_CONS 0, 5)];
      after (.ingestFrame (frm 1) 16383 0 3) (st d) (fun e => kvGetD e.peer.counts [] 16383 == [(1, 0, 3)]) = true ∧
      same (.ingestWaitTimeout 16383) (st d) = true ∧
      (let d := { d with strm := { ingestWait := [(16383, 4)] } };
        countPeers d 16383 = [1] ∧ isLead d = false ∧ countOf d 16383 (partnerKey d) 0 = none ∧
        after (.ingestFrame (frm 1) 16383 0 3) (st d) (fun e => e.dF 16383 14 31 0 == 8 && e.strm.ingestWait == [] && e.strmSt 16383 == 2) = true ∧
        after (.ingestWaitTimeout 16383) (st d) (fun e => e.dF 16383 14 31 0 == 9 && lapsed e 16383) = true ∧
        after (.ingestWaitTimeout 16383) (st { d with peer := { counts := [(16383, [(1, 0, 2)])] } }) (fun e => e.dF 16383 14 31 0 == 7 && !lapsed e 16383) = true)) ∧
    same .partnerLost (st (twin 1)) = true ∧ partnerSilent (twin 2) = true ∧
    after .partnerLost (st (twin 2 {} [(descAddr 16383 0, 3)])) (fun d => twinSt d == 3 && lapsed d 16383 && bitOf (d.rd PINS_ALERT_SRC) 1) = true ∧
    partnerSilent (twin 2 { heard := [(1, 0)] } [(SPUR_PORT_STATUS 0, 1), (SPUR_PORT_EN, 1)]) = false := by decide +kernel

theorem test_Rebuilds :
    same (.rebuildStart 16383 true) (st (twin 2)) = true ∧
    (let d := twin 2 {} [(descAddr 16383 0, 1)];
      after (.rebuildStart 16383 false) (st d) (fun e => rebuilding e 16383 && e.strmSt 16383 == 4) = true ∧
      after (.rebuildStart 16383 true) (st d) (fun e => lapsed e 16383 && kvGet? e.peer.rebuild 16383 == some { source := true, step := 3 }) = true) ∧
    same (.copyFrame (frm 1) memCapacity [1]) (st (twin 2)) = true ∧
    afterMem (.copyFrame (frm 1) (memCapacity - 1) [1]) (st (twin 2 { rebuild := [(16383, { source := false, step := 1 })] })) (fun m => m.byteAt (memCapacity - 1) == 1) = true ∧
    after (.copyFrame { frm 1 with src := 0 } 64 [1]) (st (twin 2 { rebuild := [(16383, { source := true, step := 3 })] }) { bytes := [(64, 8)] })
      (fun d => d.tx == [.snigus 3 0x13 1 [1, 0, 64] [8]]) = true ∧
    same (.rebuildInstall 16383 0 0 0 []) (st (twin 2)) = true ∧
    after (.rebuildInstall 16383 0 0 0 []) (st (twin 2 { rebuild := [(16383, { source := true, step := 3 })] } [(descAddr 16383 0, 1), (descAddr 16383 6, 8)]))
      (fun d => kvGet? d.peer.rebuild 16383 == some { source := true, step := 6 } && d.tx.length == 1) = true ∧
    (let d := twin 2 { rebuild := [(16383, { source := false, step := 1 })] } [(descAddr 16383 0, 4), (descAddr 16383 10, 0x1000)];
      after (.rebuildInstall 16383 9 70 5 (List.replicate 64 3)) (st d) (fun e => strmBeat e 16383 == 9 && e.dF 16383 4 26 0 == 70 && e.strm.beats.map (·.refill) == [true]) = true ∧
      afterMem (.rebuildInstall 16383 9 70 5 (List.replicate 64 3)) (st d) (fun m => m.read 0x103F 2 == [3, 0]) = true) ∧
    (let b := { aBeat with refill := true };
      let d := { twin 2 { rebuild := [(16383, { source := false, step := 5 })] } [(descAddr 16383 0, 4)] with strm := { beats := [b] } };
      after (.rebuildDone 16383) (st d) (fun e => e.strm.beats == [] && kvGet? e.peer.rebuild 16383 == some { source := false, step := 6 } && e.strmSt 16383 == 1) = true ∧
      same (.rebuildDone 16383) (st { d with strm := { beats := [{ b with left := [47] }] } }) = true) := by decide +kernel
/-! ### Herds (14_channels_twin_herd.md) -/

/-- The module at position 63 of herd 0xFFFF, in a state, with the members of a mask. -/
def herded (state lead mask : Nat) (p : PeerSt := {}) (r : KV Word := []) : Dev :=
  { up ([(HERD_CFG, 0x803FFFFF), (HERD_STATE, w32 (state + lead * 256)), (HERD_MEMBERS 0, w32 mask), (HERD_MEMBERS 0 + 4, w32 (mask / 2 ^ 32)),
      (SPUR_PORT_STATUS 3, 1), (SPUR_PORT_EN, 8)] ++ r) with peer := p }

/-- A frame of a position of the herd. -/
def hfrm (pos seq : Nat) : FrameHdr := { plane := 3, herd := 0xFFFF, src := pos, gen := 0, seq, ack := 0 }

def both : Nat := 2 ^ 63 + 1

theorem test_HerdJoin :
    after .joinSend (st (herded 1 0 0)) (fun d => d.tx.length == 1) = true ∧ same .joinSend (st (herded 3 0 both)) = true ∧
    after (.joinFrame (hfrm 0 0) 0 0 0 0) (st (herded 3 0 both)) (fun d => d.tx == [] && d.peer.heard == [(0, 0)]) = true ∧
    (let d := herded 4 63 (2 ^ 63);
      joinRefusal d 0 0 0 0 = 0 ∧ joinRefusal d 0 1 0 0 = 1 ∧ joinRefusal d 63 0 0 0 = 3 ∧ joinRefusal d 0 0 1 0 = 4 ∧ joinRefusal d 0 0 0 2 = 6 ∧
      after (.joinFrame (hfrm 0 0) 0 0 0 2) (st d) (fun e => e.tx == [.snigus 3 0xA 0 [0, 0, 0, 6, 63] []]) = true ∧
      after (.joinFrame (hfrm 0 0) 0 0 0 1) (st { d with peer := { gens := [(0, 255)] } })
        (fun e => memberAt e 0 && memberAt e 63 && kvGet? e.peer.gens 0 == some 0 && kvGet? e.peer.syncing 0 == some 0 && e.tx.length == 1) = true) ∧
    same (.admitFrame (hfrm 0 0) 63 0 0 both 7 0 []) (st (herded 3 0 both)) = true ∧
    after (.admitFrame (hfrm 0 9) 63 5 6 both 7 0 [3]) (st (herded 1 0 0)) (fun d => herdSt d == 2 && memberAt d 0 && d.rd HERD_EPOCH == 6 && d.rd HERD_GEN == 7 &&
      kvGet? d.peer.gens 0 == some 3) = true ∧
    same (.refuseFrame (hfrm 0 0) 5 0) (st (herded 3 0 both)) = true ∧
    after (.refuseFrame (hfrm 0 0) 5 62) (st (herded 1 0 0)) (fun d => herdSt d == 1 && d.rd HERD_REFUSE_INFO == 0x3E05) = true ∧
    after (.refuseFrame (hfrm 0 0) 5 0) (st (herded 2 0 both)) (fun d => herdSt d == 1 && d.rd (HERD_MEMBERS 0) == 0) = true := by decide +kernel

theorem test_HerdMembership :
    InTurn (herded 3 0 both) (hfrm 0 1) ∧
    after (.membershipFrame (hfrm 0 1) 0 (both + 2) both 0 []) (st (herded 2 0 both)) (fun d => herdSt d == 3 && memberAt d 1 && curFold d == both) = true ∧
    after (.membershipFrame (hfrm 0 1) 0 both both 0 []) (st (herded 4 63 both)) (fun d => herdSt d == 3 && leadPos d == 0) = true ∧
    after (.membershipFrame (hfrm 0 1) 0 0 1 0 []) (st (herded 3 0 both {} [(descAddr 16383 0, 2)])) (fun d => herdSt d == 5 && d.strmSt 16383 == 4 && bitOf (d.rd PINS_ALERT_SRC) 1) = true ∧
    (let d := herded 3 0 both { otherMembers := some 1 } [(HERD_CFG, 0x823FFFFF)];
      InTurn d (hfrm 64 1) ∧ isLead d = false ∧
      after (.membershipFrame (hfrm 64 1) 0 3 1 0 []) (st d) (fun e => e.peer.otherMembers == some 3) = true ∧
      after (.reportFrame (hfrm 64 1) 0 6 7 0 0 0) (st d) (fun e => e.peer.otherDigest == some (6, 7)) = true) := by
  unfold InTurn; decide +kernel

def aReport (digest health : Nat := 0) : Report := { frame := 0, epoch := 0, digest, power := 0, phase := 0, health }

theorem test_HerdReports :
    (let d := herded 3 0 both {} [(HERD_AGREE, 0)];
      inHerd d = true ∧ inReset d = false ∧ same .herdReportSend (st { d with peer := { reported := true } }) = true ∧
      after .herdReportSend (st d) (fun e => e.peer.reported && e.tx.length == 1) = true ∧
      after .herdReportSend (st (herded 4 63 both {} [(HERD_AGREE, 0)])) (fun e => e.peer.reports.map (·.1) == [63]) = true ∧
      after (.reportFrame (hfrm 0 1) 0 0 0 0 0 0) (st (herded 4 63 both)) (fun e => e.peer.reports == [(0, aReport)]) = true ∧
      after (.reportFrame (hfrm 0 1) 0 0 0 0 0 0) (st d) (fun e => e.peer.reports == []) = true) ∧
    same (.herdCompare []) (st (herded 4 63 both)) = true ∧ same (.herdCompare []) (st (herded 3 0 both { reports := [(63, aReport)] } [(HERD_AGREE, 0)])) = true := by decide +kernel

theorem test_HerdCompare :
    (let d := fun rs miss => herded 4 63 (both + 2) { reports := (63, aReport) :: rs, missing := miss } [(HERD_AGREE, 0)];
      after (.herdCompare []) (st (d [(0, aReport 0 1), (1, aReport)] [])) (fun e => e.peer.reports == [] && memberAt e 0 && memberAt e 1) = true ∧
      after (.herdCompare []) (st (d [(0, aReport 9), (1, aReport)] [])) (fun e => !memberAt e 0 && memberAt e 1 && e.rd HERD_FENCE_COUNT == 1 && herdSt e == 4) = true ∧
      after (.herdCompare []) (st (d [(0, aReport 0 2), (1, aReport)] [])) (fun e => !memberAt e 0 && memberAt e 1) = true ∧
      after (.herdCompare []) (st (d [(1, aReport)] [(0, 2)])) (fun e => !memberAt e 0 && memberAt e 1) = true ∧
      after (.herdCompare []) (st (d [(1, aReport)] [(0, 1)])) (fun e => memberAt e 0 && kvGet? e.peer.missing 0 == some 2) = true ∧
      after (.herdCompare []) (st (d [(0, aReport 9), (1, aReport 9)] [])) (fun e => herdSt e == 5 && !memberAt e 0 && e.rd HERD_MISMATCH_COUNT == 2) = true) := by
  decide +kernel

theorem test_LeadLost :
    same .leadLost (st (herded 3 0 both)) = true ∧
    (let late := fun d : Dev => { d with time := { d.time with tb := 800000 } };
      same .leadLost (st (late (herded 1 0 0 { heard := [(62, 1)] }))) = true ∧
      after .leadLost (st (late (herded 1 0 0))) (fun d => herdSt d == 4 && leadPos d == 63 && memberAt d 63) = true ∧
      after .leadLost (st (late (herded 3 0 both {} [(CAD_CTRL, 3)]))) (fun d => herdSt d == 4 && leadPos d == 63 && !memberAt d 0 && d.rdF CAD_CTRL 1 0 == 2) = true ∧
      after .leadLost (st (late (herded 3 0 (both + 2)))) (fun d => herdSt d == 3 && leadPos d == 1) = true) := by decide +kernel
/-- The same twin with role B, whose reference is the partner. -/
def twinB (state : Nat) (p : PeerSt := {}) (r : KV Word := []) : Dev := twin (state + 16) p r

/-- A frame of role A. -/
def afrm (seq : Nat) : FrameHdr := { frm seq with src := 0 }

theorem test_TimeAndFrames :
    InTurn (twinB 2) (afrm 1) ∧ fromReference (twinB 2) (afrm 1) = true ∧ fromReference (twin 2) (frm 1) = false ∧
    after (.timeFrame (frm 1) 0 70000) (st (twin 2)) (fun d => d.rdF TWIN_LINK_RTT 15 0 == 65535 && d.tx.length == 1) = true ∧
    after (.timeFrame (afrm 1) 0 9) (st (twinB 2)) (fun d => d.rdF TWIN_LINK_RTT 15 0 == 9 && d.tx == []) = true ∧
    after (.frameFrame (frm 1) 5 0) (st (twin 2)) (fun d => decide (d = frameTaken (frm 1) (twin 2))) = true ∧
    after (.frameFrame (afrm 1) 5 8) (st (twinB 2 {} [(CAD_CTRL, 2)])) (fun d => d.peer.refFrame == some (5, 8) && d.cad.cause.isNone) = true ∧
    (let d := twinB 2 { refFrame := some (4, 0) } [(CAD_CTRL, 3)];
      d.cad.cause = none ∧ 16000000 ≤ (20000000 - 0) * 4 / 5 ∧
      after (.frameFrame (afrm 1) 5 20000000) (st d) (fun e => e.cad.cause.map (·.frame) == some (some 5) && e.rd CAD_PERIOD == 16000000) = true ∧
      after (.frameFrame (afrm 1) 5 200000000) (st d) (fun e => e.rd CAD_PERIOD == 160000000) = true) := by
  unfold InTurn; decide +kernel

/-- A member or lead whose frame runs. -/
def framed (state lead : Nat) : Dev :=
  let d := herded state lead both {} [(CAD_CTRL, 1 + 4 * 256), (CAD_STATE, 3)]
  { d with cad := { d.cad with framePeriod := 65536 } }

theorem test_HerdSchedules :
    (let d := framed 3 0;
      serviceAgent d = 0x10 ∧ firstFail (d.baseChecks 0x10 .cad ++ addChecks d [100, 0x00020000, 0x87, 0]) = none ∧ schedValid d 0 = false ∧
      after (.schedFrame (hfrm 0 1) 100 0x00020000 0x87 0 true) (st d) (fun e => schedValid e 0 && e.cad.distributed == [0] && entryWord e 0 0 == 100 && entryOwner e 0 == 0x10) = true ∧
      firstFail (d.baseChecks 0x10 .cad ++ addChecks d [100, 0x000F0000, 0, 0]) = some .reserved ∧
      after (.schedFrame (hfrm 0 1) 100 0x000F0000 0 0 true) (st d) (fun e => e.tx == [.snigus 3 0x11 0 [1, 1, CAD_SCHED_CMD, 0, ErrCode.reserved.code] []]) = true) ∧
    after (.schedFrame (hfrm 0 1) 100 0x00020000 0x87 0 true) (st (framed 4 63)) (fun e => !schedValid e 0) = true ∧
    after (.schedFrame (hfrm 0 1) 100 0x00020000 0x87 0 false) (st (framed 4 63)) (fun e => schedValid e 0) = true ∧
    after (.schedFrame (hfrm 0 1) 100 0x00020000 0x87 0 true) (st (framed 2 0)) (fun e => !schedValid e 0) = true := by decide +kernel

theorem test_RegAccess :
    implemented 0x3FFFFFC = false ∧ implemented HERD_GEN = true ∧
    after (.regAccess (hfrm 0 1) HERD_GEN none) (st (herded 3 0 both {} [(HERD_GEN, 77)])) (fun d => d.tx == [.snigus 3 0x11 0 [1, 1, HERD_GEN, 77, 0] []]) = true ∧
    after (.regAccess (hfrm 0 1) 0x3FFFFFC none) (st (herded 3 0 both)) (fun d => d.tx == [.snigus 3 0x11 0 [1, 1, 0x3FFFFFC, 0, 0xFF] []]) = true ∧
    after (.regResp (hfrm 0 1) HERD_GEN 77 0) (st (herded 4 63 both)) (fun d => d.peer.regResp == [(0, HERD_GEN, 77, 0)] && memberAt d 0) = true ∧
    after (.regResp (hfrm 0 1) CAD_SCHED_CMD 0 7) (st (herded 4 63 both)) (fun d => !memberAt d 0 && memberAt d 63 && d.rd HERD_FENCE_COUNT == 1) = true ∧
    after (.shareFrame (hfrm 0 1) 65535) (st (herded 3 0 both)) (fun d => d.rd PWR_HERD_SHARE == 0x8000FFFF && d.pwr.herdShareNext == some 65535) = true ∧
    inHerd (herded 3 0 both) = true ∧
    after (.appendFrame (hfrm 0 1) 7 8 63) (st (herded 3 0 both)) (fun d => d.peer.appendPend == [(7, 8, 63)] && kvGet? d.peer.appendPos 7 == none) = true ∧
    after (.appendFrame (hfrm 0 1) 7 0 63) (st (herded 3 0 both)) (fun d => d.peer.appendPend == [] && kvGet? d.peer.appendPos 7 == some 63) = true := by decide +kernel

theorem test_Partials :
    (let r := [(SPUR_PX_CFG, (0xFF000001 : Word)), (SPUR_PX_MASK 0, 1), (SPUR_PX_MASK 1, 0x80000000), (SPUR_PX_RX_BASE_LO, 0x10000), (SPUR_PX_TX_BASE_LO, 0x8000)];
      let d := herded 3 0 both {} r;
      pxMask d = both ∧ d.rdF SPUR_PX_CFG 31 24 = 255 ∧ pxSize d = 64 ∧
      after (.partialFrame (hfrm 0 1) 255 (5 :: List.replicate 63 0)) (st d) (fun e => (pxSlot e 255).got == [0] && (pxSlot e 255).use == 5 && e.rd (SPUR_PX_COUNT 1) == 1) = true ∧
      afterMem (.partialFrame (hfrm 0 1) 255 (5 :: List.replicate 63 0)) (st d) (fun m => m.byteAt (0x10000 + 64 * 255 * 64) == 5) = true ∧
      after (.partialFrame (hfrm 0 1) 0 []) (st (herded 3 0 both)) (fun e => e.rd SPUR_PX_DROP_COUNT == 1 && e.flt.pendingRecords.length == 1) = true ∧
      same .pxTxTrigger (st d) = true ∧
      after .pxTxTrigger (st { d with fab := { d.fab with pxResults := [255] } } { bytes := [(0x8000 + 255 * 64, 5)] })
        (fun e => (pxSlot e 255).sent && (pxSlot e 255).use == 5 && e.peer.unacked.map (fun u => (u.peer, u.typ, u.fields)) == [(0, 0x12, [255])]) = true ∧
      after .pxTxTrigger (st { herded 3 0 both with fab := { (up).fab with pxResults := [255] } }) (fun e => e.fab.pxResults == []) = true) := by decide +kernel

theorem test_HerdApply :
    (digestPages.any fun p => pageOf (4096 * 0x87) == some (p, 0)) = true ∧
    after (.herdApply 0x10 0x87) (st (framed 2 0)) (fun d => d.rdF (Page.herd.base + 0x10) 7 0 == ErrCode.state.code) = true ∧
    after (.herdApply 0x10 0xF0087) (st (framed 4 63)) (fun d => schedValid d 0 && entryWord d 0 0 == 17) = true ∧
    after (.herdApply 0x10 0x87) (st (framed 3 0)) (fun d => d.tx == [.snigus 3 0xE 0 [1, 0, 2, 0x20000, 0x87, 0, 0] []]) = true := by decide +kernel
/-! ### Clocks (11_clocking.md) -/

/-- At point 0, divider 12, 700 mV; points 1 (divider 6, 800 mV) and 2 (divider 24, 600 mV) are valid; the VCO runs at 8 GHz. -/
def clk (r : KV Word := []) (p : List Nat := []) : Dev :=
  { up ([(CLK_VCO, 8000), (CLK_CUR, 0xC00), (CLK_OPP 0, 0x82BC000C), (CLK_OPP 1, 0x83200006), (CLK_OPP 2, 0x82580018), (CLK_OPP 7, 0),
      (CLK_FIELD_PLL, 0x0FFF0FFF)] ++ r) with clk := { confirmed := p } }

/-- An ARMED change to a point at tick 0, distributed. -/
def arm (opp : Nat) (p : List Nat := []) : Dev :=
  let d := clk [(CLK_CHG_STATE, w32 (1 + 16 * opp)), (FIELD_SEAM_E 0, 0x80000100)] p
  { d with clk := { d.clk with distributed := true, dieHold := true } }

theorem test_ChangeRequests :
    (clk).mayWrite 0x10 .clk = true ∧ (clk).isFenced .clk = false ∧ (clk).curOpp = 0 ∧
    same (.chgReq 0x10 0) (st (clk)) = true ∧
    after (.chgReq 0x10 1) (st (clk)) (fun d => d.rd CLK_CHG_STATE == 17 && d.rd64 (CLK_CHG_TS 0) == 400000 && d.pwr.baseMv == 800 && d.rdF (PWR_VSET 11) 25 16 == vset d 11) = true ∧
    after (.chgReq 0x10 2) (st (clk)) (fun d => d.rd CLK_CHG_STATE == 33 && d.rd64 (CLK_CHG_TS 0) == 16000 && d.pwr.baseMv == (clk).pwr.baseMv) = true ∧
    after (.chgReq 0x10 7) (st (clk)) (fun d => d.rdF (Page.clk.base + 0x10) 7 0 == ErrCode.range.code) = true ∧
    after (.chgReq 0x10 2) (st (arm 1)) (fun d => d.rdF (Page.clk.base + 0x10) 7 0 == ErrCode.busy.code) = true := by decide +kernel

theorem test_ChangeSteps :
    same .chgVoltCheck (st (arm 2)) = true ∧ same .chgVoltCheck (st (arm 1 (List.range 12))) = true ∧
    after .chgVoltCheck (st (arm 1 (List.range 11))) (fun d => d.chgState == 0 && d.rd CLK_ABORT_COUNT == 1 && d.pwr.baseMv == 700 && d.rdF (Page.clk.base + 0x10) 7 0 == 3) = true ∧
    same .chgDistribute (st (arm 1)) = true ∧ after .chgDistribute (st (arm 2)) (fun d => d.clk.distributed) = true ∧
    same .seamHold (st (clk)) = true ∧ seamPresent (arm 2) 0 false = true ∧ seamReg 0 false = FIELD_SEAM_E 0 ∧
    after .seamHold (st (arm 2)) (fun d => bitOf (d.rd (FIELD_SEAM_E 0)) 9) = true ∧
    same (.clockStop []) (st (clk)) = true ∧ after (.clockStop []) (st (arm 2)) (fun d => d.chgState == 2 && d.rdF CLK_FIELD_PLL 27 16 == 0) = true ∧
    (let d := clk [(CLK_CHG_STATE, 0x22), (CLK_FIELD_PLL, 0xFFF)];
      same .clockRestart (st (atTick 31 d)) = true ∧
      after .clockRestart (st (atTick 32 d)) (fun e => e.chgState == 0 && e.rd CLK_CUR == 0x1802 && e.rd CLK_CHG_COUNT == 1 && e.rd CLK_FIELD_PLL == 0x0FFF0FFF) = true) ∧
    after (.railConfirm 11 (vset (arm 1) 11 + 5)) (st (arm 1)) (fun d => d.clk.confirmed == [11]) = true ∧
    after (.railConfirm 11 (vset (arm 1) 11 + 6)) (st (arm 1)) (fun d => d.clk.confirmed == []) = true ∧
    after (.railConfirm 17 5) (st (arm 1)) (fun d => d.rdF (PMB_RAIL_STAT 17) 11 0 == 5) = true := by decide +kernel

theorem test_SingleFieldPoints :
    (let d := clk [(FIELD_HEALTH 11, 0x10)];
      after (.qFieldWrite 0x10 0x8000060B) (st d) (fun e => e.rd CLK_Q_FIELD == 0x8000060B && e.clk.fieldDiv == [(11, 6)]) = true ∧
      8000 ≤ 1400 * 6 ∧
      after (.qFieldWrite 0x10 0x8000060B) (st (clk)) (fun e => e.rdF (Page.clk.base + 0x10) 7 0 == ErrCode.state.code) = true ∧
      after (.qFieldWrite 0x10 0x0000060B) (st (clk [(CLK_Q_FIELD, 0x8000060B)])) (fun e => e.rd CLK_Q_FIELD == 0x60B && e.clk.fieldDiv == []) = true) ∧
    same (.pllUnlock 11) (st (clk [(CLK_FIELD_PLL, 0)])) = true ∧
    after (.pllUnlock 11) (st (clk)) (fun d => d.rd CLK_FIELD_PLL == 0x07FF07FF && d.rd CLK_PLL_UNLOCK_COUNT == 1) = true ∧
    same (.pllRelockDone 11 true) (st (clk)) = true ∧
    after (.pllRelockDone 11 true) (st (clk [(CLK_FIELD_PLL, 0)])) (fun d => d.rd CLK_FIELD_PLL == 0x08000800 && bitOf (d.rd TIME_DIST_STATUS) 11) = true ∧
    after (.pllRelockDone 11 false) (st (clk [(CLK_FIELD_PLL, 0)])) (fun d => d.flt.fieldFailed == [11] && d.rdF (FIELD_HEALTH 11) 1 0 == 3 && !d.domOn 155) = true := by decide +kernel

theorem test_Refclk :
    (let d := { clk with held := false };
      after .refclkLoss (st d) (fun e => e.clk.refLost && e.time.stopped && e.rd CLK_REF_STATUS == 2 && bitOf (e.rd PINS_FAULT_COND) 0 && e.rdF FLOOR_STATE 2 0 == 4) = true ∧
      same .refclkReturn (st d) = true ∧ same .refclkLoss (st { d with held := true }) = true ∧
      (let e := { d with clk := { d.clk with refLost := true } }; e.clk.refLost = true ∧ inReset e = false ∧ e.domOn 155 = true)) := by decide +kernel
/-! ### Power and heat (12_power_thermal.md) -/

/-- A device whose phases may carry 50 A each, with its readings of power. -/
def pow (p : PowerSt := {}) (r : KV Word := []) : Dev := { clk ([(PMB_PHASE_IMAX, 50)] ++ r) with pwr := p }

theorem test_RailPolls :
    after (.avsPoll 13 false 0 0 [] []) (st (pow)) (fun d => bitOf (d.rd (PMB_RAIL_STAT 13)) 15 && d.rd PMB_COMM_ERR_COUNT == 1 && kvGet? d.pwr.commTick 13 == some 0) = true ∧
    after (.avsPoll 13 true 800 65535 [] []) (st (pow { commTick := [(13, 0)] } [(PMB_RAIL_STAT 13, 0x8000)])) (fun d => d.rd (PMB_RAIL_STAT 13) == 0xFFFF0320 && d.pwr.commTick == []) = true ∧
    (let d := { pow with flt := { (pow).flt with fieldFailed := [11] } };
      d.phaseFailed 143 = false ∧
      after (.avsPoll 11 true 800 0 [11] []) (st d) (fun e => e.phaseFailed 143 && e.rd PWR_PHASE_EVENT_COUNT == 1 && bitOf (e.rd PINS_ALERT_SRC) 1) = true) ∧
    after (.pmbusPoll 17 false 0 0 false) (st (pow)) (fun d => bitOf (d.rd (PMB_RAIL_STAT 17)) 15) = true ∧
    after (.pmbusPoll 17 true 800 4 false) (st (pow)) (fun d => d.rd (PMB_RAIL_STAT 17) == 0x00040320) = true ∧
    after (.pmbusPoll 17 true 800 4 true) (st (pow)) (fun d => bitOf (d.rd PINS_ALERT_SRC) 1 && d.flt.pendingRecords.length == 1) = true ∧
    (let d := fun (r t : Nat) => atTick t (pow { commTick := [(r, 0)] } [(PMB_RAIL_STAT r, 0x8000)]);
      same (.commTimeout 11) (st (d 11 79999)) = true ∧ same (.commTimeout 11) (st (pow)) = true ∧
      after (.commTimeout 13) (st (d 13 80000)) (fun e => e.rd PWR_PHASE_EVENT_COUNT == 1 && bitOf (e.rd PINS_ALERT_SRC) 1) = true) ∧
    after .smbalert (st (pow)) (fun d => d.rd PMB_ALERT_COUNT == 1 && d.tx == [.alertResponse]) = true ∧
    after (.railFault 15 2 []) (st (pow)) (fun d => d.rd (PMB_RAIL_STAT 15) == 0x4000) = true ∧
    after (.railFault 17 0 []) (st (pow)) (fun d => bitOf (d.rd PINS_FAULT_SRC) 1) = true ∧
    after (.railFault 13 1 []) (st (pow)) (fun d => d.rdF FLOOR_STATE 2 0 == 4) = true ∧
    after (.railFault 11 1 []) (st (pow)) (fun d => d.flt.fieldFailed == [11]) = true := by decide +kernel

theorem test_CommTimeout_core : let d := atTick 80000 (pow { commTick := [(11, 0)] } [(PMB_RAIL_STAT 11, 0x8000)])
    kvGet? d.pwr.commTick 11 = some 0 ∧ d.time.tb = 80000 ∧ bitOf (d.rd (PMB_RAIL_STAT 11)) 15 = true := by decide +kernel

theorem test_Domains :
    (let d := { pow with fenced := [fieldBase 11, mempBase 7] };
      domainInUse d 163 = false ∧ domainInUse d 155 = false ∧ domainInUse (pow) 163 = true ∧
      after (.domCtrl 0x10 163) (st d) (fun e => e.pwr.domSwitch == some (163, false) && bitOf (e.rd (Page.pwr.base + 0xC)) 4) = true ∧
      after (.domCtrl 0x10 0x1A7) (st d) (fun e => e.pwr.domSwitch == some (167, true)) = true ∧
      after (.domCtrl 0x10 163) (st (pow)) (fun e => e.rdF (Page.pwr.base + 0x10) 7 0 == ErrCode.state.code) = true) ∧
    same .domainSwitchDone (st (pow)) = true ∧
    after .domainSwitchDone (st (pow { domSwitch := some (155, false) })) (fun d => !d.domOn 155 && d.domOn 154 && d.rd CLK_FIELD_PLL == 0x07FF07FF && d.pwr.domSwitch == none) = true ∧
    after .domainSwitchDone (st (pow { domSwitch := some (167, true) } [(PWR_DOM_ON 5, 0)])) (fun d => d.domOn 167 && !d.domOn 166) = true := by decide +kernel

theorem test_CeilingsAndDroop :
    (pow).ceilA 11 = 600 ∧ (pow).workingPhases 11 = 12 ∧
    after (.ceilEval 11) (st (pow { ceilReq := [(11, 9)] } [(PWR_FIELD_PWR 11, 0x4000)])) (fun d => kvGetD d.pwr.ceilReq 16 11 == 16) = true ∧
    after (.ceilEval 11) (st (pow {} [(PWR_FIELD_PWR 11, 0x4000), (PMB_RAIL_STAT 11, 0x0BB80000)])) (fun d => kvGetD d.pwr.ceilReq 16 11 == 12 && d.rdF (PWR_FIELD_PWR 11) 14 10 == 12) = true ∧
    after (.ceilEval 11) (st (pow { ceilReq := [(11, 9)], ceilOk := [(11, 19)] } [(PWR_FIELD_PWR 11, 0x2400), (PWR_PHASE_FAIL 4, 0x8000)])) (fun d => kvGetD d.pwr.ceilReq 16 11 == 10) = true ∧
    same (.droopStretchEnd 11 5) (st (pow)) = true ∧ same (.stretchEscalation 11) (st (pow)) = true ∧ same (.droopPersistCheck 11 true) (st (pow)) = true ∧
    after (.droopStretchEnd 11 5) (st (pow { stretched := [11], tripped := [143], droopEsc := [11] })) (fun d => d.pwr.stretched == [] && d.pwr.tripped == [] && d.rd PWR_DROOP_CYCLES == 5) = true ∧
    after (.stretchEscalation 11) (st (pow { stretched := [11] })) (fun d => d.rdF (PWR_FIELD_PWR 11) 14 10 == 8 && bitOf (d.rd PWR_THR_CAUSE) 1 && d.pwr.escalated == [(11, 0)]) = true ∧
    same (.droopPersistCheck 11 true) (st (atTick 799999 (pow { escalated := [(11, 0)] }))) = true ∧
    same (.droopPersistCheck 11 false) (st (atTick 800000 (pow { escalated := [(11, 0)] }))) = true ∧
    after (.droopPersistCheck 11 true) (st (atTick 800000 (pow { escalated := [(11, 0)] }))) (fun d => d.flt.fieldFailed == [11]) = true ∧
    domainField 167 = 11 ∧ after (.droopTrip 167) (st (pow)) (fun d => d.pwr.tripped == [167] && d.pwr.stretched == [11] && d.rd PWR_DROOP_COUNT == 1) = true ∧
    after (.droopTrip 143) (st (pow { stretched := [11] })) (fun d => d.pwr.tripped == [143] && d.rd PWR_DROOP_COUNT == 0) = true := by decide +kernel

theorem test_PowerLimits :
    after (.hintExpire 47) (st (pow { hints := [{ src := 47, level := 7, span := 9 }, { src := 46, level := 1, span := 9 }] })) (fun d => d.pwr.hints.map (·.src) == [46]) = true ∧
    after (.perfMeasuredUpdate 70000) (st (pow)) (fun d => d.rdF PWR_PERF 31 16 == 65535) = true ∧
    after .trimFlashWrite (st (pow { trim := [(11, 5)] })) (fun d => d.boot.store.trims == [(11, 5)]) = true ∧
    after .powerSample (st (pow { activity := [(3, 1)] } [(PMB_RAIL_STAT 12, 0x00640320)])) (fun d => d.rdF PWR_POWER_NOW 15 0 == 20 && d.pwr.activity == [] && d.pwr.samples == [(0, 20)]) = true ∧
    (let r := [(PWR_SUST_CAP, (0x10000 : Word))];
      (pow {} r).sustLimit = 0 ∧ after .sustStep (st (pow { sustSteps := 9, sustLow := 3 } r)) (fun d => d.pwr.sustSteps == 8 && d.pwr.sustLow == 0) = true ∧
      (pow {} ((CLK_CUR, 0x601) :: r)).oppBelow 1 = some 0 ∧ firstFail (chgChecks 0 (pow {} r)) = none ∧
      after .sustStep (st (pow { sustSteps := 1 } ([(CLK_CUR, 0x601), (PWR_POWER_SUST, 1)] ++ r))) (fun d => d.chgState == 1 && kvGet? d.pwr.oppReq 7 == some 0 && d.rd PWR_OPP_DOWN_COUNT == 1 && d.pwr.sustSteps == 10) = true ∧
      (pow {} r).shortLimit = 0 ∧ same .shortTermStep (st (pow {} r)) = true ∧
      after .shortTermStep (st (atTick 90000 (pow { samples := [(89000, 10)] } r))) (fun d => d.pwr.shortDuty == 15 && d.rdF (PWR_FIELD_PWR 11) 14 10 == 15 && bitOf (d.rd PWR_THR_CAUSE) 2) = true) ∧
    (let d := pow { shortDuty := 14 } [(PWR_SUST_CAP, 0x103E8), (LIC_PROFILE, 1)];
      0 < d.shortLimit ∧ after .shortTermStep (st d) (fun e => e.pwr.shortDuty == 15) = true) := by decide +kernel

theorem test_SharesAndTrims :
    (let d := herded 3 0 both;
      inHerd d = true ∧ after (.herdShare 0x10 0x8000FFFF) (st d) (fun e => e.rd PWR_HERD_SHARE == 0x8000FFFF && e.pwr.herdShareNext == some 65535) = true ∧
      after (.herdShare 0x10 5) (st d) (fun e => e.pwr.herdShareNext == none && e.rd PWR_HERD_SHARE == 5) = true ∧
      after (.herdShare 0x10 5) (st (pow)) (fun e => e.rdF (Page.pwr.base + 0x10) 7 0 == ErrCode.state.code) = true) ∧
    same (.trimAdjust 11 false false) (st (pow)) = true ∧ same (.trimAdjust 11 true false) (st (pow { trim := [(11, 60)] })) = true ∧
    same (.trimAdjust 11 true false) (st (atTick 7999999999 (pow { trimTick := [(11, 0)] }))) = true ∧
    after (.trimAdjust 11 true false) (st (atTick 8000000000 (pow { trimTick := [(11, 0)] }))) (fun d => kvGetD d.pwr.trim 0 11 == 5 && d.boot.store.trims == [(11, 5)]) = true ∧
    after (.trimAdjust 11 false true) (st (pow { trim := [(11, -40 + 3)] })) (fun d => kvGetD d.pwr.trim 0 11 == -40) = true ∧
    after (.trimAdjust 11 true false) (st (pow { trim := [(11, 55)] })) (fun d => bitOf (d.rd PWR_FLAGS) 0 && bitOf (d.rd PINS_ALERT_SRC) 1) = true := by decide +kernel

theorem test_Thermal :
    after (.thermalPoll [(191, 400)]) (st (pow)) (fun d => d.pwr.dutyOn && d.rdF THERM_STATE 2 0 == 2 && d.rd THERM_TJ_MAX == 0x00BF0190) = true ∧
    after (.thermalPoll [(191, 399)]) (st (pow)) (fun d => !d.pwr.dutyOn) = true ∧
    after (.thermalPoll [(191, 389)]) (st (pow { dutyOn := true })) (fun d => d.pwr.dutyOn) = true ∧
    after (.thermalPoll [(191, 388)]) (st (pow { dutyOn := true })) (fun d => !d.pwr.dutyOn) = true ∧
    after (.thermalPoll [(192, 500)]) (st (pow)) (fun d => d.pwr.sensor == []) = true ∧
    after (.thermalStepTimer 0) (st (pow { warnOn := true })) (fun d => d.rd THERM_THROTTLE_MS == 0) = true ∧
    after (.thermalStepTimer 0) (st (pow { dutyOn := true, sensor := [(143, 408)], thermDuty := [(11, 9)] })) (fun d => d.rd THERM_THROTTLE_MS == 1 && kvGetD d.pwr.thermDuty 16 11 == 8) = true ∧
    after (.thermalStepTimer 0) (st (pow { dutyOn := true, sensor := [(143, 408)] })) (fun d => kvGetD d.pwr.thermDuty 16 11 == 12) = true ∧
    same (.thermalStepTimer 1) (st (pow { oppOn := true, sensor := [(0, 411)] })) = true ∧
    after (.thermalStepTimer 1) (st (pow { oppOn := true, sensor := [(0, 412)] } [(CLK_CUR, 0x601)])) (fun d => d.chgState == 1 && kvGet? d.pwr.oppReq 5 == some 0) = true ∧
    same (.thermalStepTimer 2) (st (pow)) = true ∧
    same (.hbmHotStep 7) (st (pow)) = true ∧
    (let d := pow {} [(CLK_CUR, 0x601), (MEMP_STATUS_MP 7, 8)];
      mempHot d 7 = true ∧ after (.hbmHotStep 7) (st d) (fun e => kvGet? e.pwr.oppReq 6 == some 0) = true) := by decide +kernel

theorem test_ThermalTrip :
    after .thermalTrip (st (pow { railsOn := [11, 12, 13, 14] })) (fun d => !d.domOn 0 && !d.domOn 143 && d.domOn 144 && d.pwr.railsOn == [11, 14] && bitOf (d.rd PINS_FAULT_COND) 2) = true := by
  decide +kernel
/-! ### Faults and recovery (13_faults_recovery.md) -/

/-- Site 13823 with ID 5 active, site 13822 a spare of its field where there is one; a queue of trials. -/
def failing (spare : Bool) (q : List (Nat × Nat)) (r : KV Word := []) : Dev :=
  let d := meshed (up ([(TILE_BIND 13823, 0x80010005), (FLOOR_REFILL_BASE_LO, 0x100000), (FLOOR_IMAGE_BASE_LO, 0x200000)] ++ r))
  { d with flt := { d.flt with siteState := (if spare then [(13822, 1)] else []) ++ [(13823, 2)], trialQueue := q } }

/-- The trial of site 13823 at its refill. -/
def refilling (t : Trial → Trial := id) (done : Nat := 0) : Dev :=
  let d := failing true [] [(TILE_BIND 13822, 0x80020005)]
  { d with flt := { d.flt with refillDone := done, trial := some (t { site := 13823, spare := 13822, logical := 5, gen := 2, withFence := false, step := 5, holdTick := 0, refillTick := 0 }) } }

theorem test_TrialStart :
    same .trialStart (st up) = true ∧ same .trialStart (st (refilling)) = true ∧
    (let d := failing true [(100, 0), (13823, 0)];
      takeFirst (trialAllowed d) d.flt.trialQueue = some ((100, 0), [(13823, 0)]) ∧
      after .trialStart (st d) (fun e => e.flt.trialQueue == [(13823, 0)] && e.rdF FLOOR_STATE 16 12 == 1) = true) ∧
    (let d := failing true [(13823, 0)];
      nearestSpare d 13823 = some 13822 ∧ (d.flt.siteState.map (·.1)).Pairwise (· < ·)) ∧
    nearestSpare (failing false [(13823, 0)]) 13823 = none ∧
    (up).mayWrite 0x10 .floor = true ∧
    siteState (failing true []) 13823 = 2 ∧ bitOf ((failing true []).rd FLOOR_STATE) 5 = false ∧
    after (.trial 0x10 13822) (st (failing true [])) (fun e => e.rdF (Page.floor.base + 0x10) 7 0 == ErrCode.state.code) = true ∧
    after (.trialWithFence 0x10 13823) (st (failing true [] [(FLOOR_STATE, 0x20)])) (fun e => e.rdF (Page.floor.base + 0x10) 7 0 == ErrCode.busy.code) = true ∧
    after (.reinstate 0x10 13823) (st (failing true [])) (fun e => e.rdF (Page.floor.base + 0x10) 7 0 == ErrCode.state.code) = true := by decide +kernel

theorem test_TrialWithFence :
    addRegion 13823 [] = none ∧ after (.trialWithFence 0x10 13823) (st (failing true [])) (fun d => d.flt.fieldFailed == [11]) = true ∧
    after .trialStart (st (failing true [(13823, 1)])) (fun d => d.flt.fieldFailed == [11] && d.flt.trial.isNone) = true ∧
    (let d := { up with flt := { (up).flt with siteState := [(5000, 2), (5001, 1)] } };
      (addRegion 5000 []).isSome = true ∧ (fenceRouter 5000 {} d).2 = true ∧ nearestSpare (fenceRouter 5000 {} d).1 5000 = some 5001) := by decide +kernel

theorem test_Refill :
    same (.refillPacket 1 []) (st (failing true [])) = true ∧ same .refillDone (st up) = true ∧ same .refillTimeout (st up) = true ∧
    after (.refillPacket 1 []) (st (refilling fun t => { t with gen := 3 })) (fun d => d.flt.refillDone == 0 && d.tiles == []) = true ∧
    (let x : ExtMem := { bytes := [(0x100500, 64), (0x100507, 0x80), (0x10050C, 1), (64, 9)] };
      refillLines x (refilling) 5 = [(1, 0), (2, 16)] ∧
      after (.refillPacket 1 []) (st (refilling) x) (fun d => (d.tile 13822).rd 0 == 9 && d.flt.refillDone == 1) = true ∧
      same .refillDone (st (refilling id 1) x) = true ∧
      after .refillDone (st (refilling id 2) x) (fun d => d.flt.trial.map (·.step) == some 7 && d.rdF FLOOR_REFILL_STATUS 7 0 == 255) = true) ∧
    same .refillTimeout (st (atTick 319999 (refilling))) = true ∧
    after .refillTimeout (st (atTick 320000 (refilling))) (fun d => d.flt.trial.map (·.retried) == some true && d.flt.refillDone == 0) = true := by decide +kernel

theorem test_UnitFailures :
    same (.seamRelockTimeout 11 true) (st up) = true ∧
    (let d := atTick 8000 (up [(FIELD_SEAM_E 0, 0x80000000)]);
      seamPresent d 0 false = true ∧ after (.seamRelockTimeout 0 false) (st d) (fun e => bitOf (e.rd (FIELD_SEAM_E 0)) 10 && e.flt.fieldFailed == [0]) = true) ∧
    same (.tbCopyCheck [12]) (st up) = true ∧ after (.tbCopyCheck [11]) (st up) (fun d => d.flt.fieldFailed == [11]) = true ∧
    same (.memPortFail 7) (st (up [(MEMP_STATUS_MP 7, 2)])) = true ∧
    after (.memPortFail 7) (st up) (fun d => bitOf (d.rd (MEMP_STATUS_MP 7)) 1 && d.fenced.contains (Page.memp 7).base && d.rdF FLOOR_STATE 2 0 == 3) = true := by decide +kernel
/-- A field whose slice runs. -/
def slicing (run : IbexRun → IbexRun := id) (r : KV Word := []) : Dev :=
  let d := pow {} ([(PWR_FIELD_PWR 11, 0x4000), (FLT_IBEX_STATUS, 0xB03)] ++ r)
  { d with flt := { d.flt with siteState := [(13823, 2)], ibexRun := some (run { field := 11 }) } }

theorem test_ErrorRing :
    same .errorRecordStore (st up) = true ∧ same .ringBudgetEnd (st up) = true ∧
    (let r : ErrRec := { cls := 0x18, kind := 10, unit := 3, synd := 5 }
      let d := fun (n : Nat) => { up [(FLT_RING_STATUS, 0xFFFF0FFF), (FLT_BUDGET, 1), (FLT_FAULT_MASK, 0x1000000), (FLT_ALERT_MASK, 0x1000000)] with flt := { (up).flt with pendingRecords := [r], msStored := [(0x18, n)] } };
      after .errorRecordStore (st (d 0)) (fun e => e.rd FLT_RING_STATUS == 0x1000 && e.flt.classCount == [(0x18, 1)] && e.rd (ringAddr 4095 0) == (r.words 0xFFFF).getD 0 0 && bitOf (e.rd PINS_FAULT_SRC) 0 && bitOf (e.rd PINS_ALERT_SRC) 0) = true ∧
      after .errorRecordStore (st (d 1)) (fun e => e.rd FLT_RING_STATUS == 0xFFFF0FFF && e.flt.classCount == [(0x18, 1)] && e.flt.msSuppressed == [(0x18, 1)] && e.rd FLT_SUPPRESSED == 1) = true) ∧
    (let d := atTick 800000 { up with flt := { (up).flt with msSuppressed := [(3, 2)] } };
      d.flt.ms ≠ d.ms ∧ after .ringBudgetEnd (st d) (fun e => e.flt.ms == e.ms && e.flt.msSuppressed == [] && e.rdF FLT_RING_STATUS 31 16 == 1) = true) := by decide +kernel

theorem test_PewterPairs :
    same (.pewterDisagree 3) (st { up with flt := { (up).flt with pairsOut := [3] } }) = true ∧
    after (.pewterDisagree 3) (st (atTick 2880000000000 { up with flt := { (up).flt with pairTicks := [(3, [0, 0])] } })) (fun d => d.flt.pairsOut == [3] && d.flt.pairsRetired == [3]) = true ∧
    after (.pewterDisagree 3) (st (atTick 2880000000001 { up with flt := { (up).flt with pairTicks := [(3, [0, 0])], pairsOut := [0, 1] } })) (fun d => d.flt.pairsRetired == [] && d.rdF FLOOR_STATE 2 0 == 4) = true ∧
    after (.pewterPairRejoin 3) (st { up with flt := { (up).flt with pairsOut := [3] } }) (fun d => workingPairs d == [0, 1, 2, 3]) = true ∧
    same (.pewterPairRejoin 3) (st up) = true ∧ same (.pewterPairRejoin 3) (st { up with flt := { (up).flt with pairsOut := [3], pairsRetired := [3] } }) = true := by decide +kernel

theorem test_IbexStart : let lic := (DEV_CAP (2 * capIds.idxOf 0x060 + 1), (0x80000000 : Word))
    (up).mayWrite 0x10 .flt = true ∧ (up).isFenced .flt = false ∧ fs3Used up 11 = false ∧
    after (.ibexStart 0x10 11) (st (up [lic])) (fun d => d.flt.ibexDue == [11] && d.rd FLT_IBEX_STATUS == 0xB01) = true ∧
    after (.ibexStart 0x10 11) (st { up [lic] with flt := { (up).flt with ibexDue := [0] } }) (fun d => d.rdF (Page.flt.base + 0x10) 7 0 == ErrCode.busy.code) = true ∧
    after (.ibexStart 0x10 11) (st (up [lic, (FIELD_HEALTH 11, 3)])) (fun d => d.rdF (Page.flt.base + 0x10) 7 0 == ErrCode.state.code) = true ∧
    after (.ibexAbort 0x10) (st up) (fun d => d.rd FLT_IBEX_CTRL == 0x200 && d.flt == (up).flt) = true ∧
    after (.ibexAbort 0x10) (st (slicing)) (fun d => d.flt.ibexRun.map (·.verdict) == some 5 && d.rdF FLT_IBEX_STATUS 2 0 == 4) = true ∧
    same (.ibexPeriodDue 11) (st (up [(FLT_IBEX_PERIOD, 1)])) = true ∧
    after (.ibexPeriodDue 11) (st (atTick 2880000000000 (up [(FLT_IBEX_PERIOD, 1)]))) (fun d => d.flt.ibexDue == [11]) = true := by decide +kernel

theorem test_IbexSlice :
    same .ibexSliceStart (st up) = true ∧ same .ibexSliceStart (st (slicing)) = true ∧
    (let d := { up with flt := { (up).flt with ibexDue := [11], siteState := [(13823, 2)] } };
      d.flt.ibexRun = none ∧ d.flt.ibexDue.find? (ibexMayStart d) = some 11 ∧ ∀ x ∈ boundSites d 11, x < 13824) ∧
    same (.ibexStep true) (st up) = true ∧ same .ibexRestoreDone (st up) = true ∧
    same (.ibexStep true) (st (slicing id [(FLT_IBEX_STATUS, 0xB04)])) = true ∧
    after (.ibexStep true) (st (slicing fun r => { r with voided := true })) (fun d => d.flt.ibexRun.map (·.verdict) == some 4 && d.rdF FLT_IBEX_STATUS 2 0 == 4) = true ∧
    after (.ibexStep true) (st (slicing)) (fun d => d.flt.ibexRun.map (·.voided) == some true && d.fab.cmds.length == 1) = true ∧
    after (.ibexStep false) (st (slicing id [(FLT_IBEX_CFG, 0x100)])) (fun d => d.flt.ibexRun.map (·.k) == some 1 && d.rdF FLT_IBEX_STATUS 7 4 == 1) = true ∧
    after (.ibexStep false) (st (slicing (fun r => { r with k := 1 }) [(FLT_IBEX_CFG, 0x100)])) (fun d => d.flt.ibexRun.map (·.k) == some 1 && d.rdF FLT_IBEX_STATUS 2 0 == 4) = true ∧
    same .ibexRestoreDone (st (slicing)) = true ∧
    after .ibexRestoreDone (st (slicing (fun r => { r with verdict := 5 }) [(FLT_IBEX_STATUS, 0xB04), (FIELD_HEALTH 11, 0x10)])) (fun d => d.flt.ibexRun == none && d.rdF (FIELD_HEALTH 11) 4 4 == 0 && d.rdF FLT_IBEX_STATUS 15 12 == 5) = true ∧
    after .ibexRestoreDone (st (slicing (fun r => { r with failed := [(13823, 0)] }) [(FLT_IBEX_STATUS, 0xB04)])) (fun d => d.flt.trialQueue == [(13823, 2)] && d.rdF FLT_IBEX_STATUS 15 12 == 2) = true := by decide +kernel
/-! ### Start-up and resets (15_bringup_reset_licences.md) -/

/-- A request in progress, with its data area in the boot window. -/
def asking (r : BootReq) (window : KV Byte := []) (words : KV Word := []) : Dev :=
  let d := up words
  { d with boot := { d.boot with rom := false, req := some r, window } }

/-- A device in a compute reset whose self-test is at its end or not. -/
def inCr (b : BootSt → BootSt) (r : KV Word := []) : Dev :=
  let d := up ([(BOOT_RESET_STATUS, 0x21)] ++ r)
  { d with boot := b { d.boot with rom := false } }

theorem test_Cold :
    (match exec .porstAssert (st (up [(CLK_CUR, 1)])) with | .next t => t.dev.held && !t.dev.up && t.dev.regs == [] | _ => false) = true ∧
    (match exec .vaonDrop (st (up [(CLK_CUR, 1)])) with | .next t => t.dev.boot.vaonLow && t.dev.held | _ => false) = true ∧
    after .vaonRecovery (st { held := true, boot := { vaonLow := true } }) (fun d => !d.boot.vaonLow) = true ∧
    same (.coldStart {}) (st up) = true ∧ same (.coldStart {}) (st { held := true, boot := { vaonLow := true } }) = true ∧
    (∀ k ∈ [2, 3], let x : BootFacts := { bootSrc := k, role := 1 }; let d : Dev := { held := true };
      d.held = true ∧ d.boot.vaonLow = false ∧ x.bootSrc % 4 = k ∧ d.flt.pairsOut = [] ∧ x.pairs = []) := by decide +kernel

theorem test_NoRequest : reqOf up 1 = none ∧ reqOf (asking { seq := 1, op := 1, code := some 0 }) 1 = none := by decide +kernel

theorem test_Doorbell :
    same .doorbellPoll (st { held := true }) = true ∧ same .doorbellPoll (st up) = true ∧
    (let d := fun (op : Byte) => { up with boot := { (up).boot with rom := false, window := [(0, 7), (2, op)] } };
      after .doorbellPoll (st (d 9)) (fun e => e.boot.req == some { seq := 7, op := 9 }) = true ∧
      after .doorbellPoll (st (d 3)) (fun e => e.boot.req == some { seq := 7, op := 3, code := some 2 }) = true ∧
      after .doorbellPoll (st { d 3 with boot := { (d 3).boot with rom := true } }) (fun e => e.boot.req == some { seq := 7, op := 3 }) = true ∧
      after .doorbellPoll (st { d 9 with boot := { (d 9).boot with req := some { seq := 6, op := 1 } } }) (fun e => windowWord e 0xC == 0x800C0007) = true) := by decide +kernel

theorem test_FirmwareRequests :
    after .fwChunk (st (asking { seq := 1, op := 1, off := 0x800FFF, len := 1 } [(0x1000, 5)])) (fun d => d.boot.flash == [(stagingAt + 0x800FFF, 5)] && d.boot.req.bind (·.code) == some 0) = true ∧
    after .fwChunk (st (asking { seq := 1, op := 1, off := 0x801000, len := 1 } [(0x1000, 5)])) (fun d => d.boot.flash == [] && d.boot.req.bind (·.code) == some 1) = true ∧
    stagedOk (asking { seq := 1, op := 2 }) = false ∧ stagedOk (asking { seq := 1, op := 3 }) = false ∧
    after .fwCommit (st (asking { seq := 1, op := 2 })) (fun d => d.boot.req.bind (·.code) == some 0x0B) = true ∧
    after .fwBoot (st (asking { seq := 1, op := 3 })) (fun d => d.boot.req.bind (·.code) == some 0x0B) = true ∧
    after .licWrite (st (asking { seq := 1, op := 4 } [(0x1006, 191)])) (fun d => d.boot.req.bind (·.code) == some 1) = true ∧
    after .licWrite (st (asking { seq := 1, op := 4 } [(0x1006, 192)])) (fun d => d.boot.req.bind (·.code) == some 0x0B) = true := by decide +kernel

theorem test_Tokens :
    (∀ op : Byte, op ∈ [1, 2, 3] → ∃ r, (asking { seq := 1, op := 5 } [(0x1000 + 24, op)]).boot.req = some r ∧ r.op = 5 ∧ r.code = none ∧
      numAt (tokenArea (asking { seq := 1, op := 5 } [(0x1000 + 24, op)]) r 248) 24 1 = op.toNat) ∧
    after .debugLock (st (asking { seq := 1, op := 6 } [] [(DBG_STATUS, 1)])) (fun d => !d.unlocked && d.boot.req.bind (·.code) == some 0) = true ∧
    after .debugLock (st (asking { seq := 1, op := 6 })) (fun d => d.boot.req.bind (·.code) == some 3) = true := by
  constructor
  · intro op h
    refine ⟨{ seq := 1, op := 5 }, rfl, rfl, rfl, ?_⟩
    simp only [List.mem_cons, List.not_mem_nil, or_false] at h
    rcases h with rfl | rfl | rfl <;> decide +kernel
  · decide +kernel

theorem test_ResetRequests :
    inReset (asking { seq := 1, op := 7 }) = false ∧
    after .computeReset (st (asking { seq := 1, op := 7 } [] [(BOOT_RESET_STATUS, 1)])) (fun d => d.boot.req.bind (·.code) == some 0x0C) = true ∧
    after (.pewterRestart false) (st (asking { seq := 1, op := 8 } [] [(BOOT_RESET_STATUS, 1)])) (fun d => d.boot.req.bind (·.code) == some 0x0C) = true ∧
    after .hostcfgApply (st (asking { seq := 1, op := 9 })) (fun d => d.boot.req.bind (·.code) == some 0) = true ∧
    after .hostcfgApply (st (asking { seq := 1, op := 9 } [(0x40, 1)] [(PCIE_LINK 0, 1)])) (fun d => d.boot.req.bind (·.code) == some 1) = true ∧
    after .hostcfgApply (st (asking { seq := 1, op := 9 } [(0x41, 0x10), (0x4C, 0xFF)] [(PCIE_LINK 0, 1)])) (fun d => d.rd FLT_MIRROR_LO == 0x1000 && d.rd PCIE_INT_EN == 31) = true ∧
    same .bootRequestDone (st up) = true ∧ same .bootRequestDone (st (asking { seq := 1, op := 9 })) = true ∧
    after .bootRequestDone (st (asking { seq := 1, op := 9, code := some 12 })) (fun d => d.rd BOOT_REQ_STATUS == 0xC0001 && windowWord d 0xC == 0x800C0001 && bitOf (d.rd PCIE_INT_CAUSE) 3) = true ∧
    after .bootRequestDone (st (asking { seq := 1, op := 9, code := some 12, bmc := true })) (fun d => d.boot.bmcStatus == 0x800C0001) = true := by decide +kernel

theorem test_ResetPin :
    same .debugSessionExpire (st up) = true ∧
    (let d := fun (n : Nat) => atTick n { up [(DBG_STATUS, 1)] with boot := { sessionEnd := some 800000000 } };
      same .debugSessionExpire (st (d 799999999)) = true ∧ after .debugSessionExpire (st (d 800000000)) (fun e => !e.unlocked) = true) ∧
    same .rstNAssert (st (inCr fun b => { b with rstN := false })) = true ∧
    after .rstNAssert (st (up [(BOOT_RESET_STATUS, 8)])) (fun d => d.rd BOOT_RESET_STATUS == 10) = true ∧
    ((up).boot.rstN = true ∧ (up).held = false ∧ bitOf ((up).rd BOOT_RESET_STATUS) 3 = false ∧ (up).up = true ∧ inReset up = false) ∧
    same .rstNRelease (st up) = true ∧
    after .rstNRelease (st (inCr (fun b => { b with rstN := false }) [(BOOT_RESET_STATUS, 7)])) (fun d => d.rd BOOT_RESET_STATUS == 1 && d.boot.rstN) = true ∧
    same (.pewterRestart true) (st (inCr id)) = true ∧ same .pewterRestartDone (st up) = true ∧
    ((inCr fun b => { b with restarting := true }).boot.restarting = true ∧ (inCr fun b => { b with restarting := true }).boot.rom = false) ∧
    after .pewterRestartDone (st (inCr fun b => { b with restarting := true })) (fun d => d.boot.restarting && d.boot.stop) = true ∧
    same .resetHeldTimeout (st (atTick 3999999999 (inCr fun b => { b with rstN := false }))) = true ∧
    after .resetHeldTimeout (st (atTick 4000000000 (inCr fun b => { b with rstN := false }))) (fun d => bitOf (d.rd BOOT_RESET_STATUS) 2 && bitOf (d.rd PINS_ALERT_SRC) 1) = true ∧
    same .maskClear (st (atTick 799999 (up [(BOOT_RESET_STATUS, 8)]))) = true ∧
    after .maskClear (st (atTick 800000 (up [(BOOT_RESET_STATUS, 8)]))) (fun d => d.rd BOOT_RESET_STATUS == 0) = true := by decide +kernel

theorem test_ComputeResets :
    isPewter 0x16 = true ∧
    after (.creset 0x16 1) (st (inCr id)) (fun d => d.rdF (Page.boot.base + 0x10) 7 0 == ErrCode.busy.code) = true ∧
    same (.creset 0x16 0) (st up) = true ∧
    (fld (1 : Word) 31 1 = 0 ∧ bitOf (1 : Word) 0 = true ∧ inReset up = false) ∧
    after (.computeResetSelftestDone [5, 13824, 5]) (st (inCr id)) (fun d => d.boot.tested && d.boot.failedSites == [5]) = true ∧
    same (.computeResetSelftestDone [5]) (st up) = true ∧ same .computeResetRelease (st (inCr id)) = true ∧
    (let d := inCr fun b => { b with tested := true }; resetHold d = false ∧ inReset d = true ∧ d.boot.tested = true) := by decide +kernel

theorem test_HostLink :
    same (.hostFunctionReset 2 1) (st { held := true }) = true ∧
    (let r : KV Word := [(PCIE_LINK 1, 0x801), (PCIE_LINK 0, 0x400), (LOCK_LOCK 255, 0x80010000)];
      after (.hostFunctionReset 1 1) (st (up r)) (fun d => d.rd (LOCK_LOCK 255) == 0x40010000 && d.rd (PCIE_LINK 1) == 1) = true ∧
      after (.hostFunctionReset 2 1) (st (up r)) (fun d => !bitOf (d.rd (PCIE_LINK 1)) 0 && d.rd PCIE_DOWN_COUNT == 1) = true ∧
      after (.perstAssert 1) (st (up r)) (fun d => d.iface.perstLow && d.rd PCIE_DOWN_COUNT == 1 && !bitOf (d.rd (LOCK_LOCK 255)) 31) = true ∧
      after (.pcieLinkUp 1 6 8 true) (st (up r)) (fun d => d.rd (PCIE_LINK 1) == 0x68D) = true) ∧
    same (.pcieLinkUp 1 6 8 true) (st up) = true ∧ same (.pcieLinkUp 0 6 8 true) (st (up [(PMB_RAIL_STAT 16, 0x1000)])) = true ∧
    same (.d3hotEntry 1) (st up) = true ∧
    after (.d3hotEntry 0) (st (up [(PCIE_LINK 0, 1)])) (fun d => d.rd (PCIE_LINK 0) == 0x801) = true ∧
    after (.d3hotExit 0) (st (up [(PCIE_LINK 0, 0x801)])) (fun d => d.rd (PCIE_LINK 0) == 1) = true := by decide +kernel
/-! ### Interfaces and pins (16_interfaces_pins.md) -/

/-- A frame on the wire. -/
def wire (body : List Byte) : List Byte := body ++ leBytes 4 (fcs body)

/-- A broadcast UDP frame to 10.0.0.1, port 0x1234. -/
def udpBody (dport : Byte) (fill : Byte := 7) : List Byte :=
  List.replicate 6 0xFF ++ List.replicate 6 0 ++ [8, 0] ++ [0x45, 0, 0, 46, 0, 0, 0, 0, 64, 17, 0x70, 0xBF, 0, 0, 0, 0, 10, 0, 0, 1] ++
    [0, 1, 0x12, dport, 0, 26, 0, 0] ++ List.replicate 18 fill

/-- Port 3 with flow 15 into ring 63. -/
def sensing (r : KV Word := []) (i : IfaceSt → IfaceSt := id) : Dev :=
  let d := up ([(SENS_CFG 3, 0x11), (SENS_STATUS 3, 1), (SENS_IPV4 3, 0x0A000001), (SENS_FLOW_CTRL 63, 0x3F2), (SENS_KEY_LO 63, 0x1234)] ++ r)
  { d with iface := i d.iface }

theorem test_SensorFrames :
    portRuns (sensing) 3 = true ∧ same (.sensorFrame 3 []) (st up) = true ∧
    after (.sensorFrame 3 (List.replicate 63 0)) (st (sensing)) (fun d => d.rd (SENS_DROP_COUNT 3) == 1) = true ∧
    same (.sensorFrame 3 (wire (List.replicate 60 2))) (st (sensing)) = true ∧
    after (.sensorFrame 3 (wire (List.replicate 12 0xFF ++ [0x81, 0, 0, 0, 0x81, 0] ++ List.replicate 42 0))) (st (sensing)) (fun d => d.rd (SENS_DROP_COUNT 3) == 1 && d.rd (SENS_RX_COUNT 3) == 0) = true ∧
    after (.sensorFrame 3 (wire (List.replicate 12 0xFF ++ [0x88, 0xF7] ++ List.replicate 46 0))) (st (sensing)) (fun d => d.rd (SENS_DROP_COUNT 3) == 0 && d.rd (SENS_RX_COUNT 3) == 1) = true ∧
    after (.sensorFrame 3 (wire (udpBody 0x35))) (st (sensing)) (fun d => d.rd (SENS_DROP_COUNT 3) == 1 && d.rd (SENS_RX_COUNT 3) == 1) = true := by decide +kernel

theorem test_SensorEntries :
    after (.sensorFrame 3 (wire (udpBody 0x34))) (st (sensing)) (fun d => d.rd (SENS_DROP_COUNT 3) == 1 && d.rd (SENS_RX_COUNT 3) == 1) = true ∧
    after (.sensorFrame 3 (wire (udpBody 0x34))) (st (sensing [(STRM_RING_CFG 63, 0x85010000), (STRM_RING_PROD 63, 1), (STRM_RING_CONS 63, 0xFFFFFFFF)])) (fun d => d.rd (SENS_OVERRUN_COUNT 3) == 1 && d.iface.entries == []) = true ∧
    after (.sensorFrame 3 (wire (udpBody 0x34))) (st (sensing [(STRM_RING_CFG 63, 0x85010000)])) (fun d => d.rd (SENS_FLOW_FRAMES 63) == 1 && d.iface.entries.map (fun e => (e.ring, e.source, e.payload)) == [(63, 0x3000, List.replicate 18 7)]) = true ∧
    captureOf 1 5 (flowFrame (sensing) 3 0x0800 ((udpBody 0x34 0xFF).drop 14)) = none ∧
    (let d := sensing [(STRM_RING_CFG 63, 0x85010000), (CHAN_MODE, 1)];
      entryClosed d 3 (entryAddr d 3 63 0) 64 = true ∧ after (.sensorFrame 3 (wire (udpBody 0x34))) (st d) (fun e => e.rd (SENS_DROP_COUNT 3) == 1 && e.iface.entries == []) = true) ∧
    (let d := sensing [(STRM_RING_CFG 63, 0x85010000)];
      ∃ t b, etherBody (udpBody 0x34) = some (t, b) ∧ ownProtocol t b = false ∧ ((List.range 16).find? fun i => flowMatches d 3 i (flowFrame d 3 t b)) = some 15) := by
  refine ⟨by decide +kernel, by decide +kernel, by decide +kernel, by decide +kernel, by decide +kernel, ⟨0x0800, (udpBody 0x34).drop 14, by decide +kernel⟩⟩

/-- An entry of port 3. -/
def entry3 (paired : Bool) : SensEntry := { port := 3, flow := 15, ring := 63, ns := 5, payload := [9], source := 0x3000, paired, tick := 0 }

theorem test_EntryWrites :
    same (.sensorEntryDone 3) (st up) = true ∧ same (.pairMissTimeout 3) (st up) = true ∧
    (let d := sensing [(STRM_RING_CFG 63, 0x85010000), (STRM_RING_BASE_LO 63, 0x1000)] fun i => { i with entries := [entry3 false] };
      after (.sensorEntryDone 3) (st d) (fun e => e.rd (STRM_RING_PROD 63) == 1 && e.iface.entries == []) = true ∧
      afterMem (.sensorEntryDone 3) (st d) (fun m => m.read 0x1000 17 == entryBytes (entry3 false) 0 17 && m.byteAt 0x1010 == 9) = true ∧
      (∀ m, m < 8 → portFailed d m = false) ∧ (entry3 false).payload.length ≤ (ring d 63).entry - 16) ∧
    same (.sensorEntryDone 3) (st (sensing [] fun i => { i with entries := [entry3 true] })) = true ∧
    after (.sensorEntryDone 3) (st (sensing [] fun i => { i with entries := [entry3 true, { entry3 true with port := 7 }] })) (fun d => d.iface.entries == [] && d.rd (STRM_RING_PROD 63) == 1) = true ∧
    same (.pairMissTimeout 3) (st (atTick 799999 (sensing [] fun i => { i with entries := [entry3 true] }))) = true ∧
    after (.pairMissTimeout 3) (st (atTick 800000 (sensing [] fun i => { i with entries := [entry3 true] }))) (fun d => d.iface.entries == [] && d.rd (SENS_PAIR_MISS_COUNT 7) == 1) = true := by decide +kernel

theorem test_PortProtocols :
    same (.arpRequest 3 true) (st (sensing)) = true ∧ after (.arpRequest 3 false) (st (sensing)) (fun d => d.tx == [.ethernet 3 0 [0x0A000001]] && d.rd (SENS_RX_COUNT 3) == 1) = true ∧
    gptpOn up 3 = false ∧ same (.gptpAnnounce 3) (st up) = true ∧ same (.gptpPdelay 3 5) (st up) = true ∧ same (.gptpSync 3 5) (st (sensing)) = true ∧
    after (.gptpAnnounce 3) (st (sensing)) (fun d => d.rdF (SENS_STATUS 3) 5 4 == 3) = true ∧
    after (.gptpAnnounce 3) (st (sensing [(TIME_SRC, 0x31)])) (fun d => d.rdF (SENS_STATUS 3) 5 4 == 2) = true ∧
    after (.gptpPdelay 3 5) (st (sensing [(TIME_SRC, 0x31)])) (fun d => d.rd (SENS_PDELAY_NS 3) == 5 && d.tx == [.ethernet 3 2 []]) = true ∧
    after (.gptpSync 3 1000) (st (sensing [(TIME_SRC, 0x31), (TIME_SYNC_STATUS, 0)])) (fun d => d.rdF (SENS_STATUS 3) 5 4 == 2) = true ∧
    (∀ off ∈ [(-1000000 : Int), 1000000], off.natAbs ≤ 1000000 ∧
      (let d := sensing [(TIME_SRC, 0x31), (TIME_SYNC_STATUS, 1)]; gptpOn d 3 = true ∧ gptpSelected d 3 = true ∧ d.rdF TIME_SYNC_STATUS 1 0 = 1)) := by decide +kernel

theorem test_Links :
    isLink 0x27 = true ∧ isLink 0x33 = true ∧ isLink 0x28 = false ∧
    same (.linkRetrain 0x27 true) (st (up [(SENS_STATUS 7, 1)])) = true ∧ same (.linkRetrain 0x33 true) (st (up [(SPUR_PORT_STATUS 3, 2)])) = true ∧
    after (.linkRetrain 0x33 true) (st up) (fun d => d.rd (SPUR_PORT_STATUS 3) == 0xFF01 && d.flt.pendingRecords.length == 1) = true ∧
    after (.linkRetrain 0x27 false) (st up) (fun d => d.iface.attempts == [(0x27, 1)] && d.regs == (up).regs) = true ∧
    same (.serdesLinkDown 0x27) (st up) = true ∧
    after (.serdesLinkDown 0x33) (st (up [(SPUR_PORT_STATUS 3, 0xFF01)])) (fun d => d.rd (SPUR_PORT_STATUS 3) == 0) = true ∧
    same (.aer true 5) (st up) = true ∧ after (.aer true 5) (st (hostUpDev)) (fun d => d.rd PCIE_AER_UE_COUNT == 1) = true := by decide +kernel
/-- Firmware runs, with management state. -/
def managed (b : BootSt → BootSt := id) (r : KV Word := []) : Dev :=
  let d := up r
  { d with boot := b { d.boot with rom := false } }

theorem test_Management :
    (∀ c ∈ [Instr.peek false 0, .coolant false 0, .dataWrite false 0 [], .request false 1 0 0, .reqStatus false], after c (st up) (fun d => d.resp.kind == .negative) = true) ∧
    firmwareOn (up) = true ∧ firmwareOn {} = false ∧
    after (.peek true (Page.dev.base)) (st up) (fun d => d.resp.bytes == 0 :: leBytes 4 (viewWord up Page.dev.base).toNat) = true ∧
    implemented 0x3FFFFF = false ∧ after (.peek true 0x3FFFFF) (st up) (fun d => d.resp.bytes == [0xFF, 0, 0, 0, 0]) = true ∧
    after (.coolant true 0xFFFF) (st up) (fun d => d.rd THERM_COOLANT_IN == 0x8000FFFF && !bitOf (d.rd THERM_STATE) 8) = true ∧
    after (.coolant true 0x7FFF) (st up) (fun d => bitOf (d.rd THERM_STATE) 8 && bitOf (d.rd PINS_ALERT_SRC) 1 && d.flt.pendingRecords.length == 1) = true ∧
    after (.dataWrite true 0 (List.replicate 241 0)) (st up) (fun d => d.resp.kind == .negative) = true ∧
    after (.dataWrite true 65535 [1, 2]) (st up) (fun d => d.boot.bmcStatus == 0x10000 && d.boot.bmcData == []) = true ∧
    after (.dataWrite true 65535 [1]) (st up) (fun d => d.boot.bmcData == [(65535, 1)]) = true ∧
    after (.reqStatus true) (st (managed fun b => { b with bmcStatus := 0x1234 })) (fun d => d.resp.bytes == [0x34, 0x12, 0, 0]) = true ∧
    after (.request true 9 0 0) (st (managed fun b => { b with stop := true, rom := true })) (fun d => d.resp.kind == .negative) = true ∧
    after (.request true 9 0 0) (st (managed fun b => { b with bmcStatus := 65535 })) (fun d => d.boot.bmcStatus == 0 && d.boot.req == some { seq := 0, op := 9, bmc := true }) = true ∧
    after (.request true 9 0 0) (st (managed fun b => { b with req := some { seq := 0, op := 1, bmc := true } })) (fun d => d.boot.bmcStatus == 0x800C0001) = true ∧
    after (.request true 9 0 0) (st (managed fun b => { b with req := some { seq := 0, op := 1 } })) (fun d => d.boot.waiting == [{ seq := 1, op := 9, bmc := true }]) = true ∧
    same .coolantTimeout (st (atTick 7999999999 (up [(THERM_COOLANT_IN, 0x80000050)]))) = true ∧
    after .coolantTimeout (st (atTick 8000000000 (up [(THERM_COOLANT_IN, 0x80000050)]))) (fun d => d.rd THERM_COOLANT_IN == 0x50) = true := by decide +kernel

theorem test_Jtag :
    after .clamp (st {}) (fun d => d.iface.jtagIr == 3) = true ∧ after .highz (st {}) (fun d => d.iface.jtagIr == 4) = true ∧
    after .dap (st {}) (fun d => d.iface.jtagIr == 0x10) = true ∧ after .bypass (st {}) (fun d => d.iface.jtagIr == 0xFF) = true ∧
    after .idcode (st {}) (fun d => d.iface.jtagIr == 1 && d.tx.length == 1) = true ∧
    after (.extest [true]) (st {}) (fun d => d.iface.cells == [true] && d.iface.jtagIr == 0) = true ∧
    after (.samplePreload [true]) (st {}) (fun d => d.iface.cells == [true] && d.iface.jtagIr == 2) = true ∧
    after (.dynamicAddressAssign 128) (st {}) (fun d => d.iface.dynAddr == some 0) = true ∧
    after (.jtagAuth []) (st up) (fun d => d.tx == []) = true ∧
    (firmwareOn up = true ∧ (List.replicate 248 (0 : Byte)).length = 248 ∧ numAt (List.replicate 248 (0 : Byte)) 24 1 = 0) ∧
    after .trstAssert (st {}) (fun d => d.iface.trstLow) = true ∧
    after .trstAssert (st (debugDev [(LOCK_LOCK 255, 0x80020000), (SEQ_BRK_CTRL 47, 1)])) (fun d => !d.unlocked && d.rd (LOCK_LOCK 255) == 0x40020000 && d.rd (SEQ_BRK_CTRL 47) == 0) = true ∧
    after (.uartInput [65]) (st debugDev) (fun d => d.iface.console == [65]) = true ∧ same (.uartInput [65]) (st up) = true := by decide +kernel

theorem test_Pins :
    (up).mayWrite 0x10 .pins = true ∧ (up).isFenced .pins = false ∧ (up).up = true ∧
    after (.evtCfgWrite 7 0x10 0x103) (st up) (fun d => d.rd (PINS_EVT_CFG 7) == 0x100103) = true ∧
    after (.evtCfgWrite 7 0x10 0x106) (st up) (fun d => d.rd (PINS_EVT_CFG 7) == 0x100106) = true ∧
    after (.evtCfgWrite 7 0x10 0) (st (up [(PINS_EVT_CFG 7, 0x120106)])) (fun d => d.rd (PINS_EVT_CFG 7) == 0) = true ∧
    after (.evtCfgWrite 7 0x10 1) (st (up [(PINS_EVT_CFG 7, 0x120106)])) (fun d => d.rdF (Page.pins.base + 0x10) 7 0 == ErrCode.conflict.code) = true ∧
    after (.evtCfgWrite 7 0x10 1) (st (up [(PINS_EVT_CFG 0, 0x100001)])) (fun d => d.rdF (Page.pins.base + 0x10) 7 0 == ErrCode.conflict.code) = true ∧
    (let d := fun (n : Nat) => let x := atTick n (up [(PINS_EVT_CFG 7, 0xFF06)]); { x with cad := { x.cad with pulses := [(7, 0)] } };
      same (.evtPulseEnd 7) (st (d 203999)) = true ∧ after (.evtPulseEnd 7) (st (d 204000)) (fun e => e.cad.pulses == []) = true) ∧
    (let d := fun (n : Nat) => let x := atTick n (up [(PINS_ALERT_SRC, 3), (PINS_FAULT_SRC, 3)]); { x with iface := { x.iface with alertTick := [(0, 5), (1, 0)] } };
      same (.alertTimeout 1) (st (d 79999999)) = true ∧
      after (.alertTimeout 1) (st (d 80000000)) (fun e => e.rd PINS_ALERT_SRC == 1 && e.iface.alertTick == [(0, 5)]) = true ∧
      after (.alertClear 0x10 2) (st (d 0)) (fun e => e.rd PINS_ALERT_SRC == 1 && e.iface.alertTick == [(0, 5)]) = true ∧
      after (.faultClear 0x10 2) (st (d 0)) (fun e => e.rd PINS_FAULT_SRC == 1) = true ∧
      after (.alertClear 0x10 4) (st (d 0)) (fun e => e.rd PINS_ALERT_SRC == 3 && e.rdF (Page.pins.base + 0x10) 7 0 == ErrCode.reserved.code) = true ∧
      after (.faultClear 0x10 0x80000000) (st (d 0)) (fun e => e.rd PINS_FAULT_SRC == 3 && e.rdF (Page.pins.base + 0x10) 7 0 == ErrCode.reserved.code) = true) := by decide +kernel
/-! ### Clauses that a review added -/

theorem test_MemoryRequests_poisoned :
    (let r := [(tokCfgA 13823 0, (0x10001 : Word))]; let p := { pkt with par := [3, 1], addr := 64, poison := true };
      after (.edgeResp 13823) (landed 0xB p (tiled (asked [(0, 0), (1, 64)]) r)) (fun d => d.flt.failReports.length == 1 &&
        (d.tile 13823).requests.map (·.poison) == [true]) = true ∧
      after (.edgeResp 13823) (landed 0xB p (tiled (asked [(1, 64)]) r)) (fun d => d.flt.failReports.length == 1 &&
        (kvGetD (d.tile 13823).tok [] 0).map (·.poison) == [true]) = true) ∧
    after (.memScrubStep 7 0) (st (withPort 7 {} [(MEMP_SCRUB_CFG 7, 1)]) { poison := [memUnmap 1 7 0 / 64] }) (fun e => e.rd (MEMP_POISON_COUNT 7) == 1) = true ∧
    after (.memScrubStep 7 1) (st (withPort 7 {} [(MEMP_SCRUB_CFG 7, 1)])) (fun e => e.rd (MEMP_CE_COUNT 7) == 1 && e.flt.pendingRecords.length == 1) = true := by decide +kernel

theorem test_Clocks_held :
    (let d := arm 2; let d := { d with fab := { d.fab with net := [{ pkt := pkt, site := 32, port := 4 }] } };
      seamFull d 0 = true ∧ after (.clockStop [0]) (st d) (fun e => e.chgState == 2 && e.rdF CLK_FIELD_PLL 27 16 == 3) = true ∧
      after (.clockStop [0]) (st (atTick 16 d)) (fun e => e.chgState == 2 && e.rdF CLK_FIELD_PLL 27 16 == 0 && !bitOf (e.rd (FIELD_SEAM_E 0)) 8) = true) ∧
    (let d := { clk with pwr := { (clk).pwr with oppReq := [(5, 0)] } }; d.oppAllowed 1 = 0 ∧ same (.chgReq 0x10 1) (st d) = true) := by decide +kernel

theorem test_Streams_closing :
    after (.deadlineReached 16383) (st (strm 0x105 { deadlines := [16383], beats := [aBeat] } [(descAddr 16383 8, 1)])) (fun e => e.strm.missed == [16383]) = true ∧
    after (.pauseStream 0x10 16383) (st (strm 0x100003)) (fun d => d.strmSt 16383 == 3 && pausePend d 16383) = true ∧
    after (.closeStream 0x10 16383) (st (strm 5 { beats := [aBeat] })) (fun d => d.strmSt 16383 == 0) = true := by decide +kernel

theorem test_Tiles_full :
    same (.broadcastArrival 47) (st { tiled { input := List.replicate 32 (ins 0x10) } with seqs := [(47, { tree := [ins 0x10] })] }) = true ∧
    (let d := works 0 0x1B 0 { slots := [(0, [(5, 0, 3)])] } [(TILE_RQ_PTR 13823 0, 0x10000)];
      after (.release 13823) (st d) (fun e => ((e.tile 13823).engine 0).stopped && e.fab.net == []) = true) := by decide +kernel

theorem test_Power_more :
    after (.avsPoll 13 true 800 0 [5] []) (st (pow)) (fun d => d.pwr.memFailed == [69] && d.rd PWR_PHASE_EVENT_COUNT == 1 && bitOf (d.rd PWR_FLAGS) 1) = true ∧
    after .thermalTrip (st (pow { tripOpen := true })) (fun d => d.flt.pendingRecords == []) = true ∧
    after .thermalTrip (st (pow)) (fun d => d.pwr.tripOpen && d.flt.pendingRecords.length == 1) = true := by decide +kernel

theorem test_Pipeline_clocked : Clocked (tiled {}) 13823 ∧ (tiled {}).meshRuns 11 = true ∧ (clk [(CLK_FIELD_PLL, 0xFFF)]).meshRuns 11 = false := by
  unfold Clocked; decide +kernel

theorem test_Stops_vector :
    after (.vsop 13823) (st (vx 0x4C (2 ^ 15 + 2 ^ 13 + 8) { scalars := [(1, 64)] } [spadWords, 0])) (fun d => ((d.tile 13823).engine 3).stopped) = true ∧
    after (.vsfn 13823) (st (vx 0x4D (2 ^ 15 + 2) { scalars := [(1, 64)] } [0, spadWords])) (fun d => ((d.tile 13823).engine 3).stopped) = true ∧
    after (.vcvt 13823) (st (started (tiled { scalars := [(1, 32)], eng := [(3, { run := some (runs 0x4E (2 ^ 15 + 0x60) [spadWords, 0, 16]) })] }))) (fun d => ((d.tile 13823).engine 3).stopped) = true ∧
    after (.vqmx 13823) (st (started (tiled { scalars := [(1, 32)], eng := [(3, { run := some (runs 0x4F (2 ^ 15 + 0x06) [32, spadWords, 64]) })] }))) (fun d => ((d.tile 13823).engine 3).stopped) = true := by decide +kernel

theorem test_Links_struck :
    (let d := meshed up; let f : Flight := { pkt := { pkt with vc := 1, typ := 8 }, site := 32, port := 4 }; let d := { d with fab := { d.fab with net := [f] } };
      after (.routerPacket 32 4 1 3) (st d) (fun e => e.fab.net == [] && e.flt.pendingRecords.length == 1) = true ∧
      after (.routerPacket 32 4 1 2) (st d) (fun e => e.fab.net.map (·.pkt.poison) == [true]) = true) := by decide +kernel

theorem test_Boot_flash : ([] : KV Byte).map (·.1) = [] ∧ (([] : KV Byte).map (·.1)).Pairwise (· < ·) := by decide +kernel

theorem test_Aborts_recur :
    (let d := withSeq 47 { fault := some { cause := 6, entry := 3, bank := 0, cmd := aCmd }, inflight := [aCmd], ue := [(0, true)] } [(SEQ_SEQ_STATE 47, 5)];
      after (.seqAbortEnd 47) (st d) (fun e => e.flt.fieldFailed == [11] && e.rdF (FIELD_HEALTH 11) 15 8 == 8) = true ∧
      after (.seqAbortEnd 47) (st (d.modSeq 47 fun x => { x with ue := [] })) (fun e => e.flt.fieldFailed == [] && (e.seq 47).ue == [(0, false)]) = true) := by decide +kernel

theorem test_Trials_quarantined :
    (let d := failing true []; let d := { d with regs := kvPut d.regs (FIELD_HEALTH 11) 16 };
      quarantined d 11 = true ∧ bitOf (d.rd FLOOR_STATE) 5 = false ∧ same (.trial 0x10 13823) (st d) = true) := by decide +kernel

end Sys2Proof.Tests
end

/-! PROOF. Which commands stop: `exec` of every command is its unit guard around an effect that completes
(01_device_overview.md R19 to R21, 02_control_model.md R38, R73). -/

namespace Sys2Proof.Machine

/-! ### The commands of a page, whose guard is the look-up of the page -/

theorem unitPage_of_base {a : Nat} {p : Page} (h : pageOf a = some (p, 0)) : unitPage a = true := by
  simp [unitPage, h]

theorem unitPage_of_not_base {a : Nat} (h : ∀ p, pageOf a ≠ some (p, 0)) : unitPage a = false := by
  unfold unitPage
  split
  · next p o ho => exact beq_eq_false_iff_ne.2 fun h0 => h p (h0 ▸ ho)
  · rfl

theorem execApply_eq_guardUnit (agent page : Nat) (data : Word) (s : State) :
    ∃ t, execApply agent page data s = guardUnit (unitPage page) (.next t) := by
  unfold execApply
  split
  · next p h => exact ⟨_, by rw [unitPage_of_base h]; rfl⟩
  · next h => exact ⟨s, by rw [unitPage_of_not_base h]; rfl⟩

theorem execDigestComplete_eq_guardUnit (page : Nat) (s : State) :
    ∃ t, execDigestComplete page s = guardUnit (unitPage page) (.next t) := by
  unfold execDigestComplete
  split
  · next p h => exact ⟨_, by rw [unitPage_of_base h]; rfl⟩
  · next h => exact ⟨s, by rw [unitPage_of_not_base h]; rfl⟩

theorem execSnapLatch_eq_guardUnit (page : Nat) (late : Bool) (s : State) :
    ∃ t, execSnapLatch page late s = guardUnit (unitPage page) (.next t) := by
  unfold execSnapLatch
  split
  · next p h => exact ⟨_, by rw [unitPage_of_base h]; rfl⟩
  · next h => exact ⟨s, by rw [unitPage_of_not_base h]; rfl⟩

/-! ### Every command -/

/-- The one reason a command stops: `exec` is the guard `Instr.wf` around an effect that completes. Outside the three
commands of a page the arm is written with that very guard, or with none where `Instr.wf` is `true`, and each lift
(`onDev`, `onMesh`, `onDevRead`, `onDevMem`, `enterReset`) answers a next state by definition. -/
theorem exec_eq_guardUnit (i : Instr) (s : State) : ∃ t, exec i s = guardUnit i.wf (.next t) := by
  cases i with
  | apply agent page data => exact execApply_eq_guardUnit agent page data s
  | digestComplete page => exact execDigestComplete_eq_guardUnit page s
  | snapLatch page late => exact execSnapLatch_eq_guardUnit page late s
  | _ => exact ⟨_, rfl⟩

theorem exec_eq_next_of_wf {i : Instr} (h : i.wf = true) (s : State) : ∃ t, exec i s = .next t := by
  obtain ⟨t, ht⟩ := exec_eq_guardUnit i s
  exact ⟨t, by rw [ht, guardUnit_pos _ h]⟩

theorem exec_eq_fault_of_not_wf {i : Instr} (h : i.wf = false) (s : State) : exec i s = .fault .noSuchUnit := by
  obtain ⟨t, ht⟩ := exec_eq_guardUnit i s
  rw [ht, h, guardUnit_false]

/-- Settles O5: `Instr.wf` is the guard of every arm, and what an arm guards always completes. That an unknown unit ends
in this fault is the model's choice (notes/assumptions/6.md). -/
theorem stopsOnlyOnMissingUnits : Obligations.StopsOnlyOnMissingUnits :=
  fun _ s => ⟨fun h => exec_eq_next_of_wf h s, fun h => exec_eq_fault_of_not_wf h s⟩

end Sys2Proof.Machine

/-! PROOF. The queue and its front: a step is the front command on the rest of the queue, and no command adds to the
queue or takes from it (02_control_model.md R38, R45, R73). -/

namespace Sys2Proof.Machine

theorem step_of_pending {c : Instr} {rest : List Instr} {s : State} (h : s.pending = c :: rest) :
    step s = exec c { s with pending := rest } := by
  simp [step, h]

theorem step_of_idle {s : State} (h : s.pending = []) : step s = idle s := by
  simp [step, h]

/-- Settles O1: it is the first branch of `step`. -/
theorem stepRunsFront : Obligations.StepRunsFront := fun _ _ _ h => step_of_pending h

theorem execApply_pending {agent page : Nat} {data : Word} {s t : State} (h : execApply agent page data s = .next t) :
    t.pending = s.pending := by
  unfold execApply at h
  split at h
  · exact (onDevMem_keeps h).1
  · cases h

theorem execDigestComplete_pending {page : Nat} {s t : State} (h : execDigestComplete page s = .next t) :
    t.pending = s.pending := by
  unfold execDigestComplete at h
  split at h
  · exact (onDev_keeps h).1
  · cases h

theorem execSnapLatch_pending {page : Nat} {late : Bool} {s t : State} (h : execSnapLatch page late s = .next t) :
    t.pending = s.pending := by
  unfold execSnapLatch at h
  split at h
  · exact (onDev_keeps h).1
  · cases h

/-- `exec_eq_guardUnit` with what it says of the queue: outside the three commands of a page, each lift of an effect to an
outcome writes the inside of the part and external memory alone. -/
theorem exec_eq_guardUnit_pending (i : Instr) (s : State) :
    ∃ t : State, exec i s = guardUnit i.wf (.next t) ∧ (i.wf = true → t.pending = s.pending) := by
  cases i with
  | apply agent page data =>
    obtain ⟨t, h⟩ := execApply_eq_guardUnit agent page data s
    exact ⟨t, h, fun hw => execApply_pending (h.trans (guardUnit_pos _ hw))⟩
  | digestComplete page =>
    obtain ⟨t, h⟩ := execDigestComplete_eq_guardUnit page s
    exact ⟨t, h, fun hw => execDigestComplete_pending (h.trans (guardUnit_pos _ hw))⟩
  | snapLatch page late =>
    obtain ⟨t, h⟩ := execSnapLatch_eq_guardUnit page late s
    exact ⟨t, h, fun hw => execSnapLatch_pending (h.trans (guardUnit_pos _ hw))⟩
  | _ => exact ⟨_, rfl, fun _ => rfl⟩

/-- Settles O6: the command at the front completes, since it names units that exist, and no lift touches the queue; on an
empty queue the step is a tick. -/
theorem safeQueueRuns : Obligations.SafeQueueRuns := by
  intro s hs
  have hs' : ∀ c ∈ s.pending, Instr.wf c = true := by simpa [SafeQueue] using hs
  cases hp : s.pending with
  | nil =>
    refine ⟨_, step_of_idle hp, hp, ?_⟩
    simp [SafeQueue, hp]
  | cons c rest =>
    obtain ⟨t, ht, htp⟩ := exec_eq_guardUnit_pending c { s with pending := rest }
    have hc : c.wf = true := hs' c (by simp [hp])
    have htp : t.pending = rest := htp hc
    refine ⟨t, by rw [step_of_pending hp, ht, guardUnit_pos _ hc], htp, ?_⟩
    simp only [SafeQueue, htp, List.all_eq_true]
    exact fun x hx => hs' x (by simp [hp, hx])

end Sys2Proof.Machine

/-! PROOF. Bit fields, agents, checks and the rejection of a write: what the register pages' statements share
(00_scope.md R14, 02_control_model.md R52 to R55, R73). -/

namespace Sys2Proof.Machine

/-! ### Bit fields -/

/-- A bit inside a field that was set. -/
theorem bitOf_setFld_inside (w : Word) {hi lo i : Nat} (v : Nat) (hl : lo ≤ i) (hh : i ≤ hi) (h : hi < 32) :
    bitOf (setFld w hi lo v) i = v.testBit (i - lo) := by
  rw [bitOf_eq, setFld_getLsbD, if_pos (by omega)]
  simp [show i < 32 by omega]

/-- A field reads as before when a bit outside it is set. -/
theorem fld_setBit_other (w : Word) {hi lo i : Nat} (b : Bool) (h : hi < i ∨ i < lo) : fld (setBit w i b) hi lo = fld w hi lo :=
  fld_setFld_other w _ h

theorem bitOf_w32 {n i : Nat} (h : i < 32) : bitOf (w32 n) i = n.testBit i := by
  rw [bitOf_eq, w32, BitVec.getLsbD_ofNat]
  simp [h]

theorem fld_w32 (n : Nat) {hi lo : Nat} (h : hi < 32) : fld (w32 n) hi lo = n / 2 ^ lo % 2 ^ (hi + 1 - lo) := by
  apply Nat.eq_of_testBit_eq
  intro i
  rw [fld_testBit, Nat.testBit_mod_two_pow, ← Nat.shiftRight_eq_div_pow, Nat.testBit_shiftRight]
  by_cases hi' : i < hi + 1 - lo
  · have : lo + i < 32 := by omega
    rw [w32, BitVec.getLsbD_ofNat]
    simp [hi', this]
  · simp [hi']

@[simp] theorem bitOf_zero (i : Nat) : bitOf 0 i = false := by simp [bitOf]

@[simp] theorem fld_zero (hi lo : Nat) : fld 0 hi lo = 0 := by simp [fld]

/-- A field of a word whose number is small enough to lie below it. -/
theorem fld_eq_zero_of_lt {w : Word} {hi lo : Nat} (h : w.toNat < 2 ^ lo) : fld w hi lo = 0 := by
  simp [fld, Nat.shiftRight_eq_div_pow, Nat.div_eq_of_lt h]

theorem bitOf_eq_false_of_lt {w : Word} {i : Nat} (h : w.toNat < 2 ^ i) : bitOf w i = false :=
  Nat.testBit_lt_two_pow h

theorem fld_lt (w : Word) (hi lo : Nat) : fld w hi lo < 2 ^ (hi + 1 - lo) := Nat.mod_lt _ (Nat.two_pow_pos _)

/-- The whole word as a field of its low bits. -/
theorem fld_low_of_lt {w : Word} {hi : Nat} (h : w.toNat < 2 ^ (hi + 1)) : fld w hi 0 = w.toNat := by
  simpa [fld] using Nat.mod_eq_of_lt h

/-! ### Agents (R73) -/

theorem isAgent_le {a : Nat} (h : isAgent a = true) : a < 256 := by
  simp only [isAgent, isPewter, isSeqAgent, isPeerAgent, agentHost, agentDebug, Bool.or_eq_true, beq_iff_eq, decide_eq_true_eq] at h
  omega

/-! ### Checks (R55) -/

/-- A check that passes takes no part in the choice of the code. -/
@[simp] theorem firstFail_cons_false (c : ErrCode) (cs : List Check) : firstFail ((c, false) :: cs) = firstFail cs := by
  cases h : firstFail cs <;> simp [firstFail, h]

@[simp] theorem firstFail_nil : firstFail [] = none := rfl

/-- Checks that pass, before others, take no part either. -/
theorem firstFail_append_of_pass {cs : List Check} (h : ∀ e ∈ cs, e.2 = false) (ds : List Check) :
    firstFail (cs ++ ds) = firstFail ds := by
  induction cs with
  | nil => rfl
  | cons e t ih =>
    obtain ⟨c, b⟩ := e
    obtain rfl : b = false := h (c, b) (List.mem_cons_self ..)
    rw [List.cons_append, firstFail_cons_false, ih fun e he => h e (List.mem_cons_of_mem _ he)]

/-! ### Rejections (R53) -/

/-- ERR_CODE of a rejection: VALID, the offset, the agent, the code. -/
def errWord (off agent : Nat) (c : ErrCode) : Word := w32 (2 ^ 31 + off % 4096 * 2 ^ 16 + agent % 256 * 2 ^ 8 + c.code)

theorem ErrCode.code_lt (c : ErrCode) : c.code < 256 := by cases c <;> decide

theorem errWord_valid (off agent : Nat) (c : ErrCode) : bitOf (errWord off agent c) 31 = true := by
  rw [errWord, bitOf_w32 (by omega), Nat.testBit_eq_decide_div_mod_eq]
  have := c.code_lt
  simp only [decide_eq_true_eq]
  omega

theorem errWord_off {off : Nat} (agent : Nat) (c : ErrCode) (h : off < 4096) : fld (errWord off agent c) 27 16 = off := by
  have := c.code_lt
  rw [errWord, fld_w32 _ (by omega)]
  omega

theorem errWord_agent (off : Nat) {agent : Nat} (c : ErrCode) (h : agent < 256) : fld (errWord off agent c) 15 8 = agent := by
  have := c.code_lt
  rw [errWord, fld_w32 _ (by omega)]
  omega

theorem errWord_code (off agent : Nat) (c : ErrCode) : fld (errWord off agent c) 7 0 = c.code := by
  have := c.code_lt
  rw [errWord, fld_w32 _ (by omega)]
  omega

/-- The two error registers of a page after a rejection. -/
def Dev.errNoted (d : Dev) (p : Page) (off agent : Nat) (c : ErrCode) : Dev :=
  if bitOf (d.rd (p.base + 0x10)) 31 then d.bump (p.base + 0x14)
  else (d.bump (p.base + 0x14)).wr (p.base + 0x10) (errWord off agent c)

/-- A rejection notes itself in the error registers, and in a record where REJ_RECORD asks for one. -/
theorem Dev.reject_eq (d : Dev) (p : Page) (off agent : Nat) (c : ErrCode) :
    d.reject p off agent c = if bitOf (d.rd (p.base + 8)) 1
      then (d.errNoted p off agent c).record 0x00 2 (p.base / 4096) (errWord off agent c).toNat
      else d.errNoted p off agent c := by
  have h10 : (d.bump (p.base + 0x14)).rd (p.base + 0x10) = d.rd (p.base + 0x10) := Dev.rd_bump_other d (by omega)
  have h8 : (d.errNoted p off agent c).rd (p.base + 8) = d.rd (p.base + 8) := by
    unfold Dev.errNoted
    split <;> simp [Dev.rd_wr, Dev.rd_bump_other]
  rw [← h8]
  unfold Dev.errNoted Dev.reject
  dsimp only
  rw [h10]
  rfl

theorem Dev.errNoted_flt (d : Dev) (p : Page) (off agent : Nat) (c : ErrCode) : (d.errNoted p off agent c).flt = d.flt := by
  unfold Dev.errNoted; split <;> rfl

/-- ERR_CODE after a rejection: the rejection's, unless a recorded one stands. -/
theorem Dev.reject_errCode (d : Dev) (p : Page) (off agent : Nat) (c : ErrCode) :
    (d.reject p off agent c).rd (p.base + 0x10) =
      if bitOf (d.rd (p.base + 0x10)) 31 then d.rd (p.base + 0x10) else errWord off agent c := by
  have h : (d.errNoted p off agent c).rd (p.base + 0x10) =
      if bitOf (d.rd (p.base + 0x10)) 31 then d.rd (p.base + 0x10) else errWord off agent c := by
    unfold Dev.errNoted
    split
    · exact Dev.rd_bump_other d (by omega)
    · exact Dev.rd_wr_same _ _ _
  rw [Dev.reject_eq]
  split <;> exact h

/-- Without REJ_RECORD a rejection writes no record. -/
theorem Dev.reject_flt_of_not_rec {d : Dev} {p : Page} (off agent : Nat) (c : ErrCode) (h : bitOf (d.rd (p.base + 8)) 1 = false) :
    (d.reject p off agent c).flt = d.flt := by
  rw [Dev.reject_eq, h]
  exact Dev.errNoted_flt d p off agent c

/-- With REJ_RECORD a rejection writes one record (R484). -/
theorem Dev.reject_flt_of_rec {d : Dev} {p : Page} (off agent : Nat) (c : ErrCode) (h : bitOf (d.rd (p.base + 8)) 1 = true) :
    ∃ r : ErrRec, r.cls = 0 ∧ r.kind = 2 ∧ r.unit = p.base / 4096 ∧
      (d.reject p off agent c).flt = { d.flt with pendingRecords := d.flt.pendingRecords ++ [r] } := by
  rw [Dev.reject_eq, if_pos h, ← Dev.errNoted_flt d p off agent c]
  exact ⟨_, rfl, rfl, rfl, rfl⟩

/-- A rejection, where REJ_RECORD is 0, writes the two error registers alone. -/
theorem Dev.reject_onlyRegs {d : Dev} {p : Page} (off agent : Nat) (c : ErrCode) (h : bitOf (d.rd (p.base + 8)) 1 = false) :
    OnlyRegs (errRegs p) d (d.reject p off agent c) := by
  refine ⟨?_, Dev.reject_regs d p off agent c⟩
  have h := Dev.reject_flt_of_not_rec off agent c h
  have e := Dev.reject_only d p off agent c
  rw [h] at e
  exact e

theorem Dev.reject_rd_other {d : Dev} {p : Page} {off agent : Nat} {c : ErrCode} (b : Nat) (h10 : b ≠ p.base + 0x10)
    (h14 : b ≠ p.base + 0x14) : (d.reject p off agent c).rd b = d.rd b :=
  Dev.reject_regs d p off agent c b (by simp [errRegs, h10, h14])

/-- Settles O10: the count, the kept first rejection, the record of REJ_RECORD and the frame are each a lemma of `reject`. -/
theorem rejectionEffect : Obligations.RejectionEffect := by
  intro d p off agent c ho ha
  refine ⟨Dev.reject_count d p off agent c, fun hv => ?_, fun hv => ?_, Dev.reject_onlyRegs off agent c, fun hr => ?_⟩
  · rw [Dev.reject_errCode, hv]
    exact ⟨errWord_valid .., errWord_off _ _ ho, errWord_agent _ _ ha, errWord_code ..⟩
  · rw [Dev.reject_errCode, hv]; rfl
  · obtain ⟨r, h1, h2, h3, h4⟩ := Dev.reject_flt_of_rec off agent c hr
    exact ⟨r, h1, h2, h3, h4, Dev.reject_only d p off agent c, Dev.reject_regs d p off agent c⟩

/-! ### Completion -/

/-- A command behind a unit guard that holds gives what its effect inside the part gives. -/
theorem Gives.guarded {i : Instr} {s : State} {ok : Bool} {f : Dev → Dev} {q : Dev → Prop}
    (h : exec i s = guardUnit ok (Machine.onDev f s)) (hok : ok = true) (hq : q (f s.dev)) : Gives i s q :=
  Gives.onDev (h.trans (guardUnit_pos _ hok)) hq

/-! ### Locks (R71 to R77) -/

theorem Page.base_lock : Page.lock.base = 0x2000 := rfl

/-- The word that a read of LOCK_n leaves: an acquisition when the lock was free (R74). -/
def lockAfterRead (agent : Nat) (w : Word) : Word :=
  if bitOf w 31 then w else setFld (setFld (setBit w 31 true) 23 16 agent) 15 0 (fld w 15 0 + 1)

theorem lockAfterRead_of_held {agent : Nat} {w : Word} (h : bitOf w 31 = true) : lockAfterRead agent w = w := by
  simp [lockAfterRead, h]

theorem lockAfterRead_of_free {agent : Nat} {w : Word} (h : bitOf w 31 = false) (ha : agent < 256) :
    let v := lockAfterRead agent w
    bitOf v 31 = true ∧ bitOf v 30 = bitOf w 30 ∧ fld v 29 24 = fld w 29 24 ∧ fld v 23 16 = agent ∧
      fld v 15 0 = (fld w 15 0 + 1) % 65536 := by
  simp only [lockAfterRead, h, Bool.false_eq_true, if_false]
  refine ⟨?_, ?_, ?_, ?_, ?_⟩
  · rw [bitOf_setFld_other _ _ (by omega), bitOf_setFld_other _ _ (by omega), bitOf_setBit_same _ _ _ (by omega)]
  · rw [bitOf_setFld_other _ _ (by omega), bitOf_setFld_other _ _ (by omega), bitOf_setBit_other _ _ (by omega)]
  · rw [fld_setFld_other _ _ (by omega), fld_setFld_other _ _ (by omega), fld_setBit_other _ _ (by omega)]
  · rw [fld_setFld_other _ _ (by omega), fld_setFld_same _ _ (by omega)]
    exact Nat.mod_eq_of_lt ha
  · exact fld_setFld_same _ _ (by omega)

/-- Settles O8: the lock word is `lockAfterRead`'s, which is also the answer. -/
theorem lockAcquired : Obligations.LockAcquired := by
  intro s agent n hn ha
  refine Gives.guarded (f := lockAcquire agent n) rfl (by simp [hn, ha]) ?_
  have hv : (lockAcquire agent n s.dev).rd (LOCK_LOCK n) = lockAfterRead agent (s.dev.rd (LOCK_LOCK n)) :=
    Dev.rd_wr_same s.dev _ _
  dsimp only
  rw [hv]
  exact ⟨rfl, lockAfterRead_of_held, fun h => lockAfterRead_of_free h (isAgent_le ha), rfl, regsKeep_wr s.dev _ _⟩

theorem lockRelease_of_pass {agent n : Nat} {data : Word} {d : Dev} (hm : d.mayWrite agent .lock = true) (hu : d.up = true)
    (ho : fld (d.rd (LOCK_LOCK n)) 23 16 = agent) (hh : bitOf (d.rd (LOCK_LOCK n)) 31 = true)
    (hg : data.toNat = fld (d.rd (LOCK_LOCK n)) 15 0) :
    lockRelease agent n data d = d.wr (LOCK_LOCK n) (setFld (d.rd (LOCK_LOCK n)) 31 30 0) := by
  have hlt : data.toNat < 2 ^ 16 := hg ▸ fld_lt _ 15 0
  unfold lockRelease
  refine Dev.checked_pass _ _ _ _ _ _ ?_
  have hhi : ∀ i, 16 ≤ i → bitOf data i = false := fun i hi =>
    bitOf_eq_false_of_lt (Nat.lt_of_lt_of_le hlt (Nat.pow_le_pow_right (by omega) hi))
  have h1 : fld data 29 24 = 0 := fld_eq_zero_of_lt (by omega)
  have h2 : fld data 23 16 = 0 := fld_eq_zero_of_lt (by omega)
  have h3 : fld data 15 0 = data.toNat := fld_low_of_lt hlt
  simp [hm, hu, ho, hh, hhi, h1, h2, h3, hg]

/-- The checks of R76 that depend on the lock and the word written, in the order of R55. -/
def releaseChecks (agent : Nat) (w data : Word) : List Check :=
  [(.owner, fld w 23 16 != agent), (.state, !bitOf w 31), (.reserved, decide (fld data 29 24 ≠ 0)),
    (.range, bitOf data 31 || bitOf data 30 || fld data 23 16 != 0 || fld data 15 0 != fld w 15 0)]

theorem lockRelease_of_fail {agent n : Nat} {data : Word} {d : Dev} {c : ErrCode} (hm : d.mayWrite agent .lock = true)
    (hu : d.up = true) (h : firstFail (releaseChecks agent (d.rd (LOCK_LOCK n)) data) = some c) :
    lockRelease agent n data d = d.reject .lock (0x100 + 4 * n) agent c := by
  unfold lockRelease
  refine Dev.checked_fail _ _ _ _ _ _ _ ?_
  rw [← h, hm, hu]
  simp only [Bool.not_true, firstFail_cons_false, Bool.or_false, releaseChecks, bne, ne_eq, decide_not]
  rfl

theorem lockBreak_of_held {n : Nat} {d : Dev} (h : bitOf (d.rd (LOCK_LOCK n)) 31 = true) :
    lockBreak n d = d.wr (LOCK_LOCK n) (setFld (d.rd (LOCK_LOCK n)) 31 30 1) := if_pos h

theorem lockBreak_of_free {n : Nat} {d : Dev} (h : bitOf (d.rd (LOCK_LOCK n)) 31 = false) : lockBreak n d = d := by
  simp [lockBreak, h]

theorem lockBreak_only (n : Nat) (d : Dev) : OnlyRegs [LOCK_LOCK n] d (lockBreak n d) := by
  cases h : bitOf (d.rd (LOCK_LOCK n)) 31
  · rw [lockBreak_of_free h]; exact ⟨rfl, RegsKeep.refl _ d⟩
  · rw [lockBreak_of_held h]; exact onlyRegs_wr d _ _

theorem breakWrite_of_pass {agent : Nat} {data : Word} {d : Dev} (hp : isPewter agent = true) (hu : d.up = true)
    (h : data.toNat < 256) : breakWrite agent data d = lockBreak data.toNat d := by
  have h1 : fld data 31 8 = 0 := fld_eq_zero_of_lt h
  have h2 : fld data 7 0 = data.toNat := fld_low_of_lt h
  unfold breakWrite
  rw [Dev.checked_pass _ _ _ _ _ _ (by simp [hp, hu, h1]), h2]

/-- HELD and BROKEN set to a code, which no other bit of the lock word feels. -/
theorem lockWord_set (w : Word) {v : Nat} :
    bitOf (setFld w 31 30 v) 31 = v.testBit 1 ∧ bitOf (setFld w 31 30 v) 30 = v.testBit 0 ∧
      fld (setFld w 31 30 v) 29 0 = fld w 29 0 :=
  ⟨bitOf_setFld_inside w v (by omega) (by omega) (by omega), bitOf_setFld_inside w v (by omega) (by omega) (by omega),
    fld_setFld_other w v (by omega)⟩

/-- Settles O9. -/
theorem lockReleasedOrBroken : Obligations.LockReleasedOrBroken := by
  refine ⟨fun s agent n data hn ha hm hu => ⟨fun ho hh hg => ?_, fun c hc => ?_⟩, fun s agent data hp hu hd => ?_⟩
  · refine Gives.guarded (f := lockRelease agent n data) rfl (by simp [hn, ha]) ?_
    rw [lockRelease_of_pass hm hu ho hh hg, Dev.rd_wr_same]
    obtain ⟨h31, h30, hlow⟩ := lockWord_set (s.dev.rd (LOCK_LOCK n)) (v := 0)
    exact ⟨h31, h30, hlow, onlyRegs_wr s.dev _ _⟩
  · refine Gives.guarded (f := lockRelease agent n data) rfl (by simp [hn, ha]) ?_
    rw [lockRelease_of_fail hm hu hc]
    exact ⟨rfl, Dev.reject_rd_other _ (by rw [Page.base_lock]; unfold LOCK_LOCK; omega)
      (by rw [Page.base_lock]; unfold LOCK_LOCK; omega)⟩
  · refine Gives.onDev (f := breakWrite agent data) rfl ?_
    rw [breakWrite_of_pass hp hu hd]
    refine ⟨fun hh => ?_, lockBreak_of_free, lockBreak_only _ _⟩
    rw [lockBreak_of_held hh, Dev.rd_wr_same]
    exact lockWord_set _

end Sys2Proof.Machine

/-! PROOF. Violations: what one writes, whom it answers and what it makes of a sequencer's command
(02_control_model.md R64 to R67, 06_sequencers_isa.md R254). -/

namespace Sys2Proof.Machine

/-- VIOL_INFO after a violation: the count rises; the first access is kept. -/
def violWord (w : Word) (agent : Nat) (bar2 write : Bool) : Word :=
  if bitOf w 31 then setFld w 15 0 (min (fld w 15 0 + 1) 0xFFFF)
  else w32 (2 ^ 31 + b2n write * 2 ^ 30 + b2n bar2 * 2 ^ 29 + agent % 256 * 2 ^ 16 + min (fld w 15 0 + 1) 0xFFFF)

theorem b2n_le (b : Bool) : b2n b ≤ 1 := by cases b <;> decide

theorem b2n_eq_one (b : Bool) : (b2n b = 1) = (b = true) := by cases b <;> simp [b2n]

theorem violWord_of_held {w : Word} (agent : Nat) (bar2 write : Bool) (h : bitOf w 31 = true) :
    violWord w agent bar2 write = setFld w 15 0 (min (fld w 15 0 + 1) 0xFFFF) := if_pos h

theorem violWord_of_free {w : Word} (agent : Nat) (bar2 write : Bool) (h : bitOf w 31 = false) :
    violWord w agent bar2 write =
      w32 (2 ^ 31 + b2n write * 2 ^ 30 + b2n bar2 * 2 ^ 29 + agent % 256 * 2 ^ 16 + min (fld w 15 0 + 1) 0xFFFF) :=
  if_neg (by simp [h])

theorem violWord_valid (w : Word) (agent : Nat) (bar2 write : Bool) : bitOf (violWord w agent bar2 write) 31 = true := by
  have hw := b2n_le write
  have hb := b2n_le bar2
  cases h : bitOf w 31
  · rw [violWord_of_free _ _ _ h, bitOf_w32 (by omega), Nat.testBit_eq_decide_div_mod_eq, decide_eq_true_eq]; omega
  · rw [violWord_of_held _ _ _ h, bitOf_setFld_other _ _ (by omega), h]

theorem violWord_count (w : Word) (agent : Nat) (bar2 write : Bool) :
    fld (violWord w agent bar2 write) 15 0 = min (fld w 15 0 + 1) 0xFFFF := by
  cases h : bitOf w 31
  · rw [violWord_of_free _ _ _ h, fld_w32 _ (by omega)]; omega
  · rw [violWord_of_held _ _ _ h, fld_setFld_same _ _ (by omega)]
    exact Nat.mod_eq_of_lt (by omega)

/-- A recorded violation stands. -/
theorem violWord_kept {w : Word} (agent : Nat) (bar2 write : Bool) (h : bitOf w 31 = true) :
    fld (violWord w agent bar2 write) 31 16 = fld w 31 16 := by
  rw [violWord_of_held _ _ _ h, fld_setFld_other w _ (by omega)]

/-- The first violation is recorded. -/
theorem violWord_first {w : Word} {agent : Nat} (bar2 write : Bool) (h : bitOf w 31 = false) (ha : agent < 256) :
    bitOf (violWord w agent bar2 write) 30 = write ∧ bitOf (violWord w agent bar2 write) 29 = bar2 ∧
      fld (violWord w agent bar2 write) 23 16 = agent := by
  rw [violWord_of_free _ _ _ h]
  have hw := b2n_le write
  have hb := b2n_le bar2
  refine ⟨?_, ?_, ?_⟩
  · rw [bitOf_w32 (by omega), Nat.testBit_eq_decide_div_mod_eq, Bool.eq_iff_iff, decide_eq_true_eq, ← b2n_eq_one]; omega
  · rw [bitOf_w32 (by omega), Nat.testBit_eq_decide_div_mod_eq, Bool.eq_iff_iff, decide_eq_true_eq, ← b2n_eq_one]; omega
  · rw [fld_w32 _ (by omega)]; omega

/-- The DEV page after a violation: VIOL_INFO and, for the first, the address words. -/
def Dev.violNoted (d : Dev) (agent : Nat) (bar2 write : Bool) (addr : Nat) : Dev :=
  let e := d.wr DEV_VIOL_INFO (violWord (d.rd DEV_VIOL_INFO) agent bar2 write)
  if bitOf (d.rd DEV_VIOL_INFO) 31 then e else (e.wrN DEV_VIOL_ADDR_LO addr).wrN DEV_VIOL_ADDR_HI (addr / 2 ^ 32 % 128)

/-- A violation notes itself in the DEV page, writes a record and answers its requester (R64 to R66). -/
theorem Dev.violation_eq (d : Dev) (agent : Nat) (bar2 write : Bool) (addr : Nat) :
    d.violation agent bar2 write addr =
      { (d.violNoted agent bar2 write addr).record 0x01 0 0 ((d.violNoted agent bar2 write addr).rd DEV_VIOL_INFO).toNat with
        resp := violationAnswer agent write } := by
  unfold Dev.violation Dev.violNoted violWord
  dsimp only
  by_cases h : bitOf (d.rd DEV_VIOL_INFO) 31 = true
  · simp only [if_pos h]
  · simp only [if_neg h]
    rfl

theorem Dev.violNoted_of_held {d : Dev} (agent : Nat) (bar2 write : Bool) (addr : Nat) (h : bitOf (d.rd DEV_VIOL_INFO) 31 = true) :
    d.violNoted agent bar2 write addr = d.wr DEV_VIOL_INFO (violWord (d.rd DEV_VIOL_INFO) agent bar2 write) := by
  unfold Dev.violNoted; rw [if_pos h]

theorem Dev.violNoted_of_free {d : Dev} (agent : Nat) (bar2 write : Bool) (addr : Nat) (h : bitOf (d.rd DEV_VIOL_INFO) 31 = false) :
    d.violNoted agent bar2 write addr = ((d.wr DEV_VIOL_INFO (violWord (d.rd DEV_VIOL_INFO) agent bar2 write)).wr DEV_VIOL_ADDR_LO
      (w32 addr)).wr DEV_VIOL_ADDR_HI (w32 (addr / 2 ^ 32 % 128)) := by
  unfold Dev.violNoted; rw [h]; rfl

theorem Dev.violNoted_regsOnly (d : Dev) (agent : Nat) (bar2 write : Bool) (addr : Nat) :
    RegsOnly d (d.violNoted agent bar2 write addr) := by
  unfold Dev.violNoted RegsOnly
  split <;> rfl

@[simp] theorem Dev.violation_rd (d : Dev) (agent : Nat) (bar2 write : Bool) (addr b : Nat) :
    (d.violation agent bar2 write addr).rd b = (d.violNoted agent bar2 write addr).rd b := by
  rw [Dev.violation_eq]; rfl

@[simp] theorem Dev.violation_resp (d : Dev) (agent : Nat) (bar2 write : Bool) (addr : Nat) :
    (d.violation agent bar2 write addr).resp = violationAnswer agent write := by
  rw [Dev.violation_eq]

/-- A violation writes one record. -/
theorem Dev.violation_flt (d : Dev) (agent : Nat) (bar2 write : Bool) (addr : Nat) :
    ∃ r : ErrRec, r.cls = 1 ∧ r.kind = 0 ∧
      (d.violation agent bar2 write addr).flt = { d.flt with pendingRecords := d.flt.pendingRecords ++ [r] } := by
  have h : (d.violNoted agent bar2 write addr).flt = d.flt := by rw [Dev.violNoted_regsOnly]
  rw [Dev.violation_eq, ← h]
  exact ⟨_, rfl, rfl, rfl⟩

/-- Registers, the answer and the record apart, a violation changes nothing (R64). -/
theorem Dev.violation_only (d : Dev) (agent : Nat) (bar2 write : Bool) (addr : Nat) :
    d.violation agent bar2 write addr =
      { d with regs := (d.violation agent bar2 write addr).regs, resp := (d.violation agent bar2 write addr).resp,
               flt := (d.violation agent bar2 write addr).flt } := by
  have h : d.violNoted agent bar2 write addr = { d with regs := (d.violNoted agent bar2 write addr).regs } :=
    Dev.violNoted_regsOnly d agent bar2 write addr
  rw [Dev.violation_eq, h]
  rfl

theorem Dev.violNoted_info (d : Dev) (agent : Nat) (bar2 write : Bool) (addr : Nat) :
    (d.violNoted agent bar2 write addr).rd DEV_VIOL_INFO = violWord (d.rd DEV_VIOL_INFO) agent bar2 write := by
  cases h : bitOf (d.rd DEV_VIOL_INFO) 31
  · rw [Dev.violNoted_of_free _ _ _ _ h, Dev.rd_wr_other _ _ (by decide), Dev.rd_wr_other _ _ (by decide), Dev.rd_wr_same]
  · rw [Dev.violNoted_of_held _ _ _ _ h, Dev.rd_wr_same]

/-- A violation writes VIOL_INFO and the address words alone among the registers. -/
theorem Dev.violNoted_regsKeep (d : Dev) (agent : Nat) (bar2 write : Bool) (addr : Nat) :
    RegsKeep [DEV_VIOL_INFO, DEV_VIOL_ADDR_LO, DEV_VIOL_ADDR_HI] d (d.violNoted agent bar2 write addr) := by
  intro a ha
  simp only [List.mem_cons, List.not_mem_nil, or_false, not_or] at ha
  obtain ⟨hi, hl, hh⟩ := ha
  unfold Dev.violNoted
  split
  · exact Dev.rd_wr_other _ _ hi
  · exact (Dev.rd_wrN_other _ _ hh).trans ((Dev.rd_wrN_other _ _ hl).trans (Dev.rd_wr_other _ _ hi))

/-! ### The access fault of a sequencer (R66, R254) -/

theorem accessFault_of_not_seq {agent : Nat} (d : Dev) (h : isSeqAgent agent = false) : accessFault agent d = d := by
  simp [accessFault, h]

/-- A GAP entry touches a field's trace and its count of lost words, or nothing (R99). -/
theorem traceGap_cases (f : Nat) (d : Dev) :
    traceGap f d = d ∨ ∃ t n, traceGap f d = (d.setTrace f t).bumpBy (TRACE_LOST_WORDS f) n := by
  unfold traceGap
  exact (ite_eq_or_eq _ _ _).imp_right fun h => ⟨_, _, h⟩

/-- The trace of an event touches a field's trace and its count of lost words (R98, R99). -/
theorem Dev.traceEvent_cases (d : Dev) (f typ seq hi w2 w3 src : Nat) :
    d.traceEvent f typ seq hi w2 w3 src = d ∨ ∃ t, d.traceEvent f typ seq hi w2 w3 src = (traceGap f d).setTrace f t := by
  unfold Dev.traceEvent
  dsimp only
  refine (ite_eq_or_eq _ _ _).symm.imp_right fun h => ?_
  rw [h]
  exact (ite_eq_or_eq _ _ _).elim (fun h => ⟨_, h⟩) (fun h => ⟨_, h⟩)

@[simp] theorem traceGap_seqs (f : Nat) (d : Dev) : (traceGap f d).seqs = d.seqs := by
  obtain h | ⟨t, n, h⟩ := traceGap_cases f d <;> simp [h]

@[simp] theorem Dev.traceEvent_seqs (d : Dev) (f typ seq hi w2 w3 src : Nat) : (d.traceEvent f typ seq hi w2 w3 src).seqs = d.seqs := by
  obtain h | ⟨t, h⟩ := d.traceEvent_cases f typ seq hi w2 w3 src <;> simp [h]

@[simp] theorem setSt_seqs (q st cause : Nat) (d : Dev) : (setSt q st cause d).seqs = d.seqs := by
  unfold setSt
  dsimp only
  split <;> simp

theorem setSt_seq (q st cause x : Nat) (d : Dev) : (setSt q st cause d).seq x = d.seq x := by
  unfold Dev.seq; rw [setSt_seqs]

theorem Dev.seq_modSeq_same (d : Dev) (q : Nat) (f : Sequencer → Sequencer) : (d.modSeq q f).seq q = f (d.seq q) :=
  kvGetD_setD_same _ _ _ _

/-- A command that faults alone, or is stopped: the fault is open and its beat's commands have left the queue (R260). -/
theorem seqAbort_seq (q cause entry : Nat) (c : Cmd) (byManager : Bool) (d : Dev) :
    ((seqAbort q cause entry c byManager d).seq q).fault = some { cause, entry, bank := activeBank d q, cmd := c } ∧
      ((seqAbort q cause entry c byManager d).seq q).queue = (d.seq q).queue.filter fun k => !k.sameBeat c := by
  have hs : ∀ e : Dev, (if e.seqSt q = stHalting ∨ e.seqSt q = stHalted then e else setSt q stAborting 0 e).seq q = e.seq q := by
    intro e
    split
    · rfl
    · exact setSt_seq ..
  unfold seqAbort
  dsimp only
  rw [Dev.seq_modSeq_same, hs]
  split
  · split <;> exact ⟨rfl, rfl⟩
  · exact ⟨rfl, rfl⟩

theorem seqFaultNow_of_cur {q cause entry : Nat} {d : Dev} {c : Cmd} (hc : (d.seq q).cur = some c) (hf : (d.seq q).fault = none) :
    seqFaultNow q cause entry d = seqAbort q cause entry c false d := by
  unfold seqFaultNow; rw [hc]; simp [hf]

/-- The access fault of a sequencer's agent: its command in progress faults with ACCESS. -/
theorem accessFault_of_seq {q : Nat} {d : Dev} {c : Cmd} (hq : q < 48) (hc : (d.seq q).cur = some c) (hf : (d.seq q).fault = none) :
    ∃ x, ((accessFault (0x40 + q) d).seq q).fault = some x ∧ x.cause = 0x0A ∧ x.cmd = c ∧
      ((accessFault (0x40 + q) d).seq q).queue = (d.seq q).queue.filter fun k => !k.sameBeat c := by
  have hs : isSeqAgent (0x40 + q) = true := by simp [isSeqAgent]; omega
  have hq' : 0x40 + q - 0x40 = q := by omega
  unfold accessFault
  rw [if_pos hs, hq', seqFaultNow_of_cur hc hf]
  obtain ⟨h1, h2⟩ := seqAbort_seq q 0x0A (nextEntry d q) c false d
  exact ⟨_, h1, rfl, rfl, h2⟩

/-- The answers of R64 and R66, by requester. -/
theorem violationAnswer_cases (agent : Nat) (write : Bool) :
    (agent = 1 → (violationAnswer agent write).kind = if write then .ok else .unsupportedRequest) ∧
    (agent = 2 → violationAnswer agent write = { kind := .windowCode, bytes := [0, 0, 0, 0], code := 0xFF }) ∧
    (isPewter agent = true → (violationAnswer agent write).kind = .busFault) ∧
    (isSeqAgent agent = true → (violationAnswer agent write).kind = .accessFault) ∧
    (isPeerAgent agent = true → violationAnswer agent write = { kind := .negative, bytes := [0, 0, 0, 0], code := 0xFF }) := by
  refine ⟨?_, ?_, fun h => ?_, fun h => ?_, fun h => ?_⟩
  · rintro rfl; rfl
  · rintro rfl; rfl
  · simp only [isPewter, Bool.or_eq_true, beq_iff_eq] at h
    obtain ((rfl | rfl) | rfl) | rfl := h <;> rfl
  · simp only [isSeqAgent, decide_eq_true_eq] at h
    have h1 : (agent == agentHost) = false := by simp [agentHost]; omega
    have h2 : (agent == agentDebug) = false := by simp [agentDebug]; omega
    have h3 : isPewter agent = false := by simp [isPewter]; omega
    have h4 : isSeqAgent agent = true := by simp [isSeqAgent]; omega
    simp [violationAnswer, h1, h2, h3, h4]
  · simp only [isPeerAgent, decide_eq_true_eq] at h
    have h1 : (agent == agentHost) = false := by simp [agentHost]; omega
    have h2 : (agent == agentDebug) = false := by simp [agentDebug]; omega
    have h3 : isPewter agent = false := by simp [isPewter]; omega
    have h4 : isSeqAgent agent = false := by simp [isSeqAgent]; omega
    simp [violationAnswer, h1, h2, h3, h4]
    rfl

theorem violClear_of_pass {data : Word} {d : Dev} (hu : d.up = true) (hv : bitOf data 31 = true) (hr : fld data 28 24 = 0) :
    violClear agentHost data d = ((d.wr DEV_VIOL_INFO 0).wr DEV_VIOL_ADDR_LO 0).wr DEV_VIOL_ADDR_HI 0 := by
  have hm : d.mayWrite agentHost .dev = true := rfl
  unfold violClear
  rw [Dev.checked_pass _ _ _ _ _ _ (by simp [hm, hu, hr]), if_pos hv]

/-- The access of a violation, and one that is none (R64). -/
theorem exec_violationAccess (agent addr : Nat) (bar2 write : Bool) (s : State) :
    exec (.violationAccess agent bar2 write addr) s = onDev (fun d =>
      if (if bar2 then decide (memCapacity ≤ addr) else !implemented addr) then d.violates agent bar2 write addr else d) s := rfl

/-- Settles O12. -/
theorem violations : Obligations.Violations := by
  refine ⟨fun s agent addr bar2 write ha hv => ?_, fun s agent addr bar2 write hv => ?_, fun s data hu hd hr => ?_⟩
  · have hv' : (if bar2 then decide (memCapacity ≤ addr) else !implemented addr) = true := by
      cases bar2 <;> simpa using hv
    refine Gives.onDev (exec_violationAccess ..) ?_
    rw [if_pos hv']
    have hsame : (s.dev.violation agent bar2 write addr).seqs = s.dev.seqs := by rw [Dev.violation_only]
    have hseq : ∀ q, (s.dev.violation agent bar2 write addr).seq q = s.dev.seq q := fun q => by unfold Dev.seq; rw [hsame]
    obtain ⟨hhost, hdebug, hpewter, hsequencer, hpeer⟩ := violationAnswer_cases agent write
    refine ⟨s.dev.violation agent bar2 write addr, rfl, accessFault_of_not_seq _, ?_, ?_, ?_, fun hw => ?_, fun hw => ?_,
      Dev.violation_flt .., Dev.violation_only .., ?_⟩
    · rintro q c rfl hq hc hf
      rw [← hseq] at hc hf
      have h := accessFault_of_seq hq hc hf
      rw [hseq] at h
      exact h
    · rw [Dev.violation_rd, Dev.violNoted_info]; exact violWord_valid ..
    · rw [Dev.violation_rd, Dev.violNoted_info]; exact violWord_count ..
    · refine ⟨?_, fun b hb => ?_⟩ <;> rw [Dev.violation_rd]
      · rw [Dev.violNoted_info]; exact violWord_kept _ _ _ hw
      · rw [Dev.violNoted_of_held _ _ _ _ hw]; exact regsKeep_wr _ _ _ b hb
    · have hfirst := violWord_first bar2 write hw ha
      rw [← Dev.violNoted_info s.dev agent bar2 write addr, ← Dev.violation_rd] at hfirst
      obtain ⟨h30, h29, hagent⟩ := hfirst
      refine ⟨h30, h29, hagent, ?_, ?_, fun b hb => ?_⟩ <;> rw [Dev.violation_rd]
      · rw [Dev.violNoted_of_free _ _ _ _ hw, Dev.rd_wr_other _ _ (by decide), Dev.rd_wr_same]
      · rw [Dev.violNoted_of_free _ _ _ _ hw, Dev.rd_wr_same]
      · exact Dev.violNoted_regsKeep _ _ _ _ _ b hb
    · rw [Dev.violation_resp]
      exact ⟨hhost, hdebug, hpewter, hsequencer, hpeer⟩
  · have hv' : (if bar2 then decide (memCapacity ≤ addr) else !implemented addr) = false := by
      cases bar2 <;> simpa using hv
    refine Gives.onDev (exec_violationAccess ..) ?_
    rw [hv']; rfl
  · refine Gives.onDev (f := violClear agentHost data) rfl ?_
    rw [violClear_of_pass hu hd hr]
    refine ⟨?_, ?_, Dev.rd_wr_same .., ?_⟩
    · rw [Dev.rd_wr_other _ _ (by decide), Dev.rd_wr_other _ _ (by decide), Dev.rd_wr_same]
    · rw [Dev.rd_wr_other _ _ (by decide), Dev.rd_wr_same]
    · exact (((onlyRegs_wr s.dev _ _).mono (by simp)).trans ((onlyRegs_wr _ _ _).mono (by simp))).trans
        ((onlyRegs_wr _ _ _).mono (by simp))

end Sys2Proof.Machine

/-! PROOF. Pages: where the offsets of a page lie (02_control_model.md R38). -/

namespace Sys2Proof.Machine

/-! ### The page map (R38) -/

/-- The group of pages of a field, and the page in it, are those of the page's base (R38). -/
theorem fieldGroup_add {a k : Nat} (h : 0x20000 ≤ a) (hz : a % 0x1000 = 0) (hk : k < 0x400) :
    (a + k - 0x20000) / 0x8000 = (a - 0x20000) / 0x8000 ∧
      (a + k - 0x20000) % 0x8000 / 0x1000 = (a - 0x20000) % 0x8000 / 0x1000 ∧ (a + k) % 0x1000 = k := by
  obtain ⟨m, rfl⟩ : ∃ m, a = 0x20000 + 0x1000 * m := ⟨(a - 0x20000) / 0x1000, by omega⟩
  rw [show 0x20000 + 0x1000 * m + k - 0x20000 = 0x1000 * m + k by omega, show 0x20000 + 0x1000 * m - 0x20000 = 0x1000 * m by omega]
  omega

/-- The offsets of the header and the areas behind it lie in the page of its base. -/
theorem pageOf_add {a k : Nat} {p : Page} (h : pageOf a = some (p, 0)) (hk : k < 0x400) : pageOf (a + k) = some (p, k) := by
  simp only [pageOf] at h ⊢
  split_ifs at h with h1 h2 h3 hk0 hk5 hk6
  · obtain ⟨q, hq, he⟩ := Option.map_eq_some_iff.1 h
    obtain ⟨rfl, hz⟩ := Prod.mk.inj he
    rw [if_pos (by omega), show (a + k) / 0x1000 = a / 0x1000 by omega, show (a + k) % 0x1000 = k by omega, hq]
    rfl
  iterate 2
    · obtain ⟨rfl, hz⟩ := Prod.mk.inj (Option.some.inj h)
      obtain ⟨hf, ho, hw⟩ := fieldGroup_add (k := k) (by omega) hz hk
      rw [if_neg (by omega), if_neg (by omega), if_pos (by omega), hf, ho, hw]
      simp only [*, if_true, if_false]
  · obtain ⟨rfl, hz⟩ := Prod.mk.inj (Option.some.inj h)
    obtain ⟨hf, ho, hw⟩ := fieldGroup_add (k := k) (by omega) hz hk
    rw [if_neg (by omega), if_neg (by omega), if_pos (by omega), hf, ho, hw, hk6]
    rfl
  · obtain ⟨rfl, hz⟩ := Prod.mk.inj (Option.some.inj h)
    rw [if_neg (by omega), if_neg (by omega), if_neg (by omega), if_pos (by omega), show (a + k - 0x80000) / 0x1000 = (a - 0x80000) / 0x1000 by omega,
      show (a + k) % 0x1000 = k by omega]
  · obtain ⟨rfl, hz⟩ := Prod.mk.inj (Option.some.inj h)
    rw [if_neg (by omega), if_neg (by omega), if_neg (by omega), if_neg (by omega), if_neg (by omega), if_pos (by omega),
      show (a + k - 0x1000000) / 0x400 = (a - 0x1000000) / 0x400 by omega, show (a + k) % 0x400 = k by omega]

/-! ### Digests and ERR_CODE (R54, R62, R63) -/

theorem digestDone_of_busy {p : Page} {d : Dev} (h : p.base ∈ d.digestBusy) :
    digestDone p d = ({ d with digests := kvPut d.digests p.base (configDigest d p), digestBusy := setDel d.digestBusy p.base } : Dev).wr
      (p.base + 0x20) (d.rd (p.base + 0x20) + 1) := by
  unfold digestDone
  rw [if_pos (List.contains_iff_mem.2 h)]
  rfl

theorem digestDone_of_not_busy {p : Page} {d : Dev} (h : p.base ∉ d.digestBusy) : digestDone p d = d := by
  unfold digestDone
  rw [if_neg (by simpa using h)]

theorem exec_digestComplete {s : State} {a : Nat} {p : Page} (h : pageOf a = some (p, 0)) :
    exec (.digestComplete a) s = onDev (digestDone p) s := by
  show execDigestComplete a s = _
  unfold execDigestComplete
  rw [h]
  rfl

/-- The write of 1 to ERR_CODE.VALID of a page whose domain is on. -/
theorem wordWrite_errCode {agent a : Nat} {p : Page} {x : ExtMem} {d : Dev} (ha : pageOf a = some (p, 0)) :
    wordWrite agent (a + 0x10) 0x80000000 x d = if p.dark d then (d, []) else (errClear p 0x80000000 d, []) := by
  have hp := pageOf_add ha (k := 0x10) (by decide)
  have hi : implemented (a + 0x10) = true := by
    unfold implemented
    rw [hp]
    rfl
  unfold wordWrite pageWrite
  rw [hi, hp]
  rfl

theorem errClear_strm (d : Dev) : errClear .strm 0x80000000 d = (d.wr (Page.strm.base + 0x10) 0).wr STRM_REJ_INFO 0 := rfl

theorem errClear_of_ne_strm {p : Page} {d : Dev} (h : p ≠ .strm) : errClear p 0x80000000 d = d.wr (p.base + 0x10) 0 := by
  unfold errClear
  rw [if_pos (by decide), if_neg h]

theorem errClear_spec (p : Page) (d : Dev) :
    (errClear p 0x80000000 d).rd (p.base + 0x10) = 0 ∧ (p = .strm → (errClear p 0x80000000 d).rd STRM_REJ_INFO = 0) ∧
      OnlyRegs (if p = .strm then [p.base + 0x10, STRM_REJ_INFO] else [p.base + 0x10]) d (errClear p 0x80000000 d) := by
  by_cases h : p = .strm
  · subst h
    rw [errClear_strm, if_pos rfl]
    refine ⟨?_, fun _ => Dev.rd_wr_same _ _ _, ?_⟩
    · rw [Dev.rd_wr_other _ _ (by decide), Dev.rd_wr_same]
    · exact ((onlyRegs_wr _ _ _).mono (by simp)).trans ((onlyRegs_wr _ _ _).mono (by simp))
  · rw [errClear_of_ne_strm h, if_neg h]
    exact ⟨Dev.rd_wr_same _ _ _, fun hs => absurd hs h, onlyRegs_wr _ _ _⟩

theorem exec_errCodeClear {s : State} {agent a : Nat} {p : Page} (hag : isAgent agent = true) (ha : pageOf a = some (p, 0)) :
    exec (.errCodeClear agent a) s = onDevMem (fun x d => wordWrite agent (a + 0x10) 0x80000000 x d) s := by
  show execErrCodeClear agent a s = _
  exact guardUnit_pos _ (by rw [hag, unitPage_of_base ha]; rfl)

/-- Settles O17: the digest's end and the write of 1 to ERR_CODE.VALID, each written out. -/
theorem pageUpkeep : Obligations.PageUpkeep := by
  unfold Obligations.PageUpkeep
  refine ⟨fun s a p ha => ⟨fun hb => ?_, fun hb => ?_⟩, fun s agent a p hag ha => ⟨fun hd => ?_, fun hd => ?_⟩⟩
  · refine Gives.onDev (f := digestDone p) (exec_digestComplete ha) ?_
    rw [digestDone_of_busy hb]
    refine ⟨Dev.rd_wr_same _ _ _, ?_, by simp, fun b h => by simp [h], fun b h => kvGet?_put_other _ _ h, ?_, rfl⟩
    · simp [digestOf]
    · exact (regsKeep_wr _ _ _)
  · exact Gives.onDev (f := digestDone p) (exec_digestComplete ha) (digestDone_of_not_busy hb)
  · refine Gives.onDevMem (f := fun x d => wordWrite agent (a + 0x10) 0x80000000 x d) (exec_errCodeClear hag ha) ?_ ?_
    · rw [wordWrite_errCode ha, if_neg (by simp [hd])]
    · rw [wordWrite_errCode ha, if_neg (by simp [hd])]
      exact errClear_spec p s.dev
  · refine Gives.onDevMem (f := fun x d => wordWrite agent (a + 0x10) 0x80000000 x d) (exec_errCodeClear hag ha) ?_ ?_
    · rw [wordWrite_errCode ha, if_pos hd]
    · rw [wordWrite_errCode ha, if_pos hd]

end Sys2Proof.Machine

/-! PROOF. Statements that the model refutes, each on a state that the model runs (02_control_model.md R48, R52, R58,
R61, R84, R96). -/

namespace Sys2Proof.Machine

/-! ### Running one command -/

/-- The inside of the part after a command that completes. -/
def devAfter (i : Instr) (s : State) : Option Dev :=
  match exec i s with
  | .next t => some t.dev
  | _ => none

theorem Gives.devAfter {i : Instr} {s : State} {p : Dev → Prop} (h : Gives i s p) : ∃ d, devAfter i s = some d ∧ p d := by
  obtain ⟨t, ht, -, -, -, hp⟩ := h
  exact ⟨t.dev, by simp [Machine.devAfter, ht], hp⟩

/-- A part that is out of reset and up, with some registers that are not at their reset value. -/
def upDev (r : KV Word) : Dev := { up := true, held := false, regs := r }

/-- The part with an empty queue and nothing in external memory. -/
def stateOf (d : Dev) : State := { pending := [], dev := d, mem := {} }

/-! ### A count register that clears on read and takes a free value (R48, R613) -/

/-- SPUR.FEC_CE_COUNT of port 0, whose value is free: its read takes the value from the free values. -/
theorem readClear_spur_freeCtr : (devAfter (.readClear 0x10 0x15110 4) (stateOf (upDev []))).map (·.freeCtr) = some 1 := by
  decide +kernel

/-- Refutes O13: a read of SPUR.FEC_CE_COUNT, an RC register, draws a free value, so that more changes than the
register and the answer. -/
theorem not_registerReads : ¬ Obligations.RegisterReads := by
  unfold Obligations.RegisterReads
  intro h
  obtain ⟨d, hd, -, -, heq, -⟩ := ((h.1 (stateOf (upDev [])) 0x10 0x15110 .spur 0x110 (by decide) rfl (by decide) (by decide) (by decide +kernel)
    (by decide +kernel) rfl).1 (by decide +kernel)).devAfter
  have hc := readClear_spur_freeCtr
  rw [hd] at hc
  exact absurd ((Option.some.inj hc).symm.trans (congrArg Dev.freeCtr heq)) Nat.one_ne_zero

/-! ### A write of a staged register while its apply is in progress (R61) -/

/-- A part in which a TAI setting of the TIME page waits for its instant. -/
def applyingDev : Dev := { upDev [] with time := { taiSet := some ⟨0, false, 0, 0, 0⟩ } }

theorem registerWrite_applying : (devAfter (.registerWrite 0x10 TIME_SET_SEC_LO [1, 0, 0, 0]) (stateOf applyingDev)).map
    (fun d => d.stagedRd TIME_SET_SEC_LO) = some 0 := by decide +kernel

/-- Refutes O14: while an apply of the TIME page is in progress a write of TIME.SET_SEC_LO is rejected with BUSY, a
check that the statement does not list. -/
theorem not_stagedWrite : ¬ Obligations.StagedWrite := by
  unfold Obligations.StagedWrite
  intro h
  obtain ⟨d, hd, hw, -⟩ := ((h (stateOf applyingDev) 0x10 TIME_SET_SEC_LO [1, 0, 0, 0] .time 0x120 _ 0 (by decide) rfl (by decide) rfl (by decide)
    (by decide +kernel) rfl (by decide) rfl rfl nofun nofun (by decide +kernel)).1 (by decide +kernel)).devAfter
  have hc := registerWrite_applying
  rw [hd] at hc
  exact absurd (hw.symm.trans (Option.some.inj hc)) (by decide)

/-! ### A write of part of STRM.CMD (R359) -/

theorem registerWrite_strmCmd_byte : (devAfter (.registerWrite 0x10 0xC104 [1]) (stateOf (upDev []))).map
    (fun d => bitOf (d.rd STRM_REJ_INFO) 31) = some true := by decide +kernel

/-- Refutes O15: the rejection of a one-byte write of STRM.CMD also fills STRM.REJ_INFO. -/
theorem not_plainWrite : ¬ Obligations.PlainWrite := by
  unfold Obligations.PlainWrite
  intro h
  obtain ⟨d, hd, heq⟩ := (h.2 (stateOf (upDev [])) 0x10 0xC104 1 .strm 0x104 (by decide) rfl (by decide) (by decide +kernel) (by decide +kernel) rfl).devAfter
  have hc := registerWrite_strmCmd_byte
  rw [hd, heq] at hc
  exact absurd hc (by decide +kernel)

/-! ### A halt request that a field trace with lost words records (R84, R99) -/

/-- An unlocked part whose sequencer 0 is IDLE, and whose field 0 traces the states of its sequencers and has lost four words. -/
def tracingDev : Dev :=
  { upDev [(DBG_STATUS, 1), (PWR_DOM_ON 4, 0x10000), (SEQ_SEQ_STATE 0, 1), (TRACE_TR_CTRL 0, 0x121)] with
    ctl := { trace := [(0, { lost := 4 })] } }

theorem haltRequest_tracing : (devAfter (.haltRequest agentDebug false 1) (stateOf tracingDev)).map (fun d => d.rd (TRACE_LOST_WORDS 0)) = some 4 := by
  decide +kernel

/-- Refutes O30: the change of state of a halted sequencer goes to the field trace, whose GAP entry adds the words lost
before it to TRACE.LOST_WORDS. -/
theorem not_haltsAndWaits : ¬ Obligations.HaltsAndWaits := by
  unfold Obligations.HaltsAndWaits
  intro h
  obtain ⟨d, hd, -, -, -, -, -, -, hkeep⟩ := ((h.1 (stateOf tracingDev) 0 (by decide) (by decide +kernel) rfl).1 (.inl (by decide +kernel))).devAfter
  have hc := haltRequest_tracing
  rw [show BitVec.ofNat 32 (2 ^ (0 % 32)) = (1 : Word) from rfl, show decide (32 ≤ 0) = false from rfl] at hd
  rw [hd] at hc
  exact absurd ((Option.some.inj hc).symm.trans (hkeep (TRACE_LOST_WORDS 0) (by decide))) (by decide +kernel)

end Sys2Proof.Machine

/-! PROOF. The field trace (02_control_model.md R96 to R100). -/

namespace Sys2Proof.Machine

/-! ### Trace state and registers -/

@[simp] theorem Dev.trace_setTrace_same (d : Dev) (f : Nat) (t : TraceSt) : (d.setTrace f t).trace f = t :=
  kvGetD_setD_same d.ctl.trace {} f t

theorem Dev.trace_setTrace_other (d : Dev) {f g : Nat} (t : TraceSt) (h : g ≠ f) : (d.setTrace f t).trace g = d.trace g :=
  kvGetD_setD_other d.ctl.trace {} t h

@[simp] theorem Dev.rd_setTrace (d : Dev) (f : Nat) (t : TraceSt) (a : Nat) : (d.setTrace f t).rd a = d.rd a := rfl

@[simp] theorem Dev.rd_answerW (d : Dev) (w : Word) (a : Nat) : (d.answerW w).rd a = d.rd a := rfl

theorem answerW_of_regsOnly {d e : Dev} (w : Word) (h : RegsOnly d e) :
    e.answerW w = { d with regs := (e.answerW w).regs, resp := (e.answerW w).resp } := by rw [h]; rfl

@[simp] theorem Dev.trace_bumpBy (d : Dev) (a n f : Nat) : (d.bumpBy a n).trace f = d.trace f := rfl

@[simp] theorem Dev.trace_bump (d : Dev) (a f : Nat) : (d.bump a).trace f = d.trace f := rfl

theorem Dev.trace_eq_of_regsOnly {d e : Dev} (h : RegsOnly d e) (f : Nat) : e.trace f = d.trace f := by rw [h]; rfl

@[simp] theorem satAdd_zero (w : Word) : satAdd w 0 = w := by
  have := w.isLt
  apply BitVec.eq_of_toNat_eq
  simp only [satAdd, BitVec.toNat_ofNat]
  omega

/-! ### Four words stored at TR_WR (R99) -/

/-- TR_WR after an entry is stored: 16 bytes on, or at the buffer's end back at the region's start, stopped or wrapped. -/
def traceWrNext (w : Word) (start : Nat) (stop : Bool) : Word :=
  if fld w 17 0 + 16 < traceBytes then setFld w 17 0 (fld w 17 0 + 16)
  else if stop then setFld (setFld w 17 0 start) 31 31 1 else setFld (setFld w 17 0 start) 30 30 1

/-- The buffer after four words are stored at a byte address. -/
def traceBufNext (buf : KV Word) (wr : Nat) (ws : List Word) : KV Word :=
  (List.range 4).foldl (fun b i => kvSetD b 0 (wr / 4 + i) (ws.getD i 0)) buf

theorem traceBufNext_get (buf : KV Word) (wr : Nat) (ws : List Word) (i : Nat) :
    kvGetD (traceBufNext buf wr ws) 0 i = if wr / 4 ≤ i ∧ i < wr / 4 + 4 then ws.getD (i - wr / 4) 0 else kvGetD buf 0 i := by
  by_cases h : wr / 4 ≤ i ∧ i < wr / 4 + 4
  · obtain ⟨j, rfl⟩ : ∃ j, i = wr / 4 + j := ⟨i - wr / 4, by omega⟩
    have hj : j < 4 := by omega
    rw [if_pos h]
    interval_cases j <;> simp [traceBufNext, List.range_succ, kvGetD_setD]
  · rw [if_neg h]
    have h0 : i ≠ wr / 4 + 0 ∧ i ≠ wr / 4 + 1 ∧ i ≠ wr / 4 + 2 ∧ i ≠ wr / 4 + 3 := by omega
    obtain ⟨h0, h1, h2, h3⟩ := h0
    simp [traceBufNext, List.range_succ, kvGetD_setD, h1, h2, h3, show i ≠ wr / 4 from h0]

/-- The field's trace after an entry is stored: the buffer, and how far entries reach below the spill area's end. -/
def traceStored (t : TraceSt) (wr : Nat) (ws : List Word) : TraceSt :=
  { t with buf := traceBufNext t.buf wr ws, low := if wr < spillEnd then max t.low (wr + 16) else t.low }

theorem traceStore_eq (f : Nat) (ws : List Word) (d : Dev) :
    traceStore f ws d =
      let e := d.setTrace f (traceStored (d.trace f) (d.rdF (TRACE_TR_WR f) 17 0) ws)
      if d.rdF (TRACE_TR_WR f) 17 0 + 16 < traceBytes then e.wrF (TRACE_TR_WR f) 17 0 (d.rdF (TRACE_TR_WR f) 17 0 + 16)
      else
        let e := e.wrF (TRACE_TR_WR f) 17 0 (d.rdF (TRACE_TR_REGION f) 17 0)
        if bitOf (e.rd (TRACE_TR_CTRL f)) 12 then e.wrF (TRACE_TR_WR f) 31 31 1 else e.wrF (TRACE_TR_WR f) 30 30 1 := by
  unfold traceStore traceStored traceBufNext
  rfl

theorem traceStore_regsOnly (f : Nat) (ws : List Word) (d : Dev) :
    RegsOnly (d.setTrace f (traceStored (d.trace f) (d.rdF (TRACE_TR_WR f) 17 0) ws)) (traceStore f ws d) := by
  rw [traceStore_eq]
  dsimp only
  generalize d.setTrace f _ = e
  split_ifs
  · exact regsOnly_wr _ _ _
  · exact (regsOnly_wr _ _ _).trans (regsOnly_wr _ _ _)
  · exact (regsOnly_wr _ _ _).trans (regsOnly_wr _ _ _)

theorem traceStore_rd (f : Nat) (ws : List Word) (d : Dev) (b : Nat) :
    (traceStore f ws d).rd b = if b = TRACE_TR_WR f
      then traceWrNext (d.rd (TRACE_TR_WR f)) (d.rdF (TRACE_TR_REGION f) 17 0) (bitOf (d.rd (TRACE_TR_CTRL f)) 12) else d.rd b := by
  have hc : TRACE_TR_CTRL f ≠ TRACE_TR_WR f := by simp only [TRACE_TR_CTRL, TRACE_TR_WR]; omega
  rw [traceStore_eq]
  unfold traceWrNext Dev.rdF Dev.wrF
  dsimp only
  generalize h : d.setTrace f _ = e
  have he : ∀ b, e.rd b = d.rd b := fun b => by rw [← h, Dev.rd_setTrace]
  simp only [Dev.rd_wr_other _ _ hc, he]
  by_cases hb : b = TRACE_TR_WR f
  · rw [if_pos hb, hb]
    split_ifs <;> simp only [Dev.rd_wr_same]
  · rw [if_neg hb]
    split_ifs <;> simp only [Dev.rd_wr_other _ _ hb, he]

/-! ### Entries and gaps -/

theorem traceWrNext_of_room {w : Word} {start : Nat} {stop : Bool} (h : fld w 17 0 + 16 < traceBytes) :
    fld (traceWrNext w start stop) 17 0 = fld w 17 0 + 16 := by
  have hl : fld w 17 0 + 16 < 2 ^ (17 + 1 - 0) := h
  rw [traceWrNext, if_pos h, fld_setFld_same _ _ (by decide), Nat.mod_eq_of_lt hl]

theorem traceWrNext_of_full {w : Word} {start : Nat} {stop : Bool} (h : traceBytes ≤ fld w 17 0 + 16) (hs : start < traceBytes) :
    fld (traceWrNext w start stop) 17 0 = start ∧ bitOf (traceWrNext w start stop) (if stop then 31 else 30) = true := by
  have hl : start < 2 ^ (17 + 1 - 0) := hs
  rw [traceWrNext, if_neg (Nat.not_lt.2 h)]
  cases stop
  · simp only [Bool.false_eq_true, if_false]
    exact ⟨by rw [fld_setFld_other _ _ (by omega), fld_setFld_same _ _ (by decide), Nat.mod_eq_of_lt hl],
      bitOf_setFld_inside _ 1 (by omega) (by omega) (by omega)⟩
  · simp only [if_true]
    exact ⟨by rw [fld_setFld_other _ _ (by omega), fld_setFld_same _ _ (by decide), Nat.mod_eq_of_lt hl],
      bitOf_setFld_inside _ 1 (by omega) (by omega) (by omega)⟩

theorem traceEntryWrite_of_nil {f : Nat} {d : Dev} (h : (d.trace f).queue = []) : traceEntryWrite f d = d := by
  simp [traceEntryWrite, h]

theorem traceEntryWrite_of_stopped {f : Nat} {d : Dev} (h : bitOf (d.rd (TRACE_TR_WR f)) 31 = true) : traceEntryWrite f d = d := by
  cases hq : (d.trace f).queue <;> simp [traceEntryWrite, hq, h]

/-- The oldest entry leaves the queue for the buffer; a GAP entry is counted. -/
theorem traceEntryWrite_of_cons {f : Nat} {d : Dev} {e : List Word} {q : List (List Word)} (hq : (d.trace f).queue = e :: q)
    (hs : bitOf (d.rd (TRACE_TR_WR f)) 31 = false) :
    traceEntryWrite f d =
      if fld (e.getD 0 0) 7 0 = 0x0F then (traceStore f e (d.setTrace f { d.trace f with queue := q })).bump (TRACE_GAP_COUNT f)
      else traceStore f e (d.setTrace f { d.trace f with queue := q }) := by
  simp [traceEntryWrite, hq, hs]

theorem traceGap_of_none {f : Nat} {d : Dev} (h : (d.trace f).lost = 0 ∨ 64 ≤ (d.trace f).queue.length ∨ bitOf (d.rd (TRACE_TR_WR f)) 31 = true) :
    traceGap f d = d := by
  unfold traceGap
  exact if_pos h

theorem traceGap_of_lost {f : Nat} {d : Dev} (hl : (d.trace f).lost ≠ 0) (hq : (d.trace f).queue.length < 64)
    (hs : bitOf (d.rd (TRACE_TR_WR f)) 31 = false) :
    traceGap f d = (d.setTrace f { d.trace f with lost := 0, queue := (d.trace f).queue ++
      [[w32 (0x0F + 0x3F * 2 ^ 8), w32 d.time.tb, w32 (d.trace f).lost, 0]] }).bumpBy (TRACE_LOST_WORDS f) (d.trace f).lost := by
  unfold traceGap
  exact if_neg (by simp [hl, hs, hq])

theorem powered_trace (d : Dev) (f : Nat) : d.powered (.trace f) = d.domOn (144 + f) := rfl

theorem traceRead_of_powered {f : Nat} {d : Dev} (h : d.domOn (144 + f) = true) :
    traceRead f d = (d.wrF (TRACE_TR_RD_ADDR f) 17 0 ((d.rdF (TRACE_TR_RD_ADDR f) 17 0 + 4) % traceBytes)).answerW
      (kvGetD (d.trace f).buf 0 (d.rdF (TRACE_TR_RD_ADDR f) 17 0 / 4)) := by
  unfold traceRead
  exact if_pos (by rw [powered_trace, h])

theorem baseChecks_pass {d : Dev} {agent : Nat} {p : Page} (hm : d.mayWrite agent p = true) (hf : d.isFenced p = false) (hu : d.up = true) :
    ∀ e ∈ d.baseChecks agent p, e.2 = false := by simp [Dev.baseChecks, hm, hf, hu]

theorem traceCtrlWrite_of_pass {f agent : Nat} {data : Word} {d : Dev} (hb : ∀ e ∈ d.baseChecks agent (.trace f), e.2 = false)
    (h : data.toNat &&& 0xFFFFE00E = 0) :
    traceCtrlWrite f agent data d = if bitOf data 12 then d.wr (TRACE_TR_CTRL f) data
      else (d.wr (TRACE_TR_CTRL f) data).wrF (TRACE_TR_WR f) 31 31 0 := by
  unfold traceCtrlWrite
  refine Dev.checked_pass d (.trace f) _ agent _ _ fun e he => ?_
  exact (List.mem_append.1 he).elim (hb e) fun h' => by simp_all

theorem spillRelease_of_held {f agent : Nat} {data : Word} {d : Dev} (hb : ∀ e ∈ d.baseChecks agent (.trace f), e.2 = false)
    (h : fld data 30 16 = 0) (hd : bitOf data 31 = true) (hs : bitOf (d.rd (TRACE_SPILL f)) 31 = true) :
    spillRelease f agent data d = (d.wrF (TRACE_SPILL f) 31 31 0).wrF (TRACE_TR_REGION f) 17 0 0 := by
  unfold spillRelease
  refine (Dev.checked_pass d (.trace f) _ agent _ _ fun e he => ?_).trans (if_pos (by rw [hd, hs]; rfl))
  exact (List.mem_append.1 he).elim (hb e) fun h' => by simp_all

theorem traceEntryWrite_rd {f : Nat} {d : Dev} {e : List Word} {q : List (List Word)} (hq : (d.trace f).queue = e :: q)
    (hs : bitOf (d.rd (TRACE_TR_WR f)) 31 = false) (b : Nat) :
    (traceEntryWrite f d).rd b =
      if b = TRACE_GAP_COUNT f then satAdd (d.rd b) (if fld (e.getD 0 0) 7 0 = 0x0F then 1 else 0)
      else if b = TRACE_TR_WR f then traceWrNext (d.rd (TRACE_TR_WR f)) (d.rdF (TRACE_TR_REGION f) 17 0) (bitOf (d.rd (TRACE_TR_CTRL f)) 12)
      else d.rd b := by
  have hne : TRACE_GAP_COUNT f ≠ TRACE_TR_WR f := by simp only [TRACE_GAP_COUNT, TRACE_TR_WR]; omega
  rw [traceEntryWrite_of_cons hq hs]
  generalize ht : TraceSt.mk q _ _ _ = t
  have hd : ∀ b, (traceStore f e (d.setTrace f t)).rd b = if b = TRACE_TR_WR f
      then traceWrNext (d.rd (TRACE_TR_WR f)) (d.rdF (TRACE_TR_REGION f) 17 0) (bitOf (d.rd (TRACE_TR_CTRL f)) 12) else d.rd b :=
    traceStore_rd f e (d.setTrace f t)
  by_cases hb : b = TRACE_GAP_COUNT f
  · rw [if_pos hb, hb]
    split
    · rw [Dev.rd_bump_same, hd, if_neg hne]
    · rw [hd, if_neg hne, satAdd_zero]
  · rw [if_neg hb]
    split
    · rw [Dev.rd_bump_other _ hb, hd]
    · rw [hd]

theorem traceEntryWrite_state {f : Nat} {d : Dev} {e : List Word} {q : List (List Word)} (hq : (d.trace f).queue = e :: q)
    (hs : bitOf (d.rd (TRACE_TR_WR f)) 31 = false) :
    RegsOnly (d.setTrace f { d.trace f with queue := q } |>.setTrace f (traceStored { d.trace f with queue := q } (d.rdF (TRACE_TR_WR f) 17 0) e))
      (traceEntryWrite f d) := by
  rw [traceEntryWrite_of_cons hq hs]
  have h := traceStore_regsOnly f e (d.setTrace f { d.trace f with queue := q })
  rw [Dev.trace_setTrace_same] at h
  split
  · exact h.trans (regsOnly_wr _ _ _)
  · exact h

theorem regsOnly_setTrace {f : Nat} {t : TraceSt} {d e : Dev} (h : RegsOnly (d.setTrace f t) e) :
    e = { d with regs := e.regs, ctl := { d.ctl with trace := e.ctl.trace } } := by rw [h]; rfl

theorem regsOnly_trace {f : Nat} {t u : TraceSt} {d e : Dev} (h : RegsOnly ((d.setTrace f t).setTrace f u) e) :
    e = { d with regs := e.regs, ctl := { d.ctl with trace := e.ctl.trace } } := by rw [h]; rfl

/-- The oldest entry of the queue goes to the buffer (R99). -/
theorem traceEntryWrite_spec {f : Nat} {d : Dev} {e : List Word} {q : List (List Word)} (hq : (d.trace f).queue = e :: q)
    (hs : bitOf (d.rd (TRACE_TR_WR f)) 31 = false) :
    let wr := d.rdF (TRACE_TR_WR f) 17 0
    let d' := traceEntryWrite f d
    (d'.trace f).queue = q ∧ (d'.trace f).lost = (d.trace f).lost ∧
      (∀ i, kvGetD (d'.trace f).buf 0 i =
        if wr / 4 ≤ i ∧ i < wr / 4 + 4 then e.getD (i - wr / 4) 0 else kvGetD (d.trace f).buf 0 i) ∧
      (wr + 16 < traceBytes → d'.rdF (TRACE_TR_WR f) 17 0 = wr + 16) ∧
      (traceBytes ≤ wr + 16 → d'.rdF (TRACE_TR_WR f) 17 0 = d.rdF (TRACE_TR_REGION f) 17 0 ∧
        bitOf (d'.rd (TRACE_TR_WR f)) (if bitOf (d.rd (TRACE_TR_CTRL f)) 12 then 31 else 30) = true) ∧
      d'.rd (TRACE_GAP_COUNT f) = satAdd (d.rd (TRACE_GAP_COUNT f)) (if fld (e.getD 0 0) 7 0 = 0x0F then 1 else 0) ∧
      RegsKeep [TRACE_TR_WR f, TRACE_GAP_COUNT f] d d' ∧ d' = { d with regs := d'.regs, ctl := { d.ctl with trace := d'.ctl.trace } } := by
  have hne : TRACE_TR_WR f ≠ TRACE_GAP_COUNT f := by simp only [TRACE_GAP_COUNT, TRACE_TR_WR]; omega
  have hst := traceEntryWrite_state hq hs
  have ht := (Dev.trace_eq_of_regsOnly hst f).trans (Dev.trace_setTrace_same _ _ _)
  have hw : (traceEntryWrite f d).rd (TRACE_TR_WR f) = _ := (traceEntryWrite_rd hq hs _).trans ((if_neg hne).trans (if_pos rfl))
  refine ⟨by rw [ht]; rfl, by rw [ht]; rfl, fun i => ?_, fun h => ?_, fun h => ?_, ?_, fun b hb => ?_, regsOnly_trace hst⟩
  · rw [ht]
    exact traceBufNext_get _ _ _ i
  · rw [Dev.rdF, hw]
    exact traceWrNext_of_room h
  · rw [Dev.rdF, hw]
    exact traceWrNext_of_full h (fld_lt _ _ _)
  · rw [traceEntryWrite_rd hq hs, if_pos rfl]
  · obtain ⟨h1, h2⟩ : b ≠ TRACE_TR_WR f ∧ b ≠ TRACE_GAP_COUNT f := by simpa using hb
    rw [traceEntryWrite_rd hq hs, if_neg h2, if_neg h1]

/-- Settles O21: the six operations on the field trace, each by what it writes. -/
theorem fieldTrace : Obligations.FieldTrace := by
  intro s f hf
  have hu : unitField f = true := by simpa [unitField] using hf
  refine ⟨fun e q hq hs => ?_, fun h => ?_, fun hl hq hs => ?_, fun h => ?_, fun hp => ?_, fun agent data hm hfn hup => ⟨fun hd => ?_, fun h0 hd hs => ?_⟩⟩
  · refine Gives.guarded (f := traceEntryWrite f) rfl hu ?_
    exact traceEntryWrite_spec hq hs
  · refine Gives.guarded (f := traceEntryWrite f) rfl hu ?_
    exact h.elim traceEntryWrite_of_nil traceEntryWrite_of_stopped
  · refine Gives.guarded (f := traceGap f) rfl hu ?_
    rw [traceGap_of_lost hl hq hs]
    exact ⟨(Dev.trace_bumpBy _ _ _ _).trans (Dev.trace_setTrace_same _ _ _), Dev.rd_wr_same _ _ _,
      fun g hg => (Dev.trace_bumpBy _ _ _ _).trans (Dev.trace_setTrace_other _ _ hg),
      regsKeep_wr (s.dev.setTrace f _) _ _, regsOnly_setTrace (regsOnly_wr _ _ _)⟩
  · exact Gives.guarded (f := traceGap f) rfl hu (traceGap_of_none h)
  · refine Gives.guarded (f := traceRead f) rfl hu ?_
    rw [traceRead_of_powered hp]
    refine ⟨rfl, ?_, fun b hb => ?_, answerW_of_regsOnly _ (regsOnly_wr _ _ _)⟩
    · have hm : ∀ n, n % traceBytes % 2 ^ (17 + 1 - 0) = n % 262144 := fun n => by rw [traceBytes]; omega
      rw [Dev.rdF, Dev.rd_answerW, Dev.rd_wrF_same, fld_setFld_same _ _ (by decide), hm]
    · rw [Dev.rd_answerW, Dev.wrF, regsKeep_wr _ _ _ b hb]
  · refine Gives.guarded (f := traceCtrlWrite f agent data) rfl hu ?_
    have hne : TRACE_TR_CTRL f ≠ TRACE_TR_WR f := by simp only [TRACE_TR_CTRL, TRACE_TR_WR]; omega
    rw [traceCtrlWrite_of_pass (baseChecks_pass hm hfn hup) hd]
    cases h12 : bitOf data 12
    · refine ⟨?_, fun _ => ?_, nofun, ?_⟩
      · exact (Dev.rd_wrF_other _ _ _ _ hne).trans (Dev.rd_wr_same _ _ _)
      · simp only [Bool.false_eq_true, if_false, Dev.rd_wrF_same, Dev.rd_wr_other _ _ hne.symm]
        exact ⟨bitOf_setFld_inside _ 0 (by omega) (by omega) (by omega), fld_setFld_other _ _ (by omega)⟩
      · exact ((onlyRegs_wr _ _ _).mono (by simp)).trans ((onlyRegs_wr _ _ _).mono (by simp))
    · exact ⟨Dev.rd_wr_same _ _ _, nofun, fun _ => Dev.rd_wr_other _ _ hne.symm, (onlyRegs_wr _ _ _).mono (by simp)⟩
  · refine Gives.guarded (f := spillRelease f agent data) rfl hu ?_
    have hne : TRACE_SPILL f ≠ TRACE_TR_REGION f := by simp only [TRACE_SPILL, TRACE_TR_REGION]; omega
    rw [spillRelease_of_held (baseChecks_pass hm hfn hup) h0 hd hs]
    refine ⟨?_, ?_, Dev.rdF_wrF_same _ _ _ (by decide), ?_⟩
    · rw [Dev.rd_wrF_other _ _ _ _ hne, Dev.rd_wrF_same, bitOf_setFld_inside _ 0 (by omega) (by omega) (by omega), Nat.zero_testBit]
    · rw [Dev.rd_wrF_other _ _ _ _ hne, Dev.rd_wrF_same, fld_setFld_other _ _ (by omega)]
    · exact ((onlyRegs_wr _ _ _).mono (by simp)).trans ((onlyRegs_wr _ _ _).mono (by simp))

end Sys2Proof.Machine

/-! PROOF. The apply point of a page (02_control_model.md R42, R59 to R61). -/

namespace Sys2Proof.Machine

/-! ### Staged values -/

theorem mem_stagedOffs {d : Dev} {p : Page} {o : Nat} :
    o ∈ stagedOffs d p ↔ o < p.size ∧ ∃ w, (p.base + o, w) ∈ d.staged := by
  simp only [stagedOffs, List.mem_filterMap, Option.ite_none_right_eq_some, Option.some.injEq]
  constructor
  · rintro ⟨⟨a, w⟩, he, ⟨h1, h2⟩, rfl⟩
    dsimp only at h1 h2 ⊢
    exact ⟨by omega, w, by rwa [show p.base + (a - p.base) = a by omega]⟩
  · rintro ⟨ho, w, he⟩
    exact ⟨_, he, ⟨Nat.le_add_right _ _, by simpa using ho⟩, by simp⟩

theorem kvGet?_isSome_of_mem {α : Type} {m : KV α} {a : Nat} {x : α} (h : (a, x) ∈ m) : ∃ y, kvGet? m a = some y := by
  induction m with
  | nil => cases h
  | cons e t ih =>
    obtain ⟨k, v⟩ := e
    simp only [kvGet?]
    split
    · exact ⟨v, rfl⟩
    · next hk =>
      rcases List.mem_cons.1 h with he | ht
      · cases he
        simp at hk
      · exact ih ht

/-- The staged value of a listed register is the listed one, whatever its active value. -/
theorem stagedRd_congr {d e : Dev} {p : Page} {o : Nat} (h : o ∈ stagedOffs d p) (hs : e.staged = d.staged) :
    e.stagedRd (p.base + o) = d.stagedRd (p.base + o) := by
  obtain ⟨-, w, hw⟩ := mem_stagedOffs.1 h
  obtain ⟨v, hv⟩ := kvGet?_isSome_of_mem hw
  simp [Dev.stagedRd, hs, hv]

theorem stagedOffs_congr {d e : Dev} (p : Page) (hs : e.staged = d.staged) : stagedOffs e p = stagedOffs d p := by
  simp [stagedOffs, hs]

theorem stagedOffs_keepNone (p : Page) (d : Dev) : stagedOffs (keepStaged d p fun _ => false) p = [] := by
  rw [List.eq_nil_iff_forall_not_mem]
  intro o ho
  obtain ⟨hs, w, hw⟩ := mem_stagedOffs.1 ho
  simp only [keepStaged, List.mem_filter] at hw
  simp [hs] at hw

theorem stagedRd_keepNone {p : Page} {d : Dev} {b : Nat} (h : b < p.base ∨ p.base + p.size ≤ b) :
    (keepStaged d p fun _ => false).stagedRd b = d.stagedRd b := by
  unfold keepStaged Dev.stagedRd
  have hk := kvGet?_filter d.staged (fun a => !decide (p.base ≤ a ∧ a < p.base + p.size) || false) b
  rw [if_pos (by simp; omega)] at hk
  rw [hk]
  rfl

/-! ### Active values -/

/-- A changed configuration touches a register and the digests only (R62). -/
def RegsDigests (d e : Dev) : Prop := e = { d with regs := e.regs, digests := e.digests, digestBusy := e.digestBusy }

theorem RegsDigests.trans {a b c : Dev} (h : RegsDigests a b) (g : RegsDigests b c) : RegsDigests a c := by
  unfold RegsDigests at *
  rw [g, h]

theorem RegsDigests.staged {d e : Dev} (h : RegsDigests d e) : e.staged = d.staged := by rw [h]

theorem Dev.setActive_cases (d : Dev) (p : Page) (o : Nat) (w : Word) :
    d.setActive p o w = d.wr (p.base + o) w ∨ d.setActive p o w = (d.wr (p.base + o) w).configChanged p (digestOf d p) := by
  unfold Dev.setActive
  exact (ite_eq_or_eq _ _ _).symm

theorem Dev.setActive_rd (d : Dev) (p : Page) (o : Nat) (w : Word) (b : Nat) :
    (d.setActive p o w).rd b = if b = p.base + o then w else d.rd b := by
  rcases d.setActive_cases p o w with h | h <;> rw [h, ← Dev.rd_wr]
  rfl

theorem Dev.setActive_regsDigests (d : Dev) (p : Page) (o : Nat) (w : Word) : RegsDigests d (d.setActive p o w) := by
  rcases d.setActive_cases p o w with h | h <;> rw [h] <;> rfl

/-- The listed registers of a page take their staged values, one after the other (R59). -/
def activate (p : Page) (offs : List Nat) (d : Dev) : Dev :=
  offs.foldl (fun d o => d.setActive p o (d.stagedRd (p.base + o))) d

theorem activate_cons (p : Page) (o : Nat) (offs : List Nat) (d : Dev) :
    activate p (o :: offs) d = activate p offs (d.setActive p o (d.stagedRd (p.base + o))) := rfl

theorem copyStaged_eq (p : Page) (d : Dev) : copyStaged p d = keepStaged (activate p (stagedOffs d p) d) p fun _ => false := rfl

theorem activate_regsDigests (p : Page) (offs : List Nat) (d : Dev) : RegsDigests d (activate p offs d) := by
  induction offs generalizing d with
  | nil => rfl
  | cons o t ih => exact (d.setActive_regsDigests p o _).trans (ih _)

theorem activate_rd_other {p : Page} {offs : List Nat} {d : Dev} {b : Nat} (h : b ∉ offs.map (p.base + ·)) :
    (activate p offs d).rd b = d.rd b := by
  induction offs generalizing d with
  | nil => rfl
  | cons o t ih =>
    obtain ⟨ho, ht⟩ : b ≠ p.base + o ∧ b ∉ t.map (p.base + ·) := by simpa [not_or] using h
    rw [activate_cons, ih ht, Dev.setActive_rd, if_neg ho]

theorem activate_rd_listed {p : Page} {offs : List Nat} {d : Dev} (hs : ∀ o ∈ offs, o ∈ stagedOffs d p) {o : Nat} (h : o ∈ offs) :
    (activate p offs d).rd (p.base + o) = d.stagedRd (p.base + o) := by
  induction offs generalizing d with
  | nil => cases h
  | cons k t ih =>
    rw [activate_cons]
    have hd := (d.setActive_regsDigests p k (d.stagedRd (p.base + k))).staged
    by_cases ht : o ∈ t
    · rw [ih (fun x hx => by rw [stagedOffs_congr p hd]; exact hs x (List.mem_cons_of_mem _ hx)) ht]
      exact stagedRd_congr (hs o h) hd
    · obtain rfl : o = k := (List.mem_cons.1 h).resolve_right ht
      rw [activate_rd_other (by simpa using ht), Dev.setActive_rd, if_pos rfl]

/-! ### CTRL (R42) -/

theorem setBit_zero_and_six (w : Word) (b : Bool) : setBit w 0 b &&& 6 = w &&& 6 := by
  apply BitVec.eq_of_getLsbD_eq
  intro i hi
  rw [BitVec.getLsbD_and, BitVec.getLsbD_and]
  by_cases h : i = 0
  · subst h
    simp
  · rw [← bitOf_eq, bitOf_setBit_other _ _ h]
    rfl

theorem ctrlWrite_apply {agent : Nat} {p : Page} {data : Word} {d : Dev} (hb : ∀ e ∈ d.baseChecks agent p, e.2 = false)
    (hd : p = .dbg → agent ≠ agentHost) (hr : fld data 31 3 = 0) :
    ctrlWrite agent p (setBit data 0 true) d = (applyPage agent p (d.wr (p.base + 8) (data &&& 6))).2 := by
  have hf : firstFail (d.baseChecks agent p ++
      [(.privilege, p == .dbg && agent == agentHost), (.reserved, decide (fld (setBit data 0 true) 31 3 ≠ 0))]) = none := by
    have hp : (p == .dbg && agent == agentHost) = false := by simpa using hd
    rw [firstFail_append_of_pass hb, fld_setBit_other _ _ (by omega), hr, hp]
    rfl
  unfold ctrlWrite
  rw [hf]
  dsimp only
  rw [if_pos (bitOf_setBit_same _ _ _ (by decide)), setBit_zero_and_six]

theorem exec_apply {s : State} {agent a : Nat} {data : Word} {p : Page} (h : pageOf a = some (p, 0)) :
    exec (.apply agent a data) s = onDevMem (fun _ d => ctrlWrite agent p (setBit data 0 true) d) s := by
  show execApply agent a data s = _
  unfold execApply
  rw [h]
  rfl

/-- Pages whose chapters make nothing of new values. -/
theorem applied_of_plain {p : Page} (h : p ∈ [Page.flt, .floor, .clk, .therm, .strm, .sel, .chan]) (old d : Dev) :
    applied p old d = (d, []) := by
  simp only [List.mem_cons, List.not_mem_nil, or_false] at h
  rcases h with rfl | rfl | rfl | rfl | rfl | rfl | rfl <;> rfl

theorem applyPage_of_none {agent : Nat} {p : Page} {d : Dev} (h : stagedOffs d p = []) : applyPage agent p d = (true, d, []) :=
  if_pos h

theorem applyPage_of_fail {agent : Nat} {p : Page} {d : Dev} {c : ErrCode} {o : Nat} (h : stagedOffs d p ≠ [])
    (hf : applyFail d p = some (c, o)) : applyPage agent p d = (false, d.reject p o agent c, []) := by
  unfold applyPage
  rw [if_neg h, hf]

theorem applyPage_of_pass {agent : Nat} {p : Page} {d : Dev} (h : stagedOffs d p ≠ []) (hf : applyFail d p = none) :
    applyPage agent p d = (true, applied p d (copyStaged p d)) := by
  unfold applyPage
  rw [if_neg h, hf]

/-- The staged values of a page in force: all of them, and nothing else (R59). -/
theorem copyStaged_spec (p : Page) (d : Dev) :
    let e := copyStaged p d
    (∀ o ∈ stagedOffs d p, e.rd (p.base + o) = d.stagedRd (p.base + o)) ∧ stagedOffs e p = [] ∧
      RegsKeep ((stagedOffs d p).map (p.base + ·)) d e ∧
      (∀ b, (b < p.base ∨ p.base + p.size ≤ b) → e.stagedRd b = d.stagedRd b) ∧
      e = { d with regs := e.regs, staged := e.staged, digests := e.digests, digestBusy := e.digestBusy } := by
  have hr := activate_regsDigests p (stagedOffs d p) d
  rw [copyStaged_eq]
  refine ⟨fun o ho => ?_, stagedOffs_keepNone _ _, fun b hb => ?_, fun b hb => ?_, ?_⟩
  · exact activate_rd_listed (fun _ h => h) ho
  · exact activate_rd_other hb
  · have hn : b ∉ (stagedOffs d p).map (p.base + ·) := by
      rintro hm
      obtain ⟨o, ho, rfl⟩ := List.mem_map.1 hm
      have := (mem_stagedOffs.1 ho).1
      omega
    rw [stagedRd_keepNone hb, Dev.stagedRd, hr.staged, activate_rd_other hn, Dev.stagedRd]
  · rw [hr]
    rfl

/-- A command that writes memory, by what its effect comes to. -/
theorem Completes.onDevMem {i : Instr} {s : State} {f : ExtMem → Dev → Dev × List MemWrite} {r : Dev × List MemWrite} {p : State → Prop}
    (h : exec i s = Machine.onDevMem f s) (hr : f s.mem s.dev = r)
    (hp : p { s with dev := countWrites r.2 r.1, mem := s.mem.writeAll r.2 }) : Completes i s p :=
  ⟨_, h, by rw [hr]; exact hp⟩

/-- Settles O16: the write of CTRL, then no apply, a rejected one, or the staged values in force. -/
theorem applyPage_atomic : Obligations.ApplyPage := by
  intro s agent a data p ha hm hf hu hd hr d1
  have hc : ctrlWrite agent p (setBit data 0 true) s.dev = (applyPage agent p d1).2 :=
    ctrlWrite_apply (baseChecks_pass hm hf hu) hd hr
  have hst : d1.staged = s.dev.staged := rfl
  have ho := stagedOffs_congr p hst
  refine ⟨fun hn => ?_, fun hn c o hfail => ?_, fun hn hpass => ?_⟩
  · refine Gives.onDevMem (f := fun _ d => ctrlWrite agent p (setBit data 0 true) d) (exec_apply ha) ?_ ?_
    all_goals rw [hc, applyPage_of_none (ho.trans hn)]
  · refine Gives.onDevMem (f := fun _ d => ctrlWrite agent p (setBit data 0 true) d) (exec_apply ha) ?_ ?_
    all_goals rw [hc, applyPage_of_fail (fun h => hn (ho.symm.trans h)) hfail]
    refine ⟨rfl, (congrArg Dev.staged (Dev.reject_only d1 p o agent c)).trans hst, fun b hb => ?_⟩
    obtain ⟨h8, he⟩ : b ≠ p.base + 8 ∧ b ∉ errRegs p := by simpa [not_or] using hb
    rw [Dev.reject_regs _ _ _ _ _ b he, Dev.rd_wr_other _ _ h8]
  · refine Completes.onDevMem (exec_apply ha) (hc.trans (congrArg Prod.snd (applyPage_of_pass (fun h => hn (ho.symm.trans h)) hpass))) ?_
    obtain ⟨h1, h2, h3, h4, h5⟩ := copyStaged_spec p d1
    rw [ho] at h1 h3
    refine ⟨copyStaged p d1, h1, h2, h3, h4, h5, rfl, rfl, rfl, fun hp => ?_⟩
    rw [applied_of_plain hp]
    exact ⟨countWrites_nil _, rfl⟩

end Sys2Proof.Machine

/-! PROOF. The debug window, the debug memory window and the debug port (02_control_model.md R79 to R83). -/

namespace Sys2Proof.Machine

/-! ### A peek by the debug agent (R48, R80) -/

/-- A write of ERR_CODE of a powered page makes no register of it act when it is peeked. -/
theorem readSpecial_wrErr {p : Page} {o : Nat} {d : Dev} (w : Word) (h : readSpecial agentDebug true p o d = none) (hd : p.dark d = false) :
    readSpecial agentDebug true p o (d.wr (p.base + 0x10) w) = none := by
  cases p
  case therm =>
    have hr : (d.wr (Page.therm.base + 0x10) w).rdF THERM_SENS_ADDR 7 0 = d.rdF THERM_SENS_ADDR 7 0 := by
      rw [Dev.rdF, Dev.rd_wr_other _ _ (by decide), Dev.rdF]
    simpa [readSpecial, hr] using h
  case strm =>
    have hp : o ≠ 0x12C := by
      rintro rfl
      cases h
    have hi : o ≠ 0x10C := by
      rintro rfl
      cases h
    simp [readSpecial, hp, hi]
  all_goals simp_all [readSpecial]

/-- A peek of a register that does not act returns its view and changes nothing. -/
theorem readWord_peek {a : Nat} {d : Dev} (h : ∀ p o, pageOf a = some (p, o) → (readSpecial agentDebug true p o d).isNone = true) :
    readWord agentDebug true a d = (viewWord d a, d) := by
  unfold readWord viewWord
  cases hp : pageOf a with
  | none => rfl
  | some po =>
    obtain ⟨p, o⟩ := po
    have hn := Option.isNone_iff_eq_none.1 (h p o hp)
    simp [hn]

/-- The code that such a peek reports: none. -/
theorem accessCode_peek {a : Nat} {p : Page} {o : Nat} {d : Dev} (hp : pageOf a = some (p, o))
    (h : readSpecial agentDebug true p o d = none) (hd : p.dark d = false) :
    accessCode a (fun d => (readWord agentDebug true a d).2) d = 0 := by
  have hr : readWord agentDebug true a (d.wr (p.base + 0x10) 0) = (viewWord (d.wr (p.base + 0x10) 0) a, d.wr (p.base + 0x10) 0) :=
    readWord_peek fun q k hq => by
      rw [hp] at hq
      obtain ⟨rfl, rfl⟩ := Prod.mk.inj (Option.some.inj hq)
      rw [readSpecial_wrErr 0 h hd]
      rfl
  have hj : rejectPage a = some p := by simp [rejectPage, hp]
  unfold accessCode
  rw [hj]
  dsimp only
  rw [hd, if_neg Bool.false_ne_true, hr, Dev.rd_wr_same]
  rfl

theorem codedAccess_peek {a : Nat} {x : ExtMem} {d : Dev} (hi : implemented a = true)
    (h : ∀ p o, pageOf a = some (p, o) → (readSpecial agentDebug true p o d).isNone = true) :
    codedAccess agentDebug true a none x d = (viewWord d a, 0, d, []) := by
  unfold codedAccess
  dsimp only
  rw [hi, readWord_peek h]
  cases hp : pageOf a with
  | none => rfl
  | some po =>
    obtain ⟨p, o⟩ := po
    cases hd : p.dark d
    · simp [hd, accessCode_peek hp (Option.isNone_iff_eq_none.1 (h p o hp)) hd]
    · simp [hd]

theorem codedAccess_violation {a : Nat} {peek : Bool} {x : ExtMem} {d : Dev} (hi : implemented a = false) :
    codedAccess agentDebug peek a none x d = (0, 0xFF, d.violation agentDebug false false a, []) := by
  unfold codedAccess
  dsimp only
  rw [hi]
  exact congrArg (fun e => ((0 : Word), 0xFF, e, ([] : List MemWrite))) (accessFault_of_not_seq _ (by decide))

/-! ### The access window (R80 to R82) -/

/-- ACC_CTRL after a read through the window: GO and CONSUME cleared, the code in DONE_CODE. -/
def accDone (c : Word) (code : Nat) : Word := setFld (setBit (setBit c 0 false) 2 false) 15 8 code

theorem accDone_fields (c : Word) (code : Nat) :
    bitOf (accDone c code) 0 = false ∧ bitOf (accDone c code) 2 = false ∧ fld (accDone c code) 15 8 = code % 256 := by
  refine ⟨?_, ?_, fld_setFld_same _ _ (by decide)⟩ <;> rw [accDone, bitOf_setFld_other _ _ (by omega)]
  · rw [bitOf_setBit_other _ _ (by omega), bitOf_setBit_same _ _ _ (by decide)]
  · exact bitOf_setBit_same _ _ _ (by decide)

theorem windowDone_idle {x : ExtMem} {d : Dev} (h : bitOf (d.rd DBG_ACC_CTRL) 0 = false) : windowDone x d = (d, []) := by
  simp [windowDone, h]

theorem windowDone_read {x : ExtMem} {d e : Dev} {w : Word} {code : Nat} (hg : bitOf (d.rd DBG_ACC_CTRL) 0 = true)
    (hw : bitOf (d.rd DBG_ACC_CTRL) 1 = false)
    (h : codedAccess agentDebug (!bitOf (d.rd DBG_ACC_CTRL) 2) (d.rd DBG_ACC_ADDR).toNat none x d = (w, code, e, [])) :
    windowDone x d = ((e.wr DBG_ACC_DATA w).wr DBG_ACC_CTRL (accDone (e.rd DBG_ACC_CTRL) code), []) := by
  unfold windowDone
  simp [hg, hw, h, accDone, Dev.rd_wr_other e w (show DBG_ACC_CTRL ≠ DBG_ACC_DATA by decide)]

/-- What a read through the window leaves in its registers. -/
theorem accRegs (e : Dev) (w v : Word) :
    let d := (e.wr DBG_ACC_DATA w).wr DBG_ACC_CTRL v
    d.rd DBG_ACC_DATA = w ∧ d.rd DBG_ACC_CTRL = v ∧ OnlyRegs [DBG_ACC_DATA, DBG_ACC_CTRL] e d :=
  ⟨(Dev.rd_wr_other _ _ (by decide)).trans (Dev.rd_wr_same _ _ _), Dev.rd_wr_same _ _ _,
    ((onlyRegs_wr _ _ _).mono (by simp)).trans ((onlyRegs_wr _ _ _).mono (by simp))⟩

theorem and_setBit_zero {w : Word} {m : Nat} (b : Bool) (hm : m.testBit 0 = false) (h : w.toNat &&& m = 0) : (setBit w 0 b).toNat &&& m = 0 := by
  apply Nat.eq_of_testBit_eq
  intro i
  have hi := congrArg (Nat.testBit · i) h
  simp only [Nat.testBit_and, Nat.zero_testBit] at hi ⊢
  by_cases h0 : i = 0
  · rw [h0, hm, Bool.and_false]
  · have hb : (setBit w 0 b).toNat.testBit i = w.toNat.testBit i := bitOf_setBit_other w b h0
    rw [hb, hi]

/-- ACC_CTRL after an access is started. -/
def accStarted (c data : Word) : Word := setBit (setFld c 2 1 (fld data 2 1)) 0 true

theorem accCtrlWrite_of_pass {agent : Nat} {data : Word} {d : Dev} (hm : d.mayWrite agent .dbg = true) (hl : d.unlocked = true)
    (hu : d.up = true) (hb : bitOf (d.rd DBG_ACC_CTRL) 0 = false) (h : data.toNat &&& 0xFFFF00F8 = 0) :
    accCtrlWrite agent (setBit data 0 true) d = d.setActive .dbg 0x108 (accStarted (d.rd DBG_ACC_CTRL) data) := by
  have hr := and_setBit_zero true (m := 0xFFFF00F8) (by decide) h
  unfold accCtrlWrite
  refine (Dev.checked_pass d .dbg _ agent _ _ ?_).trans ?_
  · simp [hm, hl, hu, hb, hr]
  · rw [fld_setBit_other _ _ (by omega), bitOf_setBit_same _ _ _ (by decide), Bool.or_true, accStarted]

/-! ### The memory window (R83) -/

theorem dbgMemAccess_read {agent : Nat} {d : Dev} (hl : d.unlocked = true) (hs : d.rdF DBG_MEM_SITE 13 0 < 13824)
    (hf : d.isFenced (.tile (d.rdF DBG_MEM_SITE 13 0)) = false) (hc : bitOf (d.rd DBG_MEM_CTRL) 0 = false)
    (ha : (d.rd DBG_MEM_ADDR).toNat < spadWords) (hb : (d.rd DBG_MEM_ADDR).toNat ∉ (d.tile (d.rdF DBG_MEM_SITE 13 0)).bad) :
    dbgMemAccess agent none d =
      (d.answerW ((d.tile (d.rdF DBG_MEM_SITE 13 0)).rd (d.rd DBG_MEM_ADDR).toNat)).wr DBG_MEM_ADDR (d.rd DBG_MEM_ADDR + 1) := by
  have hk : firstFail (dbgMemChecks agent d false) = none := by
    rw [firstFail_none]
    simp [dbgMemChecks, hl, hf, hc, ha, hs]
  have hw : dbgMemWord d = ((d.tile (d.rdF DBG_MEM_SITE 13 0)).rd (d.rd DBG_MEM_ADDR).toNat, d) := by
    simp [dbgMemWord, hc, hb]
  unfold dbgMemAccess
  dsimp only
  rw [hk, hw]
  rfl

theorem dbgMemAccess_write {agent q : Nat} {w : Word} {d : Dev} (hl : d.unlocked = true) (hm : d.mayWrite agent .dbg = true) (hu : d.up = true)
    (hs : d.rdF DBG_MEM_SITE 13 0 < 13824) (hf : d.isFenced (.tile (d.rdF DBG_MEM_SITE 13 0)) = false)
    (hc : bitOf (d.rd DBG_MEM_CTRL) 0 = false) (ha : (d.rd DBG_MEM_ADDR).toNat < spadWords)
    (hq : d.tileFollows (d.rdF DBG_MEM_SITE 13 0) = some q) (hh : dbgIs d DBG_HALTED_LO q = true) :
    dbgMemAccess agent (some w) d =
      (d.modTile (d.rdF DBG_MEM_SITE 13 0) fun t => t.wr (d.rd DBG_MEM_ADDR).toNat w).wr DBG_MEM_ADDR (d.rd DBG_MEM_ADDR + 1) := by
  unfold dbgMemAccess
  refine (Dev.checked_pass d .dbg _ agent _ _ ?_).trans ?_
  · simp [dbgMemChecks, hl, hm, hu, hf, hc, ha, hs, hq, hh]
  · simp only [hc, Bool.false_eq_true, if_false]
    rfl

theorem Tile.rd_wr (t : Tile) (a b : Nat) (w : Word) : (t.wr a w).rd b = if b = a then w else t.rd b := kvGetD_setD t.spad 0 a b w

theorem Dev.tile_modTile (d : Dev) (s x : Nat) (f : Tile → Tile) : (d.modTile s f).tile x = if x = s then f (d.tile s) else d.tile x :=
  kvGetD_setD d.tiles {} s x (f (d.tile s))

/-! ### The debug port (R81) -/

theorem dapAccess_peek {addr : Nat} {x : ExtMem} {d : Dev} (hh : d.held = false) (hi : d.iface.jtagIr = 0x10) (hl : d.unlocked = true) :
    dapAccess addr false none x d =
      let r := codedAccess agentDebug true (addr / 4 * 4) none x d
      ({ r.2.2.1 with resp := { kind := .windowCode, bytes := leBytes 4 r.1.toNat, code := r.2.1 } }, r.2.2.2) := by
  unfold dapAccess
  rw [if_neg (by simp [hh, hi]), if_neg (by simp [hl])]
  rfl

/-- Settles O18: the window, the memory window and the port, each by the access it performs. -/
theorem debugAccess : Obligations.DebugAccess := by
  refine ⟨fun s agent data hm hl hu hb hd => ?_, fun s hg hw => ⟨fun hc hi hs => ?_, fun hi => ?_⟩, fun s h => ?_,
    fun s agent hl hs hf hc ha hb => ⟨?_, fun w q hm hu hq hh => ?_⟩, fun s addr hh hir hl hi hs => ?_⟩
  · refine Gives.onDev (f := accCtrlWrite agent (setBit data 0 true)) rfl ?_
    rw [accCtrlWrite_of_pass hm hl hu hb hd]
    have hv : (s.dev.setActive .dbg 0x108 (accStarted (s.dev.rd DBG_ACC_CTRL) data)).rd DBG_ACC_CTRL = accStarted (s.dev.rd DBG_ACC_CTRL) data :=
      (Dev.setActive_rd _ _ _ _ _).trans (if_pos rfl)
    refine ⟨?_, ?_, ?_, fun b hn => ?_, Dev.setActive_regsDigests _ _ _ _⟩
    · rw [hv]
      exact bitOf_setBit_same _ _ _ (by decide)
    · rw [hv, accStarted, fld_setBit_other _ _ (by omega), fld_setFld_same _ _ (by decide)]
      exact Nat.mod_eq_of_lt (fld_lt _ _ _)
    · rw [hv, accStarted, fld_setBit_other _ _ (by omega), fld_setFld_other _ _ (by omega)]
    · rw [Dev.setActive_rd]
      exact if_neg fun h => hn (List.mem_singleton.2 (h.trans (by decide)))
  · have hr : codedAccess agentDebug (!bitOf (s.dev.rd DBG_ACC_CTRL) 2) (s.dev.rd DBG_ACC_ADDR).toNat none s.mem s.dev =
        (viewWord s.dev (s.dev.rd DBG_ACC_ADDR).toNat, 0, s.dev, []) := by
      rw [hc]
      exact codedAccess_peek hi hs
    refine Gives.onDevMem (f := windowDone) rfl (by rw [windowDone_read hg hw hr]) ?_
    rw [windowDone_read hg hw hr]
    obtain ⟨hdata, hctrl, honly⟩ := accRegs s.dev (viewWord s.dev (s.dev.rd DBG_ACC_ADDR).toNat) (accDone (s.dev.rd DBG_ACC_CTRL) 0)
    obtain ⟨h0, h2, hcode⟩ := accDone_fields (s.dev.rd DBG_ACC_CTRL) 0
    rw [← hctrl] at h0 h2 hcode
    exact ⟨hdata, h0, h2, hcode, honly⟩
  · have hr := codedAccess_violation (peek := !bitOf (s.dev.rd DBG_ACC_CTRL) 2) (x := s.mem) (d := s.dev) hi
    refine Gives.onDevMem (f := windowDone) rfl (by rw [windowDone_read hg hw hr]) ?_
    rw [windowDone_read hg hw hr]
    have hkeep := Dev.violNoted_regsKeep s.dev agentDebug false false (s.dev.rd DBG_ACC_ADDR).toNat
    have hother := Dev.violation_only s.dev agentDebug false false (s.dev.rd DBG_ACC_ADDR).toNat
    have hrd := Dev.violation_rd s.dev agentDebug false false (s.dev.rd DBG_ACC_ADDR).toNat
    generalize s.dev.violation agentDebug false false (s.dev.rd DBG_ACC_ADDR).toNat = e at hother hrd
    obtain ⟨hdata, hctrl, honly, hregs⟩ := accRegs e 0 (accDone (e.rd DBG_ACC_CTRL) 0xFF)
    obtain ⟨h0, -, hcode⟩ := accDone_fields (e.rd DBG_ACC_CTRL) 0xFF
    rw [← hctrl] at h0 hcode
    refine ⟨hdata, h0, hcode, fun b hn => ?_, ?_⟩
    · have hn' : b ∉ [DBG_ACC_DATA, DBG_ACC_CTRL] ∧ b ∉ [DEV_VIOL_INFO, DEV_VIOL_ADDR_LO, DEV_VIOL_ADDR_HI] := by
        simp only [List.mem_cons, List.not_mem_nil, not_or, or_false] at hn ⊢
        tauto
      rw [hregs b hn'.1, hrd, hkeep b hn'.2]
    · rw [honly, hother]
  · refine Gives.onDevMem (f := windowDone) rfl ?_ ?_ <;> rw [windowDone_idle h]
  · refine Gives.onDev (f := dbgMemAccess agent none) rfl ?_
    rw [dbgMemAccess_read hl hs hf hc ha hb]
    exact ⟨rfl, Dev.rd_wr_same _ _ _, regsKeep_wr (s.dev.answerW _) _ _, rfl⟩
  · refine Gives.onDev (f := dbgMemAccess agent (some w)) rfl ?_
    rw [dbgMemAccess_write hl hm hu hs hf hc ha hq hh]
    generalize hsite : s.dev.rdF DBG_MEM_SITE 13 0 = site
    generalize haddr : (s.dev.rd DBG_MEM_ADDR).toNat = a
    have ht : ∀ x, ((s.dev.modTile site fun t => t.wr a w).wr DBG_MEM_ADDR (s.dev.rd DBG_MEM_ADDR + 1)).tile x =
        if x = site then (s.dev.tile site).wr a w else s.dev.tile x := fun x => Dev.tile_modTile s.dev site x fun t => t.wr a w
    refine ⟨?_, fun b hn => ?_, fun x hn => ?_, Dev.rd_wr_same _ _ _, regsKeep_wr (s.dev.modTile site _) _ _, rfl⟩
    · rw [ht, if_pos rfl, Tile.rd_wr, if_pos rfl]
    · rw [ht, if_pos rfl, Tile.rd_wr, if_neg hn]
    · rw [ht, if_neg hn]
  · refine Gives.onDevMem (f := fun x d => dapAccess addr false none x d) rfl ?_ ?_ <;>
      rw [dapAccess_peek hh hir hl, codedAccess_peek hi hs]

end Sys2Proof.Machine

/-! PROOF. Snapshots: the trigger and the latch of a page (02_control_model.md R88 to R93). -/

namespace Sys2Proof.Machine

/-! ### Triggers (R88, R95) -/

theorem snapReached_before {d : Dev} (h : ∀ x, d.ctl.snap = some x → d.time.tb < x.tick) : snapReached d = d := by
  unfold snapReached
  cases hs : d.ctl.snap with
  | none => rfl
  | some x => simp [h x hs]

/-- The registers of an accepted trigger: its ID, source and TAI, and the counts begun again. -/
def snapRegs (src tick : Nat) (d : Dev) : Dev :=
  (((((((d.wrN SNAP_LAST_ID d.ctl.nextSnap).wrN SNAP_LAST_SEC_LO (d.taiNsAt tick / 1000000000)).wrN SNAP_LAST_SEC_HI
    (d.taiNsAt tick / 1000000000 / 2 ^ 32 % 65536)).wrN SNAP_LAST_NS (d.taiNsAt tick % 1000000000)).wrF SNAP_LAST_PHASE 19 16 src).wrN
    SNAP_LATE_PAGES 0).wrN SNAP_STATE 1)

/-- The snapshot that a trigger begins. -/
def snapBegun (tick : Nat) (d : Dev) : ControlSt :=
  { d.ctl with snap := some { id := d.ctl.nextSnap, tick, spill := bitOf (d.rd SNAP_CTRL) 1 }, nextSnap := (d.ctl.nextSnap + 1) % 2 ^ 32 }

theorem snapRegs_regsOnly (src tick : Nat) (d : Dev) : RegsOnly d (snapRegs src tick d) := rfl

theorem snapRegs_rd (src tick : Nat) (d : Dev) (b : Nat) :
    (snapRegs src tick d).rd b =
      if b = SNAP_STATE then 1 else if b = SNAP_LATE_PAGES then 0
      else if b = SNAP_LAST_PHASE then setFld (d.rd SNAP_LAST_PHASE) 19 16 src
      else if b = SNAP_LAST_NS then w32 (d.taiNsAt tick % 1000000000)
      else if b = SNAP_LAST_SEC_HI then w32 (d.taiNsAt tick / 1000000000 / 2 ^ 32 % 65536)
      else if b = SNAP_LAST_SEC_LO then w32 (d.taiNsAt tick / 1000000000)
      else if b = SNAP_LAST_ID then w32 d.ctl.nextSnap else d.rd b := by
  unfold snapRegs Dev.wrN Dev.wrF
  simp only [Dev.rd_wr]
  rfl

theorem snapTrigger_of_free {src tick : Nat} {d : Dev} (hs : d.ctl.snap = none) (hc : bitOf (d.rd SNAP_CTRL) 0 = false) (ht : d.time.tb < tick) :
    (snapTrigger src tick d).1 = { snapRegs src tick d with ctl := snapBegun tick d } := by
  have hr : (snapRegs src tick d).rd SNAP_CTRL = d.rd SNAP_CTRL := by rw [snapRegs_rd]; rfl
  have he : ({ snapRegs src tick d with ctl := { d.ctl with
      snap := some { id := d.ctl.nextSnap, tick, spill := bitOf ((snapRegs src tick d).rd SNAP_CTRL) 1 },
      nextSnap := (d.ctl.nextSnap + 1) % 2 ^ 32 } } : Dev) = { snapRegs src tick d with ctl := snapBegun tick d } := by
    rw [hr]
    rfl
  have ht' : (snapTrigger src tick d).1 = snapReached { snapRegs src tick d with ctl := snapBegun tick d } := by
    rw [← he]
    unfold snapTrigger
    rw [if_neg (by simp [hs, hc])]
    rfl
  rw [ht']
  refine snapReached_before ?_
  rintro x hx
  cases hx
  exact ht

/-! ### FIRE (R88, R93) -/

theorem snapFire_of_pass {agent : Nat} {d : Dev} (hm : d.mayWrite agent .snap = true) (hu : d.up = true)
    (hc : bitOf (d.rd SNAP_CTRL) 0 = false) (hs : d.ctl.snap = none) :
    snapFire agent 1 d = { snapRegs 1 (d.time.tb + 1600) d with ctl := snapBegun (d.time.tb + 1600) d } := by
  unfold snapFire
  refine (Dev.checked_pass d .snap _ agent _ _ ?_).trans ?_
  · simp [hm, hu, hc, hs]
    decide
  · rw [if_pos (by decide)]
    exact snapTrigger_of_free hs hc (Nat.lt_add_of_pos_right (by decide))

/-- FIRE under HOLD, or with a snapshot in flight. -/
theorem snapFire_of_fail {agent : Nat} {d : Dev} (hm : d.mayWrite agent .snap = true) (hu : d.up = true)
    (h : bitOf (d.rd SNAP_CTRL) 0 = true ∨ d.ctl.snap.isSome = true) :
    snapFire agent 1 d = d.reject .snap 0x100 agent (if bitOf (d.rd SNAP_CTRL) 0 then .state else .busy) := by
  unfold snapFire
  refine Dev.checked_fail d .snap _ agent _ _ _ ?_
  rw [hm, hu, show bitOf (1 : Word) 0 = true by decide, show fld (1 : Word) 31 1 = 0 by decide]
  cases hc : bitOf (d.rd SNAP_CTRL) 0
  · rw [h.resolve_left (by simp [hc])]
    rfl
  · cases d.ctl.snap.isSome <;> rfl

/-- An accepted FIRE, register by register. -/
theorem snapFire_spec {agent : Nat} {d : Dev} (hm : d.mayWrite agent .snap = true) (hu : d.up = true)
    (hc : bitOf (d.rd SNAP_CTRL) 0 = false) (hs : d.ctl.snap = none) :
    let e := snapFire agent 1 d
    e.ctl = { d.ctl with
        snap := some { id := d.ctl.nextSnap, tick := d.time.tb + 1600, spill := bitOf (d.rd SNAP_CTRL) 1 },
        nextSnap := (d.ctl.nextSnap + 1) % 2 ^ 32 } ∧
      e.rd SNAP_LAST_ID = w32 d.ctl.nextSnap ∧ fld (e.rd SNAP_LAST_PHASE) 19 16 = 1 ∧
      e.rd SNAP_LAST_SEC_LO = w32 (d.taiNsAt (d.time.tb + 1600) / 1000000000) ∧
      e.rd SNAP_LAST_NS = w32 (d.taiNsAt (d.time.tb + 1600) % 1000000000) ∧
      e.rd SNAP_LATE_PAGES = 0 ∧ e.rd SNAP_STATE = 1 ∧ e = { d with regs := e.regs, ctl := e.ctl } ∧
      RegsKeep [SNAP_LAST_ID, SNAP_LAST_SEC_LO, SNAP_LAST_SEC_HI, SNAP_LAST_NS, SNAP_LAST_PHASE, SNAP_LATE_PAGES, SNAP_STATE] d e := by
  rw [snapFire_of_pass hm hu hc hs]
  generalize d.time.tb + 1600 = tick
  have hrd := snapRegs_rd 1 tick d
  have honly := snapRegs_regsOnly 1 tick d
  generalize snapRegs 1 tick d = r at hrd honly
  have hr : ∀ b, ({ r with ctl := snapBegun tick d } : Dev).rd b = r.rd b := fun _ => rfl
  simp only [hr]
  refine ⟨rfl, hrd _, ?_, hrd _, hrd _, hrd _, hrd _, ?_, fun b hb => ?_⟩
  · rw [hrd]
    exact fld_setFld_same _ 1 (by decide)
  · rw [honly]
  · simp only [List.mem_cons, List.not_mem_nil, or_false, not_or] at hb
    obtain ⟨h1, h2, h3, h4, h5, h6, h7⟩ := hb
    rw [hr, hrd, if_neg h7, if_neg h6, if_neg h5, if_neg h4, if_neg h3, if_neg h2, if_neg h1]

end Sys2Proof.Machine

/-! PROOF. The latch of a page's snapshot area (02_control_model.md R89 to R91). -/

namespace Sys2Proof.Machine

/-! ### Writes at several offsets of a page -/

/-- Words written at offsets from a base, one after the other. -/
def Dev.wrAll (d : Dev) (base : Nat) (l : List (Nat × Word)) : Dev := l.foldl (fun d e => d.wr (base + e.1) e.2) d

theorem Dev.wrAll_cons (d : Dev) (base : Nat) (e : Nat × Word) (l : List (Nat × Word)) :
    d.wrAll base (e :: l) = (d.wr (base + e.1) e.2).wrAll base l := rfl

theorem Dev.wrAll_regsOnly (d : Dev) (base : Nat) (l : List (Nat × Word)) : RegsOnly d (d.wrAll base l) := by
  induction l generalizing d with
  | nil => rfl
  | cons e t ih => exact (regsOnly_wr d _ _).trans (ih _)

theorem Dev.rd_wrAll_other {d : Dev} {base b : Nat} {l : List (Nat × Word)} (h : ∀ o ∈ l.map Prod.fst, b ≠ base + o) :
    (d.wrAll base l).rd b = d.rd b := by
  induction l generalizing d with
  | nil => rfl
  | cons e t ih =>
    rw [Dev.wrAll_cons, ih fun o ho => h o (List.mem_cons_of_mem _ ho), Dev.rd_wr_other _ _ (h e.1 List.mem_cons_self)]

/-- Offsets that are not repeated read the word written there. -/
theorem Dev.rd_wrAll_mem {d : Dev} {base : Nat} {l : List (Nat × Word)} (hn : (l.map Prod.fst).Nodup) {e : Nat × Word} (h : e ∈ l) :
    (d.wrAll base l).rd (base + e.1) = e.2 := by
  induction l generalizing d with
  | nil => cases h
  | cons k t ih =>
    obtain ⟨hk, ht⟩ := List.nodup_cons.1 hn
    rw [Dev.wrAll_cons]
    rcases List.mem_cons.1 h with rfl | he
    · rw [Dev.rd_wrAll_other fun o ho hc => hk (by rwa [Nat.add_left_cancel hc]), Dev.rd_wr_same]
    · exact ih ht he

/-! ### The offsets of an area (R101 and the pages' chapters) -/

theorem saRegs_offs (d : Dev) (p : Page) (a : Nat) (offs : List Nat) :
    (saRegs d p a offs).map Prod.fst = (List.range offs.length).map fun i => a + 4 * i := by
  rw [saRegs, List.map_map, List.range_eq_range', ← List.zipIdx_map_snd 0 offs, List.map_map]
  rfl

theorem saStream_offs (d : Dev) (n : Nat) :
    ((saStream d n).map Prod.fst).Sublist [0x60 + 16 * n, 0x64 + 16 * n, 0x68 + 16 * n, 0x6C + 16 * n] := by
  unfold saStream
  dsimp only
  split
  · exact List.Sublist.refl _
  · exact List.nil_sublist _

/-- The offsets that a chapter fills ascend, word by word, behind the four of the head. -/
theorem saData_offs (d : Dev) (p : Page) : ((saData d p).map Prod.fst).Sublist ((List.range 32).map fun i => 0x50 + 4 * i) := by
  cases p
  case strm =>
    have h : ((saData d .strm).map Prod.fst).Sublist ([0x50, 0x54, 0x58, 0x5C] ++ (List.range 4).flatMap fun n =>
        [0x60 + 16 * n, 0x64 + 16 * n, 0x68 + 16 * n, 0x6C + 16 * n]) := by
      simp only [saData, List.map_append, saRegs_offs, List.map_flatMap]
      exact (List.Sublist.refl _).append (List.Sublist.flatMap_right _ fun n _ => saStream_offs d n)
    exact h.trans (by decide)
  all_goals
    simp only [saData, List.map_append, List.map_cons, List.map_nil, saRegs_offs]
    decide

/-- The words of a page's area: the head of R89, then what the page's chapter gives. -/
def saArea (src : Dev) (p : Page) (id : Nat) (late : Bool) : SaData :=
  [(0x40, w32 id), (0x44, w32 (b2n late)), (0x48, src.status p), (0x4C, src.rd (p.base + 0x20))] ++ saData src p

theorem saArea_offs (src : Dev) (p : Page) (id : Nat) (late : Bool) :
    ((saArea src p id late).map Prod.fst).Sublist ((List.range 48).map fun i => 0x40 + 4 * i) := by
  have h : ((saArea src p id late).map Prod.fst).Sublist ([0x40, 0x44, 0x48, 0x4C] ++ (List.range 32).map fun i => 0x50 + 4 * i) := by
    rw [saArea, List.map_append]
    exact (List.Sublist.refl _).append (saData_offs src p)
  exact h.trans (by decide)

theorem saArea_offs_nodup (src : Dev) (p : Page) (id : Nat) (late : Bool) : ((saArea src p id late).map Prod.fst).Nodup :=
  (saArea_offs src p id late).nodup (by decide)

theorem mem_areaOffs {o : Nat} (h : o ∈ (List.range 48).map fun i => 0x40 + 4 * i) : 0x40 ≤ o ∧ o < 0x100 := by
  simp only [List.mem_map, List.mem_range] at h
  obtain ⟨i, hi, rfl⟩ := h
  omega

theorem saArea_bounds {src : Dev} {p : Page} {id : Nat} {late : Bool} {e : Nat × Word} (h : e ∈ saArea src p id late) :
    0x40 ≤ e.1 ∧ e.1 < 0x100 :=
  mem_areaOffs ((saArea_offs src p id late).subset (List.mem_map_of_mem h))

theorem Page.base_aligned (p : Page) : p.base % 0x400 = 0 := by
  cases p
  case field | seq | trace | memp | tile =>
    simp only [Page.base, fieldBase, seqBase, traceBase, mempBase, tileBase]
    omega
  all_goals decide

/-- The words that a latch writes: LATE_PAGES, the two of the header and the area. -/
def latchArea (p : Page) : List Nat :=
  SNAP_LATE_PAGES :: (p.base + 0x24) :: (p.base + 0xC) :: (List.range 48).map fun i => p.base + 0x40 + 4 * i

theorem area_mem_latchArea {p : Page} {o : Nat} (h : o ∈ (List.range 48).map fun i => 0x40 + 4 * i) : p.base + o ∈ latchArea p := by
  simp only [List.mem_map, List.mem_range] at h
  obtain ⟨i, hi, rfl⟩ := h
  simp only [latchArea, List.mem_cons, List.mem_map, List.mem_range]
  exact .inr (.inr (.inr ⟨i, hi, by omega⟩))

/-! ### The latch (R89, R91) -/

/-- The area is cleared before it is filled. -/
def saCleared (p : Page) (d : Dev) : Dev := (List.range 48).foldl (fun d i => d.wr (p.base + 0x40 + 4 * i) 0) d

theorem saCleared_eq (p : Page) (d : Dev) : saCleared p d = d.wrAll p.base ((List.range 48).map fun i => (0x40 + 4 * i, 0)) := by
  rw [Dev.wrAll, List.foldl_map]
  simp only [← Nat.add_assoc]
  rfl

/-- A page with its area filled and its header marked, before LATE_PAGES counts it. -/
def saMarked (src : Dev) (p : Page) (id : Nat) (late : Bool) (d : Dev) : Dev :=
  (((saCleared p d).wrAll p.base (saArea src p id late)).wrN (p.base + 0x24) id).wrF (p.base + 0xC) 5 5 (b2n late)

theorem latchPage_eq (src : Dev) (p : Page) (id : Nat) (late : Bool) (d : Dev) :
    latchPage src p id late d =
      if late then (saMarked src p id late d).wr SNAP_LATE_PAGES ((saMarked src p id late d).rd SNAP_LATE_PAGES + 1)
      else saMarked src p id late d := rfl

theorem saMarked_regsOnly (src : Dev) (p : Page) (id : Nat) (late : Bool) (d : Dev) : RegsOnly d (saMarked src p id late d) := by
  have h0 : RegsOnly d (saCleared p d) := by
    rw [saCleared_eq]
    exact Dev.wrAll_regsOnly _ _ _
  exact ((h0.trans (Dev.wrAll_regsOnly _ _ _)).trans (regsOnly_wr _ _ _)).trans (regsOnly_wr _ _ _)

/-- Outside the area and the header nothing is written. -/
theorem saMarked_rd_other {src : Dev} {p : Page} {id : Nat} {late : Bool} {d : Dev} {b : Nat} (h24 : b ≠ p.base + 0x24)
    (hc : b ≠ p.base + 0xC) (ha : b ∉ (List.range 48).map fun i => p.base + 0x40 + 4 * i) : (saMarked src p id late d).rd b = d.rd b := by
  have hk : ∀ o ∈ (List.range 48).map fun i => 0x40 + 4 * i, b ≠ p.base + o := by
    rintro o ho rfl
    obtain ⟨i, hi, rfl⟩ := List.mem_map.1 ho
    exact ha (List.mem_map.2 ⟨i, hi, Nat.add_assoc _ _ _⟩)
  rw [saMarked, Dev.rd_wrF_other _ _ _ _ hc, Dev.rd_wrN_other _ _ h24,
    Dev.rd_wrAll_other fun o ho => hk o ((saArea_offs src p id late).subset ho), saCleared_eq,
    Dev.rd_wrAll_other fun o ho => hk o (by rwa [List.map_map] at ho)]

theorem saMarked_rd_area {src : Dev} {p : Page} {id : Nat} {late : Bool} {d : Dev} {e : Nat × Word} (h : e ∈ saArea src p id late) :
    (saMarked src p id late d).rd (p.base + e.1) = e.2 := by
  have hb := saArea_bounds h
  rw [saMarked, Dev.rd_wrF_other _ _ _ _ (by omega), Dev.rd_wrN_other _ _ (by omega), Dev.rd_wrAll_mem (saArea_offs_nodup ..) h]

theorem saMarked_rd_id {src : Dev} {p : Page} {id : Nat} {late : Bool} {d : Dev} : (saMarked src p id late d).rd (p.base + 0x24) = w32 id := by
  rw [saMarked, Dev.rd_wrF_other _ _ _ _ (by omega), Dev.rd_wrN_same]

theorem latePages_ne (p : Page) {k : Nat} (h : k < 0x100) : SNAP_LATE_PAGES ≠ p.base + k := by
  have := p.base_aligned
  simp only [SNAP_LATE_PAGES]
  omega

theorem latchPage_regsOnly (src : Dev) (p : Page) (id : Nat) (late : Bool) (d : Dev) : RegsOnly d (latchPage src p id late d) := by
  rw [latchPage_eq]
  split
  · exact (saMarked_regsOnly ..).trans (regsOnly_wr _ _ _)
  · exact saMarked_regsOnly ..

theorem latchPage_rd_other {src : Dev} {p : Page} {id : Nat} {late : Bool} {d : Dev} {b : Nat} (h : b ≠ SNAP_LATE_PAGES) :
    (latchPage src p id late d).rd b = (saMarked src p id late d).rd b := by
  rw [latchPage_eq]
  split
  · exact Dev.rd_wr_other _ _ h
  · rfl

theorem latchPage_latePages (src : Dev) (p : Page) (id : Nat) (late : Bool) (d : Dev) :
    (latchPage src p id late d).rd SNAP_LATE_PAGES = d.rd SNAP_LATE_PAGES + if late then 1 else 0 := by
  have hm : (saMarked src p id late d).rd SNAP_LATE_PAGES = d.rd SNAP_LATE_PAGES := by
    refine saMarked_rd_other (latePages_ne p (by decide)) (latePages_ne p (by decide)) fun ha => ?_
    obtain ⟨i, hi, he⟩ := List.mem_map.1 ha
    have := List.mem_range.1 hi
    exact latePages_ne p (k := 0x40 + 4 * i) (by omega) (by omega)
  rw [latchPage_eq]
  cases late
  · simp [hm]
  · simp [hm]

theorem latchPage_regsKeep (src : Dev) (p : Page) (id : Nat) (late : Bool) (d : Dev) :
    RegsKeep (latchArea p) d (latchPage src p id late d) := by
  intro b hb
  simp only [latchArea, List.mem_cons, not_or] at hb
  obtain ⟨hl, h24, hc, ha⟩ := hb
  rw [latchPage_rd_other hl, saMarked_rd_other h24 hc ha]

/-- A page's area, and LATE_PAGES, after it has met the trigger. -/
def Latched (src : Dev) (p : Page) (id : Nat) (late : Bool) (d e : Dev) : Prop :=
  let en := !src.isFenced p && bitOf (src.rd (p.base + 8)) 2
  (en = true → e.rd (p.base + 0x40) = w32 id ∧ e.rd (p.base + 0x24) = w32 id ∧
    e.rd (p.base + 0x44) = (if late then 1 else 0) ∧ e.rd (p.base + 0x48) = src.status p ∧
    (∀ k ∈ saData src p, e.rd (p.base + k.1) = k.2) ∧
    e.rd SNAP_LATE_PAGES = d.rd SNAP_LATE_PAGES + (if late then 1 else 0)) ∧
  (en = false → ∀ b ∈ latchArea p, e.rd b = d.rd b)

/-- A page that the trigger reaches: it latches unless it is fenced or not enabled. -/
def latchEnabled (src : Dev) (p : Page) (id : Nat) (late : Bool) (d : Dev) : Dev :=
  if src.isFenced p || !bitOf (src.rd (p.base + 8)) 2 then d else latchPage src p id late d

theorem latchEnabled_spec (src : Dev) (p : Page) (id : Nat) (late : Bool) (d : Dev) :
    Latched src p id late d (latchEnabled src p id late d) ∧ RegsKeep (latchArea p) d (latchEnabled src p id late d) ∧
      RegsOnly d (latchEnabled src p id late d) := by
  have hn : (src.isFenced p || !bitOf (src.rd (p.base + 8)) 2) = !(!src.isFenced p && bitOf (src.rd (p.base + 8)) 2) := by simp
  cases hen : !src.isFenced p && bitOf (src.rd (p.base + 8)) 2
  · have he : latchEnabled src p id late d = d := if_pos (by rw [hn, hen]; rfl)
    rw [he]
    exact ⟨⟨fun h => absurd (hen.symm.trans h) Bool.false_ne_true, fun _ _ _ => rfl⟩, RegsKeep.refl _ d, rfl⟩
  · have he : latchEnabled src p id late d = latchPage src p id late d := if_neg (by rw [hn, hen]; decide)
    have ha : ∀ k ∈ saArea src p id late, (latchPage src p id late d).rd (p.base + k.1) = k.2 := fun k hk => by
      rw [latchPage_rd_other (latePages_ne p (saArea_bounds hk).2).symm, saMarked_rd_area hk]
    obtain ⟨hid, hlate, hst⟩ : (0x40, w32 id) ∈ saArea src p id late ∧ (0x44, w32 (b2n late)) ∈ saArea src p id late ∧
        (0x48, src.status p) ∈ saArea src p id late :=
      ⟨.head _, .tail _ (.head _), .tail _ (.tail _ (.head _))⟩
    rw [he]
    refine ⟨⟨fun _ => ⟨ha _ hid, ?_, (ha _ hlate).trans ?_, ha _ hst, fun k hk => ha k (List.mem_append_right _ hk), latchPage_latePages ..⟩,
      fun h => absurd (hen.symm.trans h).symm Bool.false_ne_true⟩, latchPage_regsKeep src p id late d, latchPage_regsOnly ..⟩
    · rw [latchPage_rd_other (latePages_ne p (by decide)).symm, saMarked_rd_id]
    · cases late <;> rfl

end Sys2Proof.Machine

/-! PROOF. A page that meets the trigger in flight, and what follows once the last page of a field or of the device has
met it (02_control_model.md R89 to R94, R100). -/

namespace Sys2Proof.Machine

/-! ### The snapshot in flight -/

/-- The part with another snapshot in flight, or none. -/
def Dev.withSnap (d : Dev) (o : Option Snap) : Dev := { d with ctl := { d.ctl with snap := o } }

@[simp] theorem Dev.withSnap_rd (d : Dev) (o : Option Snap) (b : Nat) : (d.withSnap o).rd b = d.rd b := rfl

@[simp] theorem Dev.withSnap_snap (d : Dev) (o : Option Snap) : (d.withSnap o).ctl.snap = o := rfl

@[simp] theorem Dev.withSnap_withSnap (d : Dev) (o u : Option Snap) : (d.withSnap o).withSnap u = d.withSnap u := rfl

theorem modSnap_of_some {f : Snap → Snap} {d : Dev} {x : Snap} (h : d.ctl.snap = some x) : modSnap f d = d.withSnap (some (f x)) := by
  unfold modSnap Dev.withSnap
  rw [h]
  rfl

theorem snapEnd_of_waiting {d : Dev} {x : Snap} (h : d.ctl.snap = some x) (hn : x.done.length ≠ pageCount) : snapEnd d = d := by
  unfold snapEnd
  rw [h]
  exact if_neg fun hc => hn hc.1

theorem snapEnd_of_last {d : Dev} {x : Snap} (hn : x.done.length = pageCount) (hs : x.spilling = []) :
    snapEnd (d.withSnap (some x)) = (d.withSnap none).wr SNAP_STATE 0 := by
  unfold snapEnd
  exact if_pos ⟨hn, hs⟩

/-! ### Parts that differ in registers and traces -/

/-- Registers and the fields' traces apart, the part is as it was. -/
def RegsTrace (d e : Dev) : Prop := e = { d with regs := e.regs, ctl := { d.ctl with trace := e.ctl.trace } }

theorem RegsTrace.trans {a b c : Dev} (h : RegsTrace a b) (g : RegsTrace b c) : RegsTrace a c := by
  unfold RegsTrace at *
  rw [g, h]

theorem RegsOnly.regsTrace {d e : Dev} (h : RegsOnly d e) : RegsTrace d e := by
  unfold RegsTrace
  rw [h]

theorem regsTrace_setTrace (d : Dev) (f : Nat) (t : TraceSt) : RegsTrace d (d.setTrace f t) := rfl

theorem RegsTrace.snap {d e : Dev} (h : RegsTrace d e) : e.ctl.snap = d.ctl.snap := by rw [h]

/-! ### The start of a spill (R100) -/

theorem gapEntry_regsTrace (f lost id : Nat) (d : Dev) : RegsTrace d (gapEntry f lost id d) :=
  ((regsTrace_setTrace d f _).trans (traceStore_regsOnly f _ d).regsTrace).trans (regsOnly_wr _ _ _).regsTrace

theorem spillStart_regsTrace (f id : Nat) (d : Dev) : RegsTrace d (spillStart f id d) := by
  have hif : ∀ e : Dev, RegsTrace e (if e.rdF (TRACE_TR_WR f) 17 0 < spillEnd then e.wrF (TRACE_TR_WR f) 17 0 spillEnd else e) := fun e => by
    split
    · exact (regsOnly_wr _ _ _).regsTrace
    · exact (RegsOnly.refl _).regsTrace
  unfold spillStart
  exact (((((regsTrace_setTrace d f _).trans (regsOnly_wr _ _ _).regsTrace).trans (regsOnly_wr _ _ _).regsTrace).trans (hif _)).trans
    (gapEntry_regsTrace f _ id _)).trans (regsOnly_wr _ _ _).regsTrace

theorem spillStart_held (f id : Nat) (d : Dev) : (spillStart f id d).rd (TRACE_SPILL f) = w32 (2 ^ 31 + id % 65536) :=
  Dev.rd_wrN_same _ _ _

/-! ### The fields of pages (R38, R94) -/

theorem spillField_lt {a o : Nat} {p : Page} {f : Nat} (h : pageOf a = some (p, o)) (hf : p.spillField = some f) : f < 12 := by
  simp only [pageOf] at h
  split_ifs at h
  · obtain ⟨q, hq, he⟩ := Option.map_eq_some_iff.1 h
    obtain ⟨rfl, -⟩ := Prod.mk.inj he
    have hnone : ∀ q ∈ lowPages, q.spillField = none := by decide
    rw [hnone q (List.mem_of_getElem? hq)] at hf
    cases hf
  all_goals
    obtain ⟨rfl, -⟩ := Prod.mk.inj (Option.some.inj h)
    cases hf
  · omega
  · omega
  · simp only [siteField, siteX, siteY]
    omega

/-- The power of a trace buffer is not in the words that a latch writes. -/
theorem domOn_of_latch {p : Page} {d e : Dev} (h : RegsKeep (latchArea p) d e) {f : Nat} (hf : f < 12) : e.domOn (144 + f) = d.domOn (144 + f) := by
  have hw : (144 + f) / 32 = 4 := by omega
  have hn : PWR_DOM_ON 4 ∉ latchArea p := by
    have hb := p.base_aligned
    simp only [latchArea, List.mem_cons, List.mem_map, List.mem_range, not_or, PWR_DOM_ON, SNAP_LATE_PAGES]
    refine ⟨by omega, by omega, by omega, ?_⟩
    rintro ⟨i, hi, he⟩
    omega
  rw [Dev.domOn, hw, h _ hn, Dev.domOn, hw]

theorem snapState_not_mem (p : Page) : SNAP_STATE ∉ latchArea p := by
  have hb := p.base_aligned
  simp only [latchArea, List.mem_cons, List.mem_map, List.mem_range, not_or, SNAP_STATE, SNAP_LATE_PAGES]
  refine ⟨by omega, by omega, by omega, ?_⟩
  rintro ⟨i, hi, he⟩
  omega

/-- A latched page stays so while its area and LATE_PAGES do. -/
theorem Latched.of_rd {src : Dev} {p : Page} {id : Nat} {late : Bool} {d e e' : Dev} (h : Latched src p id late d e)
    (hr : ∀ b ∈ latchArea p, e'.rd b = e.rd b) : Latched src p id late d e' := by
  have harea : ∀ o ∈ (List.range 48).map fun i => 0x40 + 4 * i, e'.rd (p.base + o) = e.rd (p.base + o) :=
    fun o ho => hr _ (area_mem_latchArea ho)
  have hdata : ∀ k ∈ saData src p, k.1 ∈ (List.range 48).map fun i => 0x40 + 4 * i := fun k hk =>
    (saArea_offs src p id late).subset (List.mem_map_of_mem (List.mem_append_right _ hk))
  refine ⟨fun hen => ?_, fun hen b hb => (hr b hb).trans (h.2 hen b hb)⟩
  obtain ⟨h40, h24, h44, h48, hd, hl⟩ := h.1 hen
  refine ⟨(harea _ (by decide)).trans h40, (hr _ ?_).trans h24, (harea _ (by decide)).trans h44, (harea _ (by decide)).trans h48,
    fun k hk => (harea _ (hdata k hk)).trans (hd k hk), (hr _ List.mem_cons_self).trans hl⟩
  exact List.mem_cons_of_mem _ List.mem_cons_self

/-! ### A page meets the trigger (R89, R91) -/

/-- What a page latches: what the part held at T, or, of a late trigger, what it holds now. -/
def latchSource (shot : Option Dev) (late : Bool) (x : Snap) (d : Dev) : Dev := if late then d else (snapShot shot x.id).getD d

/-- The page is late: told so, or the part holds nothing of T. -/
def isLate (shot : Option Dev) (late : Bool) (x : Snap) : Bool := late || (snapShot shot x.id).isNone

theorem snapLatch_idle {shot : Option Dev} {p : Page} {late : Bool} {d : Dev}
    (h : ∀ x, d.ctl.snap = some x → x.reached = false ∨ p.base ∈ x.done ∨ d.chgState = 2) : snapLatch shot p late d = d := by
  unfold snapLatch
  cases hs : d.ctl.snap with
  | none => rfl
  | some x =>
    refine if_pos ?_
    rcases h x hs with hr | hd | hc
    · simp [hr]
    · simp [hd]
    · simp [hc]

section
variable {shot : Option Dev} {p : Page} {late : Bool} {d : Dev} {x : Snap}

/-- The page's latch, before what a full field or the last page brings. -/
theorem snapLatch_meets (hs : d.ctl.snap = some x) (hr : x.reached = true) (hd : p.base ∉ x.done) (hc : d.chgState ≠ 2) :
    snapLatch shot p late d =
      let e := (latchEnabled (latchSource shot late x d) p x.id (isLate shot late x) d).withSnap (some { x with done := p.base :: x.done })
      snapEnd (match p.spillField with
        | some f => spillBegin f (modSnap (fun s => { s with fieldDone := kvPut s.fieldDone f (kvGetD s.fieldDone 0 f + 1) }) e)
        | none => e) := by
  have hl : (latchEnabled (latchSource shot late x d) p x.id (isLate shot late x) d).ctl.snap = some x := by
    rw [(latchEnabled_spec _ _ _ _ _).2.2]
    exact hs
  have hg : (!x.reached || x.done.contains p.base || d.chgState == 2) = false := by simp [hr, hd, hc]
  dsimp only
  rw [← modSnap_of_some (f := fun s => { s with done := p.base :: s.done }) hl]
  unfold snapLatch
  rw [hs]
  dsimp only
  rw [hg, if_neg Bool.false_ne_true]
  rfl

/-- A page of no field that is not the last. -/
theorem snapLatch_plain (hs : d.ctl.snap = some x) (hr : x.reached = true) (hd : p.base ∉ x.done) (hc : d.chgState ≠ 2)
    (hf : p.spillField = none) (hn : x.done.length + 1 < pageCount) :
    snapLatch shot p late d =
      (latchEnabled (latchSource shot late x d) p x.id (isLate shot late x) d).withSnap (some { x with done := p.base :: x.done }) := by
  rw [snapLatch_meets hs hr hd hc, hf]
  exact snapEnd_of_waiting rfl (Nat.ne_of_lt hn)

/-- The last page, where no spill is in progress: the snapshot ends. -/
theorem snapLatch_last (hs : d.ctl.snap = some x) (hr : x.reached = true) (hd : p.base ∉ x.done) (hc : d.chgState ≠ 2)
    (hf : p.spillField = none) (hn : x.done.length + 1 = pageCount) (hsp : x.spilling = []) :
    snapLatch shot p late d =
      ((latchEnabled (latchSource shot late x d) p x.id (isLate shot late x) d).withSnap none).wr SNAP_STATE 0 := by
  rw [snapLatch_meets hs hr hd hc, hf]
  exact snapEnd_of_last hn hsp

/-- The snapshot after a page of a field has met it. -/
def fieldSnap (x : Snap) (p : Page) (f : Nat) : Snap :=
  { x with done := p.base :: x.done, fieldDone := kvPut x.fieldDone f (kvGetD x.fieldDone 0 f + 1) }

theorem fieldSnap_count (x : Snap) (p : Page) (f : Nat) : kvGetD (fieldSnap x p f).fieldDone 0 f = kvGetD x.fieldDone 0 f + 1 := by
  show (kvGet? (kvPut x.fieldDone f (kvGetD x.fieldDone 0 f + 1)) f).getD 0 = _
  rw [kvGet?_put_same]
  rfl

theorem snapLatch_field {f : Nat} (hs : d.ctl.snap = some x) (hr : x.reached = true) (hd : p.base ∉ x.done) (hc : d.chgState ≠ 2)
    (hf : p.spillField = some f) :
    snapLatch shot p late d =
      snapEnd (spillBegin f ((latchEnabled (latchSource shot late x d) p x.id (isLate shot late x) d).withSnap (some (fieldSnap x p f)))) := by
  rw [snapLatch_meets hs hr hd hc, hf]
  dsimp only
  rw [modSnap_of_some (Dev.withSnap_snap _ _), Dev.withSnap_withSnap]
  rfl

end

/-- A spill begins once the field's last page has met the trigger, if the snapshot spills and the buffer is powered. -/
theorem spillBegin_of_withSnap (f : Nat) (y : Snap) (d : Dev) :
    spillBegin f (d.withSnap (some y)) =
      if y.spill && kvGetD y.fieldDone 0 f == spillPages && d.domOn (144 + f)
        then (spillStart f y.id (d.withSnap (some { y with spilling := setIns y.spilling f }))).wrF SNAP_STATE 1 1 1
        else d.withSnap (some y) := by
  unfold spillBegin
  rw [Dev.withSnap_snap]
  dsimp only
  rw [modSnap_of_some (Dev.withSnap_snap _ _), Dev.withSnap_withSnap]
  rfl

theorem withSnap_of_regsOnly {d e : Dev} (h : RegsOnly d e) (o : Option Snap) : (e.withSnap o).ctl = { d.ctl with snap := o } := by
  rw [h]
  rfl

theorem eq_of_regsOnly_withSnap {d e : Dev} (h : RegsOnly d e) (o : Option Snap) :
    e.withSnap o = { d with regs := (e.withSnap o).regs, ctl := (e.withSnap o).ctl } := by
  rw [h]
  rfl

theorem exec_snapLatch {s : State} {a : Nat} {late : Bool} {p : Page} (h : pageOf a = some (p, 0)) :
    exec (.snapLatch a late) s = onDev (snapLatch s.shot p late) s := by
  show execSnapLatch a late s = _
  unfold execSnapLatch
  rw [h]
  rfl

section
variable {shot : Option Dev} {p : Page} {late : Bool} {d : Dev} {x : Snap} (hs : d.ctl.snap = some x) (hr : x.reached = true)
  (hd : p.base ∉ x.done) (hc : d.chgState ≠ 2)
include hs hr hd hc

theorem snapLatch_plain_spec (hf : p.spillField = none) (hn : x.done.length + 1 < pageCount) :
    let e := snapLatch shot p late d
    e.ctl = { d.ctl with snap := some { x with done := p.base :: x.done } } ∧
      Latched (latchSource shot late x d) p x.id (isLate shot late x) d e ∧ RegsKeep (latchArea p) d e ∧
      e = { d with regs := e.regs, ctl := e.ctl } := by
  obtain ⟨hl, hk, ho⟩ := latchEnabled_spec (latchSource shot late x d) p x.id (isLate shot late x) d
  rw [snapLatch_plain hs hr hd hc hf hn]
  exact ⟨withSnap_of_regsOnly ho _, hl, hk, eq_of_regsOnly_withSnap ho _⟩

theorem snapLatch_last_spec (hf : p.spillField = none) (hn : x.done.length + 1 = pageCount) (hsp : x.spilling = []) :
    let e := snapLatch shot p late d
    e.ctl = { d.ctl with snap := none } ∧ e.rd SNAP_STATE = 0 ∧
      Latched (latchSource shot late x d) p x.id (isLate shot late x) d e ∧ e = { d with regs := e.regs, ctl := e.ctl } := by
  obtain ⟨hl, hk, ho⟩ := latchEnabled_spec (latchSource shot late x d) p x.id (isLate shot late x) d
  rw [snapLatch_last hs hr hd hc hf hn hsp]
  refine ⟨withSnap_of_regsOnly ho _, Dev.rd_wr_same _ _ _, hl.of_rd fun b hb => ?_, ?_⟩
  · exact (Dev.rd_wr_other _ _ (ne_of_mem_of_not_mem hb (snapState_not_mem p))).trans (Dev.withSnap_rd _ _ _)
  · rw [regsOnly_wr (Dev.withSnap _ none) SNAP_STATE 0, eq_of_regsOnly_withSnap ho none]

/-- A page of a field whose spill does not begin. -/
theorem snapLatch_field_spec {f : Nat} (hf : p.spillField = some f) (hlt : f < 12) (hn : x.done.length + 1 < pageCount)
    (hno : x.spill = false ∨ kvGetD x.fieldDone 0 f + 1 ≠ spillPages ∨ d.domOn (144 + f) = false) :
    let e := snapLatch shot p late d
    e.ctl = { d.ctl with snap := some (fieldSnap x p f) } ∧
      Latched (latchSource shot late x d) p x.id (isLate shot late x) d e ∧ RegsKeep (latchArea p) d e ∧
      e = { d with regs := e.regs, ctl := e.ctl } := by
  obtain ⟨hl, hk, ho⟩ := latchEnabled_spec (latchSource shot late x d) p x.id (isLate shot late x) d
  have hcond : ((fieldSnap x p f).spill && kvGetD (fieldSnap x p f).fieldDone 0 f == spillPages &&
      (latchEnabled (latchSource shot late x d) p x.id (isLate shot late x) d).domOn (144 + f)) = false := by
    rw [fieldSnap_count, domOn_of_latch hk hlt]
    rcases hno with h | h | h
    · simp [fieldSnap, h]
    · simp [h]
    · simp [h]
  rw [snapLatch_field hs hr hd hc hf, spillBegin_of_withSnap, hcond, if_neg Bool.false_ne_true,
    snapEnd_of_waiting (x := fieldSnap x p f) (Dev.withSnap_snap _ _) (Nat.ne_of_lt hn)]
  exact ⟨withSnap_of_regsOnly ho _, hl, hk, eq_of_regsOnly_withSnap ho _⟩

/-- The last page of a field of a snapshot that spills: the spill begins, and is held. -/
theorem snapLatch_spill_spec {f : Nat} (hf : p.spillField = some f) (hlt : f < 12) (hn : x.done.length + 1 < pageCount)
    (hsp : x.spill = true) (hlast : kvGetD x.fieldDone 0 f + 1 = spillPages) (hon : d.domOn (144 + f) = true) :
    let e := snapLatch shot p late d
    e.ctl.snap = some { fieldSnap x p f with spilling := setIns x.spilling f } ∧ bitOf (e.rd SNAP_STATE) 1 = true ∧
      e.rd (TRACE_SPILL f) = w32 (2 ^ 31 + x.id % 65536) ∧ e = { d with regs := e.regs, ctl := e.ctl } := by
  obtain ⟨-, hk, ho⟩ := latchEnabled_spec (latchSource shot late x d) p x.id (isLate shot late x) d
  have hcond : ((fieldSnap x p f).spill && kvGetD (fieldSnap x p f).fieldDone 0 f == spillPages &&
      (latchEnabled (latchSource shot late x d) p x.id (isLate shot late x) d).domOn (144 + f)) = true := by
    rw [fieldSnap_count, domOn_of_latch hk hlt, hon, hlast]
    simp [fieldSnap, hsp]
  rw [snapLatch_field hs hr hd hc hf, spillBegin_of_withSnap, if_pos hcond]
  generalize latchEnabled _ _ _ _ _ = r at ho
  have hst := spillStart_regsTrace f (fieldSnap x p f).id (r.withSnap (some { fieldSnap x p f with spilling := setIns (fieldSnap x p f).spilling f }))
  have hheld := spillStart_held f (fieldSnap x p f).id (r.withSnap (some { fieldSnap x p f with spilling := setIns (fieldSnap x p f).spilling f }))
  have hsnap := hst.snap
  generalize spillStart _ _ _ = e at hst hheld hsnap
  have hne : TRACE_SPILL f ≠ SNAP_STATE := by
    simp only [TRACE_SPILL, traceBase, SNAP_STATE]
    omega
  have hend : snapEnd (e.wrF SNAP_STATE 1 1 1) = e.wrF SNAP_STATE 1 1 1 := snapEnd_of_waiting (d := e.wrF SNAP_STATE 1 1 1) hsnap (Nat.ne_of_lt hn)
  rw [hend]
  refine ⟨hsnap, ?_, ?_, ?_⟩
  · rw [Dev.rd_wrF_same]
    exact bitOf_setFld_inside _ 1 (by omega) (by omega) (by omega)
  · rw [Dev.rd_wrF_other _ _ _ _ hne, hheld]
    rfl
  · have hw := regsOnly_wr e SNAP_STATE (setFld (e.rd SNAP_STATE) 1 1 1)
    rw [Dev.wrF, hw, hst, ho]
    rfl

end

end Sys2Proof.Machine

/-! PROOF. The end of a field's spill (02_control_model.md R94), and the statement about snapshots. -/

namespace Sys2Proof.Machine

/-! ### The words of a spill -/

/-- Lists of one length laid end to end, item by item. -/
theorem getD_flatMap_of_length {α β : Type} {g : α → List β} {n : Nat} (hg : ∀ a, (g a).length = n) (l : List α) (i : Nat) (a : α) (z : β)
    (h : i < n * l.length) : (l.flatMap g).getD i z = (g (l.getD (i / n) a)).getD (i % n) z := by
  induction l generalizing i with
  | nil => cases h
  | cons b t ih =>
    rw [List.flatMap_cons]
    by_cases hi : i < n
    · rw [List.getD_append _ _ _ _ (by rwa [hg]), Nat.div_eq_of_lt hi, Nat.mod_eq_of_lt hi, List.getD_cons_zero]
    · have hle : n ≤ i := Nat.le_of_not_lt hi
      have hn : 0 < n := Nat.pos_of_ne_zero fun h0 => by simp [h0] at h
      rw [List.getD_append_right _ _ _ _ (by rwa [hg]), hg, ih (i - n) (by rw [List.length_cons, Nat.mul_succ] at h; omega),
        Nat.mod_eq_sub_mod hle, Nat.div_eq_sub_div hn hle, List.getD_cons_succ]

/-- The words that are not 0, each under its place. -/
def cellsFrom (k : Nat) (ws : List Word) : KV Word := ((ws.zipIdx k).filter fun e => e.1 != 0).map fun e => (e.2, e.1)

theorem kvGet?_cellsFrom (k : Nat) (ws : List Word) (i : Nat) :
    kvGet? (cellsFrom k ws) i = if k ≤ i then (ws[i - k]?).filter (· != 0) else none := by
  induction ws generalizing k with
  | nil => simp [cellsFrom]
  | cons w t ih =>
    cases hw : w != (0 : Word)
    · have hc : cellsFrom k (w :: t) = cellsFrom (k + 1) t := by
        rw [cellsFrom, List.zipIdx_cons, List.filter_cons_of_neg (by rw [hw]; decide), cellsFrom]
      rw [hc, ih]
      rcases Nat.lt_trichotomy i k with hi | rfl | hi
      · rw [if_neg (by omega), if_neg (by omega)]
      · rw [if_neg (by omega), if_pos (Nat.le_refl i), Nat.sub_self, List.getElem?_cons_zero, Option.filter_some, hw]
        rfl
      · rw [if_pos (by omega), if_pos (by omega), show i - k = (i - (k + 1)) + 1 by omega, List.getElem?_cons_succ]
    · have hc : cellsFrom k (w :: t) = (k, w) :: cellsFrom (k + 1) t := by
        rw [cellsFrom, List.zipIdx_cons, List.filter_cons_of_pos (by rw [hw]), List.map_cons, cellsFrom]
      rw [hc, kvGet?]
      rcases Nat.lt_trichotomy i k with hi | rfl | hi
      · rw [if_neg (by omega), ih, if_neg (by omega), if_neg (by omega)]
      · rw [if_pos rfl, if_pos (Nat.le_refl i), Nat.sub_self, List.getElem?_cons_zero, Option.filter_some, hw, if_pos rfl]
      · rw [if_neg (by omega), ih, if_pos (by omega), if_pos (by omega), show i - k = (i - (k + 1)) + 1 by omega, List.getElem?_cons_succ]

theorem kvGetD_cells (ws : List Word) (i : Nat) : (kvGet? (cellsFrom 0 ws) i).getD 0 = ws.getD i 0 := by
  rw [kvGet?_cellsFrom, if_pos (Nat.zero_le i), Nat.sub_zero, List.getD_eq_getElem?_getD]
  cases ws[i]? with
  | none => rfl
  | some w =>
    rw [Option.filter_some]
    cases hw : w != (0 : Word)
    · exact (bne_eq_false_iff_eq.1 hw).symm
    · rfl

/-- A buffer whose start is replaced: the words below the limit, what it held above. -/
theorem kvGetD_replaced (ws : List Word) (buf : KV Word) {n : Nat} (hn : ws.length = n) (i : Nat) :
    kvGetD (cellsFrom 0 ws ++ buf.filter fun (e : Nat × Word) => decide (n ≤ e.1)) 0 i = if i < n then ws.getD i 0 else kvGetD buf 0 i := by
  have hf := kvGet?_filter buf (fun a => decide (n ≤ a)) i
  rw [kvGetD, kvGet?_append, hf]
  by_cases hi : i < n
  · rw [if_pos hi, if_neg (by simpa using hi), Option.or_none, kvGetD_cells]
  · have hnone : kvGet? (cellsFrom 0 ws) i = none := by
      rw [kvGet?_cellsFrom, Nat.sub_zero, List.getElem?_eq_none (by omega)]
      simp
    rw [if_neg hi, if_pos (by simpa using hi), hnone]
    rfl

theorem areaWords_length (d : Dev) (p : Page) : (areaWords d p).length = 48 := by simp [areaWords]

theorem spillOrder_length (f : Nat) : (spillOrder f).length = spillPages := by simp [spillOrder, spillPages]

/-- The words of a field's spill, in order. -/
def spillWords (f : Nat) (d : Dev) : List Word := (spillOrder f).flatMap (areaWords d)

theorem spillWords_length (f : Nat) (d : Dev) : (spillWords f d).length = spillEnd / 4 := by
  rw [spillWords, List.length_flatMap]
  simp only [areaWords_length, List.map_const', List.sum_replicate, spillOrder_length]
  rfl

theorem spillWords_getD (f : Nat) (d : Dev) {i : Nat} (h : i < 48 * spillPages) :
    (spillWords f d).getD i 0 = (areaWords d ((spillOrder f).getD (i / 48) .dev)).getD (i % 48) 0 :=
  getD_flatMap_of_length (areaWords_length d) _ _ _ _ (by rwa [spillOrder_length])

/-! ### The end of a spill -/

/-- The trace of a field after its areas are copied to the start of its buffer. -/
def spillCopied (f : Nat) (d : Dev) : TraceSt :=
  { d.trace f with buf := cellsFrom 0 (spillWords f d) ++ (d.trace f).buf.filter fun (e : Nat × Word) => decide (spillEnd / 4 ≤ e.1) }

/-- SA_FLAGS.SPILLED in the pages that latched the snapshot. -/
def spillMarked (f id : Nat) (d : Dev) : Dev :=
  (spillOrder f).foldl (fun d p => if d.rd (p.base + 0x40) == w32 id && !p.dark d then d.wrF (p.base + 0x44) 1 1 1 else d) d

theorem spillMarked_regsOnly (f id : Nat) (d : Dev) : RegsOnly d (spillMarked f id d) := by
  unfold spillMarked
  generalize spillOrder f = l
  induction l generalizing d with
  | nil => rfl
  | cons p t ih =>
    refine RegsOnly.trans ?_ (ih _)
    dsimp only
    split
    · exact regsOnly_wr _ _ _
    · rfl

theorem spillComplete_idle {f : Nat} {d : Dev} (h : ∀ x, d.ctl.snap = some x → f ∉ x.spilling) : spillComplete f d = d := by
  unfold spillComplete
  cases hs : d.ctl.snap with
  | none => rfl
  | some x => exact if_pos (by simpa using h x hs)

theorem RegsOnly.withSnap {d e : Dev} (h : RegsOnly d e) (o : Option Snap) : RegsOnly (d.withSnap o) (e.withSnap o) := by
  unfold RegsOnly
  rw [h]
  rfl

/-- A snapshot that waits for pages does not end. -/
theorem RegsOnly.snapEnd {d e : Dev} {y : Snap} (h : RegsOnly (d.withSnap (some y)) e) (hn : y.done.length ≠ pageCount) :
    RegsOnly (d.withSnap (some y)) (Machine.snapEnd e) := by
  rw [snapEnd_of_waiting h.regsTrace.snap hn]
  exact h

section
variable {f : Nat} {d : Dev} {x : Snap}

/-- A spill that ends: the field's trace and the snapshot, apart from registers. -/
theorem spillComplete_regsOnly (hs : d.ctl.snap = some x) (hf : f ∈ x.spilling) (hn : x.done.length < pageCount) :
    RegsOnly ((d.setTrace f (spillCopied f d)).withSnap
      (some { x with spilling := setDel x.spilling f, spilled := setIns x.spilled f })) (spillComplete f d) := by
  have hm := spillMarked_regsOnly f x.id (d.setTrace f (spillCopied f d))
  have he : (spillMarked f x.id (d.setTrace f (spillCopied f d))).ctl.snap = some x := by
    rw [hm]
    exact hs
  have hw := hm.withSnap (some { x with spilling := setDel x.spilling f, spilled := setIns x.spilled f })
  rw [spillMarked, spillCopied, spillWords, cellsFrom] at hw he
  rw [spillCopied, spillWords, cellsFrom]
  unfold spillComplete
  rw [hs]
  dsimp only
  rw [if_neg (by simpa using hf), modSnap_of_some he, Dev.withSnap_snap]
  dsimp only
  refine RegsOnly.snapEnd ?_ (Nat.ne_of_lt hn)
  split
  · exact hw.trans (regsOnly_wr _ _ _)
  · exact hw

theorem spillComplete_spec (hs : d.ctl.snap = some x) (hf : f ∈ x.spilling) (hn : x.done.length < pageCount) :
    let e := spillComplete f d
    e.ctl.snap = some { x with spilling := setDel x.spilling f, spilled := setIns x.spilled f } ∧
      (∀ i, i < 48 * spillPages → kvGetD (e.trace f).buf 0 i = (areaWords d ((spillOrder f).getD (i / 48) .dev)).getD (i % 48) 0) ∧
      (∀ i, spillEnd / 4 ≤ i → kvGetD (e.trace f).buf 0 i = kvGetD (d.trace f).buf 0 i) ∧
      (∀ g, g ≠ f → e.trace g = d.trace g) ∧ e = { d with regs := e.regs, ctl := e.ctl } := by
  have ho := spillComplete_regsOnly hs hf hn
  generalize spillComplete f d = e at ho
  have ht : ∀ g, e.trace g = (d.setTrace f (spillCopied f d)).trace g := fun g => Dev.trace_eq_of_regsOnly ho g
  have hbuf := kvGetD_replaced (spillWords f d) (d.trace f).buf (spillWords_length f d)
  have hb : (e.trace f).buf = _ := congrArg TraceSt.buf ((ht f).trans (Dev.trace_setTrace_same d f (spillCopied f d)))
  refine ⟨ho.regsTrace.snap, fun i hi => ?_, fun i hi => ?_, fun g hg => (ht g).trans (Dev.trace_setTrace_other _ _ hg), ?_⟩
  · rw [hb]
    exact ((hbuf i).trans (if_pos hi)).trans (spillWords_getD f d hi)
  · rw [hb]
    exact (hbuf i).trans (if_neg (Nat.not_lt.2 hi))
  · rw [ho]
    rfl

end

/-- Settles O20: the trigger, the latch of one page with what the last page of a field or of the device brings, and the
end of a spill. -/
theorem snapshots : Obligations.Snapshots := by
  refine ⟨fun s agent data hm hu hdata => ?_, fun s a late p x ha hs hr hd hc => ?_, fun s a late p ha h => ?_, fun s f hf => ⟨fun h => ?_, fun x hs hx hn => ?_⟩⟩
  · subst hdata
    refine ⟨fun hc hs => ?_, fun hc => ?_, fun hc hs => ?_⟩
    · exact Gives.onDev (f := snapFire agent 1) rfl (snapFire_spec hm hu hc hs)
    · refine Gives.onDev (f := snapFire agent 1) rfl ?_
      rw [snapFire_of_fail hm hu (.inl hc), if_pos hc]
    · refine Gives.onDev (f := snapFire agent 1) rfl ?_
      rw [snapFire_of_fail hm hu (.inr hs), hc]
      rfl
  · have hgives {q : Dev → Prop} (hq : q (snapLatch s.shot p late s.dev)) : Gives (.snapLatch a late) s q :=
      Gives.onDev (exec_snapLatch ha) hq
    refine ⟨fun hn hf => hgives (snapLatch_plain_spec hs hr hd hc hf hn), fun hn f hf => ⟨fun hno => ?_, fun hsp hlast hon => ?_⟩,
      fun hn hsp hf => hgives (snapLatch_last_spec hs hr hd hc hf hn hsp)⟩
    · exact hgives (snapLatch_field_spec hs hr hd hc hf (spillField_lt ha hf) hn hno)
    · exact hgives (snapLatch_spill_spec hs hr hd hc hf (spillField_lt ha hf) hn hsp hlast hon)
  · refine Gives.onDev (exec_snapLatch ha) ?_
    exact snapLatch_idle h
  · refine Gives.guarded (f := spillComplete f) rfl (by simpa [unitField] using hf) ?_
    exact spillComplete_idle h
  · exact Gives.guarded (f := spillComplete f) rfl (by simpa [unitField] using hf) (spillComplete_spec hs hx hn)

end Sys2Proof.Machine

/-! PROOF. Statements about the tile that the model refutes, each on a state that the model runs: what sets a bit of
TILE.FLAGS is an event of the field trace, whose GAP entry adds the words lost before it to TRACE.LOST_WORDS
(02_control_model.md R98, R99, 03_tile.md R143, R144). -/

namespace Sys2Proof.Machine

/-! ### A tile whose flags a field trace with lost words records -/

/-- Field 0 runs and is powered, as is tile 0; the field traces the flags of the tiles of sequencer 0, which tile 0 follows. -/
def tracedRegs : KV Word :=
  [(CLK_FIELD_PLL, 0x10000), (PWR_DOM_ON 0, 1), (PWR_DOM_ON 4, 0x10000), (TRACE_TR_CTRL 0, 0x141), (TILE_GROUP 0, 0x80000000)]

/-- A part with that tile, whose field trace has lost four words and has room again. -/
def tracedTile (t : Tile) (f : FabricSt := {}) : Dev :=
  { upDev tracedRegs with ctl := { trace := [(0, { lost := 4 })] }, tiles := [(0, t)], fab := f }

theorem clocked_tracedTile (t : Tile) (f : FabricSt) : Clocked (tracedTile t f) 0 :=
  ⟨by decide, show (upDev tracedRegs).meshRuns (siteField 0) = true by decide +kernel⟩

theorem tileFenced_tracedTile (t : Tile) (f : FabricSt) : (tracedTile t f).tileFenced 0 = false :=
  show (upDev tracedRegs).tileFenced 0 = false by decide +kernel

theorem lostWords_tracedTile (t : Tile) (f : FabricSt) : (tracedTile t f).rd (TRACE_LOST_WORDS 0) = 0 :=
  show (upDev tracedRegs).rd (TRACE_LOST_WORDS 0) = 0 by decide +kernel

/-- A command that counts the four lost words does not keep every register outside a list without TRACE.LOST_WORDS. -/
theorem Gives.false_of_lostWords {c : Instr} {t : Tile} {f : FabricSt} {l : List Nat} {p : Dev → Prop} (h : Gives c (stateOf (tracedTile t f)) p)
    (hkeep : ∀ d, p d → RegsKeep l (tracedTile t f) d) (hl : TRACE_LOST_WORDS 0 ∉ l)
    (hrun : (Machine.devAfter c (stateOf (tracedTile t f))).map (·.rd (TRACE_LOST_WORDS 0)) = some 4) : False := by
  obtain ⟨d, hd, hp⟩ := h.devAfter
  have hlost : d.rd (TRACE_LOST_WORDS 0) = 4 := by
    rw [hd] at hrun
    exact Option.some.inj hrun
  have hsame : d.rd (TRACE_LOST_WORDS 0) = 0 := (hkeep d hp _ hl).trans (lostWords_tracedTile t f)
  exact absurd (hlost.symm.trans hsame) (by decide)

/-- An instruction in progress: its opcode, the addresses of its generators, its bits below the opcode. -/
def inProgress (op : Nat) (ags : List Nat) (lo : Nat := 0) : Running :=
  { q := { ins := { cmd := { words := [] }, entry := 0, bits := op * 2 ^ 56 + lo }, ags }, popped := [], off := false, guard := 1 }

/-- A tile with an instruction in progress in one engine. -/
def runningTile (e : Nat) (r : Running) : Tile := { eng := [(e, { run := some r })] }

theorem works_tracedTile {e op : Nat} {r : Running} (hr : ((runningTile e r).engine e).run = some r) (hop : r.q.ins.opcode = op)
    (hf : r.finished = false) : Works (tracedTile (runningTile e r)) 0 e op r :=
  ⟨clocked_tracedTile _ _, hr, hop, hf, tileFenced_tracedTile _ _⟩

/-! ### A waiting instruction times out (03_tile.md R120) -/

/-- A tile whose control engine waits with one instruction. -/
def waitingTile : Tile := { eng := [(0, { queue := [(inProgress 0x10 []).q] })] }

theorem tokenTimeout_lostWords :
    (devAfter (.tokenTimeout 0 0) (stateOf (tracedTile waitingTile))).map (·.rd (TRACE_LOST_WORDS 0)) = some 4 := by decide +kernel

/-- Refutes O32: TOKEN_TIMEOUT sets FLAGS[4], and the trace of that event counts the words lost before it. -/
theorem not_tilePipeline : ¬ Obligations.TilePipeline := by
  unfold Obligations.TilePipeline
  rintro ⟨-, -, -, -, hengine, -⟩
  obtain ⟨-, -, htimeout⟩ := hengine (stateOf (tracedTile waitingTile)) 0 0 (clocked_tracedTile _ _) (by decide)
  exact (htimeout (inProgress 0x10 []).q [] rfl rfl rfl).false_of_lostWords (fun _ ⟨_, _, _, hkeep, _⟩ => hkeep) (by decide)
    tokenTimeout_lostWords

/-! ### Words beyond the scratchpad (03_tile.md R105) -/

/-- A COPY of the line that a popped descriptor names, the first beyond the scratchpad, to word 0. -/
def beyondCopy : Running := { inProgress 0x20 [0] (2 ^ 21) with popped := [{ addr := spadWords, len := 4 }] }

theorem copy_lostWords :
    (devAfter (.copy 0) (stateOf (tracedTile (runningTile 1 beyondCopy)))).map (·.rd (TRACE_LOST_WORDS 0)) = some 4 := by decide +kernel

/-- Refutes O34: a COPY from beyond the scratchpad sets FLAGS[3], and the trace of that event counts the words lost
before it. -/
theorem not_dataMovers : ¬ Obligations.DataMovers := by
  unfold Obligations.DataMovers
  rintro ⟨hcopy, -⟩
  obtain ⟨-, hbeyond⟩ := hcopy (stateOf (tracedTile (runningTile 1 beyondCopy))) 0 _ (works_tracedTile rfl (by decide +kernel) rfl)
  exact (hbeyond (.inl (by decide +kernel))).false_of_lostWords (fun _ ⟨_, _, hkeep, _⟩ => hkeep) (by decide) copy_lostWords

/-- A VLD from the first word beyond the scratchpad on. -/
def beyondLoad : Running := inProgress 0x40 [spadWords]

theorem vld_lostWords :
    (devAfter (.vld 0) (stateOf (tracedTile (runningTile 3 beyondLoad)))).map (·.rd (TRACE_LOST_WORDS 0)) = some 4 := by decide +kernel

/-- Refutes O40: a VLD from beyond the scratchpad sets FLAGS[3], and the trace of that event counts the words lost
before it. -/
theorem not_vectorMemory : ¬ Obligations.VectorMemory := by
  unfold Obligations.VectorMemory
  rintro ⟨hmoves, -⟩
  obtain ⟨-, -, -, -, hbeyond⟩ := hmoves (stateOf (tracedTile (runningTile 3 beyondLoad))) 0 beyondLoad
  exact (hbeyond (.vld 0) 0x40 64 spadWords (List.mem_cons_self ..) (works_tracedTile rfl (by decide +kernel) rfl)
    (by decide)).false_of_lostWords (fun _ ⟨_, _, _, _, hkeep, _⟩ => hkeep) (by decide) vld_lostWords

/-! ### A correction (03_tile.md R138) -/

theorem spadEccWriteback_lostWords :
    (devAfter (.spadEccWriteback 0) (stateOf (tracedTile {}))).map (·.rd (TRACE_LOST_WORDS 0)) = some 4 := by decide +kernel

/-- Refutes O35: SPAD_ECC_WRITEBACK sets FLAGS[1], and the trace of that event counts the words lost before it. -/
theorem not_scratchpadEcc : ¬ Obligations.ScratchpadEcc := by
  unfold Obligations.ScratchpadEcc
  rintro ⟨hwriteback, -⟩
  exact (hwriteback (stateOf (tracedTile {})) 0 (clocked_tracedTile _ _)).false_of_lostWords (fun _ ⟨_, _, _, hkeep, _⟩ => hkeep)
    (by decide) spadEccWriteback_lostWords

/-! ### A load that a neighbour does not answer (03_tile.md R131) -/

/-- A neighbour load that waits for one response. -/
def waitingLoad : Running := { inProgress 0x21 [] with left := 1 }

theorem nbrTimeout_lostWords :
    (devAfter (.nbrTimeout 0) (stateOf (tracedTile (runningTile 1 waitingLoad)))).map (·.rd (TRACE_LOST_WORDS 0)) = some 4 := by
  decide +kernel

/-- Refutes O36: NBR_TIMEOUT sets FLAGS[8], and the trace of that event counts the words lost before it. -/
theorem not_neighbourService : ¬ Obligations.NeighbourService := by
  unfold Obligations.NeighbourService
  rintro ⟨-, -, -, htimeouts⟩
  obtain ⟨htimeout, -⟩ := htimeouts (stateOf (tracedTile (runningTile 1 waitingLoad))) 0 (clocked_tracedTile _ _)
  exact (htimeout waitingLoad rfl (by decide +kernel) (by decide)).false_of_lostWords (fun _ ⟨_, _, hkeep, _⟩ => hkeep) (by decide)
    nbrTimeout_lostWords

/-! ### A message to a queue that is not enabled (03_tile.md R136) -/

/-- A message of no words to queue 0. -/
def emptyMsg : Packet := { vc := 2, typ := 0, dest := 0 }

/-- The message has reached tile 0. -/
def withMsg : Dev := tracedTile {} { landed := [(0, emptyMsg)] }

theorem landed_withMsg : Landed withMsg 0 0 emptyMsg [] :=
  ⟨clocked_tracedTile _ _, by decide +kernel, tileFenced_tracedTile _ _, by decide +kernel⟩

theorem rqEn_withMsg : rqEn withMsg 0 (emptyMsg.aux % 8) = false := by decide +kernel

theorem msgArrival_lostWords : (devAfter (.msgArrival 0) (stateOf withMsg)).map (·.rd (TRACE_LOST_WORDS 0)) = some 4 := by decide +kernel

/-- Refutes O37: a message to a queue that is not enabled sets FLAGS[5], and the trace of that event counts the words
lost before it. -/
theorem not_collectiveArrivals : ¬ Obligations.CollectiveArrivals := by
  unfold Obligations.CollectiveArrivals
  rintro ⟨hmessages, -⟩
  obtain ⟨hmsg, -⟩ := hmessages (stateOf withMsg) 0 emptyMsg []
  obtain ⟨-, hdropped⟩ := hmsg landed_withMsg
  exact Gives.false_of_lostWords (hdropped fun ⟨hen, _⟩ => absurd (rqEn_withMsg.symm.trans hen) Bool.false_ne_true)
    (fun _ ⟨_, _, _, _, hkeep⟩ => hkeep) (by decide) msgArrival_lostWords

end Sys2Proof.Machine

/-! PROOF. Statements about the matrix unit that the model refutes, each on a state that the model runs: what an MXM beyond
the scratchpad leaves in the field trace (02_control_model.md R98, R99, 04_matrix_unit.md R159), and what a hold of a DCW
word does to the array of a tile that discards the word (04_matrix_unit.md R166, R171, 06_sequencers_isa.md R261). -/

namespace Sys2Proof.Machine

/-! ### An MXM whose output lies beyond the scratchpad (04_matrix_unit.md R159) -/

/-- An INT8 product of one row, one column and one group with INT32 output: A at word 0, B at word 4, the output at the
first word beyond the scratchpad. -/
def beyondDesc : MxDesc := [0, 0x800, 0xC55, 0, 4, w32 spadWords, 0, 0, 0, 0x10001, 0x10001, 0]

/-- An MXM with that descriptor. -/
def beyondMxm : Running := { inProgress 0x30 [] with block := [beyondDesc] }

theorem rangesBad_beyondMxm : rangesBad (beyondMxm.block.flatMap instrRanges) = true := by decide +kernel

theorem mxm_lostWords :
    (devAfter (.mxm 0) (stateOf (tracedTile (runningTile 2 beyondMxm)))).map (·.rd (TRACE_LOST_WORDS 0)) = some 4 := by decide +kernel

/-- Refutes O41: an MXM whose output lies beyond the scratchpad sets FLAGS[3], and the trace of that event counts the
words lost before it. -/
theorem not_matrixPasses : ¬ Obligations.MatrixPasses := by
  unfold Obligations.MatrixPasses
  rintro ⟨hbegin, -⟩
  have hop : beyondMxm.q.ins.opcode = 0x30 := by decide +kernel
  obtain ⟨-, -, -, hbeyond⟩ := hbegin (stateOf (tracedTile (runningTile 2 beyondMxm))) 0 beyondMxm (works_tracedTile rfl rfl rfl) rfl rfl rfl
  have hillegal := hbeyond fun ⟨hranges, _⟩ => absurd (rangesBad_beyondMxm.symm.trans hranges) (by decide)
  exact (hillegal (.mxm 0) 0x30 (List.mem_cons_self ..) hop).false_of_lostWords (fun _ ⟨_, _, hkeep, _⟩ => hkeep) (by decide) mxm_lostWords

/-! ### A DCW word after a hold, at a tile that has faulted its command (04_matrix_unit.md R166, R171) -/

/-- A DCW word with VALID alone: it drives no row, touches no bank and drains nothing. -/
def validWord : Instruct := { cmd := { words := [] }, entry := 0, bits := 1, dcw := true }

/-- A tile that has faulted the word's command while the ramp had enabled one row of its array. -/
def rampingTile : Tile := { faulted := [validWord.cmd.serial], mx := { awake := true, rows := 1 } }

/-- The part with that tile, the only one that follows sequencer 0, whose word is in effect. -/
def rampingDev : Dev := { tracedTile rampingTile with seqs := [(0, { dcwNow := some validWord })] }

theorem meshRuns_rampingDev : rampingDev.meshRuns 0 = true := by decide +kernel

theorem subscribed_rampingDev : subscribed rampingDev 0 = [0] := by decide +kernel

theorem dcwHeld_validWord (d : Dev) (s cycles : Nat) : dcwHeld d s cycles validWord = false := by
  have htouches : dcwTouches validWord = false := by decide +kernel
  have hworks : dcwWorks validWord = false := by decide +kernel
  simp [dcwHeld, htouches, hworks]

/-- The word comes after a hold of three cycles, each of which has enabled a row. -/
theorem dcwWord_rows : (devAfter (.dcwWord 0 3) (stateOf rampingDev)).map (fun d => (d.tile 0).mx.rows) = some 4 := by decide +kernel

/-- Refutes O42: the cycles of a hold enable rows of a waking array also in a tile that has faulted the word's command,
which is then not as it was. -/
theorem not_dcwWords : ¬ Obligations.DcwWords := by
  unfold Obligations.DcwWords
  intro h
  obtain ⟨-, hword⟩ := h (stateOf rampingDev) 0 3 (by decide) meshRuns_rampingDev
  obtain ⟨-, hacts⟩ := hword validWord rfl
  obtain ⟨d, hd, -, -, -, -, hfaulted, -⟩ := (hacts fun t _ => dcwHeld_validWord _ t 3).devAfter
  have hsame : d.tile 0 = rampingTile := hfaulted 0 (subscribed_rampingDev ▸ List.mem_singleton_self 0) (by decide)
  have hrows := dcwWord_rows
  rw [hd, Option.map_some, hsame] at hrows
  exact absurd hrows (by decide)

end Sys2Proof.Machine

/-! PROOF. Router tables: what is read of an entry after it is stored, and an access through RT_ADDR and RT_DATA
(07_fabric.md R279, R288, R292, R313). -/

namespace Sys2Proof.Machine

/-! ### The place that RT_ADDR names -/

/-- Nothing but an entry's content bars a write by the agent at the place that RT_ADDR names (R313). -/
structure RtWritable (d : Dev) (f agent : Nat) : Prop where
  place : firstFail (rtPlaceChecks d f) = none
  allowed : d.mayWrite agent (.field f) = true
  unfenced : d.isFenced (.field f) = false
  started : d.up = true
  /-- the entries of trees 0 to 3 are Pewter's (R288) -/
  tree : rtTable d f = 2 → 4 ≤ rtIndex d f ∨ isPewter agent = true
  /-- no reduction is open at the entry -/
  closed : rtTable d f = 1 → (d.fab.insts.any fun r => r.site == rtSite d f && r.id == rtIndex d f && !r.dead) = false

/-- A place whose checks pass is one of the three tables', with its index and its word inside the table. -/
theorem rtPlace_of_pass {d : Dev} {f : Nat} (h : firstFail (rtPlaceChecks d f) = none) :
    rtIndex d f < rtEntries (rtTable d f) ∧ rtWord d f < rtWords (rtTable d f) := by
  rw [firstFail_none] at h
  have hreserved : rtTable d f ≠ 3 := by simpa using h (.reserved, _) (List.mem_cons_self ..)
  have hrange := h (.range, _) (List.mem_cons_of_mem _ (List.mem_cons_self ..))
  simp only [Bool.and_eq_false_iff, Bool.or_eq_false_iff, bne_eq_false_iff_eq, hreserved, false_or, decide_eq_false_iff_not,
    Nat.not_le] at hrange
  obtain ⟨⟨-, hindex⟩, hword⟩ := hrange
  exact ⟨hindex, hword⟩

/-! ### The address moves on -/

theorem rtAdvance_of_more {f : Nat} {d : Dev} (h : rtWord d f + 1 < rtWords (rtTable d f)) :
    rtAdvance f d = d.wrF (FIELD_RT_ADDR f) 29 28 (rtWord d f + 1) := if_pos h

theorem rtAdvance_of_last {f : Nat} {d : Dev} (h : rtWords (rtTable d f) ≤ rtWord d f + 1) :
    rtAdvance f d = (d.wrF (FIELD_RT_ADDR f) 29 28 0).wrF (FIELD_RT_ADDR f) 27 14 (rtIndex d f + 1) := if_neg (Nat.not_lt.2 h)

theorem rtAdvance_onlyRegs (f : Nat) (d : Dev) : OnlyRegs [FIELD_RT_ADDR f] d (rtAdvance f d) := by
  rcases Nat.lt_or_ge (rtWord d f + 1) (rtWords (rtTable d f)) with h | h
  · rw [rtAdvance_of_more h]
    exact onlyRegs_wr d _ _
  · rw [rtAdvance_of_last h]
    exact (onlyRegs_wr d _ _).trans (onlyRegs_wr _ _ _)

@[simp] theorem rtAdvance_fab (f : Nat) (d : Dev) : (rtAdvance f d).fab = d.fab := by
  rw [(rtAdvance_onlyRegs f d).1]

/-- Where the address moves on to depends on the address alone. -/
theorem rtAdvance_addr_congr {f : Nat} {d e : Dev} (h : e.rd (FIELD_RT_ADDR f) = d.rd (FIELD_RT_ADDR f)) :
    (rtAdvance f e).rd (FIELD_RT_ADDR f) = (rtAdvance f d).rd (FIELD_RT_ADDR f) := by
  have htable : rtTable e f = rtTable d f := congrArg (fld · 13 12) h
  have hindex : rtIndex e f = rtIndex d f := congrArg (fld · 27 14) h
  have hword : rtWord e f = rtWord d f := congrArg (fld · 29 28) h
  unfold rtAdvance
  rw [htable, hindex, hword]
  split <;> simp only [Dev.rd_wrF_same, h]

theorem rtAdvance_word {f : Nat} {d : Dev} (h : rtWord d f + 1 < rtWords (rtTable d f)) (h4 : rtWord d f + 1 < 4) :
    (rtAdvance f d).rdF (FIELD_RT_ADDR f) 29 28 = rtWord d f + 1 := by
  rw [rtAdvance_of_more h, Dev.rdF_wrF_same _ _ _ (by decide)]
  exact Nat.mod_eq_of_lt h4

theorem rtAdvance_index {f : Nat} {d : Dev} (h : rtWords (rtTable d f) ≤ rtWord d f + 1) :
    (rtAdvance f d).rdF (FIELD_RT_ADDR f) 27 14 = (rtIndex d f + 1) % 16384 := by
  rw [rtAdvance_of_last h]
  exact Dev.rdF_wrF_same _ _ _ (by decide)

/-- A part of the fabric that a write does not touch. -/
theorem rtAdvance_modFab_keeps {β : Type} (part : FabricSt → β) (f : Nat) (d : Dev) {g : FabricSt → FabricSt}
    (h : part (g d.fab) = part d.fab) : part (rtAdvance f (d.modFab g)).fab = part d.fab := by
  rw [rtAdvance_fab]
  exact h

/-- What every write that passes its checks leaves alone: it writes tables of the fabric, and RT_ADDR. -/
theorem rtAdvance_modFab_frame (f : Nat) (d : Dev) {g : FabricSt → FabricSt} (hnet : (g d.fab).net = d.fab.net)
    (hinsts : (g d.fab).insts = d.fab.insts) :
    let e := rtAdvance f (d.modFab g)
    RegsKeep [FIELD_RT_ADDR f] d e ∧ e = { d with regs := e.regs, fab := e.fab } ∧ e.fab.net = d.fab.net ∧
      e.fab.insts = d.fab.insts := by
  obtain ⟨honly, hkeep⟩ := rtAdvance_onlyRegs f (d.modFab g)
  exact ⟨hkeep, by rw [rtAdvance_fab]; exact honly, rtAdvance_modFab_keeps (·.net) f d hnet,
    rtAdvance_modFab_keeps (·.insts) f d hinsts⟩

/-! ### Entries -/

theorem quarantines_congr {d e : Dev} (h : ∀ f, f < 12 → e.rd (FIELD_HEALTH f) = d.rd (FIELD_HEALTH f)) :
    quarantines e = quarantines d :=
  List.filter_congr fun f hf => congrArg (bitOf · 4) (h f (List.mem_range.1 hf))

/-- Pewter's trees depend on the fenced regions, the quarantined fields and start-up alone (R288). -/
theorem pewterBc_congr {d e : Dev} (hup : e.up = d.up) (hregions : e.fab.regions = d.fab.regions)
    (hquarantines : quarantines e = quarantines d) (k : Nat) : pewterBc e k = pewterBc d k := by
  have hchoice : treeChoice e = treeChoice d := by funext tree node; simp only [treeChoice, hregions, hquarantines]
  have hroot : treeRoot e = treeRoot d := by funext tree; simp only [treeRoot, hchoice]
  have hfenced : routerFenced e = routerFenced d := by funext site; simp only [routerFenced, regionOf, hregions]
  have hon : onTree e = onTree d := by funext tree site; simp only [onTree, hfenced, hroot, hchoice, hquarantines]
  have hin : treeIn e = treeIn d := by funext tree site; simp only [treeIn, hroot, hchoice, hon]
  have hout : treeOut e = treeOut d := by funext tree site; simp only [treeOut, hon, hroot, hin, hchoice]
  simp only [pewterBc, hup, hon, hin, hout, hchoice]

theorem pewterBc_of_tree {d : Dev} {k : Nat} (h : 4 ≤ k / 2 % 64) : pewterBc d k = 0 :=
  if_neg fun ⟨hlt, _⟩ => absurd h (Nat.not_le.2 hlt)

@[simp] theorem rtAdvance_bindEntry (f : Nat) (d : Dev) (node id : Nat) : bindEntry (rtAdvance f d) node id = bindEntry d node id := by
  simp only [bindEntry, rtAdvance_fab]

@[simp] theorem rtAdvance_redEntry (f : Nat) (d : Dev) (site id w : Nat) : redEntry (rtAdvance f d) site id w = redEntry d site id w := by
  simp only [redEntry, rtAdvance_fab]

@[simp] theorem rtAdvance_bcEntry (f : Nat) (d : Dev) (site tree w : Nat) : bcEntry (rtAdvance f d) site tree w = bcEntry d site tree w := by
  obtain ⟨honly, hkeep⟩ := rtAdvance_onlyRegs f d
  have hquarantines : quarantines (rtAdvance f d) = quarantines d := quarantines_congr fun g _ => hkeep _ (by
    simp only [List.mem_singleton, FIELD_HEALTH, FIELD_RT_ADDR, fieldBase]
    omega)
  have hpewter := pewterBc_congr (e := rtAdvance f d) (by rw [honly]) (by rw [rtAdvance_fab]) hquarantines
  simp only [bcEntry, bcWord, rtAdvance_fab, hpewter]

/-! ### What a stored entry reads as -/

/-- Values put one after the other, the one of index `w` at key `a + w`, read as put; every other key reads as before. -/
theorem foldl_range_reads {M β : Type} {put : M → Nat → M} {read : M → Nat → β} {a : Nat} {v : Nat → β} (n : Nat)
    (h : ∀ m w j, w < n → read (put m w) j = if j = a + w then v w else read m j) (m : M) (j : Nat) :
    read ((List.range n).foldl put m) j = if a ≤ j ∧ j < a + n then v (j - a) else read m j := by
  induction n with
  | zero => exact (if_neg (by omega)).symm
  | succ n ih =>
    rw [List.range_succ, List.foldl_append, List.foldl_cons, List.foldl_nil, h _ n j (by omega),
      ih fun m w j hw => h m w j (by omega)]
    by_cases hj : j = a + n
    · rw [if_pos hj, if_pos (by omega), show j - a = n by omega]
    · rw [if_neg hj]
      exact if_congr (by omega) rfl rfl

/-- A table with a value put at a key, read with a default that at that key is the value of an unlisted key. -/
theorem getD_kvGet?_setD {α : Type} [DecidableEq α] (m : KV α) {z y : α} {a b : Nat} (x : α) (hy : b = a → y = z) :
    (kvGet? (kvSetD m z a x) b).getD y = if b = a then x else (kvGet? m b).getD y := by
  by_cases hb : b = a
  · rw [hy hb, if_pos hb]
    exact (kvGetD_setD m z a b x).trans (if_pos hb)
  · rw [if_neg hb]
    unfold kvSetD
    split
    · rw [kvGet?_del_other m hb]
    · rw [kvGet?_put_other m x hb]

theorem bindEntry_rtStore {index : Nat} (site : Nat) (v : List Word) (d : Dev) (n : Nat) {x : Nat} (hi : index < 16384) (hx : x < 16384) :
    bindEntry (rtStore site 0 index v d) n x = if n = site ∧ x = index then v.getD 0 0 else bindEntry d n x := by
  by_cases h : n = site ∧ x = index
  · obtain ⟨rfl, rfl⟩ := h
    simp [bindEntry, rtStore, Dev.modFab]
  · have hkey : 16384 * n + x ≠ 16384 * site + index := by omega
    rw [if_neg h]
    simp only [bindEntry, rtStore, Dev.modFab, kvGet?_put_other _ _ hkey]

theorem redEntry_rtStore {index : Nat} (site : Nat) (v : List Word) (d : Dev) (n : Nat) {x w : Nat} (hi : index < 256) (hx : x < 256)
    (hw : w < 3) :
    redEntry (rtStore site 1 index v d) n x w = if n = site ∧ x = index then v.getD w 0 else redEntry d n x w := by
  have hread := foldl_range_reads (read := fun r j => kvGetD r 0 j) (v := (v.getD · 0)) (a := 4 * (256 * site + index)) 3
    (fun m w j _ => kvGetD_setD m 0 _ j _) d.fab.red (4 * (256 * n + x) + w)
  refine hread.trans ?_
  by_cases h : n = site ∧ x = index
  · obtain ⟨rfl, rfl⟩ := h
    rw [if_pos (by omega), if_pos ⟨rfl, rfl⟩, Nat.add_sub_cancel_left]
  · rw [if_neg (by omega), if_neg h]
    rfl

/-- An entry of trees 0 to 3 is listed whatever its word, so that Pewter's choice no longer shows; of another tree a word
of 0 is not listed, which reads as 0. -/
theorem bcEntry_rtStore {index : Nat} (site : Nat) (v : List Word) (d : Dev) (n : Nat) {x w : Nat} (hi : index < 64) (hx : x < 64)
    (hw : w < 2) :
    bcEntry (rtStore site 2 index v d) n x w = if n = site ∧ x = index then v.getD w 0 else bcEntry d n x w := by
  have hput : ∀ (m : KV Word) w j, w < 2 →
      (kvGet? (if index < 4 then kvPut m (2 * (64 * site + index) + w) (v.getD w 0)
        else kvSetD m 0 (2 * (64 * site + index) + w) (v.getD w 0)) j).getD (pewterBc d j) =
      if j = 2 * (64 * site + index) + w then v.getD w 0 else (kvGet? m j).getD (pewterBc d j) := by
    intro m w j hw
    split
    · rw [kvGet?_put]
      split <;> rfl
    · exact getD_kvGet?_setD m _ fun hj => pewterBc_of_tree (by omega)
  have hread := foldl_range_reads (read := fun r j => (kvGet? r j).getD (pewterBc d j)) (v := (v.getD · 0)) 2 hput d.fab.bc
    (2 * (64 * n + x) + w)
  have hpewter := pewterBc_congr (d := d) (e := rtStore site 2 index v d) rfl rfl rfl
  simp only [bcEntry, bcWord, hpewter]
  refine hread.trans ?_
  by_cases h : n = site ∧ x = index
  · obtain ⟨rfl, rfl⟩ := h
    rw [if_pos (by omega), if_pos ⟨rfl, rfl⟩, Nat.add_sub_cancel_left]
  · rw [if_neg (by omega), if_neg h]

/-! ### Accesses -/

theorem rtAccess_read_of_pass {f : Nat} (agent : Nat) {d : Dev} (h : firstFail (rtPlaceChecks d f) = none) :
    rtAccess f agent none d = rtAdvance f (d.answerW (rtRead d (rtSite d f) (rtTable d f) (rtIndex d f) (rtWord d f))) := by
  simp only [rtAccess, h]

theorem rtAccess_read_of_fail {f : Nat} (agent : Nat) {d : Dev} {c : ErrCode} (h : firstFail (rtPlaceChecks d f) = some c) :
    rtAccess f agent none d = (d.reject (.field f) 0x934 agent c).answerW 0 := by
  simp only [rtAccess, h]

/-- A write at a place that nothing else bars is performed where the content that its checks look at is legal. -/
theorem RtWritable.checked {d : Dev} {f agent : Nat} (h : RtWritable d f agent) {content : List Check} (hcontent : firstFail content = none)
    (g : Dev → Dev) :
    d.checked (.field f) 0x934 agent (d.baseChecks agent (.field f) ++ rtPlaceChecks d f ++ content ++
      [(.privilege, rtTable d f == 2 && decide (rtIndex d f < 4) && !isPewter agent),
       (.busy, rtTable d f == 1 && d.fab.insts.any fun r => r.site == rtSite d f && r.id == rtIndex d f && !r.dead)]) g = g d := by
  have htree : (rtTable d f == 2 && decide (rtIndex d f < 4) && !isPewter agent) = false := by
    rw [Bool.eq_false_iff]
    intro hbarred
    simp only [Bool.and_eq_true, beq_iff_eq, decide_eq_true_eq, Bool.not_eq_true'] at hbarred
    obtain ⟨⟨htable, hlow⟩, hagent⟩ := hbarred
    rcases h.tree htable with hhigh | hpewter
    · omega
    · rw [hpewter] at hagent
      cases hagent
  have hclosed : (rtTable d f == 1 && d.fab.insts.any fun r => r.site == rtSite d f && r.id == rtIndex d f && !r.dead) = false := by
    rw [Bool.and_eq_false_imp]
    exact fun htable => h.closed (beq_iff_eq.1 htable)
  refine Dev.checked_pass _ _ _ _ _ _ fun e he => ?_
  rw [htree, hclosed] at he
  simp only [List.mem_append, List.mem_cons, List.not_mem_nil, or_false] at he
  rcases he with ((he | he) | he) | rfl | rfl
  · exact baseChecks_pass h.allowed h.unfenced h.started e he
  · exact (firstFail_none _).1 h.place e he
  · exact (firstFail_none _).1 hcontent e he
  · rfl
  · rfl

/-- A word before an entry's last is held. -/
theorem RtWritable.rtAccess_of_more {d : Dev} {f agent table : Nat} (h : RtWritable d f agent) (data : Word) (ht : rtTable d f = table)
    (hmore : rtWord d f + 1 < rtWords table) :
    rtAccess f agent (some data) d = rtAdvance f (d.modFab fun x =>
      { x with rtHeld := kvPut x.rtHeld (rtKey (rtSite d f) table (rtIndex d f) (rtWord d f)) data }) := by
  subst ht
  have hlast : decide (rtWords (rtTable d f) ≤ rtWord d f + 1) = false := decide_eq_false (Nat.not_le.2 hmore)
  simp only [rtAccess, hlast, Bool.false_and, Bool.false_eq_true, if_false]
  exact h.checked rfl _

/-- The last word puts the entry that it completes in force. -/
theorem RtWritable.rtAccess_of_last {d : Dev} {f agent table : Nat} (h : RtWritable d f agent) {data : Word} {v : List Word}
    (ht : rtTable d f = table) (hlast : rtWords table ≤ rtWord d f + 1)
    (hv : rtAssembled d (rtSite d f) table (rtIndex d f) (rtWord d f) data = v)
    (hcontent : firstFail (rtContentChecks d (rtSite d f) table (rtIndex d f) v) = none) :
    rtAccess f agent (some data) d = rtAdvance f (rtStore (rtSite d f) table (rtIndex d f) v d) := by
  subst ht
  simp only [rtAccess, decide_eq_true hlast, h.place, hv, Option.isNone_none, Bool.and_self, if_true]
  exact h.checked hcontent _

/-- An entry of the binding table is its one word. -/
theorem rtAssembled_binding (d : Dev) (site index : Nat) (data : Word) : rtAssembled d site 0 index 0 data = [data] := rfl

theorem firstFail_rtContentChecks_binding {data : Word} (d : Dev) (site index : Nat) (h : fld data 30 22 = 0) :
    firstFail (rtContentChecks d site 0 index [data]) = none := by
  simp [rtContentChecks, h]

/-- A write of a binding entry, whose first word is its last. -/
theorem RtWritable.rtAccess_binding {d : Dev} {f agent : Nat} (h : RtWritable d f agent) {data : Word} (ht : rtTable d f = 0)
    (hnamed : fld data 30 22 = 0) :
    rtAccess f agent (some data) d = rtAdvance f (rtStore (rtSite d f) 0 (rtIndex d f) [data] d) := by
  obtain ⟨-, hword⟩ := rtPlace_of_pass h.place
  have hfirst : rtWord d f = 0 := by
    rw [ht] at hword
    exact Nat.lt_one_iff.1 hword
  exact h.rtAccess_of_last ht (Nat.le_add_left 1 _) (by rw [hfirst, rtAssembled_binding])
    (firstFail_rtContentChecks_binding d _ _ hnamed)

/-- Settles O45: each write is the entry or the held word that it puts, on which RT_ADDR moves on. That a rejected read
answers 0 is deduced (notes/assumptions/18.md), as is that the content is checked at the last word
(notes/assumptions/65.md). -/
theorem routerTables : Obligations.RouterTables := by
  refine ⟨fun s f agent hf => ⟨fun hplace => ?_, fun c hc => ?_⟩, fun s f agent data hf hplace hagent hfenced hup => ?_⟩
  · refine Gives.guarded (f := rtAccess f agent none) rfl (decide_eq_true hf) ?_
    rw [rtAccess_read_of_pass agent hplace]
    generalize rtRead s.dev _ _ _ _ = w
    obtain ⟨honly, hkeep⟩ := rtAdvance_onlyRegs f (s.dev.answerW w)
    exact ⟨by rw [honly]; rfl, rtAdvance_addr_congr rfl, hkeep, by rw [honly]; rfl⟩
  · refine Gives.guarded (f := rtAccess f agent none) rfl (decide_eq_true hf) ?_
    exact rtAccess_read_of_fail agent hc
  obtain ⟨hindex, -⟩ := rtPlace_of_pass hplace
  have gives {q : Dev → Prop} := Gives.guarded (i := .rtDataAccess f agent (some data)) (s := s) (q := q)
    (f := rtAccess f agent (some data)) rfl (decide_eq_true hf)
  refine ⟨fun htable hnamed => gives ?_, fun htable hearlier hclosed => gives ?_, fun htable hlast hclosed hcontent => gives ?_,
    fun htable hlast htree hcontent => gives ?_⟩
  · have h : RtWritable s.dev f agent := ⟨hplace, hagent, hfenced, hup, by simp [htable], by simp [htable]⟩
    have hwords : rtWords (rtTable s.dev f) ≤ rtWord s.dev f + 1 := by rw [htable]; exact Nat.le_add_left 1 _
    rw [htable] at hindex
    rw [h.rtAccess_binding htable hnamed]
    refine ⟨?_, fun n x hx hne => ?_, rtAdvance_index hwords, rtAdvance_modFab_keeps (·.red) f s.dev rfl,
      rtAdvance_modFab_keeps (·.bc) f s.dev rfl, rtAdvance_modFab_frame f s.dev rfl rfl⟩
    · rw [rtAdvance_bindEntry, bindEntry_rtStore _ _ _ _ hindex hindex, if_pos ⟨rfl, rfl⟩, List.getD_cons_zero]
    · rw [rtAdvance_bindEntry, bindEntry_rtStore _ _ _ _ hindex hx, if_neg hne]
  · have h : RtWritable s.dev f agent := ⟨hplace, hagent, hfenced, hup, by simp [htable], fun _ => hclosed⟩
    have hmore : rtWord s.dev f + 1 < rtWords 1 := Nat.succ_lt_succ hearlier
    rw [h.rtAccess_of_more data htable hmore]
    refine ⟨rtAdvance_modFab_keeps (·.red) f s.dev rfl, rtAdvance_modFab_keeps (·.bc) f s.dev rfl,
      rtAdvance_modFab_keeps (·.bindRt) f s.dev rfl, ?_, rtAdvance_word (htable ▸ hmore) (Nat.succ_lt_succ (Nat.lt_succ_of_lt hearlier)),
      rtAdvance_modFab_frame f s.dev rfl rfl⟩
    rw [rtAdvance_fab]
    exact kvGet?_put_same _ _ _
  · have h : RtWritable s.dev f agent := ⟨hplace, hagent, hfenced, hup, by simp [htable], fun _ => hclosed⟩
    rw [htable] at hindex
    rw [h.rtAccess_of_last htable (by rw [hlast]; exact Nat.le_refl 3) (by rw [htable]) hcontent]
    refine ⟨fun w hw => ?_, fun n x w hx hw hne => ?_, rtAdvance_modFab_keeps (·.bc) f s.dev rfl,
      rtAdvance_modFab_keeps (·.bindRt) f s.dev rfl, rtAdvance_modFab_frame f s.dev rfl rfl⟩
    · rw [rtAdvance_redEntry, redEntry_rtStore _ _ _ _ hindex hindex hw, if_pos ⟨rfl, rfl⟩]
    · rw [rtAdvance_redEntry, redEntry_rtStore _ _ _ _ hindex hx hw, if_neg hne]
  · have h : RtWritable s.dev f agent := ⟨hplace, hagent, hfenced, hup, fun _ => htree, by simp [htable]⟩
    rw [htable] at hindex
    rw [h.rtAccess_of_last htable (by rw [hlast]; exact Nat.le_refl 2) (by rw [htable]) hcontent]
    refine ⟨fun w hw => ?_, fun n x w hx hw hne => ?_, rtAdvance_modFab_keeps (·.red) f s.dev rfl,
      rtAdvance_modFab_keeps (·.bindRt) f s.dev rfl, rtAdvance_modFab_frame f s.dev rfl rfl⟩
    · rw [rtAdvance_bcEntry, bcEntry_rtStore _ _ _ _ hindex hindex hw, if_pos ⟨rfl, rfl⟩]
    · rw [rtAdvance_bcEntry, bcEntry_rtStore _ _ _ _ hindex hx hw, if_neg hne]

end Sys2Proof.Machine

/-! PROOF. The statement about routers and seams, which the model refutes on a state that it runs: the flag of a stale packet
is an event of the field trace, whose GAP entry adds the words lost before it to TRACE.LOST_WORDS (02_control_model.md R98,
R99, 07_fabric.md R286). -/

namespace Sys2Proof.Machine

/-- A packet for ID 0 that waits for ejection at tile 0, which is bound to no ID. -/
def unboundFlight : Flight := { pkt := { vc := 2, typ := 0, dest := 0 }, site := 0, port := 0, eject := true }

/-- Tile 0, traced, with the packet at its router. -/
def ejectingDev : Dev := tracedTile {} { net := [unboundFlight] }

theorem packetEjection_lostWords :
    (devAfter (.packetEjection 0) (stateOf ejectingDev)).map (·.rd (TRACE_LOST_WORDS 0)) = some 4 := by decide +kernel

theorem tileBound_ejectingDev : ejectingDev.tileBound 0 = false := by decide +kernel

/-- Refutes O38: PACKET_EJECTION of a stale packet sets FLAGS[6], and the trace of that event counts the words lost
before it. -/
theorem not_routersAndSeams : ¬ Obligations.RoutersAndSeams := by
  unfold Obligations.RoutersAndSeams
  rintro ⟨-, heject, -⟩
  obtain ⟨-, hserve⟩ := heject (stateOf ejectingDev) 0 (clocked_tracedTile _ _)
  obtain ⟨-, hstale⟩ := hserve unboundFlight [] rfl (tileFenced_tracedTile _ _) rfl
  have hunbound : ¬ejectingDev.tileBound 0 = true := by rw [tileBound_ejectingDev]; decide
  exact (hstale fun ⟨hbound, _⟩ => hunbound hbound).false_of_lostWords (fun _ ⟨_, _, _, _, hkeep⟩ => hkeep) (by decide)
    packetEjection_lostWords

end Sys2Proof.Machine

/-! PROOF. The statement about beats, which the model refutes on a state that it runs: a site beyond the die's 13,824, which
a record names for a failed attempt, lies in a field whose page would lie over stream descriptors (02_control_model.md R38,
08_streams_context.md R315, R343, 13_faults_recovery.md R490 to R492). -/

namespace Sys2Proof.Machine

/-- A site that the die does not have. By its number it lies in field 28, and HEALTH of a FIELD_28 page would be word 0 of
stream 4's descriptor. -/
def beyondDie : Nat := 31136

/-- A failed beat of stream 4, every sequencer of which is IDLE for it. -/
def failedBeat : Beat := { stream := 4, beat := 0, attempt := 0, kind := 0, tokens := 1, seqs := [], left := [], failed := true }

/-- Stream 4 is CLOSING; its failed attempt is attributed to that site, which is listed as BOUND. -/
def closingDev : Dev :=
  { upDev [(FLT_CLS_CFG, 0x10000), (descAddr 4 0, 5)] with
    strm := { beats := [failedBeat] }
    flt := { siteState := [(beyondDie, 2)], attributed := [(4, { attempt := 0, site := some beyondDie })] } }

theorem strmSt_closingDev : closingDev.strmSt 4 = 5 := by decide +kernel

/-- The stream becomes FREE, and then the site SUSPECT, which writes HEALTH.STATE of its field: word 0 of the stream. -/
theorem beatAbortDone_strmSt : (devAfter (.beatAbortDone 4) (stateOf closingDev)).map (·.strmSt 4) = some 2 := by decide +kernel

/-- Refutes O48: nothing in it keeps the site of an attributed record within the die, and the end of the attempt of a CLOSING
stream leaves the stream READY, not FREE. -/
theorem not_beats : ¬ Obligations.Beats := by
  unfold Obligations.Beats
  rintro ⟨-, -, -, -, habort⟩
  obtain ⟨-, hends⟩ := habort (stateOf closingDev) 4 failedBeat (by decide) rfl rfl rfl rfl rfl
  obtain ⟨d, hd, -, -, -, -, hclosing, -⟩ := (hends rfl).devAfter
  have hfree : d.strmSt 4 = 0 := hclosing strmSt_closingDev
  have hready := beatAbortDone_strmSt
  rw [hd, Option.map_some, hfree] at hready
  exact absurd hready (by decide)

end Sys2Proof.Machine

/-! PROOF. Summary selectors: what a contribution to a reduction leaves alone, the requests of a selector and the word that
shows them, and what becomes of the oldest request (08_streams_context.md R348 to R353, R362). -/

namespace Sys2Proof.Machine

/-! ### What the fabric's own effects leave alone -/

/-- Only packets, traces and records may differ, and of the registers the pages from FIELD_0 on and CHAN.XING_DROP_COUNT. -/
def FabricOnly (d e : Dev) : Prop :=
  e = { d with regs := e.regs, ctl := e.ctl, flt := e.flt, fab := e.fab } ∧
    ∀ b, b < fieldBase 0 → b ≠ CHAN_XING_DROP_COUNT → e.rd b = d.rd b

theorem FabricOnly.refl (d : Dev) : FabricOnly d d := ⟨rfl, fun _ _ _ => rfl⟩

theorem FabricOnly.trans {a b c : Dev} (h : FabricOnly a b) (g : FabricOnly b c) : FabricOnly a c := by
  obtain ⟨honly, hkeep⟩ := h
  obtain ⟨gonly, gkeep⟩ := g
  refine ⟨?_, fun x hx hne => (gkeep x hx hne).trans (hkeep x hx hne)⟩
  rw [gonly, honly]

theorem FabricOnly.strm {d e : Dev} (h : FabricOnly d e) : e.strm = d.strm := by rw [h.1]

theorem FabricOnly.tiles {d e : Dev} (h : FabricOnly d e) : e.tiles = d.tiles := by rw [h.1]

theorem FabricOnly.seqs {d e : Dev} (h : FabricOnly d e) : e.seqs = d.seqs := by rw [h.1]

theorem fabricOnly_wr (d : Dev) {a : Nat} (w : Word) (h : fieldBase 0 ≤ a ∨ a = CHAN_XING_DROP_COUNT) : FabricOnly d (d.wr a w) :=
  ⟨rfl, fun b hb hne => Dev.rd_wr_other d w (by omega)⟩

theorem fabricOnly_setTrace (d : Dev) (f : Nat) (t : TraceSt) : FabricOnly d (d.setTrace f t) := ⟨rfl, fun _ _ _ => rfl⟩

theorem fabricOnly_record (d : Dev) (cls kind unit synd : Nat) (cmd : Option CmdRef) : FabricOnly d (d.record cls kind unit synd cmd) :=
  ⟨rfl, fun _ _ _ => rfl⟩

theorem traceGap_fabricOnly (f : Nat) (d : Dev) : FabricOnly d (traceGap f d) := by
  obtain h | ⟨t, n, h⟩ := traceGap_cases f d <;> rw [h]
  · exact .refl d
  · exact (fabricOnly_setTrace d f t).trans (fabricOnly_wr _ _ (.inl (by simp only [TRACE_LOST_WORDS, traceBase, fieldBase]; omega)))

theorem Dev.traceEvent_fabricOnly (d : Dev) (f typ seq hi w2 w3 src : Nat) : FabricOnly d (d.traceEvent f typ seq hi w2 w3 src) := by
  obtain h | ⟨t, h⟩ := d.traceEvent_cases f typ seq hi w2 w3 src <;> rw [h]
  · exact .refl d
  · exact (traceGap_fabricOnly f d).trans (fabricOnly_setTrace _ f t)

theorem tileFlag_fabricOnly (s i : Nat) (d : Dev) : FabricOnly d (tileFlag s i d) := by
  have hflag : FabricOnly d (d.wr (TILE_FLAGS s) (setBit (d.rd (TILE_FLAGS s)) i true)) :=
    fabricOnly_wr d _ (.inl (by simp only [TILE_FLAGS, tileBase, fieldBase]; omega))
  unfold tileFlag
  dsimp only
  split
  · split
    · exact hflag
    · exact hflag.trans (Dev.traceEvent_fabricOnly ..)
  · exact hflag

theorem dropCount_fabricOnly (site counter : Nat) (p : Packet) (d : Dev) : FabricOnly d (dropCount site counter p d) := by
  refine .trans (fabricOnly_wr d _ (.inl ?_)) (Dev.traceEvent_fabricOnly ..)
  split <;> simp only [FIELD_INJ_UNMAPPED_COUNT, FIELD_INJ_STALE_COUNT, FIELD_CLOSED_DROP_COUNT, FIELD_FENCED_LINK_DROP_COUNT, fieldBase] <;> omega

/-- An injection discards the packet, with a count and a record, or puts it into the mesh. -/
theorem inject_fabricOnly (s : Nat) (p : Packet) (ins : Option Instruct) (d : Dev) : FabricOnly d (inject s p ins d).1 := by
  unfold inject
  dsimp only
  split_ifs
  iterate 3 exact (dropCount_fabricOnly ..).trans (fabricOnly_record ..)
  iterate 2
    · exact (fabricOnly_wr d _ (.inr rfl)).trans (fabricOnly_record ..)
    · exact ⟨rfl, fun _ _ _ => rfl⟩

theorem selContribute_fabricOnly (f : Nat) (ws : List Word) (poison : Bool) (d : Dev) : FabricOnly d (selContribute f ws poison d) := by
  unfold selContribute
  dsimp only
  split
  · exact .refl d
  · exact inject_fabricOnly ..

/-- A refused request is counted; its record and its contribution leave the selector alone. -/
theorem selRefuse_fabricOnly (f counter : Nat) (d : Dev) : FabricOnly (d.bump counter) (selRefuse f counter d) := by
  unfold selRefuse
  dsimp only
  split
  · exact (fabricOnly_record ..).trans (selContribute_fabricOnly ..)
  · exact selContribute_fabricOnly ..

/-- The flags and records of the sites where a scan met an uncorrectable word. -/
theorem badSummaries_fabricOnly (l : List (Nat × Nat)) (d : Dev) :
    FabricOnly d (l.foldl (fun d e => tileRecord e.1 0x03 e.2 (rvRef d e.1) (tileFlag e.1 flEccUe d)) d) := by
  induction l generalizing d with
  | nil => exact .refl d
  | cons e l ih => exact ((tileFlag_fabricOnly e.1 flEccUe d).trans (fabricOnly_record ..)).trans (ih _)

/-! ### The requests of a selector, and the word that shows them (R352, R362) -/

theorem selReqs_setSelReqs_same (f : Nat) (l : List (List Word)) (d : Dev) : selReqs (setSelReqs f l d) f = l :=
  kvGetD_setD_same d.strm.selReqs [] f l

theorem selReqs_setSelReqs_other {f g : Nat} (l : List (List Word)) (d : Dev) (h : g ≠ f) : selReqs (setSelReqs f l d) g = selReqs d g :=
  kvGetD_setD_other d.strm.selReqs [] l h

@[simp] theorem setSelReqs_selIn (f : Nat) (l : List (List Word)) (d : Dev) : (setSelReqs f l d).strm.selIn = d.strm.selIn := rfl

theorem selReqs_congr {d e : Dev} (h : e.strm = d.strm) (f : Nat) : selReqs e f = selReqs d f := by rw [selReqs, h]; rfl

/-- SEL.STATUS of a field after its queue is set. -/
theorem setSelReqs_status (f : Nat) (l : List (List Word)) (d : Dev) :
    (setSelReqs f l d).rd (SEL_STATUS f) = setFld (setFld (d.rd (SEL_STATUS f)) 2 0 l.length) 15 15 (b2n !l.isEmpty) := by
  rw [setSelReqs, Dev.rd_wrF_same, Dev.rd_wrF_same]
  rfl

theorem setSelReqs_regsKeep (f : Nat) (l : List (List Word)) (d : Dev) : RegsKeep [SEL_STATUS f] d (setSelReqs f l d) :=
  (regsKeep_wr (d.modStrm _) _ _).trans (regsKeep_wr _ _ _)

theorem setSelReqs_rd_other {f b : Nat} (l : List (List Word)) (d : Dev) (h : b ≠ SEL_STATUS f) : (setSelReqs f l d).rd b = d.rd b :=
  setSelReqs_regsKeep f l d b (by simpa using h)

/-- STATUS of a field's selector shows its queue: how many requests wait, and whether one does. -/
def SelShown (f : Nat) (d : Dev) : Prop :=
  d.rdF (SEL_STATUS f) 2 0 = (selReqs d f).length % 8 ∧ bitOf (d.rd (SEL_STATUS f)) 15 = !(selReqs d f).isEmpty

theorem setSelReqs_shown (f : Nat) (l : List (List Word)) (d : Dev) : SelShown f (setSelReqs f l d) := by
  rw [SelShown, selReqs_setSelReqs_same, Dev.rdF, setSelReqs_status]
  refine ⟨?_, ?_⟩
  · rw [fld_setFld_other _ _ (by omega)]
    exact fld_setFld_same _ _ (by omega)
  · rw [bitOf_setFld_inside _ _ (Nat.le_refl 15) (Nat.le_refl 15) (by omega)]
    cases l.isEmpty <;> rfl

/-- The layer that STATUS shows is no part of the queue. -/
theorem setSelReqs_layer (f : Nat) (l : List (List Word)) (d : Dev) : (setSelReqs f l d).rdF (SEL_STATUS f) 14 8 = d.rdF (SEL_STATUS f) 14 8 := by
  rw [Dev.rdF, setSelReqs_status, fld_setFld_other _ _ (by omega), fld_setFld_other _ _ (by omega)]
  rfl

theorem FabricOnly.rd_selStatus {f : Nat} {d e : Dev} (h : FabricOnly d e) (hf : f < 12) : e.rd (SEL_STATUS f) = d.rd (SEL_STATUS f) :=
  h.2 _ (by simp only [SEL_STATUS, fieldBase]; omega) (by simp only [SEL_STATUS, CHAN_XING_DROP_COUNT]; omega)

theorem SelShown.of_fabricOnly {f : Nat} {d e : Dev} (hf : f < 12) (h : SelShown f d) (g : FabricOnly d e) : SelShown f e := by
  rw [SelShown, Dev.rdF, g.rd_selStatus hf, selReqs_congr g.strm]
  exact h

/-! ### The oldest delivered request (R348, R352, R353) -/

/-- The oldest delivered request of a selector has been taken. -/
def selTaken (f : Nat) (rest : List (List Word)) (d : Dev) : Dev := d.modStrm fun s => { s with selIn := kvSetD s.selIn [] f rest }

theorem selTaken_selIn (f : Nat) (rest : List (List Word)) (d : Dev) : kvGetD (selTaken f rest d).strm.selIn [] f = rest :=
  kvGetD_setD_same d.strm.selIn [] f rest

@[simp] theorem selTaken_selReqs (f : Nat) (rest : List (List Word)) (d : Dev) (g : Nat) : selReqs (selTaken f rest d) g = selReqs d g := rfl

theorem selRequest_of_nil {f : Nat} {d : Dev} (h : kvGetD d.strm.selIn [] f = []) : selRequest f d = d := by
  rw [selRequest, h]

theorem selRequest_of_cons {f : Nat} {d : Dev} {r : List Word} {rest : List (List Word)} (h : kvGetD d.strm.selIn [] f = r :: rest) :
    selRequest f d =
      if bitOf (d.rd SEL_CFG) 0 = false then selTaken f rest d
      else if 4 ≤ (selReqs d f).length then selRefuse f SEL_REFUSED_COUNT (selTaken f rest d)
      else if selBad d r = true then selRefuse f SEL_BAD_REQ_COUNT (selTaken f rest d)
      else setSelReqs f (selReqs d f ++ [r.take 20]) (selTaken f rest d) := by
  rw [selRequest, h]
  simp only [Bool.not_eq_true']
  rfl

/-- A refused request is counted, and the selector's queue is as it was. -/
theorem selRefuse_spec {f counter : Nat} {rest : List (List Word)} {d : Dev} (hc : counter < fieldBase 0) (hne : counter ≠ CHAN_XING_DROP_COUNT) :
    let e := selRefuse f counter (selTaken f rest d)
    e.rd counter = satAdd (d.rd counter) 1 ∧ selReqs e f = selReqs d f ∧ kvGetD e.strm.selIn [] f = rest ∧ e.tiles = d.tiles := by
  intro e
  have he : FabricOnly ((selTaken f rest d).bump counter) e := selRefuse_fabricOnly f counter _
  refine ⟨?_, ?_, ?_, he.tiles⟩
  · rw [he.2 counter hc hne, Dev.rd_bump_same]
    rfl
  · rw [selReqs_congr he.strm]
    rfl
  · rw [he.strm]
    exact selTaken_selIn f rest d

/-! ### The oldest waiting request is scanned (R349 to R352) -/

theorem selScan_of_nil {f : Nat} {d : Dev} (h : selReqs d f = []) : selScan f d = d := by
  rw [selScan, h]

/-- A scan flags the sites whose summaries it could not read, counts, shows its layer, takes the request out of the queue and
contributes what it has found. -/
theorem selScan_of_cons {f : Nat} {d : Dev} {r : List Word} {rest : List (List Word)} (h : selReqs d f = r :: rest) :
    ∃ (d₁ : Dev) (skipped : Nat), FabricOnly d d₁ ∧ FabricOnly
      (setSelReqs f rest (((d₁.bump SEL_SCAN_COUNT).bumpBy SEL_SKIP_COUNT skipped).wrF (SEL_STATUS f) 14 8 (fld (r.getD 16 0) 6 0)))
      (selScan f d) := by
  rw [selScan, h]
  exact ⟨_, _, badSummaries_fabricOnly _ d, selContribute_fabricOnly ..⟩

theorem selScan_spec {f : Nat} {d : Dev} {r : List Word} {rest : List (List Word)} (hf : f < 12) (h : selReqs d f = r :: rest) :
    let e := selScan f d
    selReqs e f = rest ∧ (∀ g, g ≠ f → selReqs e g = selReqs d g) ∧ SelShown f e ∧ e.rd SEL_SCAN_COUNT = satAdd (d.rd SEL_SCAN_COUNT) 1 ∧
      e.rdF (SEL_STATUS f) 14 8 = fld (r.getD 16 0) 6 0 ∧ e.tiles = d.tiles ∧ e.seqs = d.seqs := by
  intro e
  obtain ⟨d₁, skipped, h₁, he⟩ := selScan_of_cons h
  have hcount : SEL_SCAN_COUNT ≠ SEL_STATUS f := by
    simp only [SEL_STATUS, SEL_SCAN_COUNT]
    omega
  refine ⟨?_, fun g hg => ?_, (setSelReqs_shown f rest _).of_fabricOnly hf he, ?_, ?_, ?_, ?_⟩
  · rw [selReqs_congr he.strm, selReqs_setSelReqs_same]
  · rw [selReqs_congr he.strm, selReqs_setSelReqs_other _ _ hg]
    exact selReqs_congr h₁.strm g
  · rw [he.2 _ (by decide) (by decide), setSelReqs_rd_other _ _ hcount, Dev.rd_wrF_other _ _ _ _ hcount]
    rw [Dev.bumpBy, Dev.rd_wr_other _ _ (by decide), Dev.rd_bump_same, h₁.2 _ (by decide) (by decide)]
  · rw [Dev.rdF, he.rd_selStatus hf]
    refine (setSelReqs_layer f rest _).trans ((Dev.rdF_wrF_same _ _ _ (by omega)).trans (Nat.mod_eq_of_lt ?_))
    exact fld_lt _ 6 0
  · rw [he.tiles]
    exact h₁.tiles
  · rw [he.seqs]
    exact h₁.seqs

/-! ### The commands -/

/-- A command of a field whose clock runs gives what its effect on the field gives. -/
theorem Gives.onMesh {i : Instr} {s : State} {f : Nat} {g : Dev → Dev} {q : Dev → Prop}
    (h : exec i s = guardUnit (unitField f) (Machine.onMesh f g s)) (hf : f < 12) (hr : s.dev.meshRuns f = true) (hq : q (g s.dev)) : Gives i s q := by
  refine Gives.guarded h (decide_eq_true hf) ?_
  rwa [if_pos hr]

/-- Settles O49: SEL_REQUEST is one of the four cases of `selRequest_of_cons`, and SEL_SCAN_DONE is `selScan_spec`. -/
theorem selectors : Obligations.Selectors := by
  intro s f hf hruns shown
  have request {q : Dev → Prop} : q (selRequest f s.dev) → Gives (.selRequest f) s q := Gives.onMesh rfl hf hruns
  have scan {q : Dev → Prop} : q (selScan f s.dev) → Gives (.selScanDone f) s q := Gives.onMesh rfl hf hruns
  refine ⟨fun hnone => request (selRequest_of_nil hnone), fun r rest hin => ⟨fun hoff => request ?_, fun hon hfew hgood => request ?_,
    fun hon hfull => request ?_, fun hon hfew hbad => request ?_⟩, fun hnone => scan (selScan_of_nil hnone),
    fun r rest hreqs => scan (selScan_spec hf hreqs)⟩
  all_goals rw [selRequest_of_cons hin]
  · rw [if_pos hoff]
    exact ⟨selTaken_selIn f rest _, rfl, rfl⟩
  · rw [hon, if_neg Bool.noConfusion, if_neg (Nat.not_le.2 hfew), hgood, if_neg Bool.noConfusion]
    refine ⟨selTaken_selIn f rest _, selReqs_setSelReqs_same .., setSelReqs_shown .., setSelReqs_regsKeep f _ (selTaken f rest s.dev),
      fun g hg => selReqs_setSelReqs_other _ _ hg, rfl⟩
  · rw [hon, if_neg Bool.noConfusion, if_pos hfull]
    exact selRefuse_spec (by decide) (by decide)
  · rw [hon, if_neg Bool.noConfusion, if_neg (Nat.not_le.2 hfew), if_pos hbad]
    exact selRefuse_spec (by decide) (by decide)

end Sys2Proof.Machine

/-! PROOF. Stream descriptors: what a field reads after another was set, the states of a stream, the work that it has and
what wakes it (08_streams_context.md R315, R318, R321, R328, R329). -/

namespace Sys2Proof.Machine

/-! ### Fields of descriptors -/

/-- A field reads as before when a word elsewhere, or a disjoint field of the same word, is set. -/
theorem Dev.rdF_wrF_other (d : Dev) {a b hi lo h' l' : Nat} (v : Nat) (h : b ≠ a ∨ hi < l' ∨ h' < lo) :
    (d.wrF a h' l' v).rdF b hi lo = d.rdF b hi lo := by
  unfold Dev.rdF
  by_cases hab : b = a
  · subst hab
    rw [Dev.rd_wrF_same, fld_setFld_other _ _ (h.resolve_left fun hne => hne rfl)]
  · rw [Dev.rd_wrF_other _ _ _ _ hab]

theorem descAddr_inj {m n x w : Nat} (hx : x < 16) (hw : w < 16) : descAddr m x = descAddr n w ↔ m = n ∧ x = w := by
  unfold descAddr
  omega

theorem Dev.dF_setDF_same (d : Dev) (n w v : Nat) {hi lo : Nat} (h : hi < 32) :
    (d.setDF n w hi lo v).dF n w hi lo = v % 2 ^ (hi + 1 - lo) := Dev.rdF_wrF_same _ _ _ h

/-- A disjoint field of the same word. -/
theorem Dev.dF_setDF_field (d : Dev) (n w v : Nat) {hi lo h' l' : Nat} (h : hi < l' ∨ h' < lo) :
    (d.setDF n w h' l' v).dF n w hi lo = d.dF n w hi lo := Dev.rdF_wrF_other _ _ (.inr h)

theorem Dev.rd_setDF_other (d : Dev) {n w hi lo a : Nat} (v : Nat) (h : a ≠ descAddr n w) : (d.setDF n w hi lo v).rd a = d.rd a :=
  Dev.rd_wrF_other _ _ _ _ h

/-- Another word of a descriptor. -/
theorem Dev.dF_setDF_word (d : Dev) (n m v : Nat) {w x hi lo h' l' : Nat} (h : x ≠ w) (hx : x < 16) (hw : w < 16) :
    (d.setDF n w h' l' v).dF m x hi lo = d.dF m x hi lo :=
  Dev.rdF_wrF_other _ _ (.inl fun he => h ((descAddr_inj hx hw).1 he).2)

/-- Another stream. -/
theorem Dev.dF_setDF_stream (d : Dev) (v : Nat) {n m w x hi lo h' l' : Nat} (h : m ≠ n) (hx : x < 16) (hw : w < 16) :
    (d.setDF n w h' l' v).dF m x hi lo = d.dF m x hi lo :=
  Dev.rdF_wrF_other _ _ (.inl fun he => h ((descAddr_inj hx hw).1 he).1)

/-- The registers of the pages lie below the descriptors. -/
theorem Dev.rd_setDF_low (d : Dev) (n w hi lo v : Nat) {a : Nat} (h : a < 0x100000) : (d.setDF n w hi lo v).rd a = d.rd a :=
  Dev.rd_setDF_other d v (by unfold descAddr; omega)

theorem Dev.rdF_setDF_low (d : Dev) (n w h' l' v : Nat) {a hi lo : Nat} (h : a < 0x100000) :
    (d.setDF n w h' l' v).rdF a hi lo = d.rdF a hi lo := by rw [Dev.rdF, Dev.rd_setDF_low d _ _ _ _ _ h]; rfl

theorem Dev.dF_wr_low (d : Dev) (v : Word) (n w hi lo : Nat) {a : Nat} (h : a < 0x100000) : (d.wr a v).dF n w hi lo = d.dF n w hi lo := by
  unfold Dev.dF Dev.rdF
  rw [Dev.rd_wr_other _ _ (by unfold descAddr; omega)]

@[simp] theorem Dev.dF_modStrm (d : Dev) (f : StreamSt → StreamSt) (n w hi lo : Nat) : (d.modStrm f).dF n w hi lo = d.dF n w hi lo := rfl

@[simp] theorem Dev.rd_modStrm (d : Dev) (f : StreamSt → StreamSt) (a : Nat) : (d.modStrm f).rd a = d.rd a := rfl

theorem credits16_setDF (d : Dev) (n m v : Nat) {w hi lo : Nat} (h : 8 ≠ w) (hw : w < 16) : credits16 (d.setDF n w hi lo v) m = credits16 d m :=
  Dev.dF_setDF_word d n m v h (by decide) hw

theorem strmRing_setDF (d : Dev) (n m v : Nat) {w hi lo : Nat} (h : 9 ≠ w) (hw : w < 16) : strmRing (d.setDF n w hi lo v) m = strmRing d m :=
  Dev.dF_setDF_word d n m v h (by decide) hw

theorem dlEn_setDF (d : Dev) (n m v : Nat) {w hi lo : Nat} (h : 0 ≠ w) (hw : w < 16) : dlEn (d.setDF n w hi lo v) m = dlEn d m :=
  congrArg (· == 1) (Dev.dF_setDF_word d n m v h (by decide) hw)

theorem strmRing_lt (d : Dev) (n : Nat) : strmRing d n < 64 := fld_lt _ 21 16

/-- A ring is what its registers say. -/
theorem ring_congr {d e : Dev} (h : ∀ a, a < 0x100000 → e.rd a = d.rd a) {r : Nat} (hr : r < 64) : ring e r = ring d r := by
  unfold ring
  rw [h (STRM_RING_CFG r) (by unfold STRM_RING_CFG; omega), h (STRM_RING_BASE_LO r) (by unfold STRM_RING_BASE_LO; omega),
    h (STRM_RING_PROD r) (by unfold STRM_RING_PROD; omega), h (STRM_RING_CONS r) (by unfold STRM_RING_CONS; omega)]

theorem ring_setDF (d : Dev) (n w hi lo v : Nat) {r : Nat} (hr : r < 64) : ring (d.setDF n w hi lo v) r = ring d r :=
  ring_congr (fun _ => Dev.rd_setDF_low d n w hi lo v) hr

theorem setDF_onlyRegs (d : Dev) (n w hi lo v : Nat) : OnlyRegs [descAddr n w] d (d.setDF n w hi lo v) := onlyRegs_wr d _ _

/-! ### States (R318, R321) -/

/-- States apart that clear something of the stream's, a stream enters a state by its number alone. -/
theorem setStrm_plain {st : Nat} (n : Nat) (d : Dev) (hf : st ≠ sFree) (hp : st ≠ sPaused) (hx : st ≠ sFaulted) :
    setStrm n st d = d.setDF n 0 3 0 st := by
  unfold setStrm
  simp only [hf, hp, hx, false_and, or_self, if_false]

theorem setStrm_paused (n : Nat) (d : Dev) : setStrm n sPaused d = (d.setDF n 0 3 0 sPaused).setDF n 0 19 19 0 := rfl

theorem toWork_eq (n : Nat) (d : Dev) : toWork n d = d.setDF n 0 3 0 (if hasWork d n then sReady else sWaiting) := by
  unfold toWork
  split <;> exact setStrm_plain n d (by decide) (by decide) (by decide)

theorem mem_of_kvGet? {α : Type} {m : KV α} {a : Nat} {x : α} (h : kvGet? m a = some x) : (a, x) ∈ m := by
  induction m with
  | nil => cases h
  | cons e t ih =>
    obtain ⟨k, v⟩ := e
    simp only [kvGet?] at h
    split at h
    · next hk =>
      cases h
      subst hk
      exact List.mem_cons_self ..
    · exact List.mem_cons_of_mem _ (ih h)

/-- A stream that is not FREE is listed (R318). -/
theorem mem_openStreams {d : Dev} {m : Nat} (hm : m < 16384) (h : d.strmSt m ≠ 0) : m ∈ openStreams d := by
  have hpage : pageOf (descAddr m 0) = none := by
    unfold pageOf descAddr
    rw [if_neg (by omega), if_neg (by omega), if_neg (by omega), if_neg (by omega), if_pos (by omega)]
  have hreset : regReset (descAddr m 0) = w32 0x40000 := by
    unfold regReset
    rw [hpage]
    exact if_pos (by unfold descAddr; omega)
  obtain ⟨w, hw⟩ : ∃ w, kvGet? d.regs (descAddr m 0) = some w := by
    by_contra hnone
    rw [← Option.ne_none_iff_exists', not_not] at hnone
    refine h ?_
    rw [Dev.strmSt, Dev.dF, Dev.rdF, Dev.rd, hnone, Option.getD_none, hreset]
    decide
  have hst : fld w 3 0 ≠ 0 := by
    rw [Dev.strmSt, Dev.dF, Dev.rdF, Dev.rd, hw] at h
    exact h
  refine List.mem_filterMap.2 ⟨(descAddr m 0, w), mem_of_kvGet? hw, ?_⟩
  rw [if_pos (by unfold descAddr; exact ⟨by omega, by omega, by omega, hst⟩)]
  exact congrArg some (by unfold descAddr; omega)

theorem lt_of_mem_openStreams {d : Dev} {m : Nat} (h : m ∈ openStreams d) : m < 16384 := by
  obtain ⟨e, -, he⟩ := List.mem_filterMap.1 h
  split at he
  · cases he
    omega
  · cases he

/-! ### Work, and what it wakes (R321, R328, R329) -/

/-- Only the states of streams may differ: bits [3:0] of the first words of descriptors. -/
def StatesOnly (d e : Dev) : Prop :=
  RegsOnly d e ∧ (∀ a, (∀ m, m < 16384 → a ≠ descAddr m 0) → e.rd a = d.rd a) ∧
    ∀ m, m < 16384 → ∀ hi lo, 3 < lo → e.dF m 0 hi lo = d.dF m 0 hi lo

theorem StatesOnly.refl (d : Dev) : StatesOnly d d := ⟨rfl, fun _ _ => rfl, fun _ _ _ _ _ => rfl⟩

theorem StatesOnly.trans {a b c : Dev} (h : StatesOnly a b) (g : StatesOnly b c) : StatesOnly a c := by
  obtain ⟨h1, h2, h3⟩ := h
  obtain ⟨g1, g2, g3⟩ := g
  exact ⟨h1.trans g1, fun x hx => (g2 x hx).trans (h2 x hx), fun m hm hi lo hlo => (g3 m hm hi lo hlo).trans (h3 m hm hi lo hlo)⟩

theorem statesOnly_setDF {n : Nat} (hn : n < 16384) (v : Nat) (d : Dev) : StatesOnly d (d.setDF n 0 3 0 v) := by
  refine ⟨rfl, fun a ha => Dev.rd_setDF_other d v (ha n hn), fun m _ hi lo hlo => ?_⟩
  exact Dev.rdF_wrF_other _ _ (.inr (.inr hlo))

theorem StatesOnly.rd_low {d e : Dev} (h : StatesOnly d e) {a : Nat} (ha : a < 0x100000) : e.rd a = d.rd a :=
  h.2.1 a fun m _ => by unfold descAddr; omega

theorem StatesOnly.dF_word {d e : Dev} (h : StatesOnly d e) (n : Nat) {x : Nat} (hi lo : Nat) (h0 : x ≠ 0) (hx : x < 16) :
    e.dF n x hi lo = d.dF n x hi lo :=
  congrArg (fld · hi lo) (h.2.1 _ fun _ _ he => h0 ((descAddr_inj hx (by omega)).1 he).2)

/-- The work of a stream depends on no state. -/
theorem StatesOnly.hasWork {d e : Dev} (h : StatesOnly d e) {m : Nat} (hm : m < 16384) : hasWork e m = hasWork d m := by
  have hsame : strmRing e m = strmRing d m := h.dF_word m _ _ (by decide) (by decide)
  have hentries : entries e m = entries d m := by
    unfold entries ringEn dlEn
    rw [h.2.2 m hm _ _ (by decide), h.2.2 m hm _ _ (by decide), h.dF_word m _ _ (by decide) (by decide), hsame,
      ring_congr (fun _ => h.rd_low) (strmRing_lt d m)]
  unfold Machine.hasWork
  rw [hentries, show credits16 e m = credits16 d m from h.dF_word m _ _ (by decide) (by decide)]

/-- A WAITING stream with work becomes READY. -/
def wakeOne (d : Dev) (n : Nat) : Dev := if d.strmSt n = sWaiting && hasWork d n then setStrm n sReady d else d

theorem wakeOne_of_work {d : Dev} {n : Nat} (h : d.strmSt n = sWaiting ∧ hasWork d n = true) : wakeOne d n = d.setDF n 0 3 0 sReady := by
  rw [wakeOne, if_pos (by simpa using h), setStrm_plain n d (by decide) (by decide) (by decide)]

theorem wakeOne_of_none {d : Dev} {n : Nat} (h : ¬(d.strmSt n = sWaiting ∧ hasWork d n = true)) : wakeOne d n = d := by
  rw [wakeOne, if_neg (by simpa using h)]

theorem wakeOne_statesOnly {n : Nat} (hn : n < 16384) (d : Dev) : StatesOnly d (wakeOne d n) := by
  by_cases h : d.strmSt n = sWaiting ∧ hasWork d n = true
  · rw [wakeOne_of_work h]
    exact statesOnly_setDF hn _ d
  · rw [wakeOne_of_none h]
    exact .refl d

theorem wakeOne_strmSt (d : Dev) (n m : Nat) :
    (wakeOne d n).strmSt m = if m = n ∧ d.strmSt m = sWaiting ∧ hasWork d m = true then sReady else d.strmSt m := by
  by_cases h : d.strmSt n = sWaiting ∧ hasWork d n = true
  · rw [wakeOne_of_work h]
    by_cases hmn : m = n
    · subst hmn
      rw [if_pos ⟨rfl, h⟩]
      exact Dev.dF_setDF_same d _ _ _ (by decide)
    · rw [if_neg fun hc => hmn hc.1]
      exact Dev.dF_setDF_stream d _ hmn (by decide) (by decide)
  · rw [wakeOne_of_none h, if_neg]
    rintro ⟨rfl, hc⟩
    exact h hc

theorem wakeOne_foldl {l : List Nat} (hl : ∀ n ∈ l, n < 16384) (d : Dev) : StatesOnly d (l.foldl wakeOne d) ∧
    ∀ m, m < 16384 → (l.foldl wakeOne d).strmSt m = if m ∈ l ∧ d.strmSt m = sWaiting ∧ hasWork d m = true then sReady else d.strmSt m := by
  induction l generalizing d with
  | nil => exact ⟨.refl d, fun m _ => (if_neg fun hc => absurd hc.1 (List.not_mem_nil)).symm⟩
  | cons n t ih =>
    have hone := wakeOne_statesOnly (hl n (List.mem_cons_self ..)) d
    obtain ⟨hstates, hst⟩ := ih (fun k hk => hl k (List.mem_cons_of_mem _ hk)) (wakeOne d n)
    refine ⟨hone.trans hstates, fun m hm => (hst m hm).trans ?_⟩
    rw [hone.hasWork hm, wakeOne_strmSt]
    by_cases hw : d.strmSt m = sWaiting ∧ hasWork d m = true
    · obtain ⟨hwaits, hwork⟩ := hw
      rcases eq_or_ne m n with rfl | hmn
      · simp [hwaits, hwork, sReady]
      · simp [hmn, hwaits, hwork]
    · simp [hw]

theorem wake_statesOnly (d : Dev) : StatesOnly d (wake d) := (wakeOne_foldl (fun _ => lt_of_mem_openStreams) d).1

/-- Work wakes every WAITING stream that has some (R321). -/
theorem wake_strmSt (d : Dev) {m : Nat} (hm : m < 16384) :
    (wake d).strmSt m = if d.strmSt m = 1 ∧ hasWork (wake d) m = true then 2 else d.strmSt m := by
  rw [(wake_statesOnly d).hasWork hm]
  refine ((wakeOne_foldl (fun _ => lt_of_mem_openStreams) d).2 m hm).trans (if_congr ?_ rfl rfl)
  refine ⟨fun hc => hc.2, fun hc => ⟨mem_openStreams hm ?_, hc⟩⟩
  rw [hc.1]
  decide

end Sys2Proof.Machine

/-! PROOF. Stream commands: the checks of STRM.CMD, what a rejection shows, and what each command does
(08_streams_context.md R319, R320, R328, R343, R359). -/

namespace Sys2Proof.Machine

/-! ### The checks of a command (R319, R320) -/

theorem strmChecked_pass {n word src off agent : Nat} {cs : List Check} {f : Dev → Dev} {d : Dev} (h : firstFail cs = none) :
    strmChecked n word src off agent cs f d = f d := by
  rw [strmChecked, h]

theorem strmChecked_fail {n word src off agent : Nat} {cs : List Check} {f : Dev → Dev} {d : Dev} {c : ErrCode} (h : firstFail cs = some c) :
    strmChecked n word src off agent cs f d = strmReject n word src off agent c d := by
  rw [strmChecked, h]

/-- A rejection on the STRM page notes itself in the error registers and in REJ_INFO. -/
theorem strmReject_spec (n word src off agent : Nat) (c : ErrCode) (d : Dev) :
    (strmReject n word src off agent c d).strm = d.strm ∧ RegsKeep (STRM_REJ_INFO :: errRegs .strm) d (strmReject n word src off agent c d) := by
  have hkeep : RegsKeep (STRM_REJ_INFO :: errRegs .strm) d (d.reject .strm off agent c) :=
    (Dev.reject_regs d .strm off agent c).mono (List.subset_cons_self ..)
  have hstrm : (d.reject .strm off agent c).strm = d.strm := by rw [Dev.reject_only]
  unfold strmReject
  dsimp only
  split
  · exact ⟨hstrm, hkeep⟩
  · refine ⟨(Dev.wrN_strm _ _ _).trans hstrm, hkeep.trans (RegsKeep.mono (l := [STRM_REJ_INFO]) ?_ (by simp))⟩
    exact regsKeep_wr _ _ _

/-- The word of a command names its stream, its OP and its argument (R319). -/
theorem cmdWord_fields {n op arg : Nat} (hn : n < 16384) (hop : op < 16) (harg : arg < 16384) :
    fld (cmdWord n op arg) 13 0 = n ∧ fld (cmdWord n op arg) 17 14 = op ∧ fld (cmdWord n op arg) 31 18 = arg := by
  unfold cmdWord
  rw [fld_w32 _ (by omega), fld_w32 _ (by omega), fld_w32 _ (by omega)]
  omega

/-- A command of an agent that may write the page, in a device that is up, with no OPEN in progress: its own checks decide. -/
theorem strmCmd_eq {agent n op arg : Nat} {d : Dev} (hn : n < 16384) (hop : op < 16) (harg : arg < 16384)
    (hm : d.mayWrite agent .strm = true) (hu : d.up = true) (ho : d.strm.opening = none) :
    strmCmd agent (cmdWord n op arg) d = strmChecked n 0 0 0x104 agent (opChecks d n op arg) (opEffect n op arg) d := by
  obtain ⟨h1, h2, h3⟩ := cmdWord_fields hn hop harg
  have hpass : ∀ e ∈ [(ErrCode.privilege, !d.mayWrite agent .strm), (.state, !d.up), (.busy, d.strm.opening.isSome)], e.2 = false := by
    simp [hm, hu, ho]
  rw [strmCmd, h1, h2, h3]
  simp only [strmChecked, firstFail_append_of_pass hpass]

/-! ### A stream becomes FREE (R319) -/

/-- The stream manager without what a stream has pending. -/
def StreamSt.forget (n : Nat) (s : StreamSt) : StreamSt :=
  { s with
    replay := kvDel s.replay n, deadlines := setDel s.deadlines n, missed := setDel s.missed n
    rollbackNext := setDel s.rollbackNext n, ingestWait := kvDel s.ingestWait n, parked := kvDel s.parked n }

/-- The word 0 of a stream that becomes FREE: nothing is pending. -/
def descFreed (n : Nat) (d : Dev) : Dev := ((d.setDF n 0 3 0 sFree).setDF n 0 19 19 0).setDF n 0 20 20 0

theorem descFreed_onlyRegs (n : Nat) (d : Dev) : OnlyRegs [descAddr n 0] d (descFreed n d) :=
  ((setDF_onlyRegs d n 0 3 0 _).trans (setDF_onlyRegs _ n 0 19 19 _)).trans (setDF_onlyRegs _ n 0 20 20 _)

theorem descFreed_fields (n : Nat) (d : Dev) :
    (descFreed n d).strmSt n = 0 ∧ replayPend (descFreed n d) n = false ∧ pausePend (descFreed n d) n = false := by
  unfold descFreed Dev.strmSt replayPend pausePend
  refine ⟨?_, ?_, ?_⟩
  · rw [Dev.dF_setDF_field _ _ _ _ (by decide), Dev.dF_setDF_field _ _ _ _ (by decide), Dev.dF_setDF_same _ _ _ _ (by decide)]
    rfl
  · rw [Dev.dF_setDF_same _ _ _ _ (by decide)]
    rfl
  · rw [Dev.dF_setDF_field _ _ _ _ (by decide), Dev.dF_setDF_same _ _ _ _ (by decide)]
    rfl

/-- A stream that becomes FREE forgets what it has pending, and of a twin's map its own bit is cleared. -/
theorem setStrm_free (n : Nat) (d : Dev) : ∃ p : PeerSt, setStrm n sFree d =
    let e : Dev := { descFreed n d with strm := d.strm.forget n, peer := p }
    if inCmpRange d n then setMapBit TWIN_LAPSED n false e else e := by
  have hrange : inCmpRange (descFreed n d) n = inCmpRange d n := by
    unfold inCmpRange cmpFirst Dev.rdF
    rw [(descFreed_onlyRegs n d).2 _ (by simp only [List.mem_singleton, TWIN_CMP_RANGE, descAddr]; omega)]
  rw [← hrange]
  unfold setStrm
  simp only [or_true, if_true, show sFree ≠ sFaulted by decide, false_and, if_false]
  exact ⟨_, rfl⟩

theorem setMapBit_onlyRegs {n : Nat} {d : Dev} (reg : Nat → Nat) (b : Bool) (h : inCmpRange d n = true) :
    OnlyRegs [reg 0, reg 1] d (setMapBit reg n b d) := by
  have hspan : d.rdF TWIN_CMP_RANGE 21 16 < 64 := fld_lt _ 21 16
  have hrange : cmpFirst d ≤ n ∧ n ≤ cmpFirst d + d.rdF TWIN_CMP_RANGE 21 16 := by simpa [inCmpRange] using h
  have hword : (n - cmpFirst d) / 32 = 0 ∨ (n - cmpFirst d) / 32 = 1 := by omega
  refine (onlyRegs_wr d _ _).mono ?_
  rcases hword with h0 | h1
  · rw [h0]
    simp
  · rw [h1]
    simp

/-- What a stream that becomes FREE changes: its word 0, what it had pending, and its bit of a twin's map. -/
theorem setStrm_free_spec (n : Nat) (d : Dev) :
    let e := setStrm n sFree d
    e = { d with regs := e.regs, strm := d.strm.forget n, peer := e.peer } ∧ e.rd (descAddr n 0) = (descFreed n d).rd (descAddr n 0) ∧
      RegsKeep [descAddr n 0, TWIN_LAPSED 0, TWIN_LAPSED 1] d e ∧ (inCmpRange d n = false → RegsKeep [descAddr n 0] d e) := by
  obtain ⟨p, he⟩ := setStrm_free n d
  obtain ⟨honly, hkeep⟩ := descFreed_onlyRegs n d
  dsimp only at he ⊢
  rw [he]
  cases hrange : inCmpRange d n with
  | false =>
    rw [if_neg Bool.noConfusion]
    exact ⟨by rw [honly], rfl, RegsKeep.mono hkeep (by simp), fun _ => hkeep⟩
  | true =>
    rw [if_pos rfl]
    obtain ⟨hmonly, hmkeep⟩ := setMapBit_onlyRegs (n := n) (d := { descFreed n d with strm := d.strm.forget n, peer := p }) TWIN_LAPSED false (by
      refine (?_ : _ = inCmpRange d n).trans hrange
      unfold inCmpRange cmpFirst Dev.rdF
      exact congrArg (fun w => decide (fld w 13 0 ≤ n ∧ n ≤ fld w 13 0 + fld w 21 16))
        (hkeep _ (by simp only [List.mem_singleton, TWIN_CMP_RANGE, descAddr]; omega)))
    refine ⟨?_, ?_, fun a ha => ?_, fun hf => absurd hf Bool.noConfusion⟩
    · rw [hmonly, honly]
    · exact hmkeep _ (by simp only [List.mem_cons, List.not_mem_nil, or_false, TWIN_LAPSED, descAddr]; omega)
    · simp only [List.mem_cons, List.not_mem_nil, or_false, not_or] at ha
      obtain ⟨h0, h1, h2⟩ := ha
      exact (hmkeep a (by simp [h1, h2])).trans (hkeep a (by simp [h0]))

/-! ### PAUSE (R319) -/

theorem strmPause_of_running {n : Nat} {d : Dev} (h : d.strmSt n = 3) : strmPause n d = d.setDF n 0 19 19 1 := if_pos h

theorem strmPause_of_waiting {n : Nat} {d : Dev} (h : d.strmSt n = 1 ∨ d.strmSt n = 2) : strmPause n d = setStrm n sPaused d := by
  have hne : d.strmSt n ≠ sRunning := by
    rcases h with h | h <;> rw [h] <;> decide
  exact (if_neg hne).trans (if_pos h)

theorem strmPause_of_other {n : Nat} {d : Dev} (h3 : d.strmSt n ≠ 3) (h12 : ¬(d.strmSt n = 1 ∨ d.strmSt n = 2)) : strmPause n d = d :=
  (if_neg h3).trans (if_neg h12)

theorem setStrm_paused_onlyRegs (n : Nat) (d : Dev) : OnlyRegs [descAddr n 0] d (setStrm n sPaused d) := by
  rw [setStrm_paused]
  exact (setDF_onlyRegs d n 0 3 0 _).trans (setDF_onlyRegs _ n 0 19 19 _)

theorem setStrm_paused_fields (n : Nat) (d : Dev) : (setStrm n sPaused d).strmSt n = 4 ∧ pausePend (setStrm n sPaused d) n = false ∧
    replayPend (setStrm n sPaused d) n = replayPend d n := by
  rw [setStrm_paused]
  unfold Dev.strmSt pausePend replayPend
  refine ⟨?_, ?_, ?_⟩
  · rw [Dev.dF_setDF_field _ _ _ _ (by decide), Dev.dF_setDF_same _ _ _ _ (by decide)]
    rfl
  · rw [Dev.dF_setDF_same _ _ _ _ (by decide)]
    rfl
  · rw [Dev.dF_setDF_field _ _ _ _ (by decide), Dev.dF_setDF_field _ _ _ _ (by decide)]

theorem strmPause_onlyRegs (n : Nat) (d : Dev) : OnlyRegs [descAddr n 0] d (strmPause n d) := by
  unfold strmPause
  dsimp only
  split
  · exact setDF_onlyRegs d n 0 19 19 1
  · split
    · exact setStrm_paused_onlyRegs n d
    · exact ⟨rfl, .refl _ d⟩

/-- A RUNNING stream keeps its state and is to pause. -/
theorem strmPause_running_fields {n : Nat} {d : Dev} (h : d.strmSt n = 3) : (strmPause n d).strmSt n = 3 ∧ pausePend (strmPause n d) n = true := by
  rw [strmPause_of_running h]
  refine ⟨(Dev.dF_setDF_field _ _ _ _ (by decide)).trans h, ?_⟩
  rw [pausePend, Dev.dF_setDF_same _ _ _ _ (by decide)]
  rfl

/-! ### The other commands -/

/-- OPEN raises GEN, clears ATTEMPT and starts the initialisation (R319). -/
theorem open_spec {n : Nat} {d : Dev} (hst : d.strmSt n = 0) :
    let e := opEffect n 1 0 d
    e.strm = { d.strm with opening := some n } ∧ e.dF n 0 31 24 = (d.dF n 0 31 24 + 1) % 256 ∧ strmAttempt e n = 0 ∧
      bitOf (e.rd (Page.strm.base + 0xC)) 4 = true ∧ e.strmSt n = 0 ∧
      RegsKeep [descAddr n 0, descAddr n 7, Page.strm.base + 0xC] d e ∧ e = { d with regs := e.regs, strm := e.strm } := by
  intro e
  have hbase : Page.strm.base + 0xC < 0x100000 := by decide
  refine ⟨rfl, ?_, ?_, ?_, ?_, ?_, rfl⟩
  · refine (Dev.dF_wr_low _ _ _ _ _ _ hbase).trans ?_
    rw [Dev.dF_modStrm, Dev.dF_setDF_word _ _ _ _ (by decide) (by decide) (by decide)]
    exact Dev.dF_setDF_same _ _ _ _ (by decide)
  · exact (Dev.dF_wr_low _ _ _ _ _ _ hbase).trans (Dev.dF_setDF_same _ _ _ _ (by decide))
  · show bitOf ((strmBusy true _).rd _) 4 = true
    rw [strmBusy, Dev.rd_wrF_same, bitOf_setFld_inside _ _ (Nat.le_refl 4) (Nat.le_refl 4) (by decide)]
    rfl
  · refine (Dev.dF_wr_low _ _ _ _ _ _ hbase).trans ?_
    rw [Dev.dF_modStrm, Dev.dF_setDF_word _ _ _ _ (by decide) (by decide) (by decide), Dev.dF_setDF_field _ _ _ _ (by decide)]
    exact hst
  · have hgen := (setDF_onlyRegs d n 0 31 24 (d.dF n 0 31 24 + 1)).2
    have hattempt := (setDF_onlyRegs (d.setDF n 0 31 24 (d.dF n 0 31 24 + 1)) n 7 23 16 0).2
    exact ((hgen.mono (by simp)).trans (hattempt.mono (by simp))).trans (RegsKeep.mono (l := [Page.strm.base + 0xC]) (regsKeep_wr _ _ _) (by simp))

/-- CLOSE of a RUNNING stream with a beat in flight (R319). -/
theorem closing_spec {n : Nat} {d : Dev} (hst : d.strmSt n = 3) (hf : inFlight d n = true) :
    let e := opEffect n 2 0 d
    e.strmSt n = 5 ∧ replayPend e n = false ∧ OnlyRegs [descAddr n 0] d e := by
  have he : opEffect n 2 0 d = (d.setDF n 0 20 20 0).setDF n 0 3 0 sClosing := by
    refine (if_pos (by rw [hst, hf]; rfl)).trans ?_
    exact setStrm_plain n _ (by decide) (by decide) (by decide)
  rw [he]
  refine ⟨Dev.dF_setDF_same _ _ _ _ (by decide), ?_, (setDF_onlyRegs d n 0 20 20 0).trans (setDF_onlyRegs _ n 0 3 0 _)⟩
  rw [replayPend, Dev.dF_setDF_field _ _ _ _ (by decide), Dev.dF_setDF_same _ _ _ _ (by decide)]
  rfl

/-- CLOSE of any other stream: its beats in flight end without effect on it (R319). -/
theorem close_of_not_flight {n : Nat} {d : Dev} (h : ¬(d.strmSt n = 3 ∧ inFlight d n = true)) :
    opEffect n 2 0 d = setStrm n sFree (d.modStrm fun s => { s with
      beats := s.beats.map fun b => if b.stream = n ∧ !b.refill then { b with orphan := true } else b }) :=
  if_neg fun hc => h ((Bool.and_eq_true _ _).mp hc |>.imp_left of_decide_eq_true)

theorem closed_spec {n : Nat} {d : Dev} (h : ¬(d.strmSt n = 3 ∧ inFlight d n = true)) :
    let e := opEffect n 2 0 d
    e.strmSt n = 0 ∧ replayPend e n = false ∧ pausePend e n = false ∧ kvGet? e.strm.replay n = none ∧ n ∉ e.strm.deadlines ∧
      n ∉ e.strm.missed ∧ n ∉ e.strm.rollbackNext ∧ kvGet? e.strm.parked n = none ∧
      e.strm.beats.map (fun b => { b with orphan := false }) = d.strm.beats.map (fun b => { b with orphan := false }) ∧
      (∀ m, m < 16384 → m ≠ n → e.strmSt m = d.strmSt m) ∧ (inCmpRange d n = false → RegsKeep [descAddr n 0] d e) ∧
      e = { d with regs := e.regs, strm := e.strm, peer := e.peer } := by
  rw [close_of_not_flight h]
  obtain ⟨honly, hword, hkeep, hrange⟩ := setStrm_free_spec n (d.modStrm fun s => { s with
    beats := s.beats.map fun b => if b.stream = n ∧ !b.refill then { b with orphan := true } else b })
  generalize setStrm n sFree _ = e at honly hword hkeep hrange
  obtain ⟨hst, hreplay, hpause⟩ := descFreed_fields n (d.modStrm fun s => { s with
    beats := s.beats.map fun b => if b.stream = n ∧ !b.refill then { b with orphan := true } else b })
  have hfield : ∀ hi lo, e.dF n 0 hi lo = (descFreed n (d.modStrm _)).dF n 0 hi lo := fun hi lo => congrArg (fld · hi lo) hword
  have hstrm := congrArg Dev.strm honly
  refine ⟨(hfield _ _).trans hst, ?_, ?_, ?_, ?_, ?_, ?_, ?_, ?_, fun m _ hm => ?_, hrange, by rw [honly]; rfl⟩
  · rw [replayPend, hfield]
    exact hreplay
  · rw [pausePend, hfield]
    exact hpause
  · rw [hstrm]
    exact kvGet?_del_same _ n
  · rw [hstrm]
    exact fun hc => ((mem_setDel _ n n).1 hc).2 rfl
  · rw [hstrm]
    exact fun hc => ((mem_setDel _ n n).1 hc).2 rfl
  · rw [hstrm]
    exact fun hc => ((mem_setDel _ n n).1 hc).2 rfl
  · rw [hstrm]
    exact kvGet?_del_same _ n
  · rw [hstrm]
    refine (List.map_map ..).trans (List.map_congr_left fun b _ => ?_)
    dsimp only [Function.comp]
    split <;> rfl
  · refine congrArg (fld · 3 0) (hkeep (descAddr m 0) ?_)
    simp only [List.mem_cons, List.not_mem_nil, or_false, TWIN_LAPSED, descAddr]
    omega

/-- RESUME of a PAUSED stream (R319). -/
theorem resume_spec (n : Nat) (d : Dev) :
    let e := opEffect n 4 0 d
    e.strmSt n = (if replayPend d n then 3 else if hasWork d n then 2 else 1) ∧ OnlyRegs [descAddr n 0] d e := by
  have he : opEffect n 4 0 d = d.setDF n 0 3 0 (if replayPend d n then 3 else if hasWork d n then 2 else 1) := by
    refine (?_ : opEffect n 4 0 d = if replayPend d n then setStrm n sRunning d else toWork n d).trans ?_
    · rfl
    · split
      · exact setStrm_plain n d (by decide) (by decide) (by decide)
      · exact toWork_eq n d
  rw [he]
  refine ⟨(Dev.dF_setDF_same _ _ _ _ (by decide)).trans (Nat.mod_eq_of_lt ?_), setDF_onlyRegs d n 0 3 0 _⟩
  split_ifs <;> decide

/-- CLEAR of a FAULTED stream (R319, R343). -/
theorem clear_spec (n : Nat) (d : Dev) :
    let e := opEffect n 7 0 d
    e.strmSt n = 4 ∧ replayPend e n = true ∧ strmAttempt e n = 0 ∧ pausePend e n = false ∧ OnlyRegs [descAddr n 0, descAddr n 7] d e := by
  show let e := setStrm n sPaused ((d.setDF n 0 20 20 1).setDF n 7 23 16 0); _
  intro e
  obtain ⟨hst, hpause, hreplay⟩ := setStrm_paused_fields n ((d.setDF n 0 20 20 1).setDF n 7 23 16 0)
  refine ⟨hst, hreplay.trans ?_, ?_, hpause, ?_⟩
  · rw [replayPend, Dev.dF_setDF_word _ _ _ _ (by decide) (by decide) (by decide), Dev.dF_setDF_same _ _ _ _ (by decide)]
    rfl
  · show (setStrm n sPaused _).dF n 7 23 16 = 0
    rw [setStrm_paused, Dev.dF_setDF_word _ _ _ _ (by decide) (by decide) (by decide),
      Dev.dF_setDF_word _ _ _ _ (by decide) (by decide) (by decide)]
    exact Dev.dF_setDF_same _ _ _ _ (by decide)
  · exact (((setDF_onlyRegs d n 0 20 20 1).mono (by simp)).trans ((setDF_onlyRegs _ n 7 23 16 0).mono (by simp))).trans
      ((setStrm_paused_onlyRegs n _).mono (by simp))

/-! ### Credits and releases (R319, R328) -/

/-- Every WAITING stream that has work afterwards has become READY; the states of the others are as they were. -/
def Woken (d e : Dev) : Prop := ∀ m, m < 16384 → e.strmSt m = if d.strmSt m = 1 ∧ hasWork e m = true then 2 else d.strmSt m

/-- Work that comes with no state of a stream changed. -/
theorem woken_wake {d e : Dev} (h : ∀ m, e.strmSt m = d.strmSt m) : Woken d (wake e) := fun m hm => by
  rw [wake_strmSt e hm, h]

theorem credit_spec {n arg : Nat} {d : Dev} (hc : credits16 d n + arg ≤ 65535) :
    let e := opEffect n 5 arg d
    credits16 e n = credits16 d n + arg ∧ Woken d e ∧ RegsOnly d e ∧
      ∀ a, a ≠ descAddr n 8 → (∀ m, m < 16384 → a ≠ descAddr m 0) → e.rd a = d.rd a := by
  show let e := wake (d.setDF n 8 15 0 (credits16 d n + arg)); _
  intro e
  have hwake := wake_statesOnly (d.setDF n 8 15 0 (credits16 d n + arg))
  obtain ⟨honly, hkeep⟩ := setDF_onlyRegs d n 8 15 0 (credits16 d n + arg)
  refine ⟨?_, woken_wake fun m => Dev.dF_setDF_word _ _ _ _ (by decide) (by decide) (by decide), honly.trans hwake.1, fun a h8 h0 => ?_⟩
  · refine (hwake.dF_word n _ _ (by decide) (by decide)).trans ((Dev.dF_setDF_same _ _ _ _ (by decide)).trans (Nat.mod_eq_of_lt ?_))
    omega
  · exact (hwake.2.1 a h0).trans (hkeep a (by simpa using h8))

end Sys2Proof.Machine

/-! PROOF. A release outside a twin and a herd, and the statement about stream commands (08_streams_context.md R319, R328,
14_channels_twin_herd.md R535). -/

namespace Sys2Proof.Machine

/-- What a release stores before work wakes streams: its frame, its deadline's frame, its credits and its limit (R328). -/
def strmReleased (n : Nat) (d : Dev) : Dev :=
  ((((d.setDF n 13 31 0 d.frame).setDF n 15 31 0 (d.frame + d.dF n 1 7 0)).setDF n 8 15 0 (min 65535 (credits16 d n + d.dF n 9 15 0))).modStrm
    fun s => { s with missed := setDel s.missed n, deadlines := if dlEn d n then setIns s.deadlines n else setDel s.deadlines n }).setDF
      n 14 31 0 (d.rd (STRM_RING_PROD (strmRing d n))).toNat

theorem compared_congr {d e : Dev} (h : ∀ a, a < 0x100000 → e.rd a = d.rd a) (n : Nat) : compared e n = compared d n := by
  unfold compared twinEn inCmpRange cmpFirst Dev.rdF
  rw [h TWIN_CFG (by decide), h TWIN_CMP_RANGE (by decide)]

theorem isMember_congr {d e : Dev} (h : ∀ a, a < 0x100000 → e.rd a = d.rd a) : isMember e = isMember d := by
  unfold isMember herdSt Dev.rdF
  rw [h HERD_STATE (by decide)]

/-- Nothing of the release waits for other modules: the limit is the producer's index at once. -/
theorem strmReleaseNow_alone {n : Nat} {d : Dev} (hc : compared d n = false) (hm : isMember d = false) (hr : kvGet? d.peer.rebuild n = none) :
    strmReleaseNow n d = wake (strmReleased n d) := by
  have hlow : ∀ (e : Dev) (v w x : Nat) (f : StreamSt → StreamSt), let g := (((e.setDF n 13 31 0 v).setDF n 15 31 0 w).setDF n 8 15 0 x).modStrm f
      ∀ a, a < 0x100000 → g.rd a = e.rd a := fun e v w x f a ha => by
    rw [Dev.rd_modStrm, Dev.rd_setDF_low _ _ _ _ _ _ ha, Dev.rd_setDF_low _ _ _ _ _ _ ha, Dev.rd_setDF_low _ _ _ _ _ _ ha]
  unfold strmReleaseNow
  dsimp only
  rw [show kvGet? (((d.setDF n 13 31 0 _).setDF n 15 31 0 _).setDF n 8 15 0 _).peer.rebuild n = none from hr]
  dsimp only
  rw [compared_congr (hlow d _ _ _ _), isMember_congr (hlow d _ _ _ _), hc, hm,
    Bool.false_and, Bool.false_or, Bool.and_false, if_neg Bool.noConfusion]
  simp (disch := decide) only [credits16_setDF, strmRing_setDF, dlEn_setDF, Dev.dF_setDF_word]
  rw [ring_setDF _ _ _ _ _ _ (strmRing_lt d n), ring_setDF _ _ _ _ _ _ (strmRing_lt d n), ring_setDF _ _ _ _ _ _ (strmRing_lt d n)]
  rfl

theorem strmReleased_fields (n : Nat) (d : Dev) :
    let e := strmReleased n d
    e.dF n 13 31 0 = d.frame ∧ e.dF n 15 31 0 = (d.frame + d.dF n 1 7 0) % 2 ^ 32 ∧
      credits16 e n = min 65535 (credits16 d n + d.dF n 9 15 0) ∧ e.dF n 14 31 0 = (d.rd (STRM_RING_PROD (strmRing d n))).toNat := by
  have hframe : d.frame < 2 ^ 32 := (d.rd CAD_FRAME).isLt
  have hprod : (d.rd (STRM_RING_PROD (strmRing d n))).toNat < 2 ^ 32 := BitVec.isLt _
  simp (disch := decide) only [strmReleased, credits16, Dev.dF_setDF_word, Dev.dF_modStrm, Dev.dF_setDF_same]
  refine ⟨Nat.mod_eq_of_lt hframe, trivial, Nat.mod_eq_of_lt ?_, Nat.mod_eq_of_lt hprod⟩
  exact Nat.lt_succ_of_le (Nat.min_le_left ..)

theorem strmReleased_regsKeep (n : Nat) (d : Dev) :
    RegsKeep [descAddr n 8, descAddr n 13, descAddr n 14, descAddr n 15] d (strmReleased n d) := by
  intro a ha
  simp only [List.mem_cons, List.not_mem_nil, or_false, not_or] at ha
  obtain ⟨h8, h13, h14, h15⟩ := ha
  rw [strmReleased, Dev.rd_setDF_other _ _ h14, Dev.rd_modStrm, Dev.rd_setDF_other _ _ h8, Dev.rd_setDF_other _ _ h15,
    Dev.rd_setDF_other _ _ h13]

theorem release_spec {n : Nat} {d : Dev} (hc : compared d n = false) (hm : isMember d = false) (hr : kvGet? d.peer.rebuild n = none) :
    let e := opEffect n 6 0 d
    e.dF n 13 31 0 = d.frame ∧ e.dF n 15 31 0 = (d.frame + d.dF n 1 7 0) % 2 ^ 32 ∧
      credits16 e n = min 65535 (credits16 d n + d.dF n 9 15 0) ∧ e.dF n 14 31 0 = (d.rd (STRM_RING_PROD (strmRing d n))).toNat ∧
      (n ∈ e.strm.deadlines ↔ dlEn d n = true) ∧ n ∉ e.strm.missed ∧ Woken d e ∧
      e = { d with regs := e.regs, strm := { d.strm with missed := e.strm.missed, deadlines := e.strm.deadlines } } ∧
      ∀ a, a ∉ [descAddr n 8, descAddr n 13, descAddr n 14, descAddr n 15] → (∀ m, m < 16384 → a ≠ descAddr m 0) → e.rd a = d.rd a := by
  have he : opEffect n 6 0 d = wake (strmReleased n d) := strmReleaseNow_alone hc hm hr
  rw [he]
  have hwake := wake_statesOnly (strmReleased n d)
  obtain ⟨hframe, hdeadline, hcredits, hlimit⟩ := strmReleased_fields n d
  have hstrm : (wake (strmReleased n d)).strm = (strmReleased n d).strm := by rw [hwake.1]
  have hstates : ∀ m, (strmReleased n d).strmSt m = d.strmSt m := fun m => by
    simp (disch := decide) only [Dev.strmSt, strmReleased, Dev.dF_setDF_word, Dev.dF_modStrm]
  refine ⟨(hwake.dF_word n _ _ (by decide) (by decide)).trans hframe, (hwake.dF_word n _ _ (by decide) (by decide)).trans hdeadline,
    (hwake.dF_word n _ _ (by decide) (by decide)).trans hcredits, (hwake.dF_word n _ _ (by decide) (by decide)).trans hlimit,
    ?_, ?_, woken_wake hstates, ?_, fun a ha h0 => (hwake.2.1 a h0).trans (strmReleased_regsKeep n d a ha)⟩
  · rw [hstrm]
    show n ∈ (if dlEn d n then setIns d.strm.deadlines n else setDel d.strm.deadlines n) ↔ _
    split
    · next h => exact ⟨fun _ => h, fun _ => (mem_setIns _ _ _).2 (.inl rfl)⟩
    · next h => exact ⟨fun hc => absurd rfl ((mem_setDel _ _ _).1 hc).2, fun hc => absurd hc h⟩
  · rw [hstrm]
    exact fun hc => ((mem_setDel _ n n).1 hc).2 rfl
  · rw [hwake.1]
    rfl

/-! ### The statement -/

/-- The commands of STRM.CMD, each with its OP and its argument (R319). -/
def strmCommands (agent n arg : Nat) : List (Instr × Nat × Nat) :=
  [(.openStream agent n, 1, 0), (.closeStream agent n, 2, 0), (.pauseStream agent n, 3, 0), (.resumeStream agent n, 4, 0),
   (.strmCredit agent n arg, 5, arg), (.strmRelease agent n, 6, 0), (.clearStream agent n, 7, 0)]

theorem exec_strmCommand {agent n arg op a : Nat} {c : Instr} (hc : (c, op, a) ∈ strmCommands agent n arg) (harg : arg < 16384) :
    op < 16 ∧ a < 16384 ∧ ∀ s, exec c s = guardUnit (unitStream n) (onDev (strmCmd agent (cmdWord n op a)) s) := by
  simp only [strmCommands, List.mem_cons, List.not_mem_nil, or_false, Prod.mk.injEq] at hc
  rcases hc with ⟨rfl, rfl, rfl⟩ | ⟨rfl, rfl, rfl⟩ | ⟨rfl, rfl, rfl⟩ | ⟨rfl, rfl, rfl⟩ | ⟨rfl, rfl, rfl⟩ |
    ⟨rfl, rfl, rfl⟩ | ⟨rfl, rfl, rfl⟩ <;>
    exact ⟨by decide, by omega, fun _ => rfl⟩

section
variable {agent n arg op a : Nat} {c : Instr} {s : State} {q : Dev → Prop}
  (hc : (c, op, a) ∈ strmCommands agent n arg) (hn : n < 16384) (harg : arg < 16384)
  (hm : s.dev.mayWrite agent .strm = true) (hu : s.dev.up = true) (ho : s.dev.strm.opening = none)
include hc hn harg hm hu ho

/-- A command whose own checks pass gives its effect. -/
theorem Gives.strmCommand (hcs : firstFail (opChecks s.dev n op a) = none) (hq : q (opEffect n op a s.dev)) : Gives c s q := by
  obtain ⟨hop, ha, hexec⟩ := exec_strmCommand hc harg
  refine Gives.guarded (hexec s) (decide_eq_true hn) ?_
  rwa [strmCmd_eq hn hop ha hm hu ho, strmChecked_pass hcs]

/-- A command whose own checks fail is rejected. -/
theorem Gives.strmCommand_rejected {code : ErrCode} (hcs : firstFail (opChecks s.dev n op a) = some code)
    (hq : q (strmReject n 0 0 0x104 agent code s.dev)) : Gives c s q := by
  obtain ⟨hop, ha, hexec⟩ := exec_strmCommand hc harg
  refine Gives.guarded (hexec s) (decide_eq_true hn) ?_
  rwa [strmCmd_eq hn hop ha hm hu ho, strmChecked_fail hcs]

end

/-- The state that a command asks for. -/
theorem firstFail_state {b : Bool} (h : b = false) : firstFail [(.state, b)] = none := by
  rw [h]
  rfl

theorem live_of_states {st : Nat} (h : st = 1 ∨ st = 2 ∨ st = 3 ∨ st = 4) : [sWaiting, sReady, sRunning, sPaused].contains st = true := by
  rcases h with rfl | rfl | rfl | rfl <;> rfl

/-- Settles O46: each command that passes its checks is the effect that its own lemma describes. That the stream stays FREE
until OPEN_DONE, and that a RUNNING stream with nothing but a pending replay becomes FREE at once, is deduced
(notes/assumptions/67.md). -/
theorem streamCommands : Obligations.StreamCommands := by
  intro s agent n arg hn harg hm hu ho st woken
  have gives {c : Instr} {op a : Nat} {q : Dev → Prop} (hc : (c, op, a) ∈ strmCommands agent n arg)
      (hpass : firstFail (opChecks s.dev n op a) = none) (hq : q (opEffect n op a s.dev)) : Gives c s q :=
    Gives.strmCommand hc hn harg hm hu ho hpass hq
  have openMem : (.openStream agent n, 1, 0) ∈ strmCommands agent n arg := by simp [strmCommands]
  have closeMem : (.closeStream agent n, 2, 0) ∈ strmCommands agent n arg := by simp [strmCommands]
  have pauseMem : (.pauseStream agent n, 3, 0) ∈ strmCommands agent n arg := by simp [strmCommands]
  have resumeMem : (.resumeStream agent n, 4, 0) ∈ strmCommands agent n arg := by simp [strmCommands]
  have creditMem : (.strmCredit agent n arg, 5, arg) ∈ strmCommands agent n arg := by simp [strmCommands]
  have releaseMem : (.strmRelease agent n, 6, 0) ∈ strmCommands agent n arg := by simp [strmCommands]
  have clearMem : (.clearStream agent n, 7, 0) ∈ strmCommands agent n arg := by simp [strmCommands]
  have closePass (hst : st ≠ 0) : firstFail (opChecks s.dev n 2 0) = none := firstFail_state (beq_false_of_ne hst)
  refine ⟨fun c op a code hc hfail => Gives.strmCommand_rejected hc hn harg hm hu ho hfail ⟨rfl, strmReject_spec ..⟩,
    fun hpass => gives openMem hpass (open_spec ?_),
    fun hst hf => gives closeMem (closePass (by rw [hst]; decide)) (closing_spec hst hf),
    fun hst hnf => gives closeMem (closePass hst) (closed_spec hnf),
    fun hst => gives pauseMem (firstFail_state ?_) ⟨strmPause_onlyRegs n s.dev, ?_⟩,
    fun hst hstale => gives resumeMem (firstFail_state ?_) (resume_spec n s.dev),
    fun hst => ⟨fun hpos hmax => gives creditMem ?_ (credit_spec hmax),
      fun hcmp hmem hreb => gives releaseMem (firstFail_state ?_) (release_spec hcmp hmem hreb)⟩,
    fun hst => gives clearMem (firstFail_state ?_) (clear_spec n s.dev)⟩
  · have hstate := (firstFail_none _).1 hpass _ (List.mem_cons_self ..)
    simp only [Bool.or_eq_false_iff, bne_eq_false_iff_eq] at hstate
    obtain ⟨⟨⟨⟨hfree, -⟩, -⟩, -⟩, -⟩ := hstate
    exact hfree
  · show (!([sWaiting, sReady, sRunning].contains st)) = false
    rcases hst with h | h | h <;> rw [h] <;> rfl
  · split
    · next h3 => exact strmPause_running_fields h3
    · next h3 =>
      show (strmPause n s.dev).strmSt n = 4 ∧ pausePend (strmPause n s.dev) n = false
      rw [strmPause_of_waiting (by tauto)]
      obtain ⟨hpaused, hpend, -⟩ := setStrm_paused_fields n s.dev
      exact ⟨hpaused, hpend⟩
  · show (st != sPaused || s.dev.flt.stalePrograms.contains (strmProg s.dev n)) = false
    rw [hstale, hst]
    rfl
  · have hzero : (arg == 0) = false := beq_false_of_ne (Nat.ne_of_gt hpos)
    have hover : decide (65535 < credits16 s.dev n + arg) = false := decide_eq_false (Nat.not_lt.2 hmax)
    show firstFail [(.state, !([sWaiting, sReady, sRunning, sPaused].contains st)),
      (.range, arg == 0 || decide (65535 < credits16 s.dev n + arg))] = none
    rw [live_of_states hst, hzero, hover]
    rfl
  · show (!([sWaiting, sReady, sRunning, sPaused].contains st)) = false
    rw [live_of_states hst]
    rfl
  · show (st != sFaulted) = false
    rw [hst]
    rfl

end Sys2Proof.Machine

/-! PROOF. Descriptor words, beat programs and rings: which bits of a descriptor word a write changes, what an access through
PROG_DATA does, and what a producer's index wakes (08_streams_context.md R315, R316, R323, R327, R359). -/

namespace Sys2Proof.Machine

/-! ### A write of a descriptor word (R316) -/

/-- The word that a write leaves: the data's bits where the word is writable, the old ones elsewhere. -/
def descMerged (w : Nat) (old data : Word) : Word :=
  w32 ((old.toNat &&& (0xFFFFFFFF - descWritable.getD w 0)) ||| (data.toNat &&& descWritable.getD w 0))

theorem descWritable_lt {w : Nat} (hw : w < 16) : descWritable.getD w 0 < 2 ^ 32 := by
  interval_cases w <;> decide

theorem bitOf_descMerged {w i : Nat} (hw : w < 16) (hi : i < 32) (old data : Word) :
    bitOf (descMerged w old data) i = if (descWritable.getD w 0).testBit i then bitOf data i else bitOf old i := by
  have hmask : (0xFFFFFFFF - descWritable.getD w 0).testBit i = !(descWritable.getD w 0).testBit i := by
    rw [show 0xFFFFFFFF - descWritable.getD w 0 = 2 ^ 32 - (descWritable.getD w 0 + 1) by omega,
      Nat.testBit_two_pow_sub_succ (descWritable_lt hw)]
    simp [hi]
  rw [descMerged, bitOf_w32 hi, Nat.testBit_or, Nat.testBit_and, Nat.testBit_and, hmask]
  cases (descWritable.getD w 0).testBit i <;> simp [bitOf]

/-- A write changes the writable bits in which the data differs. -/
theorem xor_descMerged {w : Nat} (hw : w < 16) (old data : Word) :
    old.toNat ^^^ (descMerged w old data).toNat = (old.toNat ^^^ data.toNat) &&& descWritable.getD w 0 := by
  apply Nat.eq_of_testBit_eq
  intro i
  rw [Nat.testBit_xor, Nat.testBit_and, Nat.testBit_xor]
  by_cases hi : i < 32
  · have hbit : (descMerged w old data).toNat.testBit i = _ := bitOf_descMerged hw hi old data
    rw [hbit]
    cases (descWritable.getD w 0).testBit i <;> simp [bitOf]
  · have hhigh : ∀ x : Word, x.toNat.testBit i = false := fun x =>
      Nat.testBit_lt_two_pow (Nat.lt_of_lt_of_le x.isLt (Nat.pow_le_pow_right (by decide) (Nat.not_lt.1 hi)))
    simp [hhigh]

/-- The bits of a word that a write changes. -/
def descChanged (w : Nat) (old data : Word) : Nat := (old.toNat ^^^ data.toNat) &&& descWritable.getD w 0

theorem descWrite_eq {w : Nat} (agent n : Nat) (data : Word) (d : Dev) (hw : w < 16) :
    descWrite agent n w data d = strmChecked n w 1 ((64 * n + 4 * w) % 4096) agent
      [(.privilege, !d.mayWrite agent .strm ||
          (d.strmSt n != sFree && w == 0 && (descChanged w (d.rd (descAddr n w)) data).testBit 18 && (agent == agentHost || agent == agentDebug))),
       (.state, !d.up || (d.strmSt n != sFree && (descChanged w (d.rd (descAddr n w)) data &&& descFreeOnly.getD w 0) != 0)),
       (.reserved, descWritable.getD w 0 == 0 || (data.toNat &&& (0xFFFFFFFF - descNamed.getD w 0)) != 0)]
      (fun e => e.wr (descAddr n w) (descMerged w (d.rd (descAddr n w)) data)) d := by
  rw [descChanged, ← xor_descMerged hw]
  rfl

section
variable {agent n w : Nat} {data : Word} {d : Dev} (hw : w < 16) (hm : d.mayWrite agent .strm = true) (hu : d.up = true)
  (hmask : descWritable.getD w 0 ≠ 0) (hnamed : data.toNat &&& (0xFFFFFFFF - descNamed.getD w 0) = 0)

include hm in
/-- Only APPEND of a stream that is not FREE is closed to an agent that may write the page. -/
theorem descWrite_privilege {changed : Nat} (h : d.strmSt n = 0 ∨ (w = 0 → changed.testBit 18 = false)) :
    (!d.mayWrite agent .strm || (d.strmSt n != sFree && w == 0 && changed.testBit 18 && (agent == agentHost || agent == agentDebug))) = false := by
  rcases h with hfree | happend
  · simp [hm, hfree, sFree]
  · by_cases h0 : w = 0
    · simp [hm, happend h0]
    · simp [hm, h0]

include hmask hnamed in
theorem descWrite_reserved : (descWritable.getD w 0 == 0 || (data.toNat &&& (0xFFFFFFFF - descNamed.getD w 0)) != 0) = false := by
  rw [beq_false_of_ne hmask, hnamed]
  rfl

include hw hm hu hmask hnamed

/-- A FREE stream, or bits that may change in any state. -/
theorem descWrite_of_pass (h : d.strmSt n = 0 ∨ (descChanged w (d.rd (descAddr n w)) data &&& descFreeOnly.getD w 0 = 0 ∧
      (w = 0 → (descChanged w (d.rd (descAddr n w)) data).testBit 18 = false))) :
    descWrite agent n w data d = d.wr (descAddr n w) (descMerged w (d.rd (descAddr n w)) data) := by
  have hstate : (!d.up || (d.strmSt n != sFree && (descChanged w (d.rd (descAddr n w)) data &&& descFreeOnly.getD w 0) != 0)) = false := by
    rcases h with hfree | ⟨hbits, -⟩
    · simp [hu, hfree, sFree]
    · rw [hu, hbits, bne_self_eq_false, Bool.and_false]
      rfl
  rw [descWrite_eq agent n data d hw, descWrite_privilege hm (h.imp_right And.right), hstate, descWrite_reserved hmask hnamed]
  rfl

/-- A change, in another stream, of a bit that is writable in FREE only. -/
theorem descWrite_of_state (hst : d.strmSt n ≠ 0) (hbits : descChanged w (d.rd (descAddr n w)) data &&& descFreeOnly.getD w 0 ≠ 0)
    (happend : w = 0 → (descChanged w (d.rd (descAddr n w)) data).testBit 18 = false) :
    descWrite agent n w data d = strmReject n w 1 ((64 * n + 4 * w) % 4096) agent .state d := by
  have hstate : (!d.up || (d.strmSt n != sFree && (descChanged w (d.rd (descAddr n w)) data &&& descFreeOnly.getD w 0) != 0)) = true := by
    rw [hu, bne_iff_ne.2 hbits, show (d.strmSt n != sFree) = true from bne_iff_ne.2 hst]
    rfl
  rw [descWrite_eq agent n data d hw, descWrite_privilege hm (.inr happend), hstate, descWrite_reserved hmask hnamed]
  rfl

end

/-! ### PROG_DATA (R323, R359) -/

theorem progNext_onlyRegs (d : Dev) : OnlyRegs [STRM_PROG_ADDR] d (progNext d) := onlyRegs_wr d _ _

theorem progNext_word (d : Dev) : (progNext d).rdF STRM_PROG_ADDR 13 8 = (d.rdF STRM_PROG_ADDR 13 8 + 1) % 64 :=
  Dev.rdF_wrF_same _ _ _ (by decide)

@[simp] theorem progNext_strm (d : Dev) : (progNext d).strm = d.strm := rfl

theorem progAccess_read {agent : Nat} {d : Dev} (h : d.rdF STRM_PROG_ADDR 13 8 < 50) :
    progAccess agent none d = progNext (d.answerW (progWord d (d.rdF STRM_PROG_ADDR 5 0) (d.rdF STRM_PROG_ADDR 13 8))) :=
  if_neg (Nat.not_le.2 h)

/-- A word of a program as it will be in force: the one being written, one that is held, or the one in force. -/
def progNew (d : Dev) (x : Word) (i : Nat) : Word :=
  if i = d.rdF STRM_PROG_ADDR 13 8 then x
  else (kvGet? d.strm.progHeld (50 * d.rdF STRM_PROG_ADDR 5 0 + i)).getD (progWord d (d.rdF STRM_PROG_ADDR 5 0) i)

/-- The whole program is in force, and nothing of it is held. -/
def progPut (d : Dev) (x : Word) (s : StreamSt) : StreamSt :=
  { s with
    progs := (List.range 50).foldl (fun m i => kvSetD m 0 (50 * d.rdF STRM_PROG_ADDR 5 0 + i) (progNew d x i)) s.progs
    progHeld := s.progHeld.filter fun (e : Nat × Word) => e.1 / 50 != d.rdF STRM_PROG_ADDR 5 0 }

/-- The program is valid, and stale no longer. -/
def progStored (d : Dev) (x : Word) : Dev :=
  ((d.modStrm (progPut d x)).wr (STRM_PROG_VALID (d.rdF STRM_PROG_ADDR 5 0 / 32))
    (setBit (d.rd (STRM_PROG_VALID (d.rdF STRM_PROG_ADDR 5 0 / 32))) (d.rdF STRM_PROG_ADDR 5 0 % 32) true)).modFlt
      fun f => { f with stalePrograms := setDel f.stalePrograms (d.rdF STRM_PROG_ADDR 5 0) }

theorem progAccess_write {agent : Nat} {d : Dev} (x : Word) (hm : d.mayWrite agent .strm = true) (hu : d.up = true)
    (hb : progNamed d (d.rdF STRM_PROG_ADDR 5 0) = false) (hlt : d.rdF STRM_PROG_ADDR 13 8 < 50)
    (hone : d.rdF STRM_PROG_ADDR 13 8 = 1 → fld x 31 16 = 0) (hentry : 2 ≤ d.rdF STRM_PROG_ADDR 13 8 → x.toNat &&& 0xE000E000 = 0)
    (hmask : d.rdF STRM_PROG_ADDR 13 8 = 49 → (progNew d x 0).toNat + 2 ^ 32 * fld (progNew d x 1) 15 0 ≠ 0) :
    progAccess agent (some x) d = progNext (if d.rdF STRM_PROG_ADDR 13 8 = 49 then progStored d x else
      d.modStrm fun s => { s with progHeld := kvPut s.progHeld (50 * d.rdF STRM_PROG_ADDR 5 0 + d.rdF STRM_PROG_ADDR 13 8) x }) := by
  have hreserved : ((d.rdF STRM_PROG_ADDR 13 8 == 1 && decide (fld x 31 16 ≠ 0)) ||
      (decide (2 ≤ d.rdF STRM_PROG_ADDR 13 8 ∧ d.rdF STRM_PROG_ADDR 13 8 < 50) && (x.toNat &&& 0xE000E000) != 0)) = false := by
    rw [Bool.or_eq_false_iff, Bool.and_eq_false_imp, Bool.and_eq_false_imp]
    exact ⟨fun h => by simpa using hone (beq_iff_eq.1 h), fun h => by simpa using hentry (of_decide_eq_true h).1⟩
  have hrange : (decide (50 ≤ d.rdF STRM_PROG_ADDR 13 8) ||
      (d.rdF STRM_PROG_ADDR 13 8 == 49 && (progNew d x 0).toNat + 2 ^ 32 * fld (progNew d x 1) 15 0 == 0)) = false := by
    rw [Bool.or_eq_false_iff, Bool.and_eq_false_imp]
    exact ⟨decide_eq_false (Nat.not_le.2 hlt), fun h => beq_false_of_ne (hmask (beq_iff_eq.1 h))⟩
  unfold progAccess
  dsimp only
  refine (Dev.checked_pass _ _ _ _ _ _ ?_).trans rfl
  simp only [List.mem_cons, List.not_mem_nil, or_false]
  rintro e (rfl | rfl | rfl | rfl | rfl)
  · simp [hm]
  · simp [hu]
  · exact hb
  · exact hreserved
  · exact hrange

/-- The words of the program that is put in force, and of every other. -/
theorem progStored_word (d : Dev) (x : Word) {q i : Nat} (hi : i < 50) :
    progWord (progStored d x) q i = if q = d.rdF STRM_PROG_ADDR 5 0 then progNew d x i else progWord d q i := by
  have hread := foldl_range_reads (read := fun m j => kvGetD m 0 j) (a := 50 * d.rdF STRM_PROG_ADDR 5 0) (v := progNew d x) 50
    (fun m w j _ => kvGetD_setD m 0 _ j (progNew d x w)) d.strm.progs (50 * q + i)
  refine hread.trans ?_
  by_cases hq : q = d.rdF STRM_PROG_ADDR 5 0
  · rw [if_pos hq, hq, if_pos ⟨Nat.le_add_right .., Nat.add_lt_add_left hi _⟩, Nat.add_sub_cancel_left]
  · rw [if_neg hq, if_neg (by omega)]
    rfl

theorem progStored_held (d : Dev) (x : Word) {i : Nat} (hi : i < 50) :
    kvGet? (progStored d x).strm.progHeld (50 * d.rdF STRM_PROG_ADDR 5 0 + i) = none := by
  refine (kvGet?_filter d.strm.progHeld (fun k => k / 50 != d.rdF STRM_PROG_ADDR 5 0) _).trans (if_neg ?_)
  simp only [bne_iff_ne, ne_eq, not_not]
  omega

theorem progStored_valid (d : Dev) (x : Word) : progValid (progStored d x) (d.rdF STRM_PROG_ADDR 5 0) = true := by
  show bitOf ((Dev.wr _ _ _).rd _) _ = true
  rw [Dev.rd_wr_same, bitOf_setBit_same _ _ _ (Nat.mod_lt _ (by decide))]

theorem progStored_regsKeep (d : Dev) (x : Word) : RegsKeep [STRM_PROG_VALID (d.rdF STRM_PROG_ADDR 5 0 / 32)] d (progStored d x) :=
  regsKeep_wr (d.modStrm (progPut d x)) _ _

/-- PROG_ADDR is no word of the valid programs. -/
theorem progNext_valid (d : Dev) (p : Nat) : progValid (progNext d) p = progValid d p :=
  congrArg (bitOf · (p % 32)) ((progNext_onlyRegs d).2 _ (by simp only [List.mem_singleton, STRM_PROG_VALID, STRM_PROG_ADDR]; omega))

/-! ### RING_PROD (R327) -/

theorem ringProdWrite_of_pass {r agent : Nat} {data : Word} {d : Dev} (hm : d.mayWrite agent .strm = true) (hu : d.up = true)
    (ho : (ringProducer d r == 0 && agent == agentHost || ringProducer d r == 1 && isPewter agent) = true)
    (hforward : (data.toNat + 2 ^ 32 - (ring d r).prod) % 2 ^ 32 < 2 ^ 31)
    (hfits : (data.toNat + 2 ^ 32 - (ring d r).cons) % 2 ^ 32 ≤ (ring d r).size) :
    ringProdWrite r agent data d = wake (d.wr (STRM_RING_PROD r) data) := by
  unfold ringProdWrite prodChecks
  dsimp only
  rw [ho, decide_eq_false (Nat.not_le.2 hforward), decide_eq_false (Nat.not_lt.2 hfits), hm, hu]
  rfl

theorem ringProdWrite_of_range {r agent : Nat} {data : Word} {d : Dev} (hm : d.mayWrite agent .strm = true) (hu : d.up = true)
    (ho : (ringProducer d r == 0 && agent == agentHost || ringProducer d r == 1 && isPewter agent) = true)
    (h : 2 ^ 31 ≤ (data.toNat + 2 ^ 32 - (ring d r).prod) % 2 ^ 32 ∨ (ring d r).size < (data.toNat + 2 ^ 32 - (ring d r).cons) % 2 ^ 32) :
    ringProdWrite r agent data d = d.reject .strm (0x148 + 16 * r) agent .range := by
  have hrange : (decide (2 ^ 31 ≤ (data.toNat + 2 ^ 32 - (ring d r).prod) % 2 ^ 32) ||
      decide ((ring d r).size < (data.toNat + 2 ^ 32 - (ring d r).cons) % 2 ^ 32)) = true := by simpa using h
  unfold ringProdWrite prodChecks
  dsimp only
  rw [ho, hrange, hm, hu]
  rfl

/-- The index that a producer writes, and the streams that it wakes. -/
theorem ringProd_spec (r : Nat) (hr : r < 64) (data : Word) (d : Dev) :
    let e := wake (d.wr (STRM_RING_PROD r) data)
    e.rd (STRM_RING_PROD r) = data ∧ RegsOnly d e ∧ Woken d e ∧
      ∀ a, a ≠ STRM_RING_PROD r → (∀ m, m < 16384 → a ≠ descAddr m 0) → e.rd a = d.rd a := by
  intro e
  have hlow : STRM_RING_PROD r < 0x100000 := by
    unfold STRM_RING_PROD
    omega
  have hwake := wake_statesOnly (d.wr (STRM_RING_PROD r) data)
  refine ⟨(hwake.rd_low hlow).trans (Dev.rd_wr_same ..), (regsOnly_wr d _ _).trans hwake.1, woken_wake fun m => Dev.dF_wr_low _ _ _ _ _ _ hlow,
    fun a hne h0 => (hwake.2.1 a h0).trans (Dev.rd_wr_other _ _ hne)⟩

end Sys2Proof.Machine

/-! PROOF. Deadlines, and the statement about descriptors, programs, rings and deadlines (08_streams_context.md R332, R335). -/

namespace Sys2Proof.Machine

/-! ### A deadline that is reached (R332) -/

/-- The entries that the stream's limit leaves. -/
def entriesLeft (d : Dev) (n : Nat) : Nat := if ringEn d n then between (ring d (strmRing d n)).cons (d.dF n 14 31 0) else 0

/-- The stream's release has missed its deadline. -/
def Misses (d : Dev) (n : Nat) : Prop :=
  dlEn d n = true ∧ (d.strmSt n = 1 ∨ d.strmSt n = 2 ∨ d.strmSt n = 3 ∨ d.strmSt n = 5) ∧ (0 < credits16 d n ∨ 0 < entriesLeft d n)

/-- The check of the deadline is over. -/
def deadlineChecked (n : Nat) (d : Dev) : Dev := d.modStrm fun s => { s with deadlines := setDel s.deadlines n }

/-- A missed deadline is recorded and counted. -/
def deadlineMissed (n : Nat) (d : Dev) : Dev :=
  (((((deadlineChecked n d).record 0x13 0 0 (credits16 d n + min (entriesLeft d n) 0x7FFF * 2 ^ 16)).setDF n 9 31 24
    (min 255 (d.dF n 9 31 24 + 1))).bump STRM_MISS_COUNT).modStrm fun s => { s with missed := setIns s.missed n })

/-- The credits are gone, and the entries up to the limit. -/
def workDropped (n left : Nat) (d : Dev) : Dev :=
  let d := d.setDF n 8 15 0 0
  if ringEn d n && decide (0 < left) then d.wrN (STRM_RING_CONS (strmRing d n)) (d.dF n 14 31 0) else d

/-- The policy that drops the work: a READY stream without any is WAITING. -/
def deadlineDrop (n left st : Nat) (d : Dev) : Dev :=
  if st = sReady && !hasWork (workDropped n left d) n then setStrm n sWaiting (workDropped n left d) else workDropped n left d

/-- The policy of the descriptor. -/
def deadlinePolicy (n left st : Nat) (d : Dev) : Dev :=
  match d.dF n 0 10 9 with
  | 1 => deadlineDrop n left st d
  | 2 => strmPause n d
  | _ => d

theorem deadline_idle {n : Nat} {d : Dev} (h : ¬(n ∈ d.strm.deadlines ∧ deadlineReached d n = true)) : deadline n d = d :=
  if_neg (by simpa using h)

theorem misses_iff (d : Dev) (n : Nat) : Misses d n ↔
    (dlEn d n && [sWaiting, sReady, sRunning, sClosing].contains (d.strmSt n) &&
      (decide (0 < credits16 d n) || decide (0 < entriesLeft d n))) = true := by
  simp [Misses, and_assoc, sWaiting, sReady, sRunning, sClosing]

theorem deadline_due {n : Nat} {d : Dev} (h : n ∈ d.strm.deadlines ∧ deadlineReached d n = true) :
    deadline n d = if dlEn d n && [sWaiting, sReady, sRunning, sClosing].contains (d.strmSt n) &&
        (decide (0 < credits16 d n) || decide (0 < entriesLeft d n))
      then deadlinePolicy n (entriesLeft d n) (d.strmSt n) (deadlineMissed n d) else deadlineChecked n d :=
  if_pos (by simpa using h)

theorem deadline_of_none_missed {n : Nat} {d : Dev} (h : n ∈ d.strm.deadlines ∧ deadlineReached d n = true) (hm : ¬Misses d n) :
    deadline n d = deadlineChecked n d := by
  rw [deadline_due h, if_neg fun hc => hm ((misses_iff d n).2 hc)]

theorem deadline_of_missed {n : Nat} {d : Dev} (h : n ∈ d.strm.deadlines ∧ deadlineReached d n = true) (hm : Misses d n) :
    deadline n d = deadlinePolicy n (entriesLeft d n) (d.strmSt n) (deadlineMissed n d) := by
  rw [deadline_due h, if_pos ((misses_iff d n).1 hm)]

/-! ### What a missed deadline leaves -/

theorem deadlineMissed_regsKeep (n : Nat) (d : Dev) : RegsKeep [descAddr n 9, STRM_MISS_COUNT] d (deadlineMissed n d) := by
  intro a ha
  simp only [List.mem_cons, List.not_mem_nil, or_false, not_or] at ha
  obtain ⟨h9, hcount⟩ := ha
  exact (Dev.rd_bump_other _ hcount).trans (Dev.rd_setDF_other _ _ h9)

/-- Of the descriptor a miss writes the count in word 9 alone. -/
theorem deadlineMissed_dF (n : Nat) (d : Dev) {x hi lo : Nat} (hx : x < 16) (h : x ≠ 9 ∨ hi < 24) :
    (deadlineMissed n d).dF n x hi lo = d.dF n x hi lo := by
  refine (Dev.dF_wr_low _ _ _ _ _ _ (by decide)).trans ?_
  rcases h with h9 | hlow
  · exact Dev.dF_setDF_word _ _ _ _ h9 hx (by decide)
  · exact Dev.rdF_wrF_other _ _ (.inr (.inl hlow))

theorem deadlineMissed_strmSt (n : Nat) (d : Dev) : (deadlineMissed n d).strmSt n = d.strmSt n := deadlineMissed_dF n d (by decide) (.inl (by decide))

theorem deadlineMissed_count (n : Nat) (d : Dev) : (deadlineMissed n d).dF n 9 31 24 = min 255 (d.dF n 9 31 24 + 1) := by
  refine (Dev.dF_wr_low _ _ _ _ _ _ (by decide)).trans ((Dev.dF_setDF_same _ _ _ _ (by decide)).trans (Nat.mod_eq_of_lt ?_))
  exact Nat.lt_succ_of_le (Nat.min_le_left ..)

theorem deadlineMissed_missCount (n : Nat) (d : Dev) : (deadlineMissed n d).rd STRM_MISS_COUNT = satAdd (d.rd STRM_MISS_COUNT) 1 := by
  refine (Dev.rd_bump_same _ _).trans ?_
  rw [Dev.rd_setDF_low _ _ _ _ _ _ (by decide)]
  rfl

/-! ### The policies -/

theorem workDropped_onlyRegs (n left : Nat) (d : Dev) : OnlyRegs [descAddr n 8, STRM_RING_CONS (strmRing d n)] d (workDropped n left d) := by
  have hdrop : OnlyRegs [descAddr n 8, STRM_RING_CONS (strmRing d n)] d (d.setDF n 8 15 0 0) :=
    (setDF_onlyRegs d n 8 15 0 0).mono (by simp)
  unfold workDropped
  dsimp only
  split
  · rw [strmRing_setDF _ _ _ _ (by decide) (by decide)]
    exact hdrop.trans (OnlyRegs.mono (onlyRegs_wr _ _ _) (by simp))
  · exact hdrop

theorem stRingCons_lt (d : Dev) (n : Nat) : STRM_RING_CONS (strmRing d n) < 0x100000 := by
  have := strmRing_lt d n
  unfold STRM_RING_CONS
  omega

theorem workDropped_credits (n left : Nat) (d : Dev) : credits16 (workDropped n left d) n = 0 := by
  have hzero : credits16 (d.setDF n 8 15 0 0) n = 0 := Dev.dF_setDF_same d n 8 0 (by decide)
  unfold workDropped
  dsimp only
  split
  · exact (Dev.dF_wr_low _ _ _ _ _ _ (stRingCons_lt _ n)).trans hzero
  · exact hzero

theorem workDropped_strmSt (n left : Nat) (d : Dev) : (workDropped n left d).strmSt n = d.strmSt n := by
  refine congrArg (fld · 3 0) ((workDropped_onlyRegs n left d).2 (descAddr n 0) ?_)
  have := stRingCons_lt d n
  simp only [List.mem_cons, List.not_mem_nil, or_false, descAddr]
  omega

theorem workDropped_cons {n left : Nat} {d : Dev} (he : ringEn d n = true) (hl : 0 < left) :
    ((workDropped n left d).rd (STRM_RING_CONS (strmRing d n))).toNat = d.dF n 14 31 0 := by
  have hen : ringEn (d.setDF n 8 15 0 0) n = true :=
    (congrArg (· == 1) (Dev.dF_setDF_word d n n 0 (by decide) (by decide) (by decide))).trans he
  have hlimit : d.dF n 14 31 0 < 2 ^ 32 := fld_lt _ 31 0
  unfold workDropped
  dsimp only
  rw [hen, decide_eq_true hl, strmRing_setDF _ _ _ _ (by decide) (by decide), Dev.dF_setDF_word _ _ _ _ (by decide) (by decide) (by decide)]
  refine (congrArg BitVec.toNat (Dev.rd_wrN_same _ _ _)).trans ?_
  exact Nat.mod_eq_of_lt hlimit

/-- The work is dropped; a READY stream that has none left is WAITING. -/
theorem deadlineDrop_spec {n : Nat} (hn : n < 16384) (left : Nat) (d : Dev) :
    let e := deadlineDrop n left (d.strmSt n) d
    OnlyRegs [descAddr n 0, descAddr n 8, STRM_RING_CONS (strmRing d n)] d e ∧ credits16 e n = 0 ∧
      e.strmSt n = (if d.strmSt n = 2 ∧ hasWork e n = false then 1 else d.strmSt n) ∧
      (ringEn d n = true → 0 < left → (e.rd (STRM_RING_CONS (strmRing d n))).toNat = d.dF n 14 31 0) := by
  have hstates : StatesOnly (workDropped n left d) (deadlineDrop n left (d.strmSt n) d) := by
    unfold deadlineDrop
    split
    · rw [setStrm_plain n _ (by decide) (by decide) (by decide)]
      exact statesOnly_setDF hn _ _
    · exact .refl _
  have hword : OnlyRegs [descAddr n 0] (workDropped n left d) (deadlineDrop n left (d.strmSt n) d) := by
    unfold deadlineDrop
    split
    · rw [setStrm_plain n _ (by decide) (by decide) (by decide)]
      exact setDF_onlyRegs ..
    · exact ⟨rfl, .refl _ _⟩
  refine ⟨((workDropped_onlyRegs n left d).mono (List.subset_cons_self ..)).trans (hword.mono (by simp)),
    (hstates.dF_word n _ _ (by decide) (by decide)).trans (workDropped_credits n left d), ?_, fun he hl => ?_⟩
  · rw [hstates.hasWork hn]
    unfold deadlineDrop
    have hcond : (d.strmSt n = sReady && !hasWork (workDropped n left d) n) = true ↔
        d.strmSt n = 2 ∧ hasWork (workDropped n left d) n = false := by
      rw [Bool.and_eq_true, decide_eq_true_eq, Bool.not_eq_true']
      exact .rfl
    by_cases hidle : d.strmSt n = 2 ∧ hasWork (workDropped n left d) n = false
    · rw [if_pos hidle, if_pos (hcond.2 hidle), setStrm_plain n _ (by decide) (by decide) (by decide)]
      exact Dev.dF_setDF_same _ _ _ _ (by decide)
    · rw [if_neg hidle, if_neg fun hc => hidle (hcond.1 hc)]
      exact workDropped_strmSt n left d
  · rw [hstates.rd_low (stRingCons_lt d n)]
    exact workDropped_cons he hl

theorem deadlinePolicy_of_drop {n left st : Nat} {d : Dev} (h : d.dF n 0 10 9 = 1) : deadlinePolicy n left st d = deadlineDrop n left st d := by
  rw [deadlinePolicy, h]
  rfl

theorem deadlinePolicy_of_pause {n left st : Nat} {d : Dev} (h : d.dF n 0 10 9 = 2) : deadlinePolicy n left st d = strmPause n d := by
  rw [deadlinePolicy, h]
  rfl

theorem deadlinePolicy_of_none {n left st : Nat} {d : Dev} (h1 : d.dF n 0 10 9 ≠ 1) (h2 : d.dF n 0 10 9 ≠ 2) :
    deadlinePolicy n left st d = d := by
  unfold deadlinePolicy
  split
  · next h => exact absurd h h1
  · next h => exact absurd h h2
  · rfl

/-- Whatever the policy, it writes the stream's state, its credits and its ring's consumer alone. -/
theorem deadlinePolicy_onlyRegs {n : Nat} (hn : n < 16384) (left : Nat) (d : Dev) :
    OnlyRegs [descAddr n 0, descAddr n 8, STRM_RING_CONS (strmRing d n)] d (deadlinePolicy n left (d.strmSt n) d) := by
  by_cases h1 : d.dF n 0 10 9 = 1
  · rw [deadlinePolicy_of_drop h1]
    exact (deadlineDrop_spec hn left d).1
  · by_cases h2 : d.dF n 0 10 9 = 2
    · rw [deadlinePolicy_of_pause h2]
      exact (strmPause_onlyRegs n d).mono (by simp)
    · rw [deadlinePolicy_of_none h1 h2]
      exact ⟨rfl, .refl _ d⟩

/-- A missed deadline: one record, the two counts, and the policy (R332). -/
theorem missed_spec {n : Nat} (hn : n < 16384) {d : Dev} (hdue : n ∈ d.strm.deadlines ∧ deadlineReached d n = true) (hm : Misses d n) :
    let e := deadline n d
    n ∉ e.strm.deadlines ∧ n ∈ e.strm.missed ∧ e.dF n 9 31 24 = min 255 (d.dF n 9 31 24 + 1) ∧
      e.rd STRM_MISS_COUNT = satAdd (d.rd STRM_MISS_COUNT) 1 ∧
      (∃ r : ErrRec, r.cls = 0x13 ∧ r.synd = (credits16 d n + min (entriesLeft d n) 0x7FFF * 2 ^ 16) % 2 ^ 32 ∧
        e.flt.pendingRecords = d.flt.pendingRecords ++ [r]) ∧
      ((d.dF n 0 10 9 = 0 ∨ d.dF n 0 10 9 = 3) → e.strmSt n = d.strmSt n ∧ credits16 e n = credits16 d n) ∧
      (d.dF n 0 10 9 = 1 → credits16 e n = 0 ∧ e.strmSt n = (if d.strmSt n = 2 ∧ hasWork e n = false then 1 else d.strmSt n) ∧
        (0 < entriesLeft d n → (e.rd (STRM_RING_CONS (strmRing d n))).toNat = d.dF n 14 31 0)) ∧
      (d.dF n 0 10 9 = 2 → (d.strmSt n = 3 → pausePend e n = true) ∧ e.strmSt n = if d.strmSt n = 1 ∨ d.strmSt n = 2 then 4 else d.strmSt n) ∧
      RegsKeep [descAddr n 0, descAddr n 8, descAddr n 9, STRM_MISS_COUNT, STRM_RING_CONS (strmRing d n)] d e := by
  intro e
  have hst := deadlineMissed_strmSt n d
  have hring : strmRing (deadlineMissed n d) n = strmRing d n := deadlineMissed_dF n d (by decide) (.inr (by decide))
  have hpol : (deadlineMissed n d).dF n 0 10 9 = d.dF n 0 10 9 := deadlineMissed_dF n d (by decide) (.inl (by decide))
  have he : e = deadlinePolicy n (entriesLeft d n) ((deadlineMissed n d).strmSt n) (deadlineMissed n d) := by
    rw [hst]
    exact deadline_of_missed hdue hm
  obtain ⟨honly, hkeep⟩ := deadlinePolicy_onlyRegs hn (entriesLeft d n) (deadlineMissed n d)
  rw [← he] at honly hkeep
  rw [hring] at hkeep
  have hcons := stRingCons_lt d n
  have hlt := strmRing_lt d n
  have hstrm : e.strm = (deadlineMissed n d).strm := by rw [honly]
  have hflt : e.flt = (deadlineMissed n d).flt := by rw [honly]
  refine ⟨?_, ?_, ?_, ?_, ?_, fun hnone => ?_, fun hdrop => ?_, fun hpause => ?_, ?_⟩
  · rw [hstrm]
    exact fun hc => ((mem_setDel _ n n).1 hc).2 rfl
  · rw [hstrm]
    exact (mem_setIns _ _ _).2 (.inl rfl)
  · refine (congrArg (fld · 31 24) (hkeep (descAddr n 9) ?_)).trans (deadlineMissed_count n d)
    simp only [List.mem_cons, List.not_mem_nil, or_false, descAddr, not_or]
    refine ⟨by omega, by omega, fun h => ?_⟩
    rw [← h] at hcons
    omega
  · refine (hkeep STRM_MISS_COUNT ?_).trans (deadlineMissed_missCount n d)
    simp only [List.mem_cons, List.not_mem_nil, or_false, descAddr, STRM_MISS_COUNT, STRM_RING_CONS]
    omega
  · rw [hflt]
    exact ⟨_, rfl, rfl, rfl⟩
  · rw [he, deadlinePolicy_of_none (by omega) (by omega)]
    exact ⟨hst, deadlineMissed_dF n d (by decide) (.inl (by decide))⟩
  · obtain ⟨-, hcredits, hstate, hentries⟩ := deadlineDrop_spec hn (entriesLeft d n) (deadlineMissed n d)
    rw [← deadlinePolicy_of_drop (hpol.trans hdrop), ← he] at hcredits hstate hentries
    rw [hst] at hstate
    rw [hring, deadlineMissed_dF n d (by decide) (.inl (by decide))] at hentries
    refine ⟨hcredits, hstate, fun hleft => hentries ?_ hleft⟩
    have hen : ringEn d n = true := by
      by_contra hoff
      exact absurd hleft (by simp [entriesLeft, hoff])
    exact (congrArg (· == 1) (deadlineMissed_dF n d (by decide) (.inl (by decide)))).trans hen
  · have hp : e = strmPause n (deadlineMissed n d) := he.trans (deadlinePolicy_of_pause (hpol.trans hpause))
    refine ⟨fun h3 => ?_, ?_⟩
    · rw [hp]
      exact (strmPause_running_fields (hst.trans h3)).2
    · split
      · next h12 =>
        rw [hp, strmPause_of_waiting (by rwa [hst])]
        exact (setStrm_paused_fields n _).1
      · next h12 =>
        by_cases h3 : d.strmSt n = 3
        · rw [hp, h3]
          exact (strmPause_running_fields (hst.trans h3)).1
        · rw [hp, strmPause_of_other (by rwa [hst]) (by rwa [hst])]
          exact hst
  · intro a ha
    simp only [List.mem_cons, List.not_mem_nil, or_false, not_or] at ha
    obtain ⟨h0, h8, h9, hmiss, hc⟩ := ha
    exact (hkeep a (by simp [h0, h8, hc])).trans (deadlineMissed_regsKeep n d a (by simp [h9, hmiss]))

/-! ### The statement -/

/-- Settles O47: a descriptor word is `descMerged`'s, a program's is `progStored_word`'s, a ring's index wakes as
`ringProd_spec` says, and a missed deadline is `missed_spec`. ERR_CODE.OFFSET of a descriptor write
(notes/assumptions/66.md) and a record that names no command (notes/assumptions/69.md) are deduced. -/
theorem streamTables : Obligations.StreamTables := by
  refine ⟨?_, ?_, ?_, ?_⟩
  · intro s agent n w data hn hw hm hu m old changed hmask hnamed
    refine ⟨fun hbits => ?_, fun hst hbits happend => ?_⟩
    · refine Gives.guarded (f := descWrite agent n w data) rfl (by simp [unitStream, hn, hw]) ?_
      rw [descWrite_of_pass hw hm hu hmask hnamed hbits]
      refine ⟨fun i hi => ?_, onlyRegs_wr _ _ _⟩
      rw [Dev.rd_wr_same]
      exact bitOf_descMerged hw hi _ _
    · exact Gives.guarded (f := descWrite agent n w data) rfl (by simp [unitStream, hn, hw])
        (descWrite_of_state hw hm hu hmask hnamed hst hbits happend)
  · intro s agent p w
    refine ⟨fun hw => ?_, fun x hm hu hb => ?_⟩
    · refine Gives.onDev (f := progAccess agent none) rfl ?_
      rw [progAccess_read hw]
      obtain ⟨honly, hkeep⟩ := progNext_onlyRegs (s.dev.answerW (progWord s.dev p w))
      exact ⟨by rw [honly]; rfl, progNext_word _, hkeep, by rw [honly]; rfl⟩
    · intro held
      refine ⟨fun hw hone hentry => ?_, fun hw hentry hmask => ?_⟩
      · refine Gives.onDev (f := progAccess agent (some x)) rfl ?_
        have hne : w ≠ 49 := Nat.ne_of_lt hw
        rw [progAccess_write x hm hu hb (Nat.lt_succ_of_lt hw) hone hentry fun h => absurd h hne, if_neg hne]
        refine ⟨kvGet?_put_same _ _ _, rfl, (progNext_word _).trans (Nat.mod_eq_of_lt ?_), (progNext_onlyRegs _).2, rfl⟩
        show w + 1 < 64
        omega
      · refine Gives.onDev (f := progAccess agent (some x)) rfl ?_
        rw [progAccess_write x hm hu hb (by omega) (fun h => absurd (hw.symm.trans h) (by decide)) (fun _ => hentry) fun _ => hmask, if_pos hw]
        refine ⟨fun i hi => (progStored_word s.dev x hi).trans (if_pos rfl), fun q i hq hi => (progStored_word s.dev x hi).trans (if_neg hq),
          (progNext_valid _ p).trans (progStored_valid s.dev x), fun i hi => progStored_held s.dev x hi, ?_⟩
        exact ((progStored_regsKeep s.dev x).mono (by simp [p])).trans ((progNext_onlyRegs _).2.mono (by simp))
  · intro s r agent data hr hm hu who g hwho
    refine ⟨fun hforward hfits => ?_, fun hrange => ?_⟩
    · refine Gives.guarded (f := ringProdWrite r agent data) rfl (decide_eq_true hr) ?_
      rw [ringProdWrite_of_pass hm hu (by simpa using hwho) hforward hfits]
      obtain ⟨hindex, honly, hwoken, hkeep⟩ := ringProd_spec r hr data s.dev
      exact ⟨hindex, honly, hwoken, hkeep⟩
    · refine Gives.guarded (f := ringProdWrite r agent data) rfl (decide_eq_true hr) ?_
      exact ringProdWrite_of_range hm hu (by simpa using hwho) hrange
  · intro s n hn due st left missed
    refine ⟨fun hnot => ?_, fun hdue hm => ?_, fun hdue hm => ?_⟩
    · exact Gives.guarded (f := deadline n) rfl (decide_eq_true hn) (deadline_idle hnot)
    · refine Gives.guarded (f := deadline n) rfl (decide_eq_true hn) ?_
      rw [deadline_of_none_missed hdue hm]
      exact ⟨fun hc => ((mem_setDel _ n n).1 hc).2 rfl, rfl⟩
    · exact Gives.guarded (f := deadline n) rfl (decide_eq_true hn) (missed_spec hn hdue hm)

end Sys2Proof.Machine

/-! PROOF. Commands and external memory: which commands leave it, and that every one keeps its canonical form
(09_external_memory.md R366, R373, R375, 02_control_model.md R37). -/

namespace Sys2Proof.Machine

/-! ### What a command does with memory -/

/-- A command that answers a next state keeps the canonical form of memory. -/
def KeepsWf (s : State) (r : Result) : Prop := ∀ t, r = .next t → StateInv s → StateInv t

theorem execDigestComplete_mem {page : Nat} {s t : State} (h : execDigestComplete page s = .next t) : t.mem = s.mem := by
  unfold execDigestComplete at h
  split at h
  · exact (onDev_keeps h).2
  · cases h

theorem execSnapLatch_mem {page : Nat} {late : Bool} {s t : State} (h : execSnapLatch page late s = .next t) :
    t.mem = s.mem := by
  unfold execSnapLatch at h
  split at h
  · exact (onDev_keeps h).2
  · cases h

theorem keepsWf_onDevMem (f : ExtMem → Dev → Dev × List MemWrite) (s : State) : KeepsWf s (onDevMem f s) :=
  fun _ h => (onDevMem_keeps h).2

theorem keepsWf_guardUnit {s : State} {r : Result} (ok : Bool) (h : KeepsWf s r) : KeepsWf s (guardUnit ok r) :=
  fun t ht => h t ((guardUnit_eq_next ok r t).1 ht).2

/-- Cold reset forgets memory, and memory without a byte is in its canonical form (09_external_memory.md R385). -/
theorem keepsWf_enterReset (f : Dev → Dev) (s : State) : KeepsWf s (enterReset f s) := by
  intro t ht _
  cases ht
  exact reset_mem_wf

theorem keepsWf_execApply (agent page : Nat) (data : Word) (s : State) : KeepsWf s (execApply agent page data s) := by
  unfold execApply
  split
  · exact keepsWf_onDevMem _ _
  · exact fun _ h => nomatch h

/-- Said once of every command. One that `Instr.stores` names can write memory by a list of writes, behind the guard of its
unit where it names one, or, entering cold reset, forgets memory; every other lifts an effect inside the part. -/
theorem exec_keepsWf_or_mem (i : Instr) (s : State) : (i.stores = true ∧ KeepsWf s (exec i s)) ∨
    ∃ t : State, exec i s = guardUnit i.wf (.next t) ∧ (i.wf = true → t.mem = s.mem) := by
  unfold exec
  cases i with
  | apply agent page data => exact .inl ⟨rfl, keepsWf_execApply agent page data s⟩
  | porstAssert | vaonDrop => exact .inl ⟨rfl, keepsWf_enterReset _ _⟩
  | dbgWindowDone | dapAccess | hostMemAccess | trialStart | refillPacket | refillDone | refillTimeout | trial
  | trialWithFence | reinstate | openDone | beatIssue | digestFrame | holdFrame | partnerLost | copyFrame | frameBoundary
  | errorRecordStore | ibexRestoreDone | snigusRetransmit | partialFrame | regAccess | coldStart | fwBoot
  | pewterRestartDone => exact .inl ⟨rfl, keepsWf_onDevMem _ _⟩
  | registerWrite | errCodeClear | memScrubStep | beatAbortDone | beatCommit | memRequest | digestWaitTimeout
  | ingestWaitTimeout | rebuildStart | rebuildInstall | freqEntry | configApplyEntry | bankSwapEntry
  | schedStreamRelease | snapshotEntry | powerHintEntry | sensorEntryDone =>
    exact .inl ⟨rfl, keepsWf_guardUnit _ (keepsWf_onDevMem _ _)⟩
  | digestComplete page =>
    obtain ⟨t, h⟩ := execDigestComplete_eq_guardUnit page s
    exact .inr ⟨t, h, fun hw => execDigestComplete_mem (h.trans (guardUnit_pos _ hw))⟩
  | snapLatch page late =>
    obtain ⟨t, h⟩ := execSnapLatch_eq_guardUnit page late s
    exact .inr ⟨t, h, fun hw => execSnapLatch_mem (h.trans (guardUnit_pos _ hw))⟩
  | _ => exact .inr ⟨_, rfl, fun _ => rfl⟩

theorem mem_of_guarded {s t u : State} {r : Result} {ok : Bool} (h : r = guardUnit ok (.next t)) (hm : ok = true → t.mem = s.mem)
    (hu : r = .next u) : u.mem = s.mem := by
  obtain ⟨hok, htu⟩ := (guardUnit_eq_next _ _ _).1 (h.symm.trans hu)
  cases htu
  exact hm hok

/-- Settles O7: memory is the very same, so every byte and every line of it is. -/
theorem nonStoringFrame : Obligations.NonStoringFrame := by
  intro i s t hi ht
  obtain ⟨hs, -⟩ | ⟨u, hu, hm⟩ := exec_keepsWf_or_mem i s
  · exact absurd (hi.symm.trans hs) Bool.false_ne_true
  · have hmem := mem_of_guarded hu hm ht
    exact ⟨hmem, fun a => by rw [hmem]; exact ⟨rfl, rfl⟩⟩

theorem keepsWf_exec (i : Instr) (s : State) : KeepsWf s (exec i s) := by
  obtain ⟨-, h⟩ | ⟨u, hu, hm⟩ := exec_keepsWf_or_mem i s
  · exact h
  · intro t ht hs
    unfold StateInv
    rwa [mem_of_guarded hu hm ht]

theorem keepsWf_idle (s : State) : KeepsWf s (idle s) := by
  intro t ht hs
  cases ht
  exact hs

/-- Settles O4: the front command keeps the canonical form, and a tick leaves memory. -/
theorem stepKeepsInv : Obligations.StepKeepsInv := by
  intro s t hs ht
  cases hp : s.pending with
  | nil => exact keepsWf_idle s t (step_of_idle hp ▸ ht) hs
  | cons c rest => exact keepsWf_exec c { s with pending := rest } t (step_of_pending hp ▸ ht) hs

end Sys2Proof.Machine

/-! PROOF. Memory ports: what a port reads after a change of it, what reading a line touches, and the upkeep of a port, which
scrubs, retires pages, returns its counts to 0 and watches its temperature (09_external_memory.md R378 to R383, R387). -/

namespace Sys2Proof.Machine

/-! ### Ports -/

theorem Dev.port_modPort (d : Dev) (m x : Nat) (f : MemPort → MemPort) :
    (d.modPort m f).port x = if x = m then f (d.port m) else d.port x := kvGetD_modD ..

@[simp] theorem Dev.port_modPort_same (d : Dev) (m : Nat) (f : MemPort → MemPort) : (d.modPort m f).port m = f (d.port m) := by
  rw [Dev.port_modPort, if_pos rfl]

theorem Dev.port_modPort_other (d : Dev) {m x : Nat} (f : MemPort → MemPort) (h : x ≠ m) : (d.modPort m f).port x = d.port x := by
  rw [Dev.port_modPort, if_neg h]

@[simp] theorem Dev.rd_modPort (d : Dev) (m a : Nat) (f : MemPort → MemPort) : (d.modPort m f).rd a = d.rd a := rfl

@[simp] theorem Dev.port_wr (d : Dev) (a m : Nat) (w : Word) : (d.wr a w).port m = d.port m := rfl

@[simp] theorem Dev.port_bump (d : Dev) (a m : Nat) : (d.bump a).port m = d.port m := rfl

/-- Seconds of TAI depend on the time base and, among the registers, on RATE alone (10_cadence_time.md R393). -/
theorem Dev.sec_congr {d e : Dev} (ht : e.time = d.time) (hr : e.rd TIME_RATE = d.rd TIME_RATE) : e.sec = d.sec := by
  unfold Dev.sec Dev.taiNs Dev.taiNsAt Dev.taiUnitsAt Dev.rate
  rw [ht, hr]

/-! ### What an effect at one port touches -/

/-- An effect at a port touches the listed registers and, of the ports, that one; no tile. -/
structure PortFrame (m : Nat) (l : List Nat) (d e : Dev) : Prop where
  regs : RegsKeep l d e
  ports : ∀ x, x ≠ m → e.port x = d.port x
  tiles : e.tiles = d.tiles

theorem PortFrame.refl (m : Nat) (d : Dev) : PortFrame m [] d d := ⟨RegsKeep.refl _ d, fun _ _ => rfl, rfl⟩

theorem PortFrame.trans {m : Nat} {l k : List Nat} {a b c : Dev} (h : PortFrame m l a b) (g : PortFrame m k b c) :
    PortFrame m (l ++ k) a c where
  regs := (h.regs.mono (List.subset_append_left l k)).trans (g.regs.mono (List.subset_append_right l k))
  ports x hx := (g.ports x hx).trans (h.ports x hx)
  tiles := g.tiles.trans h.tiles

theorem PortFrame.mono {m : Nat} {l k : List Nat} {d e : Dev} (h : PortFrame m l d e) (s : l ⊆ k) : PortFrame m k d e :=
  ⟨h.regs.mono s, h.ports, h.tiles⟩

theorem PortFrame.of_onlyRegs {l : List Nat} {d e : Dev} (m : Nat) (h : OnlyRegs l d e) : PortFrame m l d e where
  regs := h.2
  ports _ _ := by rw [h.1]; rfl
  tiles := by rw [h.1]

theorem portFrame_modPort (m : Nat) (f : MemPort → MemPort) (d : Dev) : PortFrame m [] d (d.modPort m f) :=
  ⟨fun _ _ => rfl, fun _ hx => Dev.port_modPort_other d f hx, rfl⟩

theorem portFrame_portRecord (m cls kind unit synd : Nat) (d : Dev) : PortFrame m [] d (portRecord m cls kind unit synd d) :=
  ⟨fun _ _ => rfl, fun _ _ => rfl, rfl⟩

theorem portRecord_length (m cls kind unit synd : Nat) (d : Dev) :
    (portRecord m cls kind unit synd d).flt.pendingRecords.length = d.flt.pendingRecords.length + 1 := by
  simp [portRecord, Dev.record]

/-! ### Retirement begins (R382) -/

theorem retire_frame (m page : Nat) (d : Dev) : PortFrame m [MEMP_STATUS_MP m] d (retire m page d) := by
  unfold retire
  dsimp only
  split
  · exact (PortFrame.refl m d).mono (by simp)
  · split
    · exact (PortFrame.of_onlyRegs m (onlyRegs_wr d _ _)).trans (portFrame_portRecord ..)
    · exact (portFrame_modPort ..).mono (by simp)

/-! ### A line is read (R373, R378 to R380) -/

section
variable {m line src : Nat} {x : ExtMem} {d : Dev}

/-- The stack page of a line. -/
def linePage (d : Dev) (line : Nat) : Nat := (memMap (joinGib d) (64 * line)).2 / 4096

theorem lineRead_clean (h : line ∉ x.poison) : lineRead m line src 0 x d =
    ({ bytes := x.read (64 * line) 64, poison := false, writes := [] }, count48 (MEMP_RD_LINES_LO m) 1 d) := by
  simp [lineRead, h]

theorem lineRead_poisoned (h : line ∈ x.poison) : lineRead m line src 0 x d =
    ({ bytes := x.read (64 * line) 64, poison := true, writes := [] },
      (count48 (MEMP_RD_LINES_LO m) 1 d).bump (MEMP_POISON_COUNT m)) := by
  simp [lineRead, h]

theorem lineRead_ce (h : line ∉ x.poison) : lineRead m line src 1 x d =
    ({ bytes := x.read (64 * line) 64, poison := false, writes := [] },
      lineCe m (linePage d line) (count48 (MEMP_RD_LINES_LO m) 1 d)) := by
  simp [lineRead, h, linePage]

/-- The free bytes of an uncorrectable line. -/
def lostBytes (d : Dev) : List Byte := (d.freeN 64).1.map fun v => BitVec.ofNat 8 v

theorem lineRead_ue (h : line ∉ x.poison) : lineRead m line src 2 x d =
    (let e := count48 (MEMP_RD_LINES_LO m) 1 d
     ({ bytes := lostBytes e, poison := true, writes := [.lost line (lostBytes e)] },
      lineUe m (memMap (joinGib d) (64 * line)).2 src (e.freeN 64).2)) := by
  simp [lineRead, h, lostBytes]

end

theorem count48_onlyRegs (a n : Nat) (d : Dev) : OnlyRegs [a, a + 4] d (count48 a n d) := onlyRegs_wr64 d _ _

theorem count48_rd64 (a n : Nat) (d : Dev) : (count48 a n d).rd64 a = (d.rd64 a + n) % 2 ^ 48 := by
  rw [count48, Dev.rd64_wr64_same]
  omega

theorem freeN_length (d : Dev) (n : Nat) : (d.freeN n).1.length = n := by
  induction n generalizing d with
  | zero => rfl
  | succ n ih => simp [Dev.freeN, ih]

theorem freeN_only (d : Dev) (n : Nat) : (d.freeN n).2 = { d with freeCtr := (d.freeN n).2.freeCtr } := by
  induction n generalizing d with
  | zero => rfl
  | succ n ih => exact ih d.free.2

theorem lostBytes_length (d : Dev) : (lostBytes d).length = 64 := by simp [lostBytes, freeN_length]

/-! ### A correctable error (R379) -/

/-- A correctable error of a page is counted. -/
def ceCounted (m page : Nat) (d : Dev) : Dev :=
  (d.bump (MEMP_CE_COUNT m)).modPort m fun p =>
    { p with pageCe := kvPut p.pageCe page (kvGetD p.pageCe 0 page + 1), ceSince := p.ceSince + 1 }

/-- A correctable error is counted and writes a record unless this second has one. -/
def ceNoted (m page : Nat) (d : Dev) : Dev :=
  let e := ceCounted m page d
  if (e.port m).ceSec = some e.sec then e
  else portRecord m 0x10 3 (pageUnit m page) (e.port m).ceSince (e.modPort m fun p => { p with ceSince := 0, ceSec := some e.sec })

theorem ceCounted_frame (m page : Nat) (d : Dev) : PortFrame m [MEMP_CE_COUNT m] d (ceCounted m page d) :=
  (PortFrame.of_onlyRegs m (onlyRegs_wr d _ _)).trans (portFrame_modPort ..)

theorem ceNoted_frame (m page : Nat) (d : Dev) : PortFrame m [MEMP_CE_COUNT m] d (ceNoted m page d) := by
  unfold ceNoted
  dsimp only
  split
  · exact ceCounted_frame m page d
  · exact ((ceCounted_frame m page d).trans (portFrame_modPort ..)).trans (portFrame_portRecord ..)

theorem ceNoted_count (m page : Nat) (d : Dev) : (ceNoted m page d).rd (MEMP_CE_COUNT m) = satAdd (d.rd (MEMP_CE_COUNT m)) 1 := by
  have h : (ceCounted m page d).rd (MEMP_CE_COUNT m) = satAdd (d.rd (MEMP_CE_COUNT m)) 1 := Dev.rd_bump_same d _
  unfold ceNoted
  dsimp only
  split <;> exact h

theorem ceNoted_only (m page : Nat) (d : Dev) : ceNoted m page d =
    { d with regs := (ceNoted m page d).regs, memp := (ceNoted m page d).memp, flt := (ceNoted m page d).flt } := by
  unfold ceNoted
  dsimp only
  split <;> rfl

theorem ceNoted_records {m page : Nat} {d : Dev} (h : TIME_RATE ≠ MEMP_CE_COUNT m) :
    (ceNoted m page d).flt.pendingRecords.length =
      d.flt.pendingRecords.length + (if (d.port m).ceSec = some d.sec then 0 else 1) := by
  have hsec : (ceCounted m page d).sec = d.sec := Dev.sec_congr rfl (Dev.rd_bump_other d h)
  have hport : ((ceCounted m page d).port m).ceSec = (d.port m).ceSec := by simp [ceCounted]
  unfold ceNoted
  dsimp only
  rw [hport, hsec]
  split
  · rfl
  · exact portRecord_length ..

theorem lineCe_of_no_retirement {m page : Nat} {d : Dev} (h : bitOf (d.rd (MEMP_RETIRE_CFG m)) 31 = false) :
    lineCe m page d = ceNoted m page d := by
  have hcfg : (ceNoted m page d).rd (MEMP_RETIRE_CFG m) = d.rd (MEMP_RETIRE_CFG m) :=
    (ceNoted_frame m page d).regs _ (by simp)
  show (if bitOf ((ceNoted m page d).rd (MEMP_RETIRE_CFG m)) 31 && _ then _ else _) = _
  rw [hcfg, h]
  rfl

/-! ### An uncorrectable error (R380) -/

/-- The registers of a port that an uncorrectable error can change. -/
def ueRegs (m : Nat) : List Nat := [MEMP_UE_COUNT m, MEMP_FIRST_UE_LO m, MEMP_FIRST_UE_HI m, MEMP_STATUS_MP m]

/-- An uncorrectable error at a stack offset is counted, and the first is noted. -/
def ueCounted (m off : Nat) (d : Dev) : Dev :=
  let d := d.bump (MEMP_UE_COUNT m)
  if bitOf (d.rd (MEMP_FIRST_UE_HI m)) 31 then d
  else (d.wrN (MEMP_FIRST_UE_LO m) off).wrN (MEMP_FIRST_UE_HI m) (2 ^ 31 + off / 2 ^ 32 % 16)

theorem ueCounted_frame (m off : Nat) (d : Dev) :
    PortFrame m [MEMP_UE_COUNT m, MEMP_FIRST_UE_LO m, MEMP_FIRST_UE_HI m] d (ueCounted m off d) := by
  have hb : PortFrame m [MEMP_UE_COUNT m] d (d.bump (MEMP_UE_COUNT m)) := .of_onlyRegs m (onlyRegs_wr d _ _)
  unfold ueCounted
  dsimp only
  split
  · exact hb.mono (by simp)
  · exact (hb.trans (.of_onlyRegs m (onlyRegs_wr _ _ _))).trans (.of_onlyRegs m (onlyRegs_wr _ _ _))

theorem ueCounted_count (m off : Nat) (d : Dev) : (ueCounted m off d).rd (MEMP_UE_COUNT m) = satAdd (d.rd (MEMP_UE_COUNT m)) 1 := by
  unfold ueCounted
  dsimp only
  split
  · exact Dev.rd_bump_same d _
  · rw [Dev.rd_wrN_other _ _ (by simp), Dev.rd_wrN_other _ _ (by simp), Dev.rd_bump_same]

theorem lineUe_eq (m off src : Nat) (d : Dev) : lineUe m off src d =
    retire m (off / 4096) (portRecord m 0x11 3 (pageUnit m (off / 4096)) (off / 64 % 64 + src * 2 ^ 8) (ueCounted m off d)) := rfl

theorem lineUe_frame (m off src : Nat) (d : Dev) : PortFrame m (ueRegs m) d (lineUe m off src d) := by
  rw [lineUe_eq]
  exact ((ueCounted_frame m off d).trans (portFrame_portRecord ..)).trans (retire_frame ..)

theorem lineUe_count (m off src : Nat) (d : Dev) : (lineUe m off src d).rd (MEMP_UE_COUNT m) = satAdd (d.rd (MEMP_UE_COUNT m)) 1 := by
  rw [lineUe_eq, (retire_frame ..).regs _ (by simp)]
  exact ueCounted_count m off d

/-! ### The scrubber (R381) -/

/-- The pass has turned to its next line; its end counts the pass and resets the counts of the port. -/
def scrubTurned (m k : Nat) (d : Dev) : Dev :=
  let d := d.modPort m fun p => { p with scrubLine := if stackLines ≤ k + 1 then 0 else k + 1 }
  if stackLines ≤ k + 1 then countsReset m (d.wrF (MEMP_SCRUB_POS m) 31 16 (d.rdF (MEMP_SCRUB_POS m) 31 16 + 1)) else d

/-- The pass has turned to its next line, and its position is shown. -/
def scrubMoved (m k : Nat) (d : Dev) : Dev :=
  (scrubTurned m k d).wrF (MEMP_SCRUB_POS m) 15 0 (((scrubTurned m k d).port m).scrubLine * 65536 / stackLines)

theorem scrubMem_of_off {m err : Nat} {x : ExtMem} {d : Dev}
    (h : ¬(bitOf (d.rd (MEMP_SCRUB_CFG m)) 0 = true ∧ portFailed d m = false)) : scrubMem m err x d = (d, []) := by
  unfold scrubMem
  rw [if_neg (by simpa using h)]

theorem scrubMem_of_on {m err : Nat} {x : ExtMem} {d : Dev}
    (h : bitOf (d.rd (MEMP_SCRUB_CFG m)) 0 = true ∧ portFailed d m = false) : scrubMem m err x d =
      (let r := lineRead m (memUnmap (joinGib d) m (64 * (d.port m).scrubLine) / 64) 1 err x d
       (scrubMoved m (d.port m).scrubLine r.2, r.1.writes)) := by
  unfold scrubMem
  rw [if_pos (by simpa using h)]
  simp only [decide_eq_true_eq]
  rfl

theorem scrubTurned_frame (m k : Nat) (d : Dev) : PortFrame m [MEMP_SCRUB_POS m] d (scrubTurned m k d) := by
  unfold scrubTurned
  dsimp only
  split
  · exact ((portFrame_modPort ..).trans (.of_onlyRegs m (onlyRegs_wr _ _ _))).trans (portFrame_modPort ..)
  · exact (portFrame_modPort ..).mono (by simp)

theorem scrubMoved_frame (m k : Nat) (d : Dev) : PortFrame m [MEMP_SCRUB_POS m] d (scrubMoved m k d) :=
  ((scrubTurned_frame m k d).trans (.of_onlyRegs m (onlyRegs_wr _ _ _))).mono (by simp)

theorem scrubMoved_only (m k : Nat) (d : Dev) :
    scrubMoved m k d = { d with regs := (scrubMoved m k d).regs, memp := (scrubMoved m k d).memp } := by
  unfold scrubMoved scrubTurned
  dsimp only
  split <;> rfl

theorem scrubTurned_line (m k : Nat) (d : Dev) : ((scrubTurned m k d).port m).scrubLine = if stackLines ≤ k + 1 then 0 else k + 1 := by
  unfold scrubTurned
  dsimp only
  split <;> simp [countsReset, Dev.wrF]

theorem scrubTurned_of_last {m k : Nat} (d : Dev) (h : stackLines ≤ k + 1) :
    (scrubTurned m k d).rdF (MEMP_SCRUB_POS m) 31 16 = (d.rdF (MEMP_SCRUB_POS m) 31 16 + 1) % 65536 ∧
      ((scrubTurned m k d).port m).pageCe = [] := by
  unfold scrubTurned
  dsimp only
  rw [if_pos h]
  exact ⟨Dev.rdF_wrF_same _ _ _ (by decide), by simp [countsReset, Dev.wrF]⟩

/-- The pass of a port that was at line `k` has moved on. -/
def ScrubMoves (m k : Nat) (d e : Dev) : Prop :=
  (e.port m).scrubLine = (if stackLines ≤ k + 1 then 0 else k + 1) ∧
  e.rdF (MEMP_SCRUB_POS m) 15 0 = (e.port m).scrubLine * 65536 / stackLines % 65536 ∧
  (stackLines ≤ k + 1 → e.rdF (MEMP_SCRUB_POS m) 31 16 = (d.rdF (MEMP_SCRUB_POS m) 31 16 + 1) % 65536 ∧ (e.port m).pageCe = []) ∧
  (∀ x, x ≠ m → e.port x = d.port x) ∧ e.tiles = d.tiles

theorem scrubMoved_moves {m : Nat} {l : List Nat} {d e : Dev} (k : Nat) (h : PortFrame m l d e) (hl : MEMP_SCRUB_POS m ∉ l) :
    ScrubMoves m k d (scrubMoved m k e) := by
  have hpos : e.rdF (MEMP_SCRUB_POS m) 31 16 = d.rdF (MEMP_SCRUB_POS m) 31 16 := by
    unfold Dev.rdF
    rw [h.regs _ hl]
  have hall := h.trans (scrubMoved_frame m k e)
  refine ⟨scrubTurned_line m k e, Dev.rdF_wrF_same _ _ _ (by decide), fun hlast => ?_, hall.ports, hall.tiles⟩
  obtain ⟨hpass, hcounts⟩ := scrubTurned_of_last e hlast
  exact ⟨(Dev.rdF_wrF_other _ _ (.inr (.inr (by decide)))).trans (hpos ▸ hpass), hcounts⟩

theorem exec_memScrubStep {m : Nat} (hm : m < 8) (err : Nat) (s : State) :
    exec (.memScrubStep m err) s = onDevMem (scrubMem m err) s := guardUnit_pos _ (decide_eq_true hm)

/-- The line that the scrubber of a port reads next. -/
def scrubTarget (d : Dev) (m : Nat) : Nat := memUnmap (joinGib d) m (64 * (d.port m).scrubLine) / 64

/-- The lines read at a port have been counted by one. -/
def lineCounted (m : Nat) (d : Dev) : Dev := count48 (MEMP_RD_LINES_LO m) 1 d

theorem lineCounted_frame (m : Nat) (d : Dev) : PortFrame m [MEMP_RD_LINES_LO m, MEMP_RD_LINES_LO m + 4] d (lineCounted m d) :=
  .of_onlyRegs m (count48_onlyRegs _ 1 d)

theorem rd64_congr {d e : Dev} {a : Nat} (h : e.rd a = d.rd a) (h4 : e.rd (a + 4) = d.rd (a + 4)) : e.rd64 a = d.rd64 a := by
  unfold Dev.rd64
  rw [h, h4]

theorem scrub_clean {m : Nat} {x : ExtMem} {d : Dev} (hon : bitOf (d.rd (MEMP_SCRUB_CFG m)) 0 = true ∧ portFailed d m = false)
    (h : scrubTarget d m ∉ x.poison) : scrubMem m 0 x d = (scrubMoved m (d.port m).scrubLine (lineCounted m d), []) := by
  rw [scrubMem_of_on hon, ← scrubTarget, lineRead_clean h]
  rfl

theorem scrub_poisoned {m : Nat} {x : ExtMem} {d : Dev} (hon : bitOf (d.rd (MEMP_SCRUB_CFG m)) 0 = true ∧ portFailed d m = false)
    (h : scrubTarget d m ∈ x.poison) :
    scrubMem m 0 x d = (scrubMoved m (d.port m).scrubLine ((lineCounted m d).bump (MEMP_POISON_COUNT m)), []) := by
  rw [scrubMem_of_on hon, ← scrubTarget, lineRead_poisoned h]
  rfl

theorem scrub_ce {m : Nat} {x : ExtMem} {d : Dev} (hon : bitOf (d.rd (MEMP_SCRUB_CFG m)) 0 = true ∧ portFailed d m = false)
    (h : scrubTarget d m ∉ x.poison) (hr : bitOf (d.rd (MEMP_RETIRE_CFG m)) 31 = false) :
    scrubMem m 1 x d =
      (scrubMoved m (d.port m).scrubLine (ceNoted m (linePage d (scrubTarget d m)) (lineCounted m d)), []) := by
  have hr' : bitOf ((lineCounted m d).rd (MEMP_RETIRE_CFG m)) 31 = false := by
    rw [(lineCounted_frame m d).regs _ (by simp)]
    exact hr
  rw [scrubMem_of_on hon, ← scrubTarget, lineRead_ce h, ← lineCounted, lineCe_of_no_retirement hr']

/-- The part after an uncorrectable error in the line that the scrubber reads, before the pass moves on. -/
def scrubLost (m : Nat) (d : Dev) : Dev :=
  lineUe m (memMap (joinGib d) (64 * scrubTarget d m)).2 1 ((lineCounted m d).freeN 64).2

theorem scrub_ue {m : Nat} {x : ExtMem} {d : Dev} (hon : bitOf (d.rd (MEMP_SCRUB_CFG m)) 0 = true ∧ portFailed d m = false)
    (h : scrubTarget d m ∉ x.poison) :
    scrubMem m 2 x d =
      (scrubMoved m (d.port m).scrubLine (scrubLost m d), [.lost (scrubTarget d m) (lostBytes (lineCounted m d))]) := by
  rw [scrubMem_of_on hon, ← scrubTarget, lineRead_ue h]
  rfl

theorem freeN_frame (m n : Nat) (d : Dev) : PortFrame m [] d (d.freeN n).2 := by
  rw [freeN_only]
  exact ⟨fun _ _ => rfl, fun _ _ => rfl, rfl⟩

theorem scrubLost_frame (m : Nat) (d : Dev) :
    PortFrame m ([MEMP_RD_LINES_LO m, MEMP_RD_LINES_LO m + 4] ++ ueRegs m) d (scrubLost m d) :=
  ((lineCounted_frame m d).trans (freeN_frame m 64 _)).trans (lineUe_frame ..)

theorem scrubLost_count (m : Nat) (d : Dev) : (scrubLost m d).rd (MEMP_UE_COUNT m) = satAdd (d.rd (MEMP_UE_COUNT m)) 1 := by
  unfold scrubLost
  rw [lineUe_count, (freeN_frame m 64 _).regs _ (by simp), (lineCounted_frame m d).regs _ (by simp)]

/-! ### A line is lost (R380) -/

theorem countWrites_lost (line : Nat) (bs : List Byte) (d : Dev) : countWrites [.lost line bs] d = d := by
  simp [countWrites, MemWrite.lines]

theorem writeAll_lost_poison (x : ExtMem) (line l : Nat) (bs : List Byte) :
    l ∈ (x.writeAll [.lost line bs]).poison ↔ l = line ∨ l ∈ x.poison := mem_setIns ..

theorem writeAll_lost_byteAt {x : ExtMem} {line a : Nat} {bs : List Byte} (hb : bs.length = 64)
    (h : a < 64 * line ∨ 64 * line + 64 ≤ a) : (x.writeAll [.lost line bs]).byteAt a = x.byteAt a := by
  refine (byteAt_writeBytes x.bytes _ (64 * line) bs a).trans ?_
  rw [if_neg (by omega)]
  rfl

/-! ### Retirement ends, counts return to 0 (R382) -/

/-- The oldest page in retirement is remapped: the port holds it so. -/
def MemPort.retired (p : MemPort) (page : Nat) (rest : List Nat) : MemPort :=
  { p with retiring := rest, remap := if p.remap.contains page then p.remap else p.remap ++ [page], pageCe := kvDel p.pageCe page }

theorem mem_retired_remap (p : MemPort) (page : Nat) (rest : List Nat) (x : Nat) :
    x ∈ (p.retired page rest).remap ↔ x = page ∨ x ∈ p.remap := by
  unfold MemPort.retired
  by_cases h : page ∈ p.remap
  · simp only [List.contains_eq_mem, h, decide_true, if_true]
    exact ⟨.inr, fun hx => hx.elim (fun he => he ▸ h) id⟩
  · simp [h, or_comm]

theorem retireDone_of_nil {m : Nat} {d : Dev} (h : (d.port m).retiring = []) : retireDone m d = d := by
  simp [retireDone, h]

/-- The flash image keeps the pages of a port. -/
def Dev.pagesStored (d : Dev) (m : Nat) (pages : List Nat) : Dev :=
  { d with boot := { d.boot with store := { d.boot.store with pages := kvPut d.boot.store.pages m pages } } }

theorem retireDone_of_cons {m page : Nat} {rest : List Nat} {d : Dev} (h : (d.port m).retiring = page :: rest) :
    retireDone m d = ((d.modPort m (·.retired page rest)).pagesStored m ((d.port m).retired page rest).remap).wrF
      (MEMP_RETIRED m) 12 0 ((d.port m).retired page rest).remap.length := by
  have hport : (d.modPort m (·.retired page rest)).port m = (d.port m).retired page rest := Dev.port_modPort_same ..
  unfold retireDone
  rw [h]
  show ((d.modPort m (·.retired page rest)).pagesStored m ((d.modPort m (·.retired page rest)).port m).remap).wrF _ 12 0
    ((d.modPort m (·.retired page rest)).port m).remap.length = _
  rw [hport]

theorem retireDone_spec {m page : Nat} {rest : List Nat} {d : Dev} (h : (d.port m).retiring = page :: rest) :
    let e := retireDone m d
    (e.port m).retiring = rest ∧ (∀ x, x ∈ (e.port m).remap ↔ x = page ∨ x ∈ (d.port m).remap) ∧
    e.rdF (MEMP_RETIRED m) 12 0 = (e.port m).remap.length % 8192 ∧ (∀ x, x ≠ m → e.port x = d.port x) ∧
    kvGet? e.boot.store.pages m = some (e.port m).remap ∧ OnlyRegs [MEMP_RETIRED m] { d with memp := e.memp, boot := e.boot } e := by
  have hport : (retireDone m d).port m = (d.port m).retired page rest := by
    rw [retireDone_of_cons h]
    exact Dev.port_modPort_same d m (·.retired page rest)
  dsimp only
  rw [hport, retireDone_of_cons h]
  exact ⟨rfl, mem_retired_remap _ _ _, Dev.rdF_wrF_same _ _ _ (by decide), fun x hx => Dev.port_modPort_other d (·.retired page rest) hx,
    kvGet?_put_same .., onlyRegs_wr _ _ _⟩

theorem countsPeriod_eq (m : Nat) (d : Dev) : countsPeriod m d =
    if bitOf (d.rd (MEMP_SCRUB_CFG m)) 0 = false ∧
      (d.port m).resetTick + usTicks (3600000000 * d.rdF (MEMP_SCRUB_CFG m) 15 8) ≤ d.time.tb then countsReset m d else d := by
  unfold countsPeriod Dev.rdF
  simp

/-! ### Temperature (R383) -/

/-- STATUS_MP at a temperature in quarter °C. -/
def hbmWord (t : Int) (w : Word) : Word :=
  setFld (setBit (setBit w 2 (above3 (bitOf w 2) t 341 340)) 3 (above3 (bitOf w 3) t 380 380)) 5 4
    (if above3 (decide (2 ≤ fld w 5 4)) t 372 372 then 2 else if above3 (decide (1 ≤ fld w 5 4)) t 360 360 then 1 else 0)

theorem hbmWord_refresh (t : Int) (w : Word) : bitOf (hbmWord t w) 2 = if bitOf w 2 then decide (328 < t) else decide (341 ≤ t) := by
  unfold hbmWord
  rw [bitOf_setFld_other _ _ (.inl (by decide)), bitOf_setBit_other _ _ (by decide), bitOf_setBit_same _ _ _ (by decide)]
  rfl

theorem hbmWord_hot (t : Int) (w : Word) : bitOf (hbmWord t w) 3 = if bitOf w 3 then decide (368 < t) else decide (380 ≤ t) := by
  unfold hbmWord
  rw [bitOf_setFld_other _ _ (.inl (by decide)), bitOf_setBit_same _ _ _ (by decide)]
  rfl

theorem hbmWord_throttle (t : Int) (w : Word) : fld (hbmWord t w) 5 4 =
    if above3 (decide (2 ≤ fld w 5 4)) t 372 372 then 2 else if above3 (decide (1 ≤ fld w 5 4)) t 360 360 then 1 else 0 := by
  unfold hbmWord
  rw [fld_setFld_same _ _ (by decide)]
  split
  · rfl
  · split <;> rfl

/-- The bits above and below the conditions stay. -/
theorem hbmWord_rest (t : Int) (w : Word) {hi lo : Nat} (h : hi < 2 ∨ 5 < lo) : fld (hbmWord t w) hi lo = fld w hi lo := by
  unfold hbmWord
  rw [fld_setFld_other _ _ (by omega), fld_setBit_other _ _ (by omega), fld_setBit_other _ _ (by omega)]

theorem throttleCount_regsKeep (m : Nat) (d : Dev) : RegsKeep [MEMP_THROTTLE_US m] d (throttleCount m d) := by
  intro a ha
  unfold throttleCount
  rw [Dev.rd_modPort, Dev.rd_wr_other _ _ (by simpa using ha)]

/-- The port has counted its throttle time, and shows its conditions and its temperature. -/
def hbmShown (m temp : Nat) (d : Dev) : Dev :=
  ((throttleCount m d).wr (MEMP_STATUS_MP m) (hbmWord (toSigned 16 temp) (d.rd (MEMP_STATUS_MP m)))).wrF (MEMP_TEMP m) 15 0 temp

/-- A change of the conditions writes a record. -/
def hbmNoted (m temp : Nat) (d : Dev) : Dev :=
  if hbmWord (toSigned 16 temp) (d.rd (MEMP_STATUS_MP m)) = d.rd (MEMP_STATUS_MP m) then hbmShown m temp d
  else statusRecord m (hbmShown m temp d)

theorem hbmPoll_eq (m temp : Nat) (d : Dev) : hbmPoll m temp d =
    if (List.range 8).any (mempHot (hbmNoted m temp d)) then hbmNoted m temp d else hbmRelease (hbmNoted m temp d) := by
  have hw : (throttleCount m d).rd (MEMP_STATUS_MP m) = d.rd (MEMP_STATUS_MP m) := throttleCount_regsKeep m d _ (by simp)
  unfold hbmPoll hbmNoted hbmShown hbmWord
  dsimp only
  rw [hw]

theorem hbmShown_status (m temp : Nat) (d : Dev) :
    (hbmShown m temp d).rd (MEMP_STATUS_MP m) = hbmWord (toSigned 16 temp) (d.rd (MEMP_STATUS_MP m)) :=
  (Dev.rd_wrF_other _ _ _ _ (by simp)).trans (Dev.rd_wr_same ..)

@[simp] theorem statusRecord_rd (m a : Nat) (d : Dev) : (statusRecord m d).rd a = d.rd a := rfl

theorem hbmNoted_rd (m temp : Nat) (d : Dev) (a : Nat) : (hbmNoted m temp d).rd a = (hbmShown m temp d).rd a := by
  unfold hbmNoted
  split
  · rfl
  · exact statusRecord_rd ..

theorem hbmShown_shape (m temp : Nat) (d : Dev) : ∃ r p, hbmShown m temp d = { d with regs := r, memp := p } := by
  unfold hbmShown throttleCount Dev.wrF Dev.wr Dev.modPort
  exact ⟨_, _, rfl⟩

theorem hbmNoted_only (m temp : Nat) (d : Dev) : hbmNoted m temp d =
    { d with regs := (hbmNoted m temp d).regs, memp := (hbmNoted m temp d).memp, flt := (hbmNoted m temp d).flt } := by
  obtain ⟨r, p, h⟩ := hbmShown_shape m temp d
  unfold hbmNoted
  rw [h]
  split <;> rfl

theorem hbmNoted_regsKeep (m temp : Nat) (d : Dev) :
    RegsKeep [MEMP_STATUS_MP m, MEMP_TEMP m, MEMP_THROTTLE_US m] d (hbmNoted m temp d) := by
  intro a ha
  simp only [List.mem_cons, List.not_mem_nil, or_false, not_or] at ha
  obtain ⟨hs, ht, hu⟩ := ha
  rw [hbmNoted_rd]
  unfold hbmShown
  rw [Dev.rd_wrF_other _ _ _ _ ht, Dev.rd_wr_other _ _ hs]
  exact throttleCount_regsKeep m d a (by simpa using hu)

/-- One record exactly when the status changes. -/
theorem hbmNoted_records (m temp : Nat) (d : Dev) :
    ((hbmNoted m temp d).rd (MEMP_STATUS_MP m) = d.rd (MEMP_STATUS_MP m) → (hbmNoted m temp d).flt = d.flt) ∧
    ((hbmNoted m temp d).rd (MEMP_STATUS_MP m) ≠ d.rd (MEMP_STATUS_MP m) →
      (hbmNoted m temp d).flt.pendingRecords.length = d.flt.pendingRecords.length + 1) := by
  rw [hbmNoted_rd, hbmShown_status]
  unfold hbmNoted
  split
  · next h => exact ⟨fun _ => rfl, fun hne => absurd h hne⟩
  · next h => exact ⟨fun he => absurd he h, fun _ => portRecord_length ..⟩

/-! ### The HBM cause of OPP requests (12_power_thermal.md R469, R472) -/

theorem hbmRelease_regsKeep (d : Dev) : RegsKeep [PWR_THR_CAUSE] d (hbmRelease d) := by
  unfold hbmRelease
  split
  · exact regsKeep_wr _ _ _
  · exact RegsKeep.refl _ d

theorem hbmRelease_requests (d : Dev) (k : Nat) :
    kvGet? (hbmRelease d).pwr.oppReq k = if k = 6 then none else kvGet? d.pwr.oppReq k := by
  unfold hbmRelease
  split
  · exact kvGet?_del _ 6 k
  · next h =>
    split
    · next hk => simpa [hk] using h
    · rfl

theorem hbmRelease_only (d : Dev) : hbmRelease d =
    { d with regs := (hbmRelease d).regs, pwr := { d.pwr with oppReq := (hbmRelease d).pwr.oppReq } } := by
  unfold hbmRelease
  split <;> rfl

/-- What a poll leaves of the OPP requests: the HBM cause has one only while a stack is at HOT. -/
theorem hbmPoll_cases (m temp : Nat) (d : Dev) :
    (hbmPoll m temp d = hbmNoted m temp d ∧ ∃ x, x < 8 ∧ mempHot (hbmNoted m temp d) x = true) ∨
    (hbmPoll m temp d = hbmRelease (hbmNoted m temp d) ∧ ∀ x, x < 8 → mempHot (hbmNoted m temp d) x = false) := by
  rw [hbmPoll_eq]
  split
  · next h => exact .inl ⟨rfl, by simpa using h⟩
  · next h => exact .inr ⟨rfl, by simpa using h⟩

theorem hbmPoll_regsKeep (m temp : Nat) (d : Dev) : RegsKeep [PWR_THR_CAUSE] (hbmNoted m temp d) (hbmPoll m temp d) := by
  obtain ⟨h, -⟩ | ⟨h, -⟩ := hbmPoll_cases m temp d <;> rw [h]
  · exact RegsKeep.refl _ _
  · exact hbmRelease_regsKeep _

/-- A register of a memory port is none of the power page. -/
theorem mempReg_ne_thrCause (m o : Nat) : mempBase m + o ≠ PWR_THR_CAUSE := by
  simp only [mempBase, PWR_THR_CAUSE]
  omega

theorem hbmPoll_mempReg (m temp x o : Nat) (d : Dev) : (hbmPoll m temp d).rd (mempBase x + o) = (hbmNoted m temp d).rd (mempBase x + o) :=
  hbmPoll_regsKeep m temp d _ (by simp [mempReg_ne_thrCause])

theorem hbmPoll_hot (m temp x : Nat) (d : Dev) : mempHot (hbmPoll m temp d) x = mempHot (hbmNoted m temp d) x :=
  congrArg (bitOf · 3) (hbmPoll_mempReg ..)

/-! ### A step of the scrubber, by what it finds -/

theorem portFrame_bump (m a : Nat) (d : Dev) : PortFrame m [a] d (d.bump a) := .of_onlyRegs m (onlyRegs_wr d a _)

theorem scrubMoved_rd_other {m k a : Nat} {d : Dev} (h : a ≠ MEMP_SCRUB_POS m) : (scrubMoved m k d).rd a = d.rd a :=
  (scrubMoved_frame m k d).regs a (by simpa using h)

theorem scrubMoved_of_regsOnly {m k : Nat} {d e : Dev} (h : RegsOnly d e) :
    scrubMoved m k e = { d with regs := (scrubMoved m k e).regs, memp := (scrubMoved m k e).memp } := by
  unfold RegsOnly at h
  generalize e.regs = r at h
  subst h
  exact scrubMoved_only m k _

theorem lineCounted_regsOnly (m : Nat) (d : Dev) : RegsOnly d (lineCounted m d) := (count48_onlyRegs _ 1 d).1

theorem scrub_clean_spec (m k : Nat) (d : Dev) :
    let e := scrubMoved m k (lineCounted m d)
    ScrubMoves m k d e ∧ e.rd64 (MEMP_RD_LINES_LO m) = (d.rd64 (MEMP_RD_LINES_LO m) + 1) % 2 ^ 48 ∧
      RegsKeep [MEMP_RD_LINES_LO m, MEMP_RD_LINES_LO m + 4, MEMP_SCRUB_POS m] d e ∧ e = { d with regs := e.regs, memp := e.memp } := by
  have hframe := lineCounted_frame m d
  refine ⟨scrubMoved_moves k hframe (by simp), ?_, (hframe.trans (scrubMoved_frame m k _)).regs, ?_⟩
  · exact (rd64_congr (scrubMoved_rd_other (by simp)) (scrubMoved_rd_other (by simp))).trans (count48_rd64 ..)
  · exact scrubMoved_of_regsOnly (lineCounted_regsOnly m d)

theorem scrub_poisoned_spec (m k : Nat) (d : Dev) :
    let e := scrubMoved m k ((lineCounted m d).bump (MEMP_POISON_COUNT m))
    ScrubMoves m k d e ∧ e.rd (MEMP_POISON_COUNT m) = satAdd (d.rd (MEMP_POISON_COUNT m)) 1 ∧
      RegsKeep [MEMP_RD_LINES_LO m, MEMP_RD_LINES_LO m + 4, MEMP_POISON_COUNT m, MEMP_SCRUB_POS m] d e ∧
      e = { d with regs := e.regs, memp := e.memp } := by
  have hframe := (lineCounted_frame m d).trans (portFrame_bump m (MEMP_POISON_COUNT m) _)
  refine ⟨scrubMoved_moves k hframe (by simp), ?_, (hframe.trans (scrubMoved_frame m k _)).regs, ?_⟩
  · rw [scrubMoved_rd_other (by simp), Dev.rd_bump_same, (lineCounted_frame m d).regs _ (by simp)]
  · exact scrubMoved_of_regsOnly ((lineCounted_regsOnly m d).trans (regsOnly_wr _ _ _))

theorem mempReg_ne_timeRate (m o : Nat) : TIME_RATE ≠ mempBase m + o := by
  simp only [TIME_RATE, mempBase]
  omega

theorem scrub_ce_spec (m k page : Nat) (d : Dev) :
    let e := scrubMoved m k (ceNoted m page (lineCounted m d))
    ScrubMoves m k d e ∧ e.rd (MEMP_CE_COUNT m) = satAdd (d.rd (MEMP_CE_COUNT m)) 1 ∧
      e.flt.pendingRecords.length = d.flt.pendingRecords.length + (if (d.port m).ceSec = some d.sec then 0 else 1) ∧
      RegsKeep [MEMP_RD_LINES_LO m, MEMP_RD_LINES_LO m + 4, MEMP_CE_COUNT m, MEMP_SCRUB_POS m] d e ∧
      e = { d with regs := e.regs, memp := e.memp, flt := e.flt } := by
  have hframe := (lineCounted_frame m d).trans (ceNoted_frame m page (lineCounted m d))
  have hsec : (lineCounted m d).sec = d.sec := Dev.sec_congr rfl ((lineCounted_frame m d).regs _
    (by simpa only [List.mem_cons, List.not_mem_nil, or_false, not_or] using ⟨mempReg_ne_timeRate m 0x128, mempReg_ne_timeRate m 0x12C⟩))
  have honly := scrubMoved_only m k (ceNoted m page (lineCounted m d))
  refine ⟨scrubMoved_moves k hframe (by simp), ?_, ?_, (hframe.trans (scrubMoved_frame m k _)).regs, ?_⟩
  · rw [scrubMoved_rd_other (by simp), ceNoted_count, (lineCounted_frame m d).regs _ (by simp)]
  · rw [honly, ← hsec]
    exact ceNoted_records (mempReg_ne_timeRate m 0x10C)
  · rw [honly, ceNoted_only]
    rfl

/-- What an uncorrectable line leaves of the part and of memory. -/
theorem scrub_ue_spec (m k : Nat) (x : ExtMem) (d : Dev) :
    let e := scrubMoved m k (scrubLost m d)
    let line := scrubTarget d m
    let y := x.writeAll [.lost line (lostBytes (lineCounted m d))]
    ScrubMoves m k d e ∧ e.rd (MEMP_UE_COUNT m) = satAdd (d.rd (MEMP_UE_COUNT m)) 1 ∧ line ∈ y.poison ∧
      (∀ l, l ≠ line → (l ∈ y.poison ↔ l ∈ x.poison)) ∧
      (∀ a, (a < 64 * line ∨ 64 * line + 64 ≤ a) → y.byteAt a = x.byteAt a) := by
  refine ⟨scrubMoved_moves k (scrubLost_frame m d) (by simp [ueRegs]), ?_, (writeAll_lost_poison ..).2 (.inl rfl), fun l hl => ?_,
    fun a ha => writeAll_lost_byteAt (lostBytes_length _) ha⟩
  · rw [scrubMoved_rd_other (by simp), scrubLost_count]
  · rw [writeAll_lost_poison, or_iff_right hl]

/-! ### A poll of the temperature -/

theorem hbmPoll_status (m temp : Nat) (d : Dev) :
    (hbmPoll m temp d).rd (MEMP_STATUS_MP m) = hbmWord (toSigned 16 temp) (d.rd (MEMP_STATUS_MP m)) := by
  rw [hbmPoll_mempReg, hbmNoted_rd, hbmShown_status]

theorem hbmPoll_temp (m temp : Nat) (d : Dev) : (hbmPoll m temp d).rdF (MEMP_TEMP m) 15 0 = temp % 65536 := by
  unfold Dev.rdF
  rw [hbmPoll_mempReg, hbmNoted_rd]
  exact Dev.rdF_wrF_same _ _ _ (by decide)

theorem hbmPoll_flt (m temp : Nat) (d : Dev) : (hbmPoll m temp d).flt = (hbmNoted m temp d).flt := by
  obtain ⟨h, -⟩ | ⟨h, -⟩ := hbmPoll_cases m temp d <;> rw [h]
  rw [hbmRelease_only]

theorem hbmNoted_pwr (m temp : Nat) (d : Dev) : (hbmNoted m temp d).pwr = d.pwr := by
  rw [hbmNoted_only]

theorem hbmPoll_pwr (m temp : Nat) (d : Dev) : (hbmPoll m temp d).pwr = { d.pwr with oppReq := (hbmPoll m temp d).pwr.oppReq } := by
  obtain ⟨h, -⟩ | ⟨h, -⟩ := hbmPoll_cases m temp d <;> rw [h]
  · rw [hbmNoted_pwr]
  · rw [hbmRelease_only, hbmNoted_pwr]

theorem hbmPoll_only (m temp : Nat) (d : Dev) : hbmPoll m temp d = { d with
    regs := (hbmPoll m temp d).regs, memp := (hbmPoll m temp d).memp, pwr := (hbmPoll m temp d).pwr, flt := (hbmPoll m temp d).flt } := by
  obtain ⟨h, -⟩ | ⟨h, -⟩ := hbmPoll_cases m temp d <;> rw [h]
  · rw [hbmNoted_only]
  · rw [hbmRelease_only, hbmNoted_only]

/-- The HBM cause has no request once no stack is at HOT; the other causes keep theirs. -/
theorem hbmPoll_requests (m temp k : Nat) (d : Dev) : kvGet? (hbmPoll m temp d).pwr.oppReq k =
    if k = 6 ∧ (List.range 8).all (fun x => !mempHot (hbmPoll m temp d) x) then none else kvGet? d.pwr.oppReq k := by
  simp only [hbmPoll_hot]
  obtain ⟨h, x, hx, hhot⟩ | ⟨h, hcold⟩ := hbmPoll_cases m temp d
  · have hall : (List.range 8).all (fun x => !mempHot (hbmNoted m temp d) x) = false :=
      List.all_eq_false.2 ⟨x, List.mem_range.2 hx, by simp [hhot]⟩
    rw [h, hall, hbmNoted_pwr]
    simp
  · have hall : (List.range 8).all (fun x => !mempHot (hbmNoted m temp d) x) = true :=
      List.all_eq_true.2 fun x hx => by simp [hcold x (List.mem_range.1 hx)]
    rw [h, hall, hbmRelease_requests, hbmNoted_pwr]
    simp

theorem hbmPoll_thrCause {m temp : Nat} {d : Dev} (h : ∃ x, x < 8 ∧ mempHot (hbmPoll m temp d) x = true) :
    (hbmPoll m temp d).rd PWR_THR_CAUSE = d.rd PWR_THR_CAUSE := by
  obtain ⟨x, hx, hhot⟩ := h
  rw [hbmPoll_hot] at hhot
  obtain ⟨he, -⟩ | ⟨-, hcold⟩ := hbmPoll_cases m temp d
  · rw [he]
    exact hbmNoted_regsKeep m temp d _ (by simp [(mempReg_ne_thrCause m _).symm])
  · exact absurd (hhot.symm.trans (hcold x hx)) Bool.noConfusion

theorem hbmPoll_records (m temp : Nat) (d : Dev) :
    ((hbmPoll m temp d).rd (MEMP_STATUS_MP m) = d.rd (MEMP_STATUS_MP m) → (hbmPoll m temp d).flt = d.flt) ∧
    ((hbmPoll m temp d).rd (MEMP_STATUS_MP m) ≠ d.rd (MEMP_STATUS_MP m) →
      (hbmPoll m temp d).flt.pendingRecords.length = d.flt.pendingRecords.length + 1) := by
  rw [hbmPoll_mempReg, hbmPoll_flt]
  exact hbmNoted_records m temp d

/-- The throttle level by the one before: it rises at 90 °C and 93 °C and falls 3 °C below. -/
theorem hbmWord_level (t : Int) (w : Word) :
    (fld w 5 4 = 0 → fld (hbmWord t w) 5 4 = if 372 ≤ t then 2 else if 360 ≤ t then 1 else 0) ∧
    (fld w 5 4 = 1 → fld (hbmWord t w) 5 4 = if 372 ≤ t then 2 else if 348 < t then 1 else 0) ∧
    (fld w 5 4 = 2 → fld (hbmWord t w) 5 4 = if 360 < t then 2 else if 348 < t then 1 else 0) := by
  refine ⟨fun h => ?_, fun h => ?_, fun h => ?_⟩ <;> rw [hbmWord_throttle, h] <;> simp [above3]

theorem hbmPoll_regs (m temp : Nat) (d : Dev) :
    RegsKeep [MEMP_STATUS_MP m, MEMP_TEMP m, MEMP_THROTTLE_US m, PWR_THR_CAUSE] d (hbmPoll m temp d) :=
  ((hbmNoted_regsKeep m temp d).mono (List.subset_append_left _ [PWR_THR_CAUSE])).trans
    ((hbmPoll_regsKeep m temp d).mono (List.subset_append_right [MEMP_STATUS_MP m, MEMP_TEMP m, MEMP_THROTTLE_US m] _))

/-! ### The commands -/

/-- Settles O44: the scrubber's steps are `scrub_clean_spec`, `scrub_poisoned_spec`, `scrub_ce_spec` and `scrub_ue_spec`; the other
commands are `retireDone_spec`, `countsPeriod_eq` and what was said of `hbmPoll`. -/
theorem memoryUpkeep : Obligations.MemoryUpkeep := by
  refine ⟨fun s m hm => ?_, fun s m hm => ⟨fun hnil => ?_, fun page rest hcons => ?_, fun hdue => ?_, fun hdue => ?_⟩,
    fun s m temp hm => ?_⟩
  · have scrub := fun err => exec_memScrubStep hm err s
    refine ⟨fun hoff err => ⟨s, ?_, rfl⟩, fun hon hl => ?_, fun hon hl => ?_, fun hon hl hr => ?_, fun hon hl => ?_⟩
    · rw [scrub, onDevMem, scrubMem_of_off hoff]
      simp
    · refine Gives.onDevMem (scrub 0) ?_ ?_ <;> rw [scrub_clean hon hl]
      exact scrub_clean_spec m _ s.dev
    · refine Gives.onDevMem (scrub 0) ?_ ?_ <;> rw [scrub_poisoned hon hl]
      exact scrub_poisoned_spec m _ s.dev
    · refine Gives.onDevMem (scrub 1) ?_ ?_ <;> rw [scrub_ce hon hl hr]
      exact scrub_ce_spec m _ _ s.dev
    · refine ⟨_, scrub 2, ?_⟩
      dsimp only
      rw [scrub_ue hon hl, countWrites_lost]
      obtain ⟨hmoves, hcount, hline, hlines, hbytes⟩ := scrub_ue_spec m (s.dev.port m).scrubLine s.mem s.dev
      exact ⟨hmoves, hcount, hline, hlines, hbytes, rfl⟩
  · refine Gives.guarded (f := retireDone m) rfl (decide_eq_true hm) ?_
    exact retireDone_of_nil hnil
  · refine Gives.guarded (f := retireDone m) rfl (decide_eq_true hm) ?_
    exact retireDone_spec hcons
  · refine Gives.guarded (f := countsPeriod m) rfl (decide_eq_true hm) ?_
    rw [countsPeriod_eq, if_pos hdue]
    exact ⟨Dev.port_modPort_same .., fun x hx => Dev.port_modPort_other _ _ hx, rfl⟩
  · refine Gives.guarded (f := countsPeriod m) rfl (decide_eq_true hm) ?_
    rw [countsPeriod_eq, if_neg hdue]
  · refine Gives.guarded (f := hbmPoll m temp) rfl (decide_eq_true hm) ?_
    obtain ⟨hsame, hchanged⟩ := hbmPoll_records m temp s.dev
    have hstatus := hbmPoll_status m temp s.dev
    obtain ⟨h0, h1, h2⟩ := hbmWord_level (toSigned 16 temp) (s.dev.rd (MEMP_STATUS_MP m))
    refine ⟨hbmPoll_temp .., ?_, ?_, ?_, ?_, ?_, ?_, ?_, hsame, hchanged, fun k => hbmPoll_requests .., hbmPoll_pwr .., hbmPoll_thrCause,
      hbmPoll_regs m temp s.dev, hbmPoll_only ..⟩ <;> rw [hstatus]
    · exact hbmWord_refresh ..
    · exact hbmWord_hot ..
    · exact h0
    · exact h1
    · exact h2
    · exact hbmWord_rest _ _ (.inl (by decide))
    · exact hbmWord_rest _ _ (.inr (by decide))

end Sys2Proof.Machine

/-! PROOF. Host accesses to external memory: the lines of a range, what writing and reading them gives, and the cases of an
access (09_external_memory.md R366, R367, R375 to R377, R387, 15_bringup_reset_licences.md R570). -/

namespace Sys2Proof.Machine

/-! ### Lines of a range and their ports (R367) -/

/-- The port of an address is that of its 4 KiB page. -/
theorem memMap_port_congr {j a b : Nat} (h : a / 4096 = b / 4096) : (memMap j a).1 = (memMap j b).1 := by
  have hjoin : a < 8 * j * 2 ^ 30 ↔ b < 8 * j * 2 ^ 30 := by omega
  have hpage : (a - 8 * j * 2 ^ 30) / 4096 = (b - 8 * j * 2 ^ 30) / 4096 := by omega
  have hsouth : 4 * (45 - j) * 2 ^ 30 ≤ a - 8 * j * 2 ^ 30 ↔ 4 * (45 - j) * 2 ^ 30 ≤ b - 8 * j * 2 ^ 30 := by omega
  have hrest : (a - 8 * j * 2 ^ 30 - 4 * (45 - j) * 2 ^ 30) / 4096 = (b - 8 * j * 2 ^ 30 - 4 * (45 - j) * 2 ^ 30) / 4096 := by omega
  unfold memMap
  simp only [hjoin, h]
  split
  · rfl
  · by_cases hs : 4 * (45 - j) * 2 ^ 30 ≤ b - 8 * j * 2 ^ 30
    · simp only [hsouth, hs, decide_true, if_true, hrest]
    · simp only [hsouth, hs, decide_false, Bool.false_eq_true, if_false, hpage]

theorem getD_lt_of_all {l : List Nat} {k : Nat} (hl : ∀ m ∈ l, m < k) (h0 : 0 < k) (i : Nat) : l.getD i 0 < k := by
  rw [List.getD_eq_getElem?_getD]
  cases h : l[i]? with
  | none => exact h0
  | some m => exact hl m (List.mem_of_getElem? h)

theorem memMap_port_lt (j a : Nat) : (memMap j a).1 < 8 := by
  simp only [memMap, apply_ite Prod.fst]
  split
  · exact getD_lt_of_all (by decide) (by decide) _
  · refine getD_lt_of_all ?_ (by decide) _
    split <;> decide

theorem mem_linesOf {a n l : Nat} : l ∈ linesOf a n ↔ a / 64 ≤ l ∧ l < a / 64 + (a % 64 + n + 63) / 64 := by
  simp only [linesOf, List.mem_map, List.mem_range]
  constructor
  · rintro ⟨i, hi, rfl⟩
    omega
  · exact fun h => ⟨l - a / 64, by omega, by omega⟩

/-- Every byte of a range without a failed line lies at a port that works. -/
theorem portWorks_of_failedLine {d : Dev} {a n : Nat} (h : failedLine d a n = none) {x : Nat} (ha : a ≤ x) (hx : x < a + n) :
    portFailed d (memMap (joinGib d) x).1 = false := by
  have hl := List.find?_eq_none.1 h (x / 64) (mem_linesOf.2 (by omega))
  rw [memMap_port_congr (show x / 4096 = 64 * (x / 64) / 4096 by omega)]
  simpa using hl

/-! ### A range is written -/

@[simp] theorem linesWrite_dev (n a : Nat) (bs : List Byte) (d : Dev) : (linesWrite n a bs d).1 = d := by
  induction n generalizing a bs with
  | zero => rfl
  | succ n ih =>
    unfold linesWrite
    split
    · rfl
    · exact ih _ _

theorem linesWrite_cons {n a : Nat} {bs : List Byte} {d : Dev} (hb : bs ≠ []) (hp : portFailed d (memMap (joinGib d) a).1 = false) :
    (linesWrite (n + 1) a bs d).2 =
      .bytes a (bs.take (64 - a % 64)) :: (linesWrite n (a + (64 - a % 64)) (bs.drop (64 - a % 64)) d).2 := by
  rw [linesWrite]
  simp [hb, hp]

/-- Bytes written line by line at ports that work are read back, every other byte as before. -/
theorem byteAt_linesWrite (n a : Nat) (bs : List Byte) (d : Dev) (m : ExtMem) (hn : bs.length < n)
    (hp : ∀ x, a ≤ x → x < a + bs.length → portFailed d (memMap (joinGib d) x).1 = false) (x : Nat) :
    (m.writeAll (linesWrite n a bs d).2).byteAt x = if a ≤ x ∧ x < a + bs.length then bs.getD (x - a) 0 else m.byteAt x := by
  induction n generalizing a bs m with
  | zero => exact absurd hn (Nat.not_lt_zero _)
  | succ n ih =>
    by_cases hb : bs = []
    · subst hb
      simp [linesWrite]
    · have hlen : 0 < bs.length := List.length_pos_iff.2 hb
      have hk : 0 < 64 - a % 64 := by omega
      generalize hkk : 64 - a % 64 = k at hk
      rw [linesWrite_cons hb (hp a (Nat.le_refl a) (by omega)), hkk]
      show ((m.write (.bytes a (bs.take k))).writeAll _).byteAt x = _
      rw [ih _ _ _ (by rw [List.length_drop]; omega) (fun y hy hlt => hp y (by omega) (by rw [List.length_drop] at hlt; omega)),
        ExtMem.byteAt_write_bytes, List.length_drop, List.length_take]
      by_cases hin : a ≤ x ∧ x < a + bs.length
      · rw [if_pos hin]
        by_cases hfirst : x < a + k
        · rw [if_neg (by omega), if_pos (by omega), List.getD_eq_getElem?_getD, List.getElem?_take_of_lt (by omega),
            List.getD_eq_getElem?_getD]
          rfl
        · rw [if_pos (by omega), List.getD_eq_getElem?_getD, List.getElem?_drop, List.getD_eq_getElem?_getD,
            show k + (x - (a + k)) = x - a by omega]
      · rw [if_neg hin, if_neg (by omega), if_neg (by omega)]

theorem poison_linesWrite (n a : Nat) (bs : List Byte) (d : Dev) (m : ExtMem) {l : Nat}
    (h : l ∈ (m.writeAll (linesWrite n a bs d).2).poison) : l ∈ m.poison := by
  induction n generalizing a bs m with
  | zero => exact h
  | succ n ih =>
    rw [linesWrite] at h
    split at h
    · exact h
    · dsimp only at h
      split at h
      · exact ih _ _ _ h
      · exact (List.mem_filter.1 (ih _ _ _ h)).1

/-! ### A range is read -/

theorem ExtMem.read_add (m : ExtMem) (a i j : Nat) : m.read a (i + j) = m.read a i ++ m.read (a + i) j := by
  simp [ExtMem.read, List.range_add, Nat.add_assoc]

@[simp] theorem ExtMem.read_length (m : ExtMem) (a n : Nat) : (m.read a n).length = n := by simp [ExtMem.read]

theorem read_lines (m : ExtMem) (l c : Nat) :
    ((List.range c).map fun i => l + i).flatMap (fun l => m.read (64 * l) 64) = m.read (64 * l) (64 * c) := by
  induction c with
  | zero => simp [ExtMem.read]
  | succ c ih =>
    rw [List.range_succ, List.map_append, List.flatMap_append, ih, Nat.mul_succ, ExtMem.read_add]
    simp [Nat.mul_add]

/-- The bytes of a range, cut out of its lines. -/
theorem read_linesOf (m : ExtMem) (a n : Nat) :
    (((linesOf a n).flatMap fun l => m.read (64 * l) 64).drop (a % 64)).take n = m.read a n := by
  obtain ⟨r, hr⟩ : ∃ r, 64 * ((a % 64 + n + 63) / 64) = a % 64 + n + r := Nat.exists_eq_add_of_le (by omega)
  rw [linesOf, read_lines, hr, Nat.add_assoc, ExtMem.read_add, List.drop_left' (ExtMem.read_length ..), ExtMem.read_add,
    List.take_left' (ExtMem.read_length ..), Nat.div_add_mod]

/-- The counters of read lines (R387). -/
def lineReads : List Nat := (List.range 8).flatMap fun m => [MEMP_RD_LINES_LO m, MEMP_RD_LINES_LO m + 4]

theorem linesRead_clean (src : Nat) (x : ExtMem) (ls : List Nat) (d : Dev) (h : ∀ l ∈ ls, l ∉ x.poison) :
    (linesRead src [] x ls d).1 = { bytes := ls.flatMap fun l => x.read (64 * l) 64, poison := false, writes := [] } ∧
      OnlyRegs lineReads d (linesRead src [] x ls d).2 := by
  induction ls generalizing d with
  | nil => exact ⟨rfl, rfl, RegsKeep.refl _ d⟩
  | cons l t ih =>
    have hl : l ∉ x.poison := h l (List.mem_cons_self ..)
    have hport : OnlyRegs lineReads d (count48 (MEMP_RD_LINES_LO (memMap (joinGib d) (64 * l)).1) 1 d) :=
      (count48_onlyRegs _ 1 d).mono fun a ha => List.mem_flatMap.2 ⟨_, List.mem_range.2 (memMap_port_lt ..), ha⟩
    obtain ⟨hread, honly⟩ := ih (count48 (MEMP_RD_LINES_LO (memMap (joinGib d) (64 * l)).1) 1 d) fun y hy => h y (List.mem_cons_of_mem _ hy)
    have herr : kvGetD ([] : KV Nat) 0 l = 0 := rfl
    simp only [linesRead, herr, lineRead_clean hl, hread]
    exact ⟨rfl, hport.trans honly⟩

/-! ### The cases of an access (R375 to R377; 15_bringup_reset_licences.md R570) -/

theorem hostReaches_resp (d : Dev) (r : Response) : hostReaches { d with resp := r } = hostReaches d := rfl

theorem hostMayServe_resp (d : Dev) (r : Response) (a n : Nat) : hostMayServe { d with resp := r } a n = hostMayServe d a n := rfl

theorem failedLine_resp (d : Dev) (r : Response) (a n : Nat) : failedLine { d with resp := r } a n = failedLine d a n := rfl

/-- The bytes that an access touches. -/
def accessLen (len : Nat) (data : Option (List Byte)) : Nat := (data.map (·.length)).getD len

/-- An access waits while its lines are below the boot window and may not be reached. -/
def Waits (a len : Nat) (data : Option (List Byte)) (d : Dev) : Prop :=
  (a + accessLen len data ≤ memCapacity ∧ a < bootWindow) ∧ hostMayServe d a (accessLen len data) = false

/-- What an access without poison does once it need not wait. -/
def hostServed (a len : Nat) (data : Option (List Byte)) (errs : KV Nat) (x : ExtMem) (d : Dev) : Dev × List MemWrite :=
  if memCapacity < a + accessLen len data then (d.violation agentHost true data.isSome (max a memCapacity), [])
  else if bootWindow ≤ a then
    (match data with
    | some bs => d.modBoot fun b => { b with window := bs.zipIdx.foldl (fun m e => kvSetD m 0 (a - bootWindow + e.2) e.1) b.window }
    | none => d.answer ((List.range len).map fun i => kvGetD d.boot.window 0 (a - bootWindow + i)), [])
  else match data with
    | some bs => hostMemWrite a bs false d
    | none => hostMemRead a len errs x d

section
variable {a len : Nat} {data : Option (List Byte)} {errs : KV Nat} {x : ExtMem} {d : Dev}

theorem hostMem_of_waits (poison : Bool) (hn : accessLen len data ≠ 0) (hh : d.held = false) (hr : hostReaches d = true)
    (hw : Waits a len data d) : hostMem a len data poison errs x d = ({ d with resp := {} }, []) := by
  have hgo : ¬(accessLen len data = 0 ∨ d.held = true) := by simp [hn, hh]
  obtain ⟨hplace, hserve⟩ := hw
  cases data
  all_goals
    simp only [accessLen, Option.map_none, Option.map_some, Option.getD_none, Option.getD_some] at hgo hplace hserve
    simp only [hostMem, hostReaches_resp, hostMayServe_resp, hr, hgo, hplace, hserve, and_self, decide_true, Bool.not_true,
      Bool.not_false, Bool.and_true, Bool.and_false, Bool.false_eq_true, if_true, if_false]

theorem hostMem_of_served (hn : accessLen len data ≠ 0) (hh : d.held = false) (hr : hostReaches d = true)
    (hw : ¬Waits a len data d) : hostMem a len data false errs x d = hostServed a len data errs x { d with resp := { kind := .ok } } := by
  have hgo : ¬(accessLen len data = 0 ∨ d.held = true) := by simp [hn, hh]
  have hwait : ¬(decide (a + accessLen len data ≤ memCapacity ∧ a < bootWindow) && !hostMayServe d a (accessLen len data)) = true := by
    simpa [Waits] using hw
  cases data
  all_goals
    simp only [accessLen, Option.map_none, Option.map_some, Option.getD_none, Option.getD_some] at hgo
    simp only [hostMem, hostServed, accessLen, hostReaches_resp, hostMayServe_resp, hr, hgo, Option.map_none, Option.map_some,
      Option.getD_none, Option.getD_some, Bool.false_and, Bool.not_true, Bool.false_eq_true, if_false]
    exact if_neg hwait

end

section
variable {a len : Nat} {errs : KV Nat} {d : Dev}

theorem accessLen_some (len : Nat) (bs : List Byte) : accessLen len (some bs) = bs.length := rfl

theorem accessLen_none (len : Nat) : accessLen len none = len := rfl

theorem bootWindow_le_memCapacity : bootWindow ≤ memCapacity := by decide

theorem not_waits_of_serve {data : Option (List Byte)} (h : hostMayServe d a (accessLen len data) = true) : ¬Waits a len data d :=
  fun hw => Bool.noConfusion (h.symm.trans hw.2)

theorem not_waits_of_window {data : Option (List Byte)} (h : bootWindow ≤ a) : ¬Waits a len data d :=
  fun hw => Nat.not_lt.2 h hw.1.2

/-- A write of bytes below the boot window, at ports that work, is a write of its lines. -/
theorem hostMem_write {bs : List Byte} (x : ExtMem) (hb : bs ≠ []) (hh : d.held = false) (hr : hostReaches d = true)
    (hplace : a + bs.length ≤ bootWindow) (hf : failedLine d a bs.length = none) (hs : hostMayServe d a bs.length = true) :
    hostMem a len (some bs) false errs x d =
      ({ d with resp := { kind := .ok } }, (linesWrite (bs.length + 1) a bs { d with resp := { kind := .ok } }).2) := by
  have hlen : accessLen len (some bs) ≠ 0 := Nat.ne_of_gt (List.length_pos_iff.2 hb)
  have hbelow : a < bootWindow := Nat.lt_of_lt_of_le (Nat.lt_add_of_pos_right (List.length_pos_iff.2 hb)) hplace
  have hcap := bootWindow_le_memCapacity
  rw [hostMem_of_served hlen hh hr (not_waits_of_serve hs), hostServed, accessLen_some,
    if_neg (Nat.not_lt.2 (hplace.trans hcap)), if_neg (Nat.not_le.2 hbelow)]
  simp [hostMemWrite, failedLine_resp, hf]

/-- A read below the boot window, at ports that work, is a read of its lines. -/
theorem hostMem_read {x : ExtMem} (hn : 0 < len) (hh : d.held = false) (hr : hostReaches d = true) (hplace : a + len ≤ bootWindow)
    (hf : failedLine d a len = none) (hs : hostMayServe d a len = true) (hl : ∀ l ∈ linesOf a len, l ∉ x.poison) :
    hostMem a len none false [] x d =
      ({ (linesRead 3 [] x (linesOf a len) { d with resp := { kind := .ok } }).2 with resp := { kind := .ok, bytes := x.read a len } }, []) := by
  obtain ⟨hread, -⟩ := linesRead_clean 3 x (linesOf a len) { d with resp := { kind := .ok } } hl
  have hbelow : a < bootWindow := Nat.lt_of_lt_of_le (Nat.lt_add_of_pos_right hn) hplace
  have hcap := bootWindow_le_memCapacity
  rw [hostMem_of_served (data := none) (Nat.ne_of_gt hn) hh hr (not_waits_of_serve hs), hostServed, accessLen_none,
    if_neg (Nat.not_lt.2 (hplace.trans hcap)), if_neg (Nat.not_le.2 hbelow)]
  dsimp only
  rw [hostMemRead, failedLine_resp, hf]
  dsimp only
  rw [hread, read_linesOf]
  rfl

/-! ### The boot window (15_bringup_reset_licences.md R570) -/

theorem kvGetD_stored (w k : Nat) (bs : List Byte) (m : KV Byte) (x : Nat) :
    kvGetD ((bs.zipIdx k).foldl (fun m e => kvSetD m 0 (w + e.2) e.1) m) 0 x =
      if w + k ≤ x ∧ x < w + k + bs.length then bs.getD (x - (w + k)) 0 else kvGetD m 0 x := by
  induction bs generalizing k m with
  | nil => simp
  | cons b t ih =>
    rw [List.zipIdx_cons, List.foldl_cons, ih, kvGetD_setD]
    rcases Nat.lt_trichotomy x (w + k) with h | h | h
    · rw [if_neg (by omega), if_neg (by omega), if_neg (by omega)]
    · subst h
      rw [if_neg (by omega), if_pos rfl, if_pos (by simp), Nat.sub_self]
      rfl
    · have hidx : x - (w + k) = x - (w + (k + 1)) + 1 := by omega
      rw [if_neg (show ¬x = w + k by omega), hidx, List.getD_cons_succ, List.length_cons]
      congr 1
      exact propext (by omega)

/-- The window's buffer with bytes stored from an offset. -/
def windowStored (m : KV Byte) (o : Nat) (bs : List Byte) : KV Byte := bs.zipIdx.foldl (fun m e => kvSetD m 0 (o + e.2) e.1) m

theorem kvGetD_windowStored (m : KV Byte) (o : Nat) (bs : List Byte) (x : Nat) :
    kvGetD (windowStored m o bs) 0 x = if o ≤ x ∧ x < o + bs.length then bs.getD (x - o) 0 else kvGetD m 0 x := kvGetD_stored o 0 bs m x

theorem hostMem_windowWrite {o : Nat} {bs : List Byte} (x : ExtMem) (hb : bs ≠ []) (hh : d.held = false) (hr : hostReaches d = true)
    (hcap : bootWindow + o + bs.length ≤ memCapacity) : hostMem (bootWindow + o) len (some bs) false errs x d =
      ({ d with resp := { kind := .ok }, boot := { d.boot with window := windowStored d.boot.window o bs } }, []) := by
  have hlen : accessLen len (some bs) ≠ 0 := Nat.ne_of_gt (List.length_pos_iff.2 hb)
  rw [hostMem_of_served hlen hh hr (not_waits_of_window (Nat.le_add_right ..)), hostServed, accessLen_some,
    if_neg (Nat.not_lt.2 hcap), if_pos (Nat.le_add_right ..), Nat.add_sub_cancel_left]
  rfl

theorem hostMem_windowRead {o : Nat} (x : ExtMem) (hn : 0 < len) (hh : d.held = false) (hr : hostReaches d = true)
    (hcap : bootWindow + o + len ≤ memCapacity) : hostMem (bootWindow + o) len none false errs x d =
      ({ d with resp := { kind := .ok, bytes := (List.range len).map fun i => kvGetD d.boot.window 0 (o + i) } }, []) := by
  rw [hostMem_of_served (data := none) (Nat.ne_of_gt hn) hh hr (not_waits_of_window (Nat.le_add_right ..)), hostServed, accessLen_none,
    if_neg (Nat.not_lt.2 hcap), if_pos (Nat.le_add_right ..), Nat.add_sub_cancel_left]
  rfl

/-- An access that reaches past the installed capacity does not wait: it is a violation (R376). -/
theorem hostMem_beyond (x : ExtMem) (hn : 0 < len) (hh : d.held = false) (hr : hostReaches d = true) (hcap : memCapacity < a + len) :
    hostMem a len none false errs x d =
      (({ d with resp := { kind := .ok } } : Dev).violation agentHost true false (max a memCapacity), []) := by
  have hwait : ¬Waits a len none d := fun hw => Nat.not_lt.2 hw.1.1 hcap
  rw [hostMem_of_served (data := none) (Nat.ne_of_gt hn) hh hr hwait, hostServed, accessLen_none, if_pos hcap]
  rfl

end

/-! ### The command -/

theorem exec_hostMemAccess (a len : Nat) (data : Option (List Byte)) (poison : Bool) (errs : KV Nat) (s : State) :
    exec (.hostMemAccess a len data poison errs) s = onDevMem (hostMem a len data poison errs) s := rfl

theorem lineReads_subset : lineReads ⊆ lineCounters := by decide

theorem lineCounts_subset : lineCounts ⊆ lineCounters := by decide

/-- An access that stores nothing gives what it does inside the part. -/
theorem Gives.hostMem {a len : Nat} {data : Option (List Byte)} {poison : Bool} {errs : KV Nat} {s : State} {e : Dev} {q : Dev → Prop}
    (h : Machine.hostMem a len data poison errs s.mem s.dev = (e, [])) (hq : q e) : Gives (.hostMemAccess a len data poison errs) s q :=
  Gives.onDevMem (exec_hostMemAccess ..) (by rw [h]) (by rw [h]; exact hq)

/-- Settles O19: below the boot window a write is `hostMem_write` and a read `hostMem_read`, line by line; before they are served
it is `hostMem_of_waits`, in the window `hostMem_windowWrite` and `hostMem_windowRead`, and beyond the capacity `hostMem_beyond`. -/
theorem hostMemory : Obligations.HostMemory := by
  refine ⟨fun s a len bs errs hb hh hr hplace hf hs => ?_, fun s a len hn hh hr hplace hf hs hl => ?_,
    ?_, fun s o len bs errs hh hr => ⟨fun hb hcap => ?_, fun hn hcap => ?_⟩,
    fun s a len errs hn hh hr hcap => ?_⟩
  · refine ⟨_, exec_hostMemAccess .., ?_⟩
    dsimp only
    rw [hostMem_write s.mem hb hh hr hplace hf hs]
    obtain ⟨hregs, hkeep⟩ := countWrites_only (linesWrite (bs.length + 1) a bs { s.dev with resp := { kind := .ok } }).2
      { s.dev with resp := { kind := .ok } }
    refine ⟨fun x => ?_, fun x hx => ?_, rfl, ?_, ?_, hkeep.mono lineCounts_subset⟩
    · exact byteAt_linesWrite _ a bs { s.dev with resp := { kind := .ok } } s.mem (Nat.lt_succ_self _)
        (fun y hy hlt => portWorks_of_failedLine (d := s.dev) hf hy hlt) x
    · exact List.contains_iff_mem.2 (poison_linesWrite _ _ _ _ _ (List.contains_iff_mem.1 hx))
    · rw [hregs]
    · rw [hregs]
  · refine Gives.hostMem (hostMem_read hn hh hr hplace hf hs hl) ?_
    obtain ⟨-, hregs, hkeep⟩ := linesRead_clean 3 s.mem (linesOf a len) { s.dev with resp := { kind := .ok } } hl
    refine ⟨rfl, ?_, hkeep.mono lineReads_subset⟩
    rw [hregs]
  · intro s a len data poison errs hh hr n hn hplace hs
    refine Gives.hostMem (hostMem_of_waits poison (Nat.ne_of_gt hn) hh hr ⟨⟨?_, ?_⟩, hs⟩) rfl
    · exact hplace.trans bootWindow_le_memCapacity
    · exact Nat.lt_of_lt_of_le (Nat.lt_add_of_pos_right hn) hplace
  · refine Gives.hostMem (hostMem_windowWrite s.mem hb hh hr hcap) ⟨fun x => ?_, rfl⟩
    exact kvGetD_windowStored ..
  · exact Gives.hostMem (hostMem_windowRead s.mem hn hh hr hcap) rfl
  · exact Gives.hostMem (hostMem_beyond s.mem hn hh hr hcap) rfl

end Sys2Proof.Machine

/-! PROOF. The tick of the time base: what it and the pulses that it starts leave alone (10_cadence_time.md R390,
11_clocking.md R440, 16_interfaces_pins.md R620). -/

namespace Sys2Proof.Machine

/-! ### Pulses of the output pins -/

/-- The part with other pulses in progress. -/
def Dev.withPulses (d : Dev) (p : KV Nat) : Dev := { d with cad := { d.cad with pulses := p } }

theorem outPulse_eq (func : Nat) (d : Dev) : ∃ p, outPulse func d = d.withPulses p := by
  unfold outPulse
  generalize below 8 _ = l
  induction l generalizing d with
  | nil => exact ⟨d.cad.pulses, rfl⟩
  | cons n t ih => exact ih { d with cad := { d.cad with pulses := kvPut d.cad.pulses n d.time.tb } }

@[simp] theorem outPulse_time (func : Nat) (d : Dev) : (outPulse func d).time = d.time := by
  obtain ⟨p, hp⟩ := outPulse_eq func d
  rw [hp]
  rfl

/-! ### A tick (R390) -/

@[simp] theorem snapReached_time (d : Dev) : (snapReached d).time = d.time := by
  unfold snapReached
  split
  · split <;> rfl
  · rfl

theorem tick_of_halted {d : Dev} (h : d.held = true ∨ d.time.stopped = true) : tick d = d :=
  if_pos (by simpa using h)

theorem tick_time {d : Dev} (hh : d.held = false) (hs : d.time.stopped = false) :
    (tick d).time = { d.time with tb := (d.time.tb + 1) % 2 ^ 64 } := by
  unfold tick
  rw [hh, hs, if_neg (by decide)]
  dsimp only
  split
  · split
    · rw [outPulse_time, snapReached_time]
    · exact snapReached_time _
  · exact snapReached_time _

/-- An idle step in which no tick passes leaves the kept inside of the part too: no snapshot's instant is newly reached. -/
theorem idle_of_halted {s : State} (h : s.dev.held = true ∨ s.dev.time.stopped = true) : idle s = .next s := by
  unfold idle
  rw [tick_of_halted h]
  dsimp only
  rw [Bool.and_not_self, if_neg Bool.false_ne_true]

theorem idle_eq (s : State) : ∃ shot, idle s = .next { s with dev := tick s.dev, shot := shot } := ⟨_, rfl⟩

/-- Settles O2: the step of an empty queue is `idle`, whose only change inside the part is `tick`. -/
theorem idleStepTicks : Obligations.IdleStepTicks := by
  intro s hp
  obtain ⟨shot, hi⟩ := idle_eq s
  refine ⟨_, (step_of_idle hp).trans hi, hp, rfl, fun h => ?_, fun hh hs => tick_time hh hs⟩
  exact Host.Outcome.next.inj (hi.symm.trans (idle_of_halted h))

end Sys2Proof.Machine

/-! PROOF. TAI: its value after it is set, after its rate changes and over a capture, and the three statements about
captures, sets and roll-overs (10_cadence_time.md R391, R393, R398 to R401). -/

namespace Sys2Proof.Machine

/-! ### Frames built write by write -/

/-- A frame of registers takes in one more write to a listed register. -/
theorem RegsKeep.wr {l : List Nat} {d e : Dev} {a : Nat} (h : RegsKeep l d e) (ha : a ∈ l) (w : Word) : RegsKeep l d (e.wr a w) :=
  h.trans ((regsKeep_wr e a w).mono (by simpa using ha))

theorem RegsKeep.wr64 {l : List Nat} {d e : Dev} {a : Nat} (h : RegsKeep l d e) (ha : a ∈ l) (ha4 : a + 4 ∈ l) (v : Nat) :
    RegsKeep l d (e.wr64 a v) := (h.wr ha _).wr ha4 _

theorem Dev.rd_wr64_ne (d : Dev) {a b : Nat} (v : Nat) (h : b ≠ a) (h4 : b ≠ a + 4) : (d.wr64 a v).rd b = d.rd b := by
  rw [Dev.rd_wr64, if_neg h4, if_neg h]

/-- A change outside the registers does not touch a frame of registers. -/
theorem RegsKeep.of_regs {l : List Nat} {d e e' : Dev} (h : RegsKeep l d e) (hr : e'.regs = e.regs) : RegsKeep l d e' := by
  intro a ha
  rw [← h a ha]
  unfold Dev.rd
  rw [hr]

/-! ### The value of TAI (R393) -/

theorem Dev.taiUnitsAt_congr {d e : Dev} (htb : e.time.refTb = d.time.refTb) (htai : e.time.refTai = d.time.refTai)
    (hr : e.rd TIME_RATE = d.rd TIME_RATE) (t : Nat) : e.taiUnitsAt t = d.taiUnitsAt t := by
  unfold Dev.taiUnitsAt Dev.rate
  rw [htb, htai, hr]

theorem Dev.taiNs_congr {d e : Dev} (htb : e.time.tb = d.time.tb) (href : e.time.refTb = d.time.refTb) (htai : e.time.refTai = d.time.refTai)
    (hr : e.rd TIME_RATE = d.rd TIME_RATE) : e.taiNs = d.taiNs := by
  unfold Dev.taiNs Dev.taiNsAt
  rw [Dev.taiUnitsAt_congr href htai hr, htb]

/-- At the tick at which TAI was set it reads the value set, whatever its rate. -/
theorem Dev.taiUnitsAt_ref (d : Dev) : d.taiUnitsAt d.time.refTb = d.time.refTai := by simp [Dev.taiUnitsAt]

/-- What reads the time base as `setTaiUnits` left it, in whole nanoseconds. -/
theorem Dev.taiNs_of_ref {d : Dev} (h : d.time.refTb = d.time.tb) : d.taiNs = d.time.refTai / 2 ^ 42 := by
  rw [Dev.taiNs, Dev.taiNsAt, ← h, Dev.taiUnitsAt_ref]

theorem taiNs_setTaiUnits (units : Nat) (d : Dev) : (setTaiUnits units d).taiNs = units / 2 ^ 42 := Dev.taiNs_of_ref rfl

/-! ### A set takes effect (R399) -/

/-- The nanoseconds that a set names. -/
def TaiSet.value (t : TaiSet) : Nat := t.sec * 1000000000 + t.ns

/-- TAI in its units after a step by a set. -/
def TaiSet.stepped (t : TaiSet) (units : Nat) : Int :=
  if t.neg then (units : Int) - (t.value : Int) * 2 ^ 42 else (units : Int) + (t.value : Int) * 2 ^ 42

theorem taiApply_of_set {t : TaiSet} (h : t.mode ≠ 2) (d : Dev) : taiApply t d = setTaiUnits (t.value * 2 ^ 42) d := if_neg h

theorem taiApply_of_step {t : TaiSet} (h : t.mode = 2) (d : Dev) :
    taiApply t d = (setTaiUnits (t.stepped (d.taiUnitsAt d.time.tb)).toNat d).bump TIME_STEP_COUNT := if_pos h

theorem taiNs_of_set {t : TaiSet} (h : t.mode ≠ 2) (d : Dev) : (taiApply t d).taiNs = t.value := by
  rw [taiApply_of_set h, taiNs_setTaiUnits, Nat.mul_div_cancel _ (by decide)]

/-- A whole number of nanoseconds is added below the units' fraction. -/
theorem TaiSet.stepped_div (t : TaiSet) (units : Nat) :
    t.stepped units / 2 ^ 42 = ((units / 2 ^ 42 : Nat) : Int) + (if t.neg then -(t.value : Int) else t.value) := by
  unfold TaiSet.stepped
  split <;> omega

theorem taiNs_of_step {t : TaiSet} (h : t.mode = 2) (d : Dev)
    (h0 : 0 ≤ (d.taiNs : Int) + (if t.neg then -(t.value : Int) else t.value)) :
    ((taiApply t d).taiNs : Int) = (d.taiNs : Int) + (if t.neg then -(t.value : Int) else t.value) := by
  have hdiv : t.stepped (d.taiUnitsAt d.time.tb) / 2 ^ 42 = _ := t.stepped_div (d.taiUnitsAt d.time.tb)
  have hpos : 0 ≤ t.stepped (d.taiUnitsAt d.time.tb) := by
    rw [← Dev.taiNsAt, ← Dev.taiNs] at hdiv
    omega
  have hn : (taiApply t d).taiNs = (t.stepped (d.taiUnitsAt d.time.tb)).toNat / 2 ^ 42 := by
    rw [taiApply_of_step h, Dev.taiNs_of_ref rfl]
    rfl
  rw [hn, Int.natCast_ediv, Int.toNat_of_nonneg hpos]
  exact hdiv

/-! ### A capture (R398) -/

theorem taiNs_mod_toNat (n : Nat) : (w32 (n % 1000000000)).toNat = n % 1000000000 := by
  rw [w32, BitVec.toNat_ofNat]
  exact Nat.mod_eq_of_lt (by omega)

theorem w32_toNat (w : Word) : w32 w.toNat = w := BitVec.ofNat_toNat 32 w |>.trans (BitVec.setWidth_eq w)

theorem Dev.boundTick_congr {d e : Dev} (hlo : e.rd (CAD_BOUND_TB 0) = d.rd (CAD_BOUND_TB 0)) (hhi : e.rd (CAD_BOUND_TB 1) = d.rd (CAD_BOUND_TB 1)) :
    e.boundTick = d.boundTick := rd64_congr hlo hhi

theorem Dev.phase_congr {d e : Dev} (ht : e.time = d.time) (hc : e.cad = d.cad) (hb : e.boundTick = d.boundTick) : e.phase = d.phase := by
  unfold Dev.phase Dev.phaseAt
  rw [ht, hc, hb]

/-- The two words of the seconds captured. -/
def secsCaptured (d : Dev) : Dev :=
  (d.wrN TIME_CAP_SEC_LO (d.taiNs / 1000000000)).wrN TIME_CAP_SEC_HI (d.taiNs / 1000000000 / 2 ^ 32 % 65536)

theorem secsCaptured_regsKeep (d : Dev) : RegsKeep [TIME_CAP_SEC_LO, TIME_CAP_SEC_HI] d (secsCaptured d) :=
  ((RegsKeep.refl _ d).wr (by simp) _).wr (by simp) _

theorem timeCapture_eq (d : Dev) : timeCapture d =
    ((((secsCaptured d).wr TIME_CAP_FRAME (d.rd CAD_FRAME)).wrN TIME_CAP_PHASE d.phase).wr64 (TIME_CAP_TB 0) d.time.tb).answerW
      (w32 (d.taiNs % 1000000000)) := by
  have hk := secsCaptured_regsKeep d
  have hf : (secsCaptured d).wrN TIME_CAP_FRAME (secsCaptured d).frame = (secsCaptured d).wr TIME_CAP_FRAME (d.rd CAD_FRAME) := by
    rw [Dev.wrN, Dev.frame, w32_toNat, hk CAD_FRAME (by decide)]
  have hp : ((secsCaptured d).wr TIME_CAP_FRAME (d.rd CAD_FRAME)).phase = d.phase := by
    refine Dev.phase_congr rfl rfl (Dev.boundTick_congr ?_ ?_)
    all_goals exact (Dev.rd_wr_other _ _ (by decide)).trans (hk _ (by decide))
  unfold timeCapture
  change ((((secsCaptured d).wrN TIME_CAP_FRAME (secsCaptured d).frame).wrN TIME_CAP_PHASE
    ((secsCaptured d).wrN TIME_CAP_FRAME (secsCaptured d).frame).phase).wr64 (TIME_CAP_TB 0) d.time.tb).answerW _ = _
  rw [hf, hp]

theorem timeCapture_spec (d : Dev) :
    let e := timeCapture d
    e.resp = { kind := .ok, bytes := leBytes 4 (d.taiNs % 1000000000) } ∧ e.rd TIME_CAP_SEC_LO = w32 (d.taiNs / 1000000000) ∧
      e.rd TIME_CAP_SEC_HI = w32 (d.taiNs / 1000000000 / 2 ^ 32 % 65536) ∧ e.rd TIME_CAP_FRAME = d.rd CAD_FRAME ∧
      e.rd TIME_CAP_PHASE = w32 d.phase ∧ e.rd64 (TIME_CAP_TB 0) = d.time.tb % 2 ^ 64 ∧
      RegsKeep [TIME_CAP_SEC_LO, TIME_CAP_SEC_HI, TIME_CAP_FRAME, TIME_CAP_PHASE, TIME_CAP_TB 0, TIME_CAP_TB 0 + 4] d e ∧
      e = { d with regs := e.regs, resp := e.resp } := by
  rw [timeCapture_eq]
  refine ⟨?_, ?_, ?_, ?_, ?_, Dev.rd64_wr64_same _ _ _, RegsKeep.of_regs (RegsKeep.wr64 ?_ (by simp) (by simp) _) rfl, rfl⟩
  · rw [Dev.answerW, Dev.answer, taiNs_mod_toNat]
  · simp (disch := decide) [secsCaptured, Dev.rd_wr64_ne, Dev.rd_wrN_other, Dev.rd_wr_other]
  · simp (disch := decide) [secsCaptured, Dev.rd_wr64_ne, Dev.rd_wrN_other, Dev.rd_wr_other]
  · simp (disch := decide) [Dev.rd_wr64_ne, Dev.rd_wrN_other]
  · simp (disch := decide) [Dev.rd_wr64_ne]
  · exact (((secsCaptured_regsKeep d).mono (by simp)).wr (by simp) _).wr (by simp) _

end Sys2Proof.Machine

/-! PROOF. TIME_SET_GO and roll-overs of TAI (10_cadence_time.md R399 to R401). -/

namespace Sys2Proof.Machine

/-! ### The staged SET registers become active -/

/-- A staged register takes its copy, which is staged no longer. -/
def takeStaged (d : Dev) (a : Nat) : Dev := { (d.wr a (d.stagedRd a)) with staged := kvDel d.staged a }

theorem takeStaged_rd (d : Dev) (a b : Nat) : (takeStaged d a).rd b = if b = a then d.stagedRd a else d.rd b := Dev.rd_wr d a b _

theorem takeStaged_stagedRd (d : Dev) (a b : Nat) : (takeStaged d a).stagedRd b = d.stagedRd b := by
  have h : (takeStaged d a).stagedRd b = (kvGet? (kvDel d.staged a) b).getD ((takeStaged d a).rd b) := rfl
  rw [h, kvGet?_del, takeStaged_rd]
  split
  · next hb =>
    rw [hb]
    rfl
  · rfl

/-- Staged registers taken one after the other: each reads its copy, every other as before. -/
theorem takeStaged_foldl (l : List Nat) (d : Dev) (b : Nat) :
    (l.foldl takeStaged d).rd b = (if b ∈ l then d.stagedRd b else d.rd b) ∧ (l.foldl takeStaged d).stagedRd b = d.stagedRd b := by
  induction l generalizing d with
  | nil => exact ⟨rfl, rfl⟩
  | cons a t ih =>
    obtain ⟨hrd, hst⟩ := ih (takeStaged d a)
    refine ⟨?_, hst.trans (takeStaged_stagedRd d a b)⟩
    rw [List.foldl_cons, hrd, takeStaged_stagedRd, takeStaged_rd]
    by_cases hb : b = a <;> simp [hb]

theorem takeStaged_foldl_only (l : List Nat) (d : Dev) :
    l.foldl takeStaged d = { d with regs := (l.foldl takeStaged d).regs, staged := (l.foldl takeStaged d).staged } := by
  induction l generalizing d with
  | nil => rfl
  | cons a t ih => rw [List.foldl_cons, ih (takeStaged d a)]; rfl

/-- The registers of a set of TAI that are staged. -/
def setRegs : List Nat := [TIME_SET_SEC_LO, TIME_SET_SEC_HI, TIME_SET_NS]

/-- SET_CTRL takes MODE and NEG of the word written, and the staged SET registers become active. -/
def setTaken (data : Word) (d : Dev) : Dev :=
  setRegs.foldl takeStaged (d.wr TIME_SET_CTRL (setFld (d.rd TIME_SET_CTRL) 3 1 (fld data 3 1)))

theorem setTaken_regsKeep (data : Word) (d : Dev) : RegsKeep (TIME_SET_CTRL :: setRegs) d (setTaken data d) := by
  intro b hb
  obtain ⟨hc, hs⟩ : b ≠ TIME_SET_CTRL ∧ b ∉ setRegs := by simpa using hb
  rw [setTaken, (takeStaged_foldl _ _ _).1, if_neg hs, Dev.rd_wr_other _ _ hc]

theorem setTaken_set (data : Word) (d : Dev) {a : Nat} (h : a ∈ setRegs) :
    (setTaken data d).rd a = d.stagedRd a ∧ (setTaken data d).stagedRd a = d.stagedRd a := by
  have hne : a ≠ TIME_SET_CTRL := ne_of_mem_of_not_mem h (by decide)
  have hst : (d.wr TIME_SET_CTRL (setFld (d.rd TIME_SET_CTRL) 3 1 (fld data 3 1))).stagedRd a = d.stagedRd a :=
    congrArg ((kvGet? d.staged a).getD ·) (Dev.rd_wr_other d _ hne)
  obtain ⟨hrd, hsd⟩ := takeStaged_foldl setRegs (d.wr TIME_SET_CTRL (setFld (d.rd TIME_SET_CTRL) 3 1 (fld data 3 1))) a
  exact ⟨hrd.trans ((if_pos h).trans hst), hsd.trans hst⟩

theorem setTaken_only (data : Word) (d : Dev) :
    setTaken data d = { d with regs := (setTaken data d).regs, staged := (setTaken data d).staged } :=
  takeStaged_foldl_only _ _

@[simp] theorem setTaken_time (data : Word) (d : Dev) : (setTaken data d).time = d.time := by rw [setTaken_only]

/-! ### TAI before and after a set -/

theorem toRollover_congr {d e : Dev} (h : e.taiNs = d.taiNs) : toRollover e = toRollover d := by rw [toRollover, h, toRollover]

theorem setTaken_taiNs (data : Word) (d : Dev) : (setTaken data d).taiNs = d.taiNs :=
  Dev.taiNs_congr (by rw [setTaken_time]) (by rw [setTaken_time]) (by rw [setTaken_time]) (setTaken_regsKeep data d _ (by decide))

theorem taiApply_regsKeep (t : TaiSet) (d : Dev) : RegsKeep [TIME_STEP_COUNT] d (taiApply t d) := by
  by_cases h : t.mode = 2
  · rw [taiApply_of_step h]
    exact regsKeep_wr (setTaiUnits _ d) _ _
  · rw [taiApply_of_set h]
    exact RegsKeep.refl _ d

theorem taiApply_only (t : TaiSet) (d : Dev) : taiApply t d = { d with regs := (taiApply t d).regs, time := (taiApply t d).time } := by
  unfold taiApply
  dsimp only
  split <;> rfl

theorem taiApply_taiSet (t : TaiSet) (d : Dev) : (taiApply t d).time.taiSet = d.time.taiSet := by
  unfold taiApply
  dsimp only
  split <;> rfl

/-! ### A set is armed (R399, R400) -/

/-- The set that waits, one roll-over longer within 1 µs of one. -/
def armedSet (mode : Nat) (neg : Bool) (sec ns : Nat) (d : Dev) : TaiSet :=
  { mode, neg, sec, ns, wait := if toRollover d < 1000 then 2 else 1 }

theorem taiArm_of_now {mode sec ns : Nat} {neg : Bool} {d : Dev} (hr : 1000 ≤ toRollover d) (hm : mode ≠ 0) :
    taiArm mode neg sec ns d = taiApply (armedSet mode neg sec ns d) (d.wrF TIME_SET_CTRL 8 8 0) := by
  have hn : ¬toRollover d < 1000 := Nat.not_lt.2 hr
  simp [taiArm, armedSet, hn, hm, b2n]

theorem taiArm_of_wait {mode sec ns : Nat} {neg : Bool} {d : Dev} (h : toRollover d < 1000 ∨ mode = 0) :
    taiArm mode neg sec ns d = { (d.wrF TIME_SET_CTRL 8 8 (b2n (decide (toRollover d < 1000)))).wrF TIME_SET_CTRL 0 0 1 with
      time := { d.time with taiSet := some (armedSet mode neg sec ns d) } } := by
  unfold taiArm armedSet
  dsimp only
  rw [if_pos (by simpa using h)]
  simp only [decide_eq_true_eq]
  rfl

/-! ### GO (R399 to R401) -/

/-- The seconds, the nanoseconds and the TAI that the staged SET registers name. -/
def stagedSec (d : Dev) : Nat := (d.stagedRd TIME_SET_SEC_LO).toNat + 2 ^ 32 * (d.stagedRd TIME_SET_SEC_HI).toNat
def stagedNs (d : Dev) : Nat := (d.stagedRd TIME_SET_NS).toNat
def stagedTai (d : Dev) : Int := ((stagedSec d * 1000000000 + stagedNs d : Nat) : Int)

/-- TAI after a step by the staged value. -/
def steppedTai (data : Word) (d : Dev) : Int := (d.taiNs : Int) + (if bitOf data 3 then -stagedTai d else stagedTai d)

section
variable {agent : Nat} {data : Word} {d : Dev}

theorem timeSetGo_of_pass (hm : d.mayWrite agent .time = true) (hf : d.isFenced .time = false) (hu : d.up = true)
    (hs : d.ctl.snap = none) (ht : d.time.taiSet = none) (hgo : bitOf data 0 = true) (hmode : fld data 2 1 ≠ 3)
    (hres : data.toNat &&& 0xFFFFFEF0 = 0)
    (hdbg : ¬(agent = agentDebug ∧ (d.rdF TIME_SRC 1 0 = 1 ∨ d.rdF TIME_SRC 1 0 = 3))) (hns : stagedNs d < 1000000000)
    (hstep : fld data 2 1 = 2 → 0 ≤ steppedTai data d ∧ steppedTai data d < (2 ^ 48 : Int) * 1000000000) :
    timeSetGo agent data d = taiArm (fld data 2 1) (bitOf data 3) (stagedSec d) (stagedNs d) (setTaken data d) := by
  have hstate : (agent == agentDebug && (d.rdF TIME_SRC 1 0 == 1 || d.rdF TIME_SRC 1 0 == 3)) = false := by
    simpa [not_or] using hdbg
  have hrange : (fld data 2 1 == 2 &&
      (decide (steppedTai data d < 0) || decide ((2 ^ 48 : Int) * 1000000000 ≤ steppedTai data d))) = false := by
    rw [Bool.and_eq_false_imp]
    intro h
    obtain ⟨h0, h1⟩ := hstep (by simpa using h)
    simp only [Bool.or_eq_false_iff, decide_eq_false_iff_not]
    omega
  unfold timeSetGo
  refine (Dev.checked_pass d .time _ agent _ _ fun e he => ?_).trans (if_pos hgo)
  rcases List.mem_append.1 he with he | he
  · exact baseChecks_pass hm hf hu e he
  · simp only [List.mem_cons, List.not_mem_nil, or_false] at he
    rcases he with rfl | rfl | rfl | rfl
    · simp [hs, ht]
    · simpa [Bool.and_assoc] using fun _ => hstate
    · simp [hmode, hres]
    · have hlt : decide (1000000000 ≤ (d.stagedRd TIME_SET_NS).toNat) = false := decide_eq_false (Nat.not_le.2 hns)
      dsimp only
      rw [hlt, hgo]
      exact hrange

/-- What a set that `taiArm` makes effective or lets wait leaves of the registers and of the rest. -/
theorem taiArm_frame (mode : Nat) (neg : Bool) (sec ns : Nat) (e : Dev) :
    RegsKeep [TIME_SET_CTRL, TIME_STEP_COUNT] e (taiArm mode neg sec ns e) ∧
      taiArm mode neg sec ns e = { e with regs := (taiArm mode neg sec ns e).regs, time := (taiArm mode neg sec ns e).time } := by
  by_cases h : toRollover e < 1000 ∨ mode = 0
  · rw [taiArm_of_wait h]
    exact ⟨.of_regs (((RegsKeep.refl _ e).wr (by simp) _).wr (by simp) _) rfl, rfl⟩
  · rw [taiArm_of_now (Nat.not_lt.1 fun hr => h (.inl hr)) fun hm => h (.inr hm)]
    refine ⟨((RegsKeep.refl _ e).wr (by simp) _).trans ((taiApply_regsKeep _ _).mono (by simp)), ?_⟩
    rw [taiApply_only]
    rfl

theorem taiArm_set {sec ns mode : Nat} {neg : Bool} {e : Dev} (hr : 1000 ≤ toRollover e) (hm : mode = 1) :
    (taiArm mode neg sec ns e).taiNs = sec * 1000000000 + ns ∧ (taiArm mode neg sec ns e).time.taiSet = e.time.taiSet := by
  subst hm
  rw [taiArm_of_now hr Nat.one_ne_zero, taiApply_taiSet]
  exact ⟨taiNs_of_set (show 1 ≠ 2 by decide) _, rfl⟩

theorem taiArm_step {sec ns mode : Nat} {neg : Bool} {e : Dev} (hr : 1000 ≤ toRollover e) (hm : mode = 2) :
    let v : Int := ((sec * 1000000000 + ns : Nat) : Int)
    0 ≤ (e.taiNs : Int) + (if neg then -v else v) →
      ((taiArm mode neg sec ns e).taiNs : Int) = (e.taiNs : Int) + (if neg then -v else v) ∧
        (taiArm mode neg sec ns e).time.taiSet = e.time.taiSet ∧
        (taiArm mode neg sec ns e).rd TIME_STEP_COUNT = satAdd (e.rd TIME_STEP_COUNT) 1 := by
  subst hm
  intro v h0
  have hn : (e.wrF TIME_SET_CTRL 8 8 0).taiNs = e.taiNs := Dev.taiNs_congr rfl rfl rfl (Dev.rd_wrF_other _ _ _ _ (by decide))
  rw [taiArm_of_now hr (by decide), taiApply_taiSet]
  refine ⟨?_, rfl, ?_⟩
  · rw [← hn] at h0 ⊢
    exact taiNs_of_step (t := armedSet 2 neg sec ns e) rfl _ h0
  · rw [taiApply_of_step rfl, Dev.rd_bump_same]
    exact congrArg (satAdd · 1) (Dev.rd_wrF_other _ _ _ _ (by decide))

theorem taiArm_wait {sec ns mode : Nat} {neg : Bool} {e : Dev} (h : toRollover e < 1000 ∨ mode = 0) :
    bitOf ((taiArm mode neg sec ns e).rd TIME_SET_CTRL) 0 = true ∧
      bitOf ((taiArm mode neg sec ns e).rd TIME_SET_CTRL) 8 = decide (toRollover e < 1000) ∧
      (taiArm mode neg sec ns e).taiNs = e.taiNs ∧
      (taiArm mode neg sec ns e).time.taiSet = some (armedSet mode neg sec ns e) := by
  have hk := (taiArm_frame mode neg sec ns e).1 TIME_RATE (by decide)
  rw [taiArm_of_wait h] at hk ⊢
  refine ⟨?_, ?_, Dev.taiNs_congr rfl rfl rfl hk, rfl⟩
  · exact (congrArg (bitOf · 0) (Dev.rd_wrF_same _ _ 0 0 1)).trans (bitOf_setFld_inside _ 1 (by decide) (by decide) (by decide))
  · refine (congrArg (bitOf · 8) (Dev.rd_wrF_same _ _ 0 0 1)).trans ?_
    rw [bitOf_setFld_other _ _ (by decide), Dev.rd_wrF_same, bitOf_setFld_inside _ _ (by decide) (by decide) (by decide)]
    cases decide (toRollover e < 1000) <;> rfl

end

/-! ### Roll-overs (R399, R400) -/

/-- The part as it stands at a roll-over, its new second noted. -/
def Dev.secondNoted (d : Dev) : Dev := { d with time := { d.time with lastSec := d.taiNs / 1000000000 } }

theorem taiRollover_of_before {d : Dev} (h : d.taiNs / 1000000000 ≤ d.time.lastSec) : taiRollover d = d := if_neg (Nat.not_lt.2 h)

theorem taiRollover_of_new {d : Dev} (h : d.time.lastSec < d.taiNs / 1000000000) (hw : waitsPps d = false) :
    taiRollover d = outPulse 5 (servoRollover (goRollover d.secondNoted)) := by
  have hw' : waitsPps d.secondNoted = false := hw
  unfold taiRollover
  dsimp only
  rw [if_pos h]
  change outPulse 5 (servoRollover (if waitsPps d.secondNoted then d.secondNoted else goRollover d.secondNoted)) = _
  rw [hw', if_neg Bool.false_ne_true]

theorem goRollover_of_none {d : Dev} (h : d.time.taiSet = none) : goRollover d = d := by simp [goRollover, h]

theorem goRollover_of_due {d : Dev} {x : TaiSet} (h : d.time.taiSet = some x) (hw : x.wait ≤ 1) :
    goRollover d = goDone (taiApply x d) := by simp [goRollover, h, hw]

/-- The part with another set of TAI waiting. -/
def Dev.withTaiSet (d : Dev) (t : TaiSet) : Dev := { d with time := { d.time with taiSet := some t } }

theorem goRollover_of_wait {d : Dev} {x : TaiSet} (h : d.time.taiSet = some x) (hw : 1 < x.wait) :
    goRollover d = d.withTaiSet { x with wait := x.wait - 1 } := by
  simp [goRollover, Dev.withTaiSet, h, Nat.not_le.2 hw]

theorem servoRollover_of_none {d : Dev} (h : d.time.servoSet = none) : servoRollover d = d := by simp [servoRollover, h]

theorem servoRollover_of_due {d : Dev} {x : TaiSet} (h : d.time.servoSet = some x) (hw : x.wait ≤ 1) :
    servoRollover d = taiApply x { d with time := { d.time with servoSet := none } } := by simp [servoRollover, h, hw]

/-- A set that has taken effect: GO reads 0, and TAI the value set. -/
theorem goDone_taiApply {x : TaiSet} (h : x.mode ≠ 2) (d : Dev) :
    let e := goDone (taiApply x d)
    e.taiNs = x.value ∧ e.time.taiSet = none ∧ e.time.servoSet = d.time.servoSet ∧ bitOf (e.rd TIME_SET_CTRL) 0 = false ∧
      RegsKeep [TIME_SET_CTRL] d e ∧ e = { d with regs := e.regs, time := e.time } := by
  rw [taiApply_of_set h]
  refine ⟨?_, rfl, rfl, ?_, ?_, rfl⟩
  · rw [Dev.taiNs_of_ref rfl]
    exact Nat.mul_div_cancel _ (by decide)
  · exact (congrArg (bitOf · 0) (Dev.rd_wrF_same (setTaiUnits _ d) _ 0 0 0)).trans
      (bitOf_setFld_inside _ 0 (by decide) (by decide) (by decide))
  · exact RegsKeep.wr (RegsKeep.refl _ d) (by simp) _

theorem taiRollover_set {d : Dev} {x : TaiSet} (h : d.time.lastSec < d.taiNs / 1000000000) (hw : waitsPps d = false)
    (hx : d.time.taiSet = some x) (hs : d.time.servoSet = none) (hwait : x.wait ≤ 1) (hm : x.mode ≠ 2) :
    let e := taiRollover d
    e.taiNs = x.value ∧ e.time.taiSet = none ∧ bitOf (e.rd TIME_SET_CTRL) 0 = false ∧
      RegsKeep [TIME_SET_CTRL] d e ∧ e = { d with regs := e.regs, time := e.time, cad := e.cad } := by
  obtain ⟨hns, hset, hservo, hgo, hk, ho⟩ := goDone_taiApply hm d.secondNoted
  rw [taiRollover_of_new h hw, goRollover_of_due (d := d.secondNoted) hx hwait, servoRollover_of_none (hservo.trans hs)]
  generalize goDone (taiApply x d.secondNoted) = e at hns hset hgo hk ho
  obtain ⟨p, hp⟩ := outPulse_eq 5 e
  rw [hp]
  refine ⟨hns, hset, hgo, hk, ?_⟩
  rw [ho]
  rfl

theorem taiRollover_waits {d : Dev} {x : TaiSet} (h : d.time.lastSec < d.taiNs / 1000000000) (hw : waitsPps d = false)
    (hx : d.time.taiSet = some x) (hs : d.time.servoSet = none) (hwait : 1 < x.wait) :
    let e := taiRollover d
    e.taiNs = d.taiNs ∧ e.time.taiSet = some { x with wait := x.wait - 1 } ∧ e = { d with time := e.time, cad := e.cad } := by
  obtain ⟨p, hp⟩ := outPulse_eq 5 (d.secondNoted.withTaiSet { x with wait := x.wait - 1 })
  rw [taiRollover_of_new h hw, goRollover_of_wait (d := d.secondNoted) hx hwait, servoRollover_of_none (d := d.secondNoted.withTaiSet _) hs, hp]
  exact ⟨rfl, rfl, rfl⟩

theorem taiRollover_servo {d : Dev} {x : TaiSet} (h : d.time.lastSec < d.taiNs / 1000000000)
    (hx : d.time.taiSet = none) (hs : d.time.servoSet = some x) (hwait : x.wait ≤ 1) (hm : x.mode ≠ 2) :
    let e := taiRollover d
    e.taiNs = x.value ∧ e.time.servoSet = none ∧ e = { d with time := e.time, cad := e.cad } := by
  have hw : waitsPps d = false := by simp [waitsPps, hx]
  obtain ⟨p, hp⟩ := outPulse_eq 5 (setTaiUnits (x.value * 2 ^ 42) { d.secondNoted with time := { d.secondNoted.time with servoSet := none } })
  rw [taiRollover_of_new h hw, goRollover_of_none (d := d.secondNoted) hx, servoRollover_of_due (d := d.secondNoted) hs hwait,
    taiApply_of_set hm, hp]
  refine ⟨?_, rfl, rfl⟩
  exact (taiNs_setTaiUnits _ _).trans (Nat.mul_div_cancel _ (by decide))

theorem setRegs_not_armed : ∀ a ∈ setRegs, a ∉ [TIME_SET_CTRL, TIME_STEP_COUNT] := by decide

/-- An accepted write of SET_CTRL with GO = 1, by the three ways in which its set goes on. -/
theorem timeSetGo_spec {agent : Nat} {data : Word} {d : Dev}
    (hg : timeSetGo agent data d = taiArm (fld data 2 1) (bitOf data 3) (stagedSec d) (stagedNs d) (setTaken data d))
    (ht : d.time.taiSet = none) (hstep : fld data 2 1 = 2 → 0 ≤ steppedTai data d) :
    let e := timeSetGo agent data d
    (∀ a ∈ setRegs, e.rd a = d.stagedRd a ∧ e.stagedRd a = e.rd a) ∧
      (1000 ≤ toRollover d → fld data 2 1 = 1 → e.taiNs = stagedSec d * 1000000000 + stagedNs d ∧ e.time.taiSet = none) ∧
      (1000 ≤ toRollover d → fld data 2 1 = 2 → (e.taiNs : Int) = steppedTai data d ∧ e.time.taiSet = none ∧
        e.rd TIME_STEP_COUNT = satAdd (d.rd TIME_STEP_COUNT) 1) ∧
      ((toRollover d < 1000 ∨ fld data 2 1 = 0) → bitOf (e.rd TIME_SET_CTRL) 0 = true ∧
        bitOf (e.rd TIME_SET_CTRL) 8 = decide (toRollover d < 1000) ∧ e.taiNs = d.taiNs ∧
        e.time.taiSet = some (armedSet (fld data 2 1) (bitOf data 3) (stagedSec d) (stagedNs d) d)) ∧
      RegsKeep [TIME_SET_CTRL, TIME_SET_SEC_LO, TIME_SET_SEC_HI, TIME_SET_NS, TIME_STEP_COUNT] d e ∧
      e = { d with regs := e.regs, staged := e.staged, time := e.time } := by
  have hns := setTaken_taiNs data d
  have hroll := toRollover_congr hns
  obtain ⟨hk, ho⟩ := taiArm_frame (fld data 2 1) (bitOf data 3) (stagedSec d) (stagedNs d) (setTaken data d)
  dsimp only
  rw [hg]
  refine ⟨fun a ha => ?_, fun hr hm => ?_, fun hr hm => ?_, fun hw => ?_, ?_, ?_⟩
  · obtain ⟨hrd, hst⟩ := setTaken_set data d ha
    have hsame := hk a (setRegs_not_armed a ha)
    have hstaged : (taiArm (fld data 2 1) (bitOf data 3) (stagedSec d) (stagedNs d) (setTaken data d)).stagedRd a =
        (setTaken data d).stagedRd a := by
      rw [Dev.stagedRd, hsame, ho]
      rfl
    exact ⟨hsame.trans hrd, (hstaged.trans hst).trans (hsame.trans hrd).symm⟩
  · rw [← hroll] at hr
    obtain ⟨h1, h2⟩ := taiArm_set (neg := bitOf data 3) (sec := stagedSec d) (ns := stagedNs d) hr hm
    exact ⟨h1, h2.trans (by rw [setTaken_time, ht])⟩
  · rw [← hroll] at hr
    have h0 := hstep hm
    rw [steppedTai, ← hns] at h0 ⊢
    obtain ⟨h1, h2, h3⟩ := taiArm_step hr hm h0
    refine ⟨h1, h2.trans (by rw [setTaken_time, ht]), ?_⟩
    rw [h3, setTaken_regsKeep data d _ (by decide)]
  · rw [← hroll] at hw ⊢
    obtain ⟨h1, h2, h3, h4⟩ := taiArm_wait (neg := bitOf data 3) (sec := stagedSec d) (ns := stagedNs d) hw
    refine ⟨h1, h2, h3.trans hns, h4.trans ?_⟩
    rw [armedSet, armedSet, hroll]
  · exact ((setTaken_regsKeep data d).mono (by simp [setRegs])).trans (hk.mono (by simp))
  · rw [ho, setTaken_only]

/-- Settles O22: a capture by `timeCapture_spec`, GO by `timeSetGo_spec`, and a roll-over by whether a set waits for it,
for a later one, or none but the servo's. -/
theorem taiCapturedAndSet : Obligations.TaiCapturedAndSet := by
  refine ⟨fun s => Gives.onDev (f := timeCapture) rfl (timeCapture_spec s.dev),
    fun s agent data hm hf hu hs ht hgo hmode hres hdbg hns hstep => ?_,
    fun s => ⟨fun h => Gives.onDev (f := taiRollover) rfl (taiRollover_of_before h), fun x h hw hx hs => ⟨fun hwait hm => ?_, fun hwait => ?_⟩,
      fun x h hx hs hwait hm => ?_⟩⟩
  · have hg := timeSetGo_of_pass hm hf hu hs ht hgo hmode hres hdbg hns hstep
    exact Gives.onDev (f := timeSetGo agent data) rfl (timeSetGo_spec hg ht fun h => (hstep h).1)
  · exact Gives.onDev (f := taiRollover) rfl (taiRollover_set h hw hx hs hwait hm)
  · exact Gives.onDev (f := taiRollover) rfl (taiRollover_waits h hw hx hs hwait)
  · exact Gives.onDev (f := taiRollover) rfl (taiRollover_servo h hx hs hwait hm)

end Sys2Proof.Machine

/-! PROOF. The servo's states and rates, and edges at the second pin and at the snapshot pin (10_cadence_time.md R394 to
R396, R399, 02_control_model.md R88, R93, 16_interfaces_pins.md R621). -/

namespace Sys2Proof.Machine

/-! ### What the servo touches -/

/-- Of the registers the rate and the status may differ; besides, the time base, the records and the free values taken. -/
structure ServoFrame (d e : Dev) : Prop where
  regs : RegsKeep [TIME_RATE, TIME_SYNC_STATUS] d e
  rest : e = { d with regs := e.regs, time := e.time, flt := e.flt, freeCtr := e.freeCtr }

theorem ServoFrame.refl (d : Dev) : ServoFrame d d := ⟨RegsKeep.refl _ d, rfl⟩

theorem ServoFrame.trans {a b c : Dev} (h : ServoFrame a b) (g : ServoFrame b c) : ServoFrame a c where
  regs := h.regs.trans g.regs
  rest := by rw [g.rest, h.rest]

/-! ### States of the servo (R395) -/

theorem servoState_of_same {st : Nat} {d : Dev} (h : d.rdF TIME_SYNC_STATUS 1 0 = st) : servoState st d = d := if_pos h

/-- A change of state: the status shows it, a record tells it, and what the state counts begins again. -/
def stateNoted (st : Nat) (d : Dev) : Dev :=
  { (d.wrF TIME_SYNC_STATUS 1 0 st).record 0x15 0 0 (st + 1 * 2 ^ 4) with time := { d.time with inLock := 0, stepped := false } }

theorem servoState_of_change {st : Nat} {d : Dev} (h : d.rdF TIME_SYNC_STATUS 1 0 ≠ st) : servoState st d = stateNoted st d := if_neg h

theorem servoState_frame (st : Nat) (d : Dev) : ServoFrame d (servoState st d) := by
  by_cases h : d.rdF TIME_SYNC_STATUS 1 0 = st
  · rw [servoState_of_same h]
    exact ServoFrame.refl d
  · rw [servoState_of_change h]
    exact ⟨(RegsKeep.refl _ d).wr (by simp) _, rfl⟩

theorem servoState_shows {st : Nat} (h : st < 4) (d : Dev) : (servoState st d).rdF TIME_SYNC_STATUS 1 0 = st := by
  by_cases hs : d.rdF TIME_SYNC_STATUS 1 0 = st
  · rw [servoState_of_same hs, hs]
  · rw [servoState_of_change hs]
    exact (Dev.rdF_wrF_same d TIME_SYNC_STATUS st (by decide)).trans (Nat.mod_eq_of_lt h)

theorem servoState_taiUnitsAt (st : Nat) (d : Dev) (t : Nat) : (servoState st d).taiUnitsAt t = d.taiUnitsAt t := by
  by_cases hs : d.rdF TIME_SYNC_STATUS 1 0 = st
  · rw [servoState_of_same hs]
  · rw [servoState_of_change hs]
    exact Dev.taiUnitsAt_congr (d := d) (e := stateNoted st d) rfl rfl (Dev.rd_wrF_other d _ _ _ (by decide)) t

theorem setRate_regsKeep (r : Int) (d : Dev) : RegsKeep [TIME_RATE] d (setRate r d) := (RegsKeep.refl _ d).wr (by simp) _

theorem setRate_frame (r : Int) (d : Dev) : ServoFrame d (setRate r d) := ⟨(setRate_regsKeep r d).mono (by simp), rfl⟩

theorem setRate_rate (r : Int) (d : Dev) : (setRate r d).rd TIME_RATE = w32 (ofSigned 32 r) := Dev.rd_wrN_same _ _ _

/-- A change of the rate leaves TAI continuous (R393). -/
theorem setRate_continuous (r : Int) (d : Dev) : (setRate r d).taiUnitsAt d.time.tb = d.taiUnitsAt d.time.tb :=
  Dev.taiUnitsAt_ref (setRate r d)

/-! ### The source is lost (R395) -/

theorem servoHoldover_of_kept {d : Dev} (h : (d.rdF TIME_SYNC_STATUS 1 0 ≠ 1 ∧ d.rdF TIME_SYNC_STATUS 1 0 ≠ 2) ∨ sourceMissing d = false) :
    servoHoldover d = d := by
  refine if_neg fun hc => ?_
  rcases h with ⟨h1, h2⟩ | h
  · exact hc.1.elim h1 h2
  · exact Bool.false_ne_true (h.symm.trans hc.2)

theorem servoHoldover_spec {d : Dev} (hst : d.rdF TIME_SYNC_STATUS 1 0 = 1 ∨ d.rdF TIME_SYNC_STATUS 1 0 = 2) (hm : sourceMissing d = true) :
    let e := servoHoldover d
    e.rdF TIME_SYNC_STATUS 1 0 = 3 ∧ e.rd TIME_RATE = w32 (ofSigned 32 (meanRate d)) ∧
      e.taiUnitsAt d.time.tb = d.taiUnitsAt d.time.tb ∧ e.flt.pendingRecords.length = d.flt.pendingRecords.length + 1 ∧
      RegsKeep [TIME_SYNC_STATUS, TIME_RATE] d e ∧ e = { d with regs := e.regs, time := e.time, flt := e.flt } := by
  have hne : (setRate (meanRate d) d).rdF TIME_SYNC_STATUS 1 0 ≠ 3 := by
    rw [Dev.rdF, setRate_regsKeep _ d _ (by decide)]
    exact hst.elim (fun h => h.trans_ne (by decide)) (fun h => h.trans_ne (by decide))
  have he : servoHoldover d = servoState 3 (setRate (meanRate d) d) := if_pos ⟨hst, hm⟩
  rw [he]
  refine ⟨servoState_shows (by decide) _, ?_, (servoState_taiUnitsAt _ _ _).trans (setRate_continuous _ d), ?_, ?_, ?_⟩
  all_goals rw [servoState_of_change hne]
  · exact (Dev.rd_wrF_other (setRate _ d) _ _ _ (by decide)).trans (setRate_rate _ d)
  · exact List.length_append
  · exact RegsKeep.wr (RegsKeep.wr (RegsKeep.refl _ d) (by simp) _) (by simp) _
  · rfl

/-! ### A measured offset (R395, R396) -/

/-- OFFSET_NS shows the offset, and the source has been heard. -/
def offsetNoted (off : Int) (d : Dev) : Dev := sourceHeard (d.wrN TIME_OFFSET_NS (satSigned 32 off))

/-- A source that comes back in HOLDOVER is acquired again. -/
def sourceBack (st : Nat) (d : Dev) : Dev := if st = 3 then servoState 1 d else d

/-- The rate that the servo takes next: a free value, within ±200 ppm in LOCKED. -/
def rateChosen (d : Dev) : Int :=
  if d.rdF TIME_SYNC_STATUS 1 0 = 2 then max (-rateLimit) (min rateLimit (toSigned 32 d.free.1)) else toSigned 32 d.free.1

/-- The offsets within 1 µs in a row. -/
def lockCounted (off : Int) (d : Dev) : Dev :=
  { d with time := { d.time with inLock := if off.natAbs ≤ 1000 then d.time.inLock + 1 else 0 } }

/-- The servo takes its next rate, and locks at the sixteenth small offset in a row. -/
def rateFollowed (off : Int) (d : Dev) : Dev :=
  let e := lockCounted off (setRate (rateChosen d) d.free.2)
  if d.rdF TIME_SYNC_STATUS 1 0 = 1 ∧ 16 ≤ e.time.inLock then servoState 2 e else e

theorem servoMeasure_eq {off : Int} {d : Dev} (hst : d.rdF TIME_SYNC_STATUS 1 0 ≠ 0) (hoff : off.natAbs ≤ 1000000) :
    servoMeasure off d = rateFollowed off (sourceBack (d.rdF TIME_SYNC_STATUS 1 0) (offsetNoted off d)) := by
  refine (if_neg hst).trans ((if_neg ?_).trans rfl)
  rw [decide_eq_false (Nat.not_lt.2 hoff), Bool.false_and]
  exact Bool.false_ne_true

theorem sourceBack_frame (st : Nat) (d : Dev) : ServoFrame d (sourceBack st d) := by
  unfold sourceBack
  split
  · exact servoState_frame 1 d
  · exact ServoFrame.refl d

theorem rateFollowed_frame (off : Int) (d : Dev) : ServoFrame d (rateFollowed off d) := by
  have hfree : ServoFrame d d.free.2 := ⟨RegsKeep.refl _ d, rfl⟩
  have hlock (e : Dev) : ServoFrame e (lockCounted off e) := ⟨RegsKeep.refl _ e, rfl⟩
  have h := (hfree.trans (setRate_frame (rateChosen d) _)).trans (hlock _)
  unfold rateFollowed
  dsimp only
  split
  · exact h.trans (servoState_frame 2 _)
  · exact h

/-- An offset of at most 1 ms makes no step: after OFFSET_NS only the rate and the state may change. -/
theorem servoMeasure_frame {off : Int} {d : Dev} (hst : d.rdF TIME_SYNC_STATUS 1 0 ≠ 0) (hoff : off.natAbs ≤ 1000000) :
    ServoFrame (offsetNoted off d) (servoMeasure off d) := by
  rw [servoMeasure_eq hst hoff]
  exact (sourceBack_frame _ _).trans (rateFollowed_frame off _)

theorem satSigned_of_small {off : Int} (h : off.natAbs ≤ 1000000) : satSigned 32 off = ofSigned 32 off := by
  have hc : max (-(2 ^ (32 - 1) : Int)) (min off (2 ^ (32 - 1) - 1)) = off := by omega
  rw [satSigned, hc]

theorem offsetNoted_offset {off : Int} (h : off.natAbs ≤ 1000000) (d : Dev) :
    (offsetNoted off d).rd TIME_OFFSET_NS = w32 (ofSigned 32 off) := by
  rw [← satSigned_of_small h]
  exact Dev.rd_wrN_same d _ _

end Sys2Proof.Machine

/-! PROOF. Edges at the event pins, and the statement about the servo and the pins (10_cadence_time.md R394, R399,
02_control_model.md R88, R93, 16_interfaces_pins.md R620, R621). -/

namespace Sys2Proof.Machine

/-! ### A pulse at a pin (R621) -/

/-- The pulse that comes now is an edge that the pin takes. -/
def pulseTaken (fn : Nat) (sel : Bool) (d : Dev) : Bool :=
  takesEdge sel (Config.pinPulse fn d.time.tb).1 (Config.pinPulse fn d.time.tb).2

/-- A command of a pulse whose effect is that of an edge taken, or none. -/
theorem Gives.onPulse {i : Instr} {s : State} {fn : Nat} {f : Bool → Nat → Dev → Dev} {sel : Bool} {g : Dev → Dev} {q : Dev → Prop}
    (h : exec i s = Machine.onDev (Machine.onPulse fn f) s)
    (hf : ∀ falling ns, f falling ns s.dev = if takesEdge sel falling ns then g s.dev else s.dev) (hq : q (g s.dev)) :
    Gives i s fun d => (pulseTaken fn sel s.dev = false ∧ d = s.dev) ∨ pulseTaken fn sel s.dev = true ∧ q d := by
  refine Gives.onDev h ?_
  rw [Machine.onPulse, hf, ← pulseTaken]
  cases pulseTaken fn sel s.dev
  · exact .inl ⟨rfl, rfl⟩
  · exact .inr ⟨rfl, hq⟩

theorem Gives.onPulse_of_none {i : Instr} {s : State} {fn : Nat} {f : Bool → Nat → Dev → Dev}
    (h : exec i s = Machine.onDev (Machine.onPulse fn f) s) (hf : ∀ falling ns, f falling ns s.dev = s.dev) :
    Gives i s fun d => d = s.dev :=
  Gives.onDev h (hf _ _)

/-! ### The count of edges -/

/-- The pin counts an edge. -/
def edgeCounted (n : Nat) (d : Dev) : Dev := d.bump (PINS_EDGE_COUNT n)

theorem edgeCounted_count (n : Nat) (d : Dev) : (edgeCounted n d).rd (PINS_EDGE_COUNT n) = satAdd (d.rd (PINS_EDGE_COUNT n)) 1 :=
  Dev.rd_bump_same d _

theorem edgeCounted_onlyRegs (n : Nat) (d : Dev) : OnlyRegs [PINS_EDGE_COUNT n] d (edgeCounted n d) := onlyRegs_wr d _ _

/-- The registers of the pages below those of the pins are none of the counts. -/
theorem edgeCounted_rd_low (n : Nat) (d : Dev) {a : Nat} (h : a < 0x11140) : (edgeCounted n d).rd a = d.rd a :=
  Dev.rd_bump_other d (by simp only [PINS_EDGE_COUNT]; omega)

theorem edgeCount_not_mem {l : List Nat} (h : ∀ a ∈ l, a < 0x11140) (n : Nat) : PINS_EDGE_COUNT n ∉ l := fun hm => by
  have := h _ hm
  simp only [PINS_EDGE_COUNT] at this
  omega

theorem edgeCounted_taiNs (n : Nat) (d : Dev) : (edgeCounted n d).taiNs = d.taiNs :=
  Dev.taiNs_congr rfl rfl rfl (edgeCounted_rd_low n d (by decide))

/-! ### The second pin (R394, R399) -/

/-- The signed distance of TAI from the nearest second, from its nanoseconds. -/
def secondOffset (fr : Nat) : Int := if fr < 500000000 then (fr : Int) else (fr : Int) - 1000000000

theorem secondOffset_small {fr : Nat} (hlt : fr < 1000000000) (h : fr ≤ 1000000 ∨ 999000000 ≤ fr) : (secondOffset fr).natAbs ≤ 1000000 := by
  unfold secondOffset
  split <;> omega

/-- An edge that the second pin takes. -/
def secondEdge (n : Nat) (d : Dev) : Dev :=
  let e := edgeCounted n d
  if e.rdF TIME_SRC 1 0 = 2 then
    if waitsPps e then goRollover (sourceHeard e) else servoMeasure (secondOffset (e.taiNs % 1000000000)) e
  else e

theorem ppsEdge_of_none {falling : Bool} {ns : Nat} {d : Dev} (h : pinWith d 2 = none) : ppsEdge falling ns d = d := by
  simp [ppsEdge, h]

theorem ppsEdge_of_pin {n : Nat} {d : Dev} (h : pinWith d 2 = some n) (falling : Bool) (ns : Nat) :
    ppsEdge falling ns d = if takesEdge (bitOf (d.rd (PINS_EVT_CFG n)) 4) falling ns then secondEdge n d else d := by
  unfold ppsEdge
  rw [h, Option.filter_some]
  cases takesEdge (bitOf (d.rd (PINS_EVT_CFG n)) 4) falling ns <;> rfl

theorem edgeCounted_src (n : Nat) (d : Dev) : (edgeCounted n d).rdF TIME_SRC 1 0 = d.rdF TIME_SRC 1 0 :=
  congrArg (fld · 1 0) (edgeCounted_rd_low n d (by decide))

theorem edgeCounted_waitsPps (n : Nat) (d : Dev) : waitsPps (edgeCounted n d) = waitsPps d := by
  rw [waitsPps, edgeCounted_src]
  rfl

theorem secondEdge_of_other {n : Nat} {d : Dev} (h : d.rdF TIME_SRC 1 0 ≠ 2) : secondEdge n d = edgeCounted n d :=
  if_neg (by rwa [edgeCounted_src])

theorem secondEdge_of_set {n : Nat} {d : Dev} {x : TaiSet} (h : d.rdF TIME_SRC 1 0 = 2) (hx : d.time.taiSet = some x) (hm : x.mode = 0)
    (hw : x.wait ≤ 1) : secondEdge n d = goDone (taiApply x (sourceHeard (edgeCounted n d))) := by
  have hp : waitsPps d = true := by simp [waitsPps, h, hx, hm]
  refine (if_pos (by rwa [edgeCounted_src])).trans ((if_pos (by rwa [edgeCounted_waitsPps])).trans ?_)
  exact goRollover_of_due (d := sourceHeard (edgeCounted n d)) hx hw

theorem secondEdge_of_measure {n : Nat} {d : Dev} (h : d.rdF TIME_SRC 1 0 = 2) (hw : waitsPps d = false) :
    secondEdge n d = servoMeasure (secondOffset (d.taiNs % 1000000000)) (edgeCounted n d) := by
  refine (if_pos (by rwa [edgeCounted_src])).trans ((if_neg (by simp [edgeCounted_waitsPps, hw])).trans ?_)
  rw [edgeCounted_taiNs]

theorem secondEdge_other_spec {n : Nat} {d : Dev} (h : d.rdF TIME_SRC 1 0 ≠ 2) :
    let e := secondEdge n d
    e.rd (PINS_EDGE_COUNT n) = satAdd (d.rd (PINS_EDGE_COUNT n)) 1 ∧ OnlyRegs [PINS_EDGE_COUNT n] d e := by
  rw [secondEdge_of_other h]
  exact ⟨edgeCounted_count n d, edgeCounted_onlyRegs n d⟩

/-- A set that waits for the edge takes effect at it. -/
theorem secondEdge_set_spec {n : Nat} {d : Dev} {x : TaiSet} (h : d.rdF TIME_SRC 1 0 = 2) (hx : d.time.taiSet = some x) (hm : x.mode = 0)
    (hw : x.wait ≤ 1) :
    let e := secondEdge n d
    e.rd (PINS_EDGE_COUNT n) = satAdd (d.rd (PINS_EDGE_COUNT n)) 1 ∧ e.taiNs = x.value ∧ e.time.taiSet = none ∧
      bitOf (e.rd TIME_SET_CTRL) 0 = false ∧ RegsKeep [PINS_EDGE_COUNT n, TIME_SET_CTRL] d e ∧
      e = { d with regs := e.regs, time := e.time } := by
  obtain ⟨hns, hset, -, hgo, hk, ho⟩ := goDone_taiApply (hm.trans_ne (by decide)) (sourceHeard (edgeCounted n d))
  rw [secondEdge_of_set h hx hm hw]
  refine ⟨(hk _ (edgeCount_not_mem (by decide) n)).trans (edgeCounted_count n d), hns, hset, hgo, ?_, ?_⟩
  · exact RegsKeep.trans ((edgeCounted_onlyRegs n d).2.mono (by simp)) (hk.mono (by simp))
  · rw [ho]
    rfl

/-- An offset of at most 1 ms is shown, and followed without a step. -/
theorem secondEdge_measure_spec {n : Nat} {d : Dev} (h : d.rdF TIME_SRC 1 0 = 2) (hw : waitsPps d = false)
    (hst : d.rdF TIME_SYNC_STATUS 1 0 ≠ 0) (hfr : d.taiNs % 1000000000 ≤ 1000000 ∨ 999000000 ≤ d.taiNs % 1000000000) :
    let e := secondEdge n d
    e.rd (PINS_EDGE_COUNT n) = satAdd (d.rd (PINS_EDGE_COUNT n)) 1 ∧
      e.rd TIME_OFFSET_NS = w32 (ofSigned 32 (secondOffset (d.taiNs % 1000000000))) ∧ e.rd TIME_STEP_COUNT = d.rd TIME_STEP_COUNT ∧
      RegsKeep [PINS_EDGE_COUNT n, TIME_OFFSET_NS, TIME_RATE, TIME_SYNC_STATUS] d e ∧
      e = { d with regs := e.regs, time := e.time, flt := e.flt, freeCtr := e.freeCtr } := by
  have hsmall := secondOffset_small (Nat.mod_lt d.taiNs (by decide)) hfr
  have hst' : (edgeCounted n d).rdF TIME_SYNC_STATUS 1 0 ≠ 0 := by rwa [Dev.rdF, edgeCounted_rd_low n d (by decide)]
  have hf := servoMeasure_frame hst' hsmall
  have hn : RegsKeep [TIME_OFFSET_NS] (edgeCounted n d) (offsetNoted (secondOffset (d.taiNs % 1000000000)) (edgeCounted n d)) :=
    regsKeep_wr (edgeCounted n d) _ _
  have hk : RegsKeep [TIME_OFFSET_NS, TIME_RATE, TIME_SYNC_STATUS] (edgeCounted n d) _ := (hn.mono (by simp)).trans (hf.regs.mono (by simp))
  rw [secondEdge_of_measure h hw]
  refine ⟨?_, ?_, ?_, ?_, ?_⟩
  · exact (hk _ (edgeCount_not_mem (by decide) n)).trans (edgeCounted_count n d)
  · exact (hf.regs _ (by decide)).trans (offsetNoted_offset hsmall _)
  · exact (hk _ (by decide)).trans (edgeCounted_rd_low n d (by decide))
  · exact ((edgeCounted_onlyRegs n d).2.mono (by simp)).trans (hk.mono (by simp))
  · rw [hf.rest]
    rfl

/-! ### The snapshot pin (R88, R93) -/

theorem snapPinEdge_of_none {falling : Bool} {ns : Nat} {d : Dev} (h : pinWith d 3 = none) : snapPinEdge falling ns d = d := by
  simp [snapPinEdge, h]

/-- An edge that the snapshot pin takes. -/
def snapEdge (n : Nat) (d : Dev) : Dev := (snapTrigger 3 (d.time.tb + 1600) (edgeCounted n d)).1

theorem snapPinEdge_of_pin {n : Nat} {d : Dev} (h : pinWith d 3 = some n) (falling : Bool) (ns : Nat) :
    snapPinEdge falling ns d = if takesEdge (bitOf (d.rd (PINS_EVT_CFG n)) 4) falling ns then snapEdge n d else d := by
  unfold snapPinEdge
  rw [h, Option.filter_some]
  cases takesEdge (bitOf (d.rd (PINS_EVT_CFG n)) 4) falling ns <;> rfl

theorem snapTrigger_of_busy {src tick : Nat} {d : Dev} (h : d.ctl.snap.isSome = true ∨ bitOf (d.rd SNAP_CTRL) 0 = true) :
    snapTrigger src tick d = (d.bump SNAP_DROPPED, false) := if_pos (by simpa using h)

/-- The registers of an accepted trigger. -/
def triggerRegs : List Nat :=
  [SNAP_LAST_ID, SNAP_LAST_SEC_LO, SNAP_LAST_SEC_HI, SNAP_LAST_NS, SNAP_LAST_PHASE, SNAP_LATE_PAGES, SNAP_STATE]

theorem snapRegs_regsKeep (src tick : Nat) (d : Dev) : RegsKeep triggerRegs d (snapRegs src tick d) := by
  refine RegsKeep.wr (RegsKeep.wr (RegsKeep.wr (RegsKeep.wr (RegsKeep.wr (RegsKeep.wr (RegsKeep.wr (RegsKeep.refl _ d) ?_ _) ?_ _) ?_ _) ?_ _)
    ?_ _) ?_ _) ?_ _
  all_goals decide

theorem snapEdge_free_spec {n : Nat} {d : Dev} (hs : d.ctl.snap = none) (hc : bitOf (d.rd SNAP_CTRL) 0 = false) :
    let e := snapEdge n d
    e.rd (PINS_EDGE_COUNT n) = satAdd (d.rd (PINS_EDGE_COUNT n)) 1 ∧
      e.ctl.snap = some { id := d.ctl.nextSnap, tick := d.time.tb + 1600, spill := bitOf (d.rd SNAP_CTRL) 1 } ∧
      fld (e.rd SNAP_LAST_PHASE) 19 16 = 3 ∧ e.rd SNAP_STATE = 1 ∧ e = { d with regs := e.regs, ctl := e.ctl } := by
  have hctrl : (edgeCounted n d).rd SNAP_CTRL = d.rd SNAP_CTRL := edgeCounted_rd_low n d (by decide)
  have he : snapEdge n d = { snapRegs 3 (d.time.tb + 1600) (edgeCounted n d) with ctl := snapBegun (d.time.tb + 1600) (edgeCounted n d) } :=
    snapTrigger_of_free hs (by rwa [hctrl]) (Nat.lt_add_of_pos_right (by decide))
  have hrd : ∀ b, (snapEdge n d).rd b = (snapRegs 3 (d.time.tb + 1600) (edgeCounted n d)).rd b := fun b => by
    rw [he]
    rfl
  refine ⟨?_, ?_, ?_, ?_, ?_⟩
  · rw [hrd, snapRegs_regsKeep _ _ _ _ (edgeCount_not_mem (by decide) n), edgeCounted_count]
  · rw [he, ← hctrl]
    rfl
  · rw [hrd, snapRegs_rd]
    exact fld_setFld_same _ 3 (by decide)
  · rw [hrd, snapRegs_rd, if_pos rfl]
  · rw [he, snapRegs_regsOnly]
    rfl

theorem snapEdge_busy_spec {n : Nat} {d : Dev} (h : d.ctl.snap.isSome = true ∨ bitOf (d.rd SNAP_CTRL) 0 = true) :
    let e := snapEdge n d
    e.rd (PINS_EDGE_COUNT n) = satAdd (d.rd (PINS_EDGE_COUNT n)) 1 ∧ e.rd SNAP_DROPPED = satAdd (d.rd SNAP_DROPPED) 1 ∧
      OnlyRegs [PINS_EDGE_COUNT n, SNAP_DROPPED] d e := by
  have hk := edgeCounted_rd_low n d (a := SNAP_CTRL) (by decide)
  have he : snapEdge n d = (edgeCounted n d).bump SNAP_DROPPED := congrArg Prod.fst (snapTrigger_of_busy (by rwa [hk]))
  rw [he]
  refine ⟨?_, ?_, ?_⟩
  · exact (regsKeep_wr _ _ _ _ (edgeCount_not_mem (by decide) n)).trans (edgeCounted_count n d)
  · rw [Dev.rd_bump_same, edgeCounted_rd_low n d (by decide)]
  · exact ((edgeCounted_onlyRegs n d).mono (by simp)).trans ((onlyRegs_wr _ _ _).mono (by simp))

/-- Settles O23: the loss of the source, and at each pin the effect of an edge that is taken. -/
theorem servoAndPins : Obligations.ServoAndPins := by
  refine ⟨fun s => ⟨fun hst hm => Gives.onDev (f := servoHoldover) rfl (servoHoldover_spec hst hm),
      fun h => Gives.onDev (f := servoHoldover) rfl (servoHoldover_of_kept h)⟩,
    fun s => ⟨fun h => ?_, fun n h => ⟨fun hsrc => ?_, fun x hsrc hx hm hw => ?_, fun hsrc hw hst hfr => ?_⟩⟩,
    fun s => ⟨fun h => ?_, fun n h hs hc => ?_, fun n h hbusy => ?_⟩⟩
  · exact Gives.onPulse_of_none (f := ppsEdge) rfl fun _ _ => ppsEdge_of_none h
  · exact Gives.onPulse (f := ppsEdge) rfl (ppsEdge_of_pin h) (secondEdge_other_spec hsrc)
  · exact Gives.onPulse (f := ppsEdge) rfl (ppsEdge_of_pin h) (secondEdge_set_spec hsrc hx hm hw)
  · exact Gives.onPulse (f := ppsEdge) rfl (ppsEdge_of_pin h) (secondEdge_measure_spec hsrc hw hst hfr)
  · exact Gives.onPulse_of_none (f := snapPinEdge) rfl fun _ _ => snapPinEdge_of_none h
  · exact Gives.onPulse (f := snapPinEdge) rfl (snapPinEdge_of_pin h) (snapEdge_free_spec hs hc)
  · exact Gives.onPulse (f := snapPinEdge) rfl (snapPinEdge_of_pin h) (snapEdge_busy_spec hbusy)

end Sys2Proof.Machine

/-! PROOF. Edges of the frame sync, the close of their window and the boundaries of the own clock (10_cadence_time.md R402,
R404 to R408, R410). -/

namespace Sys2Proof.Machine

/-! ### States of the cadence (R407) -/

/-- HOLDOVER is set on entry to its state and cleared by LOCKED. -/
def holdoverShown (st : Nat) (d : Dev) : Dev :=
  if st = 5 then d.wrF CAD_STATE 8 8 1 else if st = 3 then d.wrF CAD_STATE 8 8 0 else d

theorem holdoverShown_onlyRegs (st : Nat) (d : Dev) : OnlyRegs [CAD_STATE] d (holdoverShown st d) := by
  unfold holdoverShown
  split
  · exact onlyRegs_wr d _ _
  · split
    · exact onlyRegs_wr d _ _
    · exact ⟨RegsOnly.refl d, RegsKeep.refl _ d⟩

theorem holdoverShown_cadState (st : Nat) (d : Dev) : (holdoverShown st d).cadState = d.cadState := by
  unfold holdoverShown Dev.cadState
  split
  · exact Dev.rdF_wrF_other d _ (.inr (.inl (by decide)))
  · split
    · exact Dev.rdF_wrF_other d _ (.inr (.inl (by decide)))
    · rfl

theorem cadSet_of_same {st : Nat} {d : Dev} (h : d.cadState = st) : cadSet st d = d := if_pos h

theorem cadSet_of_change {st : Nat} {d : Dev} (h : d.cadState ≠ st) :
    cadSet st d = (holdoverShown st (d.wrF CAD_STATE 2 0 st)).record 0x15 0 0 (st + 2 * 2 ^ 4) := if_neg h

theorem cadSet_shows {st : Nat} (h : st < 8) (d : Dev) : (cadSet st d).cadState = st := by
  by_cases hs : d.cadState = st
  · rw [cadSet_of_same hs, hs]
  · rw [cadSet_of_change hs]
    refine (holdoverShown_cadState st _).trans ?_
    exact (Dev.rdF_wrF_same d CAD_STATE st (by decide)).trans (Nat.mod_eq_of_lt h)

theorem cadSet_regsKeep (st : Nat) (d : Dev) : RegsKeep [CAD_STATE] d (cadSet st d) := by
  by_cases hs : d.cadState = st
  · rw [cadSet_of_same hs]
    exact RegsKeep.refl _ d
  · rw [cadSet_of_change hs]
    exact (regsKeep_wr d CAD_STATE _).trans (holdoverShown_onlyRegs st _).2

theorem cadSet_only (st : Nat) (d : Dev) : cadSet st d = { d with regs := (cadSet st d).regs, flt := (cadSet st d).flt } := by
  by_cases hs : d.cadState = st
  · rw [cadSet_of_same hs]
  · rw [cadSet_of_change hs, (holdoverShown_onlyRegs st _).1]
    rfl

/-! ### The close of the window (R407) -/

/-- A missed edge is counted; LOCKED becomes MISSED, and MISSED HOLDOVER. -/
def missNoted (d : Dev) : Dev :=
  if d.cadState = 3 then cadSet 4 (d.bump CAD_MISS_COUNT)
  else if d.cadState = 4 then cadSet 5 (d.bump CAD_MISS_COUNT) else d.bump CAD_MISS_COUNT

theorem missNoted_spec (d : Dev) :
    let e := missNoted d
    e.rd CAD_MISS_COUNT = satAdd (d.rd CAD_MISS_COUNT) 1 ∧
      e.cadState = (if d.cadState = 3 then 4 else if d.cadState = 4 then 5 else d.cadState) ∧
      RegsKeep [CAD_MISS_COUNT, CAD_STATE] d e ∧ e = { d with regs := e.regs, flt := e.flt } := by
  have hb : RegsKeep [CAD_MISS_COUNT, CAD_STATE] d (d.bump CAD_MISS_COUNT) := (RegsKeep.refl _ d).wr (by simp) _
  have hset (st : Nat) (h : st < 8) : let e := cadSet st (d.bump CAD_MISS_COUNT)
      e.rd CAD_MISS_COUNT = satAdd (d.rd CAD_MISS_COUNT) 1 ∧ e.cadState = st ∧
        RegsKeep [CAD_MISS_COUNT, CAD_STATE] d e ∧ e = { d with regs := e.regs, flt := e.flt } := by
    have hk := cadSet_regsKeep st (d.bump CAD_MISS_COUNT)
    refine ⟨(hk _ (by decide)).trans (Dev.rd_bump_same d _), cadSet_shows h _, hb.trans (hk.mono (by simp)), ?_⟩
    rw [cadSet_only]
    rfl
  unfold missNoted
  split
  · exact hset 4 (by decide)
  · split
    · exact hset 5 (by decide)
    · exact ⟨Dev.rd_bump_same d _, congrArg (fld · 2 0) (Dev.rd_bump_other d (by decide)), hb, rfl⟩

/-- The window of a frame of the sync has closed without an edge. -/
def CloseDue (d : Dev) : Prop := d.rdF CAD_CTRL 1 0 = 1 ∧ 2 ≤ d.cadState ∧ d.cad.cause = none ∧ windowClose d ≤ d.time.tb

theorem windowCloses_of_due {d : Dev} (h : CloseDue d) : windowCloses d = boundaryAt (windowClose d) false none (missNoted d) := by
  obtain ⟨hsrc, hst, hc, hclose⟩ := h
  exact if_pos ⟨hsrc, hst, Option.isNone_iff_eq_none.2 hc, hclose⟩

theorem windowCloses_of_not_due {d : Dev} (h : ¬CloseDue d) : windowCloses d = d := by
  refine if_neg fun ⟨hsrc, hst, hc, hclose⟩ => h ⟨hsrc, hst, Option.isNone_iff_eq_none.1 hc, hclose⟩

theorem windowCloses_spec {d : Dev} (h : CloseDue d) :
    let e := windowCloses d
    e.rd CAD_MISS_COUNT = satAdd (d.rd CAD_MISS_COUNT) 1 ∧
      e.cadState = (if d.cadState = 3 then 4 else if d.cadState = 4 then 5 else d.cadState) ∧
      e.cad = { d.cad with cause := some { tick := windowClose d, fromEdge := false } } ∧
      RegsKeep [CAD_MISS_COUNT, CAD_STATE] d e ∧ e = { d with regs := e.regs, cad := e.cad, flt := e.flt } := by
  obtain ⟨hcount, hst, hk, ho⟩ := missNoted_spec d
  rw [windowCloses_of_due h]
  generalize missNoted d = m at hcount hst hk ho
  refine ⟨hcount, hst, ?_, hk, ?_⟩
  all_goals
    rw [ho]
    rfl

/-! ### The own clock (R402) -/

/-- A frame runs on the own clock, and its expected boundary is no later than the next tick. -/
def OwnBoundaryDue (d : Dev) : Prop :=
  d.rdF CAD_CTRL 1 0 = 2 ∧ d.cad.cause = none ∧ d.cad.framePeriod ≠ 0 ∧ d.expected ≤ d.time.tb + 1

theorem expected_congr {d e : Dev} (hb : e.boundTick = d.boundTick) (hp : e.cad.framePeriod = d.cad.framePeriod) : e.expected = d.expected := by
  rw [Dev.expected, hb, hp, Dev.expected]

theorem internalBoundary_of_due {d : Dev} (h : OwnBoundaryDue d) :
    internalBoundary d = boundaryAt (d.expected - 1) false none (d.wrN CAD_PERIOD d.nomTicks) := by
  obtain ⟨hsrc, hc, hp, he⟩ := h
  have hexp : (d.wrN CAD_PERIOD d.nomTicks).expected = d.expected :=
    expected_congr (Dev.boundTick_congr (Dev.rd_wrN_other d _ (by decide)) (Dev.rd_wrN_other d _ (by decide))) rfl
  rw [← hexp]
  exact if_pos ⟨hsrc, Option.isNone_iff_eq_none.2 hc, hp, he⟩

theorem internalBoundary_of_not_due {d : Dev} (h : ¬OwnBoundaryDue d) : internalBoundary d = d := by
  refine if_neg fun ⟨hsrc, hc, hp, he⟩ => h ⟨hsrc, Option.isNone_iff_eq_none.1 hc, hp, he⟩

theorem internalBoundary_spec {d : Dev} (h : OwnBoundaryDue d) :
    let e := internalBoundary d
    e.rd CAD_PERIOD = w32 d.nomTicks ∧ e.cad = { d.cad with cause := some { tick := d.expected - 1, fromEdge := false } } ∧
      RegsKeep [CAD_PERIOD] d e ∧ e = { d with regs := e.regs, cad := e.cad } := by
  rw [internalBoundary_of_due h]
  exact ⟨Dev.rd_wrN_same d _ _, rfl, regsKeep_wr d _ _, rfl⟩

/-! ### Edges of the frame sync (R404, R406 to R408, R410) -/

/-- An edge that has not come too late for the window of a frame in progress. -/
def EdgeInTime (d : Dev) : Prop := d.cadState < 2 ∨ d.time.tb ≤ windowClose d

theorem fsyncEdge_of_none {falling : Bool} {ns : Nat} {d : Dev} (h : pinWith d 1 = none) : fsyncEdge falling ns d = d := by
  simp [fsyncEdge, h]

theorem edgeCounted_rdF_low (n : Nat) (d : Dev) {a : Nat} (h : a < 0x11140) (hi lo : Nat) : (edgeCounted n d).rdF a hi lo = d.rdF a hi lo :=
  congrArg (fld · hi lo) (edgeCounted_rd_low n d h)

theorem edgeCounted_cadState (n : Nat) (d : Dev) : (edgeCounted n d).cadState = d.cadState := edgeCounted_rdF_low n d (by decide) 2 0

theorem edgeCounted_boundTick (n : Nat) (d : Dev) : (edgeCounted n d).boundTick = d.boundTick :=
  Dev.boundTick_congr (edgeCounted_rd_low n d (by decide)) (edgeCounted_rd_low n d (by decide))

theorem edgeCounted_inWindow (n : Nat) (d : Dev) (t : Nat) : inWindow (edgeCounted n d) t = inWindow d t := by
  have hexp : (edgeCounted n d).expected = d.expected := expected_congr (edgeCounted_boundTick n d) rfl
  rw [inWindow, windowClose, hexp, edgeCounted_rdF_low n d (by decide), edgeCounted_rdF_low n d (by decide), inWindow, windowClose]
  rfl

theorem windowClose_of_inWindow {d : Dev} {t : Nat} (h : inWindow d t = true) : t ≤ windowClose d := (of_decide_eq_true h).2

/-- The frame sync of the part as it counts an edge. -/
structure SyncEdge (n : Nat) (d : Dev) : Prop where
  pin : pinWith d 1 = some n
  src : d.rdF CAD_CTRL 1 0 = 1
  free : d.cad.cause = none
  inTime : EdgeInTime d

/-- An edge taken in WAIT_EDGE: the nominal period, ACQUIRE, and a boundary. -/
def acquireBegun (n : Nat) (d : Dev) : Dev :=
  let e := (edgeCounted n d).wrN CAD_PERIOD d.nomTicks
  boundaryAt d.time.tb true none (cadSet 2 { e with cad := { e.cad with lastEdge := some d.time.tb } })

/-- An edge taken in LOCKED inside the window: the period, measured from a boundary that an edge caused, and a boundary. -/
def lockedBoundary (n : Nat) (d : Dev) : Dev :=
  let e := if d.cad.boundFromEdge then (edgeCounted n d).wrN CAD_PERIOD (d.time.tb + 1 - d.boundTick) else edgeCounted n d
  boundaryAt d.time.tb true none { e with cad := { e.cad with lastEdge := some d.time.tb } }

section
variable {n : Nat} {d : Dev} (h : SyncEdge n d)
include h

/-- A pulse that the pin does not take changes nothing. -/
theorem fsyncEdge_eq {g : Dev} (hg : ∀ falling ns, takesEdge (bitOf (d.rd CAD_CTRL) 2) falling ns = true → fsyncEdge falling ns d = g)
    (falling : Bool) (ns : Nat) : fsyncEdge falling ns d = if takesEdge (bitOf (d.rd CAD_CTRL) 2) falling ns then g else d := by
  cases ht : takesEdge (bitOf (d.rd CAD_CTRL) 2) falling ns
  · simp [fsyncEdge, h.pin, ht]
  · exact hg falling ns ht

/-- The pin of an edge taken in time, as `fsyncEdge` looks for it. -/
theorem syncPin_taken {falling : Bool} {ns : Nat} (ht : takesEdge (bitOf (d.rd CAD_CTRL) 2) falling ns = true) :
    (pinWith d 1).filter (fun _ => takesEdge (bitOf (d.rd CAD_CTRL) 2) falling ns &&
      !(decide (2 ≤ d.cadState) && d.cad.cause.isNone && decide (windowClose d < d.time.tb))) = some n := by
  have hin : (decide (2 ≤ d.cadState) && decide (windowClose d < d.time.tb)) = false := by
    rcases h.inTime with hst | hw
    · rw [decide_eq_false (Nat.not_le.2 hst), Bool.false_and]
    · rw [decide_eq_false (Nat.not_lt.2 hw), Bool.and_false]
  rw [h.pin, Option.filter_some, ht, h.free, Option.isNone_none, Bool.and_true, hin]
  rfl

/-- Nothing keeps the counted edge of a cadence that is not idle from its effect. -/
theorem syncEdge_open (hst : d.cadState ≠ 0) : ¬((edgeCounted n d).rdF CAD_CTRL 1 0 ≠ 1 ∨ (edgeCounted n d).cadState = 0 ∨
    (edgeCounted n d).cad.cause.isSome = true) := by
  rw [edgeCounted_rdF_low n d (by decide), h.src, edgeCounted_cadState, show (edgeCounted n d).cad.cause = none from h.free]
  simpa using hst

theorem fsyncEdge_of_waiting (hst : d.cadState = 1) {falling : Bool} {ns : Nat}
    (ht : takesEdge (bitOf (d.rd CAD_CTRL) 2) falling ns = true) : fsyncEdge falling ns d = acquireBegun n d := by
  have hnom : (edgeCounted n d).nomTicks = d.nomTicks := congrArg usTicks (edgeCounted_rdF_low n d (by decide) 17 0)
  unfold fsyncEdge acquireBegun
  rw [syncPin_taken h ht, ← hnom]
  exact (if_neg (syncEdge_open h (hst.trans_ne Nat.one_ne_zero))).trans (if_pos ((edgeCounted_cadState n d).trans hst))

/-- An edge in LOCKED, by whether it lies in the window. -/
theorem fsyncEdge_of_locked (hst : d.cadState = 3) {falling : Bool} {ns : Nat}
    (ht : takesEdge (bitOf (d.rd CAD_CTRL) 2) falling ns = true) :
    fsyncEdge falling ns d = if inWindow d d.time.tb then lockedBoundary n d else (edgeCounted n d).bump CAD_EARLY_COUNT := by
  have hst' : (edgeCounted n d).cadState = 3 := (edgeCounted_cadState n d).trans hst
  unfold fsyncEdge lockedBoundary
  rw [syncPin_taken h ht, ← edgeCounted_inWindow n, ← edgeCounted_boundTick n d]
  exact (if_neg (syncEdge_open h (hst.trans_ne (by decide)))).trans ((if_neg (hst'.trans_ne (by decide))).trans (if_pos hst'))

end

theorem acquireBegun_spec {n : Nat} (d : Dev) :
    let e := acquireBegun n d
    e.cadState = 2 ∧ e.rd CAD_PERIOD = w32 d.nomTicks ∧ e.rd (PINS_EDGE_COUNT n) = satAdd (d.rd (PINS_EDGE_COUNT n)) 1 ∧
      e.cad = { d.cad with lastEdge := some d.time.tb, cause := some { tick := d.time.tb, fromEdge := true } } ∧
      RegsKeep [PINS_EDGE_COUNT n, CAD_PERIOD, CAD_STATE] d e ∧ e = { d with regs := e.regs, cad := e.cad, flt := e.flt } := by
  have hp : RegsKeep [CAD_PERIOD] (edgeCounted n d) ((edgeCounted n d).wrN CAD_PERIOD d.nomTicks) := regsKeep_wr _ _ _
  have hv : ((edgeCounted n d).wrN CAD_PERIOD d.nomTicks).rd CAD_PERIOD = w32 d.nomTicks := Dev.rd_wrN_same _ _ _
  unfold acquireBegun
  generalize he : (edgeCounted n d).wrN CAD_PERIOD d.nomTicks = e at hp hv
  have hk := cadSet_regsKeep 2 { e with cad := { e.cad with lastEdge := some d.time.tb } }
  have ho := cadSet_only 2 { e with cad := { e.cad with lastEdge := some d.time.tb } }
  have hst := cadSet_shows (st := 2) (by decide) { e with cad := { e.cad with lastEdge := some d.time.tb } }
  dsimp only
  generalize cadSet 2 _ = c at hk ho hst
  refine ⟨hst, (hk _ (by decide)).trans hv, ?_, ?_, ?_, ?_⟩
  · exact ((hk _ (edgeCount_not_mem (by decide) n)).trans (hp _ (edgeCount_not_mem (by decide) n))).trans (edgeCounted_count n d)
  · rw [ho, ← he]
    rfl
  · exact (((edgeCounted_onlyRegs n d).2.mono (by simp)).trans (hp.mono (by simp))).trans (hk.mono (by simp))
  · rw [ho, ← he]
    rfl

theorem lockedBoundary_spec {n : Nat} (d : Dev) :
    let e := lockedBoundary n d
    e.cadState = d.cadState ∧ e.rd (PINS_EDGE_COUNT n) = satAdd (d.rd (PINS_EDGE_COUNT n)) 1 ∧
      e.rd CAD_PERIOD = (if d.cad.boundFromEdge then w32 (d.time.tb + 1 - d.boundTick) else d.rd CAD_PERIOD) ∧
      e.cad = { d.cad with lastEdge := some d.time.tb, cause := some { tick := d.time.tb, fromEdge := true } } ∧
      RegsKeep [PINS_EDGE_COUNT n, CAD_PERIOD] d e ∧ e = { d with regs := e.regs, cad := e.cad } := by
  have hc := edgeCounted_onlyRegs n d
  unfold lockedBoundary
  cases d.cad.boundFromEdge
  · refine ⟨edgeCounted_cadState n d, edgeCounted_count n d, edgeCounted_rd_low n d (by decide), rfl, hc.2.mono (by simp), rfl⟩
  · have hp : RegsKeep [CAD_PERIOD] (edgeCounted n d) ((edgeCounted n d).wrN CAD_PERIOD (d.time.tb + 1 - d.boundTick)) := regsKeep_wr _ _ _
    refine ⟨?_, ?_, Dev.rd_wrN_same _ _ _, rfl, (hc.2.mono (by simp)).trans (hp.mono (by simp)), rfl⟩
    · exact (congrArg (fld · 2 0) (hp _ (by decide))).trans (edgeCounted_cadState n d)
    · exact (hp _ (edgeCount_not_mem (by decide) n)).trans (edgeCounted_count n d)

theorem earlyCounted_spec {n : Nat} (d : Dev) :
    let e := (edgeCounted n d).bump CAD_EARLY_COUNT
    e.rd CAD_EARLY_COUNT = satAdd (d.rd CAD_EARLY_COUNT) 1 ∧ OnlyRegs [PINS_EDGE_COUNT n, CAD_EARLY_COUNT] d e := by
  refine ⟨?_, ((edgeCounted_onlyRegs n d).mono (by simp)).trans ((onlyRegs_wr _ _ _).mono (by simp))⟩
  rw [Dev.rd_bump_same, edgeCounted_rd_low n d (by decide)]

/-- The three clauses of an edge at the pin of the frame sync. -/
theorem Gives.fsyncEdge {s : State} {n : Nat} {g : Dev} {q : Dev → Prop} (h : SyncEdge n s.dev)
    (hg : ∀ falling ns, takesEdge (bitOf (s.dev.rd CAD_CTRL) 2) falling ns = true → Machine.fsyncEdge falling ns s.dev = g) (hq : q g) :
    Gives .fsyncEdge s fun d => (pulseTaken 1 (bitOf (s.dev.rd CAD_CTRL) 2) s.dev = false ∧ d = s.dev) ∨
      pulseTaken 1 (bitOf (s.dev.rd CAD_CTRL) 2) s.dev = true ∧ q d :=
  Gives.onPulse (f := Machine.fsyncEdge) (g := fun _ => g) rfl (fsyncEdge_eq h hg) hq

end Sys2Proof.Machine

/-! PROOF. What a new frame sets off beside the cadence: the shares of power, the digests and the frames of a herd
(12_power_thermal.md R467, 14_channels_twin_herd.md R534, R544 to R548). -/

namespace Sys2Proof.Machine

/-! ### Effects beside the cadence -/

/-- No register of the CAD page differs; besides registers only the peers, the power control, the records and what was sent. -/
structure SideFrame (d e : Dev) : Prop where
  cad : ∀ a, 0x8000 ≤ a → a < 0x9000 → e.rd a = d.rd a
  rest : e = { d with regs := e.regs, peer := e.peer, pwr := e.pwr, tx := e.tx, flt := e.flt }

theorem SideFrame.refl (d : Dev) : SideFrame d d := ⟨fun _ _ _ => rfl, rfl⟩

theorem SideFrame.trans {a b c : Dev} (h : SideFrame a b) (g : SideFrame b c) : SideFrame a c where
  cad x hl hh := (g.cad x hl hh).trans (h.cad x hl hh)
  rest := by rw [g.rest, h.rest]

theorem SideFrame.foldl {α : Type} {f : Dev → α → Dev} {l : List α} (hf : ∀ d, ∀ x ∈ l, SideFrame d (f d x)) (d : Dev) :
    SideFrame d (l.foldl f d) := by
  induction l generalizing d with
  | nil => exact SideFrame.refl d
  | cons x t ih => exact (hf d x List.mem_cons_self).trans (ih (fun e y hy => hf e y (List.mem_cons_of_mem _ hy)) _)

theorem sideFrame_wr (d : Dev) {a : Nat} (w : Word) (h : a < 0x8000 ∨ 0x9000 ≤ a) : SideFrame d (d.wr a w) :=
  ⟨fun b _ _ => Dev.rd_wr_other d w (by omega), rfl⟩

theorem sideFrame_wr64 (d : Dev) {a : Nat} (v : Nat) (h : a + 4 < 0x8000 ∨ 0x9000 ≤ a) : SideFrame d (d.wr64 a v) :=
  (sideFrame_wr d _ (by omega)).trans (sideFrame_wr _ _ (by omega))

theorem sideFrame_modPeer (d : Dev) (f : PeerSt → PeerSt) : SideFrame d (d.modPeer f) := ⟨fun _ _ _ => rfl, rfl⟩

/-! ### The shares of power (R467) -/

theorem sideFrame_limitsRefresh (d : Dev) : SideFrame d (limitsRefresh d) := sideFrame_wr d _ (by decide)

theorem sideFrame_pwr (d : Dev) (p : PowerSt) : SideFrame d { d with pwr := p } := ⟨fun _ _ _ => rfl, rfl⟩

theorem sideFrame_herdShareFrame (d : Dev) : SideFrame d (herdShareFrame d) := by
  unfold herdShareFrame
  dsimp only
  split
  · exact sideFrame_pwr d _
  · refine SideFrame.trans ?_ (sideFrame_limitsRefresh _)
    split
    · exact ((sideFrame_pwr d _).trans (sideFrame_wr _ _ (by decide))).trans (sideFrame_pwr _ _)
    · exact (sideFrame_pwr d _).trans (sideFrame_pwr _ _)

/-! ### The digest latched (R548) -/

theorem sideFrame_herdLatch (d : Dev) : SideFrame d (herdLatch d) := by
  unfold herdLatch
  split
  · refine (sideFrame_modPeer d _).trans (SideFrame.foldl (fun e x _ => sideFrame_wr e _ (.inr ?_)) _)
    simp only [HERD_DIGEST]
    omega
  · exact SideFrame.refl d

/-! ### Frames sent (R529, R531) -/

theorem sideFrame_emitFrame (plane typ peer seq : Nat) (fields : List Nat) (data : List Byte) (d : Dev) :
    SideFrame d (emitFrame plane typ peer seq fields data d) := by
  unfold emitFrame
  split
  · exact SideFrame.refl d
  · exact ⟨fun _ _ _ => rfl, rfl⟩

theorem sideFrame_send (typ peer : Nat) (fields : List Nat) (d : Dev) : SideFrame d (send typ peer fields d) := by
  unfold send sendOn
  split
  · exact SideFrame.refl d
  · exact (sideFrame_modPeer d _).trans (sideFrame_emitFrame ..)

theorem sideFrame_sendAll (typ : Nat) (fields : List Nat) (d : Dev) : SideFrame d (sendAll typ fields d) :=
  SideFrame.foldl (fun e k _ => sideFrame_send typ k fields e) d

theorem sideFrame_sendMembership (beat : Nat) (to_ : List Nat) (d : Dev) : SideFrame d (sendMembership beat to_ d) := by
  have hsent (fs : List Nat) : SideFrame d (to_.foldl (fun d k => send fMembership k fs d) d) :=
    SideFrame.foldl (fun e k _ => sideFrame_send fMembership k fs e) d
  unfold sendMembership
  dsimp only
  split
  · split
    · exact (hsent _).trans (sideFrame_send ..)
    · exact hsent _
  · exact hsent _

/-! ### The reference's frame (R544, R545) -/

theorem sideFrame_lockBreak {n : Nat} (hn : n < 256) (d : Dev) : SideFrame d (lockBreak n d) := by
  obtain ⟨ho, hk⟩ := lockBreak_only n d
  refine ⟨fun a ha _ => hk a ?_, ?_⟩
  · simp only [LOCK_LOCK, List.mem_singleton]
    omega
  · rw [ho]

theorem sideFrame_breakLocksOf (agent : Nat) (d : Dev) : SideFrame d (breakLocksOf agent d) :=
  SideFrame.foldl (fun e _ hn => sideFrame_lockBreak (List.mem_range.1 (List.mem_of_mem_filter hn)) e) d

theorem sideFrame_peersOut (ks : List Nat) (d : Dev) : SideFrame d (peersOut ks d) :=
  SideFrame.foldl (fun e _ _ => sideFrame_breakLocksOf _ e) d

theorem sideFrame_setMembers (ps : List Nat) (d : Dev) : SideFrame d (setMembers ps d) := by
  have hshown (m : Nat) : SideFrame d ((d.wr64 (HERD_MEMBERS 0) m).wrF HERD_STATE 22 16 ps.length) :=
    (sideFrame_wr64 d m (.inr (by decide))).trans (sideFrame_wr _ _ (.inr (by decide)))
  unfold setMembers
  dsimp only
  split
  · exact hshown _
  · exact (hshown _).trans (sideFrame_peersOut _ _)

theorem sideFrame_referenceFrame (d : Dev) : SideFrame d (referenceFrame d) := by
  unfold referenceFrame
  dsimp only
  generalize htwin : (if !herdEn d ∧ twinSt d = 2 ∧ twinRole d = 0 then
    send fFrame (partnerKey d) [d.frame, d.taiNsAt d.boundTick] d else d) = t
  have hd : SideFrame d t := by
    rw [← htwin]
    split
    · exact sideFrame_send ..
    · exact SideFrame.refl d
  refine hd.trans ?_
  split
  · have hend (b : Bool) (e : Dev) : SideFrame e (if b then e.wrF HERD_STATE 25 25 0 else e) := by
      split
      · exact sideFrame_wr e _ (.inr (by decide))
      · exact SideFrame.refl e
    refine SideFrame.trans ?_ (hend _ _)
    refine SideFrame.trans ?_ (SideFrame.foldl (fun e p _ =>
      ((sideFrame_emitFrame ..).trans (sideFrame_setMembers _ _)).trans (sideFrame_modPeer _ _)) _)
    exact ((sideFrame_sendAll ..).trans (sideFrame_sendMembership ..)).trans (sideFrame_modPeer _ _)
  · exact SideFrame.refl t

end Sys2Proof.Machine

/-! PROOF. A new frame begins, and the statement about edges, windows and boundaries (10_cadence_time.md R405, R421). -/

namespace Sys2Proof.Machine

/-! ### The history of boundaries (R421) -/

theorem OnlyRegs.foldl {α : Type} {l : List Nat} {f : Dev → α → Dev} {xs : List α} (hf : ∀ d, ∀ x ∈ xs, OnlyRegs l d (f d x)) (d : Dev) :
    OnlyRegs l d (xs.foldl f d) := by
  induction xs generalizing d with
  | nil => exact ⟨RegsOnly.refl d, RegsKeep.refl l d⟩
  | cons x t ih => exact (hf d x List.mem_cons_self).trans (ih (fun e y hy => hf e y (List.mem_cons_of_mem _ hy)) _)

/-- The words of EDGE_HIST. -/
def edgeHistRegs : List Nat := (List.range 32).map CAD_EDGE_HIST

theorem mem_edgeHistRegs {k : Nat} (h : k < 32) : CAD_EDGE_HIST k ∈ edgeHistRegs := List.mem_map.2 ⟨k, List.mem_range.2 h, rfl⟩

theorem edgeHistPush_onlyRegs (frame tick : Nat) (d : Dev) : OnlyRegs edgeHistRegs d (edgeHistPush frame tick d) := by
  have hw {k : Nat} (h : k < 32) (e : Dev) (w : Word) : OnlyRegs edgeHistRegs e (e.wr (CAD_EDGE_HIST k) w) :=
    (onlyRegs_wr e _ w).mono (by simpa using mem_edgeHistRegs h)
  have hrow : ∀ h ∈ [7, 6, 5, 4, 3, 2, 1], h ≤ 7 := by decide
  have hmoved (e : Dev) : OnlyRegs edgeHistRegs e ([7, 6, 5, 4, 3, 2, 1].foldl (fun d h =>
      (List.range 4).foldl (fun d i => d.wr (CAD_EDGE_HIST (4 * h + i)) (d.rd (CAD_EDGE_HIST (4 * (h - 1) + i)))) d) e) := by
    refine OnlyRegs.foldl (fun a h hh => OnlyRegs.foldl (fun b i hi => hw ?_ b _) a) e
    have := hrow h hh
    have := List.mem_range.1 hi
    omega
  unfold edgeHistPush
  exact ((((hmoved d).trans (hw (by decide) _ _)).trans (hw (by decide) _ _)).trans (hw (by decide) _ _)).trans (hw (by decide) _ _)

/-! ### The end of a frame (R405, R416) -/

theorem Dev.rd_of_regs {d e : Dev} (h : e.regs = d.regs) (a : Nat) : e.rd a = d.rd a := by rw [Dev.rd, h, Dev.rd]

theorem entryWord_of_regs {d e : Dev} (h : e.regs = d.regs) (x i : Nat) : entryWord e x i = entryWord d x i := Dev.rd_of_regs h _

theorem insertDue_of_regs {d e : Dev} (h : e.regs = d.regs) (x : Nat) (l : List Nat) : insertDue e x l = insertDue d x l := by
  have ht (z : Nat) : entryType e z = entryType d z := by rw [entryType, entryWord_of_regs h, entryType]
  induction l with
  | nil => rfl
  | cons y t ih => simp only [insertDue, ht, ih]

/-- The entries not yet reached are read from the registers alone. -/
theorem unreached_of_regs {d e : Dev} (h : e.regs = d.regs) : unreached e = unreached d := by
  unfold unreached schedValid entryFrame Dev.frame
  simp only [entryWord_of_regs h, Dev.rd_of_regs h]
  congr 1
  funext x l
  exact insertDue_of_regs h x l

theorem frameSweep_of_none {d : Dev} (hu : unreached d = []) (hd : d.strm.deadlines = []) : frameSweep d = (d, []) := by
  simp [frameSweep, hu, hd]

theorem frameBoundary_of_waiting {d : Dev} (h : ∀ c, d.cad.cause = some c → d.time.tb ≤ c.tick) : frameBoundary d = (d, []) := by
  unfold frameBoundary
  cases hc : d.cad.cause with
  | none => rfl
  | some c => exact if_pos (by simp [h c hc])

theorem frameBoundary_of_due {d : Dev} {c : BoundCause} (hc : d.cad.cause = some c) (ht : c.tick < d.time.tb) (hu : unreached d = [])
    (hd : d.strm.deadlines = []) : frameBoundary d = (frameBegin c d, []) := by
  have hcond : (decide (d.time.tb ≤ c.tick) || (stopped d && !(unreached d).isEmpty)) = false := by
    rw [decide_eq_false (Nat.not_le.2 ht), hu]
    simp
  have hs := frameSweep_of_none (d := { d with time := { d.time with tb := c.tick } })
    ((unreached_of_regs (d := d) (e := { d with time := { d.time with tb := c.tick } }) rfl).trans hu) hd
  unfold frameBoundary
  rw [hc]
  dsimp only
  rw [hcond, if_neg Bool.false_ne_true, hs]

/-! ### The new frame (R405) -/

/-- The number of the new frame, where no reference frame waits. -/
def frameNumber (c : BoundCause) (d : Dev) : Nat :=
  match c.frame with
  | some n => n
  | none => (d.frame + 1) % 2 ^ 32

/-- The number is taken: a number adopted is the first no longer. -/
def numberTaken (c : BoundCause) (d : Dev) : Dev := if c.frame.isSome then d.modPeer fun p => { p with firstAdopt := false } else d

/-- FRAME, the boundary and the period of the new frame. -/
def frameShown (c : BoundCause) (n : Nat) (d : Dev) : Dev :=
  let p := (d.rd CAD_PERIOD).toNat
  let e := (d.wrN CAD_FRAME n).wr64 (CAD_BOUND_TB 0) (c.tick + 1)
  { e with cad := { e.cad with cause := none, framePeriod := p, boundFromEdge := c.fromEdge, periods := (p :: e.cad.periods).take 8 } }

theorem frameBegin_eq {c : BoundCause} {d : Dev} (h : c.frame = none → d.peer.refFrame = none) :
    frameBegin c d = referenceFrame (herdLatch (herdShareFrame (outPulse 4 (edgeHistPush (frameNumber c d) (c.tick + 1)
      (frameShown c (frameNumber c d) (numberTaken c d)))))) := by
  unfold frameBegin frameNumber numberTaken
  cases hf : c.frame with
  | some n => rfl
  | none =>
    have hr : refAdopt ((d.frame + 1) % 2 ^ 32) d = ((d.frame + 1) % 2 ^ 32, d) := by
      unfold refAdopt
      rw [h hf]
    dsimp only
    rw [hr]
    rfl

theorem w32_frameNumber (c : BoundCause) (d : Dev) :
    w32 (frameNumber c d) = (match c.frame with | some n => w32 n | none => d.rd CAD_FRAME + 1) := by
  unfold frameNumber
  cases c.frame with
  | some n => rfl
  | none =>
    apply BitVec.eq_of_toNat_eq
    simp [w32, Dev.frame]

theorem frameShown_spec (c : BoundCause) (n : Nat) (d : Dev) :
    let e := frameShown c n d
    e.rd CAD_FRAME = w32 n ∧ e.rd64 (CAD_BOUND_TB 0) = (c.tick + 1) % 2 ^ 64 :=
  ⟨(Dev.rd_wr64_ne _ _ (by decide) (by decide)).trans (Dev.rd_wrN_same d _ _), Dev.rd64_wr64_same _ _ _⟩

/-- After the number, the boundary and the period are shown, a new frame touches neither them nor the machine's units. -/
theorem frameBegin_spec {c : BoundCause} {d : Dev} (h : c.frame = none → d.peer.refFrame = none) :
    let e := frameBegin c d
    e.rd CAD_FRAME = w32 (frameNumber c d) ∧ e.rd64 (CAD_BOUND_TB 0) = (c.tick + 1) % 2 ^ 64 ∧
      e.cad.framePeriod = (d.rd CAD_PERIOD).toNat ∧ e.cad.cause = none ∧ e.cad.boundFromEdge = c.fromEdge ∧ e.time = d.time ∧
      e.tiles = d.tiles ∧ e.seqs = d.seqs ∧ e.fab = d.fab ∧ e.strm = d.strm ∧ e.memp = d.memp := by
  have htaken : ∃ p, numberTaken c d = { d with peer := p } := by
    unfold numberTaken
    split
    · exact ⟨_, rfl⟩
    · exact ⟨d.peer, rfl⟩
  obtain ⟨q, hq⟩ := htaken
  obtain ⟨hframe, hbound⟩ := frameShown_spec c (frameNumber c d) (numberTaken c d)
  obtain ⟨ho, hk⟩ := edgeHistPush_onlyRegs (frameNumber c d) (c.tick + 1) (frameShown c (frameNumber c d) (numberTaken c d))
  rw [frameBegin_eq h]
  generalize edgeHistPush _ _ _ = b at ho hk
  obtain ⟨p, hp⟩ := outPulse_eq 4 b
  rw [hp]
  have hside := ((sideFrame_herdShareFrame (b.withPulses p)).trans (sideFrame_herdLatch _)).trans (sideFrame_referenceFrame _)
  generalize referenceFrame _ = e at hside
  have hrd : ∀ a, 0x8000 ≤ a → a < 0x8200 → e.rd a = (frameShown c (frameNumber c d) (numberTaken c d)).rd a := fun a hl hh => by
    refine (hside.cad a hl (by omega)).trans (hk a fun hm => ?_)
    obtain ⟨k, -, rfl⟩ := List.mem_map.1 hm
    simp only [CAD_EDGE_HIST] at hh
    omega
  refine ⟨(hrd _ (by decide) (by decide)).trans hframe, ?_, ?_⟩
  · exact (rd64_congr (hrd _ (by decide) (by decide)) (hrd _ (by decide) (by decide))).trans hbound
  · rw [hside.rest, ho, hq]
    exact ⟨rfl, rfl, rfl, rfl, rfl, rfl, rfl, rfl, rfl⟩

/-- Settles O24: an edge by the state in which it finds the cadence, the close of its window, the own clock's boundary, and
the beginning of the frame. -/
theorem frameBoundaries : Obligations.FrameBoundaries := by
  refine ⟨fun s => ⟨fun h => Gives.onPulse_of_none (f := fsyncEdge) rfl fun _ _ => fsyncEdge_of_none h,
      fun n hp hsrc hc => ⟨fun hst => ?_, fun hst hw => ?_, fun hst he hw => ?_⟩⟩,
    fun s => ⟨fun h => Gives.onDev (f := windowCloses) rfl (windowCloses_spec h),
      fun h => Gives.onDev (f := windowCloses) rfl (windowCloses_of_not_due h)⟩,
    fun s => ⟨fun h => Gives.onDev (f := internalBoundary) rfl (internalBoundary_spec h),
      fun h => Gives.onDev (f := internalBoundary) rfl (internalBoundary_of_not_due h)⟩,
    fun s => ⟨fun h => ?_, fun c hc ht hu hd hr => ?_⟩⟩
  · have h : SyncEdge n s.dev := ⟨hp, hsrc, hc, .inl (hst.trans_lt (by decide))⟩
    exact Gives.fsyncEdge h (fun _ _ => fsyncEdge_of_waiting h hst) (acquireBegun_spec s.dev)
  · have h : SyncEdge n s.dev := ⟨hp, hsrc, hc, .inr (windowClose_of_inWindow hw)⟩
    obtain ⟨hcad, hrest⟩ := lockedBoundary_spec (n := n) s.dev
    exact Gives.fsyncEdge h (fun _ _ ht => (fsyncEdge_of_locked h hst ht).trans (if_pos hw)) ⟨hcad.trans hst, hrest⟩
  · have h : SyncEdge n s.dev := ⟨hp, hsrc, hc, .inr (Nat.le_of_lt (Nat.lt_of_lt_of_le he (Nat.le_add_right _ _)))⟩
    exact Gives.fsyncEdge h (fun _ _ ht => (fsyncEdge_of_locked h hst ht).trans (if_neg (by simp [hw]))) (earlyCounted_spec s.dev)
  · have hf := frameBoundary_of_waiting h
    refine Gives.onDevMem (f := fun _ d => frameBoundary d) rfl (by rw [hf]) (by rw [hf])
  · have hf := frameBoundary_of_due hc ht hu hd
    refine Gives.onDevMem (f := fun _ d => frameBoundary d) rfl (by rw [hf]) ?_
    rw [hf]
    obtain ⟨hframe, hrest⟩ := frameBegin_spec hr
    exact ⟨hframe.trans (w32_frameNumber c s.dev), hrest⟩

end Sys2Proof.Machine

/-! PROOF. The schedule table: entries added, deleted and issued (10_cadence_time.md R411 to R414, R423). -/

namespace Sys2Proof.Machine

/-! ### The words of an entry (R411) -/

/-- The registers of an entry. -/
def entryRegs (e : Nat) : List Nat := (List.range 4).map fun i => CAD_SCHED (4 * e + i)

theorem mem_entryRegs {e i : Nat} (h : i < 4) : CAD_SCHED (4 * e + i) ∈ entryRegs e := List.mem_map.2 ⟨i, List.mem_range.2 h, rfl⟩

theorem entryWord_wr (d : Dev) (e i j : Nat) (w : Word) :
    entryWord (d.wr (CAD_SCHED (4 * e + j)) w) e i = if i = j then w else entryWord d e i := by
  unfold entryWord CAD_SCHED
  rw [Dev.rd_wr]
  exact if_congr (by omega) rfl rfl

theorem entryWord_wr_result (d : Dev) (e i : Nat) (w : Word) : entryWord (d.wr CAD_SCHED_RESULT w) e i = entryWord d e i :=
  Dev.rd_wr_other d w (by simp only [CAD_SCHED, CAD_SCHED_RESULT]; omega)

/-! ### A command of SCHED_CMD (R413, R423) -/

theorem schedBase_pass {d : Dev} {agent : Nat} {b : Bool} (hm : d.mayWrite agent .cad = true) (hf : d.isFenced .cad = false)
    (hu : d.up = true) (hb : b = false) : ∀ x ∈ d.baseChecks agent .cad ++ [(ErrCode.reserved, b)], x.2 = false := fun x hx =>
  (List.mem_append.1 hx).elim (baseChecks_pass hm hf hu x) fun h => by rw [List.mem_singleton.1 h, hb]

/-- The word of SCHED_CMD has no bit beside its command and its entry. -/
def schedReserved (data : Word) : Bool := decide (data.toNat &&& 0xFFFFC0FC ≠ 0)

theorem schedCmd_of_add {data : Word} (h : fld data 1 0 = 1) (agent : Nat) (d : Dev) :
    schedCmd agent data d = addWrite agent (d.baseChecks agent .cad ++ [(.reserved, schedReserved data)]) (schedWords d) d := by
  unfold schedCmd
  rw [h]
  rfl

theorem schedCmd_of_delete {data : Word} (h : fld data 1 0 = 2) (agent : Nat) (d : Dev) :
    let e := fld data 13 8
    schedCmd agent data d = d.checked .cad 0x150 agent (d.baseChecks agent .cad ++ [(.reserved, schedReserved data)] ++
      [(.state, !schedValid d e), (.owner, schedValid d e && !(agent == entryOwner d e || isPewter agent || agent == agentDebug))])
      (deleteEntry e) := by
  unfold schedCmd
  rw [h]
  rfl

/-! ### ADD (R413) -/

/-- Entry e takes four words of an agent, and SCHED_RESULT reports it. -/
def entryTaken (e agent : Nat) (ws : List Word) (d : Dev) : Dev :=
  (((((d.wr (CAD_SCHED (4 * e)) (ws.getD 0 0)).wr (CAD_SCHED (4 * e + 1)) (setBit (setBit (ws.getD 1 0) 29 false) 31 true)).wr
    (CAD_SCHED (4 * e + 2)) (ws.getD 2 0)).wr (CAD_SCHED (4 * e + 3)) (setFld (ws.getD 3 0) 31 24 agent)).wrN CAD_SCHED_RESULT (e + 2 ^ 31))

theorem addEntry_of_lowest {e agent : Nat} {ws : List Word} {d : Dev} (he : e < 64) (hfree : schedValid d e = false)
    (hused : ∀ k, k < e → schedValid d k = true) : addEntry agent ws d = entryTaken e agent ws d := by
  have hfind : (List.range 64).find? (fun e => !schedValid d e) = some e :=
    List.find?_range_eq_some.2 ⟨by simp [hfree], List.mem_range.2 he, fun k hk => by simp [hused k hk]⟩
  unfold addEntry
  rw [hfind]
  rfl

theorem entryTaken_onlyRegs (e agent : Nat) (ws : List Word) (d : Dev) :
    OnlyRegs (CAD_SCHED_RESULT :: entryRegs e) d (entryTaken e agent ws d) := by
  have hw {i : Nat} (h : i < 4) (t : Dev) (w : Word) : OnlyRegs (CAD_SCHED_RESULT :: entryRegs e) t (t.wr (CAD_SCHED (4 * e + i)) w) :=
    (onlyRegs_wr t _ w).mono (by simpa using .inr (mem_entryRegs h))
  exact ((((hw (i := 0) (by decide) _ _).trans (hw (by decide) _ _)).trans (hw (by decide) _ _)).trans (hw (by decide) _ _)).trans
    ((onlyRegs_wr _ _ _).mono (by simp))

theorem entryTaken_word (e agent : Nat) (ws : List Word) (d : Dev) :
    let t := entryTaken e agent ws d
    entryWord t e 0 = ws.getD 0 0 ∧ entryWord t e 1 = setBit (setBit (ws.getD 1 0) 29 false) 31 true ∧ entryWord t e 2 = ws.getD 2 0 ∧
      entryWord t e 3 = setFld (ws.getD 3 0) 31 24 agent := by
  have h0 (i : Nat) : entryWord (d.wr (CAD_SCHED (4 * e)) (ws.getD 0 0)) e i = if i = 0 then ws.getD 0 0 else entryWord d e i :=
    entryWord_wr d e i 0 _
  simp only [entryTaken, Dev.wrN, entryWord_wr_result, entryWord_wr, h0]
  exact ⟨rfl, rfl, rfl, rfl⟩

theorem entryTaken_result (e agent : Nat) (ws : List Word) (d : Dev) : (entryTaken e agent ws d).rd CAD_SCHED_RESULT = w32 (e + 2 ^ 31) :=
  Dev.rd_wrN_same _ _ _

theorem lastAdded_entryTaken {e : Nat} (he : e < 64) (agent : Nat) (ws : List Word) (d : Dev) : lastAdded (entryTaken e agent ws d) = e := by
  rw [lastAdded, Dev.rdF, entryTaken_result, fld_w32 _ (by decide)]
  omega

/-- What the fields of an added entry show. -/
theorem entryTaken_spec {e : Nat} (agent : Nat) (ws : List Word) {d t : Dev}
    (h : ∀ a, 0x8000 ≤ a → a < 0x9000 → t.rd a = (entryTaken e agent ws d).rd a) (he : e < 64) :
    entryWord t e 0 = ws.getD 0 0 ∧ entryWord t e 2 = ws.getD 2 0 ∧ schedValid t e = true ∧ bitOf (entryWord t e 1) 29 = false ∧
      fld (entryWord t e 1) 28 0 = fld (ws.getD 1 0) 28 0 ∧ fld (entryWord t e 3) 23 0 = fld (ws.getD 3 0) 23 0 ∧
      entryOwner t e = agent % 256 ∧ t.rd CAD_SCHED_RESULT = w32 (e + 2 ^ 31) := by
  have hw (i : Nat) (hi : i < 4) : entryWord t e i = entryWord (entryTaken e agent ws d) e i :=
    h _ (by simp only [CAD_SCHED]; omega) (by simp only [CAD_SCHED]; omega)
  obtain ⟨h0, h1, h2, h3⟩ := entryTaken_word e agent ws d
  unfold schedValid entryOwner
  rw [hw 0 (by decide), hw 1 (by decide), hw 2 (by decide), hw 3 (by decide), h0, h1, h2, h3]
  refine ⟨rfl, rfl, bitOf_setBit_same _ 31 true (by decide), ?_, ?_, ?_, ?_, ?_⟩
  · rw [bitOf_setBit_other _ true (by decide), bitOf_setBit_same _ 29 false (by decide)]
  · rw [fld_setBit_other _ true (by decide), fld_setBit_other _ false (by decide)]
  · exact fld_setFld_other _ agent (by decide)
  · exact fld_setFld_same _ agent (by decide)
  · exact (h _ (by decide) (by decide)).trans (entryTaken_result e agent ws d)

theorem distribute_rd (ws : List Word) (e : Nat) (d : Dev) {a : Nat} (hl : 0x8000 ≤ a) (hh : a < 0x9000) :
    (distribute ws e d).rd a = d.rd a := by
  unfold distribute
  dsimp only
  split
  · exact (sideFrame_sendAll ..).cad a hl hh
  · rfl

theorem distribute_of_not_lead (ws : List Word) (e : Nat) {d : Dev} (h : isLead d = false) : distribute ws e d = d :=
  if_neg (by simp [h])

theorem isLead_entryTaken {e : Nat} (he : e < 64) (agent : Nat) (ws : List Word) (d : Dev) : isLead (entryTaken e agent ws d) = isLead d := by
  have hrd : (entryTaken e agent ws d).rd HERD_STATE = d.rd HERD_STATE := (entryTaken_onlyRegs e agent ws d).2 _ fun hm => by
    obtain h | hm := List.mem_cons.1 hm
    · exact absurd h (by decide)
    · obtain ⟨i, hi, h⟩ := List.mem_map.1 hm
      have := List.mem_range.1 hi
      simp only [CAD_SCHED, HERD_STATE] at h
      omega
  exact congrArg (fun w => fld w 2 0 == 4) hrd

theorem schedAdd_of_fail {d : Dev} {agent : Nat} {c : ErrCode} (hm : d.mayWrite agent .cad = true) (hf : d.isFenced .cad = false)
    (hu : d.up = true) (h : firstFail (addChecks d (schedWords d)) = some c) : schedCmd agent 1 d = d.reject .cad 0x150 agent c := by
  rw [schedCmd_of_add (by decide)]
  exact Dev.checked_fail d .cad 0x150 agent _ _ c ((firstFail_append_of_pass (schedBase_pass hm hf hu (by decide)) _).trans h)

theorem schedAdd_of_pass {d : Dev} {agent e : Nat} (hm : d.mayWrite agent .cad = true) (hf : d.isFenced .cad = false)
    (hu : d.up = true) (h : firstFail (addChecks d (schedWords d)) = none) (he : e < 64) (hfree : schedValid d e = false)
    (hused : ∀ k, k < e → schedValid d k = true) :
    schedCmd agent 1 d = distribute (schedWords d) e (entryTaken e agent (schedWords d) d) := by
  have hall := (firstFail_append_of_pass (schedBase_pass hm hf hu (b := schedReserved 1) (by decide)) _).trans h
  rw [schedCmd_of_add (by decide), addWrite, Dev.checked_pass (h := (firstFail_none _).1 hall)]
  dsimp only
  rw [addEntry_of_lowest he hfree hused, lastAdded_entryTaken he]

/-! ### DELETE (R413) -/

/-- The word of SCHED_CMD that deletes an entry. -/
def deleteWord (e : Nat) : Word := w32 (2 + e * 2 ^ 8)

theorem schedReserved_deleteWord {e : Nat} (he : e < 64) : schedReserved (deleteWord e) = false := by
  have h : ∀ e < 64, schedReserved (deleteWord e) = false := by decide
  exact h e he

theorem schedDelete_of_pass {d : Dev} {agent e : Nat} (hm : d.mayWrite agent .cad = true) (hf : d.isFenced .cad = false)
    (hu : d.up = true) (he : e < 64) (hv : schedValid d e = true)
    (ho : agent = entryOwner d e ∨ isPewter agent = true ∨ agent = agentDebug) : schedCmd agent (deleteWord e) d = deleteEntry e d := by
  have hcmd : fld (deleteWord e) 1 0 = 2 := (fld_w32 _ (by decide)).trans (by omega)
  have hent : fld (deleteWord e) 13 8 = e := (fld_w32 _ (by decide)).trans (by omega)
  have howner : (agent == entryOwner d e || isPewter agent || agent == agentDebug) = true := by simpa [or_assoc] using ho
  have hall : firstFail [(.state, !schedValid d e),
      (.owner, schedValid d e && !(agent == entryOwner d e || isPewter agent || agent == agentDebug))] = none := by
    rw [howner, hv]
    rfl
  have hbase := (firstFail_append_of_pass (schedBase_pass hm hf hu (schedReserved_deleteWord he)) _).trans hall
  rw [schedCmd_of_delete hcmd, hent]
  exact Dev.checked_pass d .cad 0x150 agent _ _ ((firstFail_none _).1 hbase)

theorem deleteEntry_of_issued {d : Dev} {e : Nat} (h : (kvGet? d.cad.issued e).isSome = true) :
    deleteEntry e d = { d with cad := { d.cad with delAfter := setIns d.cad.delAfter e } } := if_pos h

theorem deleteEntry_of_waiting {d : Dev} {e : Nat} (h : kvGet? d.cad.issued e = none) : deleteEntry e d = freeEntry e d :=
  if_neg (by simp [h])

/-- The four words of an entry are 0. -/
def entryCleared (e : Nat) (d : Dev) : Dev := (List.range 4).foldl (fun d i => d.wr (CAD_SCHED (4 * e + i)) 0) d

theorem entryCleared_onlyRegs (e : Nat) (d : Dev) : OnlyRegs (entryRegs e) d (entryCleared e d) :=
  OnlyRegs.foldl (fun t i hi => (onlyRegs_wr t _ 0).mono (by simpa using mem_entryRegs (List.mem_range.1 hi))) d

theorem entryCleared_word {i : Nat} (hi : i < 4) (e : Nat) (d : Dev) : entryWord (entryCleared e d) e i = 0 := by
  simp only [entryCleared, List.range_succ, List.range_zero, List.nil_append, List.foldl_append, List.foldl_cons, List.foldl_nil, entryWord_wr]
  interval_cases i <;> rfl

/-- Nothing of an entry's issue stays. -/
def entryForgotten (e : Nat) (d : Dev) : Dev :=
  { d with cad := { d.cad with issued := kvDel d.cad.issued e, delAfter := setDel d.cad.delAfter e, distributed := setDel d.cad.distributed e } }

theorem entryForgotten_regs (e : Nat) (d : Dev) : (entryForgotten e d).regs = d.regs := rfl

theorem freeEntry_eq (e : Nat) (d : Dev) : freeEntry e d = entryForgotten e (entryCleared e d) := rfl

/-- The words of a freed entry are 0 (log entry 36). -/
theorem freeEntry_spec (e : Nat) (d : Dev) :
    let t := freeEntry e d
    (∀ i, i < 4 → entryWord t e i = 0) ∧ RegsKeep (entryRegs e) d t ∧ t = { d with regs := t.regs, cad := t.cad } := by
  obtain ⟨ho, hk⟩ := entryCleared_onlyRegs e d
  have hr := entryForgotten_regs e (entryCleared e d)
  rw [freeEntry_eq]
  refine ⟨fun i hi => (entryWord_of_regs hr e i).trans (entryCleared_word hi e d), hk.of_regs hr, ?_⟩
  rw [entryForgotten, ho]

/-! ### The instant of an entry (R414) -/

/-- The instant of an entry of the present frame. -/
def presentInstant (e : Nat) (d : Dev) : Nat := d.boundTick + (entryPhase d e * d.cad.framePeriod + 65535) / 65536

/-- An entry is noted as issued. -/
def issueNoted (e : Nat) (i : Issue) (d : Dev) : Dev := { d with cad := { d.cad with issued := kvPut d.cad.issued e i } }

theorem schedIssue_of_present {d : Dev} {e : Nat} (hv : schedValid d e = true) (hr : frameRuns d = true)
    (hi : kvGet? d.cad.issued e = none) (hf : entryFrame d e = d.frame) :
    schedIssue e d = if entryLead (entryType d e) = 0 then issueNoted e { tick := presentInstant e d } d
      else if presentInstant e d < d.boundTick + entryLead (entryType d e) then
        (if presentInstant e d ≤ d.time.tb then issueAhead e (presentInstant e d) true d else d)
      else if presentInstant e d ≤ d.time.tb + entryLead (entryType d e) then issueAhead e (presentInstant e d) false d else d :=
  (if_neg (by simp [hv, hr, hi])).trans (if_pos hf)

/-! ### A snapshot issued ahead (R88, R414) -/

/-- A trigger that no snapshot in flight and no HOLD refuses. -/
theorem snapTrigger_accepted {src tick : Nat} {d : Dev} (hs : d.ctl.snap = none) (hc : bitOf (d.rd SNAP_CTRL) 0 = false) :
    snapTrigger src tick d = (snapReached { snapRegs src tick d with ctl := snapBegun tick d }, true) := by
  have hrd : (snapRegs src tick d).rd SNAP_CTRL = d.rd SNAP_CTRL := snapRegs_regsKeep src tick d _ (by decide)
  have hbegun : ({ d.ctl with
      snap := some { id := d.ctl.nextSnap, tick, spill := bitOf ((snapRegs src tick d).rd SNAP_CTRL) 1 },
      nextSnap := (d.ctl.nextSnap + 1) % 2 ^ 32 } : ControlSt) = snapBegun tick d := by
    rw [hrd]
    rfl
  rw [← hbegun]
  exact if_neg (by simp [hs, hc])

/-- The snapshot begun keeps its ID, its instant and its source when its instant is reached. -/
theorem snapReached_spec {d : Dev} {x : Snap} (h : d.ctl.snap = some x) :
    let t := snapReached d
    (∃ y, t.ctl.snap = some y ∧ y.id = x.id ∧ y.tick = x.tick) ∧ fld (t.rd SNAP_LAST_PHASE) 19 16 = fld (d.rd SNAP_LAST_PHASE) 19 16 ∧
      t = { d with regs := t.regs, ctl := t.ctl } := by
  unfold snapReached
  rw [h]
  dsimp only
  split
  · refine ⟨⟨_, rfl, rfl, rfl⟩, ?_, rfl⟩
    exact (congrArg (fld · 19 16) (Dev.rd_wrF_same (d.wrN SNAP_LAST_FRAME d.frame) _ _ _ _)).trans
      ((fld_setFld_other _ _ (by decide)).trans (congrArg (fld · 19 16) (Dev.rd_wrN_other d _ (by decide))))
  · exact ⟨⟨x, h, rfl, rfl⟩, rfl, rfl⟩

/-- An accepted SNAPSHOT entry: the snapshot at its instant with source 2, and the entry issued. -/
theorem issueAhead_snapshot_spec {d : Dev} {e inst : Nat} (ht : entryType d e = 5) (hs : d.ctl.snap = none)
    (hc : bitOf (d.rd SNAP_CTRL) 0 = false) :
    let t := issueAhead e inst false d
    (∃ x, t.ctl.snap = some x ∧ x.id = d.ctl.nextSnap ∧ x.tick = inst) ∧ fld (t.rd SNAP_LAST_PHASE) 19 16 = 2 ∧
      kvGet? t.cad.issued e = some { tick := inst } ∧ t = { d with regs := t.regs, ctl := t.ctl, cad := t.cad } := by
  have hi : issueAhead e inst false d =
      issueNoted e { tick := inst } (snapReached { snapRegs 2 inst d with ctl := snapBegun inst d }) := by
    unfold issueAhead
    rw [if_pos ht, if_neg Bool.false_ne_true, snapTrigger_accepted hs hc]
    rfl
  obtain ⟨hsnap, hsrc, hrest⟩ := snapReached_spec (d := { snapRegs 2 inst d with ctl := snapBegun inst d }) rfl
  have hphase : (snapRegs 2 inst d).rd SNAP_LAST_PHASE = setFld (d.rd SNAP_LAST_PHASE) 19 16 2 := by
    rw [snapRegs_rd]
    rfl
  rw [hi]
  refine ⟨hsnap, ?_, kvGet?_put_same _ _ _, ?_⟩
  · exact hsrc.trans ((congrArg (fld · 19 16) hphase).trans (fld_setFld_same _ 2 (by decide)))
  · rw [issueNoted, hrest]
    rfl

/-- Settles O25: an added entry by the four staged words it takes, a deleted one by whether it is issued, and an issued one
by its lead. -/
theorem scheduleTable : Obligations.ScheduleTable := by
  refine ⟨fun s agent hm hf hu => ⟨fun c hc => ?_, fun e hpass he hfree hused => ?_⟩,
    fun s agent e hm hf hu he hv ho => ⟨fun hw => ?_, fun hi => ?_⟩,
    fun s e he hv hr hi hf => ⟨fun hlead => ?_, fun htype hfar hnear hs hc => ?_⟩⟩
  · exact Gives.onDev (f := schedCmd agent 1) rfl (schedAdd_of_fail hm hf hu hc)
  · refine Gives.onDev (f := schedCmd agent 1) rfl ?_
    rw [schedAdd_of_pass hm hf hu hpass he hfree hused]
    obtain ⟨h0, h2, hvalid, hlate, h1, h3, howner, hresult⟩ :=
      entryTaken_spec agent (schedWords s.dev) (fun a => distribute_rd (schedWords s.dev) e (entryTaken e agent (schedWords s.dev) s.dev)) he
    refine ⟨h0, h2, hvalid, hlate, h1, h3, howner, hresult, fun hlead => ?_⟩
    rw [distribute_of_not_lead _ _ ((isLead_entryTaken he agent _ s.dev).trans hlead)]
    exact entryTaken_onlyRegs e agent _ s.dev
  · refine Gives.guarded (f := schedCmd agent (deleteWord e)) rfl (decide_eq_true he) ?_
    rw [schedDelete_of_pass hm hf hu he hv ho, deleteEntry_of_waiting hw]
    exact freeEntry_spec e s.dev
  · refine Gives.guarded (f := schedCmd agent (deleteWord e)) rfl (decide_eq_true he) ?_
    rw [schedDelete_of_pass hm hf hu he hv ho]
    exact deleteEntry_of_issued hi
  · refine Gives.guarded (f := schedIssue e) rfl (decide_eq_true he) ?_
    exact (schedIssue_of_present hv hr hi hf).trans (if_pos hlead)
  · refine Gives.guarded (f := schedIssue e) rfl (decide_eq_true he) ?_
    have hlead : entryLead (entryType s.dev e) = 1600 := by rw [htype]; rfl
    have hissue : schedIssue e s.dev = issueAhead e (presentInstant e s.dev) false s.dev := by
      rw [schedIssue_of_present hv hr hi hf, hlead, if_neg (by decide)]
      exact (if_neg (Nat.not_lt.2 hfar)).trans (if_pos hnear)
    rw [hissue]
    exact issueAhead_snapshot_spec htype hs hc

end Sys2Proof.Machine

/-! PROOF. The seams of the fields: what the cause of a hold shows and what an unlock leaves
(07_fabric.md R305, R306, 11_clocking.md R436, R438). -/

namespace Sys2Proof.Machine

/-- What every step of a fold keeps, the fold keeps. -/
theorem foldl_kept {α : Type} {R : Dev → Dev → Prop} (hrefl : ∀ d, R d d) (htrans : ∀ {a b c}, R a b → R b c → R a c) {f : Dev → α → Dev}
    {l : List α} (hf : ∀ d, ∀ x ∈ l, R d (f d x)) (d : Dev) : R d (l.foldl f d) := by
  induction l generalizing d with
  | nil => exact hrefl d
  | cons x t ih => exact htrans (hf d x List.mem_cons_self) (ih (fun e y hy => hf e y (List.mem_cons_of_mem _ hy)) _)

/-! ### The registers of the segments -/

/-- The registers of the east and south segments. -/
def seamRegs : List Nat := (List.range 12).flatMap fun f => [FIELD_SEAM_E f, FIELD_SEAM_S f]

theorem seamReg_eq (f : Nat) (south : Bool) : seamReg f south = 0x20904 + 0x8000 * f + 4 * south.toNat := by
  cases south <;> simp only [seamReg, FIELD_SEAM_E, FIELD_SEAM_S, fieldBase, if_true, if_false, Bool.false_eq_true, Bool.toNat_true, Bool.toNat_false] <;> omega

theorem mem_seamRegs {f : Nat} (hf : f < 12) (south : Bool) : seamReg f south ∈ seamRegs := by
  refine List.mem_flatMap.2 ⟨f, List.mem_range.2 hf, ?_⟩
  cases south <;> simp [seamReg]

theorem not_mem_seamRegs {a : Nat} (h : a < 0x20000) : a ∉ seamRegs := by
  intro hm
  obtain ⟨f, -, hf⟩ := List.mem_flatMap.1 hm
  simp only [List.mem_cons, List.not_mem_nil, or_false, FIELD_SEAM_E, FIELD_SEAM_S, fieldBase] at hf
  omega

theorem seamReg_inj {f g : Nat} {s t : Bool} : seamReg f s = seamReg g t ↔ (f, s) = (g, t) := by
  rw [seamReg_eq, seamReg_eq, Prod.mk.injEq]
  cases s <;> cases t <;> simp <;> omega

theorem fieldBase_le_seamReg (f : Nat) (south : Bool) : fieldBase 0 ≤ seamReg f south := by
  rw [seamReg_eq, fieldBase]
  omega

theorem mem_allSeams {f : Nat} (hf : f < 12) (south : Bool) : (f, south) ∈ allSeams := by
  refine List.mem_flatMap.2 ⟨f, List.mem_range.2 hf, ?_⟩
  cases south <;> simp

theorem lt_of_mem_allSeams {s : Nat × Bool} (h : s ∈ allSeams) : s.1 < 12 := by
  obtain ⟨f, hf, hs⟩ := List.mem_flatMap.1 h
  have hfield : s = (f, false) ∨ s = (f, true) := by simpa using hs
  obtain rfl | rfl := hfield <;> exact List.mem_range.1 hf

/-! ### Holds (R306) -/

/-- HOLD of one segment, where it is present, shows its causes. -/
def showHold (d : Dev) (s : Nat × Bool) : Dev :=
  if seamPresent d s.1 s.2 then d.wr (seamReg s.1 s.2) (setBit (d.rd (seamReg s.1 s.2)) 9 (seamHeld d s.1 s.2)) else d

theorem showHolds_eq (d : Dev) : showHolds d = allSeams.foldl showHold d := rfl

theorem showHold_regsOnly (d : Dev) (s : Nat × Bool) : RegsOnly d (showHold d s) := by
  unfold showHold
  split
  · exact regsOnly_wr d _ _
  · exact RegsOnly.refl d

theorem showHold_onlyRegs (d : Dev) {s : Nat × Bool} (h : s.1 < 12) : OnlyRegs seamRegs d (showHold d s) := by
  unfold showHold
  split
  · exact (onlyRegs_wr d _ _).mono (by simpa using mem_seamRegs h s.2)
  · exact ⟨RegsOnly.refl d, RegsKeep.refl _ d⟩

theorem showHolds_onlyRegs (d : Dev) : OnlyRegs seamRegs d (showHolds d) :=
  OnlyRegs.foldl (fun e _ hs => showHold_onlyRegs e (lt_of_mem_allSeams hs)) d

theorem seamHeld_of_regsOnly {d e : Dev} (h : RegsOnly d e) (f : Nat) (south : Bool) : seamHeld e f south = seamHeld d f south := by
  rw [h]
  rfl

theorem setBit_setBit (w : Word) (i : Nat) (b c : Bool) : setBit (setBit w i b) i c = setBit w i c := by
  refine BitVec.eq_of_getLsbD_eq fun j _ => ?_
  simp only [setBit, setFld_getLsbD]
  split <;> rfl

theorem setBit_present (w : Word) (b : Bool) : bitOf (setBit w 9 b) 31 = bitOf w 31 := bitOf_setBit_other w b (by decide)

/-- The word of a segment after one segment's HOLD is shown. -/
theorem showHold_rd (d : Dev) (s : Nat × Bool) (f : Nat) (south : Bool) : (showHold d s).rd (seamReg f south) =
    if (f, south) = s ∧ seamPresent d f south = true then setBit (d.rd (seamReg f south)) 9 (seamHeld d f south)
    else d.rd (seamReg f south) := by
  obtain ⟨g, t⟩ := s
  unfold showHold
  by_cases hs : (f, south) = (g, t)
  · obtain ⟨rfl, rfl⟩ := Prod.mk.inj hs
    by_cases hp : seamPresent d f south = true
    · rw [if_pos hp, if_pos ⟨rfl, hp⟩, Dev.rd_wr_same]
    · rw [if_neg hp, if_neg fun h => hp h.2]
  · rw [if_neg (c := _ ∧ _) fun h => hs h.1]
    split
    · exact Dev.rd_wr_other d _ fun h => hs (seamReg_inj.1 h)
    · rfl

theorem showHold_foldl_rd (l : List (Nat × Bool)) (d : Dev) (f : Nat) (south : Bool) : (l.foldl showHold d).rd (seamReg f south) =
    if (f, south) ∈ l ∧ seamPresent d f south = true then setBit (d.rd (seamReg f south)) 9 (seamHeld d f south)
    else d.rd (seamReg f south) := by
  induction l generalizing d with
  | nil => simp
  | cons s t ih =>
    have hword := showHold_rd d s f south
    have hpresent : seamPresent (showHold d s) f south = seamPresent d f south := by
      unfold seamPresent
      rw [hword]
      split
      · exact setBit_present _ _
      · rfl
    rw [List.foldl_cons, ih, hpresent, seamHeld_of_regsOnly (showHold_regsOnly d s), hword]
    by_cases hp : seamPresent d f south = true <;> by_cases hs : (f, south) = s <;> by_cases ht : (f, south) ∈ t <;>
      simp [hp, hs, ht, setBit_setBit]

/-- HOLD of every segment of the die after the causes are shown. -/
theorem showHolds_rd {f : Nat} (hf : f < 12) (south : Bool) (d : Dev) : (showHolds d).rd (seamReg f south) =
    if seamPresent d f south = true then setBit (d.rd (seamReg f south)) 9 (seamHeld d f south) else d.rd (seamReg f south) := by
  rw [showHolds_eq, showHold_foldl_rd]
  simp [mem_allSeams hf south]

theorem showHolds_held {f : Nat} (hf : f < 12) {south : Bool} {d : Dev} (hp : seamPresent d f south = true) :
    bitOf ((showHolds d).rd (seamReg f south)) 9 = seamHeld d f south := by
  rw [showHolds_rd hf, if_pos hp, bitOf_setBit_same _ _ _ (by decide)]

theorem showHolds_bit {f i : Nat} (hf : f < 12) (hi : i ≠ 9) (south : Bool) (d : Dev) :
    bitOf ((showHolds d).rd (seamReg f south)) i = bitOf (d.rd (seamReg f south)) i := by
  rw [showHolds_rd hf]
  split
  · exact bitOf_setBit_other _ _ hi
  · rfl

/-! ### Unlocks (R305) -/

theorem Dev.traceEvent_rd_other (d : Dev) {f b : Nat} (typ seq hi w2 w3 src : Nat) (h : b ≠ TRACE_LOST_WORDS f) :
    (d.traceEvent f typ seq hi w2 w3 src).rd b = d.rd b := by
  have hgap : (traceGap f d).rd b = d.rd b := by
    obtain hg | ⟨t, n, hg⟩ := traceGap_cases f d <;> rw [hg]
    exact Dev.rd_wr_other _ _ h
  obtain he | ⟨t, he⟩ := d.traceEvent_cases f typ seq hi w2 w3 src <;> rw [he]
  exact hgap

/-- Segments may have unlocked: their LOCKED bits apart, the words of the segments are as before, no segment has locked, and
what waits to be recorded still does. -/
structure SeamsLowered (d e : Dev) : Prop where
  fabric : FabricOnly d e
  bits : ∀ f south i, i ≠ 8 → bitOf (e.rd (seamReg f south)) i = bitOf (d.rd (seamReg f south)) i
  locks : ∀ f south, bitOf (d.rd (seamReg f south)) 8 = false → bitOf (e.rd (seamReg f south)) 8 = false
  records : d.flt.pendingRecords.length ≤ e.flt.pendingRecords.length

theorem SeamsLowered.refl (d : Dev) : SeamsLowered d d :=
  ⟨.refl d, fun _ _ _ _ => rfl, fun _ _ h => h, le_rfl⟩

theorem SeamsLowered.trans {a b c : Dev} (h : SeamsLowered a b) (g : SeamsLowered b c) : SeamsLowered a c where
  fabric := h.fabric.trans g.fabric
  bits f s i hi := (g.bits f s i hi).trans (h.bits f s i hi)
  locks f s hl := g.locks f s (h.locks f s hl)
  records := h.records.trans g.records

theorem SeamsLowered.present {d e : Dev} (h : SeamsLowered d e) (f : Nat) (south : Bool) : seamPresent e f south = seamPresent d f south :=
  h.bits f south 31 (by decide)

theorem SeamsLowered.clk {d e : Dev} (h : SeamsLowered d e) : e.clk = d.clk := by rw [h.fabric.1]

theorem SeamsLowered.rd_low {d e : Dev} (h : SeamsLowered d e) {a : Nat} (ha : a < 0xE000) : e.rd a = d.rd a :=
  h.fabric.2 a (by simp only [fieldBase]; omega) (by simp only [CHAN_XING_DROP_COUNT]; omega)

/-- What leaves the segments' words and the records alone lowers no segment. -/
theorem SeamsLowered.of_kept {d e : Dev} (hf : FabricOnly d e) (hr : ∀ f south, e.rd (seamReg f south) = d.rd (seamReg f south))
    (hl : d.flt.pendingRecords.length ≤ e.flt.pendingRecords.length) : SeamsLowered d e :=
  ⟨hf, fun f s _ _ => by rw [hr], fun f s h => by rw [hr, h], hl⟩

theorem seamsLowered_wr (f : Nat) (south : Bool) (d : Dev) : SeamsLowered d (d.wr (seamReg f south) (setBit (d.rd (seamReg f south)) 8 false)) := by
  have hword (g : Nat) (t : Bool) := Dev.rd_wr d (seamReg f south) (seamReg g t) (setBit (d.rd (seamReg f south)) 8 false)
  refine ⟨fabricOnly_wr d _ (.inl (fieldBase_le_seamReg f south)), fun g t i hi => ?_, fun g t hl => ?_, by rw [Dev.wr_flt]⟩
  · rw [hword]
    split
    · next h => rw [h, bitOf_setBit_other _ _ hi]
    · rfl
  · rw [hword]
    split
    · exact bitOf_setBit_same _ _ _ (by decide)
    · exact hl

theorem Dev.traceEvent_flt (d : Dev) (f typ seq hi w2 w3 src : Nat) : (d.traceEvent f typ seq hi w2 w3 src).flt = d.flt := by
  have hgap : (traceGap f d).flt = d.flt := by
    obtain hg | ⟨t, n, hg⟩ := traceGap_cases f d <;> simp [hg]
  obtain he | ⟨t, he⟩ := d.traceEvent_cases f typ seq hi w2 w3 src <;> simp [he, hgap]

theorem seamsLowered_traceEvent (d : Dev) (f typ seq hi w2 w3 src : Nat) : SeamsLowered d (d.traceEvent f typ seq hi w2 w3 src) := by
  refine .of_kept (Dev.traceEvent_fabricOnly ..) (fun g t => Dev.traceEvent_rd_other _ _ _ _ _ _ _ ?_) (by rw [Dev.traceEvent_flt])
  rw [seamReg_eq]
  simp only [TRACE_LOST_WORDS, traceBase]
  cases t <;> simp <;> omega

theorem seamsLowered_foldl {α : Type} {f : Dev → α → Dev} (hf : ∀ d x, SeamsLowered d (f d x)) (l : List α) (d : Dev) :
    SeamsLowered d (l.foldl f d) :=
  foldl_kept .refl .trans (fun e x _ => hf e x) d

/-- What an unlock does beside the segment's own word: the flits inside are lost, counted, traced and recorded. -/
def seamDropped (f : Nat) (south : Bool) (lost : List Flight) (d : Dev) : Dev :=
  let n := (lost.map fun fl => fl.pkt.flits).sum
  let d := d.modFab fun x => { x with
    net := x.net.filter fun fl => !inSeam f south fl, seamTick := kvPut x.seamTick (seamUnit f south) d.time.tb }
  let d := d.bumpBy (FIELD_SEAM_DROP_COUNT f) n
  let d := lost.foldl (fun d fl => d.traceEvent (siteField fl.site) 6 0x3F 5 fl.site 0 7) d
  d.record 0x0F 7 (seamUnit f south) (min n 0xFFFF) (routerCmd d (fieldChannel f) 0x0F)

theorem seamUnlock_eq (f : Nat) (south : Bool) (d : Dev) : seamUnlock f south d =
    if seamPresent d f south && bitOf (d.rd (seamReg f south)) 8 then
      seamDropped f south (d.fab.net.filter (inSeam f south)) (d.wr (seamReg f south) (setBit (d.rd (seamReg f south)) 8 false))
    else d := rfl

theorem seamsLowered_dropped (f : Nat) (south : Bool) (lost : List Flight) (d : Dev) : SeamsLowered d (seamDropped f south lost d) := by
  have hfab (x : FabricSt) (e : Dev) : SeamsLowered e { e with fab := x } :=
    .of_kept ⟨rfl, fun _ _ _ => rfl⟩ (fun _ _ => rfl) le_rfl
  have hcount (n : Nat) (e : Dev) : SeamsLowered e (e.bumpBy (FIELD_SEAM_DROP_COUNT f) n) := by
    refine .of_kept (fabricOnly_wr e _ (.inl (by simp only [FIELD_SEAM_DROP_COUNT, fieldBase]; omega))) (fun g t => Dev.rd_wr_other e _ ?_) (by rw [Dev.bumpBy_flt])
    rw [seamReg_eq]
    simp only [FIELD_SEAM_DROP_COUNT, fieldBase]
    cases t <;> simp <;> omega
  have hrecord (cls kind unit synd : Nat) (cmd : Option CmdRef) (e : Dev) : SeamsLowered e (e.record cls kind unit synd cmd) :=
    .of_kept (fabricOnly_record ..) (fun _ _ => rfl) (by simp [Dev.record])
  unfold seamDropped
  exact (((hfab _ d).trans (hcount _ _)).trans (seamsLowered_foldl (fun e fl => seamsLowered_traceEvent e ..) _ _)).trans (hrecord ..)

/-- An unlock lowers segments only, and leaves its own unlocked where it is present. -/
theorem seamUnlock_lowers (f : Nat) (south : Bool) (d : Dev) : SeamsLowered d (seamUnlock f south d) ∧
    (seamPresent d f south = true → bitOf ((seamUnlock f south d).rd (seamReg f south)) 8 = false) := by
  rw [seamUnlock_eq]
  split
  · refine ⟨(seamsLowered_wr f south d).trans (seamsLowered_dropped ..), fun _ => (seamsLowered_dropped ..).locks f south ?_⟩
    rw [Dev.rd_wr_same, bitOf_setBit_same _ _ _ (by decide)]
  · next h =>
    refine ⟨.refl d, fun hp => ?_⟩
    rw [hp, Bool.true_and] at h
    exact eq_false_of_ne_true h

/-- Unlocks one after the other: every present segment that is named is unlocked. -/
theorem seamUnlock_foldl (l : List (Nat × Bool)) (d : Dev) :
    let e := l.foldl (fun d s => seamUnlock s.1 s.2 d) d
    SeamsLowered d e ∧ ∀ s ∈ l, seamPresent d s.1 s.2 = true → bitOf (e.rd (seamReg s.1 s.2)) 8 = false := by
  induction l generalizing d with
  | nil => exact ⟨.refl d, fun s hs => absurd hs List.not_mem_nil⟩
  | cons s t ih =>
    obtain ⟨hlow, hown⟩ := seamUnlock_lowers s.1 s.2 d
    obtain ⟨htlow, htown⟩ := ih (seamUnlock s.1 s.2 d)
    refine ⟨hlow.trans htlow, fun x hx hp => ?_⟩
    obtain rfl | hx := List.mem_cons.1 hx
    · exact htlow.locks _ _ (hown hp)
    · exact htown x hx ((hlow.present _ _).trans hp)

theorem seamsUnlockField_lowers (f : Nat) (d : Dev) : SeamsLowered d (seamsUnlockField f d) := (seamUnlock_foldl (fieldSeams f) d).1

/-- The segments of a field: at its own field, or it lies across. -/
theorem fieldSeams_spec {f : Nat} (hf : f < 12) : ∀ g ∈ fieldSeams f, g.1 < 12 ∧ (g.1 = f ∨ seamFar g.1 g.2 = f) := by
  intro g hg
  unfold fieldSeams at hg
  simp only [List.mem_append, List.mem_ite_nil_right, List.mem_singleton] at hg
  obtain ((⟨-, rfl⟩ | ⟨-, rfl⟩) | ⟨h, rfl⟩) | ⟨h, rfl⟩ := hg
  · exact ⟨hf, .inl rfl⟩
  · exact ⟨hf, .inl rfl⟩
  · exact ⟨by omega, .inr (by simp only [seamFar, Bool.false_eq_true, if_false]; omega)⟩
  · exact ⟨by omega, .inr (by simp only [seamFar, if_true]; omega)⟩

/-! ### Relocks (R305) -/

theorem seamRelock_onlyRegs (f : Nat) (south : Bool) (d : Dev) : OnlyRegs [seamReg f south] d (seamRelock f south d) := by
  unfold seamRelock
  dsimp only
  split
  · exact onlyRegs_wr d _ _
  · exact ⟨RegsOnly.refl d, RegsKeep.refl _ d⟩

theorem seamsRelockField_onlyRegs {f : Nat} (hf : f < 12) (d : Dev) : OnlyRegs seamRegs d (seamsRelockField f d) := by
  refine OnlyRegs.foldl (fun e s hs => (seamRelock_onlyRegs s.1 s.2 e).mono ?_) d
  simpa using mem_seamRegs (fieldSeams_spec hf s hs).1 s.2

end Sys2Proof.Machine

/-! PROOF. The rails for an operating point, and the requests for a change of frequency (11_clocking.md R434, R435,
12_power_thermal.md R449, R469). -/

namespace Sys2Proof.Machine

/-! ### The set points of the rails (R449) -/

/-- The registers of the field rails' set points. -/
def vsetRegs : List Nat := (List.range 12).map fun f => PWR_VSET f

theorem mem_vsetRegs {f : Nat} (hf : f < 12) : PWR_VSET f ∈ vsetRegs := List.mem_map.2 ⟨f, List.mem_range.2 hf, rfl⟩

theorem vsetRegs_bounds {a : Nat} (h : a ∈ vsetRegs) : 0xA160 ≤ a ∧ a < 0xA190 := by
  obtain ⟨f, hf, rfl⟩ := List.mem_map.1 h
  have := List.mem_range.1 hf
  simp only [PWR_VSET]
  omega

theorem not_mem_vsetRegs {a : Nat} (h : a < 0xA160 ∨ 0xA190 ≤ a) : a ∉ vsetRegs := fun hm => by
  have := vsetRegs_bounds hm
  omega

/-- Only set points, and what is sent to the regulators, may differ. -/
structure RailsOnly (d e : Dev) : Prop where
  keep : RegsKeep vsetRegs d e
  rest : e = { d with regs := e.regs, tx := e.tx }

theorem RailsOnly.refl (d : Dev) : RailsOnly d d := ⟨RegsKeep.refl _ d, rfl⟩

theorem RailsOnly.trans {a b c : Dev} (h : RailsOnly a b) (g : RailsOnly b c) : RailsOnly a c where
  keep := h.keep.trans g.keep
  rest := by rw [g.rest, h.rest]

/-- The set points and the boosts of an OPP do not depend on what the registers of the set points show. -/
theorem vset_congr {d e : Dev} (hp : e.pwr = d.pwr) (hb : e.rd PWR_HINT_CFG = d.rd PWR_HINT_CFG) (hm : e.rd PMB_VMEM_MV = d.rd PMB_VMEM_MV)
    (f : Nat) : vset e f = vset d f := by
  simp only [vset, boostOf, Dev.rdF, hp, hb, hm]

theorem RailsOnly.vset {d e : Dev} (h : RailsOnly d e) (f : Nat) : vset e f = vset d f :=
  vset_congr (by rw [h.rest]) (h.keep _ (not_mem_vsetRegs (by decide))) (h.keep _ (not_mem_vsetRegs (by decide))) f

theorem ofSigned_lt (n : Nat) (v : Int) : ofSigned n v < 2 ^ n := by
  have hpos : (0 : Int) < 2 ^ n := by positivity
  have hlt := Int.emod_lt_of_pos v hpos
  have hge := Int.emod_nonneg v hpos.ne'
  unfold ofSigned
  zify
  rwa [Int.toNat_of_nonneg hge]

/-- The word that shows a rail's trim, boost and set point. -/
def railWord (d : Dev) (f : Nat) : Word :=
  w32 (ofSigned 8 (kvGetD d.pwr.trim 0 f) + boostOf d f % 64 * 2 ^ 8 + vset d f % 1024 * 2 ^ 16)

theorem railWord_set (d : Dev) (f : Nat) : fld (railWord d f) 25 16 = vset d f % 1024 := by
  have htrim := ofSigned_lt 8 (kvGetD d.pwr.trim 0 f)
  rw [railWord, fld_w32 _ (by decide)]
  omega

/-- A refresh writes the rail's word, and may send its set point. -/
theorem vsetRefresh_cases (f : Nat) (d : Dev) : vsetRefresh f d = d.wr (PWR_VSET f) (railWord d f) ∨
    ∃ tx, vsetRefresh f d = { d.wr (PWR_VSET f) (railWord d f) with tx := tx } := by
  unfold vsetRefresh
  exact (ite_eq_or_eq _ _ _).imp_right fun h => ⟨_, h⟩

theorem railsOnly_wr {f : Nat} (hf : f < 12) (d : Dev) (w : Word) : RailsOnly d (d.wr (PWR_VSET f) w) :=
  ⟨(RegsKeep.refl _ d).wr (mem_vsetRegs hf) w, rfl⟩

theorem railsOnly_tx (d : Dev) (tx : List TxMsg) : RailsOnly d { d with tx := tx } := ⟨fun _ _ => rfl, rfl⟩

theorem vsetRefresh_spec {f : Nat} (hf : f < 12) (d : Dev) : RailsOnly d (vsetRefresh f d) ∧
    (vsetRefresh f d).rdF (PWR_VSET f) 25 16 = vset d f % 1024 ∧ RegsKeep [PWR_VSET f] d (vsetRefresh f d) := by
  have hcases := vsetRefresh_cases f d
  rw [← railWord_set]
  generalize railWord d f = w at hcases ⊢
  have hregs : RailsOnly d (vsetRefresh f d) ∧ (vsetRefresh f d).regs = (d.wr (PWR_VSET f) w).regs := by
    obtain h | ⟨tx, h⟩ := hcases <;> rw [h]
    · exact ⟨railsOnly_wr hf d w, rfl⟩
    · exact ⟨(railsOnly_wr hf d w).trans (railsOnly_tx _ tx), rfl⟩
  refine ⟨hregs.1, ?_, (regsKeep_wr d _ w).of_regs hregs.2⟩
  rw [Dev.rdF, Dev.rd_of_regs hregs.2, Dev.rd_wr_same]

theorem vsetRefresh_foldl {l : List Nat} (hl : ∀ f ∈ l, f < 12) (d : Dev) :
    let e := l.foldl (fun d f => vsetRefresh f d) d
    RailsOnly d e ∧ (∀ f ∈ l, e.rdF (PWR_VSET f) 25 16 = vset d f % 1024) ∧ ∀ f, f ∉ l → e.rd (PWR_VSET f) = d.rd (PWR_VSET f) := by
  induction l generalizing d with
  | nil => exact ⟨.refl d, fun f h => absurd h List.not_mem_nil, fun _ _ => rfl⟩
  | cons g t ih =>
    obtain ⟨hrails, hown, hkeep⟩ := vsetRefresh_spec (hl g List.mem_cons_self) d
    obtain ⟨htrails, htown, htkeep⟩ := ih (fun f hf => hl f (List.mem_cons_of_mem _ hf)) (vsetRefresh g d)
    refine ⟨hrails.trans htrails, fun f hf => ?_, fun f hf => ?_⟩
    · by_cases ht : f ∈ t
      · rw [List.foldl_cons, htown f ht, hrails.vset]
      · obtain rfl | hf := List.mem_cons.1 hf
        · exact (congrArg (fld · 25 16) (htkeep f ht)).trans hown
        · exact absurd hf ht
    · obtain ⟨hne, ht⟩ := not_or.1 (List.mem_cons.not.1 hf)
      exact (htkeep f ht).trans (hkeep _ (by simp only [List.mem_singleton, PWR_VSET]; omega))

/-- The rails are set for an OPP: the base voltage is the OPP's, and every field rail's register shows its set point. -/
theorem railsFor_spec (w : Word) (d : Dev) :
    (∃ regs tx, railsFor w d = { d with regs := regs, pwr := { d.pwr with baseMv := oppMv w }, tx := tx }) ∧
      RegsKeep vsetRegs d (railsFor w d) ∧ ∀ f, f < 12 → (railsFor w d).rdF (PWR_VSET f) 25 16 = vset (railsFor w d) f % 1024 := by
  obtain ⟨hrails, hshown, -⟩ := vsetRefresh_foldl (l := List.range 12) (fun f => List.mem_range.1) { d with pwr := { d.pwr with baseMv := oppMv w } }
  refine ⟨⟨_, _, hrails.rest⟩, hrails.keep, fun f hf => ?_⟩
  rw [railsFor, vsetRefreshAll, hrails.vset]
  exact hshown f (List.mem_range.2 hf)

/-! ### Requests (R434) -/

/-- CHG_REQ by an agent that may write the page: the checks of the request are left. -/
theorem chgReqWrite_eq {agent : Nat} {data : Word} {d : Dev} (hm : d.mayWrite agent .clk = true) (hf : d.isFenced .clk = false)
    (hu : d.up = true) (hr : fld data 31 3 = 0) : chgReqWrite agent data d =
      d.checked .clk 0x124 agent (chgChecks (fld data 2 0) d) (chgArm (d.oppAllowed (fld data 2 0)) false none) := by
  have hpass : ∀ e ∈ d.baseChecks agent .clk ++ [(.reserved, decide (fld data 31 3 ≠ 0))], e.2 = false := by
    intro e he
    obtain he | he := List.mem_append.1 he
    · exact baseChecks_pass hm hf hu e he
    · rw [List.mem_singleton.1 he, hr]
      rfl
  unfold chgReqWrite Dev.checked
  rw [firstFail_append_of_pass hpass]

/-- No change and no single-field point is under way. -/
def ChgFree (d : Dev) : Prop := d.chgState = 0 ∧ bitOf (d.rd CLK_Q_FIELD) 31 = false

theorem chgChecks_busy_eq_false {d : Dev} (h : ChgFree d) : (d.chgState != 0 || bitOf (d.rd CLK_Q_FIELD) 31) = false := by
  rw [h.1, h.2]
  rfl

theorem firstFail_chgChecks_of_valid {opp : Nat} {d : Dev} (h : ChgFree d) (hv : oppValid (d.rd (CLK_OPP opp)) = true) :
    firstFail (chgChecks opp d) = none := by
  rw [chgChecks, chgChecks_busy_eq_false h, hv]
  rfl

theorem firstFail_chgChecks_of_invalid {opp : Nat} {d : Dev} (h : ChgFree d) (hv : oppValid (d.rd (CLK_OPP opp)) = false) :
    firstFail (chgChecks opp d) = some .range := by
  rw [chgChecks, chgChecks_busy_eq_false h, hv]
  rfl

theorem firstFail_chgChecks_of_busy {opp : Nat} {d : Dev} (h : ¬ChgFree d) : firstFail (chgChecks opp d) = some .busy := by
  have hbusy : (d.chgState != 0 || bitOf (d.rd CLK_Q_FIELD) 31) = true := by
    rw [Bool.or_eq_true, bne_iff_ne]
    by_contra hn
    rw [not_or, not_not, Bool.not_eq_true] at hn
    exact h hn
  rw [chgChecks, hbusy]
  cases oppValid (d.rd (CLK_OPP opp)) <;> rfl

/-! ### An armed change (R435 steps 1 and 2) -/

theorem chgArm_of_same {opp : Nat} {d : Dev} (h : opp = d.curOpp) (entry : Bool) (ts : Option Nat) : chgArm opp entry ts d = d := if_pos h

/-- The registers of a pending change. -/
def chgRegs : List Nat := [CLK_CHG_STATE, CLK_CHG_TS 0, CLK_CHG_TS 0 + 4]

/-- State and tick of a change that is armed. -/
def chgNoted (opp t : Nat) (d : Dev) : Dev := (d.wrN CLK_CHG_STATE (1 + opp * 2 ^ 4 + b2n false * 2 ^ 8)).wr64 (CLK_CHG_TS 0) t

theorem chgNoted_onlyRegs (opp t : Nat) (d : Dev) : OnlyRegs chgRegs d (chgNoted opp t d) :=
  ⟨rfl, ((RegsKeep.refl _ d).wr (by simp [chgRegs]) _).wr64 (by simp [chgRegs]) (by simp [chgRegs]) _⟩

theorem chgNoted_state (opp t : Nat) (d : Dev) : (chgNoted opp t d).rd CLK_CHG_STATE = w32 (1 + 16 * opp) := by
  unfold chgNoted
  rw [Dev.rd_wr64_ne _ _ (by decide) (by decide), Dev.rd_wrN_same]
  exact congrArg w32 (by simp [b2n, Nat.mul_comm])

theorem chgNoted_tick (opp t : Nat) (d : Dev) : (chgNoted opp t d).rd64 (CLK_CHG_TS 0) = t % 2 ^ 64 := Dev.rd64_wr64_same ..

/-- Nothing is confirmed or sent to the fields yet. -/
def chgUnsent (d : Dev) : Dev := { d with clk := { d.clk with confirmed := [], distributed := false } }

theorem chgArm_of_other {opp : Nat} {d : Dev} (h : opp ≠ d.curOpp) : chgArm opp false none d =
    if oppDiv (d.rd (CLK_OPP opp)) < d.rdF CLK_CUR 12 8
    then chgUnsent (railsFor (d.rd (CLK_OPP opp)) (chgNoted opp (d.time.tb + 400000) d))
    else chgUnsent (chgNoted opp (d.time.tb + 16000) d) := by
  unfold chgArm
  rw [if_neg h]
  by_cases hup : oppDiv (d.rd (CLK_OPP opp)) < d.rdF CLK_CUR 12 8
  · simp only [hup, decide_true, if_true, Option.getD_none, usTicks, chgNoted, chgUnsent]
  · simp only [hup, decide_false, if_false, Bool.false_eq_true, Option.getD_none, usTicks, chgNoted, chgUnsent]

/-- What an armed change shows, with or without its rails set. -/
theorem chgUnsent_spec {opp t : Nat} {d e : Dev} {l : List Nat} (hkeep : RegsKeep l (chgNoted opp t d) e) (hl : ∀ a ∈ l, a ∉ chgRegs) :
    (chgUnsent e).rd CLK_CHG_STATE = w32 (1 + 16 * opp) ∧ (chgUnsent e).rd64 (CLK_CHG_TS 0) = t % 2 ^ 64 ∧
      RegsKeep (chgRegs ++ l) d (chgUnsent e) := by
  have hreg (a : Nat) (ha : a ∈ chgRegs) : (chgUnsent e).rd a = (chgNoted opp t d).rd a := hkeep a fun h => hl a h ha
  refine ⟨(hreg _ (by simp [chgRegs])).trans (chgNoted_state opp t d), ?_, fun a ha => ?_⟩
  · exact (rd64_congr (hreg _ (by simp [chgRegs])) (hreg _ (by simp [chgRegs]))).trans (chgNoted_tick opp t d)
  · rw [List.mem_append, not_or] at ha
    exact (hkeep a ha.2).trans ((chgNoted_onlyRegs opp t d).2 a ha.1)

theorem chgUnsent_shown {e : Dev} (h : ∀ f, f < 12 → e.rdF (PWR_VSET f) 25 16 = vset e f % 1024) :
    ∀ f, f < 12 → (chgUnsent e).rdF (PWR_VSET f) 25 16 = vset (chgUnsent e) f % 1024 := by
  intro f hf
  rw [vset_congr (d := e) (e := chgUnsent e) rfl rfl rfl]
  exact h f hf

theorem chgArm_spec {opp : Nat} {d : Dev} (h : opp ≠ d.curOpp) :
    let w := d.rd (CLK_OPP opp)
    let up := oppDiv w < d.rdF CLK_CUR 12 8
    let e := chgArm opp false none d
    e.rd CLK_CHG_STATE = w32 (1 + 16 * opp) ∧ e.rd64 (CLK_CHG_TS 0) = (d.time.tb + if up then 400000 else 16000) % 2 ^ 64 ∧
      e.clk = { d.clk with confirmed := [], distributed := false } ∧
      e.pwr = { d.pwr with baseMv := if up then oppMv w else d.pwr.baseMv } ∧
      (up → ∀ f, f < 12 → e.rdF (PWR_VSET f) 25 16 = vset e f % 1024) ∧ (¬up → e.tx = d.tx) ∧
      RegsKeep (chgRegs ++ vsetRegs) d e ∧ e = { d with regs := e.regs, clk := e.clk, pwr := e.pwr, tx := e.tx } := by
  have hdisjoint : ∀ a ∈ vsetRegs, a ∉ chgRegs := by decide
  have hnoted (t : Nat) : chgNoted opp t d = { d with regs := (chgNoted opp t d).regs } := (chgNoted_onlyRegs opp t d).1
  dsimp only
  rw [chgArm_of_other h]
  by_cases hup : oppDiv (d.rd (CLK_OPP opp)) < d.rdF CLK_CUR 12 8
  · simp only [if_pos hup]
    generalize d.rd (CLK_OPP opp) = w at hup
    generalize d.time.tb + 400000 = t
    obtain ⟨⟨regs, tx, hrest⟩, hkeep, hshown⟩ := railsFor_spec w (chgNoted opp t d)
    obtain ⟨hstate, htick, hregs⟩ := chgUnsent_spec hkeep hdisjoint
    refine ⟨hstate, htick, ?_, ?_, fun _ => chgUnsent_shown hshown, fun hn => absurd hup hn, hregs, ?_⟩
    iterate 3
      rw [hrest, hnoted t]
      rfl
  · simp only [if_neg hup]
    generalize d.time.tb + 16000 = t
    obtain ⟨hstate, htick, hregs⟩ := chgUnsent_spec (RegsKeep.refl vsetRegs (chgNoted opp t d)) hdisjoint
    refine ⟨hstate, htick, ?_, ?_, fun h => absurd h hup, fun _ => ?_, hregs, ?_⟩
    iterate 4
      rw [hnoted t]
      rfl

/-! ### The check of the voltage (R435 step 3) -/

/-- An upward change that the rails have not confirmed 20 µs before its tick. -/
def ChgCancels (d : Dev) : Prop :=
  d.chgState = 1 ∧ d.chgUp = true ∧ d.railsConfirmed = false ∧ d.rd64 (CLK_CHG_TS 0) ≤ d.time.tb + 16000

/-- State and count of a change that is cancelled. -/
def chgAborted (d : Dev) : Dev := (d.wrF CLK_CHG_STATE 1 0 0).bump CLK_ABORT_COUNT

theorem chgAborted_onlyRegs (d : Dev) : OnlyRegs [CLK_CHG_STATE, CLK_ABORT_COUNT] d (chgAborted d) :=
  ⟨rfl, ((RegsKeep.refl _ d).wr (by simp) _).wr (by simp) _⟩

theorem chgVoltCheck_of_kept {d : Dev} (h : ¬ChgCancels d) : chgVoltCheck d = d := by
  refine if_neg fun hc => h ?_
  simpa [ChgCancels, usTicks] using hc

theorem chgVoltCheck_of_cancel {d : Dev} (h : ChgCancels d) :
    chgVoltCheck d = (railsFor (d.rd (CLK_OPP d.curOpp)) (chgAborted d)).reject .clk 0x124 0x10 .state := by
  have hcur : (chgAborted d).curOpp = d.curOpp :=
    congrArg (fld · 2 0) ((chgAborted_onlyRegs d).2 CLK_CUR (by decide))
  have hopp : (chgAborted d).rd (CLK_OPP d.curOpp) = d.rd (CLK_OPP d.curOpp) := by
    have : d.curOpp < 8 := fld_lt _ 2 0
    exact (chgAborted_onlyRegs d).2 _ (by simp only [List.mem_cons, List.not_mem_nil, or_false, CLK_OPP, CLK_CHG_STATE, CLK_ABORT_COUNT]; omega)
  refine (if_pos (by simpa [ChgCancels, usTicks] using h)).trans ?_
  rw [← hopp]
  nth_rw 1 [← hcur]
  rfl

theorem chgVoltCheck_spec {d : Dev} (h : ChgCancels d) :
    let e := chgVoltCheck d
    e.chgState = 0 ∧ e.rd CLK_ABORT_COUNT = satAdd (d.rd CLK_ABORT_COUNT) 1 ∧ e.pwr = { d.pwr with baseMv := oppMv (d.rd (CLK_OPP d.curOpp)) } ∧
      (bitOf (d.rd (Page.clk.base + 0x10)) 31 = false → fld (e.rd (Page.clk.base + 0x10)) 7 0 = 3) ∧
      RegsKeep ([CLK_CHG_STATE, CLK_ABORT_COUNT] ++ vsetRegs ++ errRegs .clk) d e := by
  obtain ⟨⟨regs, tx, hrest⟩, hkeep, -⟩ := railsFor_spec (d.rd (CLK_OPP d.curOpp)) (chgAborted d)
  obtain ⟨-, hakeep⟩ := chgAborted_onlyRegs d
  dsimp only
  rw [chgVoltCheck_of_cancel h]
  generalize railsFor (d.rd (CLK_OPP d.curOpp)) (chgAborted d) = r at hrest hkeep ⊢
  have hrd (a : Nat) (h1 : a < 0xA160) (h2 : a ≠ Page.clk.base + 0x10) (h3 : a ≠ Page.clk.base + 0x14) :
      (r.reject .clk 0x124 0x10 .state).rd a = (chgAborted d).rd a :=
    (Dev.reject_rd_other a h2 h3).trans (hkeep a (not_mem_vsetRegs (.inl h1)))
  have herr : r.rd (Page.clk.base + 0x10) = d.rd (Page.clk.base + 0x10) :=
    (hkeep _ (not_mem_vsetRegs (by decide))).trans (hakeep _ (by decide))
  refine ⟨?_, ?_, ?_, fun hv => ?_, ?_⟩
  · refine (congrArg (fld · 1 0) (hrd CLK_CHG_STATE (by decide) (by decide) (by decide))).trans ?_
    refine (congrArg (fld · 1 0) (Dev.rd_bump_other _ (by decide))).trans ?_
    exact Dev.rdF_wrF_same d CLK_CHG_STATE 0 (by decide)
  · refine (hrd CLK_ABORT_COUNT (by decide) (by decide) (by decide)).trans ((Dev.rd_bump_same _ _).trans ?_)
    rw [Dev.rd_wrF_other _ _ _ _ (by decide)]
  · rw [Dev.reject_only, hrest]
    rfl
  · rw [Dev.reject_errCode, herr, hv]
    exact errWord_code ..
  · intro a ha
    simp only [List.mem_append, not_or] at ha
    obtain ⟨⟨ha, hv⟩, he⟩ := ha
    exact ((Dev.reject_regs r .clk 0x124 0x10 .state a he).trans (hkeep a hv)).trans (hakeep a ha)

end Sys2Proof.Machine

/-! PROOF. The steps of a die-wide change at its ticks, and a rail's confirmation (11_clocking.md R435, R436, 07_fabric.md
R306, 12_power_thermal.md R449). -/

namespace Sys2Proof.Machine

/-! ### The new divider is sent (R435 step 4) -/

/-- A pending change, whose rails, where it goes up, have confirmed, 2 µs before its tick. -/
def ChgSends (d : Dev) : Prop :=
  d.chgState = 1 ∧ d.rd64 (CLK_CHG_TS 0) ≤ d.time.tb + 1600 ∧ (d.chgUp = true → d.railsConfirmed = true)

theorem chgDistribute_of_kept {d : Dev} (h : ¬ChgSends d) : chgDistribute d = d := if_neg h

theorem chgDistribute_of_send {d : Dev} (h : ChgSends d) : chgDistribute d = { d with clk := { d.clk with distributed := true } } := if_pos h

/-! ### The seams hold (R435 step 5, R306 step 1) -/

/-- Ticks of 16 cycles of the frequency in force. -/
def holdLead (d : Dev) : Nat :=
  if d.rdF CLK_VCO 13 0 = 0 then 0 else (12800 * d.rdF CLK_CUR 12 8 + d.rdF CLK_VCO 13 0 - 1) / d.rdF CLK_VCO 13 0

/-- A pending change that has been sent to the fields. -/
def ChgSent (d : Dev) : Prop := d.chgState = 1 ∧ d.clk.distributed = true

theorem seamHold_of_kept {d : Dev} (h : ¬(ChgSent d ∧ d.rd64 (CLK_CHG_TS 0) ≤ d.time.tb + holdLead d)) : seamHold d = d :=
  if_neg fun ⟨hs, hd, ht⟩ => h ⟨⟨hs, hd⟩, ht⟩

theorem seamHold_of_due {d : Dev} (hs : ChgSent d) (ht : d.rd64 (CLK_CHG_TS 0) ≤ d.time.tb + holdLead d) : seamHold d = seamHoldAll true d :=
  if_pos ⟨hs.1, hs.2, ht⟩

/-- The causes of a hold with the die-wide one in or out. -/
def withDieHold (b : Bool) (d : Dev) : Dev := { d with clk := { d.clk with dieHold := b } }

theorem seamHoldAll_regs (b : Bool) (d : Dev) : RegsKeep seamRegs d (seamHoldAll b d) ∧
    seamHoldAll b d = { d with regs := (seamHoldAll b d).regs, clk := { d.clk with dieHold := b } } := by
  obtain ⟨hrest, hkeep⟩ := showHolds_onlyRegs (withDieHold b d)
  exact ⟨hkeep, hrest⟩

theorem seamHoldAll_held {f : Nat} (hf : f < 12) {south : Bool} (b : Bool) {d : Dev} (hp : seamPresent d f south = true) :
    bitOf ((seamHoldAll b d).rd (seamReg f south)) 9 = seamHeld (withDieHold b d) f south :=
  showHolds_held (d := withDieHold b d) hf hp

theorem seamHoldAll_true_spec (d : Dev) :
    let e := seamHoldAll true d
    (∀ f, f < 12 → ∀ south, seamPresent d f south = true → bitOf (e.rd (seamReg f south)) 9 = true) ∧ RegsKeep seamRegs d e ∧
      e = { d with regs := e.regs, clk := { d.clk with dieHold := true } } :=
  ⟨fun _ hf _ hp => seamHoldAll_held hf true hp, seamHoldAll_regs true d⟩

/-! ### The meshes are gated (R435 step 6, R436) -/

/-- The number whose bits below `n` are those where a predicate holds. -/
def maskBelow (n : Nat) (p : Nat → Bool) : Nat := (below n p).foldl (fun m f => m + 2 ^ f) 0

theorem maskBelow_succ (n : Nat) (p : Nat → Bool) : maskBelow (n + 1) p = if p n then 2 ^ n + maskBelow n p else maskBelow n p := by
  unfold maskBelow below
  rw [List.range_succ, List.filter_append, List.foldl_append]
  cases h : p n <;> simp [h, Nat.add_comm]

theorem maskBelow_spec (n : Nat) (p : Nat → Bool) : maskBelow n p < 2 ^ n ∧ ∀ i, i < n → (maskBelow n p).testBit i = p i := by
  induction n with
  | zero => exact ⟨Nat.one_pos, fun i hi => absurd hi (Nat.not_lt_zero i)⟩
  | succ n ih =>
    obtain ⟨hlt, hbits⟩ := ih
    rw [maskBelow_succ]
    cases hp : p n with
    | true =>
      refine ⟨by simp only [if_true, Nat.pow_succ]; omega, fun i hi => ?_⟩
      rw [if_pos rfl]
      obtain rfl | hi := Nat.eq_or_lt_of_le (Nat.lt_succ_iff.1 hi)
      · rw [Nat.testBit_two_pow_add_eq, Nat.testBit_lt_two_pow hlt, hp]
        rfl
      · rw [Nat.testBit_two_pow_add_gt hi, hbits i hi]
    | false =>
      refine ⟨by simp only [Bool.false_eq_true, if_false, Nat.pow_succ]; omega, fun i hi => ?_⟩
      rw [if_neg Bool.false_ne_true]
      obtain rfl | hi := Nat.eq_or_lt_of_le (Nat.lt_succ_iff.1 hi)
      · rw [Nat.testBit_lt_two_pow hlt, hp]
      · exact hbits i hi

theorem maskBelow_false {n : Nat} {p : Nat → Bool} (h : ∀ f, p f = false) : maskBelow n p = 0 := by
  have hnone : below n p = [] := List.filter_eq_nil_iff.2 fun f _ => by rw [h]; exact Bool.false_ne_true
  rw [maskBelow, hnone]
  rfl

/-- RUN of the fields after it is set to a mask. -/
theorem meshRuns_wrF {f : Nat} (hf : f < 12) (p : Nat → Bool) (d : Dev) : (d.wrF CLK_FIELD_PLL 27 16 (maskBelow 12 p)).meshRuns f = p f := by
  unfold Dev.meshRuns
  rw [Dev.rd_wrF_same, bitOf_setFld_inside _ _ (by omega) (by omega) (by decide), Nat.add_sub_cancel_left]
  exact (maskBelow_spec 12 p).2 f hf

/-- Gating is due: the seams are held and the tick is reached, or some mesh still runs. -/
def ClockStops (d : Dev) : Prop :=
  ((ChgSent d ∧ d.clk.dieHold = true) ∨ (d.chgState = 2 ∧ d.rdF CLK_FIELD_PLL 27 16 ≠ 0)) ∧ d.rd64 (CLK_CHG_TS 0) ≤ d.time.tb

/-- A field lies at one of the segments. -/
def atFull (full : List Nat) (f : Nat) : Bool := full.any fun g => g / 2 == f || seamFar (g / 2) (g % 2 == 1) == f

/-- SWITCHING; the meshes that may wait no longer, or need not, are gated. -/
def meshesGated (full : List Nat) (last : Bool) (d : Dev) : Dev :=
  (d.wrF CLK_CHG_STATE 1 0 2).wrF CLK_FIELD_PLL 27 16 (maskBelow 12 fun f => d.meshRuns f && (!last && atFull full f))

theorem clockStop_of_kept {stuck : List Nat} {d : Dev} (h : ¬ClockStops d) : clockStop stuck d = d := by
  refine if_neg fun hc => h ?_
  simpa [ClockStops, ChgSent] using hc

theorem clockStop_of_due (stuck : List Nat) {d : Dev} (h : ClockStops d) :
    let full := stuck.filter (seamFull d)
    let last := decide (d.rd64 (CLK_CHG_TS 0) + 16 ≤ d.time.tb)
    clockStop stuck d =
      if last then full.foldl (fun d g => seamUnlock (g / 2) (g % 2 == 1) d) (meshesGated full last d) else meshesGated full last d :=
  if_pos (by simpa [ClockStops, ChgSent] using h)

theorem meshesGated_onlyRegs (full : List Nat) (last : Bool) (d : Dev) : OnlyRegs [CLK_CHG_STATE, CLK_FIELD_PLL] d (meshesGated full last d) :=
  ⟨rfl, ((RegsKeep.refl _ d).wr (by simp) _).wr (by simp) _⟩

theorem meshesGated_state (full : List Nat) (last : Bool) (d : Dev) : (meshesGated full last d).chgState = 2 :=
  (congrArg (fld · 1 0) (Dev.rd_wrF_other _ _ _ _ (by decide))).trans (Dev.rdF_wrF_same d CLK_CHG_STATE 2 (by decide))

theorem meshesGated_meshRuns (full : List Nat) (d : Dev) {f : Nat} (hf : f < 12) :
    (meshesGated full false d).meshRuns f = (d.meshRuns f && atFull full f) := meshRuns_wrF hf _ _

/-- Where no field may wait, every mesh is gated. -/
theorem meshesGated_all {full : List Nat} {last : Bool} (h : last = true ∨ full = []) (d : Dev) :
    (meshesGated full last d).rdF CLK_FIELD_PLL 27 16 = 0 := by
  have hnone : ∀ f, (d.meshRuns f && (!last && atFull full f)) = false := fun f => by
    obtain rfl | rfl := h <;> simp [atFull]
  unfold meshesGated
  rw [Dev.rdF_wrF_same _ _ _ (by decide), maskBelow_false hnone, Nat.zero_mod]

theorem clockStop_of_early {stuck : List Nat} {d : Dev} (h : ClockStops d) (ht : d.time.tb < d.rd64 (CLK_CHG_TS 0) + 16) :
    clockStop stuck d = meshesGated (stuck.filter (seamFull d)) false d := by
  rw [clockStop_of_due stuck h, decide_eq_false (Nat.not_le.2 ht)]
  exact if_neg Bool.false_ne_true

theorem clockStop_of_last {stuck : List Nat} {d : Dev} (h : ClockStops d) (ht : d.rd64 (CLK_CHG_TS 0) + 16 ≤ d.time.tb) :
    clockStop stuck d = ((stuck.filter (seamFull d)).map fun g => (g / 2, g % 2 == 1)).foldl (fun d s => seamUnlock s.1 s.2 d)
      (meshesGated (stuck.filter (seamFull d)) true d) := by
  rw [clockStop_of_due stuck h, decide_eq_true ht, List.foldl_map]
  exact if_pos rfl

theorem clockStop_empty_spec {stuck : List Nat} {d : Dev} (h : ClockStops d) (hfull : stuck.filter (seamFull d) = []) :
    let e := clockStop stuck d
    e.chgState = 2 ∧ e.rdF CLK_FIELD_PLL 27 16 = 0 ∧ OnlyRegs [CLK_CHG_STATE, CLK_FIELD_PLL] d e := by
  have hgated : ∃ last, clockStop stuck d = meshesGated [] last d := by
    obtain ht | ht := Nat.lt_or_ge d.time.tb (d.rd64 (CLK_CHG_TS 0) + 16)
    · exact ⟨false, by rw [clockStop_of_early h ht, hfull]⟩
    · exact ⟨true, by rw [clockStop_of_last h ht, hfull]; rfl⟩
  obtain ⟨last, hgated⟩ := hgated
  dsimp only
  rw [hgated]
  exact ⟨meshesGated_state .., meshesGated_all (.inr rfl) d, meshesGated_onlyRegs ..⟩

theorem seamPresent_of_seamFull {d : Dev} {g : Nat} (h : seamFull d g = true) : seamPresent d (g / 2) (g % 2 == 1) = true := by
  rw [seamFull, Bool.and_eq_true, Bool.and_eq_true] at h
  exact h.1.2

theorem meshesGated_present (full : List Nat) (last : Bool) (d : Dev) (f : Nat) (south : Bool) :
    seamPresent (meshesGated full last d) f south = seamPresent d f south := by
  refine congrArg (bitOf · 31) ((meshesGated_onlyRegs full last d).2 _ ?_)
  rw [seamReg_eq]
  simp only [List.mem_cons, List.not_mem_nil, or_false, CLK_CHG_STATE, CLK_FIELD_PLL]
  omega

/-- At the last tick every mesh is gated, and the segments that still hold flits unlock. -/
theorem clockStop_last_spec {stuck : List Nat} {d : Dev} (h : ClockStops d) (ht : d.rd64 (CLK_CHG_TS 0) + 16 ≤ d.time.tb) :
    let e := clockStop stuck d
    e.chgState = 2 ∧ e.rdF CLK_FIELD_PLL 27 16 = 0 ∧ ∀ g ∈ stuck.filter (seamFull d), bitOf (e.rd (seamReg (g / 2) (g % 2 == 1))) 8 = false := by
  have hpresent (g : Nat) (hg : g ∈ stuck.filter (seamFull d)) : seamPresent d (g / 2) (g % 2 == 1) = true :=
    seamPresent_of_seamFull (List.mem_filter.1 hg).2
  dsimp only
  rw [clockStop_of_last h ht]
  generalize stuck.filter (seamFull d) = full at hpresent ⊢
  obtain ⟨hlow, hunlocked⟩ := seamUnlock_foldl (full.map fun g => (g / 2, g % 2 == 1)) (meshesGated full true d)
  refine ⟨?_, ?_, fun g hg => hunlocked (g / 2, g % 2 == 1) (List.mem_map.2 ⟨g, hg, rfl⟩) ?_⟩
  · exact (congrArg (fld · 1 0) (hlow.rd_low (by decide))).trans (meshesGated_state full true d)
  · exact (congrArg (fld · 27 16) (hlow.rd_low (by decide))).trans (meshesGated_all (.inl rfl) d)
  · rw [meshesGated_present]
    exact hpresent g hg

/-! ### The restart (R435 step 8) -/

/-- The restart is due: every mesh is gated, 32 ticks after the change. -/
def ClockResumes (d : Dev) : Prop :=
  d.chgState = 2 ∧ d.rdF CLK_FIELD_PLL 27 16 = 0 ∧ d.rd64 (CLK_CHG_TS 0) + 32 ≤ d.time.tb

/-- The target of the change is in force. -/
def targetShown (d : Dev) : Dev :=
  d.wrN CLK_CUR (d.rdF CLK_CHG_STATE 6 4 + oppDiv (d.rd (CLK_OPP (d.rdF CLK_CHG_STATE 6 4))) * 2 ^ 8)

/-- The meshes that may run do. -/
def meshesRun (d : Dev) : Dev := d.wrF CLK_FIELD_PLL 27 16 (runMask d)

/-- The change is counted and no longer pending. -/
def chgEnded (d : Dev) : Dev := (d.bump CLK_CHG_COUNT).wrF CLK_CHG_STATE 1 0 0

theorem clockRestart_of_kept {d : Dev} (h : ¬ClockResumes d) : clockRestart d = d := if_neg h

theorem clockRestart_of_due {d : Dev} (h : ClockResumes d) : clockRestart d =
    railsFor (d.rd (CLK_OPP (d.rdF CLK_CHG_STATE 6 4))) (chgUnsent (chgEnded (seamHoldAll false (meshesRun (targetShown d))))) := if_pos h

theorem targetShown_onlyRegs (d : Dev) : OnlyRegs [CLK_CUR] d (targetShown d) := onlyRegs_wr d _ _

theorem meshesRun_onlyRegs (d : Dev) : OnlyRegs [CLK_FIELD_PLL] d (meshesRun d) := onlyRegs_wr d _ _

theorem chgEnded_onlyRegs (d : Dev) : OnlyRegs [CLK_CHG_COUNT, CLK_CHG_STATE] d (chgEnded d) :=
  ⟨rfl, ((RegsKeep.refl _ d).wr (by simp) _).wr (by simp) _⟩

theorem chgEnded_state (d : Dev) : (chgEnded d).chgState = 0 := Dev.rdF_wrF_same _ CLK_CHG_STATE 0 (by decide)

theorem chgEnded_count (d : Dev) : (chgEnded d).rd CLK_CHG_COUNT = satAdd (d.rd CLK_CHG_COUNT) 1 :=
  (Dev.rd_wrF_other _ _ _ _ (by decide)).trans (Dev.rd_bump_same d _)

theorem meshesRun_meshRuns {f : Nat} (hf : f < 12) (d : Dev) : (meshesRun d).meshRuns f = mayRun d f := meshRuns_wrF hf _ _

theorem mayRun_congr {d e : Dev} (hpll : e.rd CLK_FIELD_PLL = d.rd CLK_FIELD_PLL) (hc : e.clk = d.clk)
    (hd : ∀ i, e.rd (PWR_DOM_ON i) = d.rd (PWR_DOM_ON i)) (f : Nat) : mayRun e f = mayRun d f := by
  simp only [mayRun, Dev.domOn, hpll, hc, hd]

theorem clockRestart_spec {d : Dev} (h : ClockResumes d) :
    let e := clockRestart d
    let opp := d.rdF CLK_CHG_STATE 6 4
    let w := d.rd (CLK_OPP opp)
    e.chgState = 0 ∧ e.rd CLK_CUR = w32 (opp + 256 * oppDiv w) ∧ e.rd CLK_CHG_COUNT = satAdd (d.rd CLK_CHG_COUNT) 1 ∧
      (∀ f, f < 12 → e.meshRuns f = mayRun d f) ∧
      (d.clk.fieldHold = [] → d.pwr.stretched = [] → ∀ f, f < 12 → ∀ south, seamPresent d f south = true → bitOf (e.rd (seamReg f south)) 9 = false) ∧
      e.clk = { d.clk with distributed := false, confirmed := [], dieHold := false } ∧ e.pwr = { d.pwr with baseMv := oppMv w } ∧
      RegsKeep ([CLK_CUR, CLK_FIELD_PLL, CLK_CHG_COUNT, CLK_CHG_STATE] ++ seamRegs ++ vsetRegs) d e := by
  have hcur : (targetShown d).rd CLK_CUR = w32 (d.rdF CLK_CHG_STATE 6 4 + 256 * oppDiv (d.rd (CLK_OPP (d.rdF CLK_CHG_STATE 6 4)))) := by
    rw [targetShown, Dev.rd_wrN_same]
    exact congrArg w32 (by omega)
  dsimp only
  rw [clockRestart_of_due h]
  generalize d.rdF CLK_CHG_STATE 6 4 = opp at hcur ⊢
  generalize d.rd (CLK_OPP opp) = w at hcur ⊢
  obtain ⟨hrest1, hkeep1⟩ := targetShown_onlyRegs d
  generalize targetShown d = d1 at *
  obtain ⟨hrest2, hkeep2⟩ := meshesRun_onlyRegs d1
  have hruns (f : Nat) (hf : f < 12) := meshesRun_meshRuns hf d1
  generalize meshesRun d1 = d2 at *
  obtain ⟨hkeep3, hrest3⟩ := seamHoldAll_regs false d2
  have hheld (f : Nat) (hf : f < 12) (south : Bool) := seamHoldAll_held hf (south := south) false (d := d2)
  generalize seamHoldAll false d2 = d3 at *
  obtain ⟨hrest4, hkeep4⟩ := chgEnded_onlyRegs d3
  have hstate := chgEnded_state d3
  have hcount := chgEnded_count d3
  generalize chgEnded d3 = d4 at *
  obtain ⟨⟨regs, tx, hrest5⟩, hkeep5, -⟩ := railsFor_spec w (chgUnsent d4)
  generalize railsFor w (chgUnsent d4) = e at *
  have hclk : d2.clk = d.clk ∧ d2.pwr = d.pwr := by rw [hrest2, hrest1]; exact ⟨rfl, rfl⟩
  have hlast (a : Nat) (ha : a < 0xA160 ∨ 0xA190 ≤ a) : e.rd a = d4.rd a := hkeep5 a (not_mem_vsetRegs ha)
  have hseam (f : Nat) (south : Bool) (a : Nat) (ha : a < 0xA190) : seamReg f south ≠ a := by
    have := fieldBase_le_seamReg f south
    simp only [fieldBase] at this
    omega
  refine ⟨?_, ?_, ?_, fun f hf => ?_, fun hh hs f hf south hp => ?_, ?_, ?_, ?_⟩
  · exact (congrArg (fld · 1 0) (hlast _ (by decide))).trans hstate
  · rw [hlast _ (by decide), hkeep4 _ (by decide), hkeep3 _ (by decide), hkeep2 _ (by decide), hcur]
  · rw [hlast _ (by decide), hcount, hkeep3 _ (by decide), hkeep2 _ (by decide), hkeep1 _ (by decide)]
  · have hpll : e.rd CLK_FIELD_PLL = d2.rd CLK_FIELD_PLL := by
      rw [hlast _ (by decide), hkeep4 _ (by decide), hkeep3 _ (by decide)]
    refine (congrArg (bitOf · (16 + f)) hpll).trans ((hruns f hf).trans (mayRun_congr (hkeep1 _ (by decide)) (by rw [hrest1]) (fun i => hkeep1 _ ?_) f))
    simp only [List.mem_singleton, PWR_DOM_ON, CLK_CUR]
    omega
  · have hp2 : seamPresent d2 f south = true := by
      unfold seamPresent
      rw [hkeep2 _ (by simpa using hseam f south CLK_FIELD_PLL (by decide)), hkeep1 _ (by simpa using hseam f south CLK_CUR (by decide))]
      exact hp
    rw [hlast _ (.inr (by have := fieldBase_le_seamReg f south; simp only [fieldBase] at this; omega)),
      hkeep4 _ (by simpa using ⟨hseam f south CLK_CHG_COUNT (by decide), hseam f south CLK_CHG_STATE (by decide)⟩), hheld f hf south hp2]
    simp [seamHeld, withDieHold, hclk, hh, hs]
  · rw [hrest5, chgUnsent, hrest4, hrest3, hclk.1]
  · rw [hrest5, chgUnsent, hrest4, hrest3, hclk.2]
  · intro a ha
    simp only [List.mem_append, List.mem_cons, List.not_mem_nil, or_false, not_or] at ha
    obtain ⟨⟨⟨h1, h2, h3, h4⟩, hs⟩, hv⟩ := ha
    rw [hkeep5 a hv]
    exact (hkeep4 a (by simp [h3, h4])).trans ((hkeep3 a hs).trans ((hkeep2 a (by simpa using h2)).trans (hkeep1 a (by simpa using h1))))

end Sys2Proof.Machine

/-! PROOF. A rail's confirmation, single-field points and the PLLs of the fields (11_clocking.md R435, R438, R439,
12_power_thermal.md R449). -/

namespace Sys2Proof.Machine

/-! ### Confirmations (R449) -/

/-- A field rail's voltage lies within 5 mV of its set point during a pending change. -/
def RailConfirms (r mv : Nat) (d : Dev) : Prop := r < 12 ∧ d.chgState = 1 ∧ mv ≤ vset d r + 5 ∧ vset d r ≤ mv + 5

/-- A rail is counted as confirmed. -/
def railNoted (r : Nat) (d : Dev) : Dev := { d with clk := { d.clk with confirmed := setIns d.clk.confirmed r } }

/-- The voltage read is shown. -/
def voltageShown (r mv : Nat) (d : Dev) : Dev := d.wrF (PMB_RAIL_STAT r) 11 0 mv

theorem voltageShown_onlyRegs (r mv : Nat) (d : Dev) : OnlyRegs [PMB_RAIL_STAT r] d (voltageShown r mv d) := onlyRegs_wr d _ _

theorem railConfirms_voltageShown (r mv : Nat) (d : Dev) : RailConfirms r mv (voltageShown r mv d) ↔ RailConfirms r mv d := by
  obtain ⟨hrest, hkeep⟩ := voltageShown_onlyRegs r mv d
  have hother (a : Nat) (ha : a < 0x16160) : (voltageShown r mv d).rd a = d.rd a :=
    hkeep a (by simp only [List.mem_singleton, PMB_RAIL_STAT]; omega)
  have hset : vset (voltageShown r mv d) r = vset d r := vset_congr (by rw [hrest]) (hother _ (by decide)) (hother _ (by decide)) r
  have hstate : (voltageShown r mv d).chgState = d.chgState := congrArg (fld · 1 0) (hother _ (by decide))
  rw [RailConfirms, RailConfirms, hset, hstate]

theorem railConfirm_of_ok {r mv : Nat} {d : Dev} (h : RailConfirms r mv d) : railConfirm r mv d = railNoted r (voltageShown r mv d) := by
  obtain ⟨hr, hs, hv⟩ := (railConfirms_voltageShown r mv d).2 h
  exact (if_pos ⟨hr, hs⟩).trans (if_pos hv)

theorem railConfirm_of_other {r mv : Nat} {d : Dev} (h : ¬RailConfirms r mv d) : railConfirm r mv d = voltageShown r mv d := by
  rw [← railConfirms_voltageShown] at h
  unfold railConfirm
  dsimp only
  split
  · next hs => exact if_neg fun hv => h ⟨hs.1, hs.2, hv⟩
  · rfl

theorem railConfirm_spec (r mv : Nat) (d : Dev) :
    let e := railConfirm r mv d
    let ok := r < 12 ∧ d.chgState = 1 ∧ mv ≤ vset d r + 5 ∧ vset d r ≤ mv + 5
    e.rdF (PMB_RAIL_STAT r) 11 0 = mv % 4096 ∧ RegsKeep [PMB_RAIL_STAT r] d e ∧ e = { d with regs := e.regs, clk := e.clk } ∧
      e.clk = { d.clk with confirmed := if ok then setIns d.clk.confirmed r else d.clk.confirmed } := by
  obtain ⟨hrest, hkeep⟩ := voltageShown_onlyRegs r mv d
  have hshown : (voltageShown r mv d).rdF (PMB_RAIL_STAT r) 11 0 = mv % 4096 := Dev.rdF_wrF_same d _ mv (by decide)
  dsimp only
  by_cases h : RailConfirms r mv d
  · rw [railConfirm_of_ok h, if_pos (c := _ ∧ _) h]
    refine ⟨hshown, hkeep, ?_, ?_⟩ <;> rw [railNoted, hrest]
  · rw [railConfirm_of_other h, if_neg (c := _ ∧ _) h]
    refine ⟨hshown, hkeep, ?_, ?_⟩ <;> rw [hrest]

/-! ### Segments that unlock and holds that move -/

/-- No register below the CHAN page differs, nor which segments are present. -/
structure SeamsMoved (d e : Dev) : Prop where
  low : ∀ a, a < 0xE000 → e.rd a = d.rd a
  present : ∀ f, f < 12 → ∀ south, seamPresent e f south = seamPresent d f south

theorem SeamsMoved.trans {a b c : Dev} (h : SeamsMoved a b) (g : SeamsMoved b c) : SeamsMoved a c where
  low x hx := (g.low x hx).trans (h.low x hx)
  present f hf s := (g.present f hf s).trans (h.present f hf s)

theorem SeamsMoved.of_regs {d e : Dev} (h : e.regs = d.regs) : SeamsMoved d e :=
  ⟨fun a _ => Dev.rd_of_regs h a, fun _ _ _ => congrArg (bitOf · 31) (Dev.rd_of_regs h _)⟩

theorem SeamsLowered.moved {d e : Dev} (h : SeamsLowered d e) : SeamsMoved d e :=
  ⟨fun _ ha => h.rd_low ha, fun f _ s => h.present f s⟩

theorem showHolds_moved (d : Dev) : SeamsMoved d (showHolds d) :=
  ⟨fun a ha => (showHolds_onlyRegs d).2 a (not_mem_seamRegs (by omega)), fun _ hf s => showHolds_bit hf (by decide) s d⟩

/-- The causes of a hold with a field in or out. -/
def withFieldHold (f : Nat) (b : Bool) (d : Dev) : Dev :=
  { d with clk := { d.clk with fieldHold := if b then setIns d.clk.fieldHold f else setDel d.clk.fieldHold f } }

theorem seamHoldOf_eq (f : Nat) (b : Bool) (d : Dev) : seamHoldOf f b d = showHolds (withFieldHold f b d) := rfl

theorem seamHoldOf_moved (f : Nat) (b : Bool) (d : Dev) : SeamsMoved d (seamHoldOf f b d) :=
  (SeamsMoved.of_regs (d := d) (e := withFieldHold f b d) rfl).trans (showHolds_moved _)

theorem seamHoldOf_clk (f : Nat) (b : Bool) (d : Dev) : (seamHoldOf f b d).clk = (withFieldHold f b d).clk := by
  rw [seamHoldOf_eq, (showHolds_onlyRegs _).1]

/-- The segments of a field that is held are held. -/
theorem seamHoldOf_held {f : Nat} (hf : f < 12) (d : Dev) : ∀ g ∈ fieldSeams f, seamPresent d g.1 g.2 = true →
    bitOf ((seamHoldOf f true d).rd (seamReg g.1 g.2)) 9 = true := by
  intro g hg hp
  obtain ⟨hlt, hat⟩ := fieldSeams_spec hf g hg
  refine (showHolds_held (d := withFieldHold f true d) hlt hp).trans ?_
  have hmem : f ∈ setIns d.clk.fieldHold f := (mem_setIns _ _ _).2 (.inl rfl)
  simp only [seamHeld, withFieldHold, if_true, Bool.or_eq_true, List.any_eq_true, List.mem_append, beq_iff_eq]
  exact .inr ⟨f, .inl hmem, hat.imp Eq.symm Eq.symm⟩

/-! ### Single-field points (R438) -/

/-- A field runs at the common divider again, as far as its divider goes. -/
def divReturned (f : Nat) (d : Dev) : Dev := { d with clk := { d.clk with fieldDiv := kvDel d.clk.fieldDiv f } }

theorem fieldReturn_eq (f : Nat) (d : Dev) : fieldReturn f d = seamHoldOf f false (divReturned f (seamsUnlockField f d)) := rfl

theorem fieldReturn_spec (f : Nat) (d : Dev) : SeamsMoved d (fieldReturn f d) ∧
    (fieldReturn f d).clk = { d.clk with fieldDiv := kvDel d.clk.fieldDiv f, fieldHold := setDel d.clk.fieldHold f } := by
  have hlow := seamsUnlockField_lowers f d
  rw [fieldReturn_eq]
  generalize seamsUnlockField f d = u at hlow
  refine ⟨(hlow.moved.trans (.of_regs (d := u) (e := divReturned f u) rfl)).trans (seamHoldOf_moved f false (divReturned f u)), ?_⟩
  rw [seamHoldOf_clk, divReturned, hlow.clk]
  rfl

/-- What a write of Q_FIELD may hold: an existing field and a divider of the range. -/
structure PointOk (d : Dev) (data : Word) : Prop where
  reserved : data.toNat &&& 0x7FFFE0F0 = 0
  field : fld data 3 0 < 12
  low : 5 ≤ fld data 12 8
  high : fld data 12 8 ≤ 24
  fast : d.rdF CLK_VCO 13 0 ≤ 1400 * fld data 12 8
  slow : 400 * fld data 12 8 ≤ d.rdF CLK_VCO 13 0

/-- The field of a write may take a point of its own. -/
def Quarantined (d : Dev) (f : Nat) : Prop := bitOf (d.rd (FIELD_HEALTH f)) 4 = true ∧ d.chgState ≠ 1

/-- The point before ends where the write ends it, or names another field. -/
def pointLeft (data : Word) (d : Dev) : Dev :=
  if bitOf (d.rd CLK_Q_FIELD) 31 && (!bitOf data 31 || fld (d.rd CLK_Q_FIELD) 3 0 != fld data 3 0)
  then fieldReturn (fld (d.rd CLK_Q_FIELD) 3 0) (d.wr CLK_Q_FIELD data) else d.wr CLK_Q_FIELD data

/-- A field takes its own divider: its segments hold and unlock. -/
def pointTaken (f div : Nat) (d : Dev) : Dev :=
  let e := seamsUnlockField f (seamHoldOf f true d)
  { e with clk := { e.clk with fieldDiv := kvPut e.clk.fieldDiv f div } }

theorem qFieldWrite_eq {agent : Nat} {data : Word} {d : Dev} (ha : isPewter agent = true) (hu : d.up = true) (hok : PointOk d data) :
    qFieldWrite agent data d =
      d.checked .clk 0x150 agent [(.state, bitOf data 31 && (!bitOf (d.rd (FIELD_HEALTH (fld data 3 0))) 4 || d.chgState == 1))] fun d =>
        if bitOf data 31 then pointTaken (fld data 3 0) (fld data 12 8) (pointLeft data d) else pointLeft data d := by
  obtain ⟨hres, hf, hlow, hhigh, hfast, hslow⟩ := hok
  have hrange : (decide (11 < fld data 3 0) || decide (fld data 12 8 < 5) || decide (24 < fld data 12 8) ||
      !freqOk (d.rdF CLK_VCO 13 0) (fld data 12 8)) = false := by
    have hfreq : freqOk (d.rdF CLK_VCO 13 0) (fld data 12 8) = true := decide_eq_true ⟨hslow, hfast⟩
    rw [hfreq]
    simp only [Bool.not_true, Bool.or_false, Bool.or_eq_false_iff, decide_eq_false_iff_not]
    omega
  have hreserved : decide (data.toNat &&& 0x7FFFE0F0 ≠ 0) = false := by
    rw [hres]
    rfl
  have hchecks (b : Bool) : firstFail [(.privilege, !isPewter agent), (.state, !d.up || b), (.reserved, decide (data.toNat &&& 0x7FFFE0F0 ≠ 0)),
      (.range, decide (11 < fld data 3 0) || decide (fld data 12 8 < 5) || decide (24 < fld data 12 8) || !freqOk (d.rdF CLK_VCO 13 0) (fld data 12 8))] =
      firstFail [(.state, b)] := by
    rw [ha, hu, hreserved, hrange]
    cases b <;> rfl
  unfold qFieldWrite Dev.checked
  dsimp only
  rw [hchecks]
  rfl

theorem qFieldWrite_of_pass {agent : Nat} {data : Word} {d : Dev} (ha : isPewter agent = true) (hu : d.up = true) (hok : PointOk d data)
    (h : bitOf data 31 = true → Quarantined d (fld data 3 0)) : qFieldWrite agent data d =
      if bitOf data 31 then pointTaken (fld data 3 0) (fld data 12 8) (pointLeft data d) else pointLeft data d := by
  rw [qFieldWrite_eq ha hu hok]
  refine Dev.checked_pass _ _ _ _ _ _ fun e he => ?_
  rw [List.mem_singleton.1 he]
  cases hen : bitOf data 31 with
  | false => rfl
  | true =>
    obtain ⟨hq, hs⟩ := h hen
    simp [hq, hs]

theorem qFieldWrite_of_state {agent : Nat} {data : Word} {d : Dev} (ha : isPewter agent = true) (hu : d.up = true) (hok : PointOk d data)
    (hen : bitOf data 31 = true) (h : ¬Quarantined d (fld data 3 0)) : qFieldWrite agent data d = d.reject .clk 0x150 agent .state := by
  rw [qFieldWrite_eq ha hu hok]
  refine Dev.checked_fail _ _ _ _ _ _ _ ?_
  have hfail : (!bitOf (d.rd (FIELD_HEALTH (fld data 3 0))) 4 || d.chgState == 1) = true := by
    by_contra hn
    rw [Bool.not_eq_true, Bool.or_eq_false_iff, Bool.not_eq_false', beq_eq_false_iff_ne] at hn
    exact h hn
  rw [hen, hfail]
  rfl

/-- The point before has ended: besides the write of the register, only its field's segments, hold and divider differ. -/
theorem pointLeft_spec (data : Word) (d : Dev) : SeamsMoved (d.wr CLK_Q_FIELD data) (pointLeft data d) := by
  unfold pointLeft
  split
  · exact (fieldReturn_spec _ _).1
  · exact .of_regs rfl

theorem pointLeft_off {data : Word} (h : bitOf data 31 = false) (d : Dev) : pointLeft data d =
    if bitOf (d.rd CLK_Q_FIELD) 31 then fieldReturn (fld (d.rd CLK_Q_FIELD) 3 0) (d.wr CLK_Q_FIELD data) else d.wr CLK_Q_FIELD data := by
  rw [pointLeft, h]
  simp only [Bool.not_false, Bool.true_or, Bool.and_true]

theorem pointTaken_spec {f : Nat} (hf : f < 12) (div : Nat) (d : Dev) :
    let e := pointTaken f div d
    SeamsMoved d e ∧ kvGet? e.clk.fieldDiv f = some div ∧ f ∈ e.clk.fieldHold ∧
      ∀ g ∈ fieldSeams f, seamPresent d g.1 g.2 = true → bitOf (e.rd (seamReg g.1 g.2)) 8 = false ∧ bitOf (e.rd (seamReg g.1 g.2)) 9 = true := by
  have hmoved := seamHoldOf_moved f true d
  have hheld := seamHoldOf_held hf d
  have hclk := seamHoldOf_clk f true d
  obtain ⟨hlow, hunlocked⟩ := seamUnlock_foldl (fieldSeams f) (seamHoldOf f true d)
  unfold pointTaken seamsUnlockField
  generalize seamHoldOf f true d = d1 at *
  generalize (fieldSeams f).foldl (fun d s => seamUnlock s.1 s.2 d) d1 = d2 at *
  refine ⟨(hmoved.trans hlow.moved).trans (.of_regs rfl), kvGet?_put_same .., ?_, fun g hg hp => ⟨?_, ?_⟩⟩
  · show f ∈ d2.clk.fieldHold
    rw [hlow.clk, hclk]
    exact (mem_setIns _ _ _).2 (.inl rfl)
  · exact hunlocked g hg ((hmoved.present _ (fieldSeams_spec hf g hg).1 _).trans hp)
  · exact (hlow.bits g.1 g.2 9 (by decide)).trans (hheld g hg hp)

theorem qField_present (data : Word) (d : Dev) (f : Nat) (south : Bool) : seamPresent (d.wr CLK_Q_FIELD data) f south = seamPresent d f south := by
  refine congrArg (bitOf · 31) (Dev.rd_wr_other d _ ?_)
  rw [seamReg_eq]
  simp only [CLK_Q_FIELD]
  omega

/-- A quarantined field takes its own divider. -/
theorem qFieldWrite_on_spec {agent : Nat} {data : Word} {d : Dev} (ha : isPewter agent = true) (hu : d.up = true) (hok : PointOk d data)
    (hen : bitOf data 31 = true) (hq : Quarantined d (fld data 3 0)) :
    let e := qFieldWrite agent data d
    let f := fld data 3 0
    e.rd CLK_Q_FIELD = data ∧ kvGet? e.clk.fieldDiv f = some (fld data 12 8) ∧ f ∈ e.clk.fieldHold ∧
      ∀ g ∈ fieldSeams f, seamPresent d g.1 g.2 = true → bitOf (e.rd (seamReg g.1 g.2)) 8 = false ∧ bitOf (e.rd (seamReg g.1 g.2)) 9 = true := by
  have hleft := pointLeft_spec data d
  dsimp only
  rw [qFieldWrite_of_pass ha hu hok (fun _ => hq), if_pos hen]
  generalize pointLeft data d = l at hleft
  obtain ⟨hmoved, hdiv, hhold, hseams⟩ := pointTaken_spec hok.field (fld data 12 8) l
  refine ⟨?_, hdiv, hhold, fun g hg hp => hseams g hg ?_⟩
  · rw [hmoved.low _ (by decide), hleft.low _ (by decide), Dev.rd_wr_same]
  · rw [hleft.present _ (fieldSeams_spec hok.field g hg).1, qField_present]
    exact hp

/-- EN = 0 ends the point that was, if one was. -/
theorem qFieldWrite_off_spec {agent : Nat} {data : Word} {d : Dev} (ha : isPewter agent = true) (hu : d.up = true) (hok : PointOk d data)
    (hen : bitOf data 31 = false) :
    let e := qFieldWrite agent data d
    e.rd CLK_Q_FIELD = data ∧
      let old := d.rd CLK_Q_FIELD
      if bitOf old 31 = true then e.clk = { d.clk with fieldDiv := kvDel d.clk.fieldDiv (fld old 3 0), fieldHold := setDel d.clk.fieldHold (fld old 3 0) }
      else OnlyRegs [CLK_Q_FIELD] d e := by
  have hleft := pointLeft_spec data d
  have hoff : ¬bitOf data 31 = true := by rw [hen]; exact Bool.false_ne_true
  dsimp only
  rw [qFieldWrite_of_pass ha hu hok (fun h => absurd h hoff), if_neg hoff]
  refine ⟨(hleft.low _ (by decide)).trans (Dev.rd_wr_same ..), ?_⟩
  rw [pointLeft_off hen]
  split
  · exact (fieldReturn_spec _ _).2
  · exact onlyRegs_wr d _ _

/-! ### PLLs (R439) -/

/-- Beats of which none is meant do not fail. -/
theorem failBeat_of_none {p : Beat → Bool} {d : Dev} (h : ∀ b ∈ d.strm.beats, p b = false) : failBeat p d = d := by
  have hhit : (d.strm.beats.filter fun b => p b && !b.failed) = [] :=
    List.filter_eq_nil_iff.2 fun b hb => by rw [h b hb]; exact Bool.false_ne_true
  have hmap : (d.strm.beats.map fun b => if p b then { b with failed := true } else b) = d.strm.beats :=
    (List.map_congr_left fun b hb => by rw [h b hb]; rfl).trans (List.map_id _)
  unfold failBeat
  dsimp only
  rw [hhit]
  unfold Dev.modStrm
  dsimp only
  rw [hmap]
  rfl

theorem failBeatsOfField_of_none {f : Nat} {d : Dev} (h : ∀ b ∈ d.strm.beats, b.seqs = []) : failBeatsOfField f d = d :=
  failBeat_of_none fun b hb => by rw [h b hb]; rfl

/-- The field's PLL has no lock, and its mesh stands. -/
def pllStopped (f : Nat) (d : Dev) : Dev := d.wr CLK_FIELD_PLL (setBit (setBit (d.rd CLK_FIELD_PLL) f false) (16 + f) false)

theorem pllStopped_onlyRegs (f : Nat) (d : Dev) : OnlyRegs [CLK_FIELD_PLL] d (pllStopped f d) := onlyRegs_wr d _ _

theorem pllStopped_bits {f : Nat} (hf : f < 12) (d : Dev) :
    bitOf ((pllStopped f d).rd CLK_FIELD_PLL) f = false ∧ bitOf ((pllStopped f d).rd CLK_FIELD_PLL) (16 + f) = false := by
  rw [pllStopped, Dev.rd_wr_same]
  exact ⟨(bitOf_setBit_other _ _ (by omega)).trans (bitOf_setBit_same _ _ _ (by omega)), bitOf_setBit_same _ _ _ (by omega)⟩

theorem pllUnlock_of_unlocked {f : Nat} {d : Dev} (h : bitOf (d.rd CLK_FIELD_PLL) f = false) : pllUnlock f d = d :=
  if_neg (by rw [h]; exact Bool.false_ne_true)

/-- The loss of lock is counted and recorded. -/
def pllLossNoted (f : Nat) (d : Dev) : Dev :=
  let d := d.bump CLK_PLL_UNLOCK_COUNT
  d.record 0x14 11 f (d.rd CLK_FIELD_PLL).toNat

theorem Dev.record_length (d : Dev) (cls kind unit synd : Nat) (cmd : Option CmdRef) :
    (d.record cls kind unit synd cmd).flt.pendingRecords.length = d.flt.pendingRecords.length + 1 := by
  simp [Dev.record]

theorem pllUnlock_of_locked {f : Nat} {d : Dev} (h : bitOf (d.rd CLK_FIELD_PLL) f = true) :
    pllUnlock f d = failBeatsOfField f (pllLossNoted f (seamsUnlockField f (pllStopped f d))) := if_pos h

theorem pllUnlock_spec {f : Nat} (hf : f < 12) {d : Dev} (h : bitOf (d.rd CLK_FIELD_PLL) f = true) (hb : ∀ b ∈ d.strm.beats, b.seqs = []) :
    let e := pllUnlock f d
    bitOf (e.rd CLK_FIELD_PLL) f = false ∧ bitOf (e.rd CLK_FIELD_PLL) (16 + f) = false ∧
      e.rd CLK_PLL_UNLOCK_COUNT = satAdd (d.rd CLK_PLL_UNLOCK_COUNT) 1 ∧ d.flt.pendingRecords.length < e.flt.pendingRecords.length := by
  obtain ⟨hrest, hkeep⟩ := pllStopped_onlyRegs f d
  have hbits := pllStopped_bits hf d
  have hlow := seamsUnlockField_lowers f (pllStopped f d)
  dsimp only
  rw [pllUnlock_of_locked h]
  generalize pllStopped f d = d1 at *
  generalize seamsUnlockField f d1 = d2 at *
  have hbeats : (pllLossNoted f d2).strm.beats = d.strm.beats := by
    have h1 : d1.strm = d.strm := by rw [hrest]
    rw [← h1, ← hlow.fabric.strm]
    rfl
  rw [failBeatsOfField_of_none (by rw [hbeats]; exact hb)]
  have hpll : (pllLossNoted f d2).rd CLK_FIELD_PLL = d1.rd CLK_FIELD_PLL :=
    (Dev.rd_bump_other d2 (by decide)).trans (hlow.rd_low (by decide))
  refine ⟨?_, ?_, ?_, ?_⟩
  · rw [hpll]
    exact hbits.1
  · rw [hpll]
    exact hbits.2
  · refine (Dev.rd_bump_same d2 _).trans ?_
    rw [hlow.rd_low (by decide), hkeep _ (by decide)]
  · have hrec : d1.flt = d.flt := by rw [hrest]
    rw [pllLossNoted, Dev.record_length, ← hrec]
    exact Nat.lt_succ_of_le hlow.records

end Sys2Proof.Machine

/-! PROOF. A field's PLL that locks again, and a field that fails (11_clocking.md R439). -/

namespace Sys2Proof.Machine

/-! ### The PLL locks -/

theorem Dev.domOn_wr_other (d : Dev) {a : Nat} (w : Word) (h : a < 0xA1C0) (i : Nat) : (d.wr a w).domOn i = d.domOn i :=
  congrArg (bitOf · (i % 32)) (Dev.rd_wr_other d w (by simp only [PWR_DOM_ON]; omega))

/-- The word of the PLLs once a field's has locked. -/
theorem pllLocked_rd {f : Nat} (hf : f < 12) (d : Dev) : (pllLocked f d).rd CLK_FIELD_PLL =
    setBit (setBit (d.rd CLK_FIELD_PLL) f true) (16 + f) (d.domOn (144 + f) && !d.clk.refLost && d.chgState != 2) := by
  have hbit : bitOf ((d.wr CLK_FIELD_PLL (setBit (d.rd CLK_FIELD_PLL) f true)).rd CLK_FIELD_PLL) f = true := by
    rw [Dev.rd_wr_same]
    exact bitOf_setBit_same _ _ _ (by omega)
  have hstate : (d.wr CLK_FIELD_PLL (setBit (d.rd CLK_FIELD_PLL) f true)).chgState = d.chgState :=
    congrArg (fld · 1 0) (Dev.rd_wr_other d _ (by decide))
  unfold pllLocked mayRun
  dsimp only
  rw [hbit, hstate, Dev.domOn_wr_other d _ (by decide), Dev.rd_wr_same, Dev.rd_wr_same, Bool.true_and]
  rfl

theorem pllLocked_onlyRegs (f : Nat) (d : Dev) : OnlyRegs [CLK_FIELD_PLL] d (pllLocked f d) := (onlyRegs_wr d _ _).trans (onlyRegs_wr _ _ _)

theorem pllLocked_bit {f : Nat} (hf : f < 12) (d : Dev) : bitOf ((pllLocked f d).rd CLK_FIELD_PLL) f = true := by
  rw [pllLocked_rd hf]
  exact (bitOf_setBit_other _ _ (by omega)).trans (bitOf_setBit_same _ _ _ (by omega))

/-- The mesh of a powered field runs, but during a die-wide stop. -/
theorem pllLocked_meshRuns {f : Nat} (hf : f < 12) {d : Dev} (hp : d.domOn (144 + f) = true) (hr : d.clk.refLost = false) :
    (pllLocked f d).meshRuns f = decide (d.chgState ≠ 2) := by
  rw [Dev.meshRuns, pllLocked_rd hf, bitOf_setBit_same _ _ _ (by omega), hp, hr]
  exact Bool.eq_iff_iff.2 (by simp)

/-- Another field's bits stay. -/
theorem pllLocked_other {f i : Nat} (hf : f < 12) (d : Dev) (hi : i ≠ f) (hr : i ≠ 16 + f) :
    bitOf ((pllLocked f d).rd CLK_FIELD_PLL) i = bitOf (d.rd CLK_FIELD_PLL) i := by
  rw [pllLocked_rd hf, bitOf_setBit_other _ _ hr, bitOf_setBit_other _ _ hi]

/-- The field's copy of TB is in step. -/
def copyInStep (f : Nat) (d : Dev) : Dev := d.wr TIME_DIST_STATUS (setBit (d.rd TIME_DIST_STATUS) f true)

theorem copyInStep_onlyRegs (f : Nat) (d : Dev) : OnlyRegs [TIME_DIST_STATUS] d (copyInStep f d) := onlyRegs_wr d _ _

theorem copyInStep_bit {f : Nat} (hf : f < 12) (d : Dev) : bitOf ((copyInStep f d).rd TIME_DIST_STATUS) f = true := by
  rw [copyInStep, Dev.rd_wr_same]
  exact bitOf_setBit_same _ _ _ (by omega)

/-! ### PLL_RELOCK_DONE -/

theorem pllRelockDone_of_kept {f : Nat} {d : Dev} (ok : Bool)
    (h : bitOf (d.rd CLK_FIELD_PLL) f = true ∨ d.domOn (144 + f) = false ∨ d.clk.refLost = true) : pllRelockDone f ok d = d := by
  refine if_pos ?_
  rcases h with h | h | h <;> rw [h] <;> simp

theorem pllRelockDone_of_locks {f : Nat} {d : Dev} (hl : bitOf (d.rd CLK_FIELD_PLL) f = false) (hp : d.domOn (144 + f) = true)
    (hr : d.clk.refLost = false) : pllRelockDone f true d = seamsRelockField f (copyInStep f (pllLocked f (divReturned f d))) := by
  refine (if_neg ?_).trans (if_pos rfl)
  rw [hl, hp, hr]
  exact Bool.false_ne_true

theorem pllRelockDone_of_fails {f : Nat} {d : Dev} (hl : bitOf (d.rd CLK_FIELD_PLL) f = false) (hp : d.domOn (144 + f) = true)
    (hr : d.clk.refLost = false) : pllRelockDone f false d = fieldFailure f 4 d := by
  refine (if_neg ?_).trans (if_neg Bool.false_ne_true)
  rw [hl, hp, hr]
  exact Bool.false_ne_true

theorem pllRelockDone_spec {f : Nat} (hf : f < 12) {d : Dev} (hl : bitOf (d.rd CLK_FIELD_PLL) f = false) (hp : d.domOn (144 + f) = true)
    (hr : d.clk.refLost = false) :
    let e := pllRelockDone f true d
    bitOf (e.rd CLK_FIELD_PLL) f = true ∧ e.meshRuns f = decide (d.chgState ≠ 2) ∧ bitOf (e.rd TIME_DIST_STATUS) f = true ∧
      RegsKeep ([CLK_FIELD_PLL, TIME_DIST_STATUS] ++ seamRegs) d e ∧
      e = { d with regs := e.regs, clk := { d.clk with fieldDiv := kvDel d.clk.fieldDiv f } } := by
  have hbit := pllLocked_bit hf (divReturned f d)
  have hruns := pllLocked_meshRuns hf (d := divReturned f d) hp hr
  obtain ⟨hrest1, hkeep1⟩ := pllLocked_onlyRegs f (divReturned f d)
  dsimp only
  rw [pllRelockDone_of_locks hl hp hr]
  generalize pllLocked f (divReturned f d) = d1 at *
  have hstep := copyInStep_bit hf d1
  obtain ⟨hrest2, hkeep2⟩ := copyInStep_onlyRegs f d1
  generalize copyInStep f d1 = d2 at *
  obtain ⟨hrest3, hkeep3⟩ := seamsRelockField_onlyRegs hf d2
  generalize seamsRelockField f d2 = d3 at *
  have hpll : d3.rd CLK_FIELD_PLL = d1.rd CLK_FIELD_PLL := (hkeep3 _ (not_mem_seamRegs (by decide))).trans (hkeep2 _ (by decide))
  refine ⟨?_, ?_, ?_, fun a ha => ?_, ?_⟩
  · rw [hpll]
    exact hbit
  · rw [Dev.meshRuns, hpll]
    exact hruns
  · rw [hkeep3 _ (not_mem_seamRegs (by decide))]
    exact hstep
  · simp only [List.mem_append, List.mem_cons, List.not_mem_nil, or_false, not_or] at ha
    obtain ⟨⟨hp, ht⟩, hs⟩ := ha
    rw [hkeep3 a hs, hkeep2 a (by simp [ht]), hkeep1 a (by simp [hp])]
    rfl
  · rw [hrest3, hrest2, hrest1]
    rfl

end Sys2Proof.Machine

/-! PROOF. Registers that a long effect keeps, the module's health, and a field that fails (11_clocking.md R439, R513). -/

namespace Sys2Proof.Machine

/-! ### Registers kept -/

/-- Every register of a set holds what it held. -/
def SameAt (P : Nat → Prop) (d e : Dev) : Prop := ∀ a, P a → e.rd a = d.rd a

section

variable {P : Nat → Prop} {d e : Dev}

theorem SameAt.refl (P : Nat → Prop) (d : Dev) : SameAt P d d := fun _ _ => rfl

theorem SameAt.trans {c : Dev} (h : SameAt P d e) (g : SameAt P e c) : SameAt P d c := fun a ha => (g a ha).trans (h a ha)

theorem SameAt.of_regs (h : e.regs = d.regs) : SameAt P d e := fun a _ => Dev.rd_of_regs h a

theorem SameAt.of_keep {l : List Nat} (h : RegsKeep l d e) (hl : ∀ a ∈ l, ¬P a) : SameAt P d e := fun a ha => h a fun hm => hl a hm ha

theorem sameAt_wr (d : Dev) {a : Nat} (w : Word) (h : ¬P a) : SameAt P d (d.wr a w) :=
  fun _ hb => Dev.rd_wr_other d w fun he => h (he ▸ hb)

end

/-! ### FAULT_N and the module's health (R513) -/

theorem Dev.intCause_spec (d : Dev) (c : Nat) : RegsKeep [PCIE_INT_CAUSE] d (d.intCause c) ∧
    d.intCause c = { d with regs := (d.intCause c).regs, tx := (d.intCause c).tx } := by
  unfold Dev.intCause
  dsimp only
  split
  · exact ⟨(regsKeep_wr d _ _).of_regs rfl, rfl⟩
  · exact ⟨regsKeep_wr d _ _, rfl⟩

/-- A condition of FAULT_N takes its bit; besides, only the interrupt of its start. -/
theorem Dev.faultCond_spec (d : Dev) (i : Nat) (b : Bool) :
    let e := d.faultCond i b
    e.rd PINS_FAULT_COND = setBit (d.rd PINS_FAULT_COND) i b ∧ RegsKeep [PINS_FAULT_COND, PCIE_INT_CAUSE] d e ∧
      e = { d with regs := e.regs, tx := e.tx } := by
  have hw := regsKeep_wr d PINS_FAULT_COND (setBit (d.rd PINS_FAULT_COND) i b)
  have hat : (d.wr PINS_FAULT_COND (setBit (d.rd PINS_FAULT_COND) i b)).rd PINS_FAULT_COND = setBit (d.rd PINS_FAULT_COND) i b := Dev.rd_wr_same ..
  have honly := regsOnly_wr d PINS_FAULT_COND (setBit (d.rd PINS_FAULT_COND) i b)
  unfold Dev.faultCond
  dsimp only
  generalize d.wr PINS_FAULT_COND (setBit (d.rd PINS_FAULT_COND) i b) = d1 at *
  split
  · obtain ⟨hkeep, hrest⟩ := d1.intCause_spec 1
    refine ⟨(hkeep _ (by decide)).trans hat, (hw.mono (by simp)).trans (hkeep.mono (by simp)), ?_⟩
    rw [hrest, honly]
  · exact ⟨hat, hw.mono (by simp), by rw [honly]⟩

/-- The registers of the module's health. -/
def healthRegs : List Nat := [FLOOR_STATE, CHAN_CH_STATUS, PINS_FAULT_COND, PCIE_INT_CAUSE]

/-- HEALTH, the lost channels and the condition of FAULT_N, as they are shown. -/
def healthShown (h : Nat) (north south failed : Bool) (d : Dev) : Dev :=
  ((d.wr FLOOR_STATE (setBit (setBit (setFld (d.rd FLOOR_STATE) 2 0 h) 8 north) 9 south)).wr CHAN_CH_STATUS
    (setBit (setBit (d.rd CHAN_CH_STATUS) 0 north) 1 south)).faultCond 3 failed

theorem moduleHealth_eq (d : Dev) : ∃ h north south failed, moduleHealth d = healthShown h north south failed d ∧ (d.clk.refLost = true → h = 4) :=
  ⟨_, _, _, _, rfl, fun hr => if_pos (by rw [hr, Bool.or_true])⟩

theorem healthShown_spec (h : Nat) (north south failed : Bool) (d : Dev) :
    let e := healthShown h north south failed d
    RegsKeep healthRegs d e ∧ e = { d with regs := e.regs, tx := e.tx } ∧ e.rdF FLOOR_STATE 2 0 = h % 8 ∧
      ∀ i, i ≠ 3 → bitOf (e.rd PINS_FAULT_COND) i = bitOf (d.rd PINS_FAULT_COND) i := by
  have hstate : (d.wr FLOOR_STATE (setBit (setBit (setFld (d.rd FLOOR_STATE) 2 0 h) 8 north) 9 south)).rdF FLOOR_STATE 2 0 = h % 8 := by
    rw [Dev.rdF, Dev.rd_wr_same, fld_setBit_other _ _ (by decide), fld_setBit_other _ _ (by decide), fld_setFld_same _ _ (by decide)]
    rfl
  have h1 := onlyRegs_wr d FLOOR_STATE (setBit (setBit (setFld (d.rd FLOOR_STATE) 2 0 h) 8 north) 9 south)
  dsimp only
  unfold healthShown
  generalize d.wr FLOOR_STATE (setBit (setBit (setFld (d.rd FLOOR_STATE) 2 0 h) 8 north) 9 south) = d1 at *
  have h2 := onlyRegs_wr d1 CHAN_CH_STATUS (setBit (setBit (d.rd CHAN_CH_STATUS) 0 north) 1 south)
  generalize d1.wr CHAN_CH_STATUS (setBit (setBit (d.rd CHAN_CH_STATUS) 0 north) 1 south) = d2 at *
  obtain ⟨hcond, hkeep, hrest⟩ := d2.faultCond_spec 3 failed
  refine ⟨((h1.2.mono ?_).trans (h2.2.mono ?_)).trans (hkeep.mono ?_), ?_, ?_, fun i hi => ?_⟩
  · simp [healthRegs]
  · simp [healthRegs]
  · simp [healthRegs]
  · rw [hrest, h2.1, h1.1]
  · rw [Dev.rdF, hkeep _ (by decide), h2.2 _ (by decide)]
    exact hstate
  · rw [hcond, bitOf_setBit_other _ _ hi, h2.2 _ (by decide), h1.2 _ (by decide)]

theorem moduleHealth_spec (d : Dev) :
    let e := moduleHealth d
    RegsKeep healthRegs d e ∧ e = { d with regs := e.regs, tx := e.tx } ∧ (d.clk.refLost = true → e.rdF FLOOR_STATE 2 0 = 4) ∧
      ∀ i, i ≠ 3 → bitOf (e.rd PINS_FAULT_COND) i = bitOf (d.rd PINS_FAULT_COND) i := by
  obtain ⟨h, north, south, failed, he, hfour⟩ := moduleHealth_eq d
  obtain ⟨hkeep, hrest, hstate, hcond⟩ := healthShown_spec h north south failed d
  dsimp only
  rw [he]
  exact ⟨hkeep, hrest, fun hr => by rw [hstate, hfour hr], hcond⟩

/-! ### Parts of a failure that leave the field's health and the domains alone -/

/-- The registers of PWR and those of the fields. -/
def FieldOrPower (a : Nat) : Prop := (0xA000 ≤ a ∧ a < 0xB000) ∨ (fieldBase 0 ≤ a ∧ a < 0x100000)

/-- What a failure's last steps keep: the registers of PWR and of the fields, and which fields have failed. -/
structure FailureKept (d e : Dev) : Prop where
  same : SameAt FieldOrPower d e
  failed : e.flt.fieldFailed = d.flt.fieldFailed

section

variable {d e : Dev}

theorem FailureKept.refl (d : Dev) : FailureKept d d := ⟨.refl _ d, rfl⟩

theorem FailureKept.trans {c : Dev} (h : FailureKept d e) (g : FailureKept e c) : FailureKept d c :=
  ⟨h.same.trans g.same, g.failed.trans h.failed⟩

theorem FailureKept.of_regs (hr : e.regs = d.regs) (hf : e.flt.fieldFailed = d.flt.fieldFailed) : FailureKept d e := ⟨.of_regs hr, hf⟩

theorem FailureKept.foldl {α : Type} {f : Dev → α → Dev} {l : List α} (hf : ∀ d, ∀ x ∈ l, FailureKept d (f d x)) (d : Dev) :
    FailureKept d (l.foldl f d) := foldl_kept .refl .trans hf d

theorem FailureKept.of_onlyRegs {l : List Nat} (h : OnlyRegs l d e) (hl : ∀ a ∈ l, ¬FieldOrPower a) : FailureKept d e :=
  ⟨.of_keep h.2 hl, by rw [h.1]⟩

theorem failureKept_wr (d : Dev) {a : Nat} (w : Word) (h : ¬FieldOrPower a) : FailureKept d (d.wr a w) := ⟨sameAt_wr d w h, rfl⟩

end

theorem not_fieldOrPower {a : Nat} (h : a < 0xA000 ∨ (0xB000 ≤ a ∧ a < 0x20000) ∨ 0x100000 ≤ a) : ¬FieldOrPower a := by
  unfold FieldOrPower fieldBase
  omega

theorem failureKept_ibexRun (d : Dev) (r : Option IbexRun) : FailureKept d (d.modFlt fun x => { x with ibexRun := r }) := .of_regs rfl rfl

theorem failureKept_modStrm (d : Dev) (g : StreamSt → StreamSt) : FailureKept d (d.modStrm g) := .of_regs rfl rfl

theorem ibexEnd_failureKept (v : Nat) (d : Dev) : FailureKept d (ibexEnd v d) := by
  unfold ibexEnd
  split
  · exact .refl d
  · next r _ =>
      exact (failureKept_ibexRun d _).trans (failureKept_wr _ (a := FLT_IBEX_STATUS) _ (not_fieldOrPower (by decide)))

theorem showQueue_failureKept (d : Dev) : FailureKept d (showQueue d) := failureKept_wr d _ (not_fieldOrPower (by decide))

theorem holdEnd_failureKept (start : Nat) (d : Dev) : FailureKept d (holdEnd start d) := by
  unfold holdEnd
  split
  · exact (failureKept_wr d (a := FLOOR_RECOV_US) _ (not_fieldOrPower (by decide))).trans
      (failureKept_wr _ (a := FLOOR_STATE) _ (not_fieldOrPower (by decide)))
  · exact .refl d

theorem trialClear_failureKept (d : Dev) : FailureKept d (trialClear d) :=
  FailureKept.trans (e := d.modFlt _) (.of_regs rfl rfl) (failureKept_wr _ (a := FLOOR_STATE) _ (not_fieldOrPower (by decide)))

/-- The queue of trials loses the field's sites. -/
def queueDropped (f : Nat) (d : Dev) : Dev := d.modFlt fun x => { x with trialQueue := x.trialQueue.filter fun e => siteField e.1 != f }

/-- The queue is shown, and no stream is parked for a site that left it. -/
def trialsDropped (f : Nat) (d : Dev) : Dev :=
  (showQueue (queueDropped f d)).modStrm fun s => { s with
    parked := s.parked.filter fun (e : Nat × Nat) => !((d.flt.trialQueue.filter fun e => siteField e.1 == f).any fun o => o.1 == e.2) }

theorem queueDropped_failureKept (f : Nat) (d : Dev) : FailureKept d (queueDropped f d) := .of_regs rfl rfl

theorem trialsDropped_failureKept (f : Nat) (d : Dev) : FailureKept d (trialsDropped f d) :=
  ((queueDropped_failureKept f d).trans (showQueue_failureKept _)).trans (failureKept_modStrm _ _)

theorem trialsEndField_eq (f : Nat) (d : Dev) : trialsEndField f d =
    match (trialsDropped f d).flt.trial with
    | some t => if siteField t.site = f then trialClear (holdEnd t.holdTick (trialsDropped f d)) else trialsDropped f d
    | none => trialsDropped f d := rfl

theorem trialsEndField_failureKept (f : Nat) (d : Dev) : FailureKept d (trialsEndField f d) := by
  have hdrop := trialsDropped_failureKept f d
  rw [trialsEndField_eq]
  split
  · split
    · exact (hdrop.trans (holdEnd_failureKept _ _)).trans (trialClear_failureKept _)
    · exact hdrop
  · exact hdrop

theorem pewterPause_failureKept (n : Nat) (d : Dev) : FailureKept d (pewterPause n d) := by
  have hdesc : ∀ a ∈ [descAddr n 0], ¬FieldOrPower a := by
    simp only [List.mem_singleton, forall_eq]
    exact not_fieldOrPower (.inr (.inr (by simp only [descAddr]; omega)))
  unfold pewterPause
  split
  · exact .of_onlyRegs (setStrm_paused_onlyRegs n d) hdesc
  · exact .of_onlyRegs (strmPause_onlyRegs n d) hdesc

theorem pauseOf_failureKept (seqs : List Nat) (d : Dev) : FailureKept d (pauseOf seqs d) :=
  .foldl (fun e n _ => pewterPause_failureKept n e) d

theorem moduleHealth_failureKept (d : Dev) : FailureKept d (moduleHealth d) := by
  obtain ⟨hkeep, hrest, -, -⟩ := moduleHealth_spec d
  refine ⟨.of_keep hkeep fun a ha => not_fieldOrPower ?_, by rw [hrest]⟩
  revert a
  decide

/-! ### The field fails (R512) -/

theorem Dev.domOn_setDom_off {d : Dev} {i : Nat} (j : Nat) (h : d.domOn i = false) : (d.setDom j false).domOn i = false := by
  unfold Dev.domOn Dev.setDom at *
  by_cases hw : PWR_DOM_ON (i / 32) = PWR_DOM_ON (j / 32)
  · rw [hw, Dev.rd_wr_same]
    by_cases hb : i % 32 = j % 32
    · rw [hb, bitOf_setBit_same _ _ _ (Nat.mod_lt _ (by decide))]
    · rw [bitOf_setBit_other _ _ hb, ← hw, h]
  · rw [Dev.rd_wr_other d _ hw, h]

theorem Dev.domOn_setDom_same (d : Dev) (i : Nat) (on : Bool) : (d.setDom i on).domOn i = on := by
  unfold Dev.domOn Dev.setDom
  rw [Dev.rd_wr_same, bitOf_setBit_same _ _ _ (Nat.mod_lt _ (by decide))]

theorem domOn_foldl_setDom_off {i : Nat} (g : Nat → Nat) (l : List Nat) {d : Dev} (h : d.domOn i = false) :
    (l.foldl (fun d k => d.setDom (g k) false) d).domOn i = false := by
  induction l generalizing d with
  | nil => exact h
  | cons k t ih => exact ih (Dev.domOn_setDom_off (g k) h)

/-- The field's domains are off. -/
def domainsOff (f : Nat) (d : Dev) : Dev := (List.range 12).foldl (fun d k => d.setDom (12 * f + k) false) (d.setDom (144 + f) false)

theorem domainsOff_domOn (f : Nat) (d : Dev) : (domainsOff f d).domOn (144 + f) = false :=
  domOn_foldl_setDom_off (12 * f + ·) _ (Dev.domOn_setDom_same d _ _)

/-- What the field's cores held is gone. -/
def coresLost (f : Nat) (d : Dev) : Dev :=
  let d := d.wr CLK_FIELD_PLL (setBit (setBit (d.rd CLK_FIELD_PLL) f false) (16 + f) false)
  let d := { d with
    tiles := d.tiles.filter fun (e : Nat × Tile) => siteField e.1 != f
    seqs := d.seqs.filter fun (e : Nat × Sequencer) => e.1 / 4 != f }
  let d := d.modFab fun x => { x with cmds := x.cmds.filter fun e => e.1 / 4 != f, reports := x.reports.filter fun e => e.1 / 4 != f }
  d.modStrm fun s => { s with beats := s.beats.map fun b => { b with left := b.left.filter fun q => q / 4 != f } }

theorem coresLost_failureKept (f : Nat) (d : Dev) : FailureKept d (coresLost f d) :=
  FailureKept.trans (failureKept_wr d _ (not_fieldOrPower (by decide))) (.of_regs rfl rfl)

/-- The field's health is FAILED, with its cause. -/
def failureShown (f cause : Nat) (d : Dev) : Dev := d.wr (FIELD_HEALTH f) (setFld (setFld (d.rd (FIELD_HEALTH f)) 1 0 3) 15 8 cause)

/-- The field is one of those that have failed. -/
def failureNoted (f : Nat) (d : Dev) : Dev :=
  d.modFlt fun x => { x with fieldFailed := setIns x.fieldFailed f, ibexDue := x.ibexDue.filter (· != f) }

/-- A running Ibex slice of the field ends. -/
def fieldIbexEnd (f : Nat) (d : Dev) : Dev :=
  match d.flt.ibexRun with
  | some r => if r.field = f then ibexEnd 5 d else d
  | none => d

theorem fieldIbexEnd_failureKept (f : Nat) (d : Dev) : FailureKept d (fieldIbexEnd f d) := by
  unfold fieldIbexEnd
  split
  · split
    · exact ibexEnd_failureKept 5 d
    · exact .refl d
  · exact .refl d

/-- What a failure does before its domains go off: its segments unlock, its locks break, its pages are fenced. -/
def fieldSevered (f : Nat) (d : Dev) : Dev :=
  let d := seamsUnlockField f (failBeatsOfField f d)
  let d := (fieldSeqs f).foldl (fun d q => seqBreakLocks q d) d
  (fieldPages f).foldl (fun d p => d.setFence p true) d

theorem fieldFailure_eq {f : Nat} (cause : Nat) {d : Dev} (h : d.flt.fieldFailed.contains f = false) : fieldFailure f cause d =
    moduleHealth (pauseOf (channelSeqs (fieldChannel f)) (trialsEndField f
      (fieldIbexEnd f (failureNoted f (failureShown f cause (coresLost f (domainsOff f (fieldSevered f d)))))))) := by
  unfold fieldFailure fieldSevered domainsOff
  rw [if_neg (by rw [h]; exact Bool.false_ne_true)]
  generalize fieldPages f = pages
  generalize fieldSeqs f = seqs
  generalize List.range 12 = doms
  rfl

theorem fieldFailure_spec {f : Nat} (hf : f < 12) (cause : Nat) {d : Dev} (h : d.flt.fieldFailed.contains f = false) :
    let e := fieldFailure f cause d
    f ∈ e.flt.fieldFailed ∧ e.rdF (FIELD_HEALTH f) 1 0 = 3 ∧ e.domOn (144 + f) = false := by
  have hpwr : FieldOrPower (PWR_DOM_ON ((144 + f) / 32)) := .inl (by simp only [PWR_DOM_ON]; omega)
  have hhealth : FieldOrPower (FIELD_HEALTH f) := .inr (by simp only [FIELD_HEALTH, fieldBase]; omega)
  dsimp only
  rw [fieldFailure_eq cause h]
  have hoff := domainsOff_domOn f (fieldSevered f d)
  generalize domainsOff f (fieldSevered f d) = d1 at *
  have hlost := coresLost_failureKept f d1
  generalize coresLost f d1 = d2 at *
  have hthree : (failureShown f cause d2).rdF (FIELD_HEALTH f) 1 0 = 3 := by
    rw [failureShown, Dev.rdF, Dev.rd_wr_same, fld_setFld_other _ _ (.inl (by decide)), fld_setFld_same _ _ (by decide)]
    rfl
  have hdom : (failureShown f cause d2).rd (PWR_DOM_ON ((144 + f) / 32)) = d2.rd (PWR_DOM_ON ((144 + f) / 32)) :=
    Dev.rd_wr_other d2 _ (by simp only [PWR_DOM_ON, FIELD_HEALTH, fieldBase]; omega)
  generalize failureShown f cause d2 = d3 at *
  have hin : f ∈ (failureNoted f d3).flt.fieldFailed := (mem_setIns _ _ _).2 (.inl rfl)
  have hnoted : SameAt FieldOrPower d3 (failureNoted f d3) := .of_regs rfl
  generalize failureNoted f d3 = d4 at *
  have hrest : FailureKept d4 (moduleHealth (pauseOf (channelSeqs (fieldChannel f)) (trialsEndField f (fieldIbexEnd f d4)))) :=
    (((fieldIbexEnd_failureKept f d4).trans (trialsEndField_failureKept f _)).trans (pauseOf_failureKept _ _)).trans (moduleHealth_failureKept _)
  generalize moduleHealth (pauseOf (channelSeqs (fieldChannel f)) (trialsEndField f (fieldIbexEnd f d4))) = d5 at *
  refine ⟨?_, ?_, ?_⟩
  · rw [hrest.failed]
    exact hin
  · rw [Dev.rdF, hrest.same _ hhealth, hnoted _ hhealth]
    exact hthree
  · rw [Dev.domOn, hrest.same _ hpwr, hnoted _ hpwr, hdom, hlost.same _ hpwr]
    exact hoff

end Sys2Proof.Machine

/-! PROOF. REFCLK is lost (11_clocking.md R440). -/

namespace Sys2Proof.Machine

/-! ### The parts of a loss -/

/-- Time stops, and every mesh. -/
def refGone (d : Dev) : Dev :=
  { d with clk := { d.clk with refLost := true }, time := { d.time with stopped := true } }.wrF CLK_FIELD_PLL 27 16 0

theorem refGone_spec (d : Dev) : (refGone d).rdF CLK_FIELD_PLL 27 16 = 0 ∧ RegsKeep [CLK_FIELD_PLL] d (refGone d) :=
  ⟨Dev.rdF_wrF_same _ _ 0 (by decide), fun _ ha => Dev.rd_wrF_other _ _ _ _ (by simpa using ha)⟩

theorem servoState_stopped (st : Nat) (d : Dev) : (servoState st d).time.stopped = d.time.stopped := by
  by_cases h : d.rdF TIME_SYNC_STATUS 1 0 = st
  · rw [servoState_of_same h]
  · rw [servoState_of_change h]
    rfl

/-- The servo freezes: the state is shown, and time stands as it stood. -/
theorem servoFreeze_spec {st : Nat} (h : st < 4) (d : Dev) :
    let e := servoFreeze st d
    ServoFrame d e ∧ e.rdF TIME_SYNC_STATUS 1 0 = st ∧ e.time.stopped = d.time.stopped := by
  have hrate := setRate_frame (meanRate d) d
  have hstop : (setRate (meanRate d) d).time.stopped = d.time.stopped := rfl
  dsimp only
  unfold servoFreeze
  generalize setRate (meanRate d) d = d1 at *
  exact ⟨hrate.trans (servoState_frame st d1), servoState_shows h d1, (servoState_stopped st d1).trans hstop⟩

/-- The loss is shown, counted and recorded. -/
def lossNoted (d : Dev) : Dev :=
  let d := (d.wrN CLK_REF_STATUS 2).bump CLK_REF_LOSS_COUNT
  d.record 0x14 0 0 (d.rd CLK_REF_STATUS).toNat

theorem lossNoted_spec (d : Dev) :
    let e := lossNoted d
    e.rd CLK_REF_STATUS = 2 ∧ e.rd CLK_REF_LOSS_COUNT = satAdd (d.rd CLK_REF_LOSS_COUNT) 1 ∧
      RegsKeep [CLK_REF_STATUS, CLK_REF_LOSS_COUNT] d e ∧ e = { d with regs := e.regs, flt := e.flt } := by
  have hshown : (d.wrN CLK_REF_STATUS 2).rd CLK_REF_STATUS = 2 := Dev.rd_wrN_same ..
  have h1 := onlyRegs_wr d CLK_REF_STATUS (w32 2)
  dsimp only
  unfold lossNoted Dev.wrN at *
  generalize d.wr CLK_REF_STATUS (w32 2) = d1 at *
  have hcount : (d1.bump CLK_REF_LOSS_COUNT).rd CLK_REF_LOSS_COUNT = satAdd (d1.rd CLK_REF_LOSS_COUNT) 1 := Dev.rd_bump_same ..
  have h2 : OnlyRegs [CLK_REF_LOSS_COUNT] d1 (d1.bump CLK_REF_LOSS_COUNT) := onlyRegs_wr d1 _ _
  generalize d1.bump CLK_REF_LOSS_COUNT = d2 at *
  have hregs : (d2.record 0x14 0 0 (d2.rd CLK_REF_STATUS).toNat).regs = d2.regs := rfl
  refine ⟨?_, ?_, fun a ha => ?_, ?_⟩
  · rw [Dev.rd_of_regs hregs, h2.2 _ (by decide), hshown]
  · rw [Dev.rd_of_regs hregs, hcount, h1.2 _ (by decide)]
  · simp only [List.mem_cons, List.not_mem_nil, or_false, not_or] at ha
    rw [Dev.rd_of_regs hregs, h2.2 a (by simp [ha.2]), h1.2 a (by simp [ha.1])]
  · rw [h2.1, h1.1]
    rfl

/-! ### REFCLK_LOSS -/

theorem refclkLoss_of_kept {d : Dev} (h : d.clk.refLost = true ∨ d.held = true) : refclkLoss d = d :=
  if_pos ((Bool.or_eq_true _ _).mpr h)

theorem refclkLoss_of_lost {d : Dev} (hr : d.clk.refLost = false) (hh : d.held = false) (hb : d.strm.beats = []) :
    refclkLoss d = moduleHealth ((lossNoted (servoFreeze 3 (refGone d))).faultCond 0 true) := by
  have hbeats : abandonBeats (refGone d) = refGone d := failBeat_of_none fun b hmem => by
    rw [show (refGone d).strm.beats = [] from hb] at hmem
    exact absurd hmem List.not_mem_nil
  refine (if_neg (by rw [hr, hh]; exact Bool.false_ne_true)).trans ?_
  show moduleHealth ((lossNoted (servoFreeze 3 (abandonBeats (refGone d)))).faultCond 0 true) = _
  rw [hbeats]

/-- The registers that a loss of REFCLK may change. -/
def lossRegs : List Nat :=
  [CLK_REF_STATUS, CLK_FIELD_PLL, TIME_SYNC_STATUS, TIME_RATE, CLK_REF_LOSS_COUNT, PINS_FAULT_COND, FLOOR_STATE, CHAN_CH_STATUS, PCIE_INT_CAUSE]

theorem refclkLoss_spec {d : Dev} (hr : d.clk.refLost = false) (hh : d.held = false) (hb : d.strm.beats = []) :
    let e := refclkLoss d
    e.clk.refLost = true ∧ e.time.stopped = true ∧ e.rd CLK_REF_STATUS = 2 ∧ e.rdF CLK_FIELD_PLL 27 16 = 0 ∧ e.rdF TIME_SYNC_STATUS 1 0 = 3 ∧
      e.rd CLK_REF_LOSS_COUNT = satAdd (d.rd CLK_REF_LOSS_COUNT) 1 ∧ bitOf (e.rd PINS_FAULT_COND) 0 = true ∧ e.rdF FLOOR_STATE 2 0 = 4 ∧
      RegsKeep lossRegs d e := by
  dsimp only
  rw [refclkLoss_of_lost hr hh hb]
  obtain ⟨hpll, hkeep1⟩ := refGone_spec d
  have hlost : (refGone d).clk.refLost = true := rfl
  have hstop : (refGone d).time.stopped = true := rfl
  generalize refGone d = d1 at *
  obtain ⟨⟨hkeep2, hrest2⟩, hsync, hstop2⟩ := servoFreeze_spec (show 3 < 4 by decide) d1
  generalize servoFreeze 3 d1 = d2 at *
  obtain ⟨hstatus, hcount, hkeep3, hrest3⟩ := lossNoted_spec d2
  generalize lossNoted d2 = d3 at *
  obtain ⟨hcond, hkeep4, hrest4⟩ := d3.faultCond_spec 0 true
  generalize d3.faultCond 0 true = d4 at *
  obtain ⟨hkeep5, hrest5, hfour, hcond5⟩ := moduleHealth_spec d4
  generalize moduleHealth d4 = d5 at *
  have hclk : d4.clk.refLost = true := by rw [hrest4, hrest3, hrest2]; exact hlost
  refine ⟨?_, ?_, ?_, ?_, ?_, ?_, ?_, hfour hclk, ?_⟩
  · rw [hrest5]
    exact hclk
  · rw [hrest5, hrest4, hrest3]
    exact hstop2.trans hstop
  · rw [hkeep5 _ (by decide), hkeep4 _ (by decide), hstatus]
  · rw [Dev.rdF, hkeep5 _ (by decide), hkeep4 _ (by decide), hkeep3 _ (by decide), hkeep2 _ (by decide)]
    exact hpll
  · rw [Dev.rdF, hkeep5 _ (by decide), hkeep4 _ (by decide), hkeep3 _ (by decide)]
    exact hsync
  · rw [hkeep5 _ (by decide), hkeep4 _ (by decide), hcount, hkeep2 _ (by decide), hkeep1 _ (by decide)]
  · rw [hcond5 0 (by decide), hcond, bitOf_setBit_same _ _ _ (by decide)]
  · exact ((((hkeep1.mono (by simp [lossRegs])).trans (hkeep2.mono (by simp [lossRegs]))).trans (hkeep3.mono (by simp [lossRegs]))).trans
      (hkeep4.mono (by simp [lossRegs]))).trans (hkeep5.mono (by simp [lossRegs, healthRegs]))

end Sys2Proof.Machine

/-! PROOF. A compute reset keeps the clock, and what REFCLK's return leaves (11_clocking.md R440,
15_bringup_reset_licences.md R587). -/

namespace Sys2Proof.Machine

/-! ### What a compute reset keeps -/

/-- The registers of CLK, PINS and BOOT. -/
def ClockPinsBoot (a : Nat) : Prop := (0x9000 ≤ a ∧ a < 0xA000) ∨ (0x11000 ≤ a ∧ a < 0x13000)

theorem not_clockPinsBoot {a : Nat} (h : a < 0x9000 ∨ (0xA000 ≤ a ∧ a < 0x11000) ∨ 0x13000 ≤ a) : ¬ClockPinsBoot a := by
  unfold ClockPinsBoot
  omega

/-- The registers of CLK, PINS and BOOT, the clock and the time base are as they were. -/
structure ClockKept (d e : Dev) : Prop where
  same : SameAt ClockPinsBoot d e
  clk : e.clk = d.clk
  time : e.time = d.time

section

variable {d e : Dev}

theorem ClockKept.refl (d : Dev) : ClockKept d d := ⟨.refl _ d, rfl, rfl⟩

theorem ClockKept.trans {c : Dev} (h : ClockKept d e) (g : ClockKept e c) : ClockKept d c :=
  ⟨h.same.trans g.same, g.clk.trans h.clk, g.time.trans h.time⟩

theorem ClockKept.of_regs (hr : e.regs = d.regs) (hc : e.clk = d.clk) (ht : e.time = d.time) : ClockKept d e := ⟨.of_regs hr, hc, ht⟩

theorem ClockKept.foldl {α : Type} {f : Dev → α → Dev} {l : List α} (hf : ∀ d, ∀ x ∈ l, ClockKept d (f d x)) (d : Dev) :
    ClockKept d (l.foldl f d) := foldl_kept .refl .trans hf d

theorem ClockKept.of_onlyRegs {l : List Nat} (h : OnlyRegs l d e) (hl : ∀ a ∈ l, ¬ClockPinsBoot a) : ClockKept d e :=
  ⟨.of_keep h.2 hl, by rw [h.1], by rw [h.1]⟩

theorem ClockKept.of_fabricOnly (h : FabricOnly d e) : ClockKept d e := by
  refine ⟨fun a ha => h.2 a ?_ ?_, by rw [h.1], by rw [h.1]⟩ <;> unfold ClockPinsBoot at ha
  · simp only [fieldBase]
    omega
  · simp only [CHAN_XING_DROP_COUNT]
    omega

end

theorem clockKept_wr (d : Dev) (a : Nat) (w : Word) (h : a < 0x9000 ∨ (0xA000 ≤ a ∧ a < 0x11000) ∨ 0x13000 ≤ a) : ClockKept d (d.wr a w) :=
  ⟨sameAt_wr d w (not_clockPinsBoot h), rfl, rfl⟩

theorem clockKept_wr64 (d : Dev) (a v : Nat) (h : a + 4 < 0x9000 ∨ 0x13000 ≤ a) : ClockKept d (d.wr64 a v) :=
  (clockKept_wr d a _ (by omega)).trans (clockKept_wr _ (a + 4) _ (by omega))

theorem clockKept_modPeer (d : Dev) (f : PeerSt → PeerSt) : ClockKept d (d.modPeer f) := .of_regs rfl rfl rfl

theorem clockKept_modStrm (d : Dev) (f : StreamSt → StreamSt) : ClockKept d (d.modStrm f) := .of_regs rfl rfl rfl

theorem clockKept_modFlt (d : Dev) (f : FaultSt → FaultSt) : ClockKept d (d.modFlt f) := .of_regs rfl rfl rfl

theorem clockKept_modFab (d : Dev) (f : FabricSt → FabricSt) : ClockKept d (d.modFab f) := .of_regs rfl rfl rfl

theorem clockKept_setSeq (d : Dev) (q : Nat) (x : Sequencer) : ClockKept d (d.setSeq q x) := .of_regs rfl rfl rfl

/-! ### Streams (R322) -/

theorem emitFrame_clockKept (plane typ peer seq : Nat) (fields : List Nat) (data : List Byte) (d : Dev) :
    ClockKept d (emitFrame plane typ peer seq fields data d) := by
  unfold emitFrame
  split
  · exact .refl d
  · exact .of_regs rfl rfl rfl

theorem send_clockKept (typ peer : Nat) (fields : List Nat) (d : Dev) : ClockKept d (send typ peer fields d) := by
  unfold send sendOn
  split
  · exact .refl d
  · exact (clockKept_modPeer d _).trans (emitFrame_clockKept ..)

theorem sendHold_clockKept (n beat attempt : Nat) (pair : Bool) (d : Dev) : ClockKept d (sendHold n beat attempt pair d) := by
  have hall (e : Dev) (fs : List Nat) : ClockKept e (sendAll fHold fs e) := .foldl (fun a k _ => send_clockKept fHold k fs a) e
  have hpair (g : PeerSt → PeerSt) : ClockKept d (send fHold (partnerKey d) [n, beat, attempt, b2n pair] (d.modPeer g)) :=
    (clockKept_modPeer d g).trans (send_clockKept ..)
  unfold sendHold
  dsimp only
  generalize hx : (if compared d n && twinSt d == 2 then _ else d) = x
  have hkept : ClockKept d x := by
    rw [← hx]
    split
    · exact hpair _
    · exact .refl d
  split
  · exact hkept.trans (hall x _)
  · exact hkept

theorem descAddr_not_clockPinsBoot (n : Nat) : ¬ClockPinsBoot (descAddr n 0) :=
  not_clockPinsBoot (.inr (.inr (by simp only [descAddr]; omega)))

theorem setDF_clockKept (d : Dev) (n hi lo v : Nat) : ClockKept d (d.setDF n 0 hi lo v) :=
  .of_onlyRegs (setDF_onlyRegs d n 0 hi lo v) (by simpa using descAddr_not_clockPinsBoot n)

theorem setStrm_free_clockKept (n : Nat) (d : Dev) : ClockKept d (setStrm n sFree d) := by
  obtain ⟨hrest, -, hkeep, -⟩ := setStrm_free_spec n d
  refine ⟨.of_keep hkeep fun a ha => ?_, by rw [hrest], by rw [hrest]⟩
  simp only [List.mem_cons, List.not_mem_nil, or_false] at ha
  rcases ha with rfl | rfl | rfl
  · exact descAddr_not_clockPinsBoot n
  · exact not_clockPinsBoot (by decide)
  · exact not_clockPinsBoot (by decide)

theorem setStrm_paused_clockKept (n : Nat) (d : Dev) : ClockKept d (setStrm n sPaused d) :=
  .of_onlyRegs (setStrm_paused_onlyRegs n d) (by simpa using descAddr_not_clockPinsBoot n)

theorem strmComputeReset_clockKept (d : Dev) : ClockKept d (strmComputeReset d) := by
  unfold strmComputeReset
  refine ((ClockKept.foldl (fun e n _ => ?_) d).trans (clockKept_modFlt _ _)).trans (clockKept_modStrm _ _)
  split
  · exact setStrm_free_clockKept n e
  · refine ClockKept.trans ?_ (setStrm_paused_clockKept n _)
    split
    · exact setDF_clockKept e n 20 20 1
    · exact .refl e

/-! ### Sequencers (R265) -/

theorem breakLocksOf_clockKept (agent : Nat) (d : Dev) : ClockKept d (breakLocksOf agent d) := by
  refine .foldl (fun e n hn => .of_onlyRegs (lockBreak_only n e) fun a ha => ?_) d
  have hlt := List.mem_range.1 (List.mem_of_mem_filter hn)
  rw [List.mem_singleton.1 ha]
  exact not_clockPinsBoot (.inl (by simp only [LOCK_LOCK]; omega))

/-- A register of a sequencer lies above the BOOT page. -/
theorem le_seqBase (q o : Nat) : 0x13000 ≤ seqBase q + o := by
  unfold seqBase
  omega

theorem seqBreakLocks_clockKept (q : Nat) (d : Dev) : ClockKept d (seqBreakLocks q d) :=
  (((breakLocksOf_clockKept (seqAgent q) d).trans (clockKept_setSeq _ q _)).trans (clockKept_wr _ _ _ (.inr (.inr (le_seqBase q 0x170))))).trans
    (clockKept_wr _ _ _ (.inr (.inr (le_seqBase q 0x174))))

theorem setAtom_clockKept (q : Nat) (b : Bool) (d : Dev) : ClockKept d (setAtom q b d) := clockKept_wr d _ _ (.inr (.inr (le_seqBase q 0x108)))

theorem setSt_clockKept (q st cause : Nat) (d : Dev) : ClockKept d (setSt q st cause d) := by
  have hshown (w : Word) : ClockKept d (d.wr (SEQ_SEQ_STATE q) w) := clockKept_wr d _ _ (.inr (.inr (le_seqBase q 0x108)))
  unfold setSt
  dsimp only
  split
  · exact hshown _
  · exact (hshown _).trans (.of_fabricOnly (Dev.traceEvent_fabricOnly ..))

/-- The program's registers are those of a sequencer that has not begun. -/
def progCleared (q : Nat) (d : Dev) : Dev :=
  let d := (d.wrN (SEQ_PC q) (activeBank d q * 2 ^ 16)).wr64 (SEQ_CMD_COUNT_LO q) 0
  let d := (List.range 8).foldl (fun d i => (d.wr (SEQ_LC q i) 0).wr (SEQ_CUR_CMD q i) 0) d
  d.wrF (SEQ_BANK_CTRL q) 2 2 0

theorem progCleared_clockKept (q : Nat) (d : Dev) : ClockKept d (progCleared q d) := by
  have hpc := clockKept_wr d (SEQ_PC q) (w32 (activeBank d q * 2 ^ 16)) (.inr (.inr (le_seqBase q 0x11C)))
  have hcount (e : Dev) : ClockKept e (e.wr64 (SEQ_CMD_COUNT_LO q) 0) := clockKept_wr64 e _ _ (.inr (le_seqBase q 0x120))
  have hloops (e : Dev) : ClockKept e ((List.range 8).foldl (fun d i => (d.wr (SEQ_LC q i) 0).wr (SEQ_CUR_CMD q i) 0) e) := by
    refine .foldl (fun a i _ => (clockKept_wr a _ _ (.inr (.inr ?_))).trans (clockKept_wr _ _ _ (.inr (.inr ?_)))) e
    · exact (le_seqBase q 0x150).trans (Nat.le_add_right _ _)
    · exact (le_seqBase q 0x130).trans (Nat.le_add_right _ _)
  exact ((hpc.trans (hcount _)).trans (hloops _)).trans (clockKept_wr _ _ _ (.inr (.inr (le_seqBase q 0x180))))

theorem seqReset_eq (q : Nat) (d : Dev) : ∃ x, seqReset q d = (progCleared q (setSt q stReset 0 (setAtom q false (seqBreakLocks q d)))).setSeq q x :=
  ⟨_, rfl⟩

theorem seqReset_clockKept (q : Nat) (d : Dev) : ClockKept d (seqReset q d) := by
  obtain ⟨x, hx⟩ := seqReset_eq q d
  rw [hx]
  exact ((((seqBreakLocks_clockKept q d).trans (setAtom_clockKept q false _)).trans (setSt_clockKept q stReset 0 _)).trans
    (progCleared_clockKept q _)).trans (clockKept_setSeq _ q x)

/-! ### Tiles, packets and the rest (R587) -/

/-- Tiles are reset, and with them those of their registers that a compute reset returns. -/
def tilesReset (d : Dev) : Dev :=
  { d with
    tiles := d.tiles.map fun (e : Nat × Tile) => (e.1, e.2.reset)
    regs := d.regs.filter fun (e : Nat × Word) => !tileRegReset e.1
    staged := d.staged.filter fun (e : Nat × Word) => !tileRegReset e.1 }

theorem tileRegReset_low {a : Nat} (h : a < 0x1000000) : tileRegReset a = false := by
  unfold tileRegReset
  dsimp only
  rw [decide_eq_false (by omega), Bool.false_and, Bool.false_and]

theorem tilesReset_clockKept (d : Dev) : ClockKept d (tilesReset d) := by
  refine ⟨fun a ha => ?_, rfl, rfl⟩
  have hlow : tileRegReset a = false := tileRegReset_low (by unfold ClockPinsBoot at ha; omega)
  have hget : kvGet? (tilesReset d).regs a = kvGet? d.regs a := by
    refine (kvGet?_filter d.regs (fun k => !tileRegReset k) a).trans ?_
    rw [hlow]
    rfl
  rw [Dev.rd, hget, Dev.rd]

/-- No halt is asked for, and nothing waits for one. -/
def haltsCleared (d : Dev) : Dev :=
  let d := (List.range 8).foldl (fun d i => d.wr (DBG_HALT_REQ_LO + 4 * i) 0) d
  { d with ctl := { d.ctl with deferTick := [] } }

theorem haltsCleared_clockKept (d : Dev) : ClockKept d (haltsCleared d) := by
  refine ClockKept.trans (.foldl (fun e i hi => clockKept_wr e _ _ (.inl ?_)) d) (.of_regs rfl rfl rfl)
  have := List.mem_range.1 hi
  simp only [DBG_HALT_REQ_LO]
  omega

theorem ibexEnd_clockKept (v : Nat) (d : Dev) : ClockKept d (ibexEnd v d) := by
  unfold ibexEnd
  split
  · exact .refl d
  · exact (clockKept_modFlt d _).trans (clockKept_wr _ FLT_IBEX_STATUS _ (.inl (by decide)))

theorem mempComputeReset_clockKept (d : Dev) : ClockKept d (mempComputeReset d) := .of_regs rfl rfl rfl

/-- The status and the count of compute resets. -/
def resetNoted (cause : Nat) (d : Dev) : Dev :=
  let d := ((d.wrF BOOT_RESET_STATUS 0 0 1).wrF BOOT_RESET_STATUS 7 4 cause).bump BOOT_CRESET_COUNT
  d.modBoot fun b => { b with crTick := d.time.tb, tested := false, failedSites := [] }

/-- The HOLD of every beat in flight. -/
def holdsSent (d : Dev) : Dev := (d.strm.beats.filter fun b => !b.refill).foldl (fun d b => sendHold b.stream b.beat b.attempt false d) d

theorem holdsSent_clockKept (d : Dev) : ClockKept d (holdsSent d) := .foldl (fun e _ _ => sendHold_clockKept _ _ _ false e) d

/-- Packets but those of VC_0 are gone. -/
def packetsDropped (d : Dev) : Dev := d.modFab fun x => { x with
  net := x.net.filter fun fl => fl.pkt.vc == 0
  landed := x.landed.filter fun e => e.2.vc == 0
  edge := [], insts := [], redCount := [], pxResults := [] }

/-- What follows the status: streams, sequencers, halts, tiles, packets and an Ibex slice. -/
def resetDone (d : Dev) : Dev :=
  ibexEnd 5 (mempComputeReset (packetsDropped (tilesReset (haltsCleared
    ((List.range 48).foldl (fun d q => seqReset q d) (strmComputeReset (holdsSent d)))))))

theorem computeReset_of_inReset {d : Dev} (cause : Nat) (h : inReset d = true) : computeReset cause d = d := if_pos h

theorem computeReset_of_running {d : Dev} (cause : Nat) (h : inReset d = false) : computeReset cause d = resetDone (resetNoted cause d) := by
  unfold computeReset resetDone holdsSent haltsCleared
  rw [if_neg (by rw [h]; exact Bool.false_ne_true)]
  generalize List.range 48 = seqs
  generalize List.range 8 = words
  rfl

theorem resetDone_clockKept (d : Dev) : ClockKept d (resetDone d) :=
  (((((((holdsSent_clockKept d).trans (strmComputeReset_clockKept _)).trans (.foldl (fun e q _ => seqReset_clockKept q e) _)).trans
    (haltsCleared_clockKept _)).trans (tilesReset_clockKept _)).trans (clockKept_modFab _ _)).trans (mempComputeReset_clockKept _)).trans
    (ibexEnd_clockKept 5 _)

/-! ### A compute reset (R587) -/

theorem resetNoted_spec {cause : Nat} (hc : cause < 16) (d : Dev) :
    let e := resetNoted cause d
    inReset e = true ∧ e.rdF BOOT_RESET_STATUS 7 4 = cause ∧ RegsKeep [BOOT_RESET_STATUS, BOOT_CRESET_COUNT] d e ∧ e.clk = d.clk ∧ e.time = d.time := by
  have hword : ((d.wrF BOOT_RESET_STATUS 0 0 1).wrF BOOT_RESET_STATUS 7 4 cause).rd BOOT_RESET_STATUS =
      setFld (setFld (d.rd BOOT_RESET_STATUS) 0 0 1) 7 4 cause := by
    rw [Dev.rd_wrF_same, Dev.rd_wrF_same]
  have honly : OnlyRegs [BOOT_RESET_STATUS] d ((d.wrF BOOT_RESET_STATUS 0 0 1).wrF BOOT_RESET_STATUS 7 4 cause) :=
    (onlyRegs_wr d _ _).trans (onlyRegs_wr _ _ _)
  dsimp only
  unfold resetNoted
  generalize (d.wrF BOOT_RESET_STATUS 0 0 1).wrF BOOT_RESET_STATUS 7 4 cause = d1 at *
  have hcount : OnlyRegs [BOOT_CRESET_COUNT] d1 (d1.bump BOOT_CRESET_COUNT) := onlyRegs_wr d1 _ _
  generalize d1.bump BOOT_CRESET_COUNT = d2 at *
  dsimp only
  generalize he : d2.modBoot _ = e
  have hregs : e.regs = d2.regs := by rw [← he]; rfl
  have hat : e.rd BOOT_RESET_STATUS = setFld (setFld (d.rd BOOT_RESET_STATUS) 0 0 1) 7 4 cause := by
    rw [Dev.rd_of_regs hregs, hcount.2 _ (by decide), hword]
  refine ⟨?_, ?_, fun a ha => ?_, ?_, ?_⟩
  · rw [inReset, hat, bitOf_setFld_other _ _ (.inl (by decide)), bitOf_setFld_inside _ _ (by decide) (by decide) (by decide)]
    rfl
  · rw [Dev.rdF, hat, fld_setFld_same _ _ (by decide)]
    exact Nat.mod_eq_of_lt hc
  · simp only [List.mem_cons, List.not_mem_nil, or_false, not_or] at ha
    rw [Dev.rd_of_regs hregs, hcount.2 a (by simp [ha.2]), honly.2 a (by simp [ha.1])]
  · rw [← he]
    show d2.clk = d.clk
    rw [hcount.1, honly.1]
  · rw [← he]
    show d2.time = d.time
    rw [hcount.1, honly.1]

/-- A compute reset: the part is in reset, with the cause where it was not before; CLK, PINS, the clock and the time base stay. -/
theorem computeReset_spec {cause : Nat} (hc : cause < 16) (d : Dev) :
    let e := computeReset cause d
    inReset e = true ∧ (inReset d = false → e.rdF BOOT_RESET_STATUS 7 4 = cause) ∧
      SameAt (fun a => ClockPinsBoot a ∧ a < 0x12000) d e ∧ e.clk = d.clk ∧ e.time = d.time := by
  dsimp only
  cases h : inReset d with
  | true =>
    rw [computeReset_of_inReset cause h]
    exact ⟨h, fun hf => absurd hf (by decide), .refl _ d, rfl, rfl⟩
  | false =>
    obtain ⟨hin, hcause, hkeep, hclk, htime⟩ := resetNoted_spec hc d
    rw [computeReset_of_running cause h]
    generalize resetNoted cause d = d1 at *
    have hdone := resetDone_clockKept d1
    generalize resetDone d1 = d2 at *
    have hstatus : d2.rd BOOT_RESET_STATUS = d1.rd BOOT_RESET_STATUS := hdone.same _ (.inr (by decide))
    refine ⟨?_, fun _ => ?_, fun a ha => ?_, hdone.clk.trans hclk, hdone.time.trans htime⟩
    · rw [inReset, hstatus]
      exact hin
    · rw [Dev.rdF, hstatus]
      exact hcause
    · rw [hdone.same a ha.1, hkeep a]
      simp only [List.mem_cons, List.not_mem_nil, or_false, BOOT_RESET_STATUS, BOOT_CRESET_COUNT]
      omega

end Sys2Proof.Machine

/-! PROOF. REFCLK returns (11_clocking.md R440). -/

namespace Sys2Proof.Machine

/-! ### The cadence begins again (R407, R424) -/

theorem cadSet_clockKept (st : Nat) (d : Dev) : ClockKept d (cadSet st d) :=
  ⟨.of_keep (cadSet_regsKeep st d) (by simpa using not_clockPinsBoot (a := CAD_STATE) (by decide)), by rw [cadSet_only], by rw [cadSet_only]⟩

theorem boundaryAt_clockKept (tick : Nat) (fromEdge : Bool) (frame : Option Nat) (d : Dev) : ClockKept d (boundaryAt tick fromEdge frame d) :=
  .of_regs rfl rfl rfl

/-- The last edge is forgotten. -/
def edgesForgotten (d : Dev) : Dev := { d with cad := { d.cad with lastEdge := none, boundFromEdge := false } }

/-- The current frame's period is forgotten, and a boundary on its way. -/
def frameForgotten (d : Dev) : Dev := { d with cad := { d.cad with framePeriod := 0, cause := none, issued := aheadIssued d } }

/-- The internal source locks at once. -/
def internalLocked (d : Dev) : Dev := cadSet 3 (d.wrN CAD_PERIOD d.nomTicks)

theorem cadenceEnter_eq (src : Nat) (d : Dev) : cadenceEnter src d =
    if src = 2 then
      if (internalLocked (edgesForgotten d)).cad.cause.isSome then internalLocked (edgesForgotten d)
      else boundaryAt (internalLocked (edgesForgotten d)).time.tb false none (internalLocked (edgesForgotten d))
    else if src = 1 then cadSet 1 (frameForgotten (edgesForgotten d)) else cadSet 0 (frameForgotten (edgesForgotten d)) := rfl

theorem cadenceEnter_clockKept (src : Nat) (d : Dev) : ClockKept d (cadenceEnter src d) := by
  have hedges : ClockKept d (edgesForgotten d) := .of_regs rfl rfl rfl
  have hframe (e : Dev) : ClockKept e (frameForgotten e) := .of_regs rfl rfl rfl
  have hinternal (e : Dev) : ClockKept e (internalLocked e) :=
    (clockKept_wr e CAD_PERIOD _ (.inl (by decide))).trans (cadSet_clockKept 3 _)
  rw [cadenceEnter_eq]
  split
  · split
    · exact hedges.trans (hinternal _)
    · exact (hedges.trans (hinternal _)).trans (boundaryAt_clockKept ..)
  · split
    · exact (hedges.trans (hframe _)).trans (cadSet_clockKept 1 _)
    · exact (hedges.trans (hframe _)).trans (cadSet_clockKept 0 _)

/-! ### The powered fields lock again -/

/-- A powered field's PLL locks, and its copy of TB is in step. -/
def fieldLocked (d : Dev) (f : Nat) : Dev :=
  if d.domOn (144 + f) then (pllLocked f d).wr TIME_DIST_STATUS (setBit (d.rd TIME_DIST_STATUS) f true) else d

theorem fieldLocked_of_on {f : Nat} {d : Dev} (h : d.domOn (144 + f) = true) :
    fieldLocked d f = (pllLocked f d).wr TIME_DIST_STATUS (setBit (d.rd TIME_DIST_STATUS) f true) := if_pos h

theorem fieldLocked_of_off {f : Nat} {d : Dev} (h : d.domOn (144 + f) = false) : fieldLocked d f = d :=
  if_neg (by rw [h]; exact Bool.false_ne_true)

theorem fieldLocked_onlyRegs (f : Nat) (d : Dev) : OnlyRegs [CLK_FIELD_PLL, TIME_DIST_STATUS] d (fieldLocked d f) := by
  unfold fieldLocked
  split
  · exact ((pllLocked_onlyRegs f d).mono (by simp)).trans ((onlyRegs_wr _ _ _).mono (by simp))
  · exact ⟨.refl d, .refl _ d⟩

theorem fieldLocked_pll {f : Nat} {d : Dev} (h : d.domOn (144 + f) = true) : (fieldLocked d f).rd CLK_FIELD_PLL = (pllLocked f d).rd CLK_FIELD_PLL := by
  rw [fieldLocked_of_on h]
  exact Dev.rd_wr_other _ _ (by decide)

/-- A powered field is locked, and its mesh runs, but during a die-wide stop. -/
def RunsAgain (f : Nat) (d : Dev) : Prop :=
  d.domOn (144 + f) = true → bitOf (d.rd CLK_FIELD_PLL) f = true ∧ d.meshRuns f = decide (d.chgState ≠ 2)

/-- Registers of PLLs and of TB's copies apart, the same domains are powered, and a change is as far. -/
theorem OnlyRegs.domOn_chgState {d e : Dev} (h : OnlyRegs [CLK_FIELD_PLL, TIME_DIST_STATUS] d e) :
    (∀ i, e.domOn i = d.domOn i) ∧ e.chgState = d.chgState :=
  ⟨fun i => congrArg (bitOf · (i % 32)) (h.2 _ (by simp only [List.mem_cons, List.not_mem_nil, or_false, PWR_DOM_ON, CLK_FIELD_PLL, TIME_DIST_STATUS]; omega)),
    congrArg (fld · 1 0) (h.2 _ (by decide))⟩

theorem fieldLocked_same {f : Nat} (hf : f < 12) {d : Dev} (hr : d.clk.refLost = false) : RunsAgain f (fieldLocked d f) := by
  obtain ⟨hdom, hstate⟩ := (fieldLocked_onlyRegs f d).domOn_chgState
  intro hon
  rw [hdom] at hon
  rw [Dev.meshRuns, fieldLocked_pll hon, hstate]
  exact ⟨pllLocked_bit hf d, pllLocked_meshRuns hf hon hr⟩

theorem fieldLocked_other {f g : Nat} (hf : f < 12) (hg : g < 12) (hne : g ≠ f) {d : Dev} (h : RunsAgain g d) : RunsAgain g (fieldLocked d f) := by
  obtain ⟨hdom, hstate⟩ := (fieldLocked_onlyRegs f d).domOn_chgState
  cases hon : d.domOn (144 + f) with
  | false =>
    rw [fieldLocked_of_off hon]
    exact h
  | true =>
    intro hong
    rw [hdom] at hong
    rw [Dev.meshRuns, fieldLocked_pll hon, hstate, pllLocked_other hf d hne (by omega), pllLocked_other hf d (by omega) (by omega)]
    exact h hong

/-- Each powered field of a list runs again once the list is through. -/
theorem foldl_fieldLocked_runsAgain (l : List Nat) (hl : ∀ f ∈ l, f < 12) {d : Dev} (hr : d.clk.refLost = false) {g : Nat} (hg : g < 12)
    (h : g ∈ l ∨ RunsAgain g d) : RunsAgain g (l.foldl fieldLocked d) := by
  induction l generalizing d with
  | nil => exact h.resolve_left List.not_mem_nil
  | cons f t ih =>
    have hf := hl f List.mem_cons_self
    have hr' : (fieldLocked d f).clk.refLost = false := by
      rw [(fieldLocked_onlyRegs f d).1]
      exact hr
    refine ih (fun x hx => hl x (List.mem_cons_of_mem _ hx)) hr' ?_
    by_cases hgf : g = f
    · subst hgf
      exact .inr (fieldLocked_same hf hr)
    · rcases h with h | h
      · exact .inl ((List.mem_cons.1 h).resolve_left hgf)
      · exact .inr (fieldLocked_other hf hg hgf h)

/-- Every powered field locks. -/
def fieldsLocked (d : Dev) : Dev := (List.range 12).foldl fieldLocked d

theorem fieldsLocked_onlyRegs (d : Dev) : OnlyRegs [CLK_FIELD_PLL, TIME_DIST_STATUS] d (fieldsLocked d) :=
  OnlyRegs.foldl (fun e f _ => fieldLocked_onlyRegs f e) d

theorem fieldsLocked_runsAgain {d : Dev} (hr : d.clk.refLost = false) {f : Nat} (hf : f < 12) : RunsAgain f (fieldsLocked d) :=
  foldl_fieldLocked_runsAgain _ (fun _ hx => List.mem_range.1 hx) hr hf (.inl (List.mem_range.2 hf))

/-! ### REFCLK_RETURN -/

/-- REFCLK is there again, and time goes on. -/
def refBack (d : Dev) : Dev :=
  { d with clk := { d.clk with refLost := false, fieldDiv := [] }, time := { d.time with stopped := false } }.wrF CLK_REF_STATUS 0 0 1

theorem refBack_spec (d : Dev) : bitOf ((refBack d).rd CLK_REF_STATUS) 0 = true ∧ RegsKeep [CLK_REF_STATUS] d (refBack d) := by
  refine ⟨?_, fun _ ha => Dev.rd_wrF_other _ _ _ _ (by simpa using ha)⟩
  rw [refBack, Dev.rd_wrF_same, bitOf_setFld_inside _ _ (by decide) (by decide) (by decide)]
  rfl

/-- The cadence enters the state of its source. -/
def cadenceBegun (d : Dev) : Dev := cadenceEnter (d.rdF CAD_CTRL 1 0) d

theorem refclkReturn_of_kept {d : Dev} (h : d.clk.refLost = false) : refclkReturn d = d := if_neg (by rw [h]; exact Bool.false_ne_true)

theorem refclkReturn_of_back {d : Dev} (h : d.clk.refLost = true) :
    refclkReturn d = moduleHealth (cadenceBegun (computeReset 4 ((fieldsLocked (refBack d)).faultCond 0 false))) := if_pos h

theorem refclkReturn_spec {d : Dev} (h : d.clk.refLost = true) :
    let e := refclkReturn d
    e.clk.refLost = false ∧ e.time.stopped = false ∧ bitOf (e.rd CLK_REF_STATUS) 0 = true ∧ bitOf (e.rd PINS_FAULT_COND) 0 = false ∧
      inReset e = true ∧ (inReset d = false → e.rdF BOOT_RESET_STATUS 7 4 = 4) ∧
      ∀ f, f < 12 → d.domOn (144 + f) = true → bitOf (e.rd CLK_FIELD_PLL) f = true ∧ e.meshRuns f = decide (d.chgState ≠ 2) := by
  dsimp only
  rw [refclkReturn_of_back h]
  obtain ⟨hstatus, hkeep1⟩ := refBack_spec d
  have hback : (refBack d).clk.refLost = false := rfl
  have hgoes : (refBack d).time.stopped = false := rfl
  generalize refBack d = d1 at *
  have hagain := fun f (hf : f < 12) => fieldsLocked_runsAgain hback hf
  have hlocked := fieldsLocked_onlyRegs d1
  obtain ⟨hdom2, hstate2⟩ := hlocked.domOn_chgState
  generalize fieldsLocked d1 = d2 at *
  obtain ⟨hcond, hkeep3, hrest3⟩ := d2.faultCond_spec 0 false
  generalize d2.faultCond 0 false = d3 at *
  obtain ⟨hin, hcause, hsame4, hclk4, htime4⟩ := computeReset_spec (show 4 < 16 by decide) d3
  generalize computeReset 4 d3 = d4 at *
  have hcad : ClockKept d4 (cadenceBegun d4) := cadenceEnter_clockKept _ d4
  generalize cadenceBegun d4 = d5 at *
  obtain ⟨hkeep6, hrest6, -, hcond6⟩ := moduleHealth_spec d5
  generalize moduleHealth d5 = d6 at *
  have hclk (a : Nat) (ha : 0x9000 ≤ a ∧ a < 0xA000) : d6.rd a = d2.rd a := by
    have hnot {l : List Nat} (hl : ∀ x ∈ l, x < 0x9000 ∨ 0xA000 ≤ x) : a ∉ l := fun hm => absurd (hl a hm) (by omega)
    rw [hkeep6 a (hnot (by decide)), hcad.same a (.inl ha), hsame4 a ⟨.inl ha, by omega⟩, hkeep3 a (hnot (by decide))]
  have hboot : d6.rd BOOT_RESET_STATUS = d4.rd BOOT_RESET_STATUS := (hkeep6 _ (by decide)).trans (hcad.same _ (.inr (by decide)))
  have hbefore : d3.rd BOOT_RESET_STATUS = d.rd BOOT_RESET_STATUS :=
    (hkeep3 _ (by decide)).trans ((hlocked.2 _ (by decide)).trans (hkeep1 _ (by decide)))
  refine ⟨?_, ?_, ?_, ?_, ?_, fun hrun => ?_, fun f hf hon => ?_⟩
  · rw [hrest6, hcad.clk, hclk4, hrest3, hlocked.1]
    exact hback
  · rw [hrest6, hcad.time, htime4, hrest3, hlocked.1]
    exact hgoes
  · rw [hclk _ (by decide), hlocked.2 _ (by decide)]
    exact hstatus
  · rw [hcond6 0 (by decide), hcad.same _ (.inr (by decide)), hsame4 _ ⟨.inr (by decide), by decide⟩, hcond, bitOf_setBit_same _ _ _ (by decide)]
  · rw [inReset, hboot]
    exact hin
  · rw [Dev.rdF, hboot]
    exact hcause (by rw [inReset, hbefore]; exact hrun)
  · have hdom1 : d1.domOn (144 + f) = d.domOn (144 + f) :=
      congrArg (bitOf · ((144 + f) % 32)) (hkeep1 _ (by simp only [List.mem_singleton, CLK_REF_STATUS, PWR_DOM_ON]; omega))
    have hstate1 : d1.chgState = d.chgState := congrArg (fld · 1 0) (hkeep1 _ (by decide))
    obtain ⟨hbit, hruns⟩ := hagain f hf (by rw [hdom2, hdom1]; exact hon)
    rw [Dev.meshRuns, hclk _ (by decide)]
    rw [hstate2, hstate1] at hruns
    exact ⟨hbit, hruns⟩

end Sys2Proof.Machine

/-! PROOF. The statement about frequency changes, single-field points, PLLs and REFCLK (11_clocking.md R434 to R443). -/

namespace Sys2Proof.Machine

theorem chgReqWrite_of_valid {agent : Nat} {data : Word} {d : Dev} (hm : d.mayWrite agent .clk = true) (hf : d.isFenced .clk = false)
    (hu : d.up = true) (hr : fld data 31 3 = 0) (hfree : ChgFree d) (hv : oppValid (d.rd (CLK_OPP (fld data 2 0))) = true) :
    chgReqWrite agent data d = chgArm (d.oppAllowed (fld data 2 0)) false none d := by
  rw [chgReqWrite_eq hm hf hu hr, Dev.checked, firstFail_chgChecks_of_valid hfree hv]

theorem chgReqWrite_of_invalid {agent : Nat} {data : Word} {d : Dev} (hm : d.mayWrite agent .clk = true) (hf : d.isFenced .clk = false)
    (hu : d.up = true) (hr : fld data 31 3 = 0) (hfree : ChgFree d) (hv : oppValid (d.rd (CLK_OPP (fld data 2 0))) = false) :
    chgReqWrite agent data d = d.reject .clk 0x124 agent .range := by
  rw [chgReqWrite_eq hm hf hu hr, Dev.checked, firstFail_chgChecks_of_invalid hfree hv]

theorem chgReqWrite_of_busy {agent : Nat} {data : Word} {d : Dev} (hm : d.mayWrite agent .clk = true) (hf : d.isFenced .clk = false)
    (hu : d.up = true) (hr : fld data 31 3 = 0) (h : ¬ChgFree d) : chgReqWrite agent data d = d.reject .clk 0x124 agent .busy := by
  rw [chgReqWrite_eq hm hf hu hr, Dev.checked, firstFail_chgChecks_of_busy h]

/-- Settles O54: a change step by step, then rails, single-field points, PLLs and REFCLK. The rails set as a change is armed, cancelled
or restarted are log entry 28, the divider of Q_FIELD checked whatever EN is log entry 27, the point of a throttling cause log entry 115. -/
theorem clockChanges : Obligations.ClockChanges := by
  refine ⟨fun s agent data hm hfence hu hr => ⟨fun hfree hv ho => ?_, fun hfree hv ho => ?_, fun hbusy => ?_, fun hfree hv => ?_⟩,
    fun s stuck => ⟨fun h => ?_, fun h => ?_, fun h => ?_, fun h => ?_, fun h => ?_, fun h ht => ?_, fun h => ?_, fun h hfull => ?_,
      fun h ht => ?_, fun h ht => ?_, fun h => ?_, fun h => ?_⟩,
    fun s r mv hr => ?_,
    fun s agent data ha hu hres hf hlow hhigh hfast hslow => ⟨fun hen hq => ?_, fun hen hq => ?_, fun hen => ?_⟩,
    fun s f hf => ⟨fun h => ?_, fun h hb => ?_, fun ok h => ?_, fun hl hp hlost => ?_, fun hl hp hlost hfail _ => ?_⟩,
    fun s => ⟨fun h => ?_, fun hlost hh hb => ?_, fun h => ?_, fun h => ?_⟩⟩
  · refine Gives.onDev (f := chgReqWrite agent data) rfl ?_
    rw [chgReqWrite_of_valid hm hfence hu hr hfree hv]
    exact chgArm_of_same ho false none
  · refine Gives.onDev (f := chgReqWrite agent data) rfl ?_
    rw [chgReqWrite_of_valid hm hfence hu hr hfree hv]
    exact chgArm_spec ho
  · exact Gives.onDev (f := chgReqWrite agent data) rfl (chgReqWrite_of_busy hm hfence hu hr hbusy)
  · exact Gives.onDev (f := chgReqWrite agent data) rfl (chgReqWrite_of_invalid hm hfence hu hr hfree hv)
  · exact Gives.onDev (f := chgVoltCheck) rfl (chgVoltCheck_of_kept h)
  · exact Gives.onDev (f := chgVoltCheck) rfl (chgVoltCheck_spec h)
  · exact Gives.onDev (f := chgDistribute) rfl (chgDistribute_of_kept h)
  · exact Gives.onDev (f := chgDistribute) rfl (chgDistribute_of_send h)
  · exact Gives.onDev (f := seamHold) rfl (seamHold_of_kept h)
  · refine Gives.onDev (f := seamHold) rfl ?_
    rw [seamHold_of_due h ht]
    exact seamHoldAll_true_spec s.dev
  · exact Gives.onDev (f := clockStop stuck) rfl (clockStop_of_kept h)
  · exact Gives.onDev (f := clockStop stuck) rfl (clockStop_empty_spec h hfull)
  · refine Gives.onDev (f := clockStop stuck) rfl ?_
    rw [clockStop_of_early h ht]
    exact ⟨meshesGated_state .., meshesGated_onlyRegs .., fun f hf => meshesGated_meshRuns _ s.dev hf⟩
  · exact Gives.onDev (f := clockStop stuck) rfl (clockStop_last_spec h ht)
  · exact Gives.onDev (f := clockRestart) rfl (clockRestart_of_kept h)
  · exact Gives.onDev (f := clockRestart) rfl (clockRestart_spec h)
  · exact Gives.guarded (f := railConfirm r mv) rfl (decide_eq_true hr) (railConfirm_spec r mv s.dev)
  · exact Gives.onDev (f := qFieldWrite agent data) rfl (qFieldWrite_on_spec ha hu ⟨hres, hf, hlow, hhigh, hfast, hslow⟩ hen hq)
  · exact Gives.onDev (f := qFieldWrite agent data) rfl (qFieldWrite_of_state ha hu ⟨hres, hf, hlow, hhigh, hfast, hslow⟩ hen hq)
  · exact Gives.onDev (f := qFieldWrite agent data) rfl (qFieldWrite_off_spec ha hu ⟨hres, hf, hlow, hhigh, hfast, hslow⟩ hen)
  · exact Gives.guarded (f := pllUnlock f) rfl (decide_eq_true hf) (pllUnlock_of_unlocked h)
  · exact Gives.guarded (f := pllUnlock f) rfl (decide_eq_true hf) (pllUnlock_spec hf h hb)
  · exact Gives.guarded (f := pllRelockDone f ok) rfl (decide_eq_true hf) (pllRelockDone_of_kept ok h)
  · exact Gives.guarded (f := pllRelockDone f true) rfl (decide_eq_true hf) (pllRelockDone_spec hf hl hp hlost)
  · refine Gives.guarded (f := pllRelockDone f false) rfl (decide_eq_true hf) ?_
    rw [pllRelockDone_of_fails hl hp hlost]
    exact fieldFailure_spec hf 4 hfail
  · exact Gives.onDev (f := refclkLoss) rfl (refclkLoss_of_kept h)
  · exact Gives.onDev (f := refclkLoss) rfl (refclkLoss_spec hlost hh hb)
  · exact Gives.onDev (f := refclkReturn) rfl (refclkReturn_of_kept h)
  · exact Gives.onDev (f := refclkReturn) rfl (refclkReturn_spec h)

end Sys2Proof.Machine

/-! PROOF. What the failure of a field or of a port and a compute reset leave of power and heat (12_power_thermal.md R450, R461,
R472, R475, 13_faults_recovery.md R512, 15_bringup_reset_licences.md R587). -/

namespace Sys2Proof.Machine

/-! ### Registers of power and heat -/

/-- The registers of PWR but the switches of the domains, those of THERM and PMB, and the sources of ALERT_N and FAULT_N. -/
def PowerSide (a : Nat) : Prop :=
  (0xA000 ≤ a ∧ a < 0xA1C0) ∨ (0xB000 ≤ a ∧ a < 0xC000) ∨ (0x11124 ≤ a ∧ a < 0x1112C) ∨ (0x16000 ≤ a ∧ a < 0x17000)

theorem not_powerSide {a : Nat}
    (h : a < 0xA000 ∨ (0xA1C0 ≤ a ∧ a < 0xB000) ∨ (0xC000 ≤ a ∧ a < 0x11124) ∨ (0x1112C ≤ a ∧ a < 0x16000) ∨ 0x17000 ≤ a) : ¬PowerSide a := by
  unfold PowerSide
  omega

/-- The registers of power and heat and the power control are as they were, and what waits to be recorded still does. -/
structure PowerKept (d e : Dev) : Prop where
  same : SameAt PowerSide d e
  pwr : e.pwr = d.pwr
  records : d.flt.pendingRecords.length ≤ e.flt.pendingRecords.length

section

variable {d e : Dev}

theorem PowerKept.refl (d : Dev) : PowerKept d d := ⟨.refl _ d, rfl, le_rfl⟩

theorem PowerKept.trans {c : Dev} (h : PowerKept d e) (g : PowerKept e c) : PowerKept d c :=
  ⟨h.same.trans g.same, g.pwr.trans h.pwr, h.records.trans g.records⟩

theorem PowerKept.foldl {α : Type} {f : Dev → α → Dev} {l : List α} (hf : ∀ d, ∀ x ∈ l, PowerKept d (f d x)) (d : Dev) :
    PowerKept d (l.foldl f d) := foldl_kept .refl .trans hf d

theorem PowerKept.of_regs (hr : e.regs = d.regs) (hp : e.pwr = d.pwr) (hf : e.flt.pendingRecords = d.flt.pendingRecords) : PowerKept d e :=
  ⟨.of_regs hr, hp, by rw [hf]⟩

theorem PowerKept.of_onlyRegs {l : List Nat} (h : OnlyRegs l d e) (hl : ∀ a ∈ l, ¬PowerSide a) : PowerKept d e :=
  ⟨.of_keep h.2 hl, by rw [h.1], by rw [h.1]⟩

theorem PowerKept.of_fabricOnly (h : FabricOnly d e) (hf : d.flt.pendingRecords.length ≤ e.flt.pendingRecords.length) : PowerKept d e := by
  refine ⟨fun a ha => h.2 a ?_ ?_, by rw [h.1], hf⟩ <;> unfold PowerSide at ha
  · simp only [fieldBase]
    omega
  · simp only [CHAN_XING_DROP_COUNT]
    omega

end

theorem powerKept_wr (d : Dev) {a : Nat} (w : Word)
    (h : a < 0xA000 ∨ (0xA1C0 ≤ a ∧ a < 0xB000) ∨ (0xC000 ≤ a ∧ a < 0x11124) ∨ (0x1112C ≤ a ∧ a < 0x16000) ∨ 0x17000 ≤ a) : PowerKept d (d.wr a w) :=
  ⟨sameAt_wr d w (not_powerSide h), rfl, le_rfl⟩

theorem powerKept_wr_low (d : Dev) {a : Nat} (w : Word) (h : a < 0xA000) : PowerKept d (d.wr a w) := powerKept_wr d w (.inl h)

theorem powerKept_wr_high (d : Dev) {a : Nat} (w : Word) (h : 0x17000 ≤ a) : PowerKept d (d.wr a w) := powerKept_wr d w (by omega)

theorem powerKept_record (d : Dev) (cls kind unit synd : Nat) (cmd : Option CmdRef) : PowerKept d (d.record cls kind unit synd cmd) :=
  ⟨.of_regs rfl, rfl, by rw [Dev.record_length]; omega⟩

theorem powerKept_setSeq (d : Dev) (q : Nat) (x : Sequencer) : PowerKept d (d.setSeq q x) := .of_regs rfl rfl rfl

theorem powerKept_modSeq (d : Dev) (q : Nat) (f : Sequencer → Sequencer) : PowerKept d (d.modSeq q f) := .of_regs rfl rfl rfl

theorem powerKept_modFab (d : Dev) (f : FabricSt → FabricSt) : PowerKept d (d.modFab f) := .of_regs rfl rfl rfl

theorem powerKept_modStrm (d : Dev) (f : StreamSt → StreamSt) : PowerKept d (d.modStrm f) := .of_regs rfl rfl rfl

theorem powerKept_modPeer (d : Dev) (f : PeerSt → PeerSt) : PowerKept d (d.modPeer f) := .of_regs rfl rfl rfl

/-- A register of a sequencer lies above the pages of the die. -/
theorem le_seqBase_high (q o : Nat) : 0x17000 ≤ seqBase q + o := by
  unfold seqBase
  omega

/-! ### Sequencers and locks -/

theorem setSt_powerKept (q st cause : Nat) (d : Dev) : PowerKept d (setSt q st cause d) := by
  have hshown (w : Word) : PowerKept d (d.wr (SEQ_SEQ_STATE q) w) := powerKept_wr_high d _ (le_seqBase_high q 0x108)
  unfold setSt
  dsimp only
  split
  · exact hshown _
  · exact (hshown _).trans (.of_fabricOnly (Dev.traceEvent_fabricOnly ..) (by rw [Dev.traceEvent_flt]))

theorem seqAbort_powerKept (q cause entry : Nat) (c : Cmd) (byManager : Bool) (d : Dev) : PowerKept d (seqAbort q cause entry c byManager d) := by
  unfold seqAbort
  dsimp only
  refine PowerKept.trans ?_ (powerKept_modSeq _ q _)
  split
  · exact .refl d
  · exact setSt_powerKept q stAborting 0 d

theorem seqStop_powerKept (q : Nat) (c : Cmd) (d : Dev) : PowerKept d (seqStop q c d) := by
  unfold seqStop
  dsimp only
  generalize hx : Dev.modFab _ _ = x
  have hdropped : PowerKept d x := by
    rw [← hx]
    exact (powerKept_modSeq d q _).trans (powerKept_modFab _ _)
  split
  · split
    · exact hdropped
    · exact hdropped.trans (seqAbort_powerKept ..)
  · exact hdropped.trans (.of_regs rfl rfl rfl)

theorem failBeat_powerKept (p : Beat → Bool) (d : Dev) : PowerKept d (failBeat p d) :=
  (powerKept_modStrm d _).trans (.foldl (fun e b _ => .foldl (fun x q _ => seqStop_powerKept q b.cmd x) e) _)

theorem breakLocksOf_powerKept (agent : Nat) (d : Dev) : PowerKept d (breakLocksOf agent d) := by
  refine .foldl (fun e n hn => .of_onlyRegs (lockBreak_only n e) fun a ha => ?_) d
  have hlt := List.mem_range.1 (List.mem_of_mem_filter hn)
  rw [List.mem_singleton.1 ha]
  exact not_powerSide (.inl (by simp only [LOCK_LOCK]; omega))

theorem seqBreakLocks_powerKept (q : Nat) (d : Dev) : PowerKept d (seqBreakLocks q d) :=
  (((breakLocksOf_powerKept (seqAgent q) d).trans (powerKept_modSeq _ q _)).trans (powerKept_wr_high _ _ (le_seqBase_high q 0x170))).trans
    (powerKept_wr_high _ _ (le_seqBase_high q 0x174))

/-! ### Streams, trials and the module's health -/

theorem descAddr_not_powerSide (n : Nat) : ¬PowerSide (descAddr n 0) := not_powerSide (by simp only [descAddr]; omega)

theorem setStrm_paused_powerKept (n : Nat) (d : Dev) : PowerKept d (setStrm n sPaused d) :=
  .of_onlyRegs (setStrm_paused_onlyRegs n d) (by simpa using descAddr_not_powerSide n)

theorem pauseOf_powerKept (seqs : List Nat) (d : Dev) : PowerKept d (pauseOf seqs d) := by
  refine .foldl (fun e n _ => ?_) d
  unfold pewterPause
  split
  · exact setStrm_paused_powerKept n e
  · exact .of_onlyRegs (strmPause_onlyRegs n e) (by simpa using descAddr_not_powerSide n)

theorem ibexEnd_powerKept (v : Nat) (d : Dev) : PowerKept d (ibexEnd v d) := by
  unfold ibexEnd
  split
  · exact .refl d
  · exact PowerKept.trans (e := d.modFlt _) (.of_regs rfl rfl rfl) (powerKept_wr_low _ (a := FLT_IBEX_STATUS) _ (by decide))

theorem holdEnd_powerKept (start : Nat) (d : Dev) : PowerKept d (holdEnd start d) := by
  unfold holdEnd
  split
  · exact (powerKept_wr_low d (a := FLOOR_RECOV_US) _ (by decide)).trans (powerKept_wr_low _ (a := FLOOR_STATE) _ (by decide))
  · exact .refl d

theorem trialsDropped_powerKept (f : Nat) (d : Dev) : PowerKept d (trialsDropped f d) := by
  have hqueue : PowerKept d (queueDropped f d) := .of_regs rfl rfl rfl
  have hshown (e : Dev) : PowerKept e (showQueue e) := powerKept_wr_low e _ (by decide)
  exact (hqueue.trans (hshown _)).trans (powerKept_modStrm _ _)

theorem trialsEndField_powerKept (f : Nat) (d : Dev) : PowerKept d (trialsEndField f d) := by
  have hdrop := trialsDropped_powerKept f d
  have hclear (e : Dev) : PowerKept e (trialClear e) :=
    PowerKept.trans (e := e.modFlt _) (.of_regs rfl rfl rfl) (powerKept_wr_low _ (a := FLOOR_STATE) _ (by decide))
  rw [trialsEndField_eq]
  split
  · split
    · exact (hdrop.trans (holdEnd_powerKept _ _)).trans (hclear _)
    · exact hdrop
  · exact hdrop

theorem moduleHealth_powerKept (d : Dev) : PowerKept d (moduleHealth d) := by
  obtain ⟨hkeep, hrest, -, -⟩ := moduleHealth_spec d
  refine ⟨.of_keep hkeep fun a ha => not_powerSide ?_, by rw [hrest], by rw [hrest]⟩
  revert a
  decide

/-! ### The failure of a field (R512) -/

theorem fieldSevered_powerKept (f : Nat) (d : Dev) : PowerKept d (fieldSevered f d) := by
  have hseams (e : Dev) : PowerKept e (seamsUnlockField f e) :=
    .of_fabricOnly (seamsUnlockField_lowers f e).fabric (seamsUnlockField_lowers f e).records
  have hlocks (qs : List Nat) (e : Dev) : PowerKept e (qs.foldl (fun d q => seqBreakLocks q d) e) :=
    .foldl (fun x q _ => seqBreakLocks_powerKept q x) e
  have hfences (ps : List Page) (e : Dev) : PowerKept e (ps.foldl (fun d p => d.setFence p true) e) :=
    .foldl (fun x p _ => (.of_regs rfl rfl rfl : PowerKept x (x.setFence p true))) e
  unfold fieldSevered
  exact (((failBeat_powerKept _ d).trans (hseams _)).trans (hlocks _ _)).trans (hfences _ _)

theorem setDom_powerKept {i : Nat} (hi : i < 168) (on : Bool) (d : Dev) : PowerKept d (d.setDom i on) :=
  powerKept_wr d _ (by simp only [PWR_DOM_ON]; omega)

theorem domainsOff_powerKept {f : Nat} (hf : f < 12) (d : Dev) : PowerKept d (domainsOff f d) := by
  refine (setDom_powerKept (by omega) false d).trans (.foldl (fun e k hk => setDom_powerKept ?_ false e) _)
  have := List.mem_range.1 hk
  omega

theorem coresLost_powerKept (f : Nat) (d : Dev) : PowerKept d (coresLost f d) :=
  PowerKept.trans (powerKept_wr_low d _ (by decide)) (.of_regs rfl rfl rfl)

theorem failureShown_powerKept (f cause : Nat) (d : Dev) : PowerKept d (failureShown f cause d) :=
  powerKept_wr_high d _ (by simp only [FIELD_HEALTH, fieldBase]; omega)

theorem fieldIbexEnd_powerKept (f : Nat) (d : Dev) : PowerKept d (fieldIbexEnd f d) := by
  unfold fieldIbexEnd
  split
  · split
    · exact ibexEnd_powerKept 5 d
    · exact .refl d
  · exact .refl d

theorem fieldFailure_of_failed {f : Nat} (cause : Nat) {d : Dev} (h : d.flt.fieldFailed.contains f = true) : fieldFailure f cause d = d := if_pos h

theorem fieldFailure_powerKept {f : Nat} (hf : f < 12) (cause : Nat) (d : Dev) : PowerKept d (fieldFailure f cause d) := by
  cases h : d.flt.fieldFailed.contains f with
  | true =>
    rw [fieldFailure_of_failed cause h]
    exact .refl d
  | false =>
    rw [fieldFailure_eq cause h]
    have hnoted (e : Dev) : PowerKept e (failureNoted f e) := .of_regs rfl rfl rfl
    exact ((((((((fieldSevered_powerKept f d).trans (domainsOff_powerKept hf _)).trans (coresLost_powerKept f _)).trans
      (failureShown_powerKept f cause _)).trans (hnoted _)).trans (fieldIbexEnd_powerKept f _)).trans (trialsEndField_powerKept f _)).trans
      (pauseOf_powerKept _ _)).trans (moduleHealth_powerKept _)

/-- A field that fails is one of those that have failed, whether it was before or not. -/
theorem mem_fieldFailed_fieldFailure {f : Nat} (hf : f < 12) (cause : Nat) (d : Dev) : f ∈ (fieldFailure f cause d).flt.fieldFailed := by
  cases h : d.flt.fieldFailed.contains f with
  | true =>
    rw [fieldFailure_of_failed cause h]
    exact List.contains_iff_mem.1 h
  | false => exact (fieldFailure_spec hf cause h).1

/-! ### The failure of a port (R475) -/

theorem linkLeaves_powerKept {n : Nat} (hn : n < 2) (d : Dev) : PowerKept d (linkLeaves n d) := by
  have hlink (e : Dev) (w : Word) : PowerKept e (e.wr (PCIE_LINK n) w) := powerKept_wr e w (by simp only [PCIE_LINK]; omega)
  have hcount (e : Dev) : PowerKept e (e.bump PCIE_DOWN_COUNT) := powerKept_wr e _ (by decide)
  unfold linkLeaves
  refine PowerKept.trans ?_ (breakLocksOf_powerKept agentHost _)
  split
  · exact ((hlink d _).trans (hcount _)).trans (powerKept_record ..)
  · exact .refl d

theorem planeEvents_powerKept (was now : List Nat) (d : Dev) : PowerKept d (planeEvents was now d) := by
  unfold planeEvents
  split
  · exact (PowerKept.foldl (fun e n _ => powerKept_record ..) d).trans (.foldl (fun e n _ => powerKept_record ..) _)
  · exact .refl d

/-- The status word of a SerDes port lies in the SENS or the SPUR page. -/
theorem linkStatus_bounds {code : Nat} (h : code < 0x34) : 0x14000 ≤ linkStatus code ∧ linkStatus code < 0x16000 := by
  unfold linkStatus
  split <;> simp only [SENS_STATUS, SPUR_PORT_STATUS] <;> omega

theorem serdesFail_powerKept {code : Nat} (hc : code < 0x34) (why : Nat) (d : Dev) : PowerKept d (serdesFail code why d) := by
  obtain ⟨hlow, hhigh⟩ := linkStatus_bounds hc
  have hstatus (e : Dev) (w : Word) : PowerKept e (e.wr (linkStatus code) w) := powerKept_wr e w (by omega)
  unfold serdesFail
  dsimp only
  refine PowerKept.trans (PowerKept.trans ?_ (powerKept_record ..)) (planeEvents_powerKept ..)
  split
  · exact (linkLeaves_powerKept (by decide) d).trans (linkLeaves_powerKept (by decide) _)
  · split
    · exact hstatus d _
    · exact (hstatus d _).trans (hstatus _ _)

theorem portFail_powerKept {code : Nat} (hc : code < 0x34) (d : Dev) : PowerKept d (portFail code d) := by
  have hstatus (e : Dev) (w : Word) : PowerKept e (e.wr (MEMP_STATUS_MP code) w) :=
    powerKept_wr_high e w (by simp only [MEMP_STATUS_MP, mempBase]; omega)
  have hfence : PowerKept d (d.setFence (.memp code) true) := .of_regs rfl rfl rfl
  have hrecord (e : Dev) : PowerKept e (statusRecord code e) := powerKept_record ..
  unfold portFail
  split
  · split
    · exact .refl d
    · exact ((hfence.trans (hstatus _ _)).trans (hrecord _)).trans (moduleHealth_powerKept _)
  · exact serdesFail_powerKept hc 1 d

/-! ### A compute reset (R587) -/

theorem emitFrame_powerKept (plane typ peer seq : Nat) (fields : List Nat) (data : List Byte) (d : Dev) :
    PowerKept d (emitFrame plane typ peer seq fields data d) := by
  unfold emitFrame
  split
  · exact .refl d
  · exact .of_regs rfl rfl rfl

theorem send_powerKept (typ peer : Nat) (fields : List Nat) (d : Dev) : PowerKept d (send typ peer fields d) := by
  unfold send sendOn
  split
  · exact .refl d
  · exact (powerKept_modPeer d _).trans (emitFrame_powerKept ..)

theorem sendHold_powerKept (n beat attempt : Nat) (pair : Bool) (d : Dev) : PowerKept d (sendHold n beat attempt pair d) := by
  have hall (fs : List Nat) (e : Dev) : PowerKept e (sendAll fHold fs e) := .foldl (fun a k _ => send_powerKept fHold k fs a) e
  have hpair (g : PeerSt → PeerSt) : PowerKept d (send fHold (partnerKey d) [n, beat, attempt, b2n pair] (d.modPeer g)) :=
    (powerKept_modPeer d g).trans (send_powerKept ..)
  unfold sendHold
  dsimp only
  split_ifs
  · exact (hpair _).trans (hall _ _)
  · exact hpair _
  · exact hall _ d
  · exact .refl d

theorem setStrm_free_powerKept (n : Nat) (d : Dev) : PowerKept d (setStrm n sFree d) := by
  obtain ⟨hrest, -, hkeep, -⟩ := setStrm_free_spec n d
  refine ⟨.of_keep hkeep fun a ha => ?_, by rw [hrest], by rw [hrest]⟩
  simp only [List.mem_cons, List.not_mem_nil, or_false] at ha
  obtain rfl | rfl | rfl := ha
  · exact descAddr_not_powerSide n
  · exact not_powerSide (by decide)
  · exact not_powerSide (by decide)

theorem strmComputeReset_powerKept (d : Dev) : PowerKept d (strmComputeReset d) := by
  unfold strmComputeReset
  refine (PowerKept.foldl (fun e n _ => ?_) d).trans (.of_regs rfl rfl rfl)
  split
  · exact setStrm_free_powerKept n e
  · refine PowerKept.trans ?_ (setStrm_paused_powerKept n _)
    split
    · exact .of_onlyRegs (setDF_onlyRegs e n 0 20 20 1) (by simpa using descAddr_not_powerSide n)
    · exact .refl e

theorem progCleared_powerKept (q : Nat) (d : Dev) : PowerKept d (progCleared q d) := by
  have hseq (o : Nat) (e : Dev) (w : Word) : PowerKept e (e.wr (seqBase q + o) w) := powerKept_wr_high e w (le_seqBase_high q o)
  have hloops (e : Dev) : PowerKept e ((List.range 8).foldl (fun d i => (d.wr (SEQ_LC q i) 0).wr (SEQ_CUR_CMD q i) 0) e) :=
    .foldl (fun a i _ => (powerKept_wr_high a _ ((le_seqBase_high q 0x150).trans (Nat.le_add_right _ _))).trans
      (powerKept_wr_high _ _ ((le_seqBase_high q 0x130).trans (Nat.le_add_right _ _)))) e
  exact ((((hseq 0x11C d _).trans (hseq 0x120 _ _)).trans (hseq 0x124 _ _)).trans (hloops _)).trans (hseq 0x180 _ _)

theorem seqReset_powerKept (q : Nat) (d : Dev) : PowerKept d (seqReset q d) := by
  obtain ⟨x, hx⟩ := seqReset_eq q d
  have hatom (e : Dev) : PowerKept e (setAtom q false e) := powerKept_wr_high e _ (le_seqBase_high q 0x108)
  rw [hx]
  exact ((((seqBreakLocks_powerKept q d).trans (hatom _)).trans (setSt_powerKept q stReset 0 _)).trans
    (progCleared_powerKept q _)).trans (powerKept_setSeq _ q x)

theorem tilesReset_powerKept (d : Dev) : PowerKept d (tilesReset d) := by
  refine ⟨fun a ha => ?_, rfl, le_rfl⟩
  have hlow : tileRegReset a = false := tileRegReset_low (by unfold PowerSide at ha; omega)
  have hget : kvGet? (tilesReset d).regs a = kvGet? d.regs a := by
    refine (kvGet?_filter d.regs (fun k => !tileRegReset k) a).trans ?_
    rw [hlow]
    rfl
  rw [Dev.rd, hget, Dev.rd]

theorem haltsCleared_powerKept (d : Dev) : PowerKept d (haltsCleared d) := by
  refine PowerKept.trans (.foldl (fun e i hi => powerKept_wr_low e _ ?_) d) (.of_regs rfl rfl rfl)
  have := List.mem_range.1 hi
  simp only [DBG_HALT_REQ_LO]
  omega

theorem resetNoted_powerKept (cause : Nat) (d : Dev) : PowerKept d (resetNoted cause d) := by
  have hstatus (e : Dev) (w : Word) : PowerKept e (e.wr BOOT_RESET_STATUS w) := powerKept_wr e w (by decide)
  have hcount (e : Dev) : PowerKept e (e.bump BOOT_CRESET_COUNT) := powerKept_wr e _ (by decide)
  exact (((hstatus d _).trans (hstatus _ _)).trans (hcount _)).trans (.of_regs rfl rfl rfl)

theorem resetDone_powerKept (d : Dev) : PowerKept d (resetDone d) := by
  have hholds (e : Dev) : PowerKept e (holdsSent e) := .foldl (fun a _ _ => sendHold_powerKept _ _ _ false a) e
  have hseqs (qs : List Nat) (e : Dev) : PowerKept e (qs.foldl (fun d q => seqReset q d) e) := .foldl (fun x q _ => seqReset_powerKept q x) e
  have hpackets (e : Dev) : PowerKept e (packetsDropped e) := .of_regs rfl rfl rfl
  have hmemp (e : Dev) : PowerKept e (mempComputeReset e) := .of_regs rfl rfl rfl
  unfold resetDone
  generalize List.range 48 = seqs
  exact (((((((hholds d).trans (strmComputeReset_powerKept _)).trans (hseqs _ _)).trans (haltsCleared_powerKept _)).trans
    (tilesReset_powerKept _)).trans (hpackets _)).trans (hmemp _)).trans (ibexEnd_powerKept 5 _)

theorem computeReset_powerKept (cause : Nat) (d : Dev) : PowerKept d (computeReset cause d) := by
  cases h : inReset d with
  | true =>
    rw [computeReset_of_inReset cause h]
    exact .refl d
  | false =>
    rw [computeReset_of_running cause h]
    exact (resetNoted_powerKept cause d).trans (resetDone_powerKept _)

end Sys2Proof.Machine

/-! PROOF. Duty and ceilings: what a refresh of the duties writes, and what an evaluation of the ceiling asks for
(12_power_thermal.md R455, R465, R469, R476). -/

namespace Sys2Proof.Machine

/-! ### ALERT_N and FAULT_N (R623, R624) -/

/-- ALERT_N is asserted: its source, the interrupt's cause, and what is sent. -/
theorem Dev.alert_spec (d : Dev) (src : Nat) :
    let e := d.alert src
    e.rd PINS_ALERT_SRC = setBit (d.rd PINS_ALERT_SRC) src true ∧ RegsKeep [PINS_ALERT_SRC, PCIE_INT_CAUSE] d e ∧
      e = { d with regs := e.regs, tx := e.tx, iface := e.iface } := by
  have hshown (x : Dev) (hr : x.regs = d.regs) (hx : x = { d with tx := x.tx, iface := x.iface }) :
      let e := (x.wr PINS_ALERT_SRC (setBit (x.rd PINS_ALERT_SRC) src true)).intCause 0
      e.rd PINS_ALERT_SRC = setBit (d.rd PINS_ALERT_SRC) src true ∧ RegsKeep [PINS_ALERT_SRC, PCIE_INT_CAUSE] d e ∧
        e = { d with regs := e.regs, tx := e.tx, iface := e.iface } := by
    have hw := onlyRegs_wr x PINS_ALERT_SRC (setBit (x.rd PINS_ALERT_SRC) src true)
    have hat := Dev.rd_wr_same x PINS_ALERT_SRC (setBit (x.rd PINS_ALERT_SRC) src true)
    dsimp only
    rw [Dev.rd_of_regs hr] at hw hat ⊢
    generalize x.wr PINS_ALERT_SRC (setBit (d.rd PINS_ALERT_SRC) src true) = y at *
    obtain ⟨hkeep, hrest⟩ := y.intCause_spec 0
    refine ⟨(hkeep _ (by decide)).trans hat, fun a ha => ?_, ?_⟩
    · simp only [List.mem_cons, List.not_mem_nil, or_false, not_or] at ha
      rw [hkeep a (by simp [ha.2]), hw.2 a (by simp [ha.1]), Dev.rd_of_regs hr]
    · rw [hrest, hw.1, hx]
  unfold Dev.alert
  dsimp only
  split
  · exact hshown _ rfl rfl
  · exact hshown _ rfl rfl

theorem Dev.alert_bit (d : Dev) : bitOf ((d.alert 1).rd PINS_ALERT_SRC) 1 = true := by
  rw [(d.alert_spec 1).1, bitOf_setBit_same _ _ _ (by decide)]

theorem Dev.alert_flt (d : Dev) (src : Nat) : (d.alert src).flt = d.flt := by rw [(d.alert_spec src).2.2]

theorem Dev.alert_pwr (d : Dev) (src : Nat) : (d.alert src).pwr = d.pwr := by rw [(d.alert_spec src).2.2]

/-- FAULT_N is asserted: its source, the interrupt's cause, and what is sent. -/
theorem Dev.fault_spec (d : Dev) (src : Nat) :
    let e := d.fault src
    e.rd PINS_FAULT_SRC = setBit (d.rd PINS_FAULT_SRC) src true ∧ RegsKeep [PINS_FAULT_SRC, PCIE_INT_CAUSE] d e ∧
      e = { d with regs := e.regs, tx := e.tx } := by
  have hw := onlyRegs_wr d PINS_FAULT_SRC (setBit (d.rd PINS_FAULT_SRC) src true)
  have hat := Dev.rd_wr_same d PINS_FAULT_SRC (setBit (d.rd PINS_FAULT_SRC) src true)
  dsimp only
  unfold Dev.fault
  generalize d.wr PINS_FAULT_SRC (setBit (d.rd PINS_FAULT_SRC) src true) = y at *
  obtain ⟨hkeep, hrest⟩ := y.intCause_spec 1
  refine ⟨(hkeep _ (by decide)).trans hat, (hw.2.mono (by simp)).trans (hkeep.mono (by simp)), ?_⟩
  rw [hrest, hw.1]

/-! ### Duties (R465, R469) -/

/-- Only registers of a list, and whether a running Ibex slice has slipped, may differ. -/
structure DutyFrame (l : List Nat) (d e : Dev) : Prop where
  keep : RegsKeep l d e
  rest : e = { d with regs := e.regs, flt := { d.flt with ibexRun := e.flt.ibexRun } }

section

variable {l : List Nat} {d e : Dev}

theorem DutyFrame.refl (l : List Nat) (d : Dev) : DutyFrame l d d := ⟨.refl l d, rfl⟩

theorem DutyFrame.trans {c : Dev} (h : DutyFrame l d e) (g : DutyFrame l e c) : DutyFrame l d c where
  keep := h.keep.trans g.keep
  rest := by rw [g.rest, h.rest]

theorem DutyFrame.mono {m : List Nat} (h : DutyFrame l d e) (s : l ⊆ m) : DutyFrame m d e := ⟨h.keep.mono s, h.rest⟩

theorem DutyFrame.pwr (h : DutyFrame l d e) : e.pwr = d.pwr := by rw [h.rest]

theorem DutyFrame.of_onlyRegs (h : OnlyRegs l d e) : DutyFrame l d e := ⟨h.2, by rw [h.1]⟩

end

theorem ibexVoid_dutyFrame (f : Nat) (d : Dev) : DutyFrame [] d (ibexVoid f d) := ⟨fun _ _ => rfl, rfl⟩

theorem dutyRequested_congr {d e : Dev} (h : e.pwr = d.pwr) (f : Nat) : e.dutyRequested f = d.dutyRequested f := by
  unfold Dev.dutyRequested
  rw [h]

/-- The word that shows a field's ceiling, duty and estimate. -/
def dutyWord (f : Nat) (d : Dev) : Word :=
  setBit (setFld (setFld (d.rd (PWR_FIELD_PWR f)) 9 0 (min 1023 (d.ceilA f))) 14 10 (d.dutyRequested f)) 30 (d.estimated f)

theorem dutyRefresh_eq (f : Nat) (d : Dev) : dutyRefresh f d =
    if d.dutyRequested f < 16 then ibexVoid f (d.wr (PWR_FIELD_PWR f) (dutyWord f d)) else d.wr (PWR_FIELD_PWR f) (dutyWord f d) := rfl

/-- A refresh writes the field's word and shows the duty requested. -/
theorem dutyRefresh_spec (f : Nat) (d : Dev) :
    DutyFrame [PWR_FIELD_PWR f] d (dutyRefresh f d) ∧ (dutyRefresh f d).rdF (PWR_FIELD_PWR f) 14 10 = d.dutyRequested f % 32 := by
  have hshown : fld (dutyWord f d) 14 10 = d.dutyRequested f % 32 := by
    rw [dutyWord, fld_setBit_other _ _ (by decide), fld_setFld_same _ _ (by decide)]
    rfl
  have hw : DutyFrame [PWR_FIELD_PWR f] d (d.wr (PWR_FIELD_PWR f) (dutyWord f d)) := .of_onlyRegs (onlyRegs_wr ..)
  rw [dutyRefresh_eq]
  split
  · refine ⟨hw.trans ((ibexVoid_dutyFrame f _).mono (by simp)), ?_⟩
    rw [Dev.rdF, (ibexVoid_dutyFrame f _).keep _ List.not_mem_nil, Dev.rd_wr_same, hshown]
  · exact ⟨hw, by rw [Dev.rdF, Dev.rd_wr_same, hshown]⟩

/-- The word of THR_CAUSE shows, among others, an escalated stretch and a duty of the short-term controller. -/
theorem causeRefresh_eq (d : Dev) : ∃ w, causeRefresh d = d.wr PWR_THR_CAUSE w ∧ bitOf w 1 = !d.pwr.droopEsc.isEmpty ∧
    bitOf w 2 = (decide (d.pwr.shortDuty < 16) || (kvGet? d.pwr.oppReq 4).isSome) := by
  refine ⟨_, rfl, ?_, ?_⟩
  · iterate 5 rw [bitOf_setBit_other _ _ (by decide)]
    rw [bitOf_setBit_same _ _ _ (by decide)]
  · iterate 4 rw [bitOf_setBit_other _ _ (by decide)]
    rw [bitOf_setBit_same _ _ _ (by decide)]

theorem causeRefresh_onlyRegs (d : Dev) : OnlyRegs [PWR_THR_CAUSE] d (causeRefresh d) := by
  obtain ⟨w, hw, -, -⟩ := causeRefresh_eq d
  rw [hw]
  exact onlyRegs_wr ..

/-- The registers that a refresh of the duties writes. -/
def dutyRegs : List Nat := PWR_THR_CAUSE :: (List.range 12).map fun f => PWR_FIELD_PWR f

theorem dutyRegs_bounds {a : Nat} (h : a ∈ dutyRegs) : a = PWR_THR_CAUSE ∨ (0xA130 ≤ a ∧ a < 0xA160) := by
  obtain rfl | h := List.mem_cons.1 h
  · exact .inl rfl
  · obtain ⟨f, hf, rfl⟩ := List.mem_map.1 h
    have := List.mem_range.1 hf
    simp only [PWR_FIELD_PWR]
    omega

theorem not_mem_dutyRegs {a : Nat} (h : a < 0xA114 ∨ (0xA114 < a ∧ a < 0xA130) ∨ 0xA160 ≤ a) : a ∉ dutyRegs := fun hm => by
  have := dutyRegs_bounds hm
  simp only [PWR_THR_CAUSE] at this
  omega

theorem mem_dutyRegs {f : Nat} (hf : f < 12) : PWR_FIELD_PWR f ∈ dutyRegs := List.mem_cons_of_mem _ (List.mem_map.2 ⟨f, List.mem_range.2 hf, rfl⟩)

theorem dutyRefresh_foldl {l : List Nat} (hl : ∀ f ∈ l, f < 12) (d : Dev) :
    let e := l.foldl (fun d f => dutyRefresh f d) d
    DutyFrame dutyRegs d e ∧ (∀ f ∈ l, e.rdF (PWR_FIELD_PWR f) 14 10 = d.dutyRequested f % 32) ∧
      ∀ f, f ∉ l → e.rd (PWR_FIELD_PWR f) = d.rd (PWR_FIELD_PWR f) := by
  induction l generalizing d with
  | nil => exact ⟨.refl _ d, fun f h => absurd h List.not_mem_nil, fun _ _ => rfl⟩
  | cons g t ih =>
    obtain ⟨hframe, hown⟩ := dutyRefresh_spec g d
    obtain ⟨htframe, htown, htkeep⟩ := ih (fun f hf => hl f (List.mem_cons_of_mem _ hf)) (dutyRefresh g d)
    refine ⟨(hframe.mono (by simpa using mem_dutyRegs (hl g List.mem_cons_self))).trans htframe, fun f hf => ?_, fun f hf => ?_⟩
    · by_cases ht : f ∈ t
      · rw [List.foldl_cons, htown f ht, dutyRequested_congr hframe.pwr]
      · obtain rfl | hf := List.mem_cons.1 hf
        · exact (congrArg (fld · 14 10) (htkeep f ht)).trans hown
        · exact absurd hf ht
    · obtain ⟨hne, ht⟩ := not_or.1 (List.mem_cons.not.1 hf)
      exact (htkeep f ht).trans (hframe.keep _ (by simp only [List.mem_singleton, PWR_FIELD_PWR]; omega))

/-- Every field's duty is the one requested, and THR_CAUSE shows the causes. -/
theorem dutyRefreshAll_spec (d : Dev) :
    let e := dutyRefreshAll d
    DutyFrame dutyRegs d e ∧ (∀ f, f < 12 → e.rdF (PWR_FIELD_PWR f) 14 10 = d.dutyRequested f % 32) ∧
      bitOf (e.rd PWR_THR_CAUSE) 1 = !d.pwr.droopEsc.isEmpty ∧
      bitOf (e.rd PWR_THR_CAUSE) 2 = (decide (d.pwr.shortDuty < 16) || (kvGet? d.pwr.oppReq 4).isSome) := by
  obtain ⟨hframe, hshown, -⟩ := dutyRefresh_foldl (l := List.range 12) (fun f => List.mem_range.1) d
  dsimp only
  unfold dutyRefreshAll
  generalize (List.range 12).foldl (fun d f => dutyRefresh f d) d = x at *
  obtain ⟨w, hw, hesc, hshort⟩ := causeRefresh_eq x
  rw [hframe.pwr] at hesc hshort
  rw [hw]
  refine ⟨hframe.trans (.of_onlyRegs ((onlyRegs_wr ..).mono (by simp [dutyRegs]))), fun f hf => ?_, ?_, ?_⟩
  · rw [Dev.rdF, Dev.rd_wr_other _ _ (by simp only [PWR_FIELD_PWR, PWR_THR_CAUSE]; omega)]
    exact hshown f (List.mem_range.2 hf)
  · rw [Dev.rd_wr_same, hesc]
  · rw [Dev.rd_wr_same, hshort]

/-! ### The evaluation of a ceiling (R455) -/

/-- The number of evaluations in a row, this one included, at which the current leaves room for a higher duty. -/
def ceilRoom (f : Nat) (d : Dev) : Nat :=
  if 10 * d.ceilCurrent10 f * (d.rdF (PWR_FIELD_PWR f) 14 10 + 1) ≤ 380 * d.ceilA f * d.rdF (PWR_FIELD_PWR f) 14 10
  then kvGetD d.pwr.ceilOk 0 f + 1 else 0

/-- The duty that the ceiling of a field asks for. -/
def ceilWant (f : Nat) (d : Dev) : Nat :=
  let i := 10 * d.ceilCurrent10 f
  let g := 380 * d.ceilA f
  if g < i then max 4 (d.rdF (PWR_FIELD_PWR f) 14 10 * g / i) else if d.workingPhases f = 12 ∧ i < g then 16
  else if 20 ≤ ceilRoom f d then min 16 (kvGetD d.pwr.ceilReq 16 f + 1) else kvGetD d.pwr.ceilReq 16 f

/-- The request of the ceiling and the count of evaluations are noted. -/
def ceilNoted (f want room : Nat) (d : Dev) : Dev :=
  { d with pwr := { d.pwr with ceilReq := kvSetD d.pwr.ceilReq 16 f want, ceilOk := kvSetD d.pwr.ceilOk 0 f room } }

theorem ceilEval_eq (f : Nat) (d : Dev) : ∃ room, ceilEval f d = causeRefresh (dutyRefresh f (ceilNoted f (ceilWant f d) room d)) := by
  unfold ceilEval ceilWant ceilRoom
  dsimp only
  simp only [decide_eq_true_eq, Bool.and_eq_true]
  split_ifs <;> exact ⟨_, rfl⟩

theorem ceilEval_spec (f : Nat) (hf : f < 12) (d : Dev) :
    let e := ceilEval f d
    kvGetD e.pwr.ceilReq 16 f = ceilWant f d ∧ (∀ k, k ≠ f → kvGetD e.pwr.ceilReq 16 k = kvGetD d.pwr.ceilReq 16 k) ∧
      e.rdF (PWR_FIELD_PWR f) 14 10 = e.dutyRequested f % 32 ∧ RegsKeep [PWR_FIELD_PWR f, PWR_THR_CAUSE] d e ∧
      e = { d with regs := e.regs, pwr := e.pwr, flt := { d.flt with ibexRun := e.flt.ibexRun } } := by
  obtain ⟨room, heq⟩ := ceilEval_eq f d
  dsimp only
  rw [heq]
  have hregs : (ceilNoted f (ceilWant f d) room d).regs = d.regs := rfl
  have hreq : (ceilNoted f (ceilWant f d) room d).pwr.ceilReq = kvSetD d.pwr.ceilReq 16 f (ceilWant f d) := rfl
  have hrest : ceilNoted f (ceilWant f d) room d = { d with pwr := (ceilNoted f (ceilWant f d) room d).pwr } := rfl
  generalize ceilNoted f (ceilWant f d) room d = x at *
  obtain ⟨hframe, hduty⟩ := dutyRefresh_spec f x
  generalize dutyRefresh f x = y at *
  obtain ⟨hcrest, hckeep⟩ := causeRefresh_onlyRegs y
  generalize causeRefresh y = z at *
  have hpwr : z.pwr = x.pwr := by rw [hcrest, hframe.rest]
  refine ⟨?_, fun k hk => ?_, ?_, fun a ha => ?_, ?_⟩
  · rw [hpwr, hreq, kvGetD_setD_same]
  · rw [hpwr, hreq, kvGetD_setD_other _ _ _ hk]
  · rw [Dev.rdF, hckeep _ (by simp only [List.mem_singleton, PWR_FIELD_PWR, PWR_THR_CAUSE]; omega), dutyRequested_congr hpwr]
    exact hduty
  · simp only [List.mem_cons, List.not_mem_nil, or_false, not_or] at ha
    rw [hckeep a (by simp [ha.2]), hframe.keep a (by simp [ha.1]), Dev.rd_of_regs hregs]
  · rw [hcrest, hframe.rest, hrest]

end Sys2Proof.Machine

/-! PROOF. The polls of the regulators, phases and rails that fail (12_power_thermal.md R447, R448, R450, R456 to R458, R475). -/

namespace Sys2Proof.Machine

/-! ### A transaction fails (R450) -/

/-- A failed transaction is counted, recorded and shown. -/
def commNoted (r : Nat) (d : Dev) : Dev :=
  let d := (d.bump PMB_COMM_ERR_COUNT).record 0x16 4 (256 + r) 1
  d.wr (PMB_RAIL_STAT r) (setBit (d.rd (PMB_RAIL_STAT r)) 15 true)

theorem PMB_RAIL_STAT_ne_commErr {r : Nat} (hr : r < 18) : PMB_RAIL_STAT r ≠ PMB_COMM_ERR_COUNT := by
  simp only [PMB_RAIL_STAT, PMB_COMM_ERR_COUNT]
  omega

theorem commFail_eq {r : Nat} (hr : r < 18) (d : Dev) : commFail r d =
    if bitOf (d.rd (PMB_RAIL_STAT r)) 15 then commNoted r d
    else { commNoted r d with pwr := { d.pwr with commTick := kvPut d.pwr.commTick r d.time.tb } } := by
  have hstat : ((d.bump PMB_COMM_ERR_COUNT).record 0x16 4 (256 + r) 1).rd (PMB_RAIL_STAT r) = d.rd (PMB_RAIL_STAT r) :=
    Dev.rd_bump_other d (PMB_RAIL_STAT_ne_commErr hr)
  unfold commFail commNoted
  dsimp only
  rw [hstat]
  rfl

theorem commNoted_spec {r : Nat} (hr : r < 18) (d : Dev) :
    let e := commNoted r d
    bitOf (e.rd (PMB_RAIL_STAT r)) 15 = true ∧ e.rd PMB_COMM_ERR_COUNT = satAdd (d.rd PMB_COMM_ERR_COUNT) 1 ∧
      e.flt.pendingRecords.length = d.flt.pendingRecords.length + 1 ∧ RegsKeep [PMB_RAIL_STAT r, PMB_COMM_ERR_COUNT] d e := by
  have hne := PMB_RAIL_STAT_ne_commErr hr
  dsimp only
  unfold commNoted
  dsimp only
  refine ⟨?_, ?_, ?_, ?_⟩
  · rw [Dev.rd_wr_same, bitOf_setBit_same _ _ _ (by decide)]
  · rw [Dev.rd_wr_other _ _ hne.symm, Dev.record_rd, Dev.rd_bump_same]
  · rw [Dev.wr_flt, Dev.record_length, Dev.bump_flt]
  · exact (((RegsKeep.refl _ d).wr (by simp) _).of_regs rfl).wr (by simp) _

/-- A transaction with a rail has failed: the count, the record and COMM, and since when. -/
def CommFailed (r : Nat) (d e : Dev) : Prop :=
  bitOf (e.rd (PMB_RAIL_STAT r)) 15 = true ∧ e.rd PMB_COMM_ERR_COUNT = satAdd (d.rd PMB_COMM_ERR_COUNT) 1 ∧
    e.flt.pendingRecords.length = d.flt.pendingRecords.length + 1 ∧
    (bitOf (d.rd (PMB_RAIL_STAT r)) 15 = false → kvGet? e.pwr.commTick r = some d.time.tb) ∧ RegsKeep [PMB_RAIL_STAT r, PMB_COMM_ERR_COUNT] d e

theorem commFail_spec {r : Nat} (hr : r < 18) (d : Dev) : CommFailed r d (commFail r d) := by
  obtain ⟨hcomm, hcount, hrec, hkeep⟩ := commNoted_spec hr d
  rw [commFail_eq hr]
  generalize commNoted r d = x at *
  split
  · next hwas => exact ⟨hcomm, hcount, hrec, fun h => absurd hwas (by rw [h]; decide), hkeep⟩
  · exact ⟨hcomm, hcount, hrec, fun _ => kvGet?_put_same .., hkeep⟩

/-! ### A reading (R448) -/

/-- A rail's word shows a reading, without COMM, and the rail has not failed since. -/
def RailRead (r mv qa : Nat) (e : Dev) : Prop :=
  e.rdF (PMB_RAIL_STAT r) 11 0 = mv % 4096 ∧ e.rdF (PMB_RAIL_STAT r) 31 16 = qa % 65536 ∧ bitOf (e.rd (PMB_RAIL_STAT r)) 15 = false ∧
    kvGet? e.pwr.commTick r = none

theorem RailRead.of_same {r mv qa : Nat} {d e : Dev} (h : RailRead r mv qa d) (hrd : e.rd (PMB_RAIL_STAT r) = d.rd (PMB_RAIL_STAT r))
    (hp : e.pwr = d.pwr) : RailRead r mv qa e := by
  unfold RailRead Dev.rdF at *
  rw [hrd, hp]
  exact h

/-- The word of a rail that was read. -/
def readingWord (mv qa : Nat) (w : Word) : Word := setBit (setFld (setFld w 11 0 mv) 31 16 qa) 15 false

/-- The reading is shown in the rail's own word. -/
def readingShown (r mv qa : Nat) (d : Dev) : Dev :=
  { d.wr (PMB_RAIL_STAT r) (readingWord mv qa (d.rd (PMB_RAIL_STAT r))) with pwr := { d.pwr with commTick := kvDel d.pwr.commTick r } }

theorem railReading_eq (r mv qa : Nat) (d : Dev) : railReading r mv qa d =
    let x := readingShown r mv qa d
    if r < 12 then x.wrF (PWR_FIELD_PWR r) 25 16 (min 1023 (if x.estimated r then x.estCurrent r / 4 else qa / 4)) else x := rfl

theorem readingShown_read (r mv qa : Nat) (d : Dev) : RailRead r mv qa (readingShown r mv qa d) := by
  have hword : (readingShown r mv qa d).rd (PMB_RAIL_STAT r) = readingWord mv qa (d.rd (PMB_RAIL_STAT r)) := Dev.rd_wr_same d _ _
  unfold RailRead Dev.rdF
  rw [hword, readingWord]
  refine ⟨?_, ?_, bitOf_setBit_same _ _ _ (by decide), kvGet?_del_same _ _⟩
  · rw [fld_setBit_other _ _ (by decide), fld_setFld_other _ _ (by decide), fld_setFld_same _ _ (by decide)]
    rfl
  · rw [fld_setBit_other _ _ (by decide), fld_setFld_same _ _ (by decide)]
    rfl

theorem railReading_spec (r mv qa : Nat) (d : Dev) :
    let e := railReading r mv qa d
    RailRead r mv qa e ∧ RegsKeep [PMB_RAIL_STAT r, PWR_FIELD_PWR r] d e ∧
      e = { d with regs := e.regs, pwr := { d.pwr with commTick := e.pwr.commTick } } := by
  have hread := readingShown_read r mv qa d
  have hkeep : RegsKeep [PMB_RAIL_STAT r] d (readingShown r mv qa d) := (regsKeep_wr d _ _).of_regs rfl
  have hrest : readingShown r mv qa d =
    { d with regs := (readingShown r mv qa d).regs, pwr := { d.pwr with commTick := (readingShown r mv qa d).pwr.commTick } } := rfl
  dsimp only
  rw [railReading_eq]
  generalize readingShown r mv qa d = x at *
  dsimp only
  split
  · refine ⟨hread.of_same (Dev.rd_wrF_other _ _ _ _ ?_) rfl, (hkeep.mono (by simp)).wr (by simp) _, ?_⟩
    · simp only [PMB_RAIL_STAT, PWR_FIELD_PWR]
      omega
    · rw [hrest]
      rfl
  · exact ⟨hread, hkeep.mono (by simp), hrest⟩

/-! ### A phase of a field's rail fails (R456, R457) -/

/-- The word of the phases that have failed open, or lost their sense. -/
def phaseReg (sense : Bool) (i : Nat) : Nat := if sense then PWR_SENSE_FAIL (i / 32) else PWR_PHASE_FAIL (i / 32)

/-- A phase has failed open, or lost its sense. -/
def phaseLost (sense : Bool) (i : Nat) (d : Dev) : Bool := bitOf (d.rd (phaseReg sense i)) (i % 32)

theorem phaseLost_false (i : Nat) (d : Dev) : phaseLost false i d = d.phaseFailed i := rfl

theorem phaseLost_true (i : Nat) (d : Dev) : phaseLost true i d = d.senseFailed i := rfl

theorem phaseReg_eq (sense : Bool) (i : Nat) : phaseReg sense i = 0xA190 + 4 * (i / 32) + 20 * sense.toNat := by
  cases sense <;> simp [phaseReg, PWR_SENSE_FAIL, PWR_PHASE_FAIL]
  omega

theorem phaseReg_bounds (sense : Bool) {i : Nat} (hi : i < 144) : 0xA190 ≤ phaseReg sense i ∧ phaseReg sense i < 0xA1C0 := by
  have := sense.toNat_le
  rw [phaseReg_eq]
  omega

/-- The event of a phase: its bit, the record, ALERT_N, the count and the flag. -/
def phaseNoted (sense : Bool) (i : Nat) (d : Dev) : Dev :=
  let d := d.wr (phaseReg sense i) (setBit (d.rd (phaseReg sense i)) (i % 32) true)
  let d := ((d.record 0x16 4 i (if sense then 3 else 2)).alert 1).bump PWR_PHASE_EVENT_COUNT
  d.wr PWR_FLAGS (setBit (d.rd PWR_FLAGS) 1 true)

theorem phaseEvent_of_lost {sense : Bool} {i : Nat} {d : Dev} (h : phaseLost sense i d = true) : phaseEvent sense i d = d := by
  cases sense <;> exact if_pos h

theorem phaseEvent_of_new {sense : Bool} {i : Nat} {d : Dev} (h : phaseLost sense i d = false) :
    let e := ceilEval (i / 12) (phaseNoted sense i d)
    phaseEvent sense i d = if e.workingPhases (i / 12) < 8 ∧ !e.flt.fieldFailed.contains (i / 12) then fieldFailure (i / 12) 5 e else e := by
  have hnot : ¬(if sense then d.senseFailed i else d.phaseFailed i) = true := by
    cases sense <;> exact ne_true_of_eq_false h
  exact if_neg hnot

/-- Phases that have failed stay failed. -/
def PhasesKept (d e : Dev) : Prop := ∀ sense i, i < 144 → phaseLost sense i d = true → phaseLost sense i e = true

theorem PhasesKept.refl (d : Dev) : PhasesKept d d := fun _ _ _ h => h

theorem PhasesKept.trans {c d e : Dev} (h : PhasesKept d e) (g : PhasesKept e c) : PhasesKept d c :=
  fun s i hi hl => g s i hi (h s i hi hl)

theorem PhasesKept.of_words {d e : Dev} (h : ∀ a, 0xA190 ≤ a → a < 0xA1C0 → e.rd a = d.rd a) : PhasesKept d e := by
  intro s i hi hl
  obtain ⟨hlow, hhigh⟩ := phaseReg_bounds s hi
  rw [phaseLost, h _ hlow hhigh]
  exact hl

theorem PhasesKept.of_powerKept {d e : Dev} (h : PowerKept d e) : PhasesKept d e :=
  .of_words fun a hlow hhigh => h.same a (.inl ⟨(by decide : 0xA000 ≤ 0xA190).trans hlow, hhigh⟩)

theorem phasesKept_set (sense : Bool) (i : Nat) (d : Dev) :
    PhasesKept d (d.wr (phaseReg sense i) (setBit (d.rd (phaseReg sense i)) (i % 32) true)) := by
  intro s j _ hl
  have hbit : i % 32 < 32 := Nat.mod_lt _ (by decide)
  unfold phaseLost at *
  rw [Dev.rd_wr]
  split
  · next ha =>
    by_cases hij : j % 32 = i % 32
    · rw [hij, bitOf_setBit_same _ _ _ hbit]
    · rw [bitOf_setBit_other _ _ hij, ← ha, hl]
  · exact hl

/-- What the event of a phase shows, its ceiling and the field's failure apart. -/
structure PhaseShown (sense : Bool) (i : Nat) (d e : Dev) : Prop where
  kept : PhasesKept d e
  lost : phaseLost sense i e = true
  count : e.rd PWR_PHASE_EVENT_COUNT = satAdd (d.rd PWR_PHASE_EVENT_COUNT) 1
  alert : bitOf (e.rd PINS_ALERT_SRC) 1 = true
  failed : e.flt.fieldFailed = d.flt.fieldFailed

theorem phaseNoted_shown (sense : Bool) {i : Nat} (hi : i < 144) (d : Dev) : PhaseShown sense i d (phaseNoted sense i d) := by
  obtain ⟨hlow, hhigh⟩ := phaseReg_bounds sense hi
  have hset := phasesKept_set sense i d
  have hlost : phaseLost sense i (d.wr (phaseReg sense i) (setBit (d.rd (phaseReg sense i)) (i % 32) true)) = true := by
    rw [phaseLost, Dev.rd_wr_same, bitOf_setBit_same _ _ _ (Nat.mod_lt _ (by decide))]
  have hcount := Dev.rd_wr_other d (a := phaseReg sense i) (b := PWR_PHASE_EVENT_COUNT) (setBit (d.rd (phaseReg sense i)) (i % 32) true)
    (by simp only [PWR_PHASE_EVENT_COUNT]; omega)
  have hflt := Dev.wr_flt d (phaseReg sense i) (setBit (d.rd (phaseReg sense i)) (i % 32) true)
  unfold phaseNoted
  dsimp only
  generalize d.wr (phaseReg sense i) (setBit (d.rd (phaseReg sense i)) (i % 32) true) = x at *
  have hrecord : (x.record 0x16 4 i (if sense then 3 else 2)).regs = x.regs := rfl
  have hfailed : (x.record 0x16 4 i (if sense then 3 else 2)).flt.fieldFailed = x.flt.fieldFailed := rfl
  generalize x.record 0x16 4 i (if sense then 3 else 2) = y at *
  obtain ⟨-, hakeep, -⟩ := y.alert_spec 1
  have hbit := y.alert_bit
  have haflt := y.alert_flt 1
  generalize y.alert 1 = z at *
  have hwords : PhasesKept x ((z.bump PWR_PHASE_EVENT_COUNT).wr PWR_FLAGS (setBit ((z.bump PWR_PHASE_EVENT_COUNT).rd PWR_FLAGS) 1 true)) := by
    refine .of_words fun a ha hb => ?_
    rw [Dev.rd_wr_other _ _ (by simp only [PWR_FLAGS]; omega), Dev.rd_bump_other _ (by simp only [PWR_PHASE_EVENT_COUNT]; omega),
      hakeep a (by simp only [List.mem_cons, List.not_mem_nil, or_false, PINS_ALERT_SRC, PCIE_INT_CAUSE]; omega), Dev.rd_of_regs hrecord]
  refine ⟨hset.trans hwords, hwords sense i hi hlost, ?_, ?_, ?_⟩
  · rw [Dev.rd_wr_other _ _ (by decide), Dev.rd_bump_same, hakeep _ (by decide), Dev.rd_of_regs hrecord, hcount]
  · rw [Dev.rd_wr_other _ _ (by decide), Dev.rd_bump_other _ (by decide), hbit]
  · rw [Dev.wr_flt, Dev.bump_flt, haflt, hfailed, hflt]

/-- The ceiling of the field is evaluated after the event. -/
theorem ceilEval_shown {sense : Bool} {i : Nat} (hi : i < 144) {d e : Dev} (h : PhaseShown sense i d e) :
    PhaseShown sense i d (ceilEval (i / 12) e) := by
  obtain ⟨-, -, -, hkeep, hrest⟩ := ceilEval_spec (i / 12) (by omega) e
  generalize ceilEval (i / 12) e = x at *
  have hout (a : Nat) (ha : 0xA190 ≤ a) : x.rd a = e.rd a :=
    hkeep a (by simp only [List.mem_cons, List.not_mem_nil, or_false, PWR_FIELD_PWR, PWR_THR_CAUSE]; omega)
  have hwords : PhasesKept e x := .of_words fun a ha _ => hout a ha
  refine ⟨h.kept.trans hwords, hwords sense i hi h.lost, ?_, ?_, ?_⟩
  · rw [hout _ (by decide), h.count]
  · rw [hout _ (by decide), h.alert]
  · rw [hrest]
    exact h.failed

theorem phaseEvent_shown {sense : Bool} {i : Nat} (hi : i < 144) {d : Dev} (h : phaseLost sense i d = false)
    (hf : d.flt.fieldFailed.contains (i / 12) = true) : PhaseShown sense i d (phaseEvent sense i d) := by
  have hshown := ceilEval_shown hi (phaseNoted_shown sense hi d)
  rw [phaseEvent_of_new h, if_neg (by rw [hshown.failed, hf]; simp)]
  exact hshown

theorem phaseEvent_kept (sense : Bool) {i : Nat} (hi : i < 144) (d : Dev) :
    PhasesKept d (phaseEvent sense i d) ∧ phaseLost sense i (phaseEvent sense i d) = true := by
  cases h : phaseLost sense i d with
  | true =>
    rw [phaseEvent_of_lost h]
    exact ⟨.refl d, h⟩
  | false =>
    have hshown := ceilEval_shown hi (phaseNoted_shown sense hi d)
    rw [phaseEvent_of_new h]
    generalize ceilEval (i / 12) (phaseNoted sense i d) = x at *
    split
    · have hkept := PhasesKept.of_powerKept (fieldFailure_powerKept (f := i / 12) (by omega) 5 x)
      exact ⟨hshown.kept.trans hkept, hkept sense i hi hshown.lost⟩
    · exact ⟨hshown.kept, hshown.lost⟩

/-- Events of phases one after the other: every phase that is named has failed. -/
theorem phaseEvent_foldl (sense : Bool) {g : Nat → Nat} {l : List Nat} (hl : ∀ p ∈ l, g p < 144) (d : Dev) :
    let e := l.foldl (fun d p => phaseEvent sense (g p) d) d
    PhasesKept d e ∧ ∀ p ∈ l, phaseLost sense (g p) e = true := by
  induction l generalizing d with
  | nil => exact ⟨.refl d, fun p hp => absurd hp List.not_mem_nil⟩
  | cons q t ih =>
    have hq := hl q List.mem_cons_self
    obtain ⟨hkept, hown⟩ := phaseEvent_kept sense hq d
    obtain ⟨htkept, htown⟩ := ih (fun p hp => hl p (List.mem_cons_of_mem _ hp)) (phaseEvent sense (g q) d)
    refine ⟨hkept.trans htkept, fun p hp => ?_⟩
    obtain rfl | hp := List.mem_cons.1 hp
    · exact htkept sense _ hq hown
    · exact htown p hp

theorem railPhases_nil (sense : Bool) (r : Nat) (d : Dev) : railPhases sense r [] d = d := by
  unfold railPhases
  split <;> rfl

theorem railPhases_field {r p : Nat} (hr : r < 12) (hp : p < 12) (sense : Bool) (d : Dev) :
    railPhases sense r [p] d = phaseEvent sense (12 * r + p) d := by
  rw [railPhases, if_pos hr, List.filter_cons_of_pos (by simpa using hp)]
  rfl

theorem railPhases_mem {r p : Nat} (hr : 12 ≤ r) (hp : p < 63) (sense : Bool) (d : Dev) :
    railPhases sense r [p] d = memPhaseEvent sense r p d := by
  rw [railPhases, if_neg (by omega), List.filter_cons_of_pos (by simpa using hp)]
  rfl

/-! ### A phase of a VMEM rail fails (R448, R475) -/

/-- The event of a VMEM rail's phase, once it is noted which: the record, ALERT_N, the count and the flag. -/
def memEventNoted (unit synd : Nat) (d : Dev) : Dev :=
  let d := ((d.record 0x16 4 unit synd).alert 1).bump PWR_PHASE_EVENT_COUNT
  d.wr PWR_FLAGS (setBit (d.rd PWR_FLAGS) 1 true)

theorem memEventNoted_spec (unit synd : Nat) (d : Dev) :
    let e := memEventNoted unit synd d
    e.rd PWR_PHASE_EVENT_COUNT = satAdd (d.rd PWR_PHASE_EVENT_COUNT) 1 ∧ bitOf (e.rd PWR_FLAGS) 1 = true ∧
      bitOf (e.rd PINS_ALERT_SRC) 1 = true ∧ e.pwr = d.pwr := by
  have hrecord : (d.record 0x16 4 unit synd).regs = d.regs := rfl
  have hpwr : (d.record 0x16 4 unit synd).pwr = d.pwr := rfl
  dsimp only
  unfold memEventNoted
  generalize d.record 0x16 4 unit synd = x at *
  obtain ⟨-, hkeep, -⟩ := x.alert_spec 1
  have hbit := x.alert_bit
  have hapwr := x.alert_pwr 1
  generalize x.alert 1 = y at *
  dsimp only
  refine ⟨?_, ?_, ?_, ?_⟩
  · rw [Dev.rd_wr_other _ _ (by decide), Dev.rd_bump_same, hkeep _ (by decide), Dev.rd_of_regs hrecord]
  · rw [Dev.rd_wr_same, bitOf_setBit_same _ _ _ (by decide)]
  · rw [Dev.rd_wr_other _ _ (by decide), Dev.rd_bump_other _ (by decide), hbit]
  · rw [Dev.wr_pwr, Dev.bump_pwr, hapwr, hpwr]

/-- A phase of a VMEM rail has failed open, or all have lost their sense. -/
def memLostNoted (sense : Bool) (k : Nat) (d : Dev) : Dev :=
  { d with pwr := if sense then { d.pwr with memLost := setIns d.pwr.memLost k } else { d.pwr with memFailed := setIns d.pwr.memFailed k } }

theorem memPhaseEvent_of_new {sense : Bool} {r p : Nat} {d : Dev}
    (h : (if sense then d.pwr.memLost else d.pwr.memFailed).contains (64 * (r - 12) + p) = false) :
    memPhaseEvent sense r p d = memEventNoted (256 + r) (if sense then 3 else 2) (memLostNoted sense (64 * (r - 12) + p) d) := by
  unfold memPhaseEvent
  dsimp only
  rw [if_neg (by rw [h]; exact Bool.false_ne_true)]
  rfl

/-- What the event of a VMEM rail's phase shows; `noted` are the phases that have failed, or lost their sense. -/
def MemPhaseShown (noted : List Nat) (k : Nat) (d e : Dev) : Prop :=
  k ∈ noted ∧ bitOf (e.rd PWR_FLAGS) 1 = true ∧ e.rd PWR_PHASE_EVENT_COUNT = satAdd (d.rd PWR_PHASE_EVENT_COUNT) 1 ∧
    bitOf (e.rd PINS_ALERT_SRC) 1 = true

theorem memPhaseEvent_failed {r p : Nat} {d : Dev} (h : d.pwr.memFailed.contains (64 * (r - 12) + p) = false) :
    MemPhaseShown (memPhaseEvent false r p d).pwr.memFailed (64 * (r - 12) + p) d (memPhaseEvent false r p d) := by
  rw [memPhaseEvent_of_new (by simpa using h)]
  obtain ⟨hcount, hflag, halert, hpwr⟩ := memEventNoted_spec (256 + r) 2 (memLostNoted false (64 * (r - 12) + p) d)
  refine ⟨?_, hflag, hcount, halert⟩
  rw [if_neg Bool.false_ne_true, hpwr]
  exact (mem_setIns ..).2 (.inl rfl)

theorem memPhaseEvent_lost {r p : Nat} {d : Dev} (h : d.pwr.memLost.contains (64 * (r - 12) + p) = false) :
    MemPhaseShown (memPhaseEvent true r p d).pwr.memLost (64 * (r - 12) + p) d (memPhaseEvent true r p d) := by
  rw [memPhaseEvent_of_new (by simpa using h)]
  obtain ⟨hcount, hflag, halert, hpwr⟩ := memEventNoted_spec (256 + r) 3 (memLostNoted true (64 * (r - 12) + p) d)
  refine ⟨?_, hflag, hcount, halert⟩
  rw [if_pos rfl, hpwr]
  exact (mem_setIns ..).2 (.inl rfl)

/-! ### The polls (R448) -/

theorem avsPoll_read (r mv qa : Nat) (d : Dev) : avsPoll r true mv qa [] [] d = railReading r mv qa d :=
  (railPhases_nil ..).trans (railPhases_nil ..)

theorem avsPoll_open (r mv qa p : Nat) (d : Dev) : avsPoll r true mv qa [p] [] d = railPhases false r [p] (railReading r mv qa d) :=
  railPhases_nil ..

theorem avsPoll_open_field {r p : Nat} (hr : r < 12) (hp : p < 12) (mv qa : Nat) {d : Dev} (h : d.phaseFailed (12 * r + p) = false)
    (hf : d.flt.fieldFailed.contains r = true) : PhaseShown false (12 * r + p) d (avsPoll r true mv qa [p] [] d) := by
  obtain ⟨-, hkeep, hrest⟩ := railReading_spec r mv qa d
  rw [avsPoll_open, railPhases_field hr hp]
  generalize railReading r mv qa d = x at *
  have hout (a : Nat) (h : (0xA190 ≤ a ∧ a < 0x16000)) : x.rd a = d.rd a :=
    hkeep a (by simp only [List.mem_cons, List.not_mem_nil, or_false, PWR_FIELD_PWR, PMB_RAIL_STAT]; omega)
  have hi : 12 * r + p < 144 := by omega
  have hwords : PhasesKept d x := .of_words fun a ha hb => hout a ⟨ha, hb.trans (by decide)⟩
  have hsame : phaseLost false (12 * r + p) x = false := by
    obtain ⟨hlow, hhigh⟩ := phaseReg_bounds false hi
    rw [phaseLost, hout _ ⟨hlow, hhigh.trans (by decide)⟩]
    exact h
  have hflt : x.flt = d.flt := by rw [hrest]
  have hshown := phaseEvent_shown hi hsame (by rw [hflt, show (12 * r + p) / 12 = r by omega]; exact hf)
  exact ⟨hwords.trans hshown.kept, hshown.lost, by rw [hshown.count, hout _ (by decide)], hshown.alert, by rw [hshown.failed, hflt]⟩

theorem avsPoll_open_mem {r p : Nat} (hr : 12 ≤ r) (hr' : r < 14) (hp : p < 63) (mv qa : Nat) {d : Dev}
    (h : d.pwr.memFailed.contains (64 * (r - 12) + p) = false) :
    MemPhaseShown (avsPoll r true mv qa [p] [] d).pwr.memFailed (64 * (r - 12) + p) d (avsPoll r true mv qa [p] [] d) := by
  obtain ⟨-, hkeep, hrest⟩ := railReading_spec r mv qa d
  rw [avsPoll_open, railPhases_mem hr hp]
  generalize railReading r mv qa d = x at *
  have hcount : x.rd PWR_PHASE_EVENT_COUNT = d.rd PWR_PHASE_EVENT_COUNT :=
    hkeep _ (by simp only [List.mem_cons, List.not_mem_nil, or_false, PWR_FIELD_PWR, PMB_RAIL_STAT, PWR_PHASE_EVENT_COUNT]; omega)
  unfold MemPhaseShown
  rw [← hcount]
  exact memPhaseEvent_failed (by rw [hrest]; exact h)

theorem pmbusPoll_read (r mv qa : Nat) (d : Dev) : pmbusPoll r true mv qa false d = railReading r mv qa d := rfl

/-- A hot rail is recorded and signalled. -/
theorem pmbusPoll_hot {r : Nat} (hr : r < 18) (mv qa : Nat) (d : Dev) :
    let e := pmbusPoll r true mv qa true d
    RailRead r mv qa e ∧ bitOf (e.rd PINS_ALERT_SRC) 1 = true ∧ e.flt.pendingRecords.length = d.flt.pendingRecords.length + 1 := by
  obtain ⟨hread, -, hrest⟩ := railReading_spec r mv qa d
  dsimp only
  rw [pmbusPoll, if_pos rfl]
  dsimp only
  rw [if_pos rfl]
  generalize railReading r mv qa d = x at *
  have hlen := x.record_length 0x16 4 (256 + r) 6 none
  have hrecord : (x.record 0x16 4 (256 + r) 6).regs = x.regs := rfl
  have hpwr : (x.record 0x16 4 (256 + r) 6).pwr = x.pwr := rfl
  generalize x.record 0x16 4 (256 + r) 6 = y at *
  obtain ⟨-, hkeep, -⟩ := y.alert_spec 1
  refine ⟨hread.of_same ?_ ?_, y.alert_bit, ?_⟩
  · rw [hkeep _ (by simp only [List.mem_cons, List.not_mem_nil, or_false, PINS_ALERT_SRC, PCIE_INT_CAUSE, PMB_RAIL_STAT]; omega),
      Dev.rd_of_regs hrecord]
  · rw [y.alert_pwr, hpwr]
  · rw [y.alert_flt, hlen, hrest]

/-! ### COMM for 100 µs (R450) -/

theorem commTimeout_of_none {r : Nat} {d : Dev} (h : kvGet? d.pwr.commTick r = none) : commTimeout r d = d := by
  unfold commTimeout
  rw [h]

theorem commTimeout_of_early {r t : Nat} {d : Dev} (h : kvGet? d.pwr.commTick r = some t) (ht : d.time.tb < t + 80000) : commTimeout r d = d := by
  unfold commTimeout
  rw [h]
  exact if_neg fun hc => by simp only [usTicks] at hc; omega

/-- The failures of a rail are forgotten. -/
def commForgotten (r : Nat) (d : Dev) : Dev := { d with pwr := { d.pwr with commTick := kvDel d.pwr.commTick r } }

theorem commTimeout_of_due {r t : Nat} {d : Dev} (h : kvGet? d.pwr.commTick r = some t) (ht : t + 80000 ≤ d.time.tb)
    (hc : bitOf (d.rd (PMB_RAIL_STAT r)) 15 = true) : commTimeout r d =
      if r < 12 then railPhases true r (List.range 12) (commForgotten r d) else memPhaseEvent true r 63 (commForgotten r d) := by
  unfold commTimeout
  rw [h]
  exact if_pos ⟨ht, hc⟩

theorem commTimeout_field {r t : Nat} (hr : r < 12) {d : Dev} (h : kvGet? d.pwr.commTick r = some t) (ht : t + 80000 ≤ d.time.tb)
    (hc : bitOf (d.rd (PMB_RAIL_STAT r)) 15 = true) : ∀ p, p < 12 → (commTimeout r d).senseFailed (12 * r + p) = true := by
  intro p hp
  have hmem : p ∈ (List.range 12).filter (· < 12) := List.mem_filter.2 ⟨List.mem_range.2 hp, by simpa using hp⟩
  rw [commTimeout_of_due h ht hc, if_pos hr, railPhases, if_pos hr, ← phaseLost_true]
  refine (phaseEvent_foldl true (g := fun p => 12 * r + p) (fun q hq => ?_) _).2 p hmem
  have := List.mem_range.1 (List.mem_of_mem_filter hq)
  omega

theorem commTimeout_mem {r t : Nat} (hr : 12 ≤ r) {d : Dev} (h : kvGet? d.pwr.commTick r = some t) (ht : t + 80000 ≤ d.time.tb)
    (hc : bitOf (d.rd (PMB_RAIL_STAT r)) 15 = true) (hl : d.pwr.memLost.contains (64 * (r - 12) + 63) = false) :
    MemPhaseShown (commTimeout r d).pwr.memLost (64 * (r - 12) + 63) d (commTimeout r d) := by
  rw [commTimeout_of_due h ht hc, if_neg (by omega)]
  exact memPhaseEvent_lost (d := commForgotten r d) hl

/-! ### SMBALERT (R447) -/

theorem smbAlert_spec (d : Dev) :
    let e := smbAlert d
    e.rd PMB_ALERT_COUNT = satAdd (d.rd PMB_ALERT_COUNT) 1 ∧ e.tx = d.tx ++ [.alertResponse] ∧ RegsKeep [PMB_ALERT_COUNT] d e ∧
      e = { d with regs := e.regs, tx := e.tx } :=
  ⟨Dev.rd_bump_same d _, rfl, (regsKeep_wr d _ _).of_regs rfl, rfl⟩

/-! ### A rail fault (R475) -/

/-- The fault's bit is shown in the rail's word. -/
def railFaultShown (r kind : Nat) (d : Dev) : Dev := d.wr (PMB_RAIL_STAT r) (setBit (d.rd (PMB_RAIL_STAT r)) (12 + kind) true)

/-- The fault of a rail is recorded, and FAULT_N asserted. -/
def railFaultNoted (r kind : Nat) (d : Dev) : Dev := ((railFaultShown r kind d).record 0x16 4 (256 + r) 6).fault 1

/-- The memory tier has lost its rail. -/
def memTierLost (d : Dev) : Dev := moduleHealth { d with flt := { d.flt with memTierFault := true } }

/-- What a fault brings down: a field, the memory tier, the SerDes ports, or memory ports. -/
def railFaultEffect (r : Nat) (ports : List Nat) (d : Dev) : Dev :=
  if r < 12 then fieldFailure r 7 d else if r < 14 then memTierLost d
  else if r = 16 then serdesPorts.foldl (fun d c => portFail c d) d
  else ports.foldl (fun d m => if m < 8 then portFail m d else d) d

theorem railFault_of_signalled {r : Nat} (hr : r < 14 ∨ r = 16 ∨ r = 17) (kind : Nat) (ports : List Nat) (d : Dev) :
    railFault r kind ports d = railFaultEffect r ports (railFaultNoted r kind d) := if_pos hr

theorem railFault_of_quiet {r : Nat} (hr : r = 14 ∨ r = 15) (kind : Nat) (ports : List Nat) (d : Dev) :
    railFault r kind ports d = railFaultShown r kind d := if_neg (by omega)

theorem memTierLost_powerKept (d : Dev) : PowerKept d (memTierLost d) :=
  PowerKept.trans (e := { d with flt := { d.flt with memTierFault := true } }) (.of_regs rfl rfl rfl) (moduleHealth_powerKept _)

/-- Without the memory tier the module has failed. -/
theorem memTierLost_state (d : Dev) : (memTierLost d).rdF FLOOR_STATE 2 0 = 4 := by
  have heq : ∃ h north south failed, memTierLost d = healthShown h north south failed { d with flt := { d.flt with memTierFault := true } } ∧ h = 4 :=
    ⟨_, _, _, _, rfl, if_pos (by rw [Bool.or_true, Bool.true_or])⟩
  obtain ⟨h, north, south, failed, he, rfl⟩ := heq
  rw [he]
  exact (healthShown_spec 4 north south failed _).2.2.1

theorem railFaultEffect_powerKept (r : Nat) (ports : List Nat) (d : Dev) : PowerKept d (railFaultEffect r ports d) := by
  have hserdes : ∀ c ∈ serdesPorts, c < 0x34 := by decide
  unfold railFaultEffect
  split
  · next hr => exact fieldFailure_powerKept hr 7 d
  · split
    · exact memTierLost_powerKept d
    · split
      · exact .foldl (fun e c hc => portFail_powerKept (hserdes c hc) e) d
      · refine .foldl (fun e m _ => ?_) d
        split
        · next hm => exact portFail_powerKept (by omega) e
        · exact .refl e

theorem railFaultShown_bit (r : Nat) {kind : Nat} (hk : kind < 3) (d : Dev) :
    bitOf ((railFaultShown r kind d).rd (PMB_RAIL_STAT r)) (12 + kind) = true := by
  rw [railFaultShown, Dev.rd_wr_same, bitOf_setBit_same _ _ _ (by omega)]

theorem railFaultNoted_spec {r kind : Nat} (hr : r < 18) (hk : kind < 3) (d : Dev) :
    let e := railFaultNoted r kind d
    bitOf (e.rd (PMB_RAIL_STAT r)) (12 + kind) = true ∧ bitOf (e.rd PINS_FAULT_SRC) 1 = true ∧
      e.flt.pendingRecords.length = d.flt.pendingRecords.length + 1 := by
  have hbit := railFaultShown_bit r hk d
  have hflt : (railFaultShown r kind d).flt = d.flt := rfl
  dsimp only
  unfold railFaultNoted
  generalize railFaultShown r kind d = x at *
  have hlen := x.record_length 0x16 4 (256 + r) 6 none
  have hrecord : (x.record 0x16 4 (256 + r) 6).regs = x.regs := rfl
  generalize x.record 0x16 4 (256 + r) 6 = y at *
  obtain ⟨hsrc, hkeep, hrest⟩ := y.fault_spec 1
  refine ⟨?_, ?_, ?_⟩
  · rw [hkeep _ (by simp only [List.mem_cons, List.not_mem_nil, or_false, PINS_FAULT_SRC, PCIE_INT_CAUSE, PMB_RAIL_STAT]; omega),
      Dev.rd_of_regs hrecord]
    exact hbit
  · rw [hsrc, bitOf_setBit_same _ _ _ (by decide)]
  · rw [hrest]
    exact hlen.trans (by rw [hflt])

theorem railFault_bit {r kind : Nat} (hr : r < 18) (hk : kind < 3) (ports : List Nat) (d : Dev) :
    bitOf ((railFault r kind ports d).rd (PMB_RAIL_STAT r)) (12 + kind) = true := by
  have hside : PowerSide (PMB_RAIL_STAT r) := by
    unfold PowerSide
    simp only [PMB_RAIL_STAT]
    omega
  by_cases hq : r = 14 ∨ r = 15
  · rw [railFault_of_quiet hq]
    exact railFaultShown_bit r hk d
  · rw [railFault_of_signalled (by omega), (railFaultEffect_powerKept r ports _).same _ hside]
    exact (railFaultNoted_spec hr hk d).1

theorem railFault_quiet_onlyRegs {r : Nat} (hr : r = 14 ∨ r = 15) (kind : Nat) (ports : List Nat) (d : Dev) :
    OnlyRegs [PMB_RAIL_STAT r] d (railFault r kind ports d) := by
  rw [railFault_of_quiet hr]
  exact onlyRegs_wr ..

theorem railFault_signalled {r kind : Nat} (hr : r < 18) (hk : kind < 3) (hs : r < 14 ∨ 16 ≤ r) (ports : List Nat) (d : Dev) :
    let e := railFault r kind ports d
    bitOf (e.rd PINS_FAULT_SRC) 1 = true ∧ d.flt.pendingRecords.length < e.flt.pendingRecords.length := by
  have hside : PowerSide PINS_FAULT_SRC := .inr (.inr (.inl (by decide)))
  obtain ⟨-, hsrc, hlen⟩ := railFaultNoted_spec hr hk d
  dsimp only
  rw [railFault_of_signalled (by omega)]
  have hkept := railFaultEffect_powerKept r ports (railFaultNoted r kind d)
  refine ⟨by rw [hkept.same _ hside, hsrc], ?_⟩
  have := hkept.records
  omega

theorem railFault_field {r : Nat} (hr : r < 12) (kind : Nat) (ports : List Nat) (d : Dev) : r ∈ (railFault r kind ports d).flt.fieldFailed := by
  rw [railFault_of_signalled (by omega), railFaultEffect, if_pos hr]
  exact mem_fieldFailed_fieldFailure hr 7 _

theorem railFault_memTier {r : Nat} (hr : r = 12 ∨ r = 13) (kind : Nat) (ports : List Nat) (d : Dev) :
    (railFault r kind ports d).rdF FLOOR_STATE 2 0 = 4 := by
  rw [railFault_of_signalled (by omega), railFaultEffect, if_neg (by omega), if_pos (by omega)]
  exact memTierLost_state _

end Sys2Proof.Machine

/-! PROOF. Switched domains, and the stretch of a field's clock (12_power_thermal.md R451 to R453, R459 to R461). -/

namespace Sys2Proof.Machine

/-! ### DOM_CTRL (R452) -/

/-- A write of DOM_CTRL by Pewter to the reserved fields' zeros: STATE, BUSY and RANGE are left. -/
theorem domCtrl_eq {agent : Nat} {data : Word} (ha : isPewter agent = true) (hd : fld data 31 9 = 0) (d : Dev) : domCtrl agent data d =
    d.checked .pwr 0x1D8 agent
      [(.state, !d.up || (!bitOf data 8 && decide (fld data 7 0 < 168) && domainInUse d (fld data 7 0))),
       (.busy, d.pwr.domSwitch.isSome || (bitOf data 8 && d.chgState != 0)), (.reserved, false), (.range, decide (167 < fld data 7 0))]
      fun d => { d with pwr := { d.pwr with domSwitch := some (fld data 7 0, bitOf data 8) } }.wrF (Page.base .pwr + 0xC) 4 4 1 := by
  unfold domCtrl Dev.checked
  dsimp only
  rw [ha, hd, Bool.not_true, firstFail_cons_false]
  rfl

/-- The switch of a domain begins. -/
def domSwitching (i : Nat) (on : Bool) (d : Dev) : Dev :=
  { d with pwr := { d.pwr with domSwitch := some (i, on) } }.wrF (Page.base .pwr + 0xC) 4 4 1

theorem domSwitching_spec (i : Nat) (on : Bool) (d : Dev) :
    let e := domSwitching i on d
    e.pwr = { d.pwr with domSwitch := some (i, on) } ∧ bitOf (e.rd (Page.pwr.base + 0xC)) 4 = true ∧ RegsKeep [Page.pwr.base + 0xC] d e ∧
      e = { d with regs := e.regs, pwr := e.pwr } := by
  refine ⟨rfl, ?_, fun a ha => ?_, rfl⟩
  · rw [domSwitching, Dev.rd_wrF_same, bitOf_setFld_inside _ _ (by decide) (by decide) (by decide)]
    rfl
  · exact Dev.rd_wrF_other _ _ _ _ (by simpa using ha)

theorem domCtrl_of_free {agent : Nat} {data : Word} {d : Dev} (ha : isPewter agent = true) (hd : fld data 31 9 = 0) (hu : d.up = true)
    (hi : fld data 7 0 < 168) (hs : d.pwr.domSwitch = none) (hoff : bitOf data 8 = false → domainInUse d (fld data 7 0) = false)
    (hon : bitOf data 8 = true → d.chgState = 0) : domCtrl agent data d = domSwitching (fld data 7 0) (bitOf data 8) d := by
  rw [domCtrl_eq ha hd]
  refine Dev.checked_pass _ _ _ _ _ _ ?_
  simp only [List.mem_cons, List.not_mem_nil, or_false, forall_eq_or_imp, forall_eq]
  refine ⟨?_, ?_, trivial, decide_eq_false (by omega)⟩
  · rw [hu]
    cases hb : bitOf data 8 with
    | true => rfl
    | false => rw [hoff hb, Bool.and_false]; rfl
  · rw [hs]
    cases hb : bitOf data 8 with
    | true => rw [hon hb]; rfl
    | false => rfl

theorem domCtrl_of_used {agent : Nat} {data : Word} {d : Dev} (ha : isPewter agent = true) (hd : fld data 31 9 = 0) (hu : d.up = true)
    (hi : fld data 7 0 < 168) (hoff : bitOf data 8 = false) (huse : domainInUse d (fld data 7 0) = true) :
    domCtrl agent data d = d.reject .pwr 0x1D8 agent .state := by
  rw [domCtrl_eq ha hd]
  refine Dev.checked_fail _ _ _ _ _ _ _ ?_
  rw [hu, hoff, huse, decide_eq_true hi, decide_eq_false (show ¬167 < fld data 7 0 by omega)]
  cases d.pwr.domSwitch.isSome <;> rfl

/-! ### DOMAIN_SWITCH_DONE (R453, R472) -/

theorem domDone_of_none {d : Dev} (h : d.pwr.domSwitch = none) : domDone d = d := by
  unfold domDone
  rw [h]

/-- The switch ends, the domain stands as it was to. -/
def domSwitched (i : Nat) (on : Bool) (d : Dev) : Dev :=
  ({ d with pwr := { d.pwr with domSwitch := none } }.wrF (Page.base .pwr + 0xC) 4 4 0).setDom i on

/-- The PLL of a field whose service domain was switched. -/
def fieldSwitched (f : Nat) (on : Bool) (d : Dev) : Dev :=
  if !on then pllStopped f d
  else if d.clk.refLost then d else (pllLocked f d).wr TIME_DIST_STATUS (setBit (d.rd TIME_DIST_STATUS) f true)

theorem domDone_of_some {i : Nat} {on : Bool} {d : Dev} (h : d.pwr.domSwitch = some (i, on)) : domDone d =
    let x := domSwitched i (on && !(d.pwr.tripOpen && decide (i < 144))) d
    if 144 ≤ i ∧ i < 156 then fieldSwitched (i - 144) on x else x := by
  unfold domDone
  rw [h]
  rfl

theorem Dev.domOn_setDom_other (d : Dev) {i j : Nat} (on : Bool) (h : j ≠ i) : (d.setDom i on).domOn j = d.domOn j := by
  unfold Dev.domOn Dev.setDom
  rw [Dev.rd_wr]
  split
  · next hw =>
    have hbit : j % 32 ≠ i % 32 := by
      simp only [PWR_DOM_ON] at hw
      omega
    rw [bitOf_setBit_other _ _ hbit, hw]
  · rfl

theorem domOn_congr {d e : Dev} {i : Nat} (h : e.rd (PWR_DOM_ON (i / 32)) = d.rd (PWR_DOM_ON (i / 32))) : e.domOn i = d.domOn i := by
  rw [Dev.domOn, h, Dev.domOn]

/-- What the end of a switch shows, the field's PLL apart. -/
structure DomSwitched (i : Nat) (on : Bool) (d e : Dev) : Prop where
  own : e.domOn i = on
  others : ∀ k, k < 168 → k ≠ i → e.domOn k = d.domOn k
  pwr : e.pwr = { d.pwr with domSwitch := none }
  status : bitOf (e.rd (Page.pwr.base + 0xC)) 4 = false

theorem domSwitched_spec (i : Nat) (on : Bool) (d : Dev) :
    let e := domSwitched i on d
    DomSwitched i on d e ∧ e.clk = d.clk ∧ RegsKeep [Page.pwr.base + 0xC, PWR_DOM_ON (i / 32)] d e := by
  have hstatus : Page.pwr.base + 0xC = 0xA00C := rfl
  have hmid (a : Nat) : ({ d with pwr := { d.pwr with domSwitch := none } }.wrF (Page.base .pwr + 0xC) 4 4 0).rd a =
      if a = Page.pwr.base + 0xC then setFld (d.rd (Page.pwr.base + 0xC)) 4 4 0 else d.rd a := Dev.rd_wr ..
  have hpwr : ({ d with pwr := { d.pwr with domSwitch := none } }.wrF (Page.base .pwr + 0xC) 4 4 0).pwr = { d.pwr with domSwitch := none } := rfl
  have hclk : ({ d with pwr := { d.pwr with domSwitch := none } }.wrF (Page.base .pwr + 0xC) 4 4 0).clk = d.clk := rfl
  dsimp only
  unfold domSwitched
  generalize Dev.wrF _ (Page.base .pwr + 0xC) 4 4 0 = x at *
  have hset := regsKeep_wr x (PWR_DOM_ON (i / 32)) (setBit (x.rd (PWR_DOM_ON (i / 32))) (i % 32) on)
  refine ⟨⟨Dev.domOn_setDom_same x i on, fun k hk hne => ?_, hpwr, ?_⟩, hclk, fun a ha => ?_⟩
  · rw [Dev.domOn_setDom_other x on hne]
    refine domOn_congr ((hmid _).trans (if_neg ?_))
    simp only [PWR_DOM_ON]
    omega
  · rw [Dev.setDom, hset _ (by simp only [List.mem_singleton, PWR_DOM_ON]; omega), hmid, if_pos rfl,
      bitOf_setFld_inside _ _ (by decide) (by decide) (by decide)]
    rfl
  · simp only [List.mem_cons, List.not_mem_nil, or_false, not_or] at ha
    rw [Dev.setDom, hset a (by simp [ha.2]), hmid, if_neg ha.1]

theorem fieldSwitched_onlyRegs (f : Nat) (on : Bool) (d : Dev) : OnlyRegs [CLK_FIELD_PLL, TIME_DIST_STATUS] d (fieldSwitched f on d) := by
  unfold fieldSwitched
  split
  · exact (pllStopped_onlyRegs f d).mono (by simp)
  · split
    · exact ⟨RegsOnly.refl d, RegsKeep.refl _ d⟩
    · exact ((pllLocked_onlyRegs f d).mono (by simp)).trans ((onlyRegs_wr _ TIME_DIST_STATUS _).mono (by simp))

/-- The PLL locks with its domain, unless REFCLK is lost, and stops with it. -/
theorem fieldSwitched_bit {f : Nat} (hf : f < 12) (on : Bool) (d : Dev) :
    bitOf ((fieldSwitched f on d).rd CLK_FIELD_PLL) f = if on then bitOf (d.rd CLK_FIELD_PLL) f || !d.clk.refLost else false := by
  unfold fieldSwitched
  cases on with
  | false => exact (pllStopped_bits hf d).1
  | true =>
    cases hr : d.clk.refLost with
    | true => simp
    | false =>
      simp only [Bool.not_true, Bool.false_eq_true, if_false, if_true, Bool.not_false, Bool.or_true]
      rw [Dev.rd_wr_other _ _ (by decide), pllLocked_bit hf]

theorem DomSwitched.of_onlyRegs {i : Nat} {on : Bool} {d e c : Dev} (h : DomSwitched i on d e)
    (ho : OnlyRegs [CLK_FIELD_PLL, TIME_DIST_STATUS] e c) : DomSwitched i on d c := by
  have hout (a : Nat) (h1 : 0xA000 ≤ a) : c.rd a = e.rd a :=
    ho.2 a (by simp only [List.mem_cons, List.not_mem_nil, or_false, CLK_FIELD_PLL, TIME_DIST_STATUS]; omega)
  have hdom (k : Nat) : c.domOn k = e.domOn k := domOn_congr (hout _ (by simp only [PWR_DOM_ON]; omega))
  refine ⟨(hdom i).trans h.own, fun k hk hne => (hdom k).trans (h.others k hk hne), ?_, ?_⟩
  · rw [ho.1]
    exact h.pwr
  · rw [hout _ (by decide)]
    exact h.status

theorem domDone_spec {i : Nat} {on : Bool} {d : Dev} (h : d.pwr.domSwitch = some (i, on)) :
    let e := domDone d
    DomSwitched i (on && !(d.pwr.tripOpen && decide (i < 144))) d e ∧
      (144 ≤ i → i < 156 → bitOf (e.rd CLK_FIELD_PLL) (i - 144) =
        if on then bitOf (d.rd CLK_FIELD_PLL) (i - 144) || !d.clk.refLost else false) ∧
      RegsKeep ([Page.pwr.base + 0xC, PWR_DOM_ON (i / 32)] ++ if 144 ≤ i ∧ i < 156 then [CLK_FIELD_PLL, TIME_DIST_STATUS] else []) d e := by
  obtain ⟨hdom, hclk, hkeep⟩ := domSwitched_spec i (on && !(d.pwr.tripOpen && decide (i < 144))) d
  dsimp only
  rw [domDone_of_some h]
  generalize domSwitched i (on && !(d.pwr.tripOpen && decide (i < 144))) d = x at *
  dsimp only
  split
  · next hfield =>
    have honly := fieldSwitched_onlyRegs (i - 144) on x
    refine ⟨hdom.of_onlyRegs honly, fun _ _ => ?_, (hkeep.mono (by simp)).trans (honly.2.mono (by simp))⟩
    have hstatus : Page.pwr.base = 0xA000 := rfl
    have hpll : x.rd CLK_FIELD_PLL = d.rd CLK_FIELD_PLL :=
      hkeep _ (by simp only [List.mem_cons, List.not_mem_nil, or_false, PWR_DOM_ON, CLK_FIELD_PLL]; omega)
    rw [fieldSwitched_bit (by omega), hpll, hclk]
  · next hfield => exact ⟨hdom, fun h1 h2 => absurd ⟨h1, h2⟩ hfield, by simpa using hkeep⟩

/-! ### A stretch begins (R459, R460) -/

theorem domainField_lt {i : Nat} (hi : i < 168) : domainField i < 12 := by
  unfold domainField
  split_ifs
  · omega
  · omega
  · omega
  · omega
  · obtain ⟨k, hk⟩ : ∃ k, i - 164 = k := ⟨_, rfl⟩
    rw [hk]
    have hlt : k < 4 := by omega
    interval_cases k <;> decide

/-- The detector of a domain has tripped. -/
def tripNoted (dom : Nat) (d : Dev) : Dev := { d with pwr := { d.pwr with tripped := setIns d.pwr.tripped dom } }

/-- The clock of a field is stretched, and the trip is counted. -/
def stretchBegun (f : Nat) (d : Dev) : Dev :=
  ibexVoid f ({ d with pwr := { d.pwr with stretched := setIns d.pwr.stretched f } }.bump PWR_DROOP_COUNT)

theorem droopTrip_eq (dom : Nat) (d : Dev) : droopTrip dom d =
    if d.pwr.stretched.contains (domainField dom) then tripNoted dom d else showHolds (stretchBegun (domainField dom) (tripNoted dom d)) := rfl

theorem showHolds_pwr (d : Dev) : (showHolds d).pwr = d.pwr := by rw [(showHolds_onlyRegs d).1]

theorem seamHeld_of_stretched {f : Nat} (hf : f < 12) {d : Dev} (h : f ∈ d.pwr.stretched) : ∀ g ∈ fieldSeams f, seamHeld d g.1 g.2 = true := by
  intro g hg
  rw [seamHeld, Bool.or_eq_true, List.any_eq_true]
  refine .inr ⟨f, List.mem_append_right _ h, ?_⟩
  obtain heq | heq := (fieldSeams_spec hf g hg).2 <;> simp [heq]

theorem seamHeld_of_free {d : Dev} (hd : d.clk.dieHold = false) (hf : d.clk.fieldHold = []) (hs : d.pwr.stretched = []) (f : Nat) (south : Bool) :
    seamHeld d f south = false := by
  rw [seamHeld, hd, hf, hs]
  rfl

/-- A detector that trips while its field is not stretched: the count, the stretch and the holds of the field's segments. -/
theorem droopTrip_of_new {dom : Nat} (hdom : dom < 168) {d : Dev} (h : d.pwr.stretched.contains (domainField dom) = false) :
    let e := droopTrip dom d
    dom ∈ e.pwr.tripped ∧ domainField dom ∈ e.pwr.stretched ∧ e.rd PWR_DROOP_COUNT = satAdd (d.rd PWR_DROOP_COUNT) 1 ∧
      RegsKeep (PWR_DROOP_COUNT :: seamRegs) d e ∧
      ∀ g ∈ fieldSeams (domainField dom), seamPresent d g.1 g.2 = true → bitOf (e.rd (seamReg g.1 g.2)) 9 = true := by
  have hf := domainField_lt hdom
  dsimp only
  rw [droopTrip_eq, h, if_neg Bool.false_ne_true]
  generalize domainField dom = f at *
  have hcount : (stretchBegun f (tripNoted dom d)).rd PWR_DROOP_COUNT = satAdd (d.rd PWR_DROOP_COUNT) 1 := Dev.rd_bump_same ..
  have hkeep : RegsKeep [PWR_DROOP_COUNT] d (stretchBegun f (tripNoted dom d)) := (regsKeep_wr _ _ _).of_regs rfl
  have htrip : dom ∈ (stretchBegun f (tripNoted dom d)).pwr.tripped := (mem_setIns ..).2 (.inl rfl)
  have hstretch : f ∈ (stretchBegun f (tripNoted dom d)).pwr.stretched := (mem_setIns ..).2 (.inl rfl)
  generalize stretchBegun f (tripNoted dom d) = x at *
  have hholds := (showHolds_onlyRegs x).2
  rw [showHolds_pwr]
  refine ⟨htrip, hstretch, ?_, (hkeep.mono (by simp)).trans (hholds.mono (List.subset_cons_self ..)), fun g hg hp => ?_⟩
  · rw [hholds _ (not_mem_seamRegs (by decide)), hcount]
  · have hpx : seamPresent x g.1 g.2 = true := by
      have hge := fieldBase_le_seamReg g.1 g.2
      rw [seamPresent, hkeep _ (by simp only [List.mem_singleton, PWR_DROOP_COUNT]; simp only [fieldBase] at hge; omega)]
      exact hp
    rw [showHolds_held (fieldSeams_spec hf g hg).1 hpx, seamHeld_of_stretched hf hstretch g hg]

/-- A detector that trips during a stretch is noted. -/
theorem droopTrip_of_stretched {dom : Nat} {d : Dev} (h : d.pwr.stretched.contains (domainField dom) = true) : droopTrip dom d = tripNoted dom d :=
  if_pos h

/-! ### A stretch ends (R459, R460) -/

theorem droopEnd_of_none {f : Nat} {d : Dev} (h : d.pwr.stretched.contains f = false) (cycles : Nat) : droopEnd f cycles d = d :=
  if_neg (by rw [h]; exact Bool.false_ne_true)

/-- The stretch of a field is over, and its cycles are counted. -/
def stretchOver (f cycles : Nat) (d : Dev) : Dev :=
  { d with pwr := { d.pwr with
      stretched := setDel d.pwr.stretched f, tripped := d.pwr.tripped.filter fun i => domainField i != f,
      droopEsc := setDel d.pwr.droopEsc f, escalated := kvDel d.pwr.escalated f } }.bumpBy PWR_DROOP_CYCLES cycles

theorem droopEnd_of_stretched {f : Nat} {d : Dev} (h : d.pwr.stretched.contains f = true) (cycles : Nat) :
    droopEnd f cycles d = dutyRefreshAll (showHolds (stretchOver f cycles d)) := if_pos h

theorem setDel_eq_nil {l : List Nat} {f : Nat} (h : ∀ g ∈ l, g = f) : setDel l f = [] :=
  List.filter_eq_nil_iff.2 fun g hg => by simp [h g hg]

theorem droopEnd_spec {f : Nat} (hf : f < 12) (cycles : Nat) {d : Dev} (h : d.pwr.stretched.contains f = true) :
    let e := droopEnd f cycles d
    f ∉ e.pwr.stretched ∧ f ∉ e.pwr.droopEsc ∧ kvGet? e.pwr.escalated f = none ∧
      e.rd PWR_DROOP_CYCLES = satAdd (d.rd PWR_DROOP_CYCLES) cycles ∧
      (d.clk.dieHold = false → d.clk.fieldHold = [] → (∀ g ∈ d.pwr.stretched, g = f) →
        ∀ g ∈ fieldSeams f, seamPresent d g.1 g.2 = true → bitOf (e.rd (seamReg g.1 g.2)) 9 = false) := by
  have hcycles : (stretchOver f cycles d).rd PWR_DROOP_CYCLES = satAdd (d.rd PWR_DROOP_CYCLES) cycles := Dev.rd_wr_same ..
  have hkeep : RegsKeep [PWR_DROOP_CYCLES] d (stretchOver f cycles d) := (regsKeep_wr _ _ _).of_regs rfl
  have hclk : (stretchOver f cycles d).clk = d.clk := rfl
  have hstretched : (stretchOver f cycles d).pwr.stretched = setDel d.pwr.stretched f := rfl
  have hesc : (stretchOver f cycles d).pwr.droopEsc = setDel d.pwr.droopEsc f := rfl
  have htick : (stretchOver f cycles d).pwr.escalated = kvDel d.pwr.escalated f := rfl
  dsimp only
  rw [droopEnd_of_stretched h]
  generalize stretchOver f cycles d = x at *
  have hholds := (showHolds_onlyRegs x).2
  have hpwr := showHolds_pwr x
  have hheld (g : Nat × Bool) (hg : g.1 < 12) (hp : seamPresent x g.1 g.2 = true) := showHolds_held hg hp
  generalize showHolds x = y at *
  obtain ⟨hframe, -, -, -⟩ := dutyRefreshAll_spec y
  rw [hframe.pwr, hpwr, hstretched, hesc, htick]
  refine ⟨by simp, by simp, kvGet?_del_same _ _, ?_, fun hdie hfield honly g hg hp => ?_⟩
  · rw [hframe.keep _ (not_mem_dutyRegs (by decide)), hholds _ (not_mem_seamRegs (by decide)), hcycles]
  · have hge := fieldBase_le_seamReg g.1 g.2
    simp only [fieldBase] at hge
    have hpx : seamPresent x g.1 g.2 = true := by
      rw [seamPresent, hkeep _ (by simp only [List.mem_singleton, PWR_DROOP_CYCLES]; omega)]
      exact hp
    rw [hframe.keep _ (not_mem_dutyRegs (by omega)), hheld g (fieldSeams_spec hf g hg).1 hpx]
    exact seamHeld_of_free (by rw [hclk, hdie]) (by rw [hclk, hfield]) (by rw [hstretched, setDel_eq_nil honly]) _ _

/-! ### Escalation (R461) -/

theorem stretchEsc_of_kept {f : Nat} {d : Dev} (h : ¬(d.pwr.stretched.contains f = true ∧ d.pwr.droopEsc.contains f = false)) :
    stretchEsc f d = d := if_neg fun hc => h ⟨hc.1, by simpa using hc.2⟩

/-- The escalation of a stretch is recorded, counted and noted with its tick. -/
def stretchEscalated (f : Nat) (d : Dev) : Dev :=
  let d := (d.record 0x16 11 f 4).bump PWR_STRETCH_ESC_COUNT
  { d with pwr := { d.pwr with droopEsc := setIns d.pwr.droopEsc f, escalated := kvPut d.pwr.escalated f d.time.tb } }

theorem stretchEsc_of_long {f : Nat} {d : Dev} (hs : d.pwr.stretched.contains f = true) (he : d.pwr.droopEsc.contains f = false) :
    stretchEsc f d = dutyRefreshAll (stretchEscalated f d) := if_pos ⟨hs, by rw [he]; rfl⟩

/-- An escalated stretch cuts the duty to 8. -/
theorem dutyRequested_of_escalated {f : Nat} {d : Dev} (h : f ∈ d.pwr.droopEsc) : d.dutyRequested f ≤ 8 := by
  unfold Dev.dutyRequested
  rw [if_pos (List.contains_iff_mem.2 h)]
  exact (min_le_left _ _).trans (min_le_right _ _)

theorem stretchEsc_spec {f : Nat} (hf : f < 12) {d : Dev} (hs : d.pwr.stretched.contains f = true) (he : d.pwr.droopEsc.contains f = false) :
    let e := stretchEsc f d
    f ∈ e.pwr.droopEsc ∧ kvGet? e.pwr.escalated f = some d.time.tb ∧ e.rdF (PWR_FIELD_PWR f) 14 10 ≤ 8 ∧
      e.rd PWR_STRETCH_ESC_COUNT = satAdd (d.rd PWR_STRETCH_ESC_COUNT) 1 ∧ bitOf (e.rd PWR_THR_CAUSE) 1 = true := by
  have hcount : (stretchEscalated f d).rd PWR_STRETCH_ESC_COUNT = satAdd (d.rd PWR_STRETCH_ESC_COUNT) 1 := Dev.rd_bump_same ..
  have hesc : f ∈ (stretchEscalated f d).pwr.droopEsc := (mem_setIns ..).2 (.inl rfl)
  have htick : kvGet? (stretchEscalated f d).pwr.escalated f = some d.time.tb := kvGet?_put_same ..
  dsimp only
  rw [stretchEsc_of_long hs he]
  generalize stretchEscalated f d = x at *
  obtain ⟨hframe, hduty, hcause, -⟩ := dutyRefreshAll_spec x
  rw [hframe.pwr]
  refine ⟨hesc, htick, ?_, ?_, ?_⟩
  · rw [hduty f hf]
    exact (Nat.mod_le _ _).trans (dutyRequested_of_escalated hesc)
  · rw [hframe.keep _ (not_mem_dutyRegs (by decide)), hcount]
  · rw [hcause, List.isEmpty_eq_false_iff_exists_mem.2 ⟨f, hesc⟩]
    rfl

/-- Detectors of a field are still tripped 1 ms after escalation. -/
def DroopPersists (f : Nat) (still : Bool) (d : Dev) : Prop :=
  still = true ∧ d.flt.fieldFailed.contains f = false ∧ ∃ t, kvGet? d.pwr.escalated f = some t ∧ t + 800000 ≤ d.time.tb

theorem droopPersist_of_kept {f : Nat} {still : Bool} {d : Dev} (h : ¬DroopPersists f still d) : droopPersist f still d = d := by
  unfold droopPersist
  split
  · next t ht => exact if_neg fun hc => h ⟨hc.2.1, by simpa using hc.2.2, t, ht, by simpa only [usTicks] using hc.1⟩
  · rfl

theorem droopPersist_of_fails {f : Nat} (hf : f < 12) {still : Bool} {d : Dev} (h : DroopPersists f still d) :
    f ∈ (droopPersist f still d).flt.fieldFailed := by
  obtain ⟨hstill, hfailed, t, ht, hdue⟩ := h
  unfold droopPersist
  rw [ht]
  dsimp only
  rw [if_pos ⟨by simpa only [usTicks] using hdue, hstill, by rw [hfailed]; rfl⟩]
  exact mem_fieldFailed_fieldFailure hf 6 _

end Sys2Proof.Machine

/-! PROOF. The power sample, the requests of lower and higher OPPs, and the controllers of the limits (12_power_thermal.md R463 to
R466, R469, 11_clocking.md R434). -/

namespace Sys2Proof.Machine

/-! ### POWER_SAMPLE (R463) -/

/-- The power of all rails in watts. -/
def watts (d : Dev) : Nat := ((List.range 18).foldl (fun n r => n + d.railPower r) 0) / 4000

/-- The samples of the last minute, the new one first. -/
def samplesWith (d : Dev) : List (Nat × Nat) :=
  (d.time.tb, watts d) :: d.pwr.samples.filter fun s => decide (d.time.tb - usTicks 60000000 ≤ s.1)

/-- The sample is noted; what was active since the last one becomes the activity of the past sample. -/
def sampleNoted (d : Dev) : Dev :=
  { d with pwr := { d.pwr with samples := samplesWith d, activity := [], lastActivity := d.pwr.activity } }

/-- The power and its averages are shown. -/
def powerShown (d : Dev) (now avg10 avgSust : Nat) : Dev :=
  ((d.wrN PWR_POWER_NOW now).wrN PWR_POWER_10MS avg10).wrN PWR_POWER_SUST avgSust

theorem powerShown_spec (d : Dev) (now avg10 avgSust : Nat) :
    let e := powerShown d now avg10 avgSust
    e.rd PWR_POWER_NOW = w32 now ∧ e.rd PWR_POWER_10MS = w32 avg10 ∧ e.rd PWR_POWER_SUST = w32 avgSust ∧
      OnlyRegs [PWR_POWER_NOW, PWR_POWER_10MS, PWR_POWER_SUST] d e := by
  refine ⟨?_, ?_, Dev.rd_wrN_same .., rfl, fun a ha => ?_⟩
  · rw [powerShown, Dev.rd_wrN_other _ _ (by decide), Dev.rd_wrN_other _ _ (by decide), Dev.rd_wrN_same]
  · rw [powerShown, Dev.rd_wrN_other _ _ (by decide), Dev.rd_wrN_same]
  · simp only [List.mem_cons, List.not_mem_nil, or_false, not_or] at ha
    obtain ⟨h1, h2, h3⟩ := ha
    rw [powerShown, Dev.rd_wrN_other _ _ h3, Dev.rd_wrN_other _ _ h2, Dev.rd_wrN_other _ _ h1]

/-- The limits are shown, and a throttled sample is counted. -/
def limitsShown (d : Dev) : Dev :=
  let d := limitsRefresh d
  if (List.range 12).any fun f => decide (d.rdF (PWR_FIELD_PWR f) 14 10 < 16) then d.bumpBy PWR_THROTTLE_US 10 else d

theorem limitsShown_onlyRegs (d : Dev) : OnlyRegs [PWR_LIMITS, PWR_THROTTLE_US] d (limitsShown d) := by
  have hlim : OnlyRegs [PWR_LIMITS, PWR_THROTTLE_US] d (limitsRefresh d) := (onlyRegs_wr d PWR_LIMITS _).mono (by simp)
  unfold limitsShown
  dsimp only
  split
  · exact hlim.trans ((onlyRegs_wr _ PWR_THROTTLE_US _).mono (by simp))
  · exact hlim

theorem powerSample_eq (d : Dev) : ∃ flag, powerSample d = limitsShown (powerShown (sampleNoted d) (min (watts d) 65535 + b2n flag * 2 ^ 31)
    (min 65535 (avgSince (samplesWith d) (d.time.tb - 8000000)))
    (min 65535 (avgSince (samplesWith d) (d.time.tb - 800000000 * d.rdF PWR_SUST_CAP 23 16)))) := by
  have hticks (s : Nat) : usTicks (1000000 * s) = 800000000 * s := by
    unfold usTicks
    omega
  unfold powerSample
  extract_lets w est old smp src d1 d2 d3 d4 d5
  have hnoted : d1 = sampleNoted d := rfl
  have hcap : d3.rdF PWR_SUST_CAP 23 16 = d.rdF PWR_SUST_CAP 23 16 := by
    rw [Dev.rdF, Dev.rd_wrN_other _ _ (by decide), Dev.rd_wrN_other _ _ (by decide)]
    rfl
  have htime2 : d2.time = d.time := Dev.wr_time ..
  have htime3 : d3.time = d.time := (Dev.wr_time ..).trans htime2
  have hshown : d4 = powerShown d1 (min w 65535 + b2n est * 2 ^ 31) (min 65535 (avgSince smp (d2.time.tb - usTicks 10000)))
      (min 65535 (avgSince smp (d3.time.tb - usTicks (1000000 * d3.rdF PWR_SUST_CAP 23 16)))) := rfl
  rw [htime2, htime3, hcap, hticks, hnoted] at hshown
  exact ⟨est, congrArg limitsShown hshown⟩

/-- What the sample shows. -/
theorem powerSample_spec (d : Dev) :
    let e := powerSample d
    e.rdF PWR_POWER_NOW 15 0 = min (watts d) 65535 ∧ e.pwr.activity = [] ∧ e.pwr.lastActivity = d.pwr.activity ∧
      e.rdF PWR_POWER_10MS 15 0 = min 65535 (avgSince e.pwr.samples (d.time.tb - 8000000)) ∧
      e.rdF PWR_POWER_SUST 15 0 = min 65535 (avgSince e.pwr.samples (d.time.tb - 800000000 * d.rdF PWR_SUST_CAP 23 16)) ∧
      (∃ rest, e.pwr.samples = (d.time.tb, watts d) :: rest) ∧
      RegsKeep [PWR_POWER_NOW, PWR_POWER_10MS, PWR_POWER_SUST, PWR_LIMITS, PWR_THROTTLE_US] d e := by
  obtain ⟨flag, heq⟩ := powerSample_eq d
  dsimp only
  rw [heq]
  clear heq
  generalize havg : min 65535 (avgSince (samplesWith d) (d.time.tb - 8000000)) = avg
  generalize hsust : min 65535 (avgSince (samplesWith d) (d.time.tb - 800000000 * d.rdF PWR_SUST_CAP 23 16)) = sust
  obtain ⟨hnow, h10, hs, hshown⟩ := powerShown_spec (sampleNoted d) (min (watts d) 65535 + b2n flag * 2 ^ 31) avg sust
  generalize powerShown _ _ _ _ = x at *
  have hlim := limitsShown_onlyRegs x
  have hpwr : (limitsShown x).pwr = (sampleNoted d).pwr := by rw [hlim.1, hshown.1]
  rw [hpwr, Dev.rdF, Dev.rdF, Dev.rdF, hlim.2 _ (by decide), hlim.2 _ (by decide), hlim.2 _ (by decide), hnow, h10, hs,
    fld_w32 _ (by decide), fld_w32 _ (by decide), fld_w32 _ (by decide)]
  refine ⟨by omega, rfl, rfl, ?_, ?_, ⟨_, rfl⟩, ?_⟩
  · rw [show (sampleNoted d).pwr.samples = samplesWith d from rfl, havg]
    omega
  · rw [show (sampleNoted d).pwr.samples = samplesWith d from rfl, hsust]
    omega
  · have hnoted : RegsKeep [PWR_POWER_NOW, PWR_POWER_10MS, PWR_POWER_SUST, PWR_LIMITS, PWR_THROTTLE_US] d (sampleNoted d) := fun _ _ => rfl
    exact (hnoted.trans (hshown.2.mono (by simp))).trans (hlim.2.mono (by simp))

/-! ### Requests of OPPs (11_clocking.md R434, R469) -/

theorem oppBelow_lt {d : Dev} {opp e : Nat} (h : d.oppBelow opp = some e) : e < opp :=
  List.mem_range.1 (List.mem_filter.1 (List.mem_of_getLast? h)).1

theorem oppAbove_bounds {d : Dev} {opp e : Nat} (h : d.oppAbove opp = some e) : opp < e ∧ e < 8 := by
  obtain ⟨hr, hp⟩ := List.mem_filter.1 (List.mem_of_head? h)
  rw [Bool.and_eq_true, decide_eq_true_eq] at hp
  exact ⟨hp.1, List.mem_range.1 hr⟩

theorem curOpp_lt (d : Dev) : d.curOpp < 8 := fld_lt _ 2 0

theorem foldl_min_le (l : List Nat) (m : Nat) : l.foldl min m ≤ m := by
  induction l generalizing m with
  | nil => exact le_rfl
  | cons k t ih => exact (ih _).trans (min_le_left _ _)

theorem oppAllowed_le (d : Dev) (opp : Nat) : d.oppAllowed opp ≤ opp := foldl_min_le _ _

/-- Requests of OPPs that do not exist take no part in a minimum. -/
theorem foldl_min_filter_congr {p q : Nat → Bool} (h : ∀ k, k < 8 → p k = q k) (l : List Nat) {m : Nat} (hm : m < 8) :
    (l.filter p).foldl min m = (l.filter q).foldl min m := by
  have hstep (r : Nat → Bool) (k m : Nat) (t : List Nat) (hk : ¬k < 8) (hm : m < 8) :
      ((k :: t).filter r).foldl min m = (t.filter r).foldl min m := by
    rw [List.filter_cons]
    split
    · rw [List.foldl_cons, min_eq_left (by omega)]
    · rfl
  induction l generalizing m with
  | nil => rfl
  | cons k t ih =>
    by_cases hk : k < 8
    · rw [List.filter_cons, List.filter_cons, h k hk]
      split
      · exact ih (by omega)
      · exact ih hm
    · rw [hstep p k m t hk hm, hstep q k m t hk hm]
      exact ih hm

theorem oppAllowed_congr {d e : Dev} {opp : Nat} (ho : opp < 8) (hp : e.pwr = d.pwr) (hr : ∀ k, k < 8 → e.rd (CLK_OPP k) = d.rd (CLK_OPP k)) :
    e.oppAllowed opp = d.oppAllowed opp := by
  unfold Dev.oppAllowed
  rw [hp]
  exact foldl_min_filter_congr (fun k hk => by rw [hr k hk]) _ ho

theorem oppAllowed_of_free {d : Dev} (h : d.pwr.oppReq = []) (opp : Nat) : d.oppAllowed opp = opp := by
  rw [Dev.oppAllowed, h]
  rfl

/-- A request lets the registers from THERM on, and all of the power control but the requests and the base set point, stand. -/
structure OppKept (d e : Dev) : Prop where
  keep : ∀ a, 0xB000 ≤ a → e.rd a = d.rd a
  pwr : e.pwr = { d.pwr with oppReq := e.pwr.oppReq, baseMv := e.pwr.baseMv }

theorem OppKept.refl (d : Dev) : OppKept d d := ⟨fun _ _ => rfl, rfl⟩

theorem OppKept.trans {a b c : Dev} (h : OppKept a b) (g : OppKept b c) : OppKept a c where
  keep x hx := (g.keep x hx).trans (h.keep x hx)
  pwr := by rw [g.pwr, h.pwr]

theorem OppKept.of_regsKeep {l : List Nat} {d e : Dev} (hl : ∀ a ∈ l, a < 0xB000) (h : RegsKeep l d e)
    (hp : e.pwr = { d.pwr with baseMv := e.pwr.baseMv }) : OppKept d e where
  keep a ha := h a fun hm => absurd (hl a hm) (by omega)
  pwr := by rw [hp]

theorem OppKept.of_onlyRegs {l : List Nat} {d e : Dev} (hl : ∀ a ∈ l, a < 0xB000) (h : OnlyRegs l d e) : OppKept d e :=
  .of_regsKeep hl h.2 (by rw [h.1])

theorem causeRefresh_oppKept (d : Dev) : OppKept d (causeRefresh d) := .of_onlyRegs (by decide) (causeRefresh_onlyRegs d)

theorem causeRefresh_oppReq (d : Dev) : (causeRefresh d).pwr.oppReq = d.pwr.oppReq := by rw [(causeRefresh_onlyRegs d).1]

/-- What a request leaves: the other requests, and all that `OppKept` names. -/
def OppAsked (d e : Dev) : Prop := OppKept d e ∧ e.pwr.oppReq = d.pwr.oppReq

theorem chgArm_asked (opp : Nat) (d : Dev) : OppAsked d (chgArm opp false none d) := by
  by_cases h : opp = d.curOpp
  · rw [chgArm_of_same h]
    exact ⟨.refl d, rfl⟩
  · obtain ⟨-, -, -, hpwr, -, -, hkeep, -⟩ := chgArm_spec h
    exact ⟨.of_regsKeep (by decide) hkeep (by rw [hpwr]), by rw [hpwr]⟩

theorem chgRequest_asked (agent opp : Nat) (d : Dev) : OppAsked d (chgRequest agent opp false none d).1 := by
  unfold chgRequest
  split
  · next c _ => exact ⟨.of_regsKeep (by decide) (Dev.reject_regs d .clk 0x124 agent c) (by rw [Dev.reject_only]), by rw [Dev.reject_only]⟩
  · exact chgArm_asked _ d

/-- A change to an OPP is armed. -/
structure OppArmed (opp : Nat) (e : Dev) : Prop where
  armed : e.chgState = 1
  heading : e.rdF CLK_CHG_STATE 6 4 = opp

theorem OppArmed.of_rd {opp : Nat} {d e : Dev} (h : OppArmed opp d) (hr : e.rd CLK_CHG_STATE = d.rd CLK_CHG_STATE) : OppArmed opp e where
  armed := by rw [Dev.chgState, Dev.rdF, hr]; exact h.armed
  heading := by rw [Dev.rdF, hr]; exact h.heading

theorem chgRequest_armed {agent opp : Nat} {d : Dev} (hc : firstFail (chgChecks opp d) = none) (hne : d.oppAllowed opp ≠ d.curOpp)
    (hlt : opp < 8) : let x := chgRequest agent opp false none d
    x.2 = true ∧ OppArmed (d.oppAllowed opp) x.1 ∧ ∀ a, a ∉ chgRegs ++ vsetRegs → x.1.rd a = d.rd a := by
  have hx : chgRequest agent opp false none d = (chgArm (d.oppAllowed opp) false none d, true) := by
    unfold chgRequest
    rw [hc]
  have hle := oppAllowed_le d opp
  obtain ⟨hstate, -, -, -, -, -, hkeep, -⟩ := chgArm_spec hne
  dsimp only
  rw [hx]
  refine ⟨rfl, ⟨?_, ?_⟩, hkeep⟩
  · rw [Dev.chgState, Dev.rdF, hstate, fld_w32 _ (by decide)]
    omega
  · rw [Dev.rdF, hstate, fld_w32 _ (by decide)]
    omega

/-! ### A lower OPP (R469) -/

/-- The request of a cause is noted. -/
def oppNoted (cause e : Nat) (d : Dev) : Dev := { d with pwr := { d.pwr with oppReq := kvPut d.pwr.oppReq cause e } }

theorem oppDown_of_some {cause e : Nat} {d : Dev} (h : d.oppBelow d.curOpp = some e) : oppDown cause d =
    let x := chgRequest 0x10 e false none (d.bump PWR_OPP_DOWN_COUNT)
    (causeRefresh (oppNoted cause e x.1), x.2) := by
  unfold oppDown
  rw [h]
  rfl

theorem oppDown_kept (cause : Nat) (d : Dev) : OppKept d (oppDown cause d).1 := by
  cases h : d.oppBelow d.curOpp with
  | none =>
    unfold oppDown
    rw [h]
    exact .refl d
  | some e =>
    rw [oppDown_of_some h]
    have hbump : OppKept d (d.bump PWR_OPP_DOWN_COUNT) := .of_onlyRegs (by decide) (onlyRegs_wr d PWR_OPP_DOWN_COUNT _)
    have hask := (chgRequest_asked 0x10 e (d.bump PWR_OPP_DOWN_COUNT)).1
    have hnoted (x : Dev) : OppKept x (oppNoted cause e x) := ⟨fun _ _ => rfl, rfl⟩
    exact ((hbump.trans hask).trans (hnoted _)).trans (causeRefresh_oppKept _)

/-- What a step down to the next lower OPP `e` leaves. -/
structure OppLowered (cause e : Nat) (d x : Dev) : Prop where
  armed : OppArmed (d.oppAllowed e) x
  request : kvGet? x.pwr.oppReq cause = some e
  count : x.rd PWR_OPP_DOWN_COUNT = satAdd (d.rd PWR_OPP_DOWN_COUNT) 1

theorem oppDown_lowered (cause : Nat) {e : Nat} {d : Dev} (hb : d.oppBelow d.curOpp = some e) (hc : firstFail (chgChecks e d) = none) :
    OppLowered cause e d (oppDown cause d).1 ∧ (oppDown cause d).2 = true := by
  have hlt := oppBelow_lt hb
  have hcur := curOpp_lt d
  have hle := oppAllowed_le d e
  have hcount : (d.bump PWR_OPP_DOWN_COUNT).rd PWR_OPP_DOWN_COUNT = satAdd (d.rd PWR_OPP_DOWN_COUNT) 1 := Dev.rd_bump_same ..
  have hkeep : OnlyRegs [PWR_OPP_DOWN_COUNT] d (d.bump PWR_OPP_DOWN_COUNT) := onlyRegs_wr d PWR_OPP_DOWN_COUNT _
  rw [oppDown_of_some hb]
  dsimp only
  generalize d.bump PWR_OPP_DOWN_COUNT = y at *
  have hlow (a : Nat) (ha : a < 0xA000) : y.rd a = d.rd a := hkeep.2 a (by simp only [List.mem_singleton, PWR_OPP_DOWN_COUNT]; omega)
  have hallow : y.oppAllowed e = d.oppAllowed e :=
    oppAllowed_congr (by omega) (by rw [hkeep.1]) fun k hk => hlow _ (by simp only [CLK_OPP]; omega)
  have hchecks : chgChecks e y = chgChecks e d := by
    unfold chgChecks Dev.chgState Dev.rdF
    rw [hlow _ (by decide), hlow _ (by decide), hlow _ (by simp only [CLK_OPP]; omega)]
  have hsame : y.curOpp = d.curOpp := by rw [Dev.curOpp, Dev.rdF, hlow _ (by decide), Dev.curOpp, Dev.rdF]
  obtain ⟨hok, harmed, hregs⟩ := chgRequest_armed (agent := 0x10) (hchecks ▸ hc) (by rw [hallow, hsame]; omega) (by omega)
  rw [hallow] at harmed
  generalize chgRequest 0x10 e false none y = x at *
  have hrefresh := causeRefresh_onlyRegs (oppNoted cause e x.1)
  refine ⟨⟨harmed.of_rd (hrefresh.2 _ (by decide)), ?_, ?_⟩, hok⟩
  · rw [hrefresh.1]
    exact kvGet?_put_same ..
  · rw [hrefresh.2 _ (by decide), show (oppNoted cause e x.1).rd PWR_OPP_DOWN_COUNT = x.1.rd PWR_OPP_DOWN_COUNT from rfl,
      hregs _ (by decide), hcount]

/-! ### A higher OPP (R469) -/

theorem oppRaise_asked (d : Dev) : OppAsked d (oppRaise d).1 := by
  have hrefresh (x : Dev) (h : OppAsked d x) : OppAsked d (causeRefresh x) :=
    ⟨h.1.trans (causeRefresh_oppKept x), (causeRefresh_oppReq x).trans h.2⟩
  unfold oppRaise
  split
  · split
    · exact hrefresh _ (chgRequest_asked ..)
    · exact hrefresh d ⟨.refl d, rfl⟩
  · exact hrefresh d ⟨.refl d, rfl⟩

/-- A raise that nothing stands against is armed. -/
theorem oppRaise_armed {e : Nat} {d : Dev} (ha : d.oppAbove d.curOpp = some e) (hc : firstFail (chgChecks e d) = none) (hr : d.pwr.oppReq = []) :
    OppArmed e (oppRaise d).1 ∧ (oppRaise d).2 = true := by
  obtain ⟨hgt, hlt⟩ := oppAbove_bounds ha
  have hfree := oppAllowed_of_free hr e
  obtain ⟨hok, harmed, -⟩ := chgRequest_armed (agent := 0x10) hc (by rw [hfree]; omega) hlt
  rw [hfree] at harmed
  have heq : oppRaise d = (causeRefresh (chgRequest 0x10 e false none d).1, (chgRequest 0x10 e false none d).2) := by
    unfold oppRaise
    rw [ha, hr]
    rfl
  rw [heq]
  exact ⟨harmed.of_rd ((causeRefresh_onlyRegs _).2 _ (by decide)), hok⟩

theorem oppRelease_of_none {cause : Nat} {d : Dev} (h : kvGet? d.pwr.oppReq cause = none) : oppRelease cause d = d := by
  unfold oppRelease
  rw [h]

/-- A cause that requests the highest valid OPP has given up. -/
theorem oppRelease_of_top {cause e : Nat} {d : Dev} (h : kvGet? d.pwr.oppReq cause = some e) (ht : d.oppAbove e = none) :
    kvGet? (oppRelease cause d).pwr.oppReq cause = none := by
  unfold oppRelease
  rw [h]
  dsimp only
  rw [ht]
  exact kvGet?_del_same ..

theorem oppUp_of_none {cause : Nat} {d : Dev} (h : kvGet? d.pwr.oppReq cause = none) : oppUp cause d = (d, true) := by
  rw [oppUp, h]
  rfl

theorem oppUp_of_top {cause e : Nat} {d : Dev} (h : kvGet? d.pwr.oppReq cause = some e) (ht : d.oppAbove e = none) :
    kvGet? (oppUp cause d).1.pwr.oppReq cause = none := by
  rw [oppUp, h]
  change kvGet? (oppRaise (oppRelease cause d)).1.pwr.oppReq cause = none
  rw [(oppRaise_asked _).2]
  exact oppRelease_of_top h ht

/-! ### The sustained controller (R466) -/

/-- The steps in a row with the average below the lower bound, this one included. -/
def sustRoom (d : Dev) : Nat := if 100 * d.rdF PWR_POWER_SUST 15 0 < 90 * d.sustLimit then d.pwr.sustLow + 1 else 0

/-- The window of the controller in steps. -/
def sustWindow (d : Dev) : Nat := 10 * d.rdF PWR_SUST_CAP 23 16

/-- The step is counted. -/
def sustCounted (d : Dev) : Dev := { d with pwr := { d.pwr with sustLow := sustRoom d, sustSteps := d.pwr.sustSteps - 1 } }

/-- After a request a window passes before the next. -/
def sustAnswered (window : Nat) (r : Dev × Bool) : Dev :=
  if r.2 then { r.1 with pwr := { r.1.pwr with sustSteps := window, sustLow := 0 } } else r.1

theorem sustStep_eq (d : Dev) : sustStep d =
    if 0 < d.pwr.sustSteps - 1 then sustCounted d
    else if 98 * d.sustLimit < 100 * d.rdF PWR_POWER_SUST 15 0 then sustAnswered (sustWindow d) (oppDown 7 (sustCounted d))
    else if sustWindow d ≤ sustRoom d ∧ (d.oppAbove d.curOpp).isSome then
      sustAnswered (sustWindow d) (oppRaise (oppRelease 7 (sustCounted d)))
    else sustCounted d := rfl

theorem sustStep_of_quiet {d : Dev} (h : 1 < d.pwr.sustSteps ∨ (100 * d.rdF PWR_POWER_SUST 15 0 ≤ 98 * d.sustLimit ∧
    (sustRoom d < sustWindow d ∨ d.oppAbove d.curOpp = none))) : sustStep d = sustCounted d := by
  rw [sustStep_eq]
  obtain h | ⟨hlim, h⟩ := h
  · exact if_pos (by omega)
  · have hlow : ¬(sustWindow d ≤ sustRoom d ∧ (d.oppAbove d.curOpp).isSome = true) := by
      rintro ⟨hroom, hsome⟩
      obtain h | h := h
      · omega
      · rw [h] at hsome
        exact absurd hsome (by decide)
    rw [if_neg (Nat.not_lt.2 hlim), if_neg hlow, ite_self]

theorem sustStep_down {e : Nat} {d : Dev} (hs : d.pwr.sustSteps ≤ 1) (hover : 98 * d.sustLimit < 100 * d.rdF PWR_POWER_SUST 15 0)
    (hb : d.oppBelow d.curOpp = some e) (hc : firstFail (chgChecks e d) = none) :
    OppLowered 7 e d (sustStep d) ∧ (sustStep d).pwr.sustSteps = sustWindow d := by
  obtain ⟨hlow, hok⟩ := oppDown_lowered 7 (d := sustCounted d) hb hc
  rw [sustStep_eq, if_neg (by omega), if_pos hover, sustAnswered, if_pos hok]
  exact ⟨⟨hlow.armed.of_rd rfl, hlow.request, hlow.count⟩, rfl⟩

theorem sustStep_up {e : Nat} {d : Dev} (hs : d.pwr.sustSteps ≤ 1) (hunder : 100 * d.rdF PWR_POWER_SUST 15 0 < 90 * d.sustLimit)
    (hlow : sustWindow d ≤ sustRoom d) (ha : d.oppAbove d.curOpp = some e) (hc : firstFail (chgChecks e d) = none) (hr : d.pwr.oppReq = []) :
    OppArmed e (sustStep d) ∧ (sustStep d).pwr.sustSteps = sustWindow d ∧ (sustStep d).pwr.oppReq = [] := by
  have hkeep : oppRelease 7 (sustCounted d) = sustCounted d := oppRelease_of_none (by rw [show (sustCounted d).pwr.oppReq = [] from hr]; rfl)
  obtain ⟨harmed, hok⟩ := oppRaise_armed (d := sustCounted d) ha hc hr
  have hreq := (oppRaise_asked (sustCounted d)).2.trans hr
  rw [sustStep_eq, if_neg (by omega), if_neg (by omega), if_pos ⟨hlow, by rw [ha]; rfl⟩, hkeep, sustAnswered, if_pos hok]
  exact ⟨harmed.of_rd rfl, rfl, hreq⟩

/-! ### The short-term controller (R464) -/

/-- The start of the 10 ms window in progress. -/
def shortStart (d : Dev) : Nat := if usTicks 10000 ≤ d.time.tb - d.pwr.shortWin then d.time.tb else d.pwr.shortWin

/-- The average power of the window, as projected when the window began at `start`. -/
def shortProjection (start : Nat) (d : Dev) : Nat :=
  let done := (d.time.tb - start) / 800
  (avgSince d.pwr.samples start * done + avgSince d.pwr.samples (d.time.tb - usTicks 100) * (10000 - done)) / 10000

/-- The window in progress is noted. -/
def shortWindowed (d : Dev) : Dev := { d with pwr := { d.pwr with shortWin := shortStart d } }

/-- The duty that the controller requests is noted. -/
def shortDutyNoted (n : Nat) (d : Dev) : Dev := { d with pwr := { d.pwr with shortDuty := n } }

/-- Above the limit the duty falls by a step; at its least the next lower OPP is requested. -/
def shortCut (d : Dev) : Dev :=
  let d := dutyRefreshAll (shortDutyNoted (max 4 (d.pwr.shortDuty - 1)) d)
  if d.pwr.shortDuty = 4 then (oppDown 4 d).1 else d

/-- Below the lower bound the duty rises by a step; at its most a step of the OPP is given up. -/
def shortRelax (d : Dev) : Dev :=
  let d := shortDutyNoted (min 16 (d.pwr.shortDuty + 1)) d
  dutyRefreshAll (if d.pwr.shortDuty = 16 then (oppUp 4 d).1 else d)

theorem shortTermStep_eq (d : Dev) : shortTermStep d =
    if d.shortLimit < shortProjection (shortStart d) d then shortCut (shortWindowed d)
    else if 10 * shortProjection (shortStart d) d < 9 * d.shortLimit then shortRelax (shortWindowed d)
    else shortWindowed d := by
  have hwin : (if usTicks 10000 ≤ d.time.tb - d.pwr.shortWin then { d with pwr := { d.pwr with shortWin := d.time.tb } } else d) =
      shortWindowed d := by
    unfold shortWindowed shortStart
    split
    · rfl
    · rfl
  have hproj (x : Dev) (hx : x = shortWindowed d) : shortProjection x.pwr.shortWin x = shortProjection (shortStart d) d := by
    rw [hx]
    rfl
  have hlim (x : Dev) (hx : x = shortWindowed d) : x.shortLimit = d.shortLimit := by
    rw [hx]
    rfl
  unfold shortTermStep
  rw [hwin]
  generalize hx : shortWindowed d = x
  rw [← hproj x hx.symm, ← hlim x hx.symm]
  unfold shortProjection shortCut shortRelax shortDutyNoted
  dsimp only

theorem shortTermStep_of_within {d : Dev} (h1 : shortProjection (shortStart d) d ≤ d.shortLimit) (h2 : 9 * d.shortLimit ≤ 10 * shortProjection (shortStart d) d) :
    shortTermStep d = shortWindowed d := by
  rw [shortTermStep_eq, if_neg (Nat.not_lt.2 h1), if_neg (Nat.not_lt.2 h2)]

theorem dutyRequested_le_short (d : Dev) (f : Nat) : d.dutyRequested f ≤ d.pwr.shortDuty := (min_le_right _ _).trans (min_le_left _ _)

theorem shortTermStep_of_over {d : Dev} (h : d.shortLimit < shortProjection (shortStart d) d) (h5 : 5 < d.pwr.shortDuty) (h16 : d.pwr.shortDuty ≤ 16) :
    let e := shortTermStep d
    e.pwr.shortDuty = d.pwr.shortDuty - 1 ∧ (∀ f, f < 12 → e.rdF (PWR_FIELD_PWR f) 14 10 ≤ d.pwr.shortDuty - 1) ∧ bitOf (e.rd PWR_THR_CAUSE) 2 = true := by
  have hnoted : (shortDutyNoted (max 4 ((shortWindowed d).pwr.shortDuty - 1)) (shortWindowed d)).pwr.shortDuty = d.pwr.shortDuty - 1 :=
    max_eq_right (show 4 ≤ d.pwr.shortDuty - 1 by omega)
  dsimp only
  rw [shortTermStep_eq, if_pos h]
  unfold shortCut
  generalize shortDutyNoted _ (shortWindowed d) = x at *
  obtain ⟨hframe, hduty, -, hcause⟩ := dutyRefreshAll_spec x
  dsimp only
  rw [if_neg (by rw [hframe.pwr, hnoted]; omega), hframe.pwr]
  refine ⟨hnoted, fun f hf => ?_, ?_⟩
  · rw [hduty f hf, ← hnoted]
    exact (Nat.mod_le _ _).trans (dutyRequested_le_short x f)
  · rw [hcause, decide_eq_true (by omega), Bool.true_or]

theorem shortTermStep_of_under {d : Dev} (h1 : shortProjection (shortStart d) d ≤ d.shortLimit) (h2 : 10 * shortProjection (shortStart d) d < 9 * d.shortLimit)
    (h15 : d.pwr.shortDuty < 15) : (shortTermStep d).pwr.shortDuty = d.pwr.shortDuty + 1 := by
  have hnoted : (shortDutyNoted (min 16 ((shortWindowed d).pwr.shortDuty + 1)) (shortWindowed d)).pwr.shortDuty = d.pwr.shortDuty + 1 :=
    min_eq_right (show d.pwr.shortDuty + 1 ≤ 16 by omega)
  rw [shortTermStep_eq, if_neg (Nat.not_lt.2 h1), if_pos h2]
  unfold shortRelax
  generalize shortDutyNoted _ (shortWindowed d) = x at *
  dsimp only
  rw [if_neg (by omega), (dutyRefreshAll_spec x).1.pwr, hnoted]

end Sys2Proof.Machine

/-! PROOF. The share of the herd, trims, hints, the measured performance and the coefficients of the estimate
(12_power_thermal.md R457, R462, R467, R468, R470). -/

namespace Sys2Proof.Machine

/-! ### HERD_SHARE (R467) -/

/-- The share is written, and stands from the next frame boundary. -/
def shareWritten (data : Word) (d : Dev) : Dev :=
  let d := d.wr PWR_HERD_SHARE data
  { d with pwr := { d.pwr with herdShareNext := if bitOf data 31 then some (fld data 15 0) else none, herdShareAge := 0 } }

theorem herdShareWrite_eq {agent : Nat} {data : Word} (ha : isPewter agent = true) (hd : fld data 30 16 = 0) (d : Dev) :
    herdShareWrite agent data d =
      d.checked .pwr 0x11C agent [(.state, !d.up || !inHerd d), (.reserved, false)] (shareWritten data) := by
  unfold herdShareWrite Dev.checked
  rw [ha, hd, Bool.not_true, firstFail_cons_false]
  rfl

theorem herdShareWrite_of_member {agent : Nat} {data : Word} {d : Dev} (ha : isPewter agent = true) (hd : fld data 30 16 = 0)
    (hu : d.up = true) (hh : inHerd d = true) : herdShareWrite agent data d = shareWritten data d := by
  rw [herdShareWrite_eq ha hd, hu, hh]
  exact Dev.checked_pass _ _ _ _ _ _ (by simp)

theorem herdShareWrite_of_alone {agent : Nat} {data : Word} {d : Dev} (ha : isPewter agent = true) (hd : fld data 30 16 = 0)
    (hh : inHerd d = false) : herdShareWrite agent data d = d.reject .pwr 0x11C agent .state := by
  rw [herdShareWrite_eq ha hd, hh, Bool.not_false, Bool.or_true]
  exact Dev.checked_fail _ _ _ _ _ _ _ rfl

theorem shareWritten_spec (data : Word) (d : Dev) :
    let e := shareWritten data d
    e.rd PWR_HERD_SHARE = data ∧ RegsKeep [PWR_HERD_SHARE] d e ∧ e = { d with
      regs := e.regs
      pwr := { d.pwr with herdShareNext := if bitOf data 31 then some (fld data 15 0) else none, herdShareAge := 0 } } :=
  ⟨Dev.rd_wr_same .., (regsKeep_wr d PWR_HERD_SHARE data).of_regs rfl, rfl⟩

/-! ### HINT_EXPIRE (R462) -/

/-- The hints of a sequencer, or those of an entry whose time has passed, are gone. -/
def hintsLeft (src : Nat) (d : Dev) : Dev :=
  { d with pwr := { d.pwr with
    hints := d.pwr.hints.filter fun x => x.src != src || (decide (64 ≤ src) && decide (d.time.tb < x.ends)) } }

theorem hintExpire_spec (src : Nat) (d : Dev) :
    let e := hintExpire src d
    e.pwr = (hintsLeft src d).pwr ∧ (∀ f, f < 12 → e.rdF (PWR_VSET f) 25 16 = vset e f % 1024) ∧ RegsKeep vsetRegs d e ∧
      e = { d with regs := e.regs, pwr := e.pwr, tx := e.tx } := by
  have hrest : hintsLeft src d = { d with pwr := (hintsLeft src d).pwr } := rfl
  have hregs : RegsKeep vsetRegs d (hintsLeft src d) := fun _ _ => rfl
  have heq : hintExpire src d = (List.range 12).foldl (fun d f => vsetRefresh f d) (hintsLeft src d) := rfl
  dsimp only
  rw [heq]
  generalize hintsLeft src d = x at *
  obtain ⟨hrails, hshown, -⟩ := vsetRefresh_foldl (l := List.range 12) (fun f => List.mem_range.1) x
  generalize (List.range 12).foldl (fun d f => vsetRefresh f d) x = y at *
  refine ⟨by rw [hrails.rest], fun f hf => ?_, hregs.trans hrails.keep, ?_⟩
  · rw [hrails.vset, hshown f (List.mem_range.2 hf)]
  · rw [hrails.rest, hrest]

/-! ### TRIM_ADJUST (R468) -/

/-- The trim that the monitors of a field ask for, in mV. -/
def trimWant (f : Nat) (low high : Bool) (d : Dev) : Int :=
  let t : Int := kvGetD d.pwr.trim 0 f
  if low = true then min 60 (t + 5) else if high = true then max (-40) (t - 5) else t

/-- The trim of a field has changed in the last ten seconds. -/
def TrimRecent (f : Nat) (d : Dev) : Prop := ∃ k, kvGet? d.pwr.trimTick f = some k ∧ d.time.tb < k + 8000000000

/-- The change of a trim is noted with its tick. -/
def trimNoted (f : Nat) (want : Int) (d : Dev) : Dev :=
  { d with pwr := { d.pwr with trim := kvSetD d.pwr.trim 0 f want, trimTick := kvPut d.pwr.trimTick f d.time.tb } }

/-- A trim at its bound is flagged, recorded and signalled. -/
def trimAtBound (f : Nat) (d : Dev) : Dev :=
  ((d.wr PWR_FLAGS (setBit (d.rd PWR_FLAGS) 0 true)).record 0x16 11 f 5).alert 1

theorem trimAdjust_eq (f : Nat) (low high : Bool) (d : Dev) : ∃ recent : Bool, (recent = true ↔ TrimRecent f d) ∧ trimAdjust f low high d =
    if trimWant f low high d = kvGetD d.pwr.trim 0 f ∨ recent = true then d
    else
      let x := trimsToFlash (vsetRefresh f (trimNoted f (trimWant f low high d) d))
      if trimWant f low high d = 60 then trimAtBound f x else x := by
  refine ⟨match kvGet? d.pwr.trimTick f with
    | some k => decide (d.time.tb < k + usTicks 10000000)
    | none => false, ?_, rfl⟩
  unfold TrimRecent
  split
  · next k hk =>
    rw [decide_eq_true_iff, hk]
    exact ⟨fun h => ⟨k, rfl, h⟩, fun ⟨_, heq, h⟩ => Option.some.inj heq ▸ h⟩
  · next hk => simp [hk]

theorem trimAdjust_of_kept {f : Nat} {low high : Bool} {d : Dev}
    (h : trimWant f low high d = kvGetD d.pwr.trim 0 f ∨ TrimRecent f d) : trimAdjust f low high d = d := by
  obtain ⟨recent, hrecent, heq⟩ := trimAdjust_eq f low high d
  rw [heq, if_pos (h.imp_right hrecent.2)]

theorem trimAdjust_of_moved {f : Nat} {low high : Bool} {d : Dev} (hw : trimWant f low high d ≠ kvGetD d.pwr.trim 0 f)
    (hr : ¬TrimRecent f d) : trimAdjust f low high d =
      let x := trimsToFlash (vsetRefresh f (trimNoted f (trimWant f low high d) d))
      if trimWant f low high d = 60 then trimAtBound f x else x := by
  obtain ⟨recent, hrecent, heq⟩ := trimAdjust_eq f low high d
  rw [heq, if_neg (fun h => h.elim hw fun h => hr (hrecent.1 h))]

/-- What a new trim shows: the trim, its tick, the flash and the set point. -/
structure TrimMoved (f : Nat) (want : Int) (d e : Dev) : Prop where
  trim : kvGetD e.pwr.trim 0 f = want
  tick : kvGet? e.pwr.trimTick f = some d.time.tb
  flash : e.boot.store.trims = e.pwr.trim
  shown : e.rdF (PWR_VSET f) 25 16 = vset e f % 1024

theorem trimsToFlash_spec (d : Dev) : (trimsToFlash d).boot.store.trims = (trimsToFlash d).pwr.trim ∧ (trimsToFlash d).pwr = d.pwr ∧
    (trimsToFlash d).regs = d.regs := ⟨rfl, rfl, rfl⟩

theorem trimMoved {f : Nat} (hf : f < 12) (want : Int) (d : Dev) : let e := trimsToFlash (vsetRefresh f (trimNoted f want d))
    TrimMoved f want d e ∧ RegsKeep [PWR_VSET f] d e := by
  have htrim : kvGetD (trimNoted f want d).pwr.trim 0 f = want := kvGetD_setD_same ..
  have htick : kvGet? (trimNoted f want d).pwr.trimTick f = some d.time.tb := kvGet?_put_same ..
  have hregs : RegsKeep [PWR_VSET f] d (trimNoted f want d) := fun _ _ => rfl
  dsimp only
  generalize trimNoted f want d = x at *
  obtain ⟨hrails, hshown, hkeep⟩ := vsetRefresh_spec hf x
  have hpwr : (vsetRefresh f x).pwr = x.pwr := by rw [hrails.rest]
  rw [← hrails.vset f] at hshown
  generalize vsetRefresh f x = y at *
  obtain ⟨hflash, hp, hr⟩ := trimsToFlash_spec y
  generalize trimsToFlash y = z at *
  have hrd (a : Nat) : z.rd a = y.rd a := Dev.rd_of_regs hr a
  refine ⟨⟨by rw [hp, hpwr, htrim], by rw [hp, hpwr, htick], hflash, ?_⟩, hregs.trans (hkeep.of_regs hr)⟩
  rw [vset_congr hp (hrd _) (hrd _), Dev.rdF, hrd]
  exact hshown

theorem trimAtBound_spec {f : Nat} (hf : f < 12) {want : Int} {d e : Dev} (h : TrimMoved f want d e) :
    let c := trimAtBound f e
    TrimMoved f want d c ∧ bitOf (c.rd PWR_FLAGS) 0 = true ∧ bitOf (c.rd PINS_ALERT_SRC) 1 = true := by
  have hflag : bitOf ((e.wr PWR_FLAGS (setBit (e.rd PWR_FLAGS) 0 true)).rd PWR_FLAGS) 0 = true := by
    rw [Dev.rd_wr_same, bitOf_setBit_same _ _ _ (by decide)]
  have hw := onlyRegs_wr e PWR_FLAGS (setBit (e.rd PWR_FLAGS) 0 true)
  dsimp only
  unfold trimAtBound
  generalize e.wr PWR_FLAGS (setBit (e.rd PWR_FLAGS) 0 true) = x at *
  have hrecord (a : Nat) : (x.record 0x16 11 f 5).rd a = x.rd a := Dev.record_rd ..
  have hpwr : (x.record 0x16 11 f 5).pwr = e.pwr := by rw [Dev.record_only, hw.1]
  have hboot : (x.record 0x16 11 f 5).boot = e.boot := by rw [Dev.record_only, hw.1]
  generalize x.record 0x16 11 f 5 = y at *
  obtain ⟨-, hkeep, hrest⟩ := y.alert_spec 1
  have hlow (a : Nat) (ha : a ∉ [PINS_ALERT_SRC, PCIE_INT_CAUSE]) (hb : a ∉ [PWR_FLAGS]) : (y.alert 1).rd a = e.rd a := by
    rw [hkeep a ha, hrecord, hw.2 a hb]
  have hbit := y.alert_bit
  have hp : (y.alert 1).pwr = e.pwr := by rw [hrest, hpwr]
  have hb : (y.alert 1).boot = e.boot := by rw [hrest, hboot]
  have hvset : (y.alert 1).rd (PWR_VSET f) = e.rd (PWR_VSET f) :=
    hlow _ (by simp only [List.mem_cons, List.not_mem_nil, or_false, PWR_VSET, PINS_ALERT_SRC, PCIE_INT_CAUSE]; omega)
      (by simp only [List.mem_singleton, PWR_VSET, PWR_FLAGS]; omega)
  have hflag9 : bitOf ((y.alert 1).rd PWR_FLAGS) 0 = true := by rw [hkeep _ (by decide), hrecord, hflag]
  generalize y.alert 1 = z at *
  refine ⟨⟨hp ▸ h.trim, hp ▸ h.tick, by rw [hb, hp, h.flash], ?_⟩, hflag9, hbit⟩
  rw [vset_congr hp (hlow _ (by decide) (by decide)) (hlow _ (by decide) (by decide)), Dev.rdF, hvset]
  exact h.shown

theorem trimAdjust_spec {f : Nat} (hf : f < 12) {low high : Bool} {d : Dev} (hw : trimWant f low high d ≠ kvGetD d.pwr.trim 0 f)
    (hr : ¬TrimRecent f d) :
    let e := trimAdjust f low high d
    TrimMoved f (trimWant f low high d) d e ∧ (trimWant f low high d ≠ 60 → RegsKeep [PWR_VSET f] d e) ∧
      (trimWant f low high d = 60 → bitOf (e.rd PWR_FLAGS) 0 = true ∧ bitOf (e.rd PINS_ALERT_SRC) 1 = true) := by
  obtain ⟨hmoved, hkeep⟩ := trimMoved hf (trimWant f low high d) d
  dsimp only
  rw [trimAdjust_of_moved hw hr]
  generalize trimWant f low high d = want at *
  generalize trimsToFlash (vsetRefresh f (trimNoted f want d)) = x at *
  dsimp only
  split
  · next h60 =>
    obtain ⟨hbound, hflag, halert⟩ := trimAtBound_spec hf hmoved
    exact ⟨hbound, fun h => absurd h60 h, fun _ => ⟨hflag, halert⟩⟩
  · next h60 => exact ⟨hmoved, fun _ => hkeep, fun h => absurd h h60⟩

/-! ### PERF.MEASURED and the estimate (R457, R470) -/

theorem perfMeasured_spec (m : Nat) (d : Dev) :
    (perfMeasured m d).rdF PWR_PERF 31 16 = min m 65535 ∧ OnlyRegs [PWR_PERF] d (perfMeasured m d) := by
  refine ⟨?_, onlyRegs_wr d PWR_PERF _⟩
  rw [perfMeasured, Dev.rdF_wrF_same _ _ _ (by decide)]
  omega

theorem freeN_freeCtr (d : Dev) (n : Nat) : (d.freeN n).2.freeCtr = d.freeCtr + n := by
  induction n generalizing d with
  | zero => rfl
  | succ n ih =>
    have hfirst : d.free.2.freeCtr = d.freeCtr + 1 := rfl
    have hrest : (d.freeN (n + 1)).2 = (d.free.2.freeN n).2 := rfl
    rw [hrest, ih, hfirst]
    omega

theorem freeN_getD (d : Dev) {n i : Nat} (h : i < n) : (d.freeN n).1.getD i 0 = Config.freeValue (d.freeCtr + i) := by
  induction n generalizing d i with
  | zero => omega
  | succ n ih =>
    cases i with
    | zero => rfl
    | succ i =>
      have hfirst : d.free.2.freeCtr = d.freeCtr + 1 := rfl
      have hrest : (d.freeN (n + 1)).1.getD (i + 1) 0 = (d.free.2.freeN n).1.getD i 0 := rfl
      rw [hrest, ih _ (by omega), hfirst, Nat.add_assoc, Nat.add_comm 1 i]

theorem estCalibrate_eq (d : Dev) : estCalibrate d = { (d.freeN 5).2 with
    pwr := { (d.freeN 5).2.pwr with coef := (List.range 5).map fun i => (i, (d.freeN 5).1.getD i 0) } } := rfl

theorem kvGetD_map_five (g : Nat → Nat) {i : Nat} (h : i < 5) : kvGetD ((List.range 5).map fun k => (k, g k)) 0 i = g i := by
  interval_cases i <;> rfl

theorem estCalibrate_spec (d : Dev) :
    let e := estCalibrate d
    e.freeCtr = d.freeCtr + 5 ∧ (∀ i, i < 5 → kvGetD e.pwr.coef 0 i = Config.freeValue (d.freeCtr + i)) ∧
      e = { d with freeCtr := e.freeCtr, pwr := { d.pwr with coef := e.pwr.coef } } := by
  have hget {i : Nat} (hi : i < 5) := freeN_getD d hi
  have hctr := freeN_freeCtr d 5
  have honly := freeN_only d 5
  dsimp only
  rw [estCalibrate_eq]
  generalize (d.freeN 5).1 = vs at *
  generalize (d.freeN 5).2 = x at *
  refine ⟨hctr, fun i hi => ?_, ?_⟩
  · rw [← hget hi]
    exact kvGetD_map_five (fun k => vs.getD k 0) hi
  · rw [honly]

end Sys2Proof.Machine

/-! PROOF. The thermal poll, its step timers, the trip and a hot stack (12_power_thermal.md R471, R472, R478). -/

namespace Sys2Proof.Machine

/-! ### What the level's actions leave (R472) -/

/-- The readings of the sensors and the latches of the thresholds. -/
def heatOf (d : Dev) : List (Nat × Nat) × Bool × Bool × Bool × Bool :=
  (d.pwr.sensor, d.pwr.warnOn, d.pwr.dutyOn, d.pwr.oppOn, d.pwr.haltOn)

/-- The level, the hottest sensor, the count of halts, the readings and the latches are as they were. -/
structure HeatKept (d e : Dev) : Prop where
  rd : ∀ a ∈ [THERM_STATE, THERM_TJ_MAX, THERM_HALT_COUNT], e.rd a = d.rd a
  heat : heatOf e = heatOf d

theorem HeatKept.refl (d : Dev) : HeatKept d d := ⟨fun _ _ => rfl, rfl⟩

theorem HeatKept.trans {a b c : Dev} (h : HeatKept a b) (g : HeatKept b c) : HeatKept a c :=
  ⟨fun x hx => (g.rd x hx).trans (h.rd x hx), g.heat.trans h.heat⟩

theorem HeatKept.ite {p : Prop} [Decidable p] {d a b : Dev} (ha : HeatKept d a) (hb : HeatKept d b) : HeatKept d (if p then a else b) := by
  split
  · exact ha
  · exact hb

theorem HeatKept.of_regsKeep {l : List Nat} {d e : Dev} (hl : ∀ a ∈ [THERM_STATE, THERM_TJ_MAX, THERM_HALT_COUNT], a ∉ l) (h : RegsKeep l d e)
    (hp : e.pwr = d.pwr) : HeatKept d e := ⟨fun a ha => h a (hl a ha), by rw [heatOf, hp, heatOf]⟩

theorem record_heatKept (d : Dev) (cls kind unit synd : Nat) : HeatKept d (d.record cls kind unit synd) := ⟨fun _ _ => rfl, rfl⟩

theorem alert_heatKept (d : Dev) (src : Nat) : HeatKept d (d.alert src) :=
  .of_regsKeep (by decide) (d.alert_spec src).2.1 (d.alert_pwr src)

theorem warnBump_heatKept (d : Dev) : HeatKept d (d.bump THERM_WARN_COUNT) := .of_regsKeep (by decide) (regsKeep_wr d THERM_WARN_COUNT _) rfl

theorem dutyRefreshAll_heatKept (d : Dev) : HeatKept d (dutyRefreshAll d) :=
  have hframe := (dutyRefreshAll_spec d).1
  .of_regsKeep (by decide) hframe.keep hframe.pwr

theorem oppDown_heatKept (cause : Nat) (d : Dev) : HeatKept d (oppDown cause d).1 := by
  have h := oppDown_kept cause d
  have hlow : ∀ a ∈ [THERM_STATE, THERM_TJ_MAX, THERM_HALT_COUNT], 0xB000 ≤ a := by decide
  exact ⟨fun a ha => h.keep a (hlow a ha), by rw [heatOf, h.pwr, heatOf]⟩

theorem faultCond_heatKept (d : Dev) (i : Nat) (b : Bool) : HeatKept d (d.faultCond i b) := by
  obtain ⟨-, hkeep, hrest⟩ := d.faultCond_spec i b
  exact .of_regsKeep (by decide) hkeep (by rw [hrest])

/-- The hold of HALT is noted. -/
def holdNoted (on : Bool) (d : Dev) : Dev := { d with pwr := { d.pwr with thermHalt := on } }

theorem thermalHold_on (d : Dev) : thermalHold true d = computeReset 5 (holdNoted true d) := by
  unfold thermalHold
  exact if_pos rfl

theorem thermalHold_off (d : Dev) : thermalHold false d = holdNoted false d := by
  unfold thermalHold
  exact if_neg Bool.false_ne_true

theorem thermalHold_heatKept (on : Bool) (d : Dev) : HeatKept d (thermalHold on d) := by
  have hnoted : HeatKept d (holdNoted on d) := ⟨fun _ _ => rfl, rfl⟩
  have hpage : ∀ a ∈ [THERM_STATE, THERM_TJ_MAX, THERM_HALT_COUNT], 0xB000 ≤ a ∧ a < 0xC000 := by decide
  cases on with
  | true =>
    rw [thermalHold_on]
    have hreset := computeReset_powerKept 5 (holdNoted true d)
    exact hnoted.trans ⟨fun a ha => hreset.same a (.inr (.inl (hpage a ha))), by rw [heatOf, hreset.pwr, heatOf]⟩
  | false =>
    rw [thermalHold_off]
    exact hnoted

/-! ### HALT (R472) -/

/-- The end of a poll: compute enters its reset with HALT and leaves it 15 C below. -/
def haltStep (was now : Bool) (d : Dev) : Dev :=
  if now && !was then thermalHold true ((d.bump THERM_HALT_COUNT).faultCond 1 true)
  else if !now && was then thermalHold false (d.faultCond 1 false)
  else d

theorem haltStep_level (was now : Bool) (d : Dev) : heatOf (haltStep was now d) = heatOf d ∧
    (haltStep was now d).rd THERM_STATE = d.rd THERM_STATE ∧ (haltStep was now d).rd THERM_TJ_MAX = d.rd THERM_TJ_MAX := by
  have hbump : heatOf (d.bump THERM_HALT_COUNT) = heatOf d := rfl
  have hstate : (d.bump THERM_HALT_COUNT).rd THERM_STATE = d.rd THERM_STATE := Dev.rd_bump_other _ (by decide)
  have hmax : (d.bump THERM_HALT_COUNT).rd THERM_TJ_MAX = d.rd THERM_TJ_MAX := Dev.rd_bump_other _ (by decide)
  unfold haltStep
  generalize d.bump THERM_HALT_COUNT = x at *
  split
  · have h := (faultCond_heatKept x 1 true).trans (thermalHold_heatKept true _)
    exact ⟨h.heat.trans hbump, (h.rd _ (by decide)).trans hstate, (h.rd _ (by decide)).trans hmax⟩
  · split
    · have h := (faultCond_heatKept d 1 false).trans (thermalHold_heatKept false _)
      exact ⟨h.heat, h.rd _ (by decide), h.rd _ (by decide)⟩
    · exact ⟨rfl, rfl, rfl⟩

/-- HALT begins: compute is held in reset, and the halt is counted and signalled. -/
theorem haltStep_begins (d : Dev) : let e := haltStep false true d
    e.pwr.thermHalt = true ∧ bitOf (e.rd PINS_FAULT_COND) 1 = true ∧ inReset e = true ∧
      e.rd THERM_HALT_COUNT = satAdd (d.rd THERM_HALT_COUNT) 1 := by
  have hcount : (d.bump THERM_HALT_COUNT).rd THERM_HALT_COUNT = satAdd (d.rd THERM_HALT_COUNT) 1 := Dev.rd_bump_same ..
  have heq : haltStep false true d = thermalHold true ((d.bump THERM_HALT_COUNT).faultCond 1 true) := if_pos rfl
  dsimp only
  rw [heq]
  generalize d.bump THERM_HALT_COUNT = x at *
  obtain ⟨hcond, hkeep, -⟩ := x.faultCond_spec 1 true
  have hbit : bitOf ((x.faultCond 1 true).rd PINS_FAULT_COND) 1 = true := by rw [hcond, bitOf_setBit_same _ _ _ (by decide)]
  rw [← hkeep _ (by decide)] at hcount
  generalize x.faultCond 1 true = y at *
  rw [thermalHold_on]
  have hon : (holdNoted true y).pwr.thermHalt = true := rfl
  have hrd (a : Nat) : (holdNoted true y).rd a = y.rd a := rfl
  generalize holdNoted true y = z at *
  obtain ⟨hreset, -, hsame, -⟩ := computeReset_spec (cause := 5) (by decide) z
  have hpower := computeReset_powerKept 5 z
  refine ⟨by rw [hpower.pwr, hon], ?_, hreset, ?_⟩
  · rw [hsame PINS_FAULT_COND ⟨.inr ⟨by decide, by decide⟩, by decide⟩, hrd, hbit]
  · rw [hpower.same THERM_HALT_COUNT (.inr (.inl ⟨by decide, by decide⟩)), hrd, hcount]

/-- HALT ends: the hold and its signal are gone. -/
theorem haltStep_ends (d : Dev) : let e := haltStep true false d
    e.pwr.thermHalt = false ∧ bitOf (e.rd PINS_FAULT_COND) 1 = false := by
  have heq : haltStep true false d = holdNoted false (d.faultCond 1 false) := (if_neg Bool.false_ne_true).trans ((if_pos rfl).trans (thermalHold_off _))
  have hrd (x : Dev) : (holdNoted false x).rd PINS_FAULT_COND = x.rd PINS_FAULT_COND := rfl
  dsimp only
  rw [heq, hrd, (d.faultCond_spec 1 false).1, bitOf_setBit_same _ _ _ (by decide)]
  exact ⟨rfl, rfl⟩

/-! ### THERMAL_POLL (R471, R472) -/

/-- The readings of a poll are noted. -/
def sensed (rs : List (Nat × Nat)) (d : Dev) : Dev :=
  { d with pwr := { d.pwr with sensor := rs.foldl (fun m r => if r.1 < 192 then kvSetD m 0 r.1 (r.2 % 65536) else m) d.pwr.sensor } }

/-- HALT latches at 108 C and is given up below 95 C. -/
def haltLatch (t : Int) (on : Bool) : Bool := if 432 ≤ t then true else if t < 380 then false else on

/-- The latches at temperature `t`. -/
def latched (t : Int) (d : Dev) : PowerSt :=
  { d.pwr with
    warnOn := latchT d.pwr.warnOn t (4 * d.rdF THERM_THRESH 7 0), dutyOn := latchT d.pwr.dutyOn t 400,
    oppOn := latchT d.pwr.oppOn t 412, haltOn := haltLatch t d.pwr.haltOn }

/-- The level of the latches is shown. -/
def levelShown (t : Int) (d : Dev) : Dev := { d with pwr := latched t d }.wrF THERM_STATE 2 0 (latched t d).level

/-- The hottest sensor and the level are shown. -/
def heatShown (hot : Nat) (t : Int) (d : Dev) : Dev := levelShown t (d.wrN THERM_TJ_MAX (ofSigned 16 t + hot * 2 ^ 16))

theorem thermalPoll_eq (rs : List (Nat × Nat)) (d : Dev) :
    let h := hottest (sensed rs d)
    ∃ y, HeatKept (heatShown h.1 h.2 (sensed rs d)) y ∧ thermalPoll rs d = haltStep d.pwr.haltOn (haltLatch h.2 d.pwr.haltOn) y := by
  dsimp only
  unfold thermalPoll
  extract_lets sensor src x
  have hx : x = sensed rs d := rfl
  rw [← hx]
  generalize hottest x = h
  obtain ⟨hot, t⟩ := h
  dsimp -zeta only
  extract_lets d1 old lv halt p d2 lv' d3 d4 d5 d6 field power d7 d8 d9
  have hrecord : HeatKept d3 d4 := .ite (.refl d3) (record_heatKept d3 _ _ _ _)
  have halert : HeatKept d4 d5 := .ite (alert_heatKept d4 1) (.refl d4)
  have hwarned : HeatKept d5 d6 := .ite (warnBump_heatKept d5) (.refl d5)
  have hduty : HeatKept d6 d7 := .ite ⟨fun _ _ => rfl, rfl⟩ (.ite ⟨fun _ _ => rfl, rfl⟩ (.refl d6))
  have hopp : HeatKept d7 d9 := (dutyRefreshAll_heatKept d7).trans (.ite (oppDown_heatKept 5 d8) (.refl d8))
  exact ⟨d9, (((hrecord.trans halert).trans hwarned).trans hduty).trans hopp, rfl⟩

theorem latched_level_lt (t : Int) (d : Dev) : (latched t d).level < 8 := by
  unfold PowerSt.level
  split_ifs <;> decide

theorem latched_congr {d e : Dev} (hp : e.pwr = d.pwr) (hr : e.rd THERM_THRESH = d.rd THERM_THRESH) (t : Int) : latched t e = latched t d := by
  rw [latched, hp, Dev.rdF, hr, latched, Dev.rdF]

/-- What the poll shows before the level's actions. -/
theorem heatShown_spec (hot : Nat) (t : Int) (d : Dev) : let e := heatShown hot t d
    e.pwr = latched t d ∧ e.rdF THERM_STATE 2 0 = (latched t d).level ∧ e.rd THERM_TJ_MAX = w32 (ofSigned 16 t + hot * 65536) ∧
      e.rd THERM_HALT_COUNT = d.rd THERM_HALT_COUNT := by
  have hmax : (d.wrN THERM_TJ_MAX (ofSigned 16 t + hot * 2 ^ 16)).rd THERM_TJ_MAX = w32 (ofSigned 16 t + hot * 65536) := Dev.rd_wrN_same ..
  have hkeep : OnlyRegs [THERM_TJ_MAX] d (d.wrN THERM_TJ_MAX (ofSigned 16 t + hot * 2 ^ 16)) := onlyRegs_wr d THERM_TJ_MAX _
  dsimp only
  unfold heatShown
  generalize d.wrN THERM_TJ_MAX (ofSigned 16 t + hot * 2 ^ 16) = x at *
  have hlatched : latched t x = latched t d := latched_congr (by rw [hkeep.1]) (hkeep.2 _ (by decide)) t
  have hother (a : Nat) (ha : a ≠ THERM_STATE) : (levelShown t x).rd a = x.rd a := Dev.rd_wrF_other _ _ _ _ ha
  refine ⟨hlatched, ?_, ?_, ?_⟩
  · rw [levelShown, Dev.rdF_wrF_same _ _ _ (by decide), hlatched]
    exact Nat.mod_eq_of_lt (latched_level_lt t d)
  · rw [hother _ (by decide), hmax]
  · rw [hother _ (by decide), hkeep.2 _ (by decide)]

/-- The poll latches each threshold and shows the level. -/
theorem thermalPoll_level (rs : List (Nat × Nat)) (d : Dev) : let x := sensed rs d
    let t := (hottest x).2
    let e := thermalPoll rs d
    heatOf e = (x.pwr.sensor, (latched t x).warnOn, (latched t x).dutyOn, (latched t x).oppOn, (latched t x).haltOn) ∧
      e.rdF THERM_STATE 2 0 = (latched t x).level ∧ e.rd THERM_TJ_MAX = w32 (ofSigned 16 t + (hottest x).1 * 65536) := by
  obtain ⟨y, hkept, heq⟩ := thermalPoll_eq rs d
  dsimp only
  rw [heq]
  generalize sensed rs d = x at *
  generalize haltLatch (hottest x).2 d.pwr.haltOn = now
  obtain ⟨hpwr, hstate, hmax, -⟩ := heatShown_spec (hottest x).1 (hottest x).2 x
  obtain ⟨hheat, hstate', hmax'⟩ := haltStep_level d.pwr.haltOn now y
  refine ⟨?_, ?_, ?_⟩
  · rw [hheat, hkept.heat, heatOf, hpwr]
    rfl
  · rw [Dev.rdF, hstate', hkept.rd _ (by decide), ← hstate, Dev.rdF]
  · rw [hmax', hkept.rd _ (by decide), hmax]

theorem thermalPoll_halts {rs : List (Nat × Nat)} {d : Dev} (hn : haltLatch (hottest (sensed rs d)).2 d.pwr.haltOn = true)
    (hw : d.pwr.haltOn = false) : let e := thermalPoll rs d
    e.pwr.thermHalt = true ∧ bitOf (e.rd PINS_FAULT_COND) 1 = true ∧ inReset e = true ∧
      e.rd THERM_HALT_COUNT = satAdd (d.rd THERM_HALT_COUNT) 1 := by
  obtain ⟨y, hkept, heq⟩ := thermalPoll_eq rs d
  have hcount : y.rd THERM_HALT_COUNT = d.rd THERM_HALT_COUNT :=
    (hkept.rd _ (by decide)).trans (heatShown_spec (hottest (sensed rs d)).1 (hottest (sensed rs d)).2 (sensed rs d)).2.2.2
  dsimp only
  rw [heq, hn, hw, ← hcount]
  exact haltStep_begins y

theorem thermalPoll_resumes {rs : List (Nat × Nat)} {d : Dev} (hn : haltLatch (hottest (sensed rs d)).2 d.pwr.haltOn = false)
    (hw : d.pwr.haltOn = true) : let e := thermalPoll rs d
    e.pwr.thermHalt = false ∧ bitOf (e.rd PINS_FAULT_COND) 1 = false := by
  obtain ⟨y, -, heq⟩ := thermalPoll_eq rs d
  dsimp only
  rw [heq, hn, hw]
  exact haltStep_ends y

/-! ### THERMAL_STEP_TIMER (R472) -/

/-- A millisecond at level DUTY or above is counted. -/
def throttleCounted (d : Dev) : Dev := if 2 ≤ d.pwr.level then d.bump THERM_THROTTLE_MS else d

/-- The duty that a step asks of the hottest field. -/
def thermStepDuty (f : Nat) (d : Dev) : Nat :=
  if kvGetD d.pwr.thermDuty 16 f = 16 then 12 else max 8 (kvGetD d.pwr.thermDuty 16 f - 2)

/-- The duty that the heat asks of a field is noted. -/
def thermDutyNoted (f n : Nat) (d : Dev) : Dev := { d with pwr := { d.pwr with thermDuty := kvSetD d.pwr.thermDuty 16 f n } }

theorem throttleCounted_spec (d : Dev) : let e := throttleCounted d
    e.rd THERM_THROTTLE_MS = (if 2 ≤ d.pwr.level then satAdd (d.rd THERM_THROTTLE_MS) 1 else d.rd THERM_THROTTLE_MS) ∧ e.pwr = d.pwr ∧
      OnlyRegs [THERM_THROTTLE_MS] d e := by
  dsimp only
  unfold throttleCounted
  split
  · exact ⟨Dev.rd_bump_same .., rfl, onlyRegs_wr d THERM_THROTTLE_MS _⟩
  · exact ⟨rfl, rfl, RegsOnly.refl d, RegsKeep.refl _ d⟩

theorem thermalTimer_zero (d : Dev) : thermalTimer 0 d =
    let x := throttleCounted d
    if x.pwr.dutyOn = true ∧ 408 ≤ (hottest d).2 then
      dutyRefreshAll (thermDutyNoted (sensorField (hottest d).1) (thermStepDuty (sensorField (hottest d).1) x) x)
    else x := rfl

theorem thermalTimer_duty (d : Dev) : let e := thermalTimer 0 d
    e.rd THERM_THROTTLE_MS = (if 2 ≤ d.pwr.level then satAdd (d.rd THERM_THROTTLE_MS) 1 else d.rd THERM_THROTTLE_MS) ∧
      (¬(d.pwr.dutyOn = true ∧ 408 ≤ (hottest d).2) → OnlyRegs [THERM_THROTTLE_MS] d e) ∧
      (d.pwr.dutyOn = true → 408 ≤ (hottest d).2 →
        kvGetD e.pwr.thermDuty 16 (sensorField (hottest d).1) = thermStepDuty (sensorField (hottest d).1) d) := by
  obtain ⟨hcount, hpwr, honly⟩ := throttleCounted_spec d
  have hduty (f : Nat) : thermStepDuty f (throttleCounted d) = thermStepDuty f d := by rw [thermStepDuty, hpwr, thermStepDuty]
  dsimp only
  rw [thermalTimer_zero]
  dsimp only
  rw [hduty]
  generalize throttleCounted d = x at *
  generalize thermStepDuty (sensorField (hottest d).1) d = n
  generalize sensorField (hottest d).1 = f
  rw [hpwr]
  split
  · next hon =>
    have hframe := (dutyRefreshAll_spec (thermDutyNoted f n x)).1
    refine ⟨?_, fun hn => absurd hon hn, fun _ _ => ?_⟩
    · rw [hframe.keep _ (not_mem_dutyRegs (by decide)), ← hcount]
      rfl
    · rw [hframe.pwr]
      exact kvGetD_setD_same ..
  · next hoff => exact ⟨hcount, fun _ => honly, fun h1 h2 => absurd ⟨h1, h2⟩ hoff⟩

theorem thermalTimer_one (d : Dev) : thermalTimer 1 d = if d.pwr.oppOn = true ∧ 412 ≤ (hottest d).2 then (oppDown 5 d).1 else d := rfl

theorem thermalTimer_two (d : Dev) : thermalTimer 2 d = if (hottest d).2 < 388 then (oppUp 5 d).1 else d := rfl

theorem thermalTimer_raise (d : Dev) : let e := thermalTimer 2 d
    (kvGet? d.pwr.oppReq 5 = none ∨ 388 ≤ (hottest d).2 → e = d) ∧
      ∀ r, kvGet? d.pwr.oppReq 5 = some r → (hottest d).2 < 388 → d.oppAbove r = none → kvGet? e.pwr.oppReq 5 = none := by
  dsimp only
  rw [thermalTimer_two]
  generalize (hottest d).2 = t
  refine ⟨?_, fun r hr ht htop => ?_⟩
  · rintro (hn | ht)
    · rw [oppUp_of_none hn, ite_self]
    · exact if_neg (not_lt.2 ht)
  · rw [if_pos ht]
    exact oppUp_of_top hr htop

/-! ### THERMAL_TRIP (R472) -/

theorem setDom_onlyRegs {i : Nat} (hi : i < 144) (on : Bool) (d : Dev) : OnlyRegs ((List.range 5).map fun k => PWR_DOM_ON k) d (d.setDom i on) :=
  (onlyRegs_wr d (PWR_DOM_ON (i / 32)) _).mono fun _ ha =>
    List.mem_map.2 ⟨i / 32, List.mem_range.2 (by omega), (List.mem_singleton.1 ha).symm⟩

theorem foldl_setDom_off {i : Nat} {l : List Nat} (hi : i ∈ l) (d : Dev) : (l.foldl (fun d k => d.setDom k false) d).domOn i = false := by
  induction l generalizing d with
  | nil => exact absurd hi List.not_mem_nil
  | cons k t ih =>
    by_cases ht : i ∈ t
    · exact ih ht _
    · obtain rfl := (List.mem_cons.1 hi).resolve_right ht
      exact domOn_foldl_setDom_off (fun k => k) t (Dev.domOn_setDom_same d i false)

theorem foldl_setDom_other {i : Nat} {l : List Nat} (hi : i ∉ l) (d : Dev) : (l.foldl (fun d k => d.setDom k false) d).domOn i = d.domOn i := by
  induction l generalizing d with
  | nil => rfl
  | cons k t ih =>
    simp only [List.mem_cons, not_or] at hi
    rw [List.foldl_cons, ih hi.2, Dev.domOn_setDom_other d false hi.1]

/-- Every core domain opens. -/
def coresOpened (d : Dev) : Dev := (List.range 144).foldl (fun d i => d.setDom i false) d

theorem coresOpened_spec (d : Dev) : let e := coresOpened d
    (∀ i, i < 144 → e.domOn i = false) ∧ (∀ i, 144 ≤ i → e.domOn i = d.domOn i) ∧
      OnlyRegs ((List.range 5).map fun k => PWR_DOM_ON k) d e :=
  ⟨fun _ hi => foldl_setDom_off (List.mem_range.2 hi) d, fun _ hi => foldl_setDom_other (fun hm => absurd (List.mem_range.1 hm) (by omega)) d,
    OnlyRegs.foldl (fun d _ hi => setDom_onlyRegs (List.mem_range.1 hi) false d) d⟩

/-- The first trip is recorded. -/
def tripRecorded (d : Dev) : Dev :=
  if d.pwr.tripOpen then d
  else d.record 0x17 6 (hottest d).1 (d.pwr.level + d.rdF THERM_STATE 8 8 * 8 + ofSigned 16 (hottest d).2 * 2 ^ 16)

/-- The trip is latched; the rails of the memory tier are off. -/
def tripSet (d : Dev) : Dev :=
  { d with pwr := { d.pwr with tripLatched := true, tripOpen := true, railsOn := (setDel (setDel d.pwr.railsOn 12) 13) } }

theorem thermalTrip_eq (d : Dev) : thermalTrip d = (tripSet (coresOpened (tripRecorded d))).faultCond 2 true := rfl

theorem tripSet_spec (d : Dev) : let e := tripSet d
    e.regs = d.regs ∧ e.flt = d.flt ∧ e.pwr.tripLatched = true ∧ e.pwr.tripOpen = true ∧ 12 ∉ e.pwr.railsOn ∧ 13 ∉ e.pwr.railsOn :=
  ⟨rfl, rfl, rfl, rfl, by simp [tripSet], by simp [tripSet]⟩

theorem tripRecorded_spec (d : Dev) : (tripRecorded d).regs = d.regs ∧ (tripRecorded d).flt.pendingRecords.length =
    d.flt.pendingRecords.length + (if d.pwr.tripOpen = true then 0 else 1) := by
  unfold tripRecorded
  split
  · exact ⟨rfl, rfl⟩
  · exact ⟨rfl, Dev.record_length _ _ _ _ _ none⟩

theorem thermalTrip_spec (d : Dev) : let e := thermalTrip d
    (∀ i, i < 144 → e.domOn i = false) ∧ (∀ i, 144 ≤ i → i < 168 → e.domOn i = d.domOn i) ∧ e.pwr.tripLatched = true ∧ e.pwr.tripOpen = true ∧
      e.flt.pendingRecords.length = d.flt.pendingRecords.length + (if d.pwr.tripOpen = true then 0 else 1) ∧
      12 ∉ e.pwr.railsOn ∧ 13 ∉ e.pwr.railsOn ∧ bitOf (e.rd PINS_FAULT_COND) 2 = true ∧
      RegsKeep ([PINS_FAULT_COND, PCIE_INT_CAUSE] ++ (List.range 5).map fun i => PWR_DOM_ON i) d e := by
  obtain ⟨hregs, hlength⟩ := tripRecorded_spec d
  dsimp only
  rw [thermalTrip_eq]
  generalize tripRecorded d = x at *
  obtain ⟨hoff, hkept, honly⟩ := coresOpened_spec x
  have hflt : (coresOpened x).flt = x.flt := by rw [honly.1]
  generalize coresOpened x = y at *
  obtain ⟨hset, hsetflt, hlatched, hopen, h12, h13⟩ := tripSet_spec y
  generalize tripSet y = z at *
  obtain ⟨hcond, hkeep, hrest⟩ := z.faultCond_spec 2 true
  have hpwr : (z.faultCond 2 true).pwr = z.pwr := by rw [hrest]
  have hflt' : (z.faultCond 2 true).flt = z.flt := by rw [hrest]
  have hshown (i : Nat) (hi : i < 168) : (z.faultCond 2 true).domOn i = y.domOn i :=
    (domOn_congr (hkeep _ (by simp only [List.mem_cons, List.not_mem_nil, or_false, PWR_DOM_ON, PINS_FAULT_COND, PCIE_INT_CAUSE]; omega))).trans
      (domOn_congr (Dev.rd_of_regs hset _))
  have hbase (i : Nat) : x.domOn i = d.domOn i := domOn_congr (Dev.rd_of_regs hregs _)
  generalize z.faultCond 2 true = c at *
  refine ⟨fun i hi => (hshown i (by omega)).trans (hoff i hi), fun i h1 h2 => (hshown i h2).trans ((hkept i h1).trans (hbase i)), ?_, ?_, ?_, ?_, ?_, ?_,
    fun a ha => ?_⟩
  · rw [hpwr, hlatched]
  · rw [hpwr, hopen]
  · rw [hflt', hsetflt, hflt, hlength]
  · rw [hpwr]
    exact h12
  · rw [hpwr]
    exact h13
  · rw [hcond, bitOf_setBit_same _ _ _ (by decide)]
  · rw [List.mem_append, not_or] at ha
    rw [hkeep a ha.1, Dev.rd_of_regs hset, honly.2 a ha.2, Dev.rd_of_regs hregs]

end Sys2Proof.Machine

/-! PROOF. Power and heat (12_power_thermal.md R445 to R481). -/

namespace Sys2Proof.Machine

theorem decide_rail_kind {r kind : Nat} (hr : r < 18) (hk : kind < 3) : (decide (r < 18) && decide (kind < 3)) = true := by
  rw [decide_eq_true hr, decide_eq_true hk]
  rfl

/-- A trip while the field is stretched is noted; otherwise it stretches the field's clock. -/
theorem droopTrip_spec {dom : Nat} (hdom : dom < 168) (d : Dev) : let f := domainField dom
    let e := droopTrip dom d
    dom ∈ e.pwr.tripped ∧ f ∈ e.pwr.stretched ∧
      if d.pwr.stretched.contains f = true then e = { d with pwr := { d.pwr with tripped := e.pwr.tripped } }
      else e.rd PWR_DROOP_COUNT = satAdd (d.rd PWR_DROOP_COUNT) 1 ∧ RegsKeep (PWR_DROOP_COUNT :: seamRegs) d e ∧
        ∀ g ∈ fieldSeams f, seamPresent d g.1 g.2 = true → bitOf (e.rd (seamReg g.1 g.2)) 9 = true := by
  dsimp only
  cases h : d.pwr.stretched.contains (domainField dom) with
  | true =>
    rw [droopTrip_of_stretched h, if_pos rfl]
    exact ⟨(mem_setIns ..).2 (.inl rfl), List.contains_iff_mem.1 h, rfl⟩
  | false =>
    obtain ⟨htrip, hstretch, hcount, hkeep, hheld⟩ := droopTrip_of_new hdom h
    rw [if_neg Bool.false_ne_true]
    exact ⟨htrip, hstretch, hcount, hkeep, hheld⟩

/-- A step that asks for the next lower OPP gets it, when the change is allowed. -/
theorem oppDown_spec (cause : Nat) (d : Dev) : ∀ e, d.oppBelow d.curOpp = some e → firstFail (chgChecks e d) = none →
    let x := (oppDown cause d).1
    x.chgState = 1 ∧ x.rdF CLK_CHG_STATE 6 4 = d.oppAllowed e ∧ kvGet? x.pwr.oppReq cause = some e := by
  intro e hb hc
  have h := (oppDown_lowered cause hb hc).1
  exact ⟨h.armed.armed, h.armed.heading, h.request⟩

/-- The same for a step that asks only while its cause is there. -/
theorem oppDown_while_spec (cause : Nat) (d : Dev) (p : Prop) [Decidable p] : let x := if p then (oppDown cause d).1 else d
    if p then ∀ e, d.oppBelow d.curOpp = some e → firstFail (chgChecks e d) = none →
      x.chgState = 1 ∧ x.rdF CLK_CHG_STATE 6 4 = d.oppAllowed e ∧ kvGet? x.pwr.oppReq cause = some e
    else x = d := by
  dsimp only
  by_cases h : p
  · rw [if_pos h, if_pos h]
    exact oppDown_spec cause d
  · rw [if_neg h, if_neg h]

/-- Settles O55: the commands of power and heat, each by the lemma on its step. The windows of the controllers are log entry 29, COMM
cleared by the next success log entry 32, the end of a hint log entry 100, the phases of VMEM log entry 114, the record of the first trip
log entry 117. -/
theorem powerThermal : Obligations.PowerThermal := by
  refine ⟨fun s r mv qa => ⟨fun hr => ⟨fun open_ lost => ?_, ?_, fun p hr12 hp hph hf => ?_, fun p hr12 hp hph => ?_⟩,
      fun hr => ⟨fun hot => ?_, ?_, ?_⟩, fun t ht => ⟨fun hr he => ?_, fun hr hd hc => ?_, fun hr12 hr hd hc hl => ?_⟩, fun hr hn => ?_, ?_,
      fun kind ports hr hk => ?_⟩,
    fun s agent data ha hd => ⟨fun hu hi hs hoff hon => ?_, fun hu hi hoff huse => ?_, fun hn => ?_, fun j on hs hj => ?_⟩,
    fun s f hf => ⟨?_, fun cycles => ⟨fun h => ?_, fun h => ?_⟩, fun h => ?_, fun h he => ?_, fun still => ⟨fun h => ?_, fun h => ?_⟩⟩,
    fun s dom hdom => ?_,
    fun s src m => ⟨?_, ?_, ?_, ?_⟩,
    fun s => ⟨?_, fun h => ?_, fun e hs hunder hlow ha hc hr => ?_, fun e hs hover hb hc => ?_⟩,
    fun s => ⟨fun h1 h2 => ?_, fun h h5 h16 => ?_, fun h1 h2 h15 => ?_⟩,
    fun s agent data ha hd => ⟨fun hu hh => ?_, fun hh => ?_⟩,
    fun s f low high hf => ⟨fun h => ?_, fun hw hr => ?_⟩,
    fun s rs => ?_,
    fun s m => ⟨?_, ?_, ?_, ?_, fun hm => ?_⟩⟩
  · exact Gives.guarded (f := avsPoll r false mv qa open_ lost) rfl (decide_eq_true hr) (commFail_spec (by omega) s.dev)
  · refine Gives.guarded (f := avsPoll r true mv qa [] []) rfl (decide_eq_true hr) ?_
    rw [avsPoll_read]
    obtain ⟨hread, hkeep, -⟩ := railReading_spec r mv qa s.dev
    exact ⟨hread, hkeep⟩
  · have h := avsPoll_open_field hr12 hp mv qa hph hf
    exact Gives.guarded (f := avsPoll r true mv qa [p] []) rfl (decide_eq_true hr) ⟨(phaseLost_false ..).symm.trans h.lost, h.count, h.alert⟩
  · obtain ⟨hmem, hflag, hcount, halert⟩ := avsPoll_open_mem hr12 hr hp mv qa hph
    exact Gives.guarded (f := avsPoll r true mv qa [p] []) rfl (decide_eq_true hr) ⟨hmem, hcount, hflag, halert⟩
  · exact Gives.guarded (f := pmbusPoll r false mv qa hot) rfl (decide_eq_true hr) (commFail_spec hr s.dev)
  · refine Gives.guarded (f := pmbusPoll r true mv qa false) rfl (decide_eq_true hr) ?_
    rw [pmbusPoll_read]
    obtain ⟨hread, hkeep, -⟩ := railReading_spec r mv qa s.dev
    exact ⟨hread, hkeep⟩
  · exact Gives.guarded (f := pmbusPoll r true mv qa true) rfl (decide_eq_true hr) (pmbusPoll_hot hr mv qa s.dev)
  · exact Gives.guarded (f := commTimeout r) rfl (decide_eq_true hr) (commTimeout_of_early ht he)
  · exact Gives.guarded (f := commTimeout r) rfl (decide_eq_true (by omega)) (commTimeout_field hr ht hd hc)
  · exact Gives.guarded (f := commTimeout r) rfl (decide_eq_true hr) (commTimeout_mem hr12 ht hd hc hl)
  · exact Gives.guarded (f := commTimeout r) rfl (decide_eq_true hr) (commTimeout_of_none hn)
  · exact Gives.onDev (f := smbAlert) rfl (smbAlert_spec s.dev)
  · exact Gives.guarded (f := railFault r kind ports) rfl (decide_rail_kind hr hk) ⟨railFault_bit hr hk ports s.dev,
      fun hq => railFault_quiet_onlyRegs hq kind ports s.dev, fun hs => railFault_signalled hr hk hs ports s.dev,
      fun hf => railFault_field hf kind ports s.dev, fun hm => railFault_memTier hm kind ports s.dev⟩
  · refine Gives.onDev (f := domCtrl agent data) rfl ?_
    rw [domCtrl_of_free ha hd hu hi hs hoff hon]
    exact domSwitching_spec ..
  · exact Gives.onDev (f := domCtrl agent data) rfl (domCtrl_of_used ha hd hu hi hoff huse)
  · exact Gives.onDev (f := domDone) rfl (domDone_of_none hn)
  · obtain ⟨hdom, hpll, hkeep⟩ := domDone_spec hs
    exact Gives.onDev (f := domDone) rfl ⟨hdom.own, hdom.others, hdom.pwr, hdom.status, hpll, hkeep⟩
  · exact Gives.guarded (f := ceilEval f) rfl (decide_eq_true hf) (ceilEval_spec f hf s.dev)
  · exact Gives.guarded (f := droopEnd f cycles) rfl (decide_eq_true hf) (droopEnd_of_none h cycles)
  · exact Gives.guarded (f := droopEnd f cycles) rfl (decide_eq_true hf) (droopEnd_spec hf cycles h)
  · exact Gives.guarded (f := stretchEsc f) rfl (decide_eq_true hf) (stretchEsc_of_kept h)
  · exact Gives.guarded (f := stretchEsc f) rfl (decide_eq_true hf) (stretchEsc_spec hf h he)
  · exact Gives.guarded (f := droopPersist f still) rfl (decide_eq_true hf) (droopPersist_of_kept h)
  · exact Gives.guarded (f := droopPersist f still) rfl (decide_eq_true hf) (droopPersist_of_fails hf h)
  · exact Gives.guarded (f := droopTrip dom) rfl (decide_eq_true hdom) (droopTrip_spec hdom s.dev)
  · exact Gives.onDev (f := hintExpire src) rfl (hintExpire_spec src s.dev)
  · exact Gives.onDev (f := perfMeasured m) rfl (perfMeasured_spec m s.dev)
  · exact Gives.onDev (f := trimsToFlash) rfl rfl
  · exact Gives.onDev (f := estCalibrate) rfl (estCalibrate_spec s.dev)
  · exact Gives.onDev (f := powerSample) rfl (powerSample_spec s.dev)
  · exact Gives.onDev (f := sustStep) rfl (sustStep_of_quiet h)
  · obtain ⟨harmed, hsteps, hreq⟩ := sustStep_up hs hunder hlow ha hc hr
    exact Gives.onDev (f := sustStep) rfl ⟨harmed.armed, harmed.heading, hsteps, hreq⟩
  · obtain ⟨hlow, hsteps⟩ := sustStep_down hs hover hb hc
    exact Gives.onDev (f := sustStep) rfl ⟨hlow.armed.armed, hlow.armed.heading, hsteps, hlow.request, hlow.count⟩
  · exact Gives.onDev (f := shortTermStep) rfl (shortTermStep_of_within h1 h2)
  · exact Gives.onDev (f := shortTermStep) rfl (shortTermStep_of_over h h5 h16)
  · exact Gives.onDev (f := shortTermStep) rfl (shortTermStep_of_under h1 h2 h15)
  · refine Gives.onDev (f := herdShareWrite agent data) rfl ?_
    rw [herdShareWrite_of_member ha hd hu hh]
    exact shareWritten_spec data s.dev
  · exact Gives.onDev (f := herdShareWrite agent data) rfl (herdShareWrite_of_alone ha hd hh)
  · exact Gives.guarded (f := trimAdjust f low high) rfl (decide_eq_true hf) (trimAdjust_of_kept h)
  · obtain ⟨hmoved, hkeep, hbound⟩ := trimAdjust_spec hf hw hr
    exact Gives.guarded (f := trimAdjust f low high) rfl (decide_eq_true hf)
      ⟨hmoved.trim, hmoved.tick, hmoved.flash, hmoved.shown, hkeep, hbound⟩
  · obtain ⟨hheat, hstate, hmax⟩ := thermalPoll_level rs s.dev
    obtain ⟨hsensor, hwarn, hduty, hopp, hhalt⟩ : _ ∧ _ ∧ _ ∧ _ ∧ _ := by simpa only [heatOf, Prod.mk.injEq] using hheat
    exact Gives.onDev (f := thermalPoll rs) rfl ⟨hsensor, hwarn, hduty, hopp, hhalt, hstate, hmax, thermalPoll_halts, thermalPoll_resumes⟩
  · exact Gives.guarded (f := thermalTimer 0) rfl rfl (thermalTimer_duty s.dev)
  · refine Gives.guarded (f := thermalTimer 1) rfl rfl ?_
    rw [thermalTimer_one]
    exact oppDown_while_spec 5 s.dev (s.dev.pwr.oppOn = true ∧ 412 ≤ (hottest s.dev).2)
  · exact Gives.guarded (f := thermalTimer 2) rfl rfl (thermalTimer_raise s.dev)
  · exact Gives.onDev (f := thermalTrip) rfl (thermalTrip_spec s.dev)
  · exact Gives.guarded (f := hbmHotStep m) rfl (decide_eq_true hm) (oppDown_while_spec 6 s.dev (mempHot s.dev m = true))

end Sys2Proof.Machine
